-- ==== Sys2Proof/Word.lean ====
section
/-! DEFINITION. The plain words of the block: bytes, 64 B lines, byte masks and the
index types of the parts the spec counts (Table 01-1). -/

namespace Sys2Proof

/-- One byte. -/
abbrev Byte := BitVec 8
/-- A line of 64 B (R49), byte 0 in the low bits (R9, little-endian). -/
abbrev Line := BitVec 512
/-- The byte enables of a line, bit n for byte n. -/
abbrev Mask := BitVec 64
/-- A head of this chip, H0 to H5. -/
abbrev HeadNo := Fin 6
/-- A head of the pair as the HEADS attribute numbers them (Table 02-2): 6 times the position plus the head. -/
abbrev PairHead := Fin 12
/-- A medium channel, CH00 to CH35. -/
abbrev ChanNo := Fin 36
/-- A stripe group, SG0 to SG3. -/
abbrev GroupNo := Fin 4
/-- An HBM pseudo-channel, PC0 to PC15. -/
abbrev PcNo := Fin 16
/-- A supervised rail channel, SQ00 to SQ15. -/
abbrev RailNo := Fin 16
/-- A processor core in the order of 14 R383: P0 to P3, M0 to M3, T0, T1, MG, SC. -/
abbrev CoreNo := Fin 12
/-- A ring port: 0 is RING_A, 1 is RING_B. -/
abbrev PortNo := Fin 2
/-- A key tag (Table 02-2). -/
abbrev Tag := BitVec 8
/-- A list sorted by its key, no key twice: the sparse tables of the block. -/
abbrev SMap (α : Type) := List (Nat × α)

end Sys2Proof
end

