-- ==== Sys2Proof/Syntax.lean ====
section
/-! DEFINITION. The commands the block takes from outside: one constructor per row of
spec/opcode_table.json, with the operands the spec's text gives the row, and the types of
those operands. -/

namespace Sys2Proof

/-- Who makes a dictionary access (R365): a ring address, the mailbox of a head, or the
control window of a head. -/
inductive Requester where
  | ring (addr : BitVec 48)
  | mailbox (h : HeadNo)
  | window (h : HeadNo)
  deriving DecidableEq, Repr

/-- The path on which an object command arrived (R57, R66): entry `slot` of the cue ring of
head `h`, the mailbox of head `h`, the dictionary entry OBJ_CMD of a requester, or the twin
link with its request tag. -/
inductive CmdPath where
  | cue (h : HeadNo) (slot : BitVec 8)
  | mailbox (h : HeadNo)
  | dict (r : Requester)
  | fwd (tag : Nat)
  deriving DecidableEq, Repr

/-- A command entry of 64 B (Table 02-5), byte 0 in the low bits. -/
abbrev CmdEntry := BitVec 512
/-- A result of 64 B (Table 02-6), byte 0 in the low bits. -/
abbrev CmdResult := BitVec 512

/-- Where a CXL.mem request came from: a head of this chip, the twin link with the request tag of
the FWD message that carried it, a head whose link has gone down since, so that the result is discarded
(R101), or a link that has gone down since or the device itself. -/
inductive ReqSrc where
  | head (h : HeadNo)
  | fwd (tag : Nat)
  | lost (h : HeadNo)
  | gone
  deriving DecidableEq, Repr

/-- A CXL.mem request after HDM decode (R46): `line` is the DPA divided by 64. -/
structure Req where
  src : ReqSrc := .head 0
  arrival : PairHead := 0
  write : Bool := false
  line : Nat := 0
  data : Line := 0
  mask : Mask := 0
  poison : Bool := false
  tag : BitVec 16 := 0
  metPoison : Bool := false
  deriving DecidableEq, Repr

/-- How a ring request is authenticated (13 R357): no AUTH flag; a tag that verifies under the
Operator or the Custodian key; a tag that verifies under neither. -/
inductive RingAuth where
  | none | operator | custodian | bad
  deriving DecidableEq, Repr

/-- The requester of a dictionary access and, on the ring, its authentication and the transfer
identifier it chose (Table 13-5). -/
structure Access where
  req : Requester := .mailbox 0
  auth : RingAuth := .none
  tid : BitVec 8 := 0
  deriving DecidableEq, Repr

/-- What an HBM access meets beside data (04 R109; 07 R204, R208): nothing; a parity error of
one tag array, or of both for a way of the set; a corrected burst; an uncorrectable burst of the copy read, or of
every copy; a command, address or data parity error that its retry clears, or that repeats; a failed lane
that remapping cannot repair (05 R137, R149); in an on-chip array, a corrected or a detected SEC-DED error, or a parity error of a
descriptor, route or move record cache (Table 07-1). -/
inductive HbmEvent where
  | ok | tagParity | tagBothParity (way : Fin 16) | corrected | uncorrectable | allUncorrectable | parityRetry | parityRepeat | laneFail
  | sramCorrected | sramDetected | cacheParity
  deriving DecidableEq, Repr

/-- What the pattern generator of a pseudo-channel drives (05 R146). -/
inductive Pattern where
  | prbs7 | prbs15 | fixed (word : BitVec 32)
  deriving DecidableEq, Repr

/-- One use of a pseudo-channel's pattern generator and compare block in training (05 R146): the pattern, the lanes on
which it is inverted, the first address, the bursts read back, and the MISR result that the stack returns. -/
structure PatRun where
  pc : PcNo := 0
  pattern : Pattern := .prbs15
  invert : BitVec 64 := 0
  addr : Nat := 0
  got : List (BitVec 256) := []
  misr : BitVec 64 := 0
  deriving DecidableEq, Repr

/-- What lies at the place of an HBM scrub read (Table 04-1, Table 07-2): the lines of a frame, of which the row names one; the state word of a frame; a
block of an area held twice (the dirty index, granule map, route map, object table, move records or merge table); the
written map word of a twin segment; the poison list or reel table; the dolly's staging of a segment; the assembly area of
a stripe operation; working memory of a core. -/
inductive HbmPlace where
  | lines (frame : Nat)
  | stateWord (frame : Nat)
  | twice (block : Nat)
  | writtenMap (seg : Nat)
  | lists (block : Nat)
  | staging (seg : Nat)
  | assembly (op : Nat)
  | coreMemory (k : CoreNo)
  deriving DecidableEq, Repr

/-- The outcome of a medium read's decode (07 R202): no error, a number of corrected bits, or
uncorrectable. -/
inductive Decode where
  | ok | corrected (bits : Nat) | uncorrectable
  deriving DecidableEq, Repr

/-- Commands sent to a medium module over GMI (Tables 06-8, 06-9). -/
inductive GmiOp where
  | nop
  | readLine (part unit line arg : Nat)
  | readUnit (part unit arg : Nat)
  | program (part unit : Nat) (mask : BitVec 16)
  | relocate (part unit : Nat)
  | setRef (die : Nat) (offsets : BitVec 40)
  | timebeat (minute : Nat)
  | regRead (reg : Nat)
  | regWrite (reg : Nat) (value : BitVec 32)
  | status
  | train (pattern : Nat)
  deriving DecidableEq, Repr

/-- A line that a burst returns: the header beat of the burst, [31:26] TAG, [25] DIE_ERR, [24:22] the drift bin applied,
[21:0] the unit's age in minutes, and the outcome of the line's decode (06 R183; 07 R202). -/
structure LineOut where
  hdr : BitVec 32 := 0
  out : Decode := .ok
  deriving DecidableEq, Repr

/-- What a STATUS command returns of a module's registers: ERR_STATUS, TEMP, MAX_WEAR, SPARES_LEFT (Table 06-11). -/
structure StatusIn where
  err : BitVec 5 := 0
  temp : BitVec 8 := 0
  wear : BitVec 32 := 0
  spares : BitVec 32 := 262144
  deriving DecidableEq, Repr

/-- Sample reads of a unit (06 R194): the corrected bits at its own bin, and at one bin above and below where there is one. -/
structure Sample where
  own : Nat
  above : Option Nat
  below : Option Nat
  deriving DecidableEq, Repr

/-- GROUP_STAMP of a module (Table 06-11); `blank` is the all-zero stamp. -/
inductive StampIn where
  | blank
  | stamp (chip : BitVec 64) (group member epoch : Nat) (check : BitVec 64)
  deriving DecidableEq, Repr

/-- States of an object (Table 02-3); FREE is absence from the table. -/
inductive ObjState where
  | active
  | destroying
  | unavailable
  deriving DecidableEq, Repr

/-- One object of the object table (R48, R50, Table 02-2). -/
structure Obj where
  /-- BASE as a twin granule number, 28 bits (02 R48). -/
  base : Nat := 0
  /-- Length in granules, 28 bits (02 R48). -/
  granules : Nat := 0
  /-- MIRROR (02 R52). -/
  mirror : Bool := false
  /-- BYPASS (02 R52). -/
  bypass : Bool := false
  /-- KEY_TAG (02 R55). -/
  keyTag : BitVec 8 := 0
  /-- Old tag of a KEY_TAG change in progress (12 R327). -/
  oldKeyTag : Option (BitVec 8) := none
  /-- Further old tags, of KEY_TAG changes that ended before they were complete (02 R58). -/
  olderTags : List (BitVec 8) := []
  /-- SCRUB of the command that last released lines of it (02 R60). -/
  scrub : Bool := false
  /-- A change of MIRROR to 1 is in progress (02 R55). -/
  mirrorBuild : Bool := false
  /-- SGROUP (02 R52). -/
  sgroup : BitVec 8 := 0xFF
  /-- HEADS mask (02 R53). -/
  heads : BitVec 12 := 0
  /-- USER_TAG (02 R52). -/
  userTag : BitVec 32 := 0
  /-- Object state (02 R56). -/
  state : ObjState := .active
  /-- Owned by this chip through a takeover or a handover although bit 20 names the other chip (09 R264). -/
  adopted : Bool := false
  /-- Owned by the other chip although bit 20 names this one (09 R268). -/
  handedOver : Bool := false
  deriving DecidableEq, Repr

/-- The header of a twin message (Table 09-3): request tag, the low 32 bits of the sender's
pair epoch, twin line number, arrival head, and the flags. -/
structure TwinHdr where
  tag : Nat := 0
  epoch : BitVec 32 := 0
  line : Nat := 0
  head : PairHead := 0
  poison : Bool := false
  final : Bool := false
  segment : Bool := false
  deriving DecidableEq, Repr

/-- The payload of HELLO (Table 09-4). -/
structure Hello where
  part : Nat := 0
  position : Bool := false
  owns : Bool := false
  wrapValid : Bool := false
  proto : Nat := 0
  serial : BitVec 64 := 0
  twin : BitVec 64 := 0
  epoch : Nat := 0
  witness : BitVec 48 := 0
  staleLen : Nat := 0
  deriving DecidableEq, Repr

/-- A witness frame (Table 09-6) whose tag has been checked. -/
structure WitFrame where
  type : Nat := 0
  drill : Bool := false
  linkDown : Bool := false
  relayed : Bool := false
  result : Nat := 0
  sender : BitVec 32 := 0
  seq : Nat := 0
  chip : BitVec 64 := 0
  peer : BitVec 64 := 0
  epoch : Nat := 0
  sentNs : Nat := 0
  deriving DecidableEq, Repr

/-- A change of a table kept identical on both chips (TABLE_UPDATE, Table 09-4; R51, R264). -/
inductive TableUpd where
  /-- The object table entry of an identifier; `none` frees it. -/
  | object (id : Nat) (o : Option Obj)
  /-- The copy of a granule: group and slot on the sending chip; `none` if released. -/
  | granule (gran : Nat) (slot : Option (Nat × Nat))
  /-- The route map bit of a granule: the position of its home. -/
  | route (gran : Nat) (home : Bool)
  /-- A media key slot: its key identity, 0 for an erased slot (12 R325, R327). -/
  | key (tag : Tag) (key : Nat)
  /-- A granule move opens whose target is the receiving chip: object, stripe group wanted (0x1F for
  any), new key tag, a home swap, and the segments that are pinned (R224). -/
  | openMove (gran obj group : Nat) (key : Tag) (swap : Bool) (pins : List Nat)
  /-- An open granule move ends at the receiving chip: committed, or released (R225, R239). -/
  | closeMove (gran : Nat) (commit : Bool)
  /-- The owner of an object by its position: ownership changes with a planned handover (R268). -/
  | owner (id : Nat) (position : Bool)
  /-- The segments of an open cross-chip move that its target has taken, sent at rejoin (R240, R270). -/
  | moveState (gran : Nat) (segs : List Nat)
  /-- The whole media key table, by tag and key identity, at formation and rejoin (R325). -/
  | keyTable (keys : List (Nat × Nat))
  /-- The chip in position 1 asks for the key of an EMPTY tag (R325). -/
  | wantKey (tag : Tag)
  /-- A key tag enters ERASING (R327). -/
  | eraseKey (tag : Tag)
  /-- Secure Erase, or Sanitize, runs on both chips (R328, R329). -/
  | secureErase (sanitize : Bool)
  /-- Secure Erase or Sanitize has ended on the sender (R328). -/
  | erased
  /-- A range of twin segments of which the other chip holds a copy or the home is zeroed, and with SCRUB overwritten
  (R60). -/
  | zero (first count : Nat) (tag : Tag) (scrub : Bool)
  /-- The slots that a group of the sender can allocate now (R435). -/
  | room (group slots : Nat)
  /-- A reel takes or drops its hold on a segment whose home is on the receiving chip (R69). -/
  | reelHold (seg : Nat) (take : Bool)
  /-- A segment that a reel of the receiving chip asked for is resident and held (R69). -/
  | reelKept (seg : Nat)
  /-- Every line of an object that the sender holds is rewritten under its new key (R55). -/
  | rekeyed (id : Nat)
  /-- The boot state of the sender (15 R399). -/
  | bootState (state : Nat)
  deriving DecidableEq, Repr

/-- An ADC input and its result (10 R277): a channel's SENSE or HOLDUP_SENSE as the 12-bit code of a
full scale of 1.600 V, or the die temperature sensor in degrees Celsius. -/
inductive AdcIn where
  | sense (n : RailNo) (code : BitVec 12)
  | holdup (code : BitVec 12)
  | die (celsius : Int)
  deriving DecidableEq, Repr

/-- Operations of the sealing engine (12 R334). -/
inductive SealOp where
  | gcmSeal | gcmOpen | kwWrap | kwUnwrap
  deriving DecidableEq, Repr

/-- Events that raise an alarm of the sealing engine (12 R337). -/
inductive SealEvent where
  | glitch | temperature | shield | datapath | parity
  deriving DecidableEq, Repr

/-- A frame as a ring port receives it (13 Tables 13-1 and 13-2), with what the MAC finds: whether its
EtherType is 0x88B5, whether its FCS holds, and whether it reaches a 129th byte. -/
structure RingFrame where
  dst : BitVec 48 := 0
  src : BitVec 48 := 0
  yelori : Bool := true
  fcsOk : Bool := true
  overlong : Bool := false
  hops : BitVec 8 := 31
  service : BitVec 8 := 0
  seq : BitVec 32 := 0
  boot : BitVec 16 := 0
  deriving DecidableEq, Repr

/-- How an access of the control window meets an entry (13 R372, R374): the one register of a value of
32 bits or fewer, the low or the high half of a pair, or a pair in one 64-bit access. -/
inductive WinPart where
  | word | low | high | pair
  deriving DecidableEq, Repr

/-- A location of the control window (03 Table 03-11): a register of a mapped entry, named by the entry
because its offset is the firmware's (13 R371), or any other location by its offset. -/
inductive WinReg where
  | entry (index : BitVec 16) (sub : BitVec 8) (part : WinPart)
  | reg (off : BitVec 20)
  deriving DecidableEq, Repr

/-- A register of a head's configuration space that the spec describes (03 R79, R97): Vendor ID and Device ID, a half
of the Device Serial Number, a half of BAR0, BAR2 or BAR4, and the GPF DVSEC. -/
inductive CfgReg where
  | ids
  | serial (high : Bool)
  | bar (k : Fin 3) (high : Bool)
  | gpf
  deriving DecidableEq, Repr

/-- What a DOE request asks (03 R77, R87): Table Access, or Discovery by its index. -/
inductive DoeQuery where
  | table
  | discovery (index : BitVec 8)
  deriving DecidableEq, Repr

/-- A DOE request for the CDAT or for Discovery: the head and what it asks. -/
structure DoeRequest where
  head : HeadNo
  query : DoeQuery
  deriving DecidableEq, Repr

/-- The end of a head's background operation; of a Scan Media with the lines that its reads found uncorrectable (07
R219). -/
structure BgEnd where
  head : HeadNo
  bad : List Nat := []
  deriving DecidableEq, Repr

/-- A stripe operation that reads old units, and of their lines (by member and line) those that did not decode without error
(06 R166). -/
structure OldUnits where
  op : Nat
  found : List (Fin 9 × Fin 16 × Decode) := []
  deriving DecidableEq, Repr

/-- What HBM training measured, and the runs of the pattern generators (05 R146 to R148). -/
structure TrainFound where
  margins : Vector Nat 16
  runs : List PatRun := []
  deriving DecidableEq, Repr

/-- An access of the control window that no other row describes (00 R12, R13; 02 R64; 13 R372): a write or a read
of a register or of a mapped entry, 32 bits or a pair, a write or a read of any other size at an offset;
and a write or a read of 32 bits of the head's configuration space (03 R79). The value of a 32-bit write stands beside
it. -/
inductive WinAccess where
  | write (r : WinReg)
  | writeBytes (off : BitVec 20) (bytes : List Byte)
  | read (r : WinReg)
  | readBytes (off : BitVec 20) (n : Nat)
  | configWrite (r : CfgReg)
  | configRead (r : CfgReg)
  deriving DecidableEq, Repr

/-- Actions of Transfer FW (15 R398). -/
inductive FwAction where
  | initiate | continue | finish | abort | full
  deriving DecidableEq, Repr

/-- Logs that Get Log can name (03 Table 03-6). -/
inductive MboxLog where
  | effects | vendor | other
  deriving DecidableEq, Repr

/-- The commands: one constructor per row of spec/opcode_table.json, in its order. -/
inductive Instr where
  /-- HOST_READ (R23). A CXL.mem read request taken whole at a head is decoded, checked and served from HBM, zeros, the medium or the partner. Operands: the head, the host physical address, the host's tag, whether the MAC verified, and what the HBM access meets. -/
  | hostRead (h : HeadNo) (hpa : BitVec 64) (tag : BitVec 16) (ideOk : Bool) (ev : HbmEvent)
  /-- HOST_WRITE (R26). A CXL.mem write request taken whole at a head passes dirty-budget admission, is placed twice and acknowledged (mirrored writes under R28). Operands: as HOST_READ, with data, byte enables and poison. -/
  | hostWrite (h : HeadNo) (hpa : BitVec 64) (tag : BitVec 16) (data : Line) (mask : Mask) (poison ideOk : Bool) (ev : HbmEvent)
  /-- HOLD_EXPIRED (R41). A request held for a failed home reaches its 1 ms hold limit and completes with poison, or is acknowledged with a poison record. Operands: whether it is a mirrored write that waits for its commit, and its place in that queue or the hold queue. -/
  | holdExpired (mirror : Bool) (n : Nat)
  /-- REFCLK_LOST (R21). The clock monitor sees no REFCLK edge for 1 us, or PLL loss of lock, and the device starts a clock-loss wrap. -/
  | refclkLost
  /-- CORE_STOPPED (R17). A processor core stops, and its work passes to siblings or waits as Table 01-3 gives. Operands: the core, numbered in the order of CORE_STATE. -/
  | coreStopped (k : CoreNo)
  /-- CORE_RESTARTED (R17). The gaffer restarts MG or SC within 50 ms, and the functions that stopped with the core resume. Operands: the core, and whether it restarted; a restart that failed counts toward its retirement. -/
  | coreRestarted (k : CoreNo) (ok : Bool)
  /-- GAFFER_WATCHDOG (R295). The always-on watchdog expires and runs a wrap of cause gaffer fault from the hardware copy of SQ_CONFIG. -/
  | gafferWatchdog
  /-- CREATE (R59). An object command that checks fields, pair, range, capacity and index, and creates an ACTIVE object that reads zero. Operands: the path and the command entry. -/
  | create (path : CmdPath) (entry : CmdEntry)
  /-- DESTROY (R56). An object command that unmaps the object at one point and releases its granules, reels, pins and dirty lines. Operands: the path and the command entry. -/
  | destroy (path : CmdPath) (entry : CmdEntry)
  /-- DESTROY_RELEASE_DONE (R60). The release of a destroyed object's granules, reels, pins and dirty lines completes, and the object becomes FREE. Operands: the object identifier. -/
  | destroyReleaseDone (obj : Nat)
  /-- SET_ATTR (R55). An object command that changes BYPASS, KEY_TAG, HEADS, USER_TAG or MIRROR, carrying key and mirror changes through the dolly. Operands: the path and the command entry. -/
  | setAttr (path : CmdPath) (entry : CmdEntry)
  /-- QUERY (R58). An object command that returns an object's attributes and state, optionally found by USER_TAG. Operands: the path and the command entry. -/
  | query (path : CmdPath) (entry : CmdEntry)
  /-- RESIZE (R435). An object command that grows or shrinks an object after range, pair, overlap and capacity checks. Operands: the path and the command entry. -/
  | resize (path : CmdPath) (entry : CmdEntry)
  /-- MOVE (R223). An object command that moves the home of a widened range of segments to another group or chip. Operands: the path and the command entry. -/
  | move (path : CmdPath) (entry : CmdEntry)
  /-- PIN (R131). An object command that reserves PIN frames for a range and moves its segments into the pin pool. Operands: the path and the command entry. -/
  | pin (path : CmdPath) (entry : CmdEntry)
  /-- UNPIN (R235). An object command that moves pinned segments of a range back to ordinary frames and frees their PIN frames. Operands: the path and the command entry. -/
  | unpin (path : CmdPath) (entry : CmdEntry)
  /-- PROMOTE (R111). An object command that makes every written line of a range resident in HBM, skipping segments whose set has no way. Operands: the path and the command entry. -/
  | promote (path : CmdPath) (entry : CmdEntry)
  /-- EVICT (R132). An object command that writes back and releases the unpinned segments of a range. Operands: the path and the command entry. -/
  | evict (path : CmdPath) (entry : CmdEntry)
  /-- ZERO (R61). An object command that makes every line of a range read zero and clears its poison records. Operands: the path and the command entry. -/
  | zero (path : CmdPath) (entry : CmdEntry)
  /-- REEL_OPEN (R70). An object command that opens a reel over an object and starts prefetching its first window. Operands: the path and the command entry. -/
  | reelOpen (path : CmdPath) (entry : CmdEntry)
  /-- REEL_JOIN (R71). An object command that adds a reader to a reel at the reel's minimum cursor. Operands: the path and the command entry. -/
  | reelJoin (path : CmdPath) (entry : CmdEntry)
  /-- REEL_ADVANCE (R71). An object command that moves a reader's cursor forward and shifts the resident window. Operands: the path and the command entry. -/
  | reelAdvance (path : CmdPath) (entry : CmdEntry)
  /-- REEL_LEAVE (R72). An object command that removes a reader and closes the reel when it was the last. Operands: the path and the command entry. -/
  | reelLeave (path : CmdPath) (entry : CmdEntry)
  /-- REEL_STALL_TIMEOUT (R71). A reader that has not advanced for REEL_STALL_TIMEOUT is removed, and the minimum cursor may rise. Operands: the reel and the reader. -/
  | reelStallTimeout (reel reader : Nat)
  /-- REEL_PREFETCH (R69). The device prefetches a position of a reel window into HBM and holds it there. Operands: the reel and the position. -/
  | reelPrefetch (reel pos : Nat)
  /-- COMMAND_UNREACHABLE_TIMEOUT (R57). A command for an owning chip that cannot be reached within 1 ms returns RETRY. Operands: the command in flight. -/
  | commandUnreachableTimeout (cmd : Nat)
  /-- COMMAND_RESULT_WRITTEN (R67). A command completes, and its result is written into the cue ring entry with byte 63 last, or into its mailbox or dictionary result. Operands: the command in flight. -/
  | commandResultWritten (cmd : Nat)
  /-- CUE_TAIL (R65). A doorbell write to CUE_TAIL makes the device read and start the entries from HEAD up to TAIL in order. Operands: the head and the TAIL written. -/
  | cueTail (h : HeadNo) (tail : BitVec 8)
  /-- CUE_RESET (R68). A write of RESET in CUE_CTRL stops reading entries and waits for the commands in flight. Operands: the head. -/
  | cueReset (h : HeadNo)
  /-- CUE_RESET_DONE (R68). Once every command in flight has completed, HEAD, TAIL and EXP_PHASE are reset and RESET_BUSY clears. Operands: the head. -/
  | cueResetDone (h : HeadNo)
  /-- CUE_COALESCE_EXPIRED (R64). The coalescing delay after the first unsignalled result expires, and the cue ring MSI-X vector is raised. Operands: the head. -/
  | cueCoalesceExpired (h : HeadNo)
  /-- OBJ_CMD (R370). A write of a command entry to the dictionary entry OBJ_CMD starts an object command for that requester. Operands: requester and command entry written. -/
  | objCmd (a : Access) (entry : CmdEntry)
  /-- PERST_ASSERT (R101). PERST_N asserts at a head, which stops accepting requests and resets its configuration, decoders, IDE stream and mailbox state. Operands: the head. -/
  | perstAssert (h : HeadNo)
  /-- PERST_DEASSERT (R80). PERST_N deasserts, and the head starts link training. Operands: the head. -/
  | perstDeassert (h : HeadNo)
  /-- HEAD_LINK_UP (R80). A head completes training at the negotiated rate, width and flit mode. Operands: the head, and rate, width and flit mode as LINK_STAT encodes them. -/
  | headLinkUp (h : HeadNo) (rate width : Fin 4) (flit256 : Bool)
  /-- HEAD_LINK_DOWN (R101). A head's link goes down, and the head completes its held requests internally and discards their results. Operands: the head. -/
  | headLinkDown (h : HeadNo)
  /-- RECOVERY_TIMEOUT (R81). The link has stayed in Recovery for 2 ms, and the head takes it down. Operands: the head. -/
  | recoveryTimeout (h : HeadNo)
  /-- L0_STABILITY_TIMEOUT (R81). 1.9 ms pass without 100 us of unbroken L0, and the head takes the link down. Operands: the head. -/
  | l0StabilityTimeout (h : HeadNo)
  /-- HDM_COMMIT (R83). A commit of an HDM decoder succeeds, or fails with Error Not Committed on bad interleave or range. Operands: the head, the decoder, and its register values; ways 0 is one way. -/
  | hdmCommit (h : HeadNo) (k : Fin 4) (base size dpa : BitVec 64) (ways gran : BitVec 4) (lock : Bool)
  /-- CDAT_READ (R87). A DOE Table Access request returns the head's CDAT. Operands: the head, and whether the DOE request is Table Access or Discovery. -/
  | cdatRead (r : DoeRequest)
  /-- GPF_PHASE_1 (R97). GPF Phase 1 is completed at once with no action. -/
  | gpfPhase1
  /-- GPF_PHASE_2 (R97). GPF Phase 2 is completed at once with no action. -/
  | gpfPhase2
  /-- IDENTIFY (R88). The mailbox command Identify returns the device identity. Operands: the head. -/
  | identify (h : HeadNo)
  /-- BACKGROUND_OPERATION_STATUS (R88). The mailbox command returns the percentage complete of the head's background operation. Operands: the head. -/
  | backgroundOperationStatus (h : HeadNo)
  /-- GET_RESPONSE_MESSAGE_LIMIT (R88). The mailbox command returns the response message limit. Operands: the head. -/
  | getResponseMessageLimit (h : HeadNo)
  /-- SET_RESPONSE_MESSAGE_LIMIT (R88). The mailbox command sets the response message limit. Operands: the head and the limit. -/
  | setResponseMessageLimit (h : HeadNo) (limit : BitVec 8)
  /-- REQUEST_ABORT_BACKGROUND_OPERATION (R88). The mailbox command is not supported and returns Unsupported. Operands: the head. -/
  | requestAbortBackgroundOperation (h : HeadNo)
  /-- GET_EVENT_RECORDS (R94). The mailbox command returns records from one of the head's event logs. Operands: the head and the log, 0 Informational to 4 Dynamic Capacity. -/
  | getEventRecords (h : HeadNo) (log : Nat)
  /-- CLEAR_EVENT_RECORDS (R94). The mailbox command clears records from one of the head's event logs. Operands: the head, the log, the Clear All Events flag, and the handles. -/
  | clearEventRecords (h : HeadNo) (log : Nat) (all : Bool) (handles : List Nat)
  /-- GET_EVENT_INTERRUPT_POLICY (R96). The mailbox command returns the event interrupt policy. Operands: the head. -/
  | getEventInterruptPolicy (h : HeadNo)
  /-- SET_EVENT_INTERRUPT_POLICY (R96). The mailbox command selects which event logs raise MSI-X vector 1. Operands: the head, and for each log the interrupt mode: 0 none, 1 MSI-X, 2 firmware. -/
  | setEventInterruptPolicy (h : HeadNo) (modes : Vector (Fin 4) 5)
  /-- GET_FW_INFO (R88). The mailbox command returns information on the two firmware slots. Operands: the head. -/
  | getFwInfo (h : HeadNo)
  /-- TRANSFER_FW (R398). The mailbox command loads one piece of a firmware image into the target slot in order, as a background operation. Operands: the head, the action, the slot (1 FW_A, 2 FW_B), the offset in units of 128 B, the data, and whether the header's signature verifies. -/
  | transferFw (h : HeadNo) (action : FwAction) (slot off : Nat) (data : List Byte) (sigOk : Bool)
  /-- ACTIVATE_FW (R399). The mailbox command makes a verified image PENDING for the next cold reset. Operands: the head, whether activation is asked online, and the slot (1 FW_A, 2 FW_B). -/
  | activateFw (h : HeadNo) (online : Bool) (slot : Nat)
  /-- GET_TIMESTAMP (R20). The mailbox command returns the device timestamp. Operands: the head. -/
  | getTimestamp (h : HeadNo)
  /-- SET_TIMESTAMP (R20). The mailbox command sets the timestamp offset, copies it to the twin and, at the first set after start-up, advances the medium minute count. Operands: the head and the timestamp in ns. -/
  | setTimestamp (h : HeadNo) (value : BitVec 64)
  /-- GET_SUPPORTED_LOGS (R88). The mailbox command lists the Command Effects Log and the vendor log. Operands: the head. -/
  | getSupportedLogs (h : HeadNo)
  /-- GET_LOG (R88). The mailbox command returns a supported log. Operands: the head, the log, the offset and the length. -/
  | getLog (h : HeadNo) (log : MboxLog) (off len : Nat)
  /-- IDENTIFY_MEMORY_DEVICE (R88). The mailbox command returns the memory device identity, the LSA size and the poison list size. Operands: the head. -/
  | identifyMemoryDevice (h : HeadNo)
  /-- GET_PARTITION_INFO (R86). The mailbox command reports the scratch size as volatile-only capacity. Operands: the head. -/
  | getPartitionInfo (h : HeadNo)
  /-- SET_PARTITION_INFO (R88). The mailbox command is not supported. Operands: the head. -/
  | setPartitionInfo (h : HeadNo)
  /-- GET_LSA (R88). The mailbox command reads the head's label storage area from the ledger. Operands: the head, the offset and the length. -/
  | getLsa (h : HeadNo) (off len : Nat)
  /-- SET_LSA (R88). The mailbox command writes the head's label storage area durably in the ledger. Operands: the head, the offset and the data. -/
  | setLsa (h : HeadNo) (off : Nat) (data : List Byte)
  /-- GET_HEALTH_INFO (R98). The mailbox command returns the Dirty Shutdown Count, life used and error counts. Operands: the head. -/
  | getHealthInfo (h : HeadNo)
  /-- GET_ALERT_CONFIGURATION (R207). The mailbox command returns the alert thresholds. Operands: the head. -/
  | getAlertConfiguration (h : HeadNo)
  /-- SET_ALERT_CONFIGURATION (R207). The mailbox command sets the life used, temperature and corrected-error thresholds. Operands: the head; which alerts are set (life used, over-temperature, under-temperature, volatile and persistent corrected errors) and which of them are enabled; and the thresholds. -/
  | setAlertConfiguration (h : HeadNo) (valid enable : BitVec 5) (life : Nat) (temp : Int) (volatileCe persistentCe : Nat)
  /-- GET_SHUTDOWN_STATE (R98). The mailbox command returns the stored shutdown state. Operands: the head. -/
  | getShutdownState (h : HeadNo)
  /-- SET_SHUTDOWN_STATE (R98). The mailbox command stores the shutdown state in the ledger without changing the Dirty Shutdown Count. Operands: the head and the state. -/
  | setShutdownState (h : HeadNo) (v : BitVec 8)
  /-- GET_POISON_LIST (R216). The mailbox command returns the chip's poison records in the requested range. Operands: the head, and the range as a DPA and a length in units of 64 B. -/
  | getPoisonList (h : HeadNo) (dpa len : Nat)
  /-- INJECT_POISON (R93). The mailbox command places a persistent poison mark on a line of a twin half. Operands: the head and the DPA. -/
  | injectPoison (h : HeadNo) (dpa : Nat)
  /-- CLEAR_POISON (R215). The mailbox command writes the supplied 64 B and clears the line's poison record. Operands: the head, the DPA and the 64 B. -/
  | clearPoison (h : HeadNo) (dpa : Nat) (data : Line)
  /-- GET_SCAN_MEDIA_CAPABILITIES (R219). The mailbox command estimates the Scan Media time for a range. Operands: the head, and the range as a DPA and a length in units of 64 B. -/
  | getScanMediaCapabilities (h : HeadNo) (dpa len : Nat)
  /-- SCAN_MEDIA (R219). The mailbox command starts a background scan of the written lines of a range. Operands: the head, and the range as a DPA and a length in units of 64 B. -/
  | scanMedia (h : HeadNo) (dpa len : Nat)
  /-- GET_SCAN_MEDIA_RESULTS (R219). The mailbox command returns the marked lines that the scan found. Operands: the head. -/
  | getScanMediaResults (h : HeadNo)
  /-- SANITIZE (R329). The mailbox command performs Secure Erase and then overwrites every medium member and every pseudo-channel in the background. Operands: the head. -/
  | sanitize (h : HeadNo)
  /-- SECURE_ERASE (R328). The mailbox command frees every object, discards dirty lines, empties the poison list and erases every media key. Operands: the head. -/
  | secureErase (h : HeadNo)
  /-- GET_SECURITY_STATE (R343). The mailbox command returns the security state bits. Operands: the head. -/
  | getSecurityState (h : HeadNo)
  /-- SET_PASSPHRASE (R344). The mailbox command sets or changes a passphrase and wraps every media key again. Operands: the head, the passphrase it is, the current one and the new one. -/
  | setPassphrase (h : HeadNo) (master : Bool) (current new : BitVec 256)
  /-- DISABLE_PASSPHRASE (R344). The mailbox command removes the user passphrase wrap or the master passphrase. Operands: the head, the passphrase it is, and the current one. -/
  | disablePassphrase (h : HeadNo) (master : Bool) (current : BitVec 256)
  /-- UNLOCK (R345). The mailbox command loads the passphrase KEK and the media keys, ending the lock. Operands: the head and the user passphrase. -/
  | unlock (h : HeadNo) (current : BitVec 256)
  /-- FREEZE_SECURITY_STATE (R344). The mailbox command refuses passphrase commands, Secure Erase and Sanitize until the next device reset. Operands: the head. -/
  | freezeSecurityState (h : HeadNo)
  /-- PASSPHRASE_SECURE_ERASE (R344). The mailbox command performs Secure Erase and removes the user passphrase. Operands: the head, the passphrase it is, and the current one. -/
  | passphraseSecureErase (h : HeadNo) (master : Bool) (current : BitVec 256)
  /-- GET_DYNAMIC_CAPACITY_CONFIGURATION (R84). The mailbox command returns the eight Dynamic Capacity regions. Operands: the head. -/
  | getDynamicCapacityConfiguration (h : HeadNo)
  /-- GET_DYNAMIC_CAPACITY_EXTENT_LIST (R85). The mailbox command returns the head's accepted extents. Operands: the head. -/
  | getDynamicCapacityExtentList (h : HeadNo)
  /-- ADD_DYNAMIC_CAPACITY_RESPONSE (R85). The host accepts an offered extent. Operands: the head, and the regions whose offered extents the host accepts; it refuses the others. -/
  | addDynamicCapacityResponse (h : HeadNo) (regions : BitVec 8)
  /-- RELEASE_DYNAMIC_CAPACITY (R85). The host releases an extent, or answers a release that the device started. Operands: the head, and the regions whose extents the host releases. -/
  | releaseDynamicCapacity (h : HeadNo) (regions : BitVec 8)
  /-- GET_OLIENO_INFO (R90). Vendor opcode 0xC000 returns the part, head, pair bits, mailbox level and serial numbers. Operands: the head and the input payload. -/
  | getOlienoInfo (h : HeadNo) (input : List Byte)
  /-- DICTIONARY_READ (R91). Vendor opcode 0xC001 reads a dictionary entry at the head's mailbox level. Operands: the head and the input payload. -/
  | dictionaryRead (h : HeadNo) (input : List Byte)
  /-- DICTIONARY_WRITE (R91). Vendor opcode 0xC002 writes a dictionary entry, or a piece of a DOMAIN entry, at the head's mailbox level. Operands: the head, the input payload, and whether a signature in the data verifies. -/
  | dictionaryWrite (h : HeadNo) (input : List Byte) (sigOk : Bool)
  /-- OBJECT_COMMAND (R92). Vendor opcode 0xC010 runs an object command synchronously or as a background operation. Operands: the head and the input payload. -/
  | objectCommand (h : HeadNo) (input : List Byte)
  /-- GET_OBJECT_COMMAND_RESULT (R92). Vendor opcode 0xC011 returns the result of the last background 0xC010. Operands: the head and the input payload. -/
  | getObjectCommandResult (h : HeadNo) (input : List Byte)
  /-- MAILBOX_UNSUPPORTED_OPCODE (R90). A mailbox opcode that is not defined returns Unsupported. Operands: the head and the opcode. -/
  | mailboxUnsupportedOpcode (h : HeadNo) (opcode : BitVec 16)
  /-- BACKGROUND_OP_COMPLETE (R88). A head's background operation completes, and MSI-X vector 0 is raised. Operands: the head, and for Scan Media the lines that its reads found uncorrectable. -/
  | backgroundOpComplete (e : BgEnd)
  /-- IDE_KM_QUERY (R330). The IDE_KM QUERY message is answered over the secured SPDM session. Operands: the head. -/
  | ideKmQuery (h : HeadNo)
  /-- KEY_PROG (R330). The IDE_KM message programs a key set into the head's IDE engine. Operands: the head, the direction, and the key set, true for K1. -/
  | keyProg (h : HeadNo) (tx k1 : Bool)
  /-- KEY_SET_GO (R330). The IDE_KM message activates a programmed key set. Operands: the head, the direction, the key set, and the mode, true for skid. -/
  | keySetGo (h : HeadNo) (tx k1 skid : Bool)
  /-- KEY_SET_STOP (R330). The IDE_KM message stops a key set. Operands: the head, the direction and the key set. -/
  | keySetStop (h : HeadNo) (tx k1 : Bool)
  /-- IDE_REKEY_DUE (R332). An IDE invocation counter reaches 2^48 - 2^40, and the head raises "IDE rekey due". Operands: the head and the direction. -/
  | ideRekeyDue (h : HeadNo) (tx : Bool)
  /-- IDE_COUNTER_EXHAUSTED (R332). An IDE invocation counter reaches 2^48, the stream becomes Insecure and the link goes down. Operands: the head and the direction. -/
  | ideCounterExhausted (h : HeadNo) (tx : Bool)
  /-- NONCE_UNCERTAIN (R333). A counter whose next value cannot be vouched for stops the stream as at the hard stop. Operands: the head whose IDE stream it is, or none for the twin link. -/
  | nonceUncertain (h : Option HeadNo)
  /-- FILL_COMPLETE (R112). Medium data of a fill arrives and is placed in its pending sector, or merged with a partial write, or discarded. Operands: the twin line of the fill. -/
  | fillComplete (line : Nat)
  /-- DESCRIPTOR_MISS_DONE (R133). A descriptor miss is served from the granule map and object table, and the descriptor replaces the least recently used entry. Operands: the object identifier. -/
  | descriptorMissDone (obj : Nat)
  /-- BACKGROUND_EVICT (R114). The device starts eviction of CLEAN frames to keep 8,192 FREE frames per pseudo-channel. Operands: the CLEAN frame. -/
  | backgroundEvict (frame : Nat)
  /-- EVICT_COMMIT (R114). Once no request refers to an EVICTING frame, its tag is cleared and it becomes FREE. Operands: the EVICTING frame. -/
  | evictCommit (frame : Nat)
  /-- WRITE_BACK_START (R126). Write-back selects a stripe in the order of R126, snapshots its lines and hands the units to the write scheduler. Operands: the stripe, and whether the device fills missing lines from the medium where R127 lets it. -/
  | writeBackStart (group : GroupNo) (stripe : Nat) (fill : Bool)
  /-- WRITE_BACK_RELEASE (R128). Every program of a stripe is confirmed, and lines whose WB bit is still set leave the dirty total and their frames. Operands: the stripe operation whose programs are confirmed. -/
  | writeBackRelease (op : Nat)
  /-- WAYS_SCRATCH (R130). A write of WAYS_SCRATCH starts a change of the scratch ways, or is refused with STATE_CONFLICT. Operands: requester and value written. -/
  | waysScratch (a : Access) (v : BitVec 8)
  /-- WAYS_PIN (R130). A write of WAYS_PIN starts a change of the pin ways, or is refused with STATE_CONFLICT. Operands: requester and value written. -/
  | waysPin (a : Access) (v : BitVec 8)
  /-- WAY_CHANGE_DONE (R130). A way lock or unlock completes once U is within the new W, and a scratch change raises its record. -/
  | wayChangeDone
  /-- HBM_TRAIN_DONE (R148). HBM training ends on all pseudo-channels, and the device keeps the spare, retires one channel or stops. Operands: the failed step of each pseudo-channel or 0, what training measured, and what the pattern generators and compare blocks were used for. -/
  | hbmTrainDone (failed : Vector (Fin 9) 16) (found : TrainFound)
  /-- RETIRE_CMD (R154). A write of a pseudo-channel number to RETIRE_CMD retires it, marks the spare failed or is refused. Operands: requester and value written. -/
  | retireCmd (a : Access) (v : BitVec 8)
  /-- RETIRE_SETTLED (R150). Commands issued to the failing pseudo-channel complete or are abandoned, the index is rebound to the spare and the hold is released. -/
  | retireSettled
  /-- RETIRE_REBUILD_DONE (R150). The rebuild of the spare completes, the binding is recorded and the DRAM event record is raised. -/
  | retireRebuildDone
  /-- SPARE_TEST (R154). The daily test of the unused spare runs, and a failing spare is marked failed. Operands: the outcome of the test. -/
  | spareTest (pass : Bool)
  /-- REFRESH_DUE (R145). A bank's refresh interval expires, and its refresh is owed or issued, becoming class 0 at 8 owed. Operands: the bank, by its stack ID and its number there. -/
  | refreshDue (pc : PcNo) (stack : Fin 2) (bank : Fin 16)
  /-- STACK_TEMP_READ (R144). The controller reads the stack temperature every 1 ms and sets the refresh interval. Operands: the stack temperature. -/
  | stackTempRead (temp : Int)
  /-- HBM_SCRUB (R213). HBM patrol scrub reads each in-service burst once per HBM_SCRUB_PERIOD at class 4. Operands: the place read, the line of it where it is a frame's, and what the decoder found. -/
  | hbmScrub (place : HbmPlace) (n : Fin 64) (ev : HbmEvent)
  /-- MEDIUM_READ_DISPATCH (R172). A medium read miss is dispatched once its channel has queue and die room. Operands: the twin line. -/
  | mediumReadDispatch (line : Nat)
  /-- MEDIUM_LINE_RETURNED (R183). A READ_LINE or READ_UNIT burst returns, is decoded and deciphered and handed to the cache pipeline. Operands: the line, and what its read returned from each member of the stripe group; the members that were not read count for nothing. -/
  | mediumLineReturned (line : Nat) (outs : Vector LineOut 9)
  /-- RECOVERY_ENTRY_WAIT (R210). A recovery that found all 256 entries busy starts when an entry frees. Operands: the twin line. -/
  | recoveryEntryWait (line : Nat)
  /-- STRIPE_UPDATE_START (R166). A stripe update obtains its row reservation and reads old units where needed. Operands: the stripe operation, and of the lines of the old units it reads (by member and line) those that did not decode without error. -/
  | stripeUpdateStart (old : OldUnits)
  /-- PROGRAM_START (R168). A PROGRAM or RELOCATE starts on a partition once its row, bus, die and group conditions hold. Operands: the stripe operation. -/
  | programStart (op : Nat)
  /-- PROGRAM_DONE (R184). A program-done completion token ends the partition's busy state and advances or releases the stripe operation. Operands: the token's channel, PART and WEAR. -/
  | programDone (ch : ChanNo) (part : Nat) (wear : Bool)
  /-- PROGRAM_FAILED (R185). A program-failed token makes the device reissue the PROGRAM once, or make the module MISSING on a second failure. Operands: the token's channel and PART. -/
  | programFailed (ch : ChanNo) (part : Nat)
  /-- RELOCATE_DONE (R191). A relocate-done token ends a wear relocation. Operands: the token's channel and PART. -/
  | relocateDone (ch : ChanNo) (part : Nat)
  /-- TOKEN_ALERT (R184). A completion token of kind alert arrives from the module. Operands: the channel and what STATUS returns. -/
  | tokenAlert (ch : ChanNo) (st : StatusIn)
  /-- TOKEN_MISSING (R185). No token arrives within 2,500 ns of a program or 6,000 ns of a relocate, and the module becomes MISSING. Operands: the channel and the busy partition. -/
  | tokenMissing (ch : ChanNo) (part : Nat)
  /-- MODULE_ALERT (R182). A module asserts ALERT_N on a CA parity error, and the device reissues the command once. Operands: the channel, what STATUS returns, and the command frame that met a CA parity error. -/
  | moduleAlert (ch : ChanNo) (st : StatusIn) (cmd : GmiOp)
  /-- READ_HEADER_MISSING (R187). A read returns no valid header beat; after four in a row the member becomes MISSING. Operands: the channel and the twin line read. -/
  | readHeaderMissing (ch : ChanNo) (line : Nat)
  /-- MODULE_SEATED (R436). MODnn_PRSNT_N goes low on a channel. -/
  | moduleSeated (ch : ChanNo)
  /-- PRESENCE_STABLE (R436). PRSNT_N has been low for 100 ms, and the channel enters POWERING and raises PWREN. -/
  | presenceStable (ch : ChanNo)
  /-- MODULE_UNSEATED (R187). MODnn_PRSNT_N goes high, and a SAFE, MISSING or FAILED channel returns to ABSENT. -/
  | moduleUnseated (ch : ChanNo)
  /-- PRESENCE_LOST_TIMEOUT (R187). PRSNT_N has been high for 10 us on a member, which becomes MISSING. -/
  | presenceLostTimeout (ch : ChanNo)
  /-- PWRGD_STABLE (R436). MODnn_PWRGD has been high for 10 ms, and the channel enters TRAINING. -/
  | pwrgdStable (ch : ChanNo)
  /-- PWRGD_TIMEOUT (R436). PWRGD has not risen within 100 ms of PWREN, and the channel becomes FAILED. -/
  | pwrgdTimeout (ch : ChanNo)
  /-- PWRGD_FALL (R187). MODnn_PWRGD falls, making a member MISSING or a TRAINING or READY channel FAILED. -/
  | pwrgdFall (ch : ChanNo)
  /-- GMI_TRAIN_DONE (R188). A channel finishes GMI training, and the stamp check makes it a MEMBER or READY and may start a rebuild. Operands: what the module's registers read, and the eyes and lane that training measured. -/
  | gmiTrainDone (ch : ChanNo) (vendor geometry units : BitVec 32) (serial : BitVec 64) (rev : BitVec 32) (st : StatusIn) (stamp : StampIn) (margin : BitVec 56)
  /-- GMI_TRAIN_FAILED (R187). A step of GMI training fails, and the channel becomes FAILED. Operands: the step that failed. -/
  | gmiTrainFailed (ch : ChanNo) (step : Nat)
  /-- RETRAIN_START (R189). DQS tracking error or token parity failure starts a retrain, and the group becomes RETRAINING. -/
  | retrainStart (ch : ChanNo)
  /-- RETRAIN_DONE (R189). A retrain passes, and the group leaves RETRAINING. -/
  | retrainDone (ch : ChanNo)
  /-- RETRAIN_TIMEOUT (R189). A retrain has not passed within 200 ms, and the member becomes MISSING. -/
  | retrainTimeout (ch : ChanNo)
  /-- ATTN_HOLD (R190). MODnn_ATTN_N has been held low for 500 ms, which requests removal of the module. -/
  | attnHold (ch : ChanNo)
  /-- MED_REMOVE (R190). A write of a channel number to MED_REMOVE requests removal, which is accepted or refused. Operands: requester and value written. -/
  | medRemove (a : Access) (v : BitVec 8)
  /-- REMOVAL_SAFE (R190). Every token due from a removed module has arrived, and the channel enters SAFE. -/
  | removalSafe (ch : ChanNo)
  /-- REMOVE_REFUSED_BLINK_END (R190). The 3 s refusal blink of the module LED ends. -/
  | removeRefusedBlinkEnd (ch : ChanNo)
  /-- REBUILD_DONE (R178). The rebuild of a replacement member completes, its stamp is written and the group becomes HEALTHY. -/
  | rebuildDone (group : GroupNo)
  /-- SG_INIT (R180). A Custodian write of SG_INIT discards a FAILED or EMPTY group's contents and starts its initialisation. Operands: requester and value written. -/
  | sgInit (a : Access) (v : BitVec 8)
  /-- GROUP_INIT_DONE (R405). Initialisation of a group ends, and the group becomes HEALTHY. -/
  | groupInitDone (group : GroupNo)
  /-- WEAR_RELOCATION (R191). Within 1 s of a token with WEAR set, the media core issues RELOCATE for the unit. Operands: the unit whose token had WEAR set. -/
  | wearRelocation (ch : ChanNo) (part unit : Nat)
  /-- MINUTE_TICK (R193). At each whole minute the device sends TIMEBEAT to every module and writes the minute record. -/
  | minuteTick
  /-- DRIFT_REFRESH (R195). A unit flagged by scrub for corrected bits or age is rewritten unchanged as a one-program operation. Operands: the unit flagged by scrub. -/
  | driftRefresh (ch : ChanNo) (part unit : Nat)
  /-- MATERIALISE (R199). With mixed blocks over 90 % used, the media cores write a mixed slot as a full stripe and free its block. Operands: the mixed slot. -/
  | materialise (group : GroupNo) (slot : Nat)
  /-- PATROL_SCRUB (R213). The media core reads the next unit of its patrol pass with READ_UNIT and decodes every line. Operands: the outcome of the decode of each line of the unit; where the unit is taken as a sample, the bits corrected at its bin and beside it; and what STATUS returns, where the device reads it from the member's module then. -/
  | patrolScrub (group : GroupNo) (outs : Vector Decode 16) (sample : Option Sample) (st : Option StatusIn)
  /-- SCRUB_REWRITE (R205). A unit whose read needed many corrected bits is reread, corrected and programmed unchanged within 1 s. Operands: the queued unit. -/
  | scrubRewrite (ch : ChanNo) (part unit : Nat)
  /-- STRIPE_REPAIR (R211). Within 1 s of a recovery, the media core programs the failed member lines with recovered or poisoned data. Operands: a recovered twin line. -/
  | stripeRepair (line : Nat)
  /-- BUCKET_LEAK (R206). Each BUCKET_LEAK interval lowers every corrected-error bucket by one. -/
  | bucketLeak
  /-- POISON_LIST_PERSIST (R217). A change of the poison list reaches the ledger within 10 ms. -/
  | poisonListPersist
  /-- GRANULE_OPEN (R224). The dolly opens a queued granule move, reserving the target slot and PIN frames and writing the journal. Operands: the granule, and whether the other chip has the PIN_FREE frames it needs. -/
  | granuleOpen (gran : Nat) (pinRoom : Bool)
  /-- SEGMENT_CLAIM (R226). The dolly claims a segment with no open write-back snapshot and copies its clean written lines to staging. Operands: the twin segment, whether its even-odd partner is claimed with it, and the twin lines found uncorrectable. -/
  | segmentClaim (seg : Nat) (pair : Bool) (bad : List Nat)
  /-- SEGMENT_COPIED (R226). The staged data of a segment is programmed at the target, and the segment enters COPIED. Operands: the twin segment. -/
  | segmentCopied (seg : Nat)
  /-- SEGMENT_SWITCH (R228). The segment's home moves to the target in one pipeline step, or by the cross-chip exchange. Operands: the twin segment. -/
  | segmentSwitch (seg : Nat)
  /-- GRANULE_COMMIT (R225). All 512 segments have switched, and the target slot becomes the granule's medium home. Operands: the twin granule. -/
  | granuleCommit (gran : Nat)
  /-- PIN_MOVE_SWITCH (R234). Once its copy is done, the PIN frame takes the segment's tag and becomes the primary. Operands: the twin segment. -/
  | pinMoveSwitch (seg : Nat)
  /-- MOVE_PREP (R229). T receives MOVE_PREP, reserves budget and frames, parks requests and answers MOVE_PARKED or MOVE_ABORT. Operands: the header; its line names the segment. -/
  | movePrep (hdr : TwinHdr)
  /-- MOVE_PARKED (R229). S receives MOVE_PARKED with the count of forwarded requests to wait for. Operands: the header and the count. -/
  | moveParked (hdr : TwinHdr) (count : Nat)
  /-- MOVE_HANDOVER (R229). T receives the segment's bitmap and dirty lines, marks itself home, serves the parked requests and sends MOVE_DONE. Operands: the header, the written bitmap, dirty and poison masks, and the lines. -/
  | moveHandover (hdr : TwinHdr) (bitmap dirty poison : BitVec 64) (lines : List (Nat × Line))
  /-- MOVE_DONE (R229). S receives MOVE_DONE and releases its dirty copies and clean frames of the segment. Operands: the header; its line names the segment. -/
  | moveDone (hdr : TwinHdr)
  /-- MOVE_ABORT (R229). S receives MOVE_ABORT and returns the segment to COPIED. Operands: the header; its line names the segment. -/
  | moveAbort (hdr : TwinHdr)
  /-- MOVE_PREP_RETRY (R229). 100 us after a MOVE_ABORT, S sends MOVE_PREP again. Operands: the twin segment. -/
  | movePrepRetry (seg : Nat)
  /-- EVAC_CMD (R243). A write of EVAC_CMD starts the evacuation of a stripe group, or is refused. Operands: requester and value written, flags bit 0 clear. -/
  | evacCmd (a : Access) (v : BitVec 32)
  /-- EVAC_STOP (R243). An EVAC_CMD with STOP ends the evacuation after its open granules commit. Operands: requester and value written, flags bit 0 set. -/
  | evacStop (a : Access) (v : BitVec 32)
  /-- TWIN_LINK_UP (R248). The twin link trains at x16 and 64 GT/s. -/
  | twinLinkUp
  /-- TWIN_LINK_DOWN (R254). The twin link is declared lost, forwarded requests are held and a CLAIM is sent. -/
  | twinLinkDown
  /-- FWD_READ (R31). A forwarded read arrives and is served by this chip's cache pipeline. Operands: the header, and what the HBM access at the home meets. -/
  | fwdRead (hdr : TwinHdr) (ev : HbmEvent)
  /-- FWD_WRITE (R31). A forwarded write arrives and is served by this chip's cache pipeline. Operands: the header, data, byte-enable mask, and what the HBM access meets. -/
  | fwdWrite (hdr : TwinHdr) (data : Line) (mask : Mask) (ev : HbmEvent)
  /-- FWD_DATA (R31). A forwarded read completion returns and leaves through the arrival head. Operands: the header with its POISON flag, and the data. -/
  | fwdData (hdr : TwinHdr) (data : Line)
  /-- FWD_ACK (R31). A forwarded write completion returns and leaves through the arrival head. Operands: the header. -/
  | fwdAck (hdr : TwinHdr)
  /-- FWD_CMD (R57). A forwarded object command arrives at the owning chip and is executed. Operands: the header and the command entry. -/
  | fwdCmd (hdr : TwinHdr) (entry : CmdEntry)
  /-- FWD_CMD_RESULT (R57). The result of a forwarded command returns to the path on which it arrived. Operands: the header and the result. -/
  | fwdCmdResult (hdr : TwinHdr) (result : CmdResult)
  /-- MIRROR_WRITE (R252). A mirror write arrives, passes admission on the partner and is written into its mirror-held frame. Operands: the header, data and byte-enable mask. -/
  | mirrorWrite (hdr : TwinHdr) (data : Line) (mask : Mask)
  /-- MIRROR_COMMIT (R252). The home chip receives the mirror commit and acknowledges the waiting write. Operands: the header. -/
  | mirrorCommit (hdr : TwinHdr)
  /-- MIRROR_RESEND (R208). The home chip is asked to send a mirror write again for a line the partner lost. Operands: the header. -/
  | mirrorResend (hdr : TwinHdr)
  /-- MIRROR_FETCH (R209). A request for this chip's copy of a line or segment is served as a home read. Operands: the header, and the lines that this chip's own recovery declares uncorrectable. -/
  | mirrorFetch (hdr : TwinHdr) (bad : List Nat)
  /-- MIRROR_DATA (R209). The response to MIRROR_FETCH arrives and supplies the line or segment. Operands: the header, the lines by sector, the written bitmap and the poison mask. -/
  | mirrorData (hdr : TwinHdr) (lines : List (Nat × Line)) (bitmap poison : BitVec 64)
  /-- HEARTBEAT (R254). A twin HEARTBEAT arrives with the partner's pair state, lease state and epoch. Operands: the header, the sender's pair state, lease state and lease remaining. -/
  | heartbeat (hdr : TwinHdr) (pair lease remaining : Nat)
  /-- HEARTBEAT_SEND (R254). Every 10 us the chip sends HEARTBEAT. -/
  | heartbeatSend
  /-- PROBE (R254). A PROBE arrives and is answered at once with HEARTBEAT. -/
  | probe
  /-- HELLO (R245). A HELLO arrives, leading to formation, refusal or rejoin. Operands: the payload. -/
  | hello (h : Hello)
  /-- PAIR_ACCEPT (R246). A PAIR_ACCEPT arrives with the position and new epoch. Operands: the receiver's position and the new pair epoch. -/
  | pairAccept (position : Bool) (epoch : Nat)
  /-- PAIR_REFUSE (R247). A PAIR_REFUSE arrives, and the chip takes REFUSED and raises "Pair refused". Operands: the cause. -/
  | pairRefuse (cause : Nat)
  /-- RENEW_RELAY (R256). A relayed RENEW or its answer is passed between the partner and the witness. Operands: the header, the witness frame, and for an answer the SEQ of the RENEW it answers. -/
  | renewRelay (hdr : TwinHdr) (f : WitFrame) (renew : Option Nat)
  /-- TABLE_UPDATE (R264). An object table, granule map, route map, key or boot-state change arrives and is applied to the replica. Operands: the header and the entry. -/
  | tableUpdate (hdr : TwinHdr) (u : TableUpd)
  /-- DESC_INVAL (R134). A descriptor invalidation arrives and clears the object's descriptor. Operands: the header and the object identifier. -/
  | descInval (hdr : TwinHdr) (obj : Nat)
  /-- POISON_SHADOW (R216). A poison record is added to or removed from the shadow of the partner's list. Operands: the header, the record, and whether it is removed. -/
  | poisonShadow (hdr : TwinHdr) (line len src : Nat) (remove : Bool)
  /-- TIMESTAMP (R20). A copied Set Timestamp arrives from the twin and sets the offset. Operands: the header and the timestamp that was set. -/
  | timestamp (hdr : TwinHdr) (value : Int)
  /-- SQUALL_NOTE (R123). The partner's squall state arrives, and this chip's heads apply the new limit within 1 us. Operands: the header and the sender's squall state. -/
  | squallNote (hdr : TwinHdr) (state : Nat)
  /-- HANDOVER_BEGIN (R268). Y receives HANDOVER_BEGIN, parks arrivals for X's mirrored homes and sends HANDOVER_PARKED. Operands: the header. -/
  | handoverBegin (hdr : TwinHdr)
  /-- HANDOVER_PARKED (R268). X receives HANDOVER_PARKED and, after its writes commit and counted requests complete, sends HANDOVER_STATE. Operands: the header and the count of forwarded requests outstanding. -/
  | handoverParked (hdr : TwinHdr) (count : Nat)
  /-- HANDOVER_STATE (R268). Y receives the new epoch, installs the handed-over objects and sends HANDOVER_DONE. Operands: the header and the new pair epoch. -/
  | handoverState (hdr : TwinHdr) (epoch : Nat)
  /-- HANDOVER_DONE (R268). X receives HANDOVER_DONE, forwards its held requests and sends NOTE or RELEASE. Operands: the header. -/
  | handoverDone (hdr : TwinHdr)
  /-- STALE_SET (R269). A piece of the partner's stale granule set arrives and is merged. Operands: the granules of this piece, and the FINAL flag. -/
  | staleSet (granules : List Nat) (final : Bool)
  /-- AUDIT_REQ (R273). The partner computes the digest of a mirrored granule's clean written lines and returns AUDIT_SUM. Operands: the header and the granule. -/
  | auditReq (hdr : TwinHdr) (gran : Nat)
  /-- AUDIT_SUM (R273). The home chip compares the digests and on mismatch marks the granule stale. Operands: the header and the digest. -/
  | auditSum (hdr : TwinHdr) (digest : BitVec 256)
  /-- MIRROR_AUDIT_START (R273). The home chip starts the audit of the next mirrored granule within AUDIT_RATE. -/
  | mirrorAuditStart
  /-- PULSE_TOGGLE (R254). Every 10 us T0 toggles TWIN_PULSE_OUT. -/
  | pulseToggle
  /-- PULSE_LOSS (R254). TWIN_PULSE_IN shows no edge for 50 us, and the chip sends PROBE. -/
  | pulseLoss
  /-- PULSE_RESTORED (R254). After 1 ms of pulse edges the pulse-loss flag clears. -/
  | pulseRestored
  /-- LINK_SILENCE_TIMEOUT (R254). No twin message arrives for 100 us, and the link is declared lost. -/
  | linkSilenceTimeout
  /-- PROBE_TIMEOUT (R254). A PROBE after pulse loss goes unanswered for 10 us, and the link is declared lost. -/
  | probeTimeout
  /-- REGISTER (R258). The chip sends REGISTER to its witness. -/
  | register
  /-- REGISTER_RESEND (R260). Every 10 ms while fenced, the chip sends REGISTER again. -/
  | registerResend
  /-- RENEW_SEND (R255). Every 100 us the chip sends RENEW to its witness. -/
  | renewSend
  /-- RENEW_ACK (R255). A RENEW_ACK sets the chip's lease end to 200 us after the send time of that RENEW. Operands: the frame, and the SEQ of the RENEW it answers, none for a REGISTER. -/
  | renewAck (f : WitFrame) (renew : Option Nat)
  /-- RENEW_ACK_TIMEOUT (R256). A RENEW unacknowledged for 50 us makes the next RENEW go both directly and by relay. Operands: the SEQ of the RENEW. -/
  | renewAckTimeout (seq : Nat)
  /-- LEASE_FENCE_DEADLINE (R257). 5 us before the lease ends, or at link loss in WITNESS_LOST, the chip fences. -/
  | leaseFenceDeadline
  /-- VERDICT_GRANT (R264). A GRANT verdict arrives, and the chip installs the takeover and becomes ALONE. Operands: the new pair epoch. -/
  | verdictGrant (epoch : Nat)
  /-- VERDICT_SPLIT (R262). A SPLIT verdict arrives, and the chip takes the link down, enters SPLIT and ends its held requests. -/
  | verdictSplit
  /-- VERDICT_DENY (R259). A DENY verdict arrives for the chip's claim. Operands: whether the CLAIM had DRILL set. -/
  | verdictDeny (drill : Bool)
  /-- VERDICT_DRILL_OK (R272). A DRILL_OK verdict arrives for a rehearsal claim. -/
  | verdictDrillOk
  /-- POISON_NOTE (R263). A POISON_NOTE arrives over the ring, and the chip poisons the named lines and answers POISON_ACK. Operands: SEQ and the twin lines, at most five. -/
  | poisonNote (seq : Nat) (lines : List Nat)
  /-- POISON_ACK (R263). A POISON_ACK arrives, and the held write is acknowledged with a 0x82 record. Operands: the SEQ of the POISON_NOTE. -/
  | poisonAck (seq : Nat)
  /-- POISON_ACK_TIMEOUT (R263). No POISON_ACK within 200 us, and the chip takes the write's arrival head link down. Operands: the SEQ of the POISON_NOTE. -/
  | poisonAckTimeout (seq : Nat)
  /-- ROUTE_MAP_REWRITE_DONE (R264). The background rewrite of the route map ends, and the lost-chip flag clears. -/
  | routeMapRewriteDone
  /-- HANDOVER_CMD (R267). A write of 1 to HANDOVER_CMD starts a planned handover, or is refused. Operands: requester and value written. -/
  | handoverCmd (a : Access) (v : BitVec 8)
  /-- PAIR_REPLACE (R246). A Custodian write of a serial number to PAIR_REPLACE accepts a replacement twin and repeats formation. Operands: requester and serial number written. -/
  | pairReplace (a : Access) (v : BitVec 64)
  /-- REHEARSE_CMD (R272). A write of 1 to REHEARSE_CMD starts a rehearsal. Operands: requester and value written. -/
  | rehearseCmd (a : Access) (v : BitVec 8)
  /-- REHEARSAL_DUE (R410). REHEARSE_PERIOD expires, and a rehearsal starts or waits for running work. Operands: the outcomes of the self-checks of hold queue and replica. -/
  | rehearsalDue (holdOk replicaOk : Bool)
  /-- REHEARSAL_TIMEOUT (R272). No DRILL_OK within 1 ms, and the rehearsal fails with a Warning record. -/
  | rehearsalTimeout
  /-- POWER_UP_START (R279). RESET_N high with VAUX valid starts the power-up of the up steps. -/
  | powerUpStart
  /-- UP_STEP_DONE (R279). Every rail of an up step is good and its STEP_DELAY has passed, and the next step starts. -/
  | upStepDone
  /-- RAMP_TIMEOUT (R279). A rail not good within RAMP_TIMEOUT has a fault, and its reaction applies. Operands: the rail. -/
  | rampTimeout (n : RailNo)
  /-- DOWN_STEP_DONE (R280). Every rail of a down step reads off, and the next step starts. -/
  | downStepDone
  /-- OFF_TIMEOUT (R280). A rail still above OFF_MV at OFF_TIMEOUT is recorded as an off-timeout fault and the next step starts. Operands: the rail. -/
  | offTimeout (n : RailNo)
  /-- POWER_DOWN_STUCK (R280). A rail still above OFF_MV 1 s after power-down counts as a failed whole-sequence retry. -/
  | powerDownStuck
  /-- ADC_SAMPLE (R277). An ADC input is converted, and its result is judged against fault and warning thresholds. Operands: the input converted and its result. -/
  | adcSample (input : AdcIn)
  /-- PG_CHANGE (R278). A PG input holds its new level for PG_DEBOUNCE, and the change is taken. Operands: the rail, the debounced level, the most raw edges within any 1 ms since the last such event. -/
  | pgChange (n : RailNo) (level : Bool) (edges : Nat)
  /-- RAIL_RETRY_TIMER (R282). 10 ms after a RETRY_RAIL rail reads off, its EN is raised again. Operands: the rail. -/
  | railRetryTimer (n : RailNo)
  /-- SEQ_GROUP_ON (R282). A write of SEQ_GROUP_ON powers up a group switched off by GROUP_OFF. Operands: requester and group written. -/
  | seqGroupOn (a : Access) (v : BitVec 8)
  /-- RETRY_WAIT_DONE (R284). SEQ_FAULT_N has been released for 10 ms and SEQ_RETRY_DELAY has passed, and the gaffer retries or enters LOCKOUT. -/
  | retryWaitDone
  /-- RETRY_COUNT_RESET (R284). After 1 h in ON the count of retries used returns to 0. -/
  | retryCountReset
  /-- RESET_N_LOW (R298). RESET_N low for 1 us in ON starts a wrap of cause reset, or leaves LOCKOUT at the next rise. -/
  | resetNLow
  /-- SEQ_FAULT_SEEN (R285). SEQ_FAULT_N has been held low by another sequencer for 2 us, and the gaffer acts on SEQ_FAULT_ACTION. -/
  | seqFaultSeen
  /-- VAUX_COLLAPSE (R287). VAUX falls below 1.62 V, and the gaffer drops every EN, floats the outputs and stops. Operands: how many bytes of the page write in progress hold their new value. -/
  | vauxCollapse (k : Nat)
  /-- SQ_CONFIG (R276). A write of a channel's SQ_CONFIG changes its permitted fields, or is refused. Operands: requester, channel and value written. -/
  | sqConfig (a : Access) (n : RailNo) (v : BitVec 256)
  /-- BUDGET_COMPUTE (R291). Every 1 ms the gaffer computes the usable energy and publishes the dirty budget by its rules. -/
  | budgetCompute
  /-- RESERVE_LOST_TIMEOUT (R292). The published budget stays below 64 MiB for 1 s in service, and a reserve-lost wrap starts. -/
  | reserveLostTimeout
  /-- PROBE_START (R294). PROBE_PERIOD, a 10 C bank temperature move or power-up starts a reserve probe. -/
  | probeStart
  /-- PROBE_CMD (R294). A write of 1 to PROBE_CMD starts a probe, is served by the running one or is refused during a wrap. Operands: requester and value written. -/
  | probeCmd (a : Access) (v : BitVec 8)
  /-- PROBE_BUDGET_READY (R294). The dirty total is within the probe budget or PROBE_DEFER_MAX has passed, and the probe budget is published. Operands: whether PROBE_DEFER_MAX has passed. -/
  | probeBudgetReady (deferOver : Bool)
  /-- PROBE_DISCHARGE (R294). Once the dirty total is within the probe budget, SQ08_EN rises and the ESR is measured. Operands: the drop of HOLDUP_SENSE in mV and the load current in mA. -/
  | probeDischarge (dropMv loadMa : Nat)
  /-- PROBE_STEP_END (R294). The bank has fallen by PROBE_DROP or 20 ms have passed, SQ08_EN falls and the capacitance is computed. Operands: the fall of the bank in mV, the step's duration in us, the charge drawn in uC. -/
  | probeStepEnd (fallMv us chargeUc : Nat)
  /-- POWER_LOSS (R295). PWR_LOSS_N low for 2 us starts a wrap of cause power loss. -/
  | powerLoss
  /-- WRAP_AND_STAY_OFF (R298). A write of 1 to WRAP_CMD wraps the device and leaves it off until RESET_N pulses. Operands: the requester. -/
  | wrapAndStayOff (a : Access)
  /-- WRAP_AND_POWER_UP (R298). A write of 2 to WRAP_CMD wraps the device and powers it up again. Operands: the requester. -/
  | wrapAndPowerUp (a : Access)
  /-- WRAP_SETTLED (R295). Issued programs complete, write queues drain, merges complete and the dirty map delta is programmed, and the drain starts. -/
  | wrapSettled
  /-- WRAP_DRAINED (R295). The dirty total reaches 0, and the gaffer persists the poison list, snapshots and WRAPPED record. -/
  | wrapDrained
  /-- WRAP_PERSISTED (R295). Step 5 of the wrap ends, and the power-down of the rails runs. -/
  | wrapPersisted
  /-- WRAP_RESUME (R298). Input and bank have held for RESUME_HOLD during the drain, and the device resumes instead of powering down. -/
  | wrapResume
  /-- WRAP_RESTART (R437). After a wrap's rails are down, the gaffer powers up again when the condition of its cause is met, or enters LOCKOUT. -/
  | wrapRestart
  /-- DIRTY_MAP_CHECKPOINT (R297). Every 10 ms the dirty map delta is programmed into internal stripes. -/
  | dirtyMapCheckpoint
  /-- WRAP_RECORD_HOURLY (R300). Every hour in service the RUNNING wrap record is written again. -/
  | wrapRecordHourly
  /-- SNAPSHOT_COPY (R289). A captured power snapshot is copied to the ledger log within 10 ms. -/
  | snapshotCopy
  /-- LEDGER_PAGE_WRITE_DONE (R307). A ledger page write completes, and the controller issues the next queued write by class. Operands: the duration of the page write in ns. -/
  | ledgerPageWriteDone (ns : Nat)
  /-- LEDGER_TIMEOUT (R320). A page write or read has not completed in 1 ms, the die is declared failed and pending writes end with HARDWARE_ERROR. -/
  | ledgerTimeout
  /-- REFRESH_PAGE (R318). Every 10 ms of a pass the gaffer margin-reads one ledger page and rewrites it if needed. Operands: whether the die asks for a rewrite, how many words it corrected, and which words of the page are unreadable. -/
  | refreshPage (rewrite : Bool) (ce : Nat) (ue : List (Fin 32))
  /-- REFRESH_PASS_DUE (R318). REFRESH_PERIOD has passed since the last pass began, and a new pass starts. -/
  | refreshPassDue
  /-- REFRESH_CMD (R318). A write of 1 to REFRESH_CMD starts a refresh pass at page 0. Operands: requester and value written. -/
  | refreshCmd (a : Access) (v : BitVec 8)
  /-- RAW_WRITE (R316). A write of RAW_WRITE writes RAW_LEN bytes at RAW_ADDR as one page write, or is refused. Operands: requester and the 256 B written. -/
  | rawWrite (a : Access) (v : BitVec 2048)
  /-- RAW_READ (R316). A read of RAW_READ returns 256 bytes from RAW_ADDR if every partition covered permits it. Operands: the requester. -/
  | rawRead (a : Access)
  /-- USER_PASSWORD (R316). A Custodian sets or removes the password of a user area. Operands: requester, area and password written. -/
  | userPassword (a : Access) (area : Fin 4) (v : BitVec 64)
  /-- USER_UNLOCK (R316). An Operator unlocks a user area with its password, or is refused after eight failures. Operands: requester and value written. -/
  | userUnlock (a : Access) (v : BitVec 96)
  /-- USER_LOCK (R316). A write of an area number to USER_LOCK locks the user area again. Operands: requester and area written. -/
  | userLock (a : Access) (v : BitVec 8)
  /-- COUNTER_INC (R315). A write of a user counter number increases that spread counter by one, or is refused at its end. Operands: requester and counter written. -/
  | counterInc (a : Access) (v : BitVec 8)
  /-- CRYPTO_ERASE (R327). A write of a tag number to CRYPTO_ERASE puts the tag in ERASING on both chips, or is refused. Operands: the requester and the tag. -/
  | cryptoErase (a : Access) (t : Tag)
  /-- CRYPTO_ERASE_COMPLETE (R327). Once no I/O under the tag is in flight, the lanes clear the key, SECRETS is overwritten and the tag becomes EMPTY. -/
  | cryptoEraseComplete
  /-- DRBG_HEALTH_FAIL (R322). An entropy health test fails, the DRBG stops and new-key operations fail. -/
  | drbgHealthFail
  /-- DRBG_RESEED (R322). After 2^20 requests the DRBG is reseeded. -/
  | drbgReseed
  /-- SEAL_REQUEST (R334). A sealing request is queued and run, ending with OK, TAG_FAIL, ALARM, FAULT or LIMIT. Operands: the operation, its key slot, whether it is of an SPDM session or IDE_KM, and whether the tag or integrity check value of what it opens verifies. -/
  | sealRequest (op : SealOp) (slot : Fin 32) (priority tagOk : Bool)
  /-- SEAL_ALARM (R337). A sealing engine alarm erases all slots and the queue, or disables the engine at the third in 24 h. Operands: the event. -/
  | sealAlarm (e : SealEvent)
  /-- SEAL_RECOVER (R337). 1 s after an alarm, SC derives slot 0 again and the twin link renews slot 2. -/
  | sealRecover
  /-- SEAL_PARITY_FAULT (R338). In compatibility mode a parity error ends the request with FAULT and erases nothing. -/
  | sealParityFault
  /-- TWIN_REKEY_DUE (R332). The twin link counter reaches 2^47, and the chip sends SPDM KEY_UPDATE. -/
  | twinRekeyDue
  /-- TWIN_REKEY_RETRY (R332). A failed twin KEY_UPDATE is retried every 1 s. -/
  | twinRekeyRetry
  /-- TWIN_COUNTER_EXHAUSTED (R332). The twin link counter reaches 2^48, the link is taken down and the pair rejoins. -/
  | twinCounterExhausted
  /-- WITNESS_SEQ_EXHAUSTED (R332). Counter 2 reaches its end, and the chip can no longer renew and fences. -/
  | witnessSeqExhausted
  /-- GET_VERSION (R342). The SPDM request is answered with version 1.2. Operands: the head. -/
  | getVersion (h : HeadNo)
  /-- GET_CAPABILITIES (R342). The SPDM request is answered with the device capabilities. Operands: the head. -/
  | getCapabilities (h : HeadNo)
  /-- NEGOTIATE_ALGORITHMS (R342). The SPDM request settles the algorithms. Operands: the head. -/
  | negotiateAlgorithms (h : HeadNo)
  /-- GET_DIGESTS (R341). The SPDM request returns the digest of certificate slot 0. Operands: the head. -/
  | getDigests (h : HeadNo)
  /-- GET_CERTIFICATE (R341). The SPDM request returns the slot 0 certificate chain. Operands: the head, the certificate slot, the offset and the length asked for. -/
  | getCertificate (h : HeadNo) (slot off len : Nat)
  /-- CHALLENGE (R342). The SPDM request is answered with a signed challenge response. Operands: the head and the certificate slot. -/
  | challenge (h : HeadNo) (slot : Nat)
  /-- GET_MEASUREMENTS (R342). The SPDM request returns the measurement blocks, signed. Operands: the head and the measurement index, 0xFF for all. -/
  | getMeasurements (h : HeadNo) (index : Nat)
  /-- KEY_EXCHANGE (R342). The SPDM request opens a session, or returns Busy beyond the session limit. Operands: the head. -/
  | keyExchange (h : HeadNo)
  /-- FINISH (R342). The SPDM request completes the session handshake. Operands: the head, the session, and whether its verify data match. -/
  | finish (h : HeadNo) (session : Nat) (ok : Bool)
  /-- SPDM_HEARTBEAT (R342). An SPDM HEARTBEAT keeps a session open. Operands: the head and the session. -/
  | spdmHeartbeat (h : HeadNo) (session : Nat)
  /-- SPDM_SESSION_TIMEOUT (R342). A session that misses two 60 s heartbeats ends. Operands: the head and the session. -/
  | spdmSessionTimeout (h : HeadNo) (session : Nat)
  /-- KEY_UPDATE (R332). An SPDM KEY_UPDATE changes the session or twin link keys at a marked flit boundary. Operands: the head, or none for the twin link; the session; on the twin link, whether it is the partner's acknowledgement of this chip's own KEY_UPDATE. -/
  | keyUpdate (h : Option HeadNo) (session : Nat) (ack : Bool)
  /-- END_SESSION (R342). The SPDM request ends a session. Operands: the head and the session. -/
  | endSession (h : HeadNo) (session : Nat)
  /-- TWIN_SPDM_SESSION (R331). The twin link's mutual SPDM session completes, and the link keys and pair wrapping key are derived. Operands: whether the other chip's certificate chain and its measurement of index 4 pass. -/
  | twinSpdmSession (ok : Bool)
  /-- RTV_CHALLENGE (R346). A read of RTV_CHALLENGE returns the chip serial with a freshly drawn nonce. Operands: the requester. -/
  | rtvChallenge (a : Access)
  /-- RTV_RESPONSE (R347). A verified signature starts the return-to-vendor erase sequence, and a bad one is refused. Operands: the requester, and whether the signature verifies against the current nonce. -/
  | rtvResponse (a : Access) (ok : Bool)
  /-- RING_FRAME_RX (R352). A ring frame is received on a port and forwarded, delivered, duplicate-dropped or discarded. Operands: the port and the frame. A frame delivered to a service of this chip is then the row of that service. -/
  | ringFrameRx (p : PortNo) (f : RingFrame)
  /-- RING_PORT_STATE_CHANGE (R349). A ring port goes down or completes auto-negotiation. Operands: the port and its new state: 0 down, 1 negotiating, 2 up. -/
  | ringPortStateChange (p : PortNo) (v : Fin 3)
  /-- RING_SERDES_LOCK (R355). Both ring SerDes lock after the main domain leaves reset. -/
  | ringSerdesLock
  /-- BYP_HOLD_RAISE (R355). 1 ms after both ring SerDes lock, BYP_HOLD rises. -/
  | bypHoldRaise
  /-- SOURCE_RECORD_EXPIRED (R354). A duplicate-drop source record unused for 1 s is discarded. Operands: the source address. -/
  | sourceRecordExpired (src : BitVec 48)
  /-- DICT_READ (R358). A dictionary READ request opens an expedited or segmented read, or returns a descriptor with DESCRIBE. Operands: requester, entry, the DESCRIBE flag and the OFFSET. -/
  | dictRead (a : Access) (index : BitVec 16) (sub : BitVec 8) (describe : Bool) (off : Nat)
  /-- DICT_WRITE (R368). A dictionary WRITE of at most 64 B is checked, stored and applied, and answered with DONE or ABORT. Operands: requester, entry, VALUE, the data, and whether a signature in it verifies. -/
  | dictWrite (a : Access) (index : BitVec 16) (sub : BitVec 8) (size : Nat) (data : List Byte) (sigOk : Bool)
  /-- WRITE_INIT (R358). A WRITE_INIT opens a segmented write with its first segment. Operands: requester, entry, VALUE and segment 0. -/
  | writeInit (a : Access) (index : BitVec 16) (sub : BitVec 8) (size : Nat) (data : List Byte)
  /-- DICT_SEGMENT (R359). A SEGMENT of a transfer is accepted in order, or discarded with an ACK with GAP. Operands: requester, entry, SEG, FINAL, the data, and whether a signature that the value holds verifies. -/
  | dictSegment (a : Access) (index : BitVec 16) (sub : BitVec 8) (seg : Nat) (final : Bool) (data : List Byte) (sigOk : Bool)
  /-- DICT_ACK (R359). An ACK from the requester advances the device's read window, or closes the transfer. Operands: requester, entry, the next segment expected and the GAP flag. -/
  | dictAck (a : Access) (index : BitVec 16) (sub : BitVec 8) (next : Nat) (gap : Bool)
  /-- DICT_ABORT (R361). An ABORT from the requester ends its transfer. Operands: requester, entry and abort code. -/
  | dictAbort (a : Access) (index : BitVec 16) (sub : BitVec 8) (code : BitVec 32)
  /-- SEGMENT_RESEND_TIMEOUT (R359). No ACK advancing the window for 5 ms, and the device sends again from the next segment expected. Operands: the requester and the transfer. -/
  | segmentResendTimeout (req : Requester) (tid : BitVec 8)
  /-- TRANSFER_TIMEOUT (R359). No frame of a transfer for 100 ms, and the device aborts it. Operands: the requester and the transfer. -/
  | transferTimeout (req : Requester) (tid : BitVec 8)
  /-- TRANSFER_CACHE_EXPIRED (R360). A cached transfer outcome older than 1 s is discarded. Operands: the requester and the transfer. -/
  | transferCacheExpired (req : Requester) (tid : BitVec 8)
  /-- NOTIFY_MERGE_EXPIRED (R362). The 10 ms merge time of a notification code ends, and a notification with the current state is sent. Operands: the notification code. -/
  | notifyMergeExpired (code : Nat)
  /-- WINDOW_WRITE (R375). A write to dictionary-mapped window blocks is posted and counted in PENDING. Operands: the head, the entry, the part of it and the value. -/
  | windowWrite (h : HeadNo) (index : BitVec 16) (sub : BitVec 8) (part : WinPart) (v : BitVec 64)
  /-- WINDOW_WRITE_APPLY (R375). A posted window write is carried out as a dictionary write, and a refusal latches its offset and code. Operands: the head. -/
  | windowWriteApply (h : HeadNo)
  /-- SET_ALIAS (R376). A write to a set alias ORs the mask into the register indivisibly. Operands: the head, the register and the mask. -/
  | setAlias (h : HeadNo) (r : WinReg) (m : BitVec 32)
  /-- CLEAR_ALIAS (R376). A write to a clear alias clears the masked bits indivisibly. Operands: the head, the register and the mask. -/
  | clearAlias (h : HeadNo) (r : WinReg) (m : BitVec 32)
  /-- TOGGLE_ALIAS (R376). A write to a toggle alias XORs the mask into the register indivisibly. Operands: the head, the register and the mask. -/
  | toggleAlias (h : HeadNo) (r : WinReg) (m : BitVec 32)
  /-- REGISTER_WRITE (R12). A write to a register or entry that has no row of its own acts by its access code. Operands: the head; the access: a write, or a read, whose answer is a message sent; and the value of a 32-bit write. -/
  | registerWrite (h : HeadNo) (w : WinAccess) (v : BitVec 32)
  /-- DICT_DEFAULTS (R367). A write of 0x01 to DICT_DEFAULTS returns every Operator-level persistent entry to its default. Operands: requester and value written. -/
  | dictDefaults (a : Access) (v : BitVec 8)
  /-- BAROMETER_UPDATE (R381). Within 1 ms of a condition change the barometer is recomputed, logged and notified. -/
  | barometerUpdate
  /-- BAROMETER_SEEN (R382). A W1C write of BAROMETER_SEEN clears latched flags whose conditions no longer hold. Operands: requester and value written. -/
  | barometerSeen (a : Access) (v : BitVec 64)
  /-- EVENT_RECORD_READ (R383). A read of EVENT_RECORD returns the selected ledger event record or NO_RESULT. Operands: the requester. -/
  | eventRecordRead (a : Access)
  /-- BOOT_ROM_SELECT (R390). The boot ROM reads the boot record, selects, verifies and loads an image, falling back or entering recovery. -/
  | bootRomSelect
  /-- TRAIN_STAGE_DONE (R386). HBM training, GMI training and the first probe end, and the load stage starts once the budget suffices. -/
  | trainStageDone
  /-- LOAD_STAGE (R391). The device reads the ledger and wrap record, loads the table region, poisons dirty segments and checks the poison list. Operands: whether every table block has a copy that decodes, and the ledger words, by address / 8, that are found unreadable. -/
  | loadStage (tableOk : Bool) (ue : List (BitVec 22))
  /-- PAIR_STAGE (R392). The chip trains the twin link and sends HELLO, or enters service unpaired. -/
  | pairStage
  /-- PAIR_STAGE_TIMEOUT (R392). No formation or rejoin within 2 s, and the chip sends CLAIM against its recorded twin. -/
  | pairStageTimeout
  /-- CLAIM_DENIED_RETRY (R392). After a DENY in the pair stage, the chip repeats HELLO and CLAIM every 1 s. -/
  | claimDeniedRetry
  /-- ENTRY_INTO_SERVICE (R393). The device increases counter 1, writes the RUNNING record, applies scratch, sets Memory_Active and offers extents. -/
  | entryIntoService
  /-- RECOVERY_QUERY (R397). A recovery QUERY frame is answered with STATUS. -/
  | recoveryQuery
  /-- RECOVERY_DATA (R397). A recovery DATA frame is accepted in order and each complete block is CRC-checked. Operands: the slot, true for FW_B; the offset; the 64 B; and whether the header's signature verifies, where this frame completes it. -/
  | recoveryData (slot : Bool) (off : Nat) (data : Line) (sigOk : Bool)
  /-- RECOVERY_END (R397). A recovery END verifies the image, writes the boot record and resets the main domain within 10 ms. Operands: the slot, and whether the signature verifies. -/
  | recoveryEnd (slot sigOk : Bool)
  /-- RECOVERY_DOWNLOAD_TIMEOUT (R397). 10 s without a frame, and the device abandons the download. -/
  | recoveryDownloadTimeout
  /-- UPD_BLOCK (R398). A write of UPD_BLOCK stores the next 4 KiB piece of an image after its CRC check. Operands: requester, the 4,112 B written, and whether the header's signature verifies. -/
  | updBlock (a : Access) (data : List Byte) (sigOk : Bool)
  /-- UPD_END_VERIFY (R398). A write of 1 to UPD_END ends the transfer and verifies the image. Operands: requester, and whether the signature verifies. -/
  | updEndVerify (a : Access) (sigOk : Bool)
  /-- UPD_ABANDON (R398). A write of 2 to UPD_END abandons the transfer. Operands: the requester. -/
  | updAbandon (a : Access)
  /-- UPD_IDLE_TIMEOUT (R398). A firmware transfer idle for 60 s is abandoned. -/
  | updIdleTimeout
  /-- FW_ACTIVATE (R399). A write of a slot to FW_ACTIVATE makes a verified image PENDING, or is refused. Operands: requester and slot written. -/
  | fwActivate (a : Access) (v : BitVec 8)
  /-- FW_CONFIRM (R400). A write of 1 to FW_CONFIRM confirms the image in probation and raises counter 3. Operands: requester and value written. -/
  | fwConfirm (a : Access) (v : BitVec 8)
  /-- PROBATION_ELAPSED (R400). An image in probation meeting its conditions for PROBATION_TIME confirms itself. -/
  | probationElapsed
  /-- FW_REVERT (R400). A write of 1 to FW_REVERT makes the next start fall back. Operands: requester and value written. -/
  | fwRevert (a : Access) (v : BitVec 8)
  /-- PROBATION_START_TIMEOUT (R401). An image in probation not in service within 60 s is stopped by a main-domain reset with UNCLEAN set. -/
  | probationStartTimeout
  /-- STORE_IMPORT (R395). A write of a KLX-7128 store imports the matching entries in the device's own format. Operands: requester and the store written. -/
  | storeImport (a : Access) (data : List Byte)
  /-- STORE_RESTORE (R395). A write of a store body of a readable format restores the persistent entries. Operands: requester and the store body written. -/
  | storeRestore (a : Access) (data : List Byte)
  /-- STORE_EXPORT (R395). A read of STORE_EXPORT returns the current store body. Operands: requester and OFFSET. -/
  | storeExport (a : Access) (off : Nat)
  /-- RECOVERY_CMD (R390). A write of 1 to RECOVERY_CMD sets RECOVERY_REQUEST for the next start. Operands: requester and value written. -/
  | recoveryCmd (a : Access) (v : BitVec 8)
  /-- CORE_RETIRE (R407). A write of a core number to CORE_RETIRE retires the core, or is refused. Operands: requester and core written. -/
  | coreRetire (a : Access) (v : BitVec 8)
  /-- HEAD_ISOLATE (R409). A write to HEAD_ISOLATE disables a head's link or releases it to train. Operands: requester, head and value written. -/
  | headIsolate (a : Access) (h : HeadNo) (v : BitVec 8)
  /-- HEAD_DC_REGIONS (R85). A write of HEAD_DC_REGIONS offers newly enabled regions and releases cleared ones. Operands: requester, head and value written. -/
  | headDcRegions (a : Access) (h : HeadNo) (v : BitVec 8)
  /-- BIST_HBM_SPARE (R411). Built-in test 1 runs a PRBS15 pass on the HBM spare. Operands: the requester. -/
  | bistHbmSpare (a : Access)
  /-- BIST_HBM_PATROL (R411). Built-in test 2 reads every in-service HBM burst. Operands: the requester. -/
  | bistHbmPatrol (a : Access)
  /-- BIST_GMI_RETRAIN (R411). Built-in test 3 retrains one GMI channel. Operands: requester and channel. -/
  | bistGmiRetrain (a : Access) (target : BitVec 8)
  /-- BIST_PARITY_CHECK (R412). Built-in test 4 checks the stripe parity of a group and reprograms disagreeing parity units. Operands: requester and group. -/
  | bistParityCheck (a : Access) (target : BitVec 8)
  /-- BIST_CIPHER_KAT (R411). Built-in test 5 runs a known-answer test on media cipher lanes. Operands: requester and channel, or 0xFF for all. -/
  | bistCipherKat (a : Access) (target : BitVec 8)
  /-- BIST_SEAL_KAT (R411). Built-in test 6 runs a known-answer test on the sealing engine. Operands: the requester. -/
  | bistSealKat (a : Access)
  /-- BIST_CORE_SELFTEST (R408). Built-in test 7 self-tests a core while its work passes to a sibling. Operands: requester and core. -/
  | bistCoreSelftest (a : Access) (target : BitVec 8)
  /-- BIST_PHY_LOOPBACK (R411). Built-in test 8 runs a 1 s PHY loopback on an isolated head. Operands: requester and head. -/
  | bistPhyLoopback (a : Access) (target : BitVec 8)
  /-- BIST_DONE (R411). A built-in test ends, and its verdict is written to BIST_RESULT. Operands: whether the test passed, and the errors and detail it reports. -/
  | bistDone (verdict : Bool) (errors detail : BitVec 32)
  /-- REFCLK_RESTORED (R437). The clock monitor sees REFCLK present for 1 ms while the main domain is held in reset with the rails on, and the main domain is released from reset. -/
  | refclkRestored
  deriving DecidableEq, Repr

end Sys2Proof
end

