-- ==== Sys2Proof/Decode.lean ====
section
/-! DEFINITION. The words of the opcode table: its rows are commands of a block and carry no bits. -/

namespace Sys2Proof

/-- The command that a word spells by the table's bits: no row has any, so none. -/
def decodeTableWord (_nbits _w : Nat) : Option Instr := none

end Sys2Proof
end

