-- ==== Sys2Proof/Config.lean ====
section
/-! DEFINITION. What the spec leaves to the part or leaves open: opaque constants with no
value that anything in Lean can evaluate. A statement about one holds whatever it is. -/

namespace Sys2Proof

/-- The Device Serial Number fixed at manufacture (03 R79). -/
opaque Config.chipSerial : BitVec 64
/-- The PCIe Vendor ID and Device ID of a head, the same at every head (03 R79). -/
opaque Config.vendorId : BitVec 16
opaque Config.deviceId : BitVec 16
/-- The ring address fixed at manufacture (13 R350). -/
opaque Config.ringMac : BitVec 48

/-- The bytes of an event record in the CXL 3.1 record format, from its fields (03 R94). -/
opaque Config.cxlRecord : List Nat → List Byte

/-- The device's own choice where the spec lets it take any of several (04 R117, R111), one for
each choice made. -/
opaque Config.choice : Nat → Nat

/-- The in-service index of a block of an HBM area, which the spec does not place (04 R106, 05 R138). -/
opaque Config.areaIndex : Nat → Nat

/-- The Correction Mask of a corrected burst, whose bits no command names (Table 07-6). -/
opaque Config.correctionMask : Nat → Nat

/-- The address within its pseudo-channel of a block of an HBM area, as Table 05-2 splits it, which the spec does not place
either (05 R138; 07 R220). -/
opaque Config.areaAddr : Nat → Nat

/-- The placement core that runs a command in flight (01 R17), by the choices made so far and the
command's number. -/
opaque Config.commandCore : Nat → Nat → Nat

/-- Window offset of a mapped entry, fixed for a firmware version and given only by the directory (13
R371), by the version, the index and the subindex. -/
opaque Config.windowOffset : BitVec 32 → Nat → Nat → BitVec 20

/-- The number of CXL.mem request credits of a head, which the spec does not give (03 R78). -/
opaque Config.headCredits : Nat

/-- The contents of the Command Effects Log, which the spec does not give (03 Table 03-6). -/
opaque Config.effectsLog : List Byte

/-- The contents of the vendor log, which the spec does not give (03 Table 03-6), by the events recorded. -/
opaque Config.vendorLog : Nat → List Byte

/-- An unspecified value that a read of reserved bits or of an unimplemented location returns in the
small configurations (00 R12, R13), by the location and the choices made so far. -/
opaque Config.unspecified : Nat → Nat → Nat

/-- The value of a vendor-private entry, which the spec does not give (00 R15, 13 R364), by the entry's key and the
tick. -/
opaque Config.vendorEntry : Nat → Nat → List Byte

/-- What an entry shows that the device counts or measures and this model does not: link retries,
corrections in on-chip arrays, read latencies, cipher invocations. By the entry's key and the tick. -/
opaque Config.reading : Nat → Nat → Nat

/-- What the DRBG gives: the bytes of a random value, one for each draw (12 R322). -/
opaque Config.random : Nat → Nat

/-- A duration that the device measures and this model does not: the times of TAKEOVER_LOG and
REHEARSE_RESULT (09 Table 09-11), one for each reading. -/
opaque Config.measured : Nat → Nat

/-- The DER bytes of the slot 0 certificate chain, which the spec does not give; it changes with the
firmware, here named by the first bytes of the body's SHA-256 (12 R340, R341). -/
opaque Config.certChain : BitVec 96 → List Byte

/-- The bytes of a measurement block from its index and the values it covers (12 Table 12-7). -/
opaque Config.measurement : Nat → List Nat → List Byte

/-- A signature over an SPDM answer, one for each answer (12 R342). -/
opaque Config.signature : Nat → Nat

/-- The check field of a GROUP_STAMP, which the spec gives no rule: by the chip serial, group, member and epoch (06 Table
06-11). -/
opaque Config.stampCheck : BitVec 64 → Nat → Nat → Nat → BitVec 64

/-- What a media cipher lane makes of a line enciphered under another key (12 R324). -/
opaque Config.garbled : Nat → Line → Line

end Sys2Proof
end

