-- ==== Sys2Proof/Machine/State.lean ====
section
/-! DEFINITION. The state of the block: every register, table, queue, mode and pin the spec
gives one chip, the messages it has sent, and the queue of commands that wait. Each field's
comment ends with the chapter of spec/ and the rule that names it. -/

namespace Sys2Proof.Machine

open Sys2Proof

/-- Byte-addressed store in canonical form: addresses strictly rising, no entry equal to what
an unlisted address reads as (`Memory.blank`). -/
abbrev Memory := List Host.Cell

/-- The payload of an event record (14 R384, 07 R220, 03 R94). -/
inductive EventBody where
  /-- An Olieno vendor record: code, related entry, barometer, notification data. -/
  | vendor (code index sub : Nat) (barometer : BitVec 64) (data : List Byte)
  /-- General Media: address, transaction type, event type, descriptor, channel, unit details. -/
  | media (addr txn type descr : Nat) (chan : Option Nat) (comp : List Nat)
  /-- DRAM: address, transaction type, descriptor, pseudo-channel, component details. -/
  | dram (addr txn type descr : Nat) (pc : Nat) (comp : List Nat)
  /-- Memory Module: 1 Dirty Shutdown Count increased, 2 scratch size changed, 3 life used
  threshold crossed, 4 corrected error count alert; with its value. -/
  | memModule (what value : Nat)
  /-- Dynamic Capacity: 0 add, 1 release; the region. -/
  | dynCap (what region : Nat)
  deriving DecidableEq, Repr

/-- An event record: handle in its log, timestamp and payload. -/
structure EventRec where
  handle : Nat := 0
  time : Int := 0
  body : EventBody := .memModule 0 0
  deriving DecidableEq, Repr

/-- The five event logs of a head (Table 03-8). -/
inductive LogNo where
  | informational | warning | failure | fatal | dynamicCapacity
  deriving DecidableEq, Repr

/-- The protocols that DOE carries (Table 03-1). -/
inductive DoeProtocol where
  | discovery | cmaSpdm | securedCmaSpdm | tableAccess
  deriving DecidableEq, Repr

/-- Return codes of the mailbox: those the spec names, and for a bad handle or address the codes of CXL 3.1. -/
inductive MboxCode where
  | success | backgroundStarted | invalidInput | unsupported | busy | invalidSecurityState
  | fwTransferOutOfOrder | fwAuthenticationFailed | invalidSlot | internalError | invalidHandle | invalidPhysicalAddress
  deriving DecidableEq, Repr

/-- A background operation of a mailbox (03 R88). -/
inductive BgKind where
  | objectCommand (cmd : Nat) | transferFw | scanMedia | sanitize | passphraseSecureErase
  deriving DecidableEq, Repr

/-- The background operation of a head: its kind, whether it has ended, and its return code. -/
structure BgOp where
  kind : BgKind := .scanMedia
  done : Bool := false
  code : MboxCode := .success
  deriving DecidableEq, Repr

/-- The last background 0xC010 of a head (03 R92). -/
structure ObjRes where
  cmd : Nat := 0
  result : Option CmdResult := none
  deriving DecidableEq, Repr

/-- Aliases of a register (13 R376). -/
inductive AliasKind where
  | set | clear | toggle
  deriving DecidableEq, Repr

/-- A posted window write (13 R375): the entry, the part of it, the value or alias mask. -/
structure WinWrite where
  index : Nat := 0
  sub : Nat := 0
  part : WinPart := .word
  value : BitVec 64 := 0
  kind : Option AliasKind := none
  deriving DecidableEq, Repr

/-- The result of a command entry for one requester (13 R370): `none` while it runs. -/
structure DictRes where
  req : Requester := .mailbox 0
  entry : Nat := 0
  cmd : Nat := 0
  result : Option (List Byte) := none
  deriving DecidableEq, Repr

/-- A mirror write taken by the partner and not yet committed (09 R252). -/
structure MirReq where
  tag : Nat := 0
  line : Nat := 0
  data : Line := 0
  mask : Mask := 0
  poison : Bool := false
  /-- Arrival head of the write, for the limits of 04 R123. -/
  head : PairHead := 0
  deriving DecidableEq, Repr

/-- A write that waits for squall credits or window room (04 R123): a write of a head or of
the twin link at its home, or a mirror write of the partner. -/
inductive Waiter where
  | home (r : Req)
  | mirror (m : MirReq)
  deriving DecidableEq, Repr

/-- The answer to a dictionary access: done, a value, or an abort code (13 R361). -/
inductive DictAnswer where
  | done
  | value (bytes : List Byte)
  | abort (code : BitVec 32)
  deriving DecidableEq, Repr


/-- The three parts of Table 00-1 (R2). -/
inductive Part where
  | klx9256
  | klx9128
  | klx9064
  deriving DecidableEq, Repr

/-- Identity and fuses of the chip. -/
structure Ident where
  /-- Fused part number (00 R2). -/
  part : Part := .klx9256
  /-- Vendor ID, 16 bits (03 R79). -/
  vendor : BitVec 16 := Config.vendorId
  /-- Device ID, 16 bits (03 R79). -/
  device : BitVec 16 := Config.deviceId
  /-- Device Serial Number, 64 bits (03 R79). -/
  serial : BitVec 64 := Config.chipSerial
  /-- Ring address, 48 bits (13 R350). -/
  ringMac : BitVec 48 := Config.ringMac
  deriving DecidableEq, Repr

/-- Time base and clock monitor. -/
structure Clock where
  /-- AON_CLK timestamp counter, 40 ns a count (01 R20). -/
  ticks : Nat := 0
  /-- Offset of Set Timestamp, ns (01 R20). -/
  offset : Int := 0
  /-- A host has set the timestamp since this start-up (06 R193). -/
  hostSet : Bool := false
  /-- REFCLK seen by the clock monitor (01 R21). -/
  refclkOk : Bool := true
  /-- The root PLL runs in holdover (01 R21). -/
  holdover : Bool := false
  /-- Tick at which the main domain last left reset (UPTIME) (14 R383). -/
  leftReset : Nat := 0
  deriving DecidableEq, Repr

/-- Link of a head (R80, R101, R295, R387). -/
inductive LinkState where
  | detect
  | training
  | up
  | disabled
  deriving DecidableEq, Repr

/-- CXL Media Status of a head (R387, R393). -/
inductive MediaStatus where
  | notReady
  | ready
  | error
  deriving DecidableEq, Repr

/-- One HDM decoder (R83). -/
structure Hdm where
  /-- HPA base, 64 bits (03 R83). -/
  base : BitVec 64 := 0
  /-- Range length, 64 bits (03 R83). -/
  size : BitVec 64 := 0
  /-- DPA base, 64 bits (03 R83). -/
  dpa : BitVec 64 := 0
  /-- Interleave ways encoding (0 = 1 way), 4 bits (03 R83). -/
  ways : BitVec 4 := 0
  /-- Interleave granularity, ignored, 4 bits (03 R83). -/
  gran : BitVec 4 := 0
  /-- Committed (03 R83). -/
  committed : Bool := false
  /-- Error Not Committed (03 R83). -/
  errNotCommitted : Bool := false
  /-- Lock On Commit (03 R83). -/
  lockOnCommit : Bool := false
  deriving DecidableEq, Repr

/-- One direction of an IDE stream (R99, R330, R332). -/
structure IdeDir where
  /-- Key set K0 programmed (12 R330). -/
  prog0 : Bool := false
  /-- Key set K1 programmed (12 R330). -/
  prog1 : Bool := false
  /-- Active key set (false K0, true K1) (12 R330). -/
  active : Option Bool := none
  /-- Invocation counter under the active key, 64 bits (12 R332). -/
  count : Nat := 0
  deriving DecidableEq, Repr

/-- One CXL event log (R94), 256 records. -/
structure EventLog where
  /-- Records, oldest first (03 R94). -/
  recs : List EventRec := []
  /-- Overflow flag (03 R94). -/
  overflow : Bool := false
  /-- Overflow count (03 R94). -/
  overCount : Nat := 0
  /-- Handle of the next record (03 R94). -/
  nextHandle : Nat := 1
  deriving DecidableEq, Repr

/-- Cue ring of a head (R64 to R68). -/
structure Cue where
  /-- CUE_TAIL TAIL, 8 bits (02 R64). -/
  tail : BitVec 8 := 0
  /-- CUE_HEAD HEAD, 8 bits (02 R64). -/
  head : BitVec 8 := 0
  /-- CUE_HEAD EXP_PHASE (02 R64). -/
  expPhase : Bool := true
  /-- CUE_CTRL ENABLE (02 R64). -/
  enable : Bool := false
  /-- CUE_CTRL RESET_BUSY (02 R64). -/
  resetBusy : Bool := false
  /-- CUE_CTRL IRQ_EN (02 R64). -/
  irqEn : Bool := false
  /-- CUE_CTRL COALESCE, 8 bits (02 R64). -/
  coalesce : BitVec 8 := 0
  /-- CUE_STAT PHASE_ERR, W1C (02 R64). -/
  phaseErr : Bool := false
  /-- CUE_STAT TAIL_ERR, W1C (02 R64). -/
  tailErr : Bool := false
  /-- A coalescing delay runs (02 R64). -/
  delaying : Bool := false
  /-- 256 entries of 64 B, byte addressed (02 R64). -/
  entries : Memory := []
  deriving DecidableEq, Repr

/-- An SPDM session (R342). -/
structure SpdmSession where
  /-- Session number (12 R342). -/
  id : Nat := 0
  /-- FINISH done (12 R342). -/
  finished : Bool := false
  /-- Heartbeats missed (12 R342). -/
  missed : Nat := 0
  deriving DecidableEq, Repr

/-- Progress of an SPDM connection. -/
inductive SpdmStage where
  | none
  | version
  | caps
  | algorithms
  deriving DecidableEq, Repr

/-- One CXL head. -/
structure Head where
  /-- Link state (03 R80). -/
  link : LinkState := .detect
  /-- PERST_N asserted (03 R101). -/
  perst : Bool := true
  /-- LINK_STAT RATE, 3 bits (03 R103). -/
  rate : Fin 4 := 0
  /-- LINK_STAT WIDTH, 3 bits (03 R103). -/
  width : Fin 4 := 0
  /-- LINK_STAT FLIT256 (03 R103). -/
  flit256 : Bool := false
  /-- LINK_STAT IDE_ON (03 R103). -/
  ideOn : Bool := false
  /-- LINK_STAT IDE_SKID (03 R103). -/
  ideSkid : Bool := false
  /-- Receive direction of the IDE stream (12 R330). -/
  ideRx : IdeDir := {}
  /-- Transmit direction of the IDE stream (12 R330). -/
  ideTx : IdeDir := {}
  /-- HEAD_EVT, 6 W1C bits (03 R103). -/
  evt : BitVec 6 := 0
  /-- HDM decoders (03 R83). -/
  hdm : Vector Hdm 4 := Vector.replicate 4 {}
  /-- Media Status (15 R387). -/
  media : MediaStatus := .notReady
  /-- Memory_Active (15 R387). -/
  memActive : Bool := false
  /-- Event logs: Informational, Warning, Failure, Fatal, Dynamic Capacity (03 R94). -/
  logs : Vector EventLog 5 := Vector.replicate 5 {}
  /-- Event interrupt policy, MSI-X bit per log (03 R96). -/
  irqPolicy : BitVec 5 := 0
  /-- Response message limit (03 R88). -/
  respLimit : BitVec 8 := 0
  /-- Cue ring (02 R64). -/
  cue : Cue := {}
  /-- Extents offered and not answered (03 R85). -/
  offered : BitVec 8 := 0
  /-- Extents accepted (03 R85). -/
  accepted : BitVec 8 := 0
  /-- Extents the host released, not offered again (03 R85). -/
  hostReleased : BitVec 8 := 0
  /-- Releases the device started (03 R85). -/
  releasing : BitVec 8 := 0
  /-- The head has trained since the device reset (03 R85). -/
  trained : Bool := false
  /-- Background operation of the mailbox (03 R88). -/
  bg : Option BgOp := none
  /-- Last background 0xC010 on this head and its result (03 R92). -/
  objResult : Option ObjRes := none
  /-- SPDM sessions of the head (12 R342). -/
  sessions : List SpdmSession := []
  /-- SPDM connection state of the head (12 R342). -/
  spdm : SpdmStage := .none
  /-- Posted window writes, PENDING counts them (13 R375). -/
  pendingWin : List WinWrite := []
  /-- WIN_STATUS ERR, W1C (13 R375). -/
  winErr : Bool := false
  /-- WIN_ERR_OFFSET (13 R375). -/
  winErrOffset : BitVec 20 := 0
  /-- WIN_ERR_CODE (13 R375). -/
  winErrCode : BitVec 32 := 0
  /-- Base addresses in BAR0, BAR2 and BAR4 (03 R79). -/
  bars : Vector (BitVec 64) 3 := Vector.replicate 3 0
  /-- Get Poison List in progress: range and records returned (03 R88). -/
  poisonAt : Nat × Nat × Nat := (0, 0, 0)
  /-- Low halves held for a 64-bit write (13 R374). -/
  heldLow : List (Nat × BitVec 32) := []
  deriving DecidableEq, Repr

/-- One reader of a reel. -/
structure Reader where
  /-- READER 0 to 31 (02 R70). -/
  no : Nat := 0
  /-- Position (02 R71). -/
  cursor : Nat := 0
  deriving DecidableEq, Repr

/-- One open reel (R69 to R72). -/
structure Reel where
  /-- REEL_ID 0 to 255 (02 R70). -/
  id : Nat := 0
  /-- Object identifier (02 R70). -/
  obj : Nat := 0
  /-- Start segment (02 R69). -/
  start : Nat := 0
  /-- Positions (02 R69). -/
  count : Nat := 0
  /-- STRIDE (02 R69). -/
  stride : Nat := 1
  /-- WINDOW in positions (02 R69). -/
  window : Nat := 4
  /-- Readers (02 R70). -/
  readers : List Reader := []
  /-- Positions prefetched and held (02 R69). -/
  held : List Nat := []
  deriving DecidableEq, Repr

/-- An object command read and not yet completed, or completed and not yet delivered (R66, R67). -/
structure RunCmd where
  /-- Model's own number of the command (02 R66). -/
  id : Nat := 0
  /-- Path on which it arrived (02 R57). -/
  path : CmdPath := .mailbox 0
  /-- The command entry (02 R57). -/
  entry : CmdEntry := 0
  /-- First segment of the range it works on (08 R223). -/
  first : Nat := 0
  /-- Segments of the range (08 R223). -/
  count : Nat := 0
  /-- Segments handled (08 R242). -/
  done : Nat := 0
  /-- Waits for an earlier command (Table 08-6), for FENCE or for CUE_INFLIGHT_MAX (08 R241). -/
  waits : Bool := false
  /-- Segments of its range that a PROMOTE has reached (02 R438). -/
  next : Nat := 0
  /-- Result, once complete (02 R67). -/
  result : Option CmdResult := none
  /-- Its result waits for the table and map operations below this number (15 R391). -/
  durable : Nat := 0
  deriving DecidableEq, Repr

/-- Tail of a shrinking RESIZE whose command has not completed (R435). -/
structure Tail where
  /-- The command (02 R435). -/
  cmd : Nat := 0
  /-- First twin granule released (02 R435). -/
  first : Nat := 0
  /-- Granules released (02 R435). -/
  granules : Nat := 0
  deriving DecidableEq, Repr

/-- Objects, commands and reels. -/
structure Objects where
  /-- Object table with the replica of the partner's, keyed by identifier (02 R50). -/
  table : SMap Obj := []
  /-- Commands in flight, in order of start (02 R66). -/
  cmds : List RunCmd := []
  /-- Next command number (02 R66). -/
  nextCmd : Nat := 0
  /-- Tails of shrinking RESIZE commands (02 R435). -/
  tails : List Tail := []
  /-- Reel table, at most 256 open (02 R70). -/
  reels : List Reel := []
  /-- Segments with a home here that reels of the partner hold (02 R69). -/
  peerHolds : List Nat := []
  /-- Objects of which the partner has still to rewrite lines under the new key (02 R55). -/
  peerRekey : List Nat := []
  /-- OBJ_CMD and BIST_CMD results per requester (13 R370). -/
  dictRes : List DictRes := []
  deriving DecidableEq, Repr

/-- Frame kinds (Table 04-2). -/
inductive Kind where
  | free
  | clean
  | dirty
  | evicting
  | outside
  | pin
  | pinFree
  | scratch
  deriving DecidableEq, Repr

/-- ROLE of a frame state word. -/
inductive Role where
  | primary
  | shadow
  | detached
  | mirrorHeld
  deriving DecidableEq, Repr

/-- Tag entry and frame state word (Tables 04-2 and 04-3). -/
structure Frame where
  /-- SEGMENT, twin segment number, 37 bits (04 R109). -/
  seg : Nat := 0
  /-- Kind, 3 bits (04 R109). -/
  kind : Kind := .free
  /-- Re-reference age, 2 bits (04 R111). -/
  age : Nat := 0
  /-- ROLE (04 R109). -/
  role : Role := .primary
  /-- REEL_HOLDS, 16 bits (04 R109). -/
  holds : Nat := 0
  /-- VALID (04 R109). -/
  valid : BitVec 64 := 0
  /-- DIRTY (04 R109). -/
  dirty : BitVec 64 := 0
  /-- PENDING, or lost lines of a SCRATCH frame (04 R109). -/
  pending : BitVec 64 := 0
  /-- WB (04 R109). -/
  wb : BitVec 64 := 0
  /-- PEER frame number (04 R109). -/
  peer : Option Nat := none
  /-- LAST_USE in microseconds (04 R109). -/
  lastUse : Nat := 0
  /-- Time in ns since when each dirty line is dirty, by sector (age of R126) (04 R126). -/
  dirtyAt : SMap Nat := []
  /-- The second frame of a detached pair (04 R118). -/
  second : Bool := false
  /-- Slot not yet rebuilt on the spare (R150) (05 R150). -/
  unbuilt : Bool := false
  /-- Its dirty lines exist once after a takeover (R266) (09 R266). -/
  once : Bool := false
  deriving DecidableEq, Repr

/-- A stored line with its poison mark (R202). -/
structure Stored where
  /-- 64 B (07 R202). -/
  data : Line := 0
  /-- Poison mark (07 R202). -/
  poison : Bool := false
  deriving DecidableEq, Repr

/-- Progress of a medium read. -/
inductive MissStage where
  | waiting
  | queued
  | standin
  | fetching
  | returned
  deriving DecidableEq, Repr

/-- A medium read in the cache pipeline (R112, R172, R209). -/
structure Miss where
  /-- Twin line number (06 R172). -/
  line : Nat := 0
  /-- Frame whose sector is pending, none for a bypass read (04 R112). -/
  frame : Option Nat := none
  /-- Progress (06 R172). -/
  stage : MissStage := .waiting
  /-- Ladder step reached, 1 to 5 (07 R209). -/
  step : Nat := 1
  /-- Waited for queue room (06 R172). -/
  waited : Bool := false
  /-- Returned line (07 R209). -/
  got : Option Stored := none
  /-- A write has replaced the fill data (04 R112). -/
  drop : Bool := false
  /-- Reads that wait for it (07 R210). -/
  readers : List Req := []
  /-- CXL transaction type of the read (R95) (03 R95). -/
  cause : Nat := 1
  /-- Holds one of the 256 recovery entries (07 R210). -/
  recovering : Bool := false
  /-- Members whose line of the stripe decoded uncorrectable, with the drift bin applied (07 R209). -/
  failed : List (Nat × Nat) := []
  deriving DecidableEq, Repr

/-- An entry of the merge table (R113), 65,536 entries. -/
structure Merge where
  /-- Twin line number (04 R113). -/
  line : Nat := 0
  /-- Byte enables already written (04 R113). -/
  mask : Mask := 0
  /-- Issuing head (07 R212). -/
  head : Option HeadNo := none
  deriving DecidableEq, Repr

/-- Medium home of a granule. -/
structure Slot where
  /-- Stripe group (06 R161). -/
  group : Nat := 0
  /-- Slot in the group, 25 bits (06 R161). -/
  slot : Nat := 0
  deriving DecidableEq, Repr

/-- Slot record (Table 06-15). -/
structure SlotRec where
  /-- 0 nothing written, 1 all written, 2 mixed, 3 materialising (06 R196). -/
  state : Nat := 0
  /-- Generation, 30 bits (06 R196). -/
  gen : Nat := 0
  deriving DecidableEq, Repr

/-- The tables of the table region (R391). -/
structure Tables where
  /-- Generation (15 R391). -/
  gen : Nat := 0
  /-- Object table (15 R391). -/
  objs : SMap Obj := []
  /-- Granule map and slot ownership, by twin granule (15 R391). -/
  slots : SMap Slot := []
  /-- Route map (15 R391). -/
  routes : SMap Bool := []
  deriving DecidableEq, Repr

/-- Causes of programs (Table 06-3). -/
inductive ProgCause where
  | fullStripe
  | partialStripe
  | dolly
  | mapUpdate
  | dirtyMap
  | tableRegion
  | driftRefresh
  | scrubRewrite
  | relocation
  | rebuild
  | initialisation
  | repair
  deriving DecidableEq, Repr

/-- A line on the medium as a lane deciphers it (R163, R202, R324). -/
structure MedLine where
  /-- Plaintext under its own key (06 R163). -/
  data : Line := 0
  /-- Identity of the media key it was enciphered under (12 R324). -/
  key : Nat := 0
  /-- Poison mark (07 R202). -/
  poison : Bool := false
  deriving DecidableEq, Repr

/-- One operation on a stripe: a write-back from its snapshot on, or another update of Table 06-3 (R128, R166). -/
structure WbOp where
  /-- Model's number of the operation (04 R128). -/
  id : Nat := 0
  /-- Stripe group (06 R166). -/
  group : Nat := 0
  /-- Stripe number in the group (R162) (06 R162). -/
  stripe : Nat := 0
  /-- Cause of Table 06-3 (06 R164). -/
  cause : ProgCause := .fullStripe
  /-- Assembly area: the medium lines it programs, by line key (06 R167). -/
  lines : List (Nat × MedLine) := []
  /-- Twin lines of the snapshot, released at its end (04 R128). -/
  release : List Nat := []
  /-- Members still to program, in order, parity last (06 R166). -/
  todo : List Nat := []
  /-- Holds the reservation of its row (06 R166). -/
  reserved : Bool := false
  /-- The program under way was reissued after a program-failed token (06 R185). -/
  retried : Bool := false
  /-- Every program is confirmed (04 R128). -/
  finished : Bool := false
  /-- Data units 0 to 7 it changes, where it carries no lines; of a full stripe, those of which it reads lines from the medium (06 R166). -/
  units : List Nat := []
  /-- Words of the written map that it programs, by the key of the map (06 R197). -/
  words : List (Nat × BitVec 64) := []
  /-- Slot records that it programs, by slot (06 R198). -/
  slotRecs : List (Nat × SlotRec) := []
  /-- Dirty map that it programs (10 R297). -/
  dirty : List Nat := []
  /-- Tables that it programs (15 R391). -/
  tables : Option Tables := none
  /-- Time since when its next program waits, ns (06 R177). -/
  since : Nat := 0
  /-- Lines whose recovery it waits for (07 R211). -/
  waits : List Nat := []
  /-- Writes a stripe of a slot being materialised (06 R199). -/
  mat : Bool := false
  deriving DecidableEq, Repr

/-- One entry of the descriptor cache (R133). -/
structure DescEntry where
  /-- Object identifier (04 R133). -/
  obj : Nat := 0
  /-- BASE, GRANULES and attributes (04 R133). -/
  desc : Obj := {}
  /-- MOVING (04 R133). -/
  moving : Bool := false
  deriving DecidableEq, Repr

/-- Change of locked ways in progress (R130). -/
structure WayChange where
  /-- WAYS_SCRATCH asked for (04 R130). -/
  scratch : Nat := 0
  /-- WAYS_PIN asked for (04 R130). -/
  pin : Nat := 0
  deriving DecidableEq, Repr

/-- What an HBM access is for (Table 05-4). -/
inductive HbmTraffic where
  | fence
  | hostRead
  | mirrorWrite
  | hostWrite
  | fillWrite
  | mergeWrite
  | corrected
  | rebuildDemand
  | snapshotRead
  | staging
  | metadata
  | rebuild
  | patrol
  | spareTest
  deriving DecidableEq, Repr

/-- A line access in a queue of a pseudo-channel's scheduler (R139). -/
structure HbmCmd where
  /-- What it is for (05 R139). -/
  traffic : HbmTraffic := .hostRead
  /-- A write (05 R139). -/
  write : Bool := false
  /-- Pseudo-channel-local byte address, 30 bits (05 R138). -/
  addr : Nat := 0
  /-- Number in order of arrival (05 R139). -/
  no : Nat := 0
  deriving DecidableEq, Repr

/-- The scheduler of a pseudo-channel (R139, R140). -/
structure PcSched where
  /-- Read queue, oldest first, at most 64 (05 R139). -/
  reads : List HbmCmd := []
  /-- Write queue, oldest first, at most 64 (05 R139). -/
  writes : List HbmCmd := []
  /-- Number of the next command (05 R139). -/
  next : Nat := 0
  /-- Writes left of a batch (05 R140). -/
  batch : Nat := 0
  /-- A forced drain runs (05 R140). -/
  forced : Bool := false
  /-- The turn in class 1 is a mirror write's (05 R139). -/
  mirrorTurn : Bool := false
  /-- Command issued last (05 R139). -/
  last : Option HbmCmd := none
  deriving DecidableEq, Repr

/-- Cache, persistent window, admission. -/
structure Cache where
  /-- Frames by number 16 s + w, 3,145,728 (04 R107). -/
  frames : SMap Frame := []
  /-- HBM contents of frame sectors, by 64 * frame + sector (04 R107). -/
  lines : SMap Stored := []
  /-- Descriptor cache, most recent first, at most 48 (04 R133). -/
  descs : List DescEntry := []
  /-- Descriptor misses waiting, by object identifier (04 R133). -/
  descMiss : List Nat := []
  /-- Medium reads in the pipeline (06 R172). -/
  misses : List Miss := []
  /-- Merge table (04 R113). -/
  merges : List Merge := []
  /-- Partial writes held for a merge entry (04 R113). -/
  mergeQ : List Req := []
  /-- Requests that wait outside the device, their head withholding credits, in order of arrival; the line is the host physical address / 64 (04 R123). -/
  outside : List Req := []
  /-- Writes that wait for squall credits or window room, in order of arrival (04 R123). -/
  creditQ : List Waiter := []
  /-- Lines released towards byte credits (one credit per two) (04 R123). -/
  byteHalves : Nat := 0
  /-- Frames released towards frame credits (04 R123). -/
  frameHalves : Nat := 0
  /-- Dirty budget applied by admission (04 R121). -/
  budget : Nat := 0
  /-- SQUALL_STATE (04 R122). -/
  squall : Nat := 0
  /-- Time in squall mode since reset (04 R122). -/
  squallTicks : Nat := 0
  /-- SQUALL_STATE of the partner's last SQUALL_NOTE (04 R123). -/
  partnerSquall : Nat := 0
  /-- Write-back operations from snapshot to release (04 R128). -/
  wb : List WbOp := []
  /-- Next operation number (04 R128). -/
  nextOp : Nat := 0
  /-- Ways locked as scratch now (04 R129). -/
  waysScratch : Nat := 0
  /-- Ways locked as pin pool now (04 R129). -/
  waysPin : Nat := 0
  /-- Change in progress (04 R130). -/
  wayChange : Option WayChange := none
  /-- Schedulers of the pseudo-channels, by number; absent is an idle one (05 R139). -/
  sched : SMap PcSched := []
  /-- MODEL'S OWN: counter of free choices made (04 R117). -/
  choice : Nat := 0
  deriving DecidableEq, Repr

/-- Pseudo-channel states (Table 05-10). -/
inductive PcState where
  | inService
  | spare
  | retiring
  | retired
  | failedTraining
  | spareFailed
  deriving DecidableEq, Repr

/-- Retirement in progress (R150). -/
structure Retire where
  /-- Failing pseudo-channel (05 R150). -/
  pc : Nat := 0
  /-- In-service index (05 R150). -/
  index : Nat := 0
  /-- Row of Table 05-7 (05 R149). -/
  trigger : Nat := 0
  /-- Rebound to the spare and hold released (05 R150). -/
  settled : Bool := false
  /-- Time of the fence, ns (05 R155). -/
  fencedAt : Nat := 0
  /-- Lines poisoned in the retirement (3814:01) (05 R150). -/
  poisoned : Nat := 0
  /-- Place in the order of Table 05-8 that the rebuild has reached, 1 to 8 (05 R150). -/
  order : Nat := 1
  /-- Frames to rebuild (05 R155). -/
  total : Nat := 0
  deriving DecidableEq, Repr

/-- A compare block (R146). -/
structure Compare where
  /-- Errors counted on each lane (05 R146). -/
  errors : Vector Nat 64 := Vector.replicate 64 0
  /-- First failing address (05 R146). -/
  firstFail : Option Nat := none
  /-- MISR result read last through the IEEE 1500 port (05 R146). -/
  misr : BitVec 64 := 0
  deriving DecidableEq, Repr

/-- HBM2E controller. -/
structure Hbm where
  /-- PC_STATE (05 R148). -/
  pcs : Vector PcState 16 := (Vector.replicate 16 .inService).set 15 .spare
  /-- In-service index of each pseudo-channel (04 R105). -/
  index : Vector (Option Nat) 16 := Vector.ofFn (fun i => if i.val < 15 then some i.val else none)
  /-- Retirement in progress (05 R150). -/
  retire : Option Retire := none
  /-- Requests held between fence and rebind (05 R150). -/
  heldForFence : List Req := []
  /-- Mirror writes of the partner held between fence and rebind (05 R150). -/
  heldMirror : List MirReq := []
  /-- Refreshes owed, by 32 * pc + bank (05 R145). -/
  owed : SMap Nat := []
  /-- Stack temperature last read (05 R144). -/
  tempC : Int := 0
  /-- REFRESH_TIER (05 R144). -/
  tier : Nat := 0
  /-- Consecutive readings at least 2 C below 95 C, at most 2 counted (05 R144). -/
  below : Nat := 0
  /-- Consecutive readings at least 2 C below 85 C, at most 2 counted (05 R144). -/
  below85 : Nat := 0
  /-- Channels in self-refresh (05 R156). -/
  selfRefresh : BitVec 8 := 0
  /-- Panic signal (05 R142). -/
  panic : Bool := false
  /-- Uncorrectable bursts (pc, time ns) in the retirement window (05 R149). -/
  ueTimes : List (Nat × Nat) := []
  /-- Parity errors that repeated after their retry (pc, time ns) in the last second (05 R149). -/
  parTimes : List (Nat × Nat) := []
  /-- Corrected bursts of each pc in the hour that ended at its last one (05 R149). -/
  ceHour : Vector Nat 16 := Vector.replicate 16 0
  /-- Corrected bursts (pc, time ns) of the last hour (05 R149). -/
  ceTimes : List (Nat × Nat) := []
  /-- Training has ended and enough channels pass (05 R148). -/
  trained : Bool := false
  /-- RETIRE_LOG, 32 B (05 R155). -/
  retireLog : Nat := 0
  /-- TRAIN_MARGIN, 16 B each (05 R148). -/
  margins : Vector Nat 16 := Vector.replicate 16 0
  /-- Compare block of each pc (05 R146). -/
  compare : Vector Compare 16 := Vector.replicate 16 {}
  deriving DecidableEq, Repr

/-- Channel states (Table 06-13). -/
inductive ChState where
  | absent
  | powering
  | training
  | ready
  | member
  | rebuilding
  | removing
  | safe
  | missing
  | failed
  deriving DecidableEq, Repr

/-- Stripe group states (Table 06-6). -/
inductive SgState where
  | healthy
  | degraded
  | rebuilding
  | failed
  | initialising
  | empty
  | retraining
  deriving DecidableEq, Repr

/-- GROUP_STAMP of a module (Table 06-11); all zero is blank. -/
structure Stamp where
  /-- Chip serial (06 R186). -/
  chip : BitVec 64 := 0
  /-- Group (06 R186). -/
  group : Nat := 0
  /-- Member (06 R186). -/
  member : Nat := 0
  /-- Group epoch, 64 bits (06 R186). -/
  epoch : Nat := 0
  /-- Check (06 R186). -/
  check : BitVec 64 := 0
  deriving DecidableEq, Repr

/-- Registers of a seated module (Table 06-11). -/
structure Module where
  /-- VENDOR (06 R186). -/
  vendor : BitVec 32 := 0
  /-- GEOMETRY (06 R186). -/
  geometry : BitVec 32 := 0x10041001
  /-- UNITS (06 R186). -/
  units : BitVec 32 := 9175040
  /-- SERIAL (06 R186). -/
  serial : BitVec 64 := 0
  /-- REV (06 R186). -/
  rev : BitVec 32 := 0
  /-- TEMP (06 R186). -/
  temp : BitVec 8 := 0
  /-- MAX_WEAR (06 R186). -/
  maxWear : BitVec 32 := 0
  /-- SPARES_LEFT (06 R159). -/
  spares : BitVec 32 := 262144
  /-- ERR_STATUS: CA_PAR, OP_ERR, PROG_FAIL, THERMAL, SPARES_LOW (06 R186). -/
  errStatus : BitVec 5 := 0
  /-- GROUP_STAMP (06 R186). -/
  stamp : Stamp := {}
  /-- TRAIN_CTRL STEP (06 R186). -/
  trainStep : BitVec 4 := 0
  /-- TRAIN_RESULT (06 R186). -/
  trainResult : BitVec 32 := 0
  /-- Minute count last sent by TIMEBEAT, 24 bits (06 R193). -/
  minute : Nat := 0
  deriving DecidableEq, Repr

/-- A busy partition (R160, R184). -/
structure Busy where
  /-- Partition row 0 to 1,023 (06 R160). -/
  part : Nat := 0
  /-- Unit offset (06 R160). -/
  unit : Nat := 0
  /-- Cause of Table 06-3 (06 R164). -/
  cause : ProgCause := .fullStripe
  /-- Operation it belongs to (06 R164). -/
  op : Nat := 0
  /-- Reissued after a program-failed token (06 R185). -/
  retried : Bool := false
  deriving DecidableEq, Repr

/-- A read in a channel's queue (R172). -/
structure ReadQ where
  /-- Line that the read serves (06 R172). -/
  line : Nat := 0
  /-- Partition row (06 R182). -/
  part : Nat := 0
  /-- Unit offset (06 R182). -/
  unit : Nat := 0
  /-- Line in the unit (06 R182). -/
  index : Nat := 0
  /-- ARG: 0, or 1 to 5 for a forced drift bin (06 R182). -/
  arg : Nat := 0
  /-- Its command frame has been sent (06 R168). -/
  issued : Bool := false
  deriving DecidableEq, Repr

/-- One GMI channel. -/
structure Channel where
  /-- MED_CH_STATE (06 R436). -/
  state : ChState := .absent
  /-- MODnn_PRSNT_N level (06 R181). -/
  prsntN : Bool := true
  /-- MODnn_PWRGD level (06 R181). -/
  pwrgd : Bool := false
  /-- MODnn_ATTN_N level (06 R181). -/
  attnN : Bool := true
  /-- GMInn_ALERT_N level (06 R181). -/
  alertN : Bool := true
  /-- TAG of the next command frame, 0 to 63 (06 R182). -/
  tag : Nat := 0
  /-- Header beat of the last burst from the module (06 R183). -/
  header : BitVec 32 := 0
  /-- ERR_STATUS as last read, reported by MED_MOD_INFO (06 R186). -/
  errRead : BitVec 5 := 0
  /-- MODnn_PWREN (06 R436). -/
  pwren : Bool := false
  /-- GMInn_RST_N (06 R436). -/
  rstN : Bool := false
  /-- MODnn_LED: 0 off, 1 on, 2 blinking (06 R436). -/
  led : Nat := 0
  /-- The 3 s refusal blink runs (06 R190). -/
  refuseBlink : Bool := false
  /-- Registers of the module (06 R186). -/
  module : Module := {}
  /-- Busy partitions with their cause (06 R160). -/
  busy : List Busy := []
  /-- Reads in the channel's queue, at most 16 (06 R172). -/
  reads : List ReadQ := []
  /-- Times of the CA parity errors of the last ms, ns (06 R187). -/
  caParErrs : List Nat := []
  /-- Consecutive reads without a header beat (06 R187). -/
  noHeader : Nat := 0
  /-- The channel retrains (R189) (06 R189). -/
  retraining : Bool := false
  /-- Completion tokens due (06 R190). -/
  tokensDue : Nat := 0
  /-- GMI_TRAIN_MARGIN, 16 B (06 R187). -/
  margin : Nat := 0
  /-- Retrains (06 R189). -/
  retrains : Nat := 0
  /-- Units (partition, unit) owed a RELOCATE (06 R191). -/
  wearDue : List (Nat × Nat) := []
  /-- Five reference offsets per die (06 R194). -/
  refs : SMap (BitVec 40) := []
  /-- Minute count at which the last SET_REF of a die was sent (06 R194). -/
  refAt : SMap Nat := []
  deriving DecidableEq, Repr

/-- One stripe group. -/
structure Group where
  /-- SG_STATE (06 R177). -/
  state : SgState := .empty
  /-- Group epoch (06 R188). -/
  epoch : Nat := 0
  /-- SG_MISSING, member (06 R177). -/
  missing : Option Nat := none
  /-- State to which a RETRAINING group returns (06 R189). -/
  before : SgState := .healthy
  /-- Units of the patrol pass passed over because their partition was busy (07 R213). -/
  skipped : List Nat := []
  /-- Slots initialised (06 R180). -/
  cursor : Nat := 0
  /-- Rebuild cursor of each partition row: the first unit not yet rebuilt (06 R178). -/
  rows : SMap Nat := []
  /-- Next unit of the patrol pass (07 R213). -/
  scrubPos : Nat := 0
  /-- Time at which the pass began, ns (07 R213). -/
  scrubStart : Nat := 0
  /-- Source of an evacuation (08 R243). -/
  evacuating : Bool := false
  /-- EMPTY by an evacuation: only initialisation ends it (16 R405). -/
  evacuated : Bool := false
  deriving DecidableEq, Repr

/-- Unit metadata and stamp (R183, R193). -/
structure UnitMeta where
  /-- Minute count at its program (06 R193). -/
  minute : Nat := 0
  /-- Twin segment number, 0 for parity and internal units (06 R183). -/
  seg : Nat := 0
  /-- Key tag (06 R183). -/
  keyTag : BitVec 8 := 0
  /-- 0 data, 1 parity, 2 map, 3 zero-fill (06 R183). -/
  kind : Nat := 0
  /-- Map generation of a map unit (06 R183). -/
  gen : Nat := 0
  /-- Program count of the unit (06 R191). -/
  count : Nat := 0
  deriving DecidableEq, Repr

/-- Released segments of one slot that are to be overwritten (R60). -/
structure ScrubRun where
  /-- Key tag of the lines (02 R60). -/
  tag : Tag := 0
  /-- The slot (02 R60). -/
  slot : Slot := {}
  /-- First segment in the slot, 0 to 511 (02 R60). -/
  first : Nat := 0
  /-- Segments (02 R60). -/
  count : Nat := 0
  deriving DecidableEq, Repr

/-- A mixed slot: its entry of the mixed index (Table 06-15). -/
structure Mixed where
  /-- Mixed block number, 0 to 122,367 (06 R196). -/
  block : Nat := 0
  /-- Time of the last change of the slot's bitmaps, ns (06 R199). -/
  changed : Nat := 0
  /-- Slot state 0b11: being materialised (06 R196). -/
  filling : Bool := false
  deriving DecidableEq, Repr

/-- Medium, GMI and stripe groups. -/
structure Medium where
  /-- Channels CH00 to CH35 (06 R181). -/
  ch : Vector Channel 36 := Vector.replicate 36 {}
  /-- Stripe groups (06 R161). -/
  sg : Vector Group 4 := Vector.replicate 4 {}
  /-- Slot of each granule whose copy this chip holds, by twin granule (06 R161). -/
  slots : SMap Slot := []
  /-- Slots that each group of the partner can allocate (kept by TABLE_UPDATE) (02 R435). -/
  peerRoom : SMap Nat := []
  /-- The partner's granule map: its slot of each granule whose copy it holds, by twin granule (kept by TABLE_UPDATE) (09 R264). -/
  peerSlots : SMap Slot := []
  /-- Slot records on the medium, by 2^25 * group + slot (06 R196). -/
  recs : SMap SlotRec := []
  /-- Generation that each slot's record is to have, by the same key; absent is that of its record (06 R198). -/
  gens : SMap Nat := []
  /-- Mixed index and mixed blocks in use, by the same key (06 R196). -/
  mixed : SMap Mixed := []
  /-- Tables as the table region of the medium holds them (15 R391). -/
  tab : Tables := {}
  /-- Working written bitmaps, by 512 * (2^25 * group + slot) + segment (06 R196). -/
  map : SMap (BitVec 64) := []
  /-- Written bitmaps as slot records and map blocks on the medium give them, same key (06 R197). -/
  medMap : SMap (BitVec 64) := []
  /-- Lines on the medium, by 64 * (that key) + line (06 R162). -/
  lines : SMap MedLine := []
  /-- Unit metadata, by ((channel * 1024 + partition) * 2^24 + unit) (06 R183). -/
  units : SMap UnitMeta := []
  /-- Medium minute count (06 R193). -/
  minute : Nat := 0
  /-- MED_REMOVE_STATE (06 R190). -/
  removeState : Nat := 0
  /-- Granules whose home bit differs from their half (R51) (02 R51). -/
  routeMap : SMap Bool := []
  /-- Stale twin granules, ascending (09 R269). -/
  stale : List Nat := []
  /-- Last complete dirty map checkpoint, twin segments ascending (10 R297). -/
  dirtyMap : List Nat := []
  /-- Generation of the tables as they now stand (15 R391). -/
  tableGen : Nat := 0
  /-- Units counted per drift bin in the running pass (06 R194). -/
  binCount : Vector Nat 5 := Vector.replicate 5 0
  /-- Released segments not yet overwritten; SCRUB_BACKLOG counts them (02 R60). -/
  scrubLeft : List ScrubRun := []
  deriving DecidableEq, Repr

/-- Record of the poison list (R216). -/
structure Poison where
  /-- Twin line number of the first line (07 R216). -/
  line : Nat := 0
  /-- Length in 64 B units, 1 to 64 (07 R216). -/
  len : Nat := 1
  /-- Source, 3 bits (07 R214). -/
  src : Nat := 0
  deriving DecidableEq, Repr

/-- Scan Media (R219). -/
structure Scan where
  /-- Head that asked (07 R219). -/
  head : HeadNo := 0
  /-- First twin line (07 R219). -/
  first : Nat := 0
  /-- Lines (07 R219). -/
  count : Nat := 0
  /-- Every unit of the range has been read (07 R219). -/
  read : Bool := false
  /-- The scan has ended (07 R219). -/
  done : Bool := false
  /-- Marked lines found (07 R219). -/
  found : List Nat := []
  deriving DecidableEq, Repr

/-- Integrity. -/
structure Integ where
  /-- Poison list, at most 4,096 (07 R216). -/
  poison : List Poison := []
  /-- POISON_OVERFLOW (07 R216). -/
  overflow : Bool := false
  /-- Overflow timestamp (07 R216). -/
  overflowAt : Nat := 0
  /-- Shadow of the partner's records (07 R216). -/
  shadow : List Poison := []
  /-- Durable copy of the list in the ledger as last persisted (07 R217). -/
  durable : List Poison := []
  /-- Running or last Scan Media (07 R219). -/
  scan : Option Scan := none
  /-- Lines queued for stripe repair (07 R211). -/
  repairs : List Nat := []
  /-- Units (channel, partition * 2^24 + unit) queued for a scrub rewrite (07 R205). -/
  rewrites : List (Nat × Nat) := []
  /-- Line, ladder step reached and drift bin of the medium read that ended last, for the Component ID of its record (07 R220). -/
  ended : Nat × Nat × Nat := (0, 1, 0)
  /-- Life used warning threshold, percent (07 R207). -/
  lifeWarn : Nat := 100
  /-- Over-temperature warning threshold (07 R207). -/
  tempWarn : Int := 125
  /-- Corrected volatile error warning threshold (07 R207). -/
  ceVolWarn : Nat := 65535
  /-- Corrected persistent error warning threshold (07 R207). -/
  cePerWarn : Nat := 65535
  /-- Enabled alerts: life, over, under, volatile CE, persistent CE (07 R207). -/
  alertsOn : BitVec 5 := 0
  /-- Alerts set in Get Health Info (07 R207). -/
  alertsSet : BitVec 5 := 0
  deriving DecidableEq, Repr

/-- Segment states of an open granule (Table 08-2); WAITING is absence. -/
inductive SegStage where
  | claimed
  | copied
  | switched
  deriving DecidableEq, Repr

/-- Kinds of move (Table 08-1). -/
inductive MoveKind where
  | medium
  | cross
  | swap
  | rekey
  | mirrorBuild
  deriving DecidableEq, Repr

/-- An open granule move (R224). -/
structure OpenGran where
  /-- Command that carries it, none for an evacuation or resync (08 R224). -/
  cmd : Option Nat := none
  /-- Object identifier (08 R224). -/
  obj : Nat := 0
  /-- Twin granule (08 R224). -/
  gran : Nat := 0
  /-- Kind (08 R224). -/
  kind : MoveKind := .medium
  /-- Source slot (08 R224). -/
  src : Slot := {}
  /-- Target slot on this chip; none when the other chip holds it (08 R224). -/
  dst : Option Slot := none
  /-- New key tag (08 R224). -/
  key : BitVec 8 := 0
  /-- Segment states by segment 0 to 511 (08 R225). -/
  segs : SMap SegStage := []
  /-- Segments with MOVE_PREP outstanding (08 R229). -/
  prep : List Nat := []
  /-- Segments parked at T with the forwarded requests still to complete (08 R229). -/
  waiting : List (Nat × Nat) := []
  /-- A line was declared uncorrectable in the copy (08 R227). -/
  poisoned : Bool := false
  /-- This chip is T of a cross-chip move (08 R229). -/
  isTarget : Bool := false
  /-- Lines whose recovery the copy of their segment waits for (08 R227). -/
  suspect : List Nat := []
  /-- Its bitmaps are being programmed for the commit: by operations below this number (08 R225). -/
  commitAt : Option Nat := none
  deriving DecidableEq, Repr

/-- A granule waiting to open. -/
structure Queued where
  /-- Command (08 R224). -/
  cmd : Option Nat := none
  /-- Object (08 R224). -/
  obj : Nat := 0
  /-- Twin granule (08 R224). -/
  gran : Nat := 0
  /-- Kind (08 R224). -/
  kind : MoveKind := .medium
  /-- Target: 0 to 3, 0x10 to 0x13, 0x1F (08 R224). -/
  group : Nat := 0
  deriving DecidableEq, Repr

/-- A pin or unpin move of a segment (R234, R235). -/
structure PinMove where
  /-- Command (08 R234). -/
  cmd : Nat := 0
  /-- Twin segment (08 R234). -/
  seg : Nat := 0
  /-- The PIN frame (08 R234). -/
  frame : Nat := 0
  /-- True for PIN, false for UNPIN (08 R234). -/
  into : Bool := true
  /-- New frame of an unpin (08 R235). -/
  target : Option Nat := none
  deriving DecidableEq, Repr

/-- Evacuation (R243). -/
structure Evac where
  /-- Source group (08 R243). -/
  src : Nat := 0
  /-- Target mask (08 R243). -/
  mask : BitVec 8 := 0
  /-- Granules to move (08 R243). -/
  total : Nat := 0
  /-- Granules not yet opened (08 R243). -/
  left : List Nat := []
  /-- STOP was written (08 R243). -/
  stopping : Bool := false
  deriving DecidableEq, Repr

/-- The dolly. -/
structure Dolly where
  /-- Open granule moves, at most 64; the journal holds the same (08 R224). -/
  opened : List OpenGran := []
  /-- Granules waiting to open (08 R224). -/
  queue : List Queued := []
  /-- Pin and unpin moves (08 R234). -/
  pins : List PinMove := []
  /-- Requests parked at T (08 R229). -/
  parked : List Req := []
  /-- Evacuation running (08 R243). -/
  evac : Option Evac := none
  /-- EVAC_STATE (08 R243). -/
  evacState : Nat := 0
  /-- Paused for squall mode (08 R233). -/
  paused : Bool := false
  /-- Move journal in the ledger, by entry 0 to 63 (08 R224). -/
  journal : SMap OpenGran := []
  deriving DecidableEq, Repr

/-- Table 09-2. -/
inductive PairState where
  | unpaired
  | paired
  | split
  | alone
  | fenced
  | rejoining
  | refused
  deriving DecidableEq, Repr

/-- Table 09-5. -/
inductive LeaseState where
  | none
  | current
  | relayed
  | witnessLost
  | expired
  | released
  deriving DecidableEq, Repr

/-- TWIN_LINK_STATE. -/
inductive TwinLink where
  | down
  | training
  | up
  deriving DecidableEq, Repr

/-- Progress of a planned handover (R268). -/
inductive HandStage where
  | idle
  | begun
  | parked
  | installing
  deriving DecidableEq, Repr

/-- A forwarded request awaiting its response (R251). -/
structure FwdReq where
  /-- Request tag, 16 bits (09 R249). -/
  tag : Nat := 0
  /-- The request (09 R251). -/
  req : Req := {}
  deriving DecidableEq, Repr

/-- A forwarded object command awaiting its result (R57). -/
structure FwdCmd where
  /-- Request tag (09 R249). -/
  tag : Nat := 0
  /-- The command (02 R57). -/
  cmd : Nat := 0
  /-- The link has gone down since it crossed (02 R57). -/
  lost : Bool := false
  deriving DecidableEq, Repr

/-- A write waiting for MIRROR_COMMIT (R28, R252, R253). -/
structure MirWait where
  /-- Request tag (09 R249). -/
  tag : Nat := 0
  /-- The write (09 R252). -/
  req : Req := {}
  deriving DecidableEq, Repr

/-- Mirror audit of one granule (R273). -/
structure Audit where
  /-- Twin granule (09 R273). -/
  gran : Nat := 0
  /-- Request tag (09 R273). -/
  tag : Nat := 0
  deriving DecidableEq, Repr

/-- Twin pair. -/
structure Twin where
  /-- PAIR_STATE (09 R247). -/
  state : PairState := .unpaired
  /-- Recorded position (09 R246). -/
  position : Bool := false
  /-- Recorded twin, 0 if none (09 R246). -/
  twinSerial : BitVec 64 := 0
  /-- Pair epoch, 64 bits (09 R250). -/
  epoch : Nat := 0
  /-- The pair record had no valid copy at start-up (14 R380). -/
  recordLost : Bool := false
  /-- PAIR_REFUSE_CAUSE (09 R247). -/
  refuseCause : Nat := 0
  /-- Serial accepted by PAIR_REPLACE (09 R246). -/
  replace : BitVec 64 := 0
  /-- TWIN_LINK_STATE (09 R248). -/
  link : TwinLink := .down
  /-- Link cipher keyed by a session (R331) (12 R331). -/
  keyed : Bool := false
  /-- The twin has been authenticated (09 R245). -/
  auth : Bool := false
  /-- TWIN_PULSE_OUT level (09 R254). -/
  pulseOut : Bool := false
  /-- PULSE_STATE lost (09 R254). -/
  pulseLost : Bool := false
  /-- A PROBE after pulse loss is unanswered (09 R254). -/
  probing : Bool := false
  /-- Partner's pair state in its last HEARTBEAT (09 R254). -/
  peerState : Nat := 0
  /-- Partner's lease state in its last HEARTBEAT (09 R254). -/
  peerLease : Nat := 0
  /-- The partner's lease remaining in its last HEARTBEAT, ns (09 R257). -/
  peerRemain : Nat := 0
  /-- HELLO sent and not yet answered (09 R245). -/
  helloSent : Bool := false
  /-- HELLO received from the partner (09 R245). -/
  peerHello : Option Hello := none
  /-- A SPLIT verdict has come with no rejoin since (09 R265). -/
  splitSince : Bool := false
  /-- Lost-chip flag (09 R264). -/
  lostChip : Bool := false
  /-- Next request tag (09 R249). -/
  nextTag : Nat := 0
  /-- Forwarded requests outstanding (09 R251). -/
  fwd : List FwdReq := []
  /-- Forwarded commands outstanding (02 R57). -/
  fwdCmds : List FwdCmd := []
  /-- Mirrored writes waiting for MIRROR_COMMIT or a verdict (09 R252). -/
  mirror : List MirWait := []
  /-- Requests of the partner inside this chip, by tag (09 R251). -/
  fwdIn : List (Nat × Req) := []
  /-- Hold queue, at most 4,096 requests (01 R42). -/
  holdQ : List Req := []
  /-- Requests behind withheld credits when the hold queue is full (01 R42). -/
  overHold : List Req := []
  /-- Handover in progress as X (09 R268). -/
  hand : HandStage := .idle
  /-- Handover in progress as Y: arrivals for X's mirrored homes are parked (09 R268). -/
  handY : Bool := false
  /-- Forwarded requests X waits for (09 R268). -/
  handCount : Nat := 0
  /-- Requests held or parked by a handover (09 R268). -/
  handQ : List Req := []
  /-- HANDOVER_STATE (09 R267). -/
  handState : Nat := 0
  /-- Audit in progress (09 R273). -/
  audit : Option Audit := none
  /-- Next granule to audit (09 R273). -/
  auditPos : Nat := 0
  /-- The partner's stale set is complete (09 R270). -/
  staleDone : Bool := false
  /-- A PAIR_ACCEPT that waits for registration or the stale sets: position and epoch (09 R245). -/
  accept : Option (Bool × Nat) := none
  /-- The start found no valid wrap record (09 R269). -/
  noWrap : Bool := false
  /-- The handover gives back adopted objects only (R271) (09 R271). -/
  handBack : Bool := false
  /-- Objects that a handover in progress gives to this chip (09 R268). -/
  handIn : List Nat := []
  /-- Stale granules at the start of the resynchronisation (09 R270). -/
  staleAtResync : Nat := 0
  /-- TAKEOVER_LOG, 48 B (09 R264). -/
  takeoverLog : Nat := 0
  /-- PARTNER_BOOT_STATE (15 R399). -/
  partnerBoot : Nat := 0xFF
  /-- Twin protocol version of the partner's HELLO (15 R399). -/
  peerProto : Nat := 0
  /-- Mirroring suspended (R30, R262) (01 R30). -/
  suspended : Bool := false
  deriving DecidableEq, Repr

/-- Lease and witness protocol. -/
structure Witness where
  /-- LEASE_STATE (09 R257). -/
  state : LeaseState := .none
  /-- End of the own lease, AON ns (09 R255). -/
  leaseEnd : Nat := 0
  /-- Registered with the witness (09 R258). -/
  registered : Bool := false
  /-- High half of SEQ, counter 2 (11 R315). -/
  seqHigh : Nat := 0
  /-- Low half of SEQ (11 R315). -/
  seqLow : BitVec 32 := 0
  /-- RENEW frames unacknowledged: SEQ and send time (09 R255). -/
  renews : List (Nat × Nat) := []
  /-- The next RENEW goes both directly and by relay (09 R256). -/
  relayNext : Bool := false
  /-- CLAIM outstanding, with its time (09 R259). -/
  claim : Option Nat := none
  /-- A rehearsal's CLAIM is outstanding (09 R272). -/
  drill : Bool := false
  /-- 1 link loss, 2 pair stage, 3 expired partner in SPLIT (09 R259). -/
  claimReason : Nat := 0
  /-- The witness cannot be reached (09 R257). -/
  reachLost : Bool := false
  /-- POISON_NOTEs sent and not acknowledged, by SEQ (09 R263). -/
  poisonNotes : List (Nat × Req) := []
  /-- The last rehearsal failed (09 R272). -/
  rehearsalFailed : Bool := false
  /-- Checks the running rehearsal failed: bit 0 keys, 1 hold queue, 2 replica (09 R272). -/
  rehearsalChecks : Nat := 0
  /-- A rehearsal has passed since the start (15 R400). -/
  rehearsalPassed : Bool := false
  /-- A rehearsal waits for running work (16 R410). -/
  rehearsalDue : Bool := false
  /-- REHEARSE_RESULT, 32 B (09 R272). -/
  rehearseResult : Nat := 0
  /-- WITNESS_KEY provisioned (09 R259). -/
  keySet : Bool := false
  deriving DecidableEq, Repr

/-- Table 10-3. -/
inductive PwrState where
  | off
  | up
  | on
  | wrap
  | down
  | retryWait
  | lockout
  deriving DecidableEq, Repr

/-- SQ_STATUS [19:16]. -/
inductive RailState where
  | off
  | ramping
  | good
  | warning
  | fault
  | offByGroup
  | chatter
  deriving DecidableEq, Repr

/-- One supervised channel. -/
structure Rail where
  /-- SQnn_EN (10 R275). -/
  en : Bool := false
  /-- Raw SQnn_PG (10 R278). -/
  pgRaw : Bool := false
  /-- Debounced PG (10 R278). -/
  pg : Bool := false
  /-- Last SENSE result in rail mV (10 R277). -/
  mv : Nat := 0
  /-- State in SQ_STATUS (10 R282). -/
  state : RailState := .off
  /-- Consecutive samples below fault low (10 R277). -/
  outLo : Nat := 0
  /-- Consecutive samples above fault high (10 R277). -/
  outHi : Nat := 0
  /-- Consecutive samples outside a warning threshold (10 R277). -/
  warnOut : Nat := 0
  /-- Consecutive samples inside by 0.5 % (10 R277). -/
  warnIn : Nat := 0
  /-- Warning set (10 R277). -/
  warned : Bool := false
  /-- Consecutive samples beyond 10 % (10 R283). -/
  collapse : Nat := 0
  /-- Raw PG edges in the last ms since first good (10 R278). -/
  edges : Nat := 0
  /-- Taken as good since EN rose (10 R278). -/
  everGood : Bool := false
  /-- Times of its last faults, ns (10 R282). -/
  faults : List Nat := []
  /-- RETRY_RAIL in progress (10 R282). -/
  retrying : Bool := false
  /-- Counts as done for its up or down step (10 R279). -/
  done : Bool := false
  /-- SQ_CONFIG in use (applied copy) (10 R276). -/
  cfg : BitVec 256 := 0
  deriving DecidableEq, Repr

/-- Power snapshot (Table 10-5). -/
structure Snapshot where
  /-- Timestamp (10 R289). -/
  time : Nat := 0
  /-- Trigger 1 to 8 (10 R289). -/
  trigger : Nat := 0
  /-- Channel or 0xFF (10 R289). -/
  chan : Nat := 0xFF
  /-- PWR_STATE (10 R289). -/
  pwr : Nat := 0
  /-- WRAP_STATE (10 R289). -/
  wrap : Nat := 0
  /-- Bank voltage (10 R289). -/
  bankMv : Nat := 0
  /-- Die temperature (10 R289). -/
  dieC : Int := 0
  /-- SQ00 to SQ15 in mV (10 R289). -/
  rails : List Nat := []
  /-- Dirty total (10 R289). -/
  dirty : Nat := 0
  /-- Published budget / 65,536 (10 R289). -/
  budget : Nat := 0
  deriving DecidableEq, Repr

/-- Sequencer and always-on domain. -/
structure Power where
  /-- PWR_STATE (10 R279). -/
  state : PwrState := .off
  /-- Up or down step running (10 R279). -/
  step : Nat := 0
  /-- Channels SQ00 to SQ15 (10 R275). -/
  rails : Vector Rail 16 := Vector.replicate 16 {}
  /-- Hardware copy of SQ_CONFIG (10 R276). -/
  hwCfg : Vector (BitVec 256) 16 := Vector.replicate 16 0
  /-- RESET_N level (10 R284). -/
  resetN : Bool := false
  /-- VAUX valid (10 R287). -/
  vauxOk : Bool := true
  /-- VAUX_MV (10 R287). -/
  vauxMv : Nat := 3300
  /-- Always-on outputs are high impedance (10 R287). -/
  hiZ : Bool := false
  /-- SEQ_RETRIES_USED (10 R284). -/
  retriesUsed : Nat := 0
  /-- SEQ_FAULT_N driven low by the gaffer (10 R285). -/
  seqFaultOut : Bool := false
  /-- SEQ_FAULT_N seen low from another sequencer (10 R285). -/
  seqFaultIn : Bool := false
  /-- What follows the power-down: 0 OFF, 1 retry, 2 restart by cause, 3 lockout, 4 power-up after RESET_N (10 R437). -/
  afterDown : Nat := 0
  /-- A rail was above OFF_MV when the power-down ended (10 R280). -/
  stuck : Bool := false
  /-- Snapshot buffer not yet copied, at most 64 (10 R289). -/
  snaps : List Snapshot := []
  /-- SNAPSHOT_LAST (10 R289). -/
  lastSnap : Option Snapshot := none
  /-- SEQ_LAST_FAULT, 16 B (10 R282). -/
  lastFault : Nat := 0
  /-- DIE_TEMP (14 R383). -/
  dieC : Int := 0
  /-- DIE_TEMP_PEAK (14 R383). -/
  diePeak : Int := 0
  /-- Consecutive die samples above 115 C (10 R295). -/
  dieHot : Nat := 0
  /-- Consecutive bank samples below HOLDUP_WRAP_MV (10 R295). -/
  bankLowN : Nat := 0
  /-- BYP_HOLD (13 R355). -/
  bypHold : Bool := false
  /-- PWR_LOSS_N low (10 R298). -/
  pwrLoss : Bool := false
  deriving DecidableEq, Repr

/-- Hold-up reserve. -/
structure Reserve where
  /-- HOLDUP_MV (10 R291). -/
  bankMv : Nat := 0
  /-- Lowest bank voltage of the last ms (10 R291). -/
  bankMin : Nat := 0
  /-- E of R291 in microjoules (RESERVE_ENERGY is e in mJ) (10 R291). -/
  energyUj : Nat := 0
  /-- BUDGET_PUBLISHED (10 R292). -/
  published : Nat := 0
  /-- Consecutive results above the published budget (10 R291). -/
  above : Nat := 0
  /-- BANK_CAP (10 R294). -/
  capUf : Nat := 0
  /-- BANK_ESR (10 R294). -/
  esrUohm : Nat := 0
  /-- A probe has completed since the power-up (10 R292). -/
  probed : Bool := false
  /-- Probe: 0 none, 1 waiting for the dirty total, 2 budget published, 3 discharging (10 R294). -/
  probe : Nat := 0
  /-- V0 in mV (10 R294). -/
  probeV0 : Nat := 0
  /-- Probe budget (10 R294). -/
  probeBudget : Nat := 0
  /-- ESR measured in this step (10 R294). -/
  probeEsr : Nat := 0
  /-- ESR drop in mV (10 R294). -/
  probeDrop : Nat := 0
  /-- PROBE_LAST, 32 B (10 R294). -/
  probeLast : Nat := 0
  /-- BANK_TEMP at the last probe (10 R294). -/
  probeTemp : Int := 0
  /-- Published budget frozen by a wrap (10 R295). -/
  frozen : Bool := false
  deriving DecidableEq, Repr

/-- The wrap. -/
structure Wrap where
  /-- WRAP_STATE (10 R295). -/
  state : Nat := 0
  /-- Cause of Table 10-7 (10 R295). -/
  cause : Nat := 0
  /-- Tick of the trigger (10 R300). -/
  startedAt : Nat := 0
  /-- Tick of the end of the drain (10 R300). -/
  drainedAt : Nat := 0
  /-- Dirty total at the trigger (10 R300). -/
  dirtyAt : Nat := 0
  /-- E at the trigger, mJ (10 R300). -/
  energyAt : Nat := 0
  /-- Budget at the trigger / 65,536 (10 R300). -/
  budgetAt : Nat := 0
  /-- A probe step was ended by the wrap (10 R300). -/
  probeEnded : Bool := false
  /-- A resumed wrap preceded the next record (10 R300). -/
  resumed : Bool := false
  /-- Lines not drained (10 R296). -/
  undrained : Nat := 0
  /-- The drain was stopped for energy (10 R296). -/
  short : Bool := false
  /-- WRAP_CMD value (10 R298). -/
  stay : Nat := 0
  /-- The wrap began before entry into service (15 R388). -/
  beforeService : Bool := false
  deriving DecidableEq, Repr

/-- Classes of R309 in priority order. -/
inductive PageClass where
  | wrap
  | system
  | log
  | store
  | refresh
  deriving DecidableEq, Repr

/-- A queued page write (R307). -/
structure PageWrite where
  /-- Class (11 R309). -/
  cls : PageClass := .store
  /-- Ledger address of the first byte (11 R307). -/
  addr : Nat := 0
  /-- 1 to 256 bytes (11 R307). -/
  bytes : List Byte := []
  deriving DecidableEq, Repr

/-- The ledger. -/
structure Ledger where
  /-- The 32 MiB die, byte addressed (11 R303). -/
  cells : Memory := []
  /-- Queued page writes, in order of arrival (11 R309). -/
  queue : List PageWrite := []
  /-- Page write in progress (11 R309). -/
  current : Option PageWrite := none
  /-- Die declared failed (LEDGER_STATE 3) (11 R320). -/
  failed : Bool := false
  /-- Write count of each page (11 R317). -/
  counts : SMap Nat := []
  /-- Remap table: retired page, spare page (11 R317). -/
  remap : List (Nat × Nat) := []
  /-- Words found that the die cannot correct, by address / 8, ascending (11 R320). -/
  bad : List Nat := []
  /-- A margin refresh pass runs (LEDGER_STATE 2) (11 R318). -/
  refreshRun : Bool := false
  /-- Next page of the pass (11 R318). -/
  refreshPage : Nat := 0
  /-- Start of the pass, timestamp (11 R318). -/
  refreshStart : Nat := 0
  /-- Medium minute of the last pass start (11 R318). -/
  refreshMinute : Nat := 0
  /-- EVENT_NEWEST (11 R304). -/
  evtSeq : Nat := 0
  /-- Ledger event log, oldest first, at most 7,680 (11 R304). -/
  evtRing : List (Nat × EventRec) := []
  /-- Next slot of the power-snapshot ring (11 R304). -/
  snapNext : Nat := 0
  /-- User areas unlocked (11 R316). -/
  unlocked : BitVec 4 := 0
  /-- User area passwords (the device keeps their digests in SECRETS) (11 R316). -/
  passwords : Vector (Option (BitVec 64)) 4 := Vector.replicate 4 none
  /-- A counter entry was unreadable (11 R320). -/
  counterBad : Bool := false
  deriving DecidableEq, Repr

/-- Table 12-2. -/
inductive KeyState where
  | empty
  | loaded
  | erasing
  deriving DecidableEq, Repr

/-- A media key slot. -/
structure KeyTag where
  /-- KEY_STATE (12 R325). -/
  state : KeyState := .empty
  /-- Identity of the key (number of its DRBG draw), 0 none (12 R325). -/
  key : Nat := 0
  /-- KEY_GENERATION (12 R327). -/
  gen : Nat := 0
  deriving DecidableEq, Repr

/-- A queued sealing request (R334). -/
structure SealReq where
  /-- Operation (12 R334). -/
  op : SealOp := .gcmSeal
  /-- Key slot (12 R334). -/
  slot : Nat := 0
  /-- Of an SPDM session or IDE_KM (12 R334). -/
  priority : Bool := false
  /-- The tag or integrity check value of what it opens verifies (12 R335). -/
  tagOk : Bool := true
  deriving DecidableEq, Repr

/-- SEAL_STATE. -/
inductive SealState where
  | ready
  | recovering
  | disabled
  deriving DecidableEq, Repr

/-- Keys, identity, passphrases. -/
structure Security where
  /-- Media keys by tag 0 to 255 (12 R323). -/
  tags : SMap KeyTag := []
  /-- Key records in SECRETS (12 R326). -/
  durableTags : SMap KeyTag := []
  /-- Identity of the internal media key (12 R323). -/
  internalKey : Nat := 0
  /-- DRBG requests made, numbers every drawn value (12 R322). -/
  draws : Nat := 0
  /-- DRBG requests since the last reseed (12 R322). -/
  sinceSeed : Nat := 0
  /-- DRBG_STATE (12 R322). -/
  drbgStopped : Bool := false
  /-- Crypto-erase in progress (12 R327). -/
  eraseTag : Option (BitVec 8) := none
  /-- Requester whose CRYPTO_ERASE is not answered yet (12 R327). -/
  eraseReq : Option Access := none
  /-- The partner has erased the key of the crypto-erase in progress (12 R327). -/
  erasePeer : Bool := false
  /-- CRYPTO_ERASE_STATE (12 R327). -/
  eraseState : Nat := 0
  /-- The partner runs the Secure Erase or Sanitize of this chip (12 R328). -/
  peerErasing : Bool := false
  /-- Head whose Secure Erase is not answered yet (12 R328). -/
  eraseHead : Option (Fin 6) := none
  /-- User passphrase (the device keeps its digest) (12 R343). -/
  userPass : Option (BitVec 256) := none
  /-- Master passphrase (the device keeps its digest) (12 R343). -/
  masterPass : Option (BitVec 256) := none
  /-- Security state bit 2 (12 R343). -/
  locked : Bool := false
  /-- Security state bit 3 (12 R343). -/
  frozen : Bool := false
  /-- USER_ATTEMPTS (12 R344). -/
  userTries : Nat := 0
  /-- MASTER_ATTEMPTS (12 R344). -/
  masterTries : Nat := 0
  /-- Sealing key slots loaded (12 R334). -/
  slots : BitVec 32 := 0
  /-- Encryptions per key load of each slot (12 R332). -/
  slotUses : SMap Nat := []
  /-- Sealing queue, at most 64 (12 R334). -/
  sealQ : List SealReq := []
  /-- SEAL_MODE in effect, true for KLX-7128 compatibility (12 R338). -/
  sealMode : Bool := false
  /-- SEAL_STATE (12 R337). -/
  sealState : SealState := .ready
  /-- Times of the alarms of the last 24 h (12 R337). -/
  alarms : List Nat := []
  /-- SEAL_LAST_ALARM, 16 B (12 R337). -/
  lastAlarm : Nat := 0
  /-- Sanitize runs (12 R329). -/
  sanitizing : Bool := false
  /-- SPDM session on the twin link open (12 R331). -/
  twinSession : Bool := false
  /-- Twin link invocation counter (12 R332). -/
  twinTx : Nat := 0
  /-- A twin KEY_UPDATE is outstanding (12 R332). -/
  twinRekeying : Bool := false
  /-- The return-to-vendor nonce, 32 B (12 R346). -/
  rtvNonce : BitVec 256 := 0
  /-- RTV progress record, last step completed (12 R347). -/
  rtvStep : Nat := 0
  /-- RTV_STATE (12 R347). -/
  rtvState : Nat := 0
  /-- JTAG_STATE (12 R346). -/
  jtagOpen : Bool := false
  /-- DeviceID and alias keys derived at this start (12 R339). -/
  deviceId : Bool := false
  deriving DecidableEq, Repr

/-- RING_PORT_STATE. -/
inductive PortState where
  | down
  | negotiating
  | up
  deriving DecidableEq, Repr

/-- Duplicate-drop record of a source (R354). -/
structure SrcRec where
  /-- Source address (13 R354). -/
  src : BitVec 48 := 0
  /-- Current BOOT (13 R354). -/
  boot : BitVec 16 := 0
  /-- Highest SEQ accepted (13 R354). -/
  top : BitVec 32 := 0
  /-- The 64 SEQ values below it (13 R354). -/
  seen : BitVec 64 := 0
  /-- Time of its last frame on RING_A, ns (13 R349). -/
  lastA : Nat := 0
  /-- Time of its last frame on RING_B, ns (13 R349). -/
  lastB : Nat := 0
  deriving DecidableEq, Repr

/-- An open transfer (R358, R359). -/
structure Transfer where
  /-- Requester (13 R359). -/
  req : Requester := .mailbox 0
  /-- TID (13 R358). -/
  tid : BitVec 8 := 0
  /-- INDEX (13 R358). -/
  index : BitVec 16 := 0
  /-- SUBINDEX (13 R358). -/
  sub : BitVec 8 := 0
  /-- A write (13 R358). -/
  write : Bool := false
  /-- Size of the value (13 R358). -/
  size : Nat := 0
  /-- Next segment expected, or oldest unacknowledged (13 R359). -/
  next : Nat := 0
  /-- Segments sent of a read (13 R358). -/
  sent : Nat := 0
  /-- Bytes received, or the value being read (13 R358). -/
  data : List Byte := []
  /-- Its requests are authenticated, and so are its answers (13 R357). -/
  auth : Bool := false
  deriving DecidableEq, Repr

/-- Cached outcome of a closed transfer (R360). -/
structure Closed where
  /-- Requester (13 R360). -/
  req : Requester := .mailbox 0
  /-- TID (13 R360). -/
  tid : BitVec 8 := 0
  /-- INDEX (13 R360). -/
  index : BitVec 16 := 0
  /-- SUBINDEX (13 R360). -/
  sub : BitVec 8 := 0
  /-- CMD of the first frame (13 R360). -/
  cmd : BitVec 8 := 0
  /-- Final answer (13 R360). -/
  answer : DictAnswer := .done
  deriving DecidableEq, Repr

/-- Volatile entries of a requester (R365). -/
structure Context where
  /-- Requester (13 R365). -/
  req : Requester := .mailbox 0
  /-- Its per-requester entries, by 256 * index + subindex (13 R365). -/
  vals : SMap Nat := []
  deriving DecidableEq, Repr

/-- Yelori ring and dictionary service. -/
structure Ring where
  /-- RING_PORT_STATE (13 R349). -/
  ports : Vector PortState 2 := Vector.replicate 2 .down
  /-- Both SerDes have locked and BYP_HOLD is due (13 R355). -/
  lockWait : Bool := false
  /-- SEQ of the next frame originated (13 R351). -/
  txSeq : BitVec 32 := 0
  /-- Source records, most recent first, at most 64 (13 R354). -/
  sources : List SrcRec := []
  /-- Open transfers, at most 64 (13 R359). -/
  transfers : List Transfer := []
  /-- Cached outcomes, newest first (13 R360). -/
  closed : List Closed := []
  /-- Requester contexts, most recent first (32 ring contexts) (13 R365). -/
  contexts : List Context := []
  /-- RING_KEY_OPERATOR (13 R357). -/
  keyOp : Option (BitVec 256) := none
  /-- RING_KEY_CUSTODIAN (13 R357). -/
  keyCust : Option (BitVec 256) := none
  /-- NOTE_SEQ (13 R362). -/
  noteSeq : BitVec 32 := 0
  /-- Second of the AON time in which the event notifications of noteCount were sent (13 R362). -/
  noteSecond : Nat := 0
  /-- Event notifications sent in that second (13 R362). -/
  noteCount : Nat := 0
  /-- Notification codes whose 10 ms merge time runs (13 R362). -/
  merging : List Nat := []
  /-- Codes with a change to send at its end: the entry by 256 * index + subindex, and the DATA of the last change (13 R362). -/
  merged : SMap (Nat × List Byte) := []
  /-- LAST_ABORT, 16 B (13 R361). -/
  lastAbort : Nat := 0
  /-- Volatile entries and counters of the dictionary, by 256 * index + subindex; absent is the default (13 R367). -/
  vals : SMap Nat := []
  /-- Persistent entries written, by the same key; absent is the default (13 R367). -/
  stored : SMap Nat := []
  deriving DecidableEq, Repr

/-- STATE of the boot record. -/
inductive BootState where
  | confirmed
  | pending
  | probation
  deriving DecidableEq, Repr

/-- Boot record (Table 15-3). -/
structure BootRec where
  /-- ACTIVE, false FW_A (15 R389). -/
  active : Bool := false
  /-- PREVIOUS (15 R389). -/
  previous : Option Bool := none
  /-- STATE (15 R389). -/
  state : BootState := .confirmed
  /-- ATTEMPTS (15 R389). -/
  attempts : Nat := 0
  /-- UNCLEAN (15 R389). -/
  unclean : Bool := false
  /-- FELL_BACK (15 R389). -/
  fellBack : Bool := false
  /-- RECOVERY_REQUEST (15 R389). -/
  recovery : Bool := false
  /-- STORE_REGION, true upper (15 R389). -/
  region : Bool := false
  /-- OLD_REGION (15 R389). -/
  oldRegion : Option Bool := none
  /-- ACTIVATED (15 R389). -/
  activated : Nat := 0
  deriving DecidableEq, Repr

/-- Header of a firmware slot as the ledger holds it (Table 15-2). -/
structure Image where
  /-- A complete image whose header and body checks hold (R389 but the security version) (15 R389). -/
  present : Bool := false
  /-- PARTS (15 R389). -/
  parts : BitVec 3 := 0
  /-- FW_VERSION (15 R389). -/
  version : BitVec 32 := 0
  /-- SEC_VERSION (15 R389). -/
  sec : Nat := 0
  /-- IMAGE_LENGTH (15 R389). -/
  length : Nat := 0
  /-- STORE_FORMAT (15 R394). -/
  format : Nat := 0x10
  /-- STORE_FORMAT_MIN (15 R394). -/
  formatMin : Nat := 0x10
  /-- TWIN_PROTO (15 R399). -/
  proto : Nat := 0
  /-- First 12 B of BODY_SHA256 (15 R389). -/
  hash : BitVec 96 := 0
  deriving DecidableEq, Repr

/-- Path of a firmware transfer. -/
inductive UpdPath where
  | mailbox
  | dict
  | recovery
  deriving DecidableEq, Repr

/-- A firmware transfer (R397, R398). -/
structure Upload where
  /-- Target slot (15 R398). -/
  slot : Bool := false
  /-- Path (15 R398). -/
  via : UpdPath := .recovery
  /-- Next offset expected (15 R398). -/
  next : Nat := 0
  deriving DecidableEq, Repr

/-- A running built-in test. -/
structure Bist where
  /-- Test number (16 R411). -/
  test : Nat := 1
  /-- Target (16 R411). -/
  target : Nat := 0
  /-- Requester (16 R411). -/
  req : Requester := .mailbox 0
  /-- Tick of its start (16 R411). -/
  startedAt : Nat := 0
  deriving DecidableEq, Repr

/-- Start-up and firmware. -/
structure Boot where
  /-- BOOT_STAGE (15 R386). -/
  stage : Nat := 1
  /-- The main domain is out of reset (15 R386). -/
  mainOut : Bool := false
  /-- ROM recovery mode (15 R396). -/
  rom : Bool := false
  /-- An image is loaded and runs (15 R390). -/
  romDone : Bool := false
  /-- HBM training done (15 R386). -/
  hbmDone : Bool := false
  /-- Boot record (15 R389). -/
  record : BootRec := {}
  /-- Firmware slots FW_A and FW_B (15 R389). -/
  images : Vector Image 2 := Vector.replicate 2 {}
  /-- Transfer in progress (15 R398). -/
  upload : Option Upload := none
  /-- UPD_STATE (15 R398). -/
  updState : Nat := 0
  /-- UPD_LAST_ERROR (15 R398). -/
  updError : Nat := 0
  /-- FW_REVERT written (15 R400). -/
  revert : Bool := false
  /-- After an Unlock in service the rest of the pair stage runs (15 R392). -/
  late : Bool := false
  /-- A core restarted or was retired since the start (15 R400). -/
  coreRestarted : Bool := false
  /-- Tick of entry into service (15 R400). -/
  inServiceAt : Nat := 0
  /-- TIME of the wrap record that this start read, the last stored shutdown time (06 R193). -/
  shutdownAt : Option Nat := none
  /-- Tick at which RESET_N rose or this start began (15 R393). -/
  startAt : Nat := 0
  /-- BOOT_TIME (15 R393). -/
  bootTime : Nat := 0
  /-- End times of stages 1 to 6 in us (15 R393). -/
  stageEnds : Vector Nat 6 := Vector.replicate 6 0
  /-- Row of Table 15-5 (15 R393). -/
  stopCause : Nat := 0
  /-- STORE_STATE 1 (15 R394). -/
  storeDefaults : Bool := false
  /-- The region in use holds a store with a valid copy (15 R394). -/
  storeValid : Bool := false
  /-- The image in use does not read the store's format, and the store's values wait in oldStored (15 R394). -/
  unread : Bool := false
  /-- STORE_FORMAT of the store in use (15 R394). -/
  storeFormat : Nat := 0x10
  /-- STORE_OLD_FORMAT (15 R394). -/
  oldFormat : Nat := 0
  /-- Store of the fall-back region (15 R394). -/
  oldStored : SMap Nat := []
  /-- CDAT sequence number (03 R87). -/
  cdatSeq : Nat := 0
  /-- The CDAT holds the other half's entries (03 R87). -/
  cdatPair : Bool := false
  /-- Scratch size in the CDAT (03 R87). -/
  cdatScratch : Nat := 0
  /-- CXL shutdown state (11 R305). -/
  shutdown : BitVec 8 := 0
  /-- BAROMETER as last updated (14 R380). -/
  barometer : BitVec 64 := 0
  /-- BAROMETER_SEEN latched flags (14 R382). -/
  seen : BitVec 64 := 0
  /-- BAROMETER_LAST_BOOT (14 R382). -/
  lastBoot : BitVec 64 := 0
  /-- The row checker refused a program (14 R380). -/
  rowCheck : Bool := false
  /-- Built-in test running (16 R411). -/
  bist : Option Bist := none
  /-- Times of the failed restarts of each core, of the last 24 h (16 R408). -/
  coreFails : SMap (List Nat) := []
  deriving DecidableEq, Repr

/-- CORE_STATE. -/
inductive CoreState where
  | running
  | restarting
  | standby
  | adopted
  | retired
  deriving DecidableEq, Repr

/-- A change of a replicated table sent with TABLE_UPDATE is in `Sys2Proof.TableUpd`;
the payload of a twin message, by the names of Table 09-4. -/
inductive TwinBody where
  | fwdRead
  | fwdWrite (data : Line) (mask : Mask)
  | fwdData (data : Line)
  | fwdAck
  | fwdCmd (entry : CmdEntry)
  | fwdCmdResult (result : CmdResult)
  | mirrorWrite (data : Line) (mask : Mask)
  | mirrorCommit
  | mirrorResend
  | mirrorFetch
  | mirrorData (lines : List (Nat × Line)) (bitmap poison : BitVec 64)
  | heartbeat (pair lease remaining epoch : Nat)
  | probe
  | hello (h : Hello)
  | pairAccept (position : Bool) (epoch : Nat)
  | pairRefuse (cause : Nat)
  | renewRelay (f : WitFrame)
  | movePrep
  | moveParked (count : Nat)
  | moveHandover (bitmap dirty poison : BitVec 64) (lines : List (Nat × Line))
  | moveDone
  | moveAbort
  | tableUpdate (u : TableUpd)
  | descInval (obj : Nat)
  | poisonShadow (line len src : Nat) (remove : Bool)
  | timestamp (offset : Int)
  | squallNote (state : Nat)
  | handoverBegin
  | handoverParked (count : Nat)
  | handoverState (epoch : Nat)
  | handoverDone
  | staleSet (granules : List Nat)
  | auditReq (gran : Nat)
  | auditSum (digest : BitVec 256)
  deriving DecidableEq, Repr

/-- The payload of a mailbox answer: the bytes the spec lays out (vendor commands), or the
field values it names for a command whose layout is CXL 3.1's. -/
inductive MboxData where
  | empty
  | bytes (b : List Byte)
  | fields (f : List Nat)
  | events (recs : List EventRec) (more overflow : Bool) (overCount : Nat)
  | poison (recs : List (Nat × Nat × Nat)) (more overflow : Bool) (overflowAt : Nat)
  | status (percent : Nat) (running : Bool) (code : MboxCode)
  deriving DecidableEq, Repr

/-- The DevLoad of a CXL.mem completion (03 R78). -/
inductive DevLoad where
  | light
  | moderate
  | severe
  deriving DecidableEq, Repr

/-- What the chip has sent: to hosts, over the twin link, to the witness, over the ring, to
the modules, and over SPDM sessions. -/
inductive Output where
  /-- A CXL.mem read completion at a head, with poison and DevLoad (03 R93, R78). -/
  | readDone (h : HeadNo) (tag : BitVec 16) (data : Line) (poison : Bool) (load : DevLoad)
  /-- A CXL.mem write completion at a head, with DevLoad (03 R78). -/
  | writeDone (h : HeadNo) (tag : BitVec 16) (load : DevLoad)
  /-- An MSI-X vector (03 R96). -/
  | msix (h : HeadNo) (vector : Nat)
  /-- A mailbox answer. -/
  | mbox (h : HeadNo) (code : MboxCode) (data : MboxData)
  /-- A completer abort on CXL.io (00 R12, R13). -/
  | completerAbort (h : HeadNo)
  /-- The answer to a read of the control window (00 R12, R13). -/
  | windowRead (h : HeadNo) (bytes : List Byte)
  /-- The answer to a read of a head's configuration space (03 R79, R97): its register as fields. -/
  | configRead (h : HeadNo) (fields : List Nat)
  /-- A GPF phase completed at a head (03 R97). -/
  | gpfDone (h : HeadNo) (phase : Nat)
  /-- A DOE Discovery answer (03 R77): the protocol at the index, if there is one, and the next index, 0 at the end. -/
  | doeProtocol (h : HeadNo) (p : Option DoeProtocol) (next : Nat)
  /-- A DOE answer: the CDAT structures (03 R87), each as its fields. -/
  | cdat (h : HeadNo) (seq : Nat) (entries : List (List Nat))
  /-- Hot reset or link action of a head: the link is taken down, or training starts. -/
  | headLink (h : HeadNo) (up : Bool)
  /-- A twin message. -/
  | twin (hdr : TwinHdr) (body : TwinBody)
  /-- A witness frame, to the witness directly. -/
  | witness (f : WitFrame)
  /-- A POISON_NOTE (true) or POISON_ACK to the other chip over the ring. -/
  | poisonRing (note : Bool) (seq : Nat) (lines : List Nat)
  /-- A ring frame forwarded from one port to the other, with its HOPS. -/
  | ringForward (port : PortNo) (f : RingFrame)
  /-- A dictionary answer over the ring: CMD, INDEX, SUBINDEX, FLAGS, SEG, VALUE, data. -/
  | dict (addr : BitVec 48) (tid : BitVec 8) (cmd : BitVec 8) (index : BitVec 16) (sub : BitVec 8)
      (flags : BitVec 8) (seg : Nat) (value : BitVec 32) (data : List Byte) (auth : Bool)
  /-- A notification (Table 13-9). -/
  | notify (seq : BitVec 32) (code index sub : Nat) (time : Int) (data : List Byte)
  /-- A recovery STATUS frame (15 R397). -/
  | recoveryStatus (fields : List Nat)
  /-- A GMI command. -/
  | gmi (ch : ChanNo) (tag : Nat) (op : GmiOp)
  /-- An SPDM or IDE_KM answer, at a head (or `none` for the twin link), with its fields. -/
  | spdm (h : Option HeadNo) (msg : String) (fields : List Nat)
  /-- The answer of the sealing engine (12 R334). -/
  | seal (status : String)
  deriving DecidableEq, Repr

/-- One chip: everything but the queue of waiting commands. -/
structure Chip where
  id : Ident := {}
  clk : Clock := {}
  heads : Vector Head 6 := Vector.replicate 6 {}
  obj : Objects := {}
  cache : Cache := {}
  hbm : Hbm := {}
  med : Medium := {}
  integ : Integ := {}
  dolly : Dolly := {}
  twin : Twin := {}
  wit : Witness := {}
  pwr : Power := {}
  res : Reserve := {}
  wrap : Wrap := {}
  ledger : Ledger := {}
  sec : Security := {}
  ring : Ring := {}
  boot : Boot := {}
  /-- CORE_STATE of the twelve cores (14 R383). -/
  cores : Vector CoreState 12 := Vector.replicate 12 .running
  /-- Mailbox commands that wait for MG, with their head (03 R88), oldest first. -/
  deferred : List (HeadNo × Instr) := []
  /-- The messages the chip has sent, oldest first. -/
  outs : List Output := []
  deriving DecidableEq, Repr

/-- The state of the block: the chip, and the commands that wait, first in, first out. -/
structure State where
  chip : Chip := {}
  pending : List Instr := []
  deriving DecidableEq, Repr

/-- No command of the block ends in a fault: the spec gives every row an effect. -/
inductive Fault where
  deriving DecidableEq, Repr

/-- Why a command is refused. -/
inductive Refusal where
  /-- Raised by an arm of `exec` whose row has no meaning yet; safe, since nothing is then claimed. -/
  | notModelled (mnemonic : String)
  deriving DecidableEq, Repr

/-- The block right after a device reset: every field at the value the spec states, or at the
value that notes/assumptions 13 to 22 name; no command waits. -/
def State.reset : State := {}

end Sys2Proof.Machine
end

