-- ==== Sys2Proof/Machine/Maps.lean ====
section
/-! DEFINITION. Sorted tables and the byte store: look up, put, delete, each keeping the keys
strictly rising, and the little-endian readings of 00 R9. -/

namespace Sys2Proof

/-- The value under key `q`, if there is one. -/
def SMap.find {α : Type} : SMap α → Nat → Option α
  | [], _ => none
  | (k, v) :: r, q => if q = k then some v else SMap.find r q

/-- The value under key `q`, or `d`. -/
def SMap.getD {α : Type} (m : SMap α) (q : Nat) (d : α) : α := (m.find q).getD d

/-- Put `a` under key `q`, in place. -/
def SMap.put {α : Type} : SMap α → Nat → α → SMap α
  | [], q, a => [(q, a)]
  | (k, v) :: r, q, a =>
    if q < k then (q, a) :: (k, v) :: r
    else if q = k then (q, a) :: r
    else (k, v) :: SMap.put r q a

/-- Remove key `q`. -/
def SMap.del {α : Type} : SMap α → Nat → SMap α
  | [], _ => []
  | (k, v) :: r, q => if q = k then r else (k, v) :: SMap.del r q

/-- Put `a` under key `q`, or remove the key where `a` is the default `d`. -/
def SMap.putD {α : Type} [DecidableEq α] (m : SMap α) (q : Nat) (a d : α) : SMap α :=
  if a = d then m.del q else m.put q a

/-- Change the value under key `q`, the default being `d`. -/
def SMap.upd {α : Type} (m : SMap α) (q : Nat) (d : α) (f : α → α) : SMap α :=
  m.put q (f (m.getD q d))

/-- The keys of the table. -/
def SMap.keys {α : Type} (m : SMap α) : List Nat := m.map Prod.fst

/-- The table holds the key. -/
def SMap.has {α : Type} (m : SMap α) (q : Nat) : Bool := (m.find q).isSome

/-- The keys rise strictly. -/
def SMap.sorted {α : Type} : SMap α → Bool
  | [] => true
  | [_] => true
  | (a, _) :: (b, v) :: r => decide (a < b) && SMap.sorted ((b, v) :: r)

/-- Insert a number into a rising list of numbers. -/
def insertNat : List Nat → Nat → List Nat
  | [], x => [x]
  | y :: r, x => if x < y then x :: y :: r else if x = y then y :: r else y :: insertNat r x

namespace Machine

/-- What a byte that nothing has written reads as. -/
def Memory.blank : Byte := 0

/-- The byte at address `a`. -/
def Memory.byte (m : Memory) (a : Nat) : Byte := (SMap.find m a).getD Memory.blank

/-- Write one byte, keeping the canonical form. -/
def Memory.setByte (m : Memory) (a : Nat) (b : Byte) : Memory := SMap.putD m a b Memory.blank

/-- The form holds: addresses strictly rising, no entry equal to the blank byte. -/
def Memory.wf (m : Memory) : Bool := SMap.sorted m && m.all (fun p => p.2 != Memory.blank)

/-- Write bytes from address `a` on. -/
def Memory.write (m : Memory) (a : Nat) : List Byte → Memory
  | [] => m
  | b :: r => Memory.write (m.setByte a b) (a + 1) r

/-- Read `n` bytes from address `a` on. -/
def Memory.read (m : Memory) (a : Nat) : Nat → List Byte
  | 0 => []
  | n + 1 => m.byte a :: m.read (a + 1) n

/-- The `n` low bytes of a number, least significant first. -/
def toBytes : Nat → Nat → List Byte
  | 0, _ => []
  | n + 1, v => BitVec.ofNat 8 v :: toBytes n (v / 256)

/-- The number whose bytes, least significant first, are given. -/
def ofBytes : List Byte → Nat
  | [] => 0
  | b :: r => b.toNat + 256 * ofBytes r

/-- A list cut or padded with zeros to `n` bytes. -/
def fitBytes (n : Nat) (b : List Byte) : List Byte := (b ++ List.replicate n 0).take n

/-- The field of `n` bytes at byte `off` of a 64 B entry. -/
def fieldAt (e : BitVec 512) (off n : Nat) : Nat := e.toNat / 2 ^ (8 * off) % 2 ^ (8 * n)

/-- A 64 B entry with the field of `n` bytes at byte `off` set to `v`. -/
def setField (e : BitVec 512) (off n v : Nat) : BitVec 512 :=
  BitVec.ofNat 512 (e.toNat - fieldAt e off n * 2 ^ (8 * off) + v % 2 ^ (8 * n) * 2 ^ (8 * off))

/-- The 64 bytes of an entry. -/
def entryBytes (e : BitVec 512) : List Byte := toBytes 64 e.toNat

/-- The field [hi:lo] of a number. -/
def bits (v hi lo : Nat) : Nat := v / 2 ^ lo % 2 ^ (hi + 1 - lo)

/-- Bit `i` of a number. -/
def bit (v i : Nat) : Bool := v.testBit i

/-- The byte mask of a line as a mask over its 512 bits. -/
def expandMask (m : Mask) : Line :=
  (List.range 64).foldl (fun acc i => if m.getLsbD i then acc ||| (0xFF#512 <<< (8 * i)) else acc) 0

/-- The enabled bytes of `new` over `old` (01 R35: a partial write is atomic over its enabled bytes). -/
def mergeLine (old new : Line) (m : Mask) : Line :=
  (new &&& expandMask m) ||| (old &&& ~~~ expandMask m)

/-- Every byte enabled. -/
def fullMask : Mask := BitVec.allOnes 64

/-- The number of bits set in a 64-bit map. -/
def popCount (m : BitVec 64) : Nat := (List.range 64).countP (fun i => m.getLsbD i)

/-- A 64-bit map with bit `i` set. -/
def setBit (m : BitVec 64) (i : Nat) : BitVec 64 := m ||| (1#64 <<< i)

/-- A 64-bit map with bit `i` clear. -/
def clearBit (m : BitVec 64) (i : Nat) : BitVec 64 := m &&& ~~~ (1#64 <<< i)

/-- A number 1 for true. -/
def boolNat (b : Bool) : Nat := if b then 1 else 0

/-- Words left unreadable after a write of `n` bytes: a word written whole is corrected again (11 R320). -/
def uncover (bad : List Nat) (addr n : Nat) : List Nat := bad.filter (fun w => !decide (addr ≤ 8 * w ∧ 8 * w + 8 ≤ addr + n))

/-- A range of bytes holds a word that the die cannot correct (11 R320). -/
def wordBad (bad : List Nat) (addr n : Nat) : Bool := bad.any (fun w => decide (addr < 8 * w + 8 ∧ 8 * w < addr + n))

end Machine
end Sys2Proof
end

