-- ==== Sys2Proof/Machine/Pattern.lean ====
section
/-! DEFINITION. The helpers of HBM training: the pattern generator and the compare block of a pseudo-channel (05 R146).
PRESUMED (notes/assumptions/105.md): the spec names PRBS7 and PRBS15 and gives neither polynomial nor seed; the model takes
the usual x^7 + x^6 + 1 and x^15 + x^14 + 1 from all ones, and gives every lane the same bit in a beat. -/

namespace Sys2Proof.Machine

/-- The next state of a linear feedback register of `n` bits with taps at its two highest bits. -/
def lfsrNext (n s : Nat) : Nat := (2 * s + boolNat (bit s (n - 1) != bit s (n - 2))) % 2 ^ n

/-- The register after `t` steps from all ones. -/
def lfsrAt (n : Nat) : Nat → Nat
  | 0 => 2 ^ n - 1
  | t + 1 => lfsrNext n (lfsrAt n t)

/-- The bit of a pattern in beat `t`: the register's highest bit, or the bit of the repeated word (05 R146). -/
def patternBit (p : Pattern) (t : Nat) : Bool :=
  match p with
  | .prbs7 => bit (lfsrAt 7 t) 6
  | .prbs15 => bit (lfsrAt 15 t) 14
  | .fixed w => w.getLsbD (t % 32)

/-- What lane `l` carries in beat `t`: the pattern, inverted where the lane is (05 R146). -/
def laneBit (r : PatRun) (l t : Nat) : Bool := patternBit r.pattern t != r.invert.getLsbD l

/-- The burst of 4 beats of 64 lanes that the generator drives as burst `k` of a run (05 R146, Table 05-1). -/
def patBurst (r : PatRun) (k : Nat) : BitVec 256 :=
  (List.range 256).foldl (fun b i => if laneBit r (i % 64) (4 * k + i / 64) then b ||| (1#256 <<< i) else b) 0

/-- Errors of lane `l` in a returned burst. -/
def laneErrors (got want : BitVec 256) (l : Nat) : Nat :=
  (List.range 4).countP (fun t => got.getLsbD (64 * t + l) != want.getLsbD (64 * t + l))

/-- The compare block takes one returned burst: errors per lane, and the first failing address (05 R146). -/
def Compare.take (x : Compare) (addr : Nat) (got want : BitVec 256) : Compare :=
  { x with errors := Vector.ofFn (fun l => x.errors.get l + laneErrors got want l.val),
           firstFail := if x.firstFail.isNone && got != want then some addr else x.firstFail }

/-- The compare block after a run: counts from zero, the bursts in order, and the MISR result read through the IEEE 1500
port (05 R146). -/
def patCheck (r : PatRun) : Compare :=
  let x : Compare := (r.got.zipIdx).foldl (fun x b => x.take (r.addr + 32 * b.2) b.1 (patBurst r b.2)) {}
  { x with misr := r.misr }

end Sys2Proof.Machine
end

