-- ==== Sys2Proof/Machine/Flags.lean ====
section
/-! DEFINITION. The flags of the barometer (14 Table 14-3), each as the condition it shows, and what they
read: dictionary values, spread counters, the resources of the part. -/

namespace Sys2Proof.Machine

/-- Heads present on a part (Table 00-1). -/
def Part.heads : Part → Nat
  | .klx9256 => 6
  | .klx9128 => 4
  | .klx9064 => 2

/-- Stripe groups present on a part (Table 00-1). -/
def Part.groups : Part → Nat
  | .klx9256 => 4
  | .klx9128 => 2
  | .klx9064 => 1

/-- The code of a part (Table 03-7). -/
def Part.code : Part → Nat
  | .klx9256 => 0
  | .klx9128 => 1
  | .klx9064 => 2

/-- The reserved-bit rules of the full configuration apply (00 R6). -/
def Part.full : Part → Bool
  | .klx9256 => true
  | _ => false

/-- The present stripe groups, in order (00 R3). -/
def Chip.presentGroups (c : Chip) : List GroupNo :=
  (List.finRange 4).filter (fun g => g.val < c.id.part.groups)

/-- The key of a dictionary entry: 256 times the index plus the subindex. -/
def dictKey (index sub : Nat) : Nat := 256 * index + sub

/-- A persistent entry: the value last stored, or its default (13 R367). -/
def Chip.par (c : Chip) (index sub dflt : Nat) : Nat := c.ring.stored.getD (dictKey index sub) dflt

/-- A volatile entry or a counter since reset: its value, or its default (13 R367). -/
def Chip.vol (c : Chip) (index sub : Nat) (dflt : Nat := 0) : Nat := c.ring.vals.getD (dictKey index sub) dflt

/-- Ledger address of the spread counter `n` (11 R314). -/
def counterBase (n : Nat) : Nat := 0x1C0000 + 4096 * n

/-- The mark of entry `e` of a counter (11 R314). -/
def counterMark (m : Memory) (n e : Nat) : Byte := m.byte (counterBase n + 8 * e + 7)

/-- Entry `e` of a counter is a word that the die cannot correct (11 R320). -/
def counterLost (bad : List Nat) (n e : Nat) : Bool := wordBad bad (counterBase n + 8 * e) 8

/-- The value field of entry `e` of a counter (11 R314). -/
def counterField (m : Memory) (n e : Nat) : Nat := ofBytes (m.read (counterBase n + 8 * e) 7)

/-- The first entry from `e` on whose mark differs from `m0`, or that cannot be read, or 512 (11 R315, R320). -/
def counterEnd (m : Memory) (bad : List Nat) (n : Nat) (m0 : Byte) (e : Nat) : Nat → Nat
  | 0 => 512
  | fuel + 1 => if counterMark m n e = m0 && !counterLost bad n e then counterEnd m bad n m0 (e + 1) fuel else e

/-- The last entry below `e` that can be read (11 R320). -/
def counterBack (bad : List Nat) (n : Nat) : Nat → Option Nat
  | 0 => none
  | e + 1 => if counterLost bad n e then counterBack bad n e else some e

/-- The value of a spread counter (11 R315); with entry 0 unreadable, that of the last readable entry of the
pass before (11 R320). -/
def counterValue (m : Memory) (bad : List Nat) (n : Nat) : Nat :=
  let m0 := counterMark m n 0
  if counterLost bad n 0 then (match counterBack bad n 512 with | some e => counterField m n e | none => 0)
  else if m0 = 0 then 0
  else counterField m n (counterEnd m bad n m0 1 511 - 1)

/-- The fixed end of a spread counter (11 R315). -/
def counterLimit : Nat := 5000000000000

/-- A 64-bit map with the given bits set. -/
def setBits (l : List Nat) : BitVec 64 := l.foldl setBit 0

/-- Life used of a module in percent (06 R192). -/
def Module.lifeUsed (m : Module) : Nat := m.maxWear.toNat * 100 / 100000000

/-- A condition of some present stripe group. -/
def Chip.anyGroup (c : Chip) (f : SgState → Bool) : Bool := c.presentGroups.any (fun g => f (c.med.sg.get g).state)

/-- A module reports SPARES_LOW, or its life used has passed the threshold of Set Alert Configuration. -/
def Chip.mediumWear (c : Chip) : Bool :=
  c.med.ch.toList.any (fun (x : Channel) => !x.prsntN && (x.errRead.getLsbD 4 || decide (c.integ.lifeWarn ≤ x.module.lifeUsed)))

/-- The conditions of the barometer's flags, by bit (Table 14-3). -/
def Chip.conditions (c : Chip) : List (Nat × Bool) :=
  [(8, decide (c.cache.squall ≠ 0)),
   (9, decide (c.twin.state = .refused ∨ c.twin.refuseCause ≠ 0)),
   (10, c.twin.suspended || decide (c.twin.state = .split)),
   (11, decide (c.twin.state = .alone)),
   (12, !c.med.stale.isEmpty),
   (13, c.twin.pulseLost),
   (14, decide (c.wit.state = .witnessLost)),
   (15, c.wit.rehearsalFailed),
   (16, c.anyGroup (fun s => decide (s = .degraded ∨ s = .rebuilding ∨ s = .retraining))),
   (17, c.anyGroup (fun s => decide (s = .failed))),
   (18, c.boot.rowCheck),
   (19, c.hbm.pcs.toList.all (fun s => decide (s ≠ .spare))),
   (20, c.hbm.pcs.toList.any (fun s => decide (s = .retiring))),
   (21, c.mediumWear),
   (22, decide (c.vol 0x4220 4 = 1)),
   (23, c.integ.overflow),
   (24, decide (c.res.published < c.par 0x3011 3 536870912)),
   (25, c.pwr.rails.toList.any (·.warned)),
   (26, c.cores.toList.any (fun s => decide (s = .restarting ∨ s = .retired ∨ s = .adopted))),
   (27, decide (c.sec.sealState = .disabled)),
   (28, c.sec.drbgStopped),
   (29, decide (1024 ≤ c.ledger.remap.length) || c.ledger.counterBad),
   (30, c.ledger.failed),
   (31, (List.range 5).any (fun n => decide (counterLimit ≤ counterValue c.ledger.cells c.ledger.bad n))),
   (32, c.twin.recordLost),
   (33, c.sec.locked),
   (34, decide (c.twin.state = .fenced)),
   (35, decide (1 ≤ c.wrap.state ∧ c.wrap.state ≤ 4))]

/-- The flags now set, as bits [35:8] of BAROMETER. -/
def Chip.flags (c : Chip) : BitVec 64 :=
  setBits ((c.conditions.filter (fun p => p.2)).map Prod.fst)

/-- Level of a flag (Table 14-3). -/
def flagLevel (bit : Nat) : Nat :=
  if [17, 34, 35].contains bit then 4
  else if [10, 11, 14, 15, 18, 19, 24, 30].contains bit then 3
  else if [9, 16, 20, 26, 27, 28, 33].contains bit then 2
  else 1

/-- The highest level among the flags of a value. -/
def levelOfFlags (v : BitVec 64) : Nat :=
  (((List.range 28).map (· + 8)).filter (fun i => v.getLsbD i)).foldl (fun m i => max m (flagLevel i)) 0

/-- BAROMETER as its conditions now give it: the flags, and LEVEL in bits [3:0] (14 R380). -/
def Chip.barometerNow (c : Chip) : BitVec 64 := c.flags ||| BitVec.ofNat 64 (levelOfFlags c.flags)

/-- BAROMETER_SEEN latches every flag that is set, however briefly, once firmware runs (14 R382). -/
def Chip.latch (c : Chip) : Chip :=
  if c.boot.romDone then { c with boot := { c.boot with seen := c.boot.seen ||| c.flags } } else c

end Sys2Proof.Machine
end

