-- ==== Sys2Proof/Machine/Ops.lean ====
section
/-! DEFINITION. The named operations every command is built from: the change of one part of
the chip, time, what the chip sends, dictionary values, ledger writes, event records and
notifications. -/

namespace Sys2Proof.Machine

/-- Change the `id` part of a chip. -/
def Chip.onId (c : Chip) (f : Ident → Ident) : Chip := { c with id := f c.id }
/-- Change the `clk` part of a chip. -/
def Chip.onClk (c : Chip) (f : Clock → Clock) : Chip := { c with clk := f c.clk }
/-- Change the `obj` part of a chip. -/
def Chip.onObj (c : Chip) (f : Objects → Objects) : Chip := { c with obj := f c.obj }
/-- Change the `cache` part of a chip. -/
def Chip.onCache (c : Chip) (f : Cache → Cache) : Chip := { c with cache := f c.cache }
/-- Change the `hbm` part of a chip. -/
def Chip.onHbm (c : Chip) (f : Hbm → Hbm) : Chip := { c with hbm := f c.hbm }
/-- Change the `med` part of a chip. -/
def Chip.onMed (c : Chip) (f : Medium → Medium) : Chip := { c with med := f c.med }
/-- Change the `integ` part of a chip. -/
def Chip.onInteg (c : Chip) (f : Integ → Integ) : Chip := { c with integ := f c.integ }
/-- Change the `dolly` part of a chip. -/
def Chip.onDolly (c : Chip) (f : Dolly → Dolly) : Chip := { c with dolly := f c.dolly }
/-- Change the `twin` part of a chip. -/
def Chip.onTwin (c : Chip) (f : Twin → Twin) : Chip := { c with twin := f c.twin }
/-- Change the `wit` part of a chip. -/
def Chip.onWit (c : Chip) (f : Witness → Witness) : Chip := { c with wit := f c.wit }
/-- Change the `pwr` part of a chip. -/
def Chip.onPwr (c : Chip) (f : Power → Power) : Chip := { c with pwr := f c.pwr }
/-- Change the `res` part of a chip. -/
def Chip.onRes (c : Chip) (f : Reserve → Reserve) : Chip := { c with res := f c.res }
/-- Change the `wrap` part of a chip. -/
def Chip.onWrap (c : Chip) (f : Wrap → Wrap) : Chip := { c with wrap := f c.wrap }
/-- Change the `ledger` part of a chip. -/
def Chip.onLedger (c : Chip) (f : Ledger → Ledger) : Chip := { c with ledger := f c.ledger }
/-- Change the `sec` part of a chip. -/
def Chip.onSec (c : Chip) (f : Security → Security) : Chip := { c with sec := f c.sec }
/-- Change the `ring` part of a chip. -/
def Chip.onRing (c : Chip) (f : Ring → Ring) : Chip := { c with ring := f c.ring }
/-- Change the `boot` part of a chip. -/
def Chip.onBoot (c : Chip) (f : Boot → Boot) : Chip := { c with boot := f c.boot }

/-- The registers of head `h`. -/
def Chip.head (c : Chip) (h : HeadNo) : Head := c.heads.get h

/-- Change the registers of head `h`. -/
def Chip.onHead (c : Chip) (h : HeadNo) (f : Head → Head) : Chip :=
  { c with heads := c.heads.set h.val (f (c.heads.get h)) h.isLt }

/-- Send a message. -/
def Chip.emit (c : Chip) (o : Output) : Chip := { c with outs := c.outs ++ [o] }

/-- AON time in nanoseconds: 40 ns a count (01 R20). -/
def Chip.now (c : Chip) : Nat := 40 * c.clk.ticks

/-- The device timestamp: the counter offset by Set Timestamp (01 R20). -/
def Chip.stamp (c : Chip) : Int := (c.now : Int) + c.clk.offset

/-- A core runs: neither restarting nor retired (14 R383). -/
def Chip.coreRuns (c : Chip) (k : CoreNo) : Bool :=
  match c.cores.get k with
  | .restarting | .retired => false
  | _ => true

/-- The management core runs (01 R17). -/
def Chip.mgRuns (c : Chip) : Bool := c.coreRuns 10

/-- The security core runs (01 R17). -/
def Chip.scRuns (c : Chip) : Bool := c.coreRuns 11

/-- The present heads, in order (00 R3). -/
def Chip.presentHeads (c : Chip) : List HeadNo :=
  (List.finRange 6).filter (fun h => h.val < c.id.part.heads)

/-- A channel is present (Table 00-1): nine to a group. -/
def Chip.chanPresent (c : Chip) (ch : ChanNo) : Bool := ch.val < 9 * c.id.part.groups

/-- Set a volatile entry. -/
def Chip.setVol (c : Chip) (index sub v : Nat) : Chip :=
  c.onRing fun r => { r with vals := r.vals.put (dictKey index sub) v }

/-- Add to a counter of the dictionary. -/
def Chip.bump (c : Chip) (index sub : Nat) (n : Nat := 1) : Chip := c.setVol index sub (c.vol index sub + n)

/-- Raise a peak value of the dictionary to at least `v`. -/
def Chip.peak (c : Chip) (index sub v : Nat) : Chip := c.setVol index sub (max (c.vol index sub) v)

/-- Priority of a class of page writes (11 R309), 1 first. -/
def PageClass.rank : PageClass → Nat
  | .wrap => 1 | .system => 2 | .log => 3 | .store => 4 | .refresh => 5

/-- The queued write to issue next: oldest of the highest class (11 R309). -/
def nextPage (q : List PageWrite) : Option PageWrite :=
  q.foldl (fun best p => match best with
    | none => some p
    | some b => if p.cls.rank < b.cls.rank then some p else some b) none

/-- Issue the next queued write when the die is idle (11 R307: one page write at a time). -/
def Ledger.issue (l : Ledger) : Ledger :=
  if l.current.isSome || l.failed then l
  else match nextPage l.queue with
    | none => l
    | some p => { l with current := some p, queue := l.queue.erase p }

/-- Split a write into page writes of at most one page each (11 R307). -/
def pagePieces (cls : PageClass) (addr : Nat) (bytes : List Byte) : Nat → List PageWrite
  | 0 => []
  | fuel + 1 =>
    if bytes.isEmpty then []
    else
      let room := 256 - addr % 256
      { cls := cls, addr := addr, bytes := bytes.take room } ::
        pagePieces cls (addr + room) (bytes.drop room) fuel

/-- The die as it will be once every queued page write has been done. -/
def Ledger.ahead (l : Ledger) : Memory :=
  (l.current.toList ++ l.queue).foldl (fun m p => m.write p.addr p.bytes) l.cells

/-- The unreadable words once every queued page write has been done. -/
def Ledger.badAhead (l : Ledger) : List Nat :=
  (l.current.toList ++ l.queue).foldl (fun b p => uncover b p.addr p.bytes.length) l.bad

/-- Words that the die cannot correct are found; one in a counter's tally bytes is kept as a loss (11 R320). -/
def Chip.unreadable (c : Chip) (ws : List Nat) : Chip :=
  c.onLedger fun l =>
    { l with bad := ws.foldl insertNat l.bad, counterBad := l.counterBad || ws.any (fun w => decide (0x38000 ≤ w ∧ w < 0x40000)) }

/-- Queue one page write; it is merged with a queued write of its class to the same page
(11 R309). -/
def Ledger.enqueue (l : Ledger) (q : PageWrite) : Ledger :=
  match l.queue.find? (fun p => decide (p.cls = q.cls ∧ p.addr / 256 = q.addr / 256)) with
  | none => { l with queue := l.queue ++ [q] }
  | some p =>
    let lo := min p.addr q.addr
    let hi := max (p.addr + p.bytes.length) (q.addr + q.bytes.length)
    let m := l.ahead.write q.addr q.bytes
    { l with queue := l.queue.map (fun x => if x = p then { x with addr := lo, bytes := m.read lo (hi - lo) } else x) }

/-- Queue a write of bytes to the ledger, in page writes (11 R307, R309). A failed die takes
no write (11 R320). -/
def Chip.pageWrite (c : Chip) (cls : PageClass) (addr : Nat) (bytes : List Byte) : Chip :=
  if c.ledger.failed then c
  else c.onLedger fun l => ((pagePieces cls addr bytes (bytes.length + 1)).foldl Ledger.enqueue l).issue

/-- The fields of an event record's payload as numbers, for its image in the CXL 3.1 record
format, which the spec does not lay out. -/
def EventBody.fields : EventBody → List Nat
  | .vendor a b d m e => [0, a, b, d, m.toNat, ofBytes e]
  | .media a b d e ch comp => [1, a, b, d, e, ch.getD 256] ++ comp
  | .dram a b d e p comp => [2, a, b, d, e, p] ++ comp
  | .memModule a b => [3, a, b]
  | .dynCap a b => [4, a, b]

/-- The bytes of a record as delivered to a host (03 R94). -/
def EventRec.image (r : EventRec) : List Byte :=
  fitBytes 128 (Config.cxlRecord (r.handle :: r.time.toNat :: r.body.fields))

/-- Number of a log in a head. -/
def LogNo.index : LogNo → Fin 5
  | .informational => 0 | .warning => 1 | .failure => 2 | .fatal => 3 | .dynamicCapacity => 4

/-- Number of a log in notification 0x0002 (Table 13-10), if it sends one. -/
def LogNo.noteCode : LogNo → Option Nat
  | .warning => some 1 | .failure => some 2 | .fatal => some 3 | _ => none

/-- Place a record in a log of at most 256 records; a full log drops it and counts the
overflow (03 R94). -/
def EventLog.add (l : EventLog) (time : Int) (b : EventBody) : EventLog :=
  if l.recs.length < 256 then
    { l with recs := l.recs ++ [{ handle := l.nextHandle, time := time, body := b }], nextHandle := l.nextHandle + 1 }
  else { l with overflow := true, overCount := l.overCount + 1 }

/-- Bits of 1120:01 NOTIFY_MASK, default 0xFF (Table 13-13). -/
def Chip.notifyMask (c : Chip) : Nat := c.par 0x1120 1 0xFF

/-- Send one notification (13 R362). -/
def Chip.sendNote (c : Chip) (code index sub : Nat) (data : List Byte) : Chip :=
  let c := c.onRing fun r => { r with noteSeq := r.noteSeq + 1 }
  let c := c.bump 0x1120 2
  c.emit (.notify c.ring.noteSeq code index sub c.stamp data)

/-- Notify a change (13 R362): at most one notification per code in 10 ms, later changes
being merged until NOTIFY_MERGE_EXPIRED; event records (0x0002) are not merged, at most 100 a
second. Notifications stop with MG (01 R17). -/
def Chip.notify (c : Chip) (code index sub : Nat) (data : List Byte) : Chip :=
  if !c.notifyMask.testBit (code - 1) || !c.mgRuns then c
  else if code = 2 then
    let sec := c.now / 1000000000
    let n := if c.ring.noteSecond = sec then c.ring.noteCount else 0
    if n < 100 then
      (c.sendNote code index sub data).onRing fun r => { r with noteSecond := sec, noteCount := n + 1 }
    else c.bump 0x1120 3
  else if c.ring.merging.contains code then
    c.onRing fun r => { r with merged := r.merged.put code (dictKey index sub, data) }
  else
    (c.sendNote code index sub data).onRing fun r => { r with merging := insertNat r.merging code }

/-- Write a record to the ledger event log (11 R304): the slot of 128 B holds the sequence
number and the record; the newest 7,680 are kept; page write of class 3. -/
def Chip.ledgerEvent (c : Chip) (b : EventBody) : Chip :=
  let seq := c.ledger.evtSeq + 1
  let rec_ : EventRec := { handle := seq, time := c.stamp, body := b }
  let c := c.onLedger fun l =>
    { l with evtSeq := seq, evtRing := (l.evtRing ++ [(seq, rec_)]).drop ((l.evtRing.length + 1) - 7680) }
  c.pageWrite .log (0x4D0000 + 128 * ((seq - 1) % 7680)) (fitBytes 128 (toBytes 8 seq ++ rec_.image))

/-- Place a record in the log of one head, raising MSI-X vector 1 where the head's event
interrupt policy selects it (03 R94, R96). -/
def Chip.headRecord (c : Chip) (log : LogNo) (b : EventBody) (h : HeadNo) : Chip :=
  let t := c.stamp
  let c' := c.onHead h fun d =>
    { d with logs := d.logs.set log.index.val ((d.logs.get log.index).add t b) log.index.isLt }
  if (c.head h).irqPolicy.getLsbD log.index.val then c'.emit (.msix h 1) else c'

/-- Raise a record at the given heads: each head's log, the ledger event log, and
notification 0x0002 for the Warning, Failure and Fatal logs (03 R94, 11 R304, 13 R362). -/
def Chip.recordAt (c : Chip) (heads : List HeadNo) (log : LogNo) (b : EventBody) : Chip :=
  let c := heads.foldl (fun c h => c.headRecord log b h) c
  let c := c.ledgerEvent b
  match log.noteCode with
  | none => c
  | some n => c.notify 2 0 0 (fitBytes 64 (toBytes 2 n ++ (EventRec.image { body := b, time := c.stamp }).take 62))

/-- A record about the chip goes to every present head (03 R94). -/
def Chip.record (c : Chip) (log : LogNo) (b : EventBody) : Chip := c.recordAt c.presentHeads log b

/-- An Olieno vendor record about the chip (14 R384), with the DATA of its notification. -/
def Chip.vendorRecord (c : Chip) (log : LogNo) (code : Nat) (index sub : Nat := 0) (data : List Byte := []) : Chip :=
  c.record log (.vendor code index sub c.boot.barometer data)

/-- A vendor record at one head only. -/
def Chip.vendorRecordAt (c : Chip) (h : HeadNo) (log : LogNo) (code : Nat) : Chip :=
  c.recordAt [h] log (.vendor code 0 0 c.boot.barometer [])

/-- Set a bit of HEAD_EVT (Table 03-12). -/
def Chip.headEvent (c : Chip) (h : HeadNo) (i : Nat) : Chip :=
  c.onHead h fun d => { d with evt := d.evt ||| (1#6 <<< i) }

/-- A frame that this chip originates on the ring (13 Table 13-4; 09 Table 09-7). -/
def Output.originated : Output → Bool
  | .witness _ | .poisonRing _ _ _ | .dict _ _ _ _ _ _ _ _ _ _ | .notify _ _ _ _ _ _ | .recoveryStatus _ => true
  | _ => false

/-- A ring port is up (13 R349). -/
def Chip.portUp (c : Chip) (p : PortNo) : Bool := decide (c.ring.ports.get p = .up)

/-- Number the `n` frames originated and count them at each port that is up (13 R351, R352; 1101:03, 1101:04). -/
def Chip.countSent (c : Chip) (n : Nat) : Chip :=
  if n = 0 then c
  else ((c.onRing fun r => { r with txSeq := r.txSeq + BitVec.ofNat 32 n }).bump 0x1101 3 (n * boolNat (c.portUp 0))).bump
    0x1101 4 (n * boolNat (c.portUp 1))

/-- The end of every command: the frames it has sent are numbered, and the flags it leaves set are latched
in BAROMETER_SEEN (13 R351; 14 R382). -/
def Chip.ended (was c : Chip) : Chip := (c.countSent ((c.outs.drop was.outs.length).countP (·.originated))).latch

/-- The effect of a command: the chip changes and the waiting commands stay. -/
def State.onChip (s : State) (f : Chip → Chip) : Host.Outcome State Fault Refusal :=
  .next { s with chip := Chip.ended s.chip (f s.chip) }

end Sys2Proof.Machine
end

