-- ==== Sys2Proof/Machine/Operands.lean ====
section
/-! DEFINITION. The operand forms: how an address names a half, granule, segment, line, cache
set, frame, pseudo-channel, stripe, member and unit, and how a configured value is read. -/

namespace Sys2Proof.Machine

/-- Lines of the twin range: 512 TiB of 64 B (Table 02-1). -/
def twinLines : Nat := 2 ^ 43
/-- First line of the scratch range, DPA 0x0002_0000_0000_0000 (Table 02-1). -/
def scratchBase : Nat := 2 ^ 43
/-- Lines of one scratch way, 768 MiB (02 R73). -/
def scratchWayLines : Nat := 12582912
/-- Twin granules of one half: 256 TiB of 2 MiB (02 R48). -/
def halfGranules : Nat := 2 ^ 27
/-- Segment of a line (02 R49). -/
def lineSeg (l : Nat) : Nat := l / 64
/-- Sector of a line in its segment (02 R49, 04 R107). -/
def lineSector (l : Nat) : Nat := l % 64
/-- Twin granule of a line (02 R49). -/
def lineGran (l : Nat) : Nat := l / 32768
/-- Twin granule of a segment. -/
def segGran (s : Nat) : Nat := s / 512
/-- The half of a granule: twin address bit 48 (02 R46). -/
def granHalf (g : Nat) : Bool := decide (halfGranules ≤ g)

/-- The cache set of twin segment `s` (04 R107). -/
def cacheSet (s : Nat) : Nat :=
  65536 * (s / 65536 % 3) + ((s % 65536) ^^^ (s / 65536 % 65536) ^^^ (s / 2 ^ 32 % 32 * 2048))

/-- Frame number of way `w` of set `s`. -/
def frameNo (set way : Nat) : Nat := 16 * set + way
/-- Way of a frame. -/
def frameWay (f : Nat) : Nat := f % 16
/-- In-service index of the pseudo-channel in which a frame lies (04 R108). -/
def frameIndex (f : Nat) : Nat := (f / 16 + f % 16) % 15
/-- Frames of way `w` that lie in in-service index `i` (04 R108). -/
def wayFramesAt (w i : Nat) : Nat := 13107 + boolNat (decide ((i + 30 - w % 15) % 15 < 3))

/-- Stripe of segment `s` (0 to 511) of the granule in slot `j` (06 R162). -/
def stripeOf (slot seg : Nat) : Nat := 256 * slot + seg / 2
/-- Partition row of a stripe (06 R162). -/
def stripeRow (t : Nat) : Nat := t % 1024
/-- Unit offset of a stripe (06 R162). -/
def stripeUnit (t : Nat) : Nat := t / 1024
/-- Member holding the parity unit of the stripe at unit offset `u` (06 R162). -/
def parityMember (u : Nat) : Nat := u % 9
/-- Data unit 0 to 7 of line `n` of segment `s` (06 R162). -/
def dataUnit (seg n : Nat) : Nat := 4 * (seg % 2) + n / 16
/-- Member holding data unit `k` of the stripe at unit offset `u` (06 R162). -/
def dataMember (u k : Nat) : Nat := (parityMember u + 1 + k) % 9

/-- Key of a slot: 2^25 to a group (06 R161). -/
def slotKey (p : Slot) : Nat := 2 ^ 25 * p.group + p.slot
/-- Key of a segment in a slot. -/
def segKey (p : Slot) (seg : Nat) : Nat := 512 * slotKey p + seg % 512
/-- Key of a line on the medium. -/
def medKey (p : Slot) (seg n : Nat) : Nat := 64 * segKey p seg + n
/-- Stripe of a medium line key. -/
def keyStripe (k : Nat) : Nat := stripeOf (k / 32768 % 2 ^ 25) (k / 64 % 512)
/-- Group of a medium line key. -/
def keyGroup (k : Nat) : Nat := k / 32768 / 2 ^ 25

/-- Channel of a member of a group (06 R161). -/
def memberChan (g m : Nat) : Nat := 9 * g + m
/-- Key of a unit of a channel: partition, unit. -/
def unitKey (ch part unit : Nat) : Nat := (ch * 1024 + part) * 2 ^ 24 + unit

/-- Pair position of this chip as a number. -/
def Chip.pos (c : Chip) : Nat := boolNat c.twin.position
/-- The pair is formed (02 R47, 09 R247). -/
def Chip.paired (c : Chip) : Bool := decide (c.twin.state = .paired)
/-- The device is in service: BOOT_STAGE 0 (15 R393, Table 15-9). -/
def Chip.inService (c : Chip) : Bool := decide (c.boot.stage = 0)
/-- Number of a head in the pair (Table 02-2). -/
def Chip.pairHead (c : Chip) (h : HeadNo) : PairHead :=
  if c.twin.position then ⟨h.val + 6, by omega⟩ else ⟨h.val, by omega⟩

/-- CUE_INFLIGHT_MAX (2022:01). -/
def Chip.cueMax (c : Chip) : Nat := c.par 0x2022 1 16
/-- REEL_FRAME_LIMIT (2030:02). -/
def Chip.reelLimit (c : Chip) : Nat := c.par 0x2030 2 524288
/-- SQUALL_ENTER_BYTES (3011:02). -/
def Chip.squallEnterBytes (c : Chip) : Nat := c.par 0x3011 2 268435456
/-- SQUALL_EXIT_BYTES (3011:03). -/
def Chip.squallExitBytes (c : Chip) : Nat := c.par 0x3011 3 536870912
/-- SQUALL_ENTER_FRAMES (3011:04). -/
def Chip.squallEnterFrames (c : Chip) : Nat := c.par 0x3011 4 65536
/-- SQUALL_EXIT_FRAMES (3011:05). -/
def Chip.squallExitFrames (c : Chip) : Nat := c.par 0x3011 5 131072
/-- WB_START (3012:01), percent. -/
def Chip.wbStart (c : Chip) : Nat := c.par 0x3012 1 50
/-- WB_AGE_MAX (3012:02), ns. -/
def Chip.wbAgeMax (c : Chip) : Nat := c.par 0x3012 2 1000000000
/-- HEAD_MBOX_LEVEL of a head (1402). -/
def Chip.mboxLevel (c : Chip) (h : HeadNo) : Nat := c.par 0x1402 (h.val + 1) 1
/-- HEAD_DC_REGIONS of a head (1401). -/
def Chip.dcRegions (c : Chip) (h : HeadNo) : Nat := c.par 0x1401 (h.val + 1) 0xFF

/-- OPCODE of an entry. -/
def opcodeOf (e : CmdEntry) : Nat := fieldAt e 2 1
/-- OBJ of an entry. -/
def objOf (e : CmdEntry) : Nat := fieldAt e 4 4
/-- OPFLAGS of an entry. -/
def flagsOf (e : CmdEntry) : Nat := fieldAt e 8 4
/-- CPH of an entry. -/
def cphOf (e : CmdEntry) : Bool := bit (fieldAt e 3 1) 7
/-- FENCE of an entry. -/
def fenceOf (e : CmdEntry) : Bool := bit (fieldAt e 3 1) 6

end Sys2Proof.Machine
end

