-- ==== Sys2Proof/Machine/Records.lean ====
section
/-! DEFINITION. The two-copy records of the ledger (11 R312, R313) and the bodies of the system
records of Table 11-2, the wear of pages and the spread counters (11 R307, R314 to R317). -/

namespace Sys2Proof.Machine

/-- One step of the CRC-32 of IEEE 802.3, on the reflected register. -/
def crcStep : Nat → BitVec 32 → BitVec 32
  | 0, r => r
  | n + 1, r => crcStep n (if r.getLsbD 0 then (r >>> 1) ^^^ 0xEDB88320#32 else r >>> 1)

/-- The CRC-32 register after some bytes. -/
def crcBytes : List Byte → BitVec 32 → BitVec 32
  | [], r => r
  | b :: t, r => crcBytes t (crcStep 8 (r ^^^ b.setWidth 32))

/-- CRC-32 with the polynomial of IEEE 802.3 (11 R312). -/
def crc32 (b : List Byte) : Nat := (~~~ (crcBytes b 0xFFFFFFFF#32)).toNat

/-- A slot of a two-copy record: the body, SEQ, and the CRC-32 over both (11 R312). -/
def slotBytes (body : List Byte) (seq : Nat) : List Byte :=
  let b := body ++ toBytes 4 seq
  b ++ toBytes 4 (crc32 b)

/-- SEQ of a slot whose CRC-32 checks (11 R312), with no unreadable word (11 R320). -/
def slotSeq (m : Memory) (bad : List Nat) (addr n : Nat) : Option Nat :=
  let b := m.read addr (n + 4)
  if wordBad bad addr (n + 8) then none
  else if crc32 b = ofBytes (m.read (addr + n + 4) 4) then some (ofBytes (m.read (addr + n) 4)) else none

/-- Serial-number order modulo 2^32: `a` is newer than `b` (11 R313). -/
def newer (a b : Nat) : Bool := decide (a ≠ b ∧ (a + 2 ^ 32 - b) % 2 ^ 32 < 2 ^ 31)

/-- A record's place: the addresses of copy A and copy B, and the size of its body. -/
structure RecordAt where
  a : Nat
  b : Nat
  size : Nat

/-- The newest valid copy of a record: false for A, true for B, with its SEQ (11 R313). -/
def newestCopy (m : Memory) (bad : List Nat) (r : RecordAt) : Option (Bool × Nat) :=
  match slotSeq m bad r.a r.size, slotSeq m bad r.b r.size with
  | some x, some y => if newer y x then some (true, y) else some (false, x)
  | some x, none => some (false, x)
  | none, some y => some (true, y)
  | none, none => none

/-- What a record reads as (11 R313); `none` with no valid copy. -/
def readRecord (m : Memory) (bad : List Nat) (r : RecordAt) : Option (List Byte) :=
  (newestCopy m bad r).map fun p => m.read (if p.1 then r.b else r.a) r.size

/-- The slot a new value is written into, and its SEQ: the slot that does not hold the newest
valid copy, or copy A with SEQ 1 (11 R312). -/
def nextCopy (m : Memory) (bad : List Nat) (r : RecordAt) : Nat × Nat :=
  match newestCopy m bad r with
  | some (true, n) => (r.a, (n + 1) % 2 ^ 32)
  | some (false, n) => (r.b, (n + 1) % 2 ^ 32)
  | none => (r.a, 1)

/-- Queue the write of a record's new value (11 R312). -/
def Chip.writeRecord (c : Chip) (cls : PageClass) (r : RecordAt) (body : List Byte) : Chip :=
  let (addr, seq) := nextCopy c.ledger.ahead c.ledger.badAhead r
  c.pageWrite cls addr (slotBytes (fitBytes r.size body) seq)

/-- The system records of Table 11-2. -/
def wrapRec : RecordAt := { a := 0x80000, b := 0x80100, size := 64 }
/-- Minute record. -/
def minuteRec : RecordAt := { a := 0x80200, b := 0x80300, size := 8 }
/-- Pair record. -/
def pairRec : RecordAt := { a := 0x80400, b := 0x80500, size := 32 }
/-- HBM binding. -/
def bindingRec : RecordAt := { a := 0x80600, b := 0x80700, size := 32 }
/-- Shutdown state. -/
def shutdownRec : RecordAt := { a := 0x80800, b := 0x80900, size := 8 }
/-- Refresh record. -/
def refreshRec : RecordAt := { a := 0x80A00, b := 0x80B00, size := 16 }

/-- Write the minute record: one more than the count last sent (11 R306). -/
def Chip.minuteRecord (c : Chip) : Chip :=
  c.writeRecord .system minuteRec (toBytes 4 (c.med.minute + 1) ++ toBytes 4 0)

/-- Write the pair record: position, recorded twin, epoch (Table 11-2). -/
def Chip.pairRecord (c : Chip) : Chip :=
  c.writeRecord .system pairRec
    (toBytes 8 c.pos ++ toBytes 8 c.twin.twinSerial.toNat ++ toBytes 8 c.twin.epoch ++ toBytes 8 0)

/-- PC_STATE codes (Table 05-10). -/
def PcState.code : PcState → Nat
  | .inService => 0 | .spare => 1 | .retiring => 2 | .retired => 3 | .failedTraining => 4 | .spareFailed => 5

/-- Write the HBM binding: the states, then the indices as U4, 15 where there is none (Table 11-2). -/
def Chip.bindingRecord (c : Chip) : Chip :=
  c.writeRecord .system bindingRec
    (c.hbm.pcs.toList.map (fun p => BitVec.ofNat 8 p.code) ++
      toBytes 8 (c.hbm.index.toList.foldr (fun i n => i.getD 15 + 16 * n) 0))

/-- Write the shutdown state record (Table 11-2). -/
def Chip.shutdownRecord (c : Chip) : Chip :=
  c.writeRecord .store shutdownRec (toBytes 8 c.boot.shutdown.toNat)

/-- Write the refresh record: next page and pass start (Table 11-2). -/
def Chip.refreshRecord (c : Chip) : Chip :=
  c.writeRecord .refresh refreshRec (toBytes 4 c.ledger.refreshPage ++ toBytes 4 0 ++ toBytes 8 c.ledger.refreshStart)

/-- A spread counter, with the increments still queued. -/
def Chip.counter (c : Chip) (n : Nat) : Nat := counterValue c.ledger.ahead c.ledger.badAhead n

/-- The page write that makes a counter's value `v` (11 R314). -/
def counterWrite (n v : Nat) : Nat × List Byte :=
  (counterBase n + 8 * ((v - 1) % 512), toBytes 7 v ++ [BitVec.ofNat 8 ((v - 1) / 512 % 255 + 1)])

/-- Increase a spread counter; at its end it stays (11 R315). -/
def Chip.countUp (c : Chip) (n : Nat) : Chip :=
  let v := c.counter n
  if counterLimit ≤ v then c
  else
    let w := counterWrite n (v + 1)
    c.pageWrite .system w.1 w.2

/-- Pages of SYS, COUNTERS, DICT_A, DICT_B and LOG, which may be retired (11 R317). -/
def remappable (page : Nat) : Bool :=
  decide ((0x800 ≤ page ∧ page < 0x1800) ∨ (0x1C00 ≤ page ∧ page < 0x4000) ∨ (0x4C00 ≤ page ∧ page < 0x6C00))

/-- Body of the remap table (Table 11-2). -/
def remapImage (t : List (Nat × Nat)) : List Byte :=
  fitBytes 8192 (t.flatMap (fun p => toBytes 4 p.1 ++ toBytes 4 p.2) ++ List.replicate (8 * (1024 - t.length)) 0xFF)

/-- The remap table's place (Table 11-2). -/
def remapRec : RecordAt := { a := 0x90000, b := 0x94000, size := 8192 }

/-- A page write completes: its bytes stand, its page is counted, and a page that reaches 9 x 10^9
writes is retired to a spare page (11 R307, R317). -/
def Chip.pageDone (c : Chip) (p : PageWrite) : Chip :=
  let page := p.addr / 256
  let n := c.ledger.counts.getD page 0 + 1
  let c := c.onLedger fun l => { l with cells := l.cells.write p.addr p.bytes, bad := uncover l.bad p.addr p.bytes.length, counts := l.counts.put page n }
  let c := c.bump 0x7050 1
  if n = 9000000000 && remappable page && decide (c.ledger.remap.length < 1024) then
    let c := c.onLedger fun l => { l with remap := l.remap ++ [(page, 0x7C00 + l.remap.length)], counts := l.counts.put page 0 }
    c.writeRecord .store remapRec (remapImage c.ledger.remap)
  else c

/-- A page write whose requester waits for it: done within the requester's step. -/
def Chip.pageNow (c : Chip) (addr : Nat) (bytes : List Byte) : Chip :=
  (pagePieces .store addr bytes (bytes.length + 1)).foldl (fun c p => c.pageDone p) c

/-- Increase a spread counter at once. -/
def Chip.countNow (c : Chip) (n : Nat) : Chip :=
  let v := c.counter n
  if counterLimit ≤ v || c.ledger.failed then c
  else
    let w := counterWrite n (v + 1)
    c.pageNow w.1 w.2

end Sys2Proof.Machine
end

