-- ==== Sys2Proof/Machine/Requests.lean ====
section
/-! DEFINITION. What a request meets before and after the cache pipeline: the object at its
address, the home of its segment, its completion, twin messages, and poison records. -/

namespace Sys2Proof.Machine

/-- The lowest number not in a list, from `n` on. -/
def lowestFree (used : List Nat) : Nat → Nat → Nat
  | n, 0 => n
  | n, fuel + 1 => if used.contains n then lowestFree used (n + 1) fuel else n

/-- A wrap runs: WRAP_STATE 1 to 4 (6020:01). -/
def Chip.wrapping (c : Chip) : Bool := decide (1 ≤ c.wrap.state ∧ c.wrap.state ≤ 4)

/-- Answer a mailbox command; MSI-X vector 0 marks its completion (03 R96). -/
def Chip.mbox (c : Chip) (h : HeadNo) (code : MboxCode) (data : MboxData := .empty) : Chip :=
  (c.emit (.mbox h code data)).emit (.msix h 0)

/-- The partner's part of a Secure Erase or Sanitize ends, and a Secure Erase that waits for it is answered (12 R328).
DESIGN CHOICE (notes/assumptions/108.md): Internal Error where the twin link goes down first. -/
def Chip.peerErased (c : Chip) (code : MboxCode) : Chip :=
  let c := match c.sec.eraseHead with | some h => c.mbox h code | none => c
  c.onSec fun s => { s with peerErasing := false, eraseHead := none }

/-- The twin link carries messages: up at x16 and 64 GT/s, its cipher keyed (09 R248, 12 R331). -/
def Chip.linkReady (c : Chip) : Bool := decide (c.twin.link = .up) && c.twin.keyed

/-- Send a twin message while the link carries them (09 R248, Table 09-3). -/
def Chip.sendTwin (c : Chip) (b : TwinBody) (line : Nat := 0) (tag : Nat := 0) (head : PairHead := 0)
    (poison segment final : Bool := false) : Chip :=
  if c.linkReady then
    c.emit (.twin { tag := tag, epoch := BitVec.ofNat 32 c.twin.epoch, line := line, head := head,
                    poison := poison, final := final, segment := segment } b)
  else c

/-- A built-in test ends with a verdict (0 pass, 1 fail, 2 aborted): its result goes to the requester's
BIST_RESULT, and a test that completed is counted (16 R411, Table 16-4). -/
def Chip.bistEnd (c : Chip) (verdict errors detail : Nat) : Chip :=
  match c.boot.bist with
  | none => c
  | some b =>
    let us := (c.clk.ticks - b.startedAt) * 40 / 1000
    let bytes := [BitVec.ofNat 8 b.test, BitVec.ofNat 8 b.target, BitVec.ofNat 8 verdict, 0] ++ toBytes 4 us ++
      toBytes 4 errors ++ toBytes 4 detail ++ toBytes 8 c.stamp.toNat ++ toBytes 8 0
    let c := (c.onBoot fun x => { x with bist := none }).onObj fun o =>
      { o with dictRes := o.dictRes.map (fun (x : DictRes) => if x.req = b.req ∧ x.entry = 0xA100 ∧ x.result = none then { x with result := some bytes } else x) }
    if verdict = 2 then c else c.bump 0xA100 4

/-- Take the next request tag (Table 09-3: 16 bits). -/
def Chip.takeTag (c : Chip) : Nat × Chip :=
  (c.twin.nextTag, c.onTwin fun t => { t with nextTag := (t.nextTag + 1) % 65536 })

/-- The object whose range holds twin granule `g` (02 R48), in any state. -/
def Chip.objAtGran (c : Chip) (g : Nat) : Option (Nat × Obj) :=
  c.obj.table.find? (fun p => decide (p.2.base ≤ g ∧ g < p.2.base + p.2.granules))

/-- The object that serves the line: ACTIVE or UNAVAILABLE (Table 02-3). -/
def Chip.objAt (c : Chip) (line : Nat) : Option (Nat × Obj) :=
  match c.objAtGran (lineGran line) with
  | some (i, o) => if o.state = .destroying then none else some (i, o)
  | none => none

/-- The position that owns an object (02 R50; 09 R264, R268). -/
def Chip.owns (c : Chip) (id : Nat) (o : Obj) : Bool :=
  (decide (bit id 20 = c.twin.position) && !o.handedOver) || o.adopted

/-- The open granule move of a granule, if any (08 R224). -/
def Chip.openGran (c : Chip) (g : Nat) : Option OpenGran :=
  c.dolly.opened.find? (fun o => decide (o.gran = g))

/-- Stage of a segment in an open granule move; absent is WAITING (Table 08-2). -/
def OpenGran.stage (o : OpenGran) (seg : Nat) : Option SegStage := o.segs.find (seg % 512)

/-- A segment of an open move has switched to the target. -/
def OpenGran.switched (o : OpenGran) (seg : Nat) : Bool := decide (o.stage seg = some .switched)

/-- The move crosses chips (Table 08-1). -/
def OpenGran.crosses (o : OpenGran) : Bool := o.isTarget || decide (o.kind = .cross ∨ o.kind = .swap)

/-- This chip holds the home of the segment (02 R51): by the move record while a cross-chip
move of it is open, otherwise by the route map, whose default is the granule's half; while the
lost-chip flag is set every segment it serves is its own (09 R264). -/
def Chip.homeHere (c : Chip) (seg : Nat) : Bool :=
  match c.openGran (segGran seg) with
  | some o =>
    if o.crosses then decide (o.switched seg = o.isTarget)
    else c.twin.lostChip || decide (c.med.routeMap.getD (segGran seg) (granHalf (segGran seg)) = c.twin.position)
  | none => c.twin.lostChip || decide (c.med.routeMap.getD (segGran seg) (granHalf (segGran seg)) = c.twin.position)

/-- The slot of this chip that holds the medium home of a segment: the target slot once the
segment has switched in a move of this chip (08 R228), otherwise the granule's slot. -/
def Chip.homeSlot (c : Chip) (seg : Nat) : Option Slot :=
  let own := c.med.slots.find (segGran seg)
  match c.openGran (segGran seg) with
  | some o => if o.switched seg then (match o.dst with | some d => some d | none => own) else own
  | none => own

/-- The stripe group of a segment on this chip. -/
def Chip.segGroup (c : Chip) (seg : Nat) : Option Nat := (c.homeSlot seg).map (·.group)

/-- The registers of stripe group `g`, SG0 where the number is out of range. -/
def Chip.group (c : Chip) (g : Nat) : Group := if h : g < 4 then c.med.sg.get ⟨g, h⟩ else c.med.sg.get 0

/-- The group is FAILED (06 R179). -/
def Chip.groupFailed (c : Chip) (seg : Nat) : Bool :=
  match c.segGroup seg with
  | some g => decide ((c.group g).state = .failed)
  | none => false

/-- Where a line lies on the medium: its group, member, row, unit and
line in the unit (06 R162). -/
structure LinePlace where
  group : Nat
  member : Nat
  row : Nat
  unit : Nat
  line : Nat

/-- First of the numbers the model gives the member lines that are no twin line: parity, internal and unallocated units. -/
def memberBase : Nat := 2 ^ 44

/-- The number of a member line by its channel, row, unit and place in the unit. -/
def memberLine (n row u l : Nat) : Nat := memberBase + ((n * 1024 + row) * 2 ^ 24 + u) * 16 + l

/-- Where a line of this chip lies on the medium (06 R162). -/
def Chip.linePlace (c : Chip) (line : Nat) : Option LinePlace :=
  if memberBase ≤ line then
    let k := line - memberBase
    let n := k / 2 ^ 38
    if n < 36 then some { group := n / 9, member := n % 9, row := k / 2 ^ 28 % 1024, unit := k / 16 % 2 ^ 24, line := k % 16 } else none
  else
    (c.homeSlot (lineSeg line)).map fun p =>
      let t := stripeOf p.slot (lineSeg line % 512)
      let u := stripeUnit t
      { group := p.group, member := dataMember u (dataUnit (lineSeg line) (lineSector line)),
        row := stripeRow t, unit := u, line := lineSector line % 16 }

/-- The written bitmap of a segment (02 R74). -/
def Chip.written (c : Chip) (seg : Nat) : BitVec 64 :=
  match c.homeSlot seg with
  | some p => c.med.map.getD (segKey p seg) 0
  | none => 0

/-- The bitmaps of slot `k` are all set. -/
def Medium.allWritten (d : Medium) (k : Nat) : Bool :=
  let mine := d.map.filter (fun q => decide (q.1 / 512 = k))
  decide (mine.length = 512) && mine.all (fun q => decide (q.2 = BitVec.allOnes 64))

/-- The mixed index after a change of the bitmaps of slot `k` at `now` (Table 06-15): a slot with some bits set and some
clear has an entry and a block. DESIGN CHOICE (notes/assumptions/106.md): a new one takes the lowest free block. -/
def Medium.reindex (d : Medium) (k now : Nat) : Medium :=
  if d.map.all (fun q => decide (q.1 / 512 ≠ k)) || d.allWritten k then { d with mixed := d.mixed.del k }
  else
    let used := d.mixed.map (fun p => p.2.block)
    { d with mixed := d.mixed.upd k { block := lowestFree used 0 used.length } fun x => { x with changed := now } }

/-- State of slot `k` in the slot state array (Table 06-15): 0b00 nothing written, 0b01 all, 0b10 mixed, 0b11 mixed and being
materialised. -/
def Chip.slotState (c : Chip) (k : Nat) : Nat :=
  match c.med.mixed.find k with
  | some x => if x.filling then 3 else 2
  | none => if c.med.map.any (fun q => decide (q.1 / 512 = k)) then 1 else 0

/-- Set a word of the written map, by its key. -/
def Chip.setMap (c : Chip) (key : Nat) (m : BitVec 64) : Chip :=
  c.onMed fun d => { d with map := d.map.putD key m 0 }.reindex (key / 512) c.now

/-- Set the written bitmap of a segment; that of a segment which has switched in an open medium or rekey move in the source
slot too, which stays current until the granule commits (08 R232). -/
def Chip.setWritten (c : Chip) (seg : Nat) (m : BitVec 64) : Chip :=
  match c.homeSlot seg with
  | some p =>
    let c := c.setMap (segKey p seg) m
    match c.openGran (segGran seg) with
    | some o => if o.switched seg && !o.isTarget && o.dst.isSome then c.setMap (segKey o.src seg) m else c
    | none => c
  | none => c

/-- Set the written bit of a line (01 R26 step 3). -/
def Chip.setLineWritten (c : Chip) (line : Nat) : Chip :=
  c.setWritten (lineSeg line) (setBit (c.written (lineSeg line)) (lineSector line))

/-- The line's written bit. -/
def Chip.lineWritten (c : Chip) (line : Nat) : Bool := (c.written (lineSeg line)).getLsbD (lineSector line)

/-- The mirror of an object is current and mirrored writes need its commit (01 R28, R30). -/
def Chip.mirrors (c : Chip) (o : Obj) : Bool := o.mirror && c.paired && !c.twin.suspended

/-- Add a granule to the stale set (09 R269). -/
def Chip.markStale (c : Chip) (gran : Nat) : Chip :=
  c.onMed fun d => { d with stale := insertNat d.stale gran }

/-- The poison record that covers a line (07 R216). -/
def Chip.poisonAt (c : Chip) (line : Nat) : Option Poison :=
  c.integ.poison.find? (fun p => decide (p.line ≤ line ∧ line < p.line + p.len))

/-- Physical Address of a General Media record (Table 07-6): the DPA, with bit 0 set for scratch, or the value for parity,
map and internal units. -/
def mediaAddr (line : Nat) : Nat :=
  if memberBase ≤ line then 0xFFFFFFFFFFFFFFC0 else 64 * line + boolNat (decide (scratchBase ≤ line))

/-- Rank (package), Device (partition row) and Component ID (channel, group, member, ladder step, unit, line, bin) of a record of
a line on the medium (Table 07-6). -/
def LinePlace.comp (p : LinePlace) (step bin : Nat) : List Nat :=
  [p.row / 64, p.row, memberChan p.group p.member, p.group, p.member, step, p.unit, p.line, bin]

/-- The General Media record of a line (03 R94, R95; 07 R220); one of a line of no object names no place. -/
def Chip.mediaBody (c : Chip) (line txn type descr : Nat) : EventBody :=
  match (if memberBase ≤ line || (c.objAt line).isSome then c.linePlace line else none) with
  | some p =>
    let at' := if c.integ.ended.1 = line then c.integ.ended.2 else (1, 0)
    .media (mediaAddr line) txn type descr (some (memberChan p.group p.member)) (p.comp at'.1 at'.2)
  | none => .media (mediaAddr line) txn type descr none []

/-- Requests of a head inside the device and not completed: held, parked, behind a fence or a merge, waiting for credits,
for the partner or for a medium read. -/
def Chip.queued (c : Chip) (h : HeadNo) : Nat :=
  let t := c.twin
  (t.holdQ ++ t.overHold ++ t.handQ ++ c.hbm.heldForFence ++ c.dolly.parked ++ c.cache.mergeQ ++
    c.cache.creditQ.filterMap (fun w => match w with | .home r => some r | .mirror _ => none) ++
    t.fwd.map (·.req) ++ t.mirror.map (·.req) ++ c.cache.misses.flatMap (·.readers)).countP (fun r => decide (r.src = .head h))

/-- DevLoad in a completion of a head (03 R78): Severe Overload while the head limits its writes because a chip of the
pair is in squall mode (04 R123), or withholds request credits because the hold queue is full (01 R42) or a channel's
queue holds 12 or more reads (06 R172); Moderate Overload above 75 % of the head's credits. -/
def Chip.devLoad (c : Chip) (h : HeadNo) : DevLoad :=
  if c.cache.squall ≠ 0 || (c.paired && c.cache.partnerSquall != 0) || decide (4096 ≤ c.twin.holdQ.length) ||
     !c.twin.overHold.isEmpty || c.med.ch.any (fun x => decide (12 ≤ x.reads.length)) then .severe
  else match c.queued h with
    | 0 => .light
    | n + 1 => if 3 * Config.headCredits < 4 * (n + 1) then .moderate else .light

/-- Complete a read (03 R93): a poisoned completion carries 64 B of zeros, sets POISON_SENT and
raises a Failure record at the arrival head. A head whose link is down discards the result
(03 R101). A request of the twin link answers FWD_DATA. -/
def Chip.completeRead (c : Chip) (r : Req) (data : Line) (poison : Bool) (txn : Nat := 1) (type : Nat := 0) : Chip :=
  match r.src with
  | .head h =>
    if (c.head h).link = .up then
      let c := c.emit (.readDone h r.tag (if poison then 0 else data) poison (c.devLoad h))
      if poison then (c.headEvent h 5).recordAt [h] .failure (c.mediaBody r.line txn type 1) else c
    else c
  | .fwd tag =>
    (c.onTwin fun t => { t with fwdIn := t.fwdIn.filter (fun p => p.1 != tag) }).sendTwin
      (.fwdData (if poison then 0 else data)) r.line tag r.arrival poison
  | .lost _ | .gone => c

/-- Acknowledge a write at its arrival head, or with FWD_ACK over the twin link. DEDUCED (notes/assumptions/107.md): FWD_ACK has
POISON set where a partial write met a poisoned old line, so that the issuing head's record can be raised (07 R212). -/
def Chip.ackWrite (c : Chip) (r : Req) : Chip :=
  match r.src with
  | .head h => if (c.head h).link = .up then c.emit (.writeDone h r.tag (c.devLoad h)) else c
  | .fwd tag =>
    (c.onTwin fun t => { t with fwdIn := t.fwdIn.filter (fun p => p.1 != tag) }).sendTwin .fwdAck r.line tag r.arrival r.metPoison
  | .lost _ | .gone => c

/-- A record of one request, at its arrival head, whether or not its link is still up (03 R101 keeps the logs), or
in the ledger log alone when that head is on the other chip (03 R94). -/
def Chip.requestRecord (c : Chip) (r : Req) (log : LogNo) (b : EventBody) : Chip :=
  match r.src with
  | .head h | .lost h => c.recordAt [h] log b
  | .fwd _ | .gone => c.recordAt [] log b

/-- Poison of a request: a read completes with poison, a write is dropped and completes; with a
General Media record of the transaction type (01 R22, 02 R53). -/
def Chip.denyRequest (c : Chip) (r : Req) (txn type evtBit : Nat) : Chip :=
  let c := match r.src with | .head h | .lost h => c.headEvent h evtBit | .fwd _ | .gone => c
  if r.write then (c.requestRecord r .failure (c.mediaBody r.line txn type 1)).ackWrite r
  else c.completeRead r 0 true txn type

end Sys2Proof.Machine
end

