-- ==== Sys2Proof/Machine/Poison.lean ====
section
/-! DEFINITION. The poison list (07 R214 to R217) and the corrected-error buckets (07 R206). -/

namespace Sys2Proof.Machine

/-- Largest number of records of the poison list (07 R216). -/
def poisonMax : Nat := 4096

/-- Insert a record in the order of its line. -/
def insertPoison : List Poison → Poison → List Poison
  | [], p => [p]
  | q :: r, p => if p.line < q.line then p :: q :: r else q :: insertPoison r p

/-- A record that line `l` with source `src` can join: adjacent, in the same segment, same
source, fewer than 64 lines (07 R216). -/
def joinsPoison (q : Poison) (l src : Nat) : Bool :=
  decide (q.src = src ∧ q.len < 64 ∧ lineSeg q.line = lineSeg l ∧ (l = q.line + q.len ∨ l + 1 = q.line))

/-- The record of a line and of the records beside it that share it. -/
def mergedPoison (qs : List Poison) (l src : Nat) : Poison :=
  { line := qs.foldl (fun n q => min n q.line) l, len := 1 + (qs.map (·.len)).sum, src := src }

/-- Raise the overflow flag of the list (07 R216). -/
def Chip.poisonOverflow (c : Chip) : Chip :=
  if c.integ.overflow then c
  else c.onInteg fun i => { i with overflow := true, overflowAt := c.stamp.toNat }

/-- Tell the partner of a change of the records of this chip's mirrored objects, for its shadow (07 R216). -/
def Chip.shadowNote (c : Chip) (l len src : Nat) (remove : Bool) : Chip :=
  match c.objAtGran (lineGran l) with
  | some (_, o) => if o.mirror then c.sendTwin (.poisonShadow l len src remove) l else c
  | none => c

/-- Add a record for a marked line, joining an adjacent one; when the list is full the mark
stays without a record and the overflow flag is set (07 R216). -/
def Chip.listPoison (c : Chip) (l src : Nat) : Chip :=
  match c.poisonAt l with
  | some _ => c
  | none =>
    match c.integ.poison.filter (fun q => joinsPoison q l src) with
    | q :: qs =>
      c.onInteg fun i => { i with poison := insertPoison (i.poison.filter (fun x => !joinsPoison x l src)) (mergedPoison (q :: qs) l src) }
    | [] =>
      if c.integ.poison.length < poisonMax then
        c.onInteg fun i => { i with poison := insertPoison i.poison { line := l, len := 1, src := src } }
      else c.poisonOverflow

/-- Add a record for a marked line, here and in the partner's shadow. -/
def Chip.addPoison (c : Chip) (l src : Nat) : Chip := (c.listPoison l src).shadowNote l 1 src false

/-- A decode finds a line's mark: a mark without a record gains one, its source taken as internal (07 R216, R217). -/
def Chip.decodedMark (c : Chip) (l : Nat) : Chip := if (c.poisonAt l).isSome then c else c.addPoison l 1

/-- Remove the record of a line whose mark is cleared. A clear in the middle of a shared
record splits it; where the list is full the lower piece is kept (07 R216). The overflow flag
clears when the list becomes empty. -/
def Chip.clearPoison (c : Chip) (l : Nat) : Chip :=
  match c.poisonAt l with
  | none => c
  | some q =>
    let lower : List Poison := if q.line < l then [{ q with len := l - q.line }] else []
    let upper : List Poison := if l + 1 < q.line + q.len then [{ q with line := l + 1, len := q.line + q.len - l - 1 }] else []
    let rest := c.integ.poison.filter (fun x => x != q)
    let withLower := lower.foldl insertPoison rest
    let full := decide (poisonMax ≤ withLower.length)
    let lst := if full then withLower else upper.foldl insertPoison withLower
    let c := if full && !upper.isEmpty then c.poisonOverflow else c
    (c.onInteg fun i => { i with poison := lst, overflow := i.overflow && !lst.isEmpty }).shadowNote l 1 q.src true

/-- Clear the records of a run of lines (02 R61). -/
def Chip.clearPoisonRun (c : Chip) (first : Nat) : Nat → Chip
  | 0 => c
  | n + 1 => (c.clearPoison first).clearPoisonRun (first + 1) n

/-- Drop the parts of records that lie in a range of lines, in one pass over the list
(02 R61, 07 R215: ZERO, DESTROY and a shrinking RESIZE). -/
def cutPoison (first count : Nat) (q : Poison) : List Poison :=
  let e := q.line + q.len
  (if q.line < first then [{ q with len := min e first - q.line }] else []) ++
  (if first + count < e then [{ q with line := max q.line (first + count), len := e - max q.line (first + count) }] else [])

/-- Clear every record in a range of lines, here and in the partner's shadow. -/
def Chip.clearPoisonRange (c : Chip) (first count : Nat) : Chip :=
  let hit := c.integ.poison.filter (fun q => decide (first < q.line + q.len ∧ q.line < first + count))
  let c := hit.foldl (fun c q =>
    let lo := max q.line first
    c.shadowNote lo (min (q.line + q.len) (first + count) - lo) q.src true) c
  let lst := c.integ.poison.flatMap (fun q =>
    if decide (q.line + q.len ≤ first ∨ first + count ≤ q.line) then [q] else cutPoison first count q)
  let full := decide (poisonMax < lst.length)
  let c := if full then c.poisonOverflow else c
  let lst := lst.take poisonMax
  c.onInteg fun i => { i with poison := lst, overflow := i.overflow && !lst.isEmpty }

/-- The descriptor bit 2 of a record whose poison record did not fit (07 R220). -/
def Chip.overflowBit (c : Chip) (l : Nat) : Nat := if (c.poisonAt l).isNone then 4 else 0

/-- BUCKET_LIMIT (4210:01). -/
def Chip.bucketLimit (c : Chip) : Nat := c.par 0x4210 1 64

/-- A corrected line or burst raises the bucket of its source; at BUCKET_LIMIT one
Informational record with the Threshold flag is raised and the bucket resets (07 R206). -/
def Chip.bucket (c : Chip) (index sub : Nat) (b : EventBody) : Chip :=
  let n := c.vol index sub + 1
  if c.bucketLimit ≤ n then (c.setVol index sub 0).record .informational b
  else c.setVol index sub n

/-- Sum of a block of counters. -/
def Chip.volSum (c : Chip) (index : Nat) : Nat → Nat
  | 0 => 0
  | n + 1 => c.volSum index n + c.vol index (n + 1)

/-- Set an alert of Get Health Info once and raise its Memory Module record (07 R207). -/
def Chip.alert (c : Chip) (i : Nat) (log : LogNo) (what value : Nat) : Chip :=
  if c.integ.alertsSet.getLsbD i || !c.integ.alertsOn.getLsbD i then c
  else (c.onInteg fun d => { d with alertsSet := d.alertsSet ||| (1#5 <<< i) }).record log (.memModule what value)

/-- A corrected medium line (07 R205 to R207): counts, bucket, alert. -/
def Chip.mediumCorrected (c : Chip) (ch : Nat) (line : Nat) : Chip :=
  let c := c.bump 0x4201 (ch + 1)
  let c := c.bucket 0x4211 (ch + 1) (c.mediaBody line 5 0 2)
  if c.integ.cePerWarn ≤ c.volSum 0x4201 36 then c.alert 4 .informational 4 (c.volSum 0x4201 36) else c

/-- A corrected HBM burst of frame `f`, sector `n` (07 R204, R206, R207; 05 R149). -/
def Chip.hbmCorrected (c : Chip) (pc : PcNo) (body : EventBody) : Chip :=
  let c := c.bump 0x3810 (pc.val + 1)
  let c := c.bucket 0x4212 (pc.val + 1) body
  if c.integ.ceVolWarn ≤ c.volSum 0x3810 16 then c.alert 3 .informational 4 (c.volSum 0x3810 16) else c

end Sys2Proof.Machine
end

