-- ==== Sys2Proof/Machine/Scheduler.lean ====
section
/-! DEFINITION. The schedulers of the HBM controller: the address map of a pseudo-channel, the classes of accesses, the
read and write queues and the owed refreshes (05 R138 to R142, R145). The data of an access is that of the frame at once,
as the controller serves a read from a queued write (R140); the queues hold what is still to be issued. -/

namespace Sys2Proof.Machine

/-- The pseudo-channel bound to an in-service index, PC0 where none is. -/
def Chip.pcOf (c : Chip) (index : Nat) : PcNo :=
  ((List.finRange 16).find? (fun p => decide (c.hbm.index.get p = some index))).getD 0

/-- Frames of an in-service index (04 R108). -/
def indexFrames (i : Nat) : Nat := if i < 3 then 209716 else 209715

/-- Local frame slot of a frame: the frames of its index in increasing frame number (05 R138). Below set `s` each set has one
frame of the index, and one more where its ways 0 and 15 lie there. -/
def frameSlot (f : Nat) : Nat :=
  f / 16 + (f / 16 + 14 - frameIndex f) / 15 + (if frameWay f = 15 then 1 else 0)

/-- Local byte address of a line of a frame (05 R138). -/
def lineAddr (f n : Nat) : Nat := 4096 * frameSlot f + 64 * n

/-- Local byte address of a frame's state word: they follow the frames (05 R138; 04 Table 04-1). -/
def stateAddr (f : Nat) : Nat := 4096 * indexFrames (frameIndex f) + 128 * frameSlot f

/-- Column of a local address (Table 05-2). -/
def hbmColumn (a : Nat) : Nat := bits a 9 5
/-- Bank group of a local address (Table 05-2). -/
def hbmGroup (a : Nat) : Nat := bits a 11 10
/-- Bank within the group of a local address (Table 05-2). -/
def hbmBank (a : Nat) : Nat := bits a 13 12 ^^^ bits a 16 15
/-- Stack ID of a local address (Table 05-2). -/
def hbmStack (a : Nat) : Nat := bits a 14 14 ^^^ bits a 17 17
/-- Row of a local address (Table 05-2). -/
def hbmRow (a : Nat) : Nat := bits a 29 15
/-- Bank 0 to 31 of a pseudo-channel: stack ID, bank group, bank. DESIGN CHOICE (notes/assumptions/105.md): the spec counts
32 banks and does not number them. -/
def bankNo (a : Nat) : Nat := 16 * hbmStack a + 4 * hbmGroup a + hbmBank a

/-- The class of an access (Table 05-4): panic raises the mirror receive writes (05 R142). -/
def HbmTraffic.cls (panic : Bool) : HbmTraffic → Nat
  | .fence => 0
  | .hostRead => 1
  | .mirrorWrite => if panic then 1 else 2
  | .hostWrite | .fillWrite | .mergeWrite | .corrected | .rebuildDemand => 2
  | .snapshotRead | .staging | .metadata | .rebuild => 3
  | .patrol | .spareTest => 4

/-- The command belongs to class 1. -/
def HbmCmd.first (panic : Bool) (x : HbmCmd) : Bool := decide (x.traffic.cls panic = 1)

/-- A class 1 command waits. -/
def PcSched.urgent (panic : Bool) (s : PcSched) : Bool := (s.reads ++ s.writes).any (HbmCmd.first panic)

/-- The drain of the write queue (05 R140): forced from 48 entries on, down to 16; otherwise a batch of 16 while no class 1
command waits. -/
def PcSched.drain (panic : Bool) (s : PcSched) : PcSched :=
  let s := if 48 ≤ s.writes.length then { s with forced := true } else if s.writes.length ≤ 16 then { s with forced := false } else s
  if s.batch = 0 && !s.urgent panic && 16 ≤ s.writes.length then { s with batch := 16 } else s

/-- The command may be issued: a read, a write of a drain, or a mirror write that panic has raised. -/
def PcSched.ready (panic : Bool) (s : PcSched) (x : HbmCmd) : Bool := !x.write || s.forced || decide (0 < s.batch) || x.first panic

/-- `x` goes before `y`: the lower class, and within a class the older; within class 1 the kind whose turn it is. -/
def PcSched.before (panic : Bool) (s : PcSched) (x y : HbmCmd) : Bool :=
  let a := x.traffic.cls panic; let b := y.traffic.cls panic
  if a ≠ b then decide (a < b)
  else if a = 1 && x.traffic != y.traffic then (x.traffic = .mirrorWrite) = s.mirrorTurn
  else decide (x.no < y.no)

/-- The next command a scheduler issues (05 R139). -/
def PcSched.pick (panic : Bool) (s : PcSched) : Option HbmCmd :=
  ((s.reads ++ s.writes).filter (s.ready panic)).foldl (fun b x => match b with
    | none => some x
    | some y => if s.before panic x y then some x else some y) none

/-- Issue one command (05 R139, R140). -/
def PcSched.issue (panic : Bool) (s : PcSched) : PcSched :=
  let s := s.drain panic
  match s.pick panic with
  | none => s
  | some x =>
    { s with reads := s.reads.filter (fun y => y.no != x.no), writes := s.writes.filter (fun y => y.no != x.no),
             batch := if x.write then s.batch - 1 else s.batch, last := some x,
             mirrorTurn := if x.first panic then decide (x.traffic = .hostRead) else s.mirrorTurn }

/-- Issue commands until the queue that a command enters has room (64 entries each). -/
def PcSched.makeRoom (panic write : Bool) (s : PcSched) : Nat → PcSched
  | 0 => s
  | n + 1 => if (if write then s.writes else s.reads).length < 64 then s else (s.issue panic).makeRoom panic write n

/-- A command enters its queue; a read of a line that a queued write holds is served from the queue entry (05 R140). -/
def PcSched.enter (panic : Bool) (s : PcSched) (t : HbmTraffic) (write : Bool) (addr : Nat) : PcSched :=
  if !write && s.writes.any (fun x => decide (x.addr = addr)) then s
  else
    let s := s.makeRoom panic write 128
    let x : HbmCmd := { traffic := t, write := write, addr := addr, no := s.next }
    if write then { s with writes := s.writes ++ [x], next := s.next + 1 } else { s with reads := s.reads ++ [x], next := s.next + 1 }

/-- An access to a pseudo-channel. -/
def Chip.hbmAccess (c : Chip) (pc : PcNo) (t : HbmTraffic) (write : Bool) (addr : Nat) : Chip :=
  c.onCache fun k => { k with sched := k.sched.upd pc.val {} fun s => s.enter c.hbm.panic t write addr }

/-- A read of a line of a frame. -/
def Chip.readFrame (c : Chip) (f n : Nat) (t : HbmTraffic) : Chip := c.hbmAccess (c.pcOf (frameIndex f)) t false (lineAddr f n)

/-- A write of a line of a frame, and of its state word (class 3). -/
def Chip.writeFrame (c : Chip) (f n : Nat) (t : HbmTraffic) : Chip :=
  let p := c.pcOf (frameIndex f)
  (c.hbmAccess p t true (lineAddr f n)).hbmAccess p .metadata true (stateAddr f)

/-- A host read is queued for a bank. -/
def Chip.hostReadFor (c : Chip) (pc bank : Nat) : Bool :=
  (c.cache.sched.getD pc {}).reads.any (fun x => decide (x.traffic = .hostRead ∧ bankNo x.addr = bank))

/-- Refreshes that a bank owes (05 R145). -/
def Chip.owedBy (c : Chip) (pc bank : Nat) : Nat := c.hbm.owed.getD (32 * pc + bank) 0

/-- Issue one owed refresh of a bank. -/
def Chip.refreshOne (c : Chip) (pc bank : Nat) : Chip :=
  c.onHbm fun h => { h with owed := h.owed.putD (32 * pc + bank) (c.owedBy pc bank - 1) 0 }

/-- One command of a scheduler: the refresh of a bank that owes 8 (class 0), else the next command of the queues, else an
owed refresh of a bank for which no host read is queued. A pseudo-channel that a retirement has fenced issues nothing (05
R139, R145, R150). -/
def Chip.schedStep (c : Chip) (pc : PcNo) : Chip :=
  let banks := List.range 32
  let s := c.cache.sched.getD pc.val {}
  if c.hbm.pcs.get pc = .retiring then c
  else match banks.find? (fun b => decide (8 ≤ c.owedBy pc.val b)) with
    | some b => c.refreshOne pc.val b
    | none =>
      if ((s.drain c.hbm.panic).pick c.hbm.panic).isSome then
        c.onCache fun k => { k with sched := k.sched.put pc.val (s.issue c.hbm.panic) }
      else match banks.find? (fun b => decide (0 < c.owedBy pc.val b) && !c.hostReadFor pc.val b) with
        | some b => c.refreshOne pc.val b
        | none => c

/-- One command of every scheduler that has something to do. -/
def Chip.schedTick (c : Chip) : Chip :=
  ((List.finRange 16).filter (fun p => c.cache.sched.has p.val || c.hbm.owed.any (fun o => decide (o.1 / 32 = p.val)))).foldl
    (fun c p => c.schedStep p) c

/-- The queues of some pseudo-channels are empty: completed by a wrap, or dropped by a fence (05 R140, R150, R156). -/
def Chip.dropSched (c : Chip) (ps : List Nat) : Chip :=
  c.onCache fun k => { k with sched := k.sched.filter (fun s => !ps.contains s.1) }

/-- An all-bank refresh settles what the banks of some pseudo-channels owe (05 R145). -/
def Chip.allBankRefresh (c : Chip) (ps : List Nat) : Chip :=
  c.onHbm fun h => { h with owed := h.owed.filter (fun o => !ps.contains (o.1 / 32)) }

end Sys2Proof.Machine
end

