-- ==== Sys2Proof/Machine/Cache.lean ====
section
/-! DEFINITION. The HBM tier: frames, lookup, allocation, the persistent window, admission and
squall mode (04 R105 to R125). -/

namespace Sys2Proof.Machine

/-- Way `w` is locked as scratch: taken downward from way 15 (04 R129). -/
def Chip.lockedScratch (c : Chip) (w : Nat) : Bool := decide (16 ≤ w + c.cache.waysScratch)
/-- Way `w` is locked as pin pool: taken upward from way 12 (04 R129). -/
def Chip.lockedPin (c : Chip) (w : Nat) : Bool := decide (12 ≤ w ∧ w < 12 + c.cache.waysPin)
/-- Way `w` is not locked. -/
def Chip.unlockedWay (c : Chip) (w : Nat) : Bool := !c.lockedScratch w && !c.lockedPin w

/-- The tag entry and state word of frame `f`; a frame without one is SCRATCH or PIN_FREE in a
locked way and FREE elsewhere (Table 04-2). -/
def Chip.frame (c : Chip) (f : Nat) : Frame :=
  match c.cache.frames.find f with
  | some fr => fr
  | none => { kind := if c.lockedScratch (frameWay f) then .scratch
                      else if c.lockedPin (frameWay f) then .pinFree else .free }

/-- Set the state word of a frame. -/
def Chip.setFrame (c : Chip) (f : Nat) (fr : Frame) : Chip :=
  c.onCache fun k => { k with frames := k.frames.put f fr }

/-- Change the state word of a frame. -/
def Chip.onFrame (c : Chip) (f : Nat) (g : Frame → Frame) : Chip := c.setFrame f (g (c.frame f))

/-- The stored line of a sector. A frame that a retirement has not rebuilt yet has its content from its peer (05 R150). -/
def Chip.sector (c : Chip) (f n : Nat) : Stored :=
  match c.cache.lines.find (64 * f + n) with
  | some v => v
  | none => match (c.frame f).unbuilt, (c.frame f).peer with
    | true, some g => c.cache.lines.getD (64 * g + n) {}
    | _, _ => {}

/-- Store a line in a sector. -/
def Chip.setSector (c : Chip) (f n : Nat) (v : Stored) : Chip :=
  c.onCache fun k => { k with lines := k.lines.put (64 * f + n) v }

/-- Rebuild a frame from its peer: every line of it that it does not hold itself (05 R150 step 4). -/
def Chip.buildFrame (c : Chip) (f : Nat) : Chip :=
  let fr := c.frame f
  let need := (List.range 64).filter (fun n => (fr.valid ||| fr.dirty).getLsbD n && !c.cache.lines.has (64 * f + n))
  (need.foldl (fun c n => c.setSector f n (c.sector f n)) c).onFrame f fun x => { x with unbuilt := false }

/-- Return a frame: FREE in an unlocked way, PIN_FREE in a pin way; its lines are gone. A peer that is to be rebuilt from it is
rebuilt first. -/
def Chip.freeFrame (c : Chip) (f : Nat) : Chip :=
  let c := match (c.frame f).peer with
    | some g => if (c.frame g).unbuilt then c.buildFrame g else c
    | none => c
  c.onCache fun k =>
    { k with frames := k.frames.del f, lines := k.lines.filter (fun p => p.1 / 64 != f) }

/-- Kinds found by lookup (Table 04-2). -/
def Kind.visible : Kind → Bool
  | .clean | .dirty | .evicting | .pin => true
  | _ => false

/-- The frame of a segment that the tag lookup finds (04 R109, R110). -/
def Chip.lookup (c : Chip) (seg : Nat) : Option Nat :=
  ((List.range 16).map (frameNo (cacheSet seg))).find? (fun f =>
    (c.frame f).kind.visible && decide ((c.frame f).seg = seg))

/-- The OUTSIDE frames of a segment in a role, in order of frame number (the dirty index). -/
def Chip.outside (c : Chip) (seg : Nat) (r : Role) : List Nat :=
  (c.cache.frames.filter (fun p => decide (p.2.kind = .outside ∧ p.2.role = r ∧ p.2.seg = seg))).map Prod.fst

/-- The detached frames of a segment, the first of the pair first (04 R116, R118). -/
def Chip.detached (c : Chip) (seg : Nat) : List Nat :=
  let l := c.outside seg .detached
  l.filter (fun f => !(c.frame f).second) ++ l.filter (fun f => (c.frame f).second)

/-- The mirror-held frame of a segment. -/
def Chip.mirrorHeld (c : Chip) (seg : Nat) : Option Nat := (c.outside seg .mirrorHeld).head?

/-- Window use U: frames in unlocked ways of kind DIRTY or OUTSIDE (04 R119). -/
def Chip.windowUse (c : Chip) : Nat :=
  c.cache.frames.countP (fun p => c.unlockedWay (frameWay p.1) && (decide (p.2.kind = .dirty) || decide (p.2.kind = .outside)))

/-- Window capacity W in frames (04 R119): the smaller of the old and the new one while a change of the locked ways
runs (04 R130). -/
def Chip.windowCap (c : Chip) : Nat :=
  let now := c.cache.waysScratch + c.cache.waysPin
  let locked := match c.cache.wayChange with | some w => max now (w.scratch + w.pin) | none => now
  (16 - locked) * 196608 - c.reelLimit

/-- The dirty lines held on this chip, as a bitmap per segment (04 R119). -/
def Chip.dirtyMaps (c : Chip) : SMap (BitVec 64) :=
  c.cache.frames.foldl (fun m p => if p.2.dirty = 0 then m else m.put p.2.seg (m.getD p.2.seg 0 ||| p.2.dirty)) []

/-- The dirty total in bytes: 64 for each distinct dirty line (04 R119). -/
def Chip.dirtyTotal (c : Chip) : Nat := 64 * (c.dirtyMaps.map (fun p => popCount p.2)).sum

/-- The part of the dirty total held for the partner. -/
def Chip.dirtyPartner (c : Chip) : Nat :=
  64 * ((c.cache.frames.filter (fun p => decide (p.2.role = .mirrorHeld))).map (fun p => popCount p.2.dirty)).sum

/-- The line is dirty on this chip. -/
def Chip.lineDirty (c : Chip) (line : Nat) : Bool :=
  c.cache.frames.any (fun p => decide (p.2.seg = lineSeg line) && p.2.dirty.getLsbD (lineSector line))

/-- FREE frames of unlocked ways in in-service index `i` (04 R117). -/
def Chip.freeAt (c : Chip) (i : Nat) : Nat :=
  (((List.range 16).filter c.unlockedWay).map (fun w => wayFramesAt w i)).sum -
    c.cache.frames.countP (fun p => c.unlockedWay (frameWay p.1) && decide (frameIndex p.1 = i ∧ p.2.kind ≠ .free))

/-- The next free choice that the spec leaves to the device. -/
def Chip.nextChoice (c : Chip) : Nat := Config.choice c.cache.choice

/-- A free choice has been made. -/
def Chip.choose (c : Chip) : Chip := c.onCache fun k => { k with choice := k.choice + 1 }

/-- One of a list, the device being free to take any. -/
def Chip.pick (c : Chip) (l : List Nat) : Option Nat := l[c.nextChoice % l.length]?

/-- Search upward from frame `f` for one that fits. -/
def searchFrame (ok : Nat → Bool) (f : Nat) : Nat → Option Nat
  | 0 => none
  | n + 1 => if ok f then some f else searchFrame ok (f + 1) n

/-- Frame `f` may be taken as the pair of frame `other`: a FREE frame of an unlocked way whose
pseudo-channel is not that of `other` and has the most FREE frames of those (04 R117). -/
def Chip.canTake (c : Chip) (other : Option Nat) (f : Nat) : Bool :=
  decide (f < 3145728) && c.unlockedWay (frameWay f) && decide ((c.frame f).kind = .free) &&
    decide (some (frameIndex f) ≠ other.map frameIndex) &&
    (List.range 15).all (fun i => decide (some i = other.map frameIndex) || decide (c.freeAt i ≤ c.freeAt (frameIndex f)))

/-- Take a shadow, detached or mirror-held frame: any frame that fits (04 R117). -/
def Chip.takeFrame (c : Chip) (other : Option Nat) : Option Nat :=
  if c.canTake other c.nextChoice then some c.nextChoice else searchFrame (c.canTake other) 0 3145728

/-- Copy the lines of `m` from one frame to another. -/
def Chip.copySectors (c : Chip) (src dst : Nat) (m : BitVec 64) : Chip :=
  (List.range 64).foldl (fun c n => if m.getLsbD n then c.setSector dst n (c.sector src n) else c) c

/-- Absorb the detached frames of a segment into its new primary frame `f` (04 R118). -/
def Chip.absorb (c : Chip) (f seg : Nat) : Chip :=
  match c.detached seg with
  | [] => c
  | [d] =>
    let m := (c.frame d).dirty
    let c := (c.copySectors d f m).onFrame f fun x =>
      { x with kind := .dirty, valid := m, dirty := m, wb := (c.frame d).wb, dirtyAt := (c.frame d).dirtyAt, once := (c.frame d).once }
    c.freeFrame d
  | d :: e :: _ =>
    let m := (c.frame d).dirty
    let gone := if frameIndex d = frameIndex f then d else e
    let stay := if frameIndex d = frameIndex f then e else d
    let c := (c.copySectors d f m).onFrame f fun x =>
      { x with kind := .dirty, valid := m, dirty := m, wb := (c.frame d).wb, dirtyAt := (c.frame d).dirtyAt, peer := some stay }
    let c := c.freeFrame gone
    c.onFrame stay fun x => { x with role := .shadow, second := false, peer := some f }

/-- The unlocked ways of a segment's set, as frames. -/
def Chip.setFrames (c : Chip) (seg : Nat) : List Nat :=
  ((List.range 16).filter c.unlockedWay).map (frameNo (cacheSet seg))

/-- Allocation candidates of a set: CLEAN ways that no reel holds (04 R111). -/
def Chip.cleanCandidates (c : Chip) (seg : Nat) : List Nat :=
  (c.setFrames seg).filter (fun f => decide ((c.frame f).kind = .clean ∧ (c.frame f).holds = 0))

/-- The ages of every unlocked way of the set that is not FREE rise by one, stopping at 3. -/
def Chip.ageSet (c : Chip) (seg : Nat) : Chip :=
  (c.setFrames seg).foldl (fun c f =>
    if (c.frame f).kind = .free then c else c.onFrame f fun x => { x with age := min 3 (x.age + 1) }) c

/-- The frame of the highest age, and within equal ages the lowest way. -/
def Chip.oldest (c : Chip) (l : List Nat) : Option Nat :=
  l.foldl (fun b f => match b with
    | none => some f
    | some g => if (c.frame g).age < (c.frame f).age then some f else some g) none

/-- A request in the pipeline refers to the frame: a fill that will be placed in it (04 R114 step 2). -/
def Chip.frameInUse (c : Chip) (f : Nat) : Bool :=
  (c.frame f).pending != 0 || c.cache.misses.any (fun m => decide (m.frame = some f))

/-- Evict a CLEAN frame: it commits at once unless a request in the pipeline refers to it; then the frame is EVICTING
until the commit (04 R114). -/
def Chip.evictFrame (c : Chip) (f : Nat) : Chip :=
  if c.frameInUse f then c.onFrame f fun x => { x with kind := .evicting } else c.freeFrame f

/-- Allocate a primary frame for a segment: a FREE way first, then a CLEAN way (04 R111). The
new frame has age 2 and takes the lines of a detached pair (04 R118). The chosen CLEAN way is evicted; one to which a
request refers is EVICTING then and, as nothing waits for a way, is not taken (04 R111, R114). -/
def Chip.allocate (c : Chip) (seg : Nat) (kind : Kind) : Option Nat × Chip :=
  let place (c : Chip) (f : Nat) : Option Nat × Chip := (some f, (c.setFrame f { seg := seg, kind := kind, age := 2 }).absorb f seg)
  let free := (c.setFrames seg).filter (fun f => decide ((c.frame f).kind = .free))
  match c.pick free with
  | some f => place c.choose f
  | none =>
    let cands := c.cleanCandidates seg
    if cands.isEmpty then (none, c)
    else
      let c := if cands.any (fun f => decide ((c.frame f).age = 3)) then c else c.ageSet seg
      match c.oldest cands with
      | none => (none, c)
      | some f => if c.frameInUse f then (none, c.evictFrame f) else place (c.evictFrame f) f

/-- The time of a host access in a frame, in us (Table 04-3). -/
def Chip.useFrame (c : Chip) (f : Nat) : Chip := c.onFrame f fun x => { x with lastUse := c.stamp.toNat / 1000 }

/-- Mark a frame as hit: age 0 and the time of the access (04 R111, Table 04-3). -/
def Chip.touch (c : Chip) (f : Nat) : Chip := (c.useFrame f).onFrame f fun x => { x with age := 0 }

/-- The line as the cache holds it: a valid or dirty sector of a frame found by lookup, or a
dirty sector of a detached frame (04 R110). -/
def Chip.held (c : Chip) (line : Nat) : Option (Nat × Stored) :=
  let seg := lineSeg line; let n := lineSector line
  match c.lookup seg with
  | some f => if (c.frame f).valid.getLsbD n || (c.frame f).dirty.getLsbD n then some (f, c.sector f n) else none
  | none =>
    match (c.detached seg).find? (fun f => (c.frame f).dirty.getLsbD n) with
    | some f => some (f, c.sector f n)
    | none => none

/-- Write a line into a frame as dirty: VALID and DIRTY set, WB and PENDING cleared (04 R112,
R128). -/
def Chip.dirtySector (c : Chip) (n : Nat) (v : Stored) (f : Nat) : Chip :=
  (c.setSector f n v).onFrame f fun x =>
    { x with valid := setBit x.valid n, dirty := setBit x.dirty n, wb := clearBit x.wb n,
             pending := clearBit x.pending n, dirtyAt := if x.dirty.getLsbD n then x.dirtyAt else x.dirtyAt.put n c.now }

/-- Take a second frame beside `f` in another pseudo-channel (04 R117). -/
def Chip.takeShadow (c : Chip) (f seg : Nat) : Option (Nat × Chip) :=
  (c.takeFrame (some f)).map fun g =>
    (g, ((c.choose).setFrame g { seg := seg, kind := .outside, role := .shadow, age := 2, peer := some f }).onFrame f
      fun x => { x with peer := some g })

/-- Take detached frames for a segment: one, or two in different pseudo-channels (Table 04-4). -/
def Chip.takeDetached (c : Chip) (seg : Nat) (two : Bool) : Option (List Nat × Chip) :=
  match c.takeFrame none with
  | none => none
  | some d =>
    let c := (c.choose).setFrame d { seg := seg, kind := .outside, role := .detached, age := 2 }
    if two then
      (c.takeFrame (some d)).map fun e =>
        ([d, e], ((c.choose).setFrame e { seg := seg, kind := .outside, role := .detached, age := 2, peer := some d, second := true }).onFrame d
          fun x => { x with peer := some e })
    else some ([d], c)

/-- The frames that take the copies of a write (Table 04-4): `two` copies on this chip, or one. -/
def Chip.placeFrames (c : Chip) (seg : Nat) (two : Bool) : Option (List Nat × Chip) :=
  let withSecond (c : Chip) (f : Nat) : Option (List Nat × Chip) :=
    match (c.frame f).peer with
    | some g => some ([f, g], c)
    | none => if two then (c.takeShadow f seg).map fun p => ([f, p.1], p.2) else some ([f], c)
  match c.lookup seg with
  | some f =>
    let c := c.touch f
    let c := if (c.frame f).kind = .pin then c else c.onFrame f fun x => { x with kind := .dirty }
    withSecond c f
  | none =>
    match c.detached seg with
    | [] =>
      match c.allocate seg .dirty with
      | (some f, c) => withSecond (c.useFrame f) f
      | (none, c) => c.takeDetached seg two
    | [d] =>
      if two then
        (c.takeFrame (some d)).map fun e =>
          ([d, e], ((c.choose).setFrame e { seg := seg, kind := .outside, role := .detached, age := 2, peer := some d, second := true }).onFrame d
            fun x => { x with peer := some e })
      else some ([d], c)
    | l => some (l, c)

/-- Move the content of a frame to another frame. -/
def Chip.moveFrame (c : Chip) (f g : Nat) : Chip :=
  let fr := c.frame f
  let c := (c.copySectors f g (fr.valid ||| fr.dirty)).setFrame g { fr with age := 2, unbuilt := false }
  let c := match fr.peer with
    | some p => c.onFrame p fun x => { x with peer := some g }
    | none => c
  let c := c.onCache fun k => { k with misses := k.misses.map (fun m => if m.frame = some f then { m with frame := some g } else m) }
  c.freeFrame f

/-- The content of frame `f` is about to move to frame `g`: its other copy is first copied to another pseudo-channel where
it would share that of `g` (04 R117, R130). -/
def Chip.partShadow (c : Chip) (f g : Nat) : Chip :=
  match (c.frame f).peer with
  | none => c
  | some p =>
    if frameIndex p ≠ frameIndex g then c
    else match c.takeFrame (some g) with
      | some q => c.choose.moveFrame p q
      | none => c

/-- PIN frames being filled by a pin move of the segment take a third copy (08 R234). -/
def Chip.pinTargets (c : Chip) (seg : Nat) : List Nat :=
  (c.dolly.pins.filter (fun p => decide (p.seg = seg))).map (fun p => if p.into then p.frame else p.target.getD p.frame)

/-- Store a value in a frame being filled by a pin or unpin move. -/
def Chip.copySector (c : Chip) (n : Nat) (v : Stored) (f : Nat) : Chip :=
  (c.setSector f n v).onFrame f fun x => { x with valid := setBit x.valid n }

/-- Largest number of entries of the merge table (04 R113). -/
def mergeMax : Nat := 65536

/-- A merge is outstanding for the line. -/
def Chip.merging (c : Chip) (line : Nat) : Bool := c.cache.merges.any (fun m => decide (m.line = line))

/-- A medium read of the line is in the pipeline. -/
def Chip.missOf (c : Chip) (line : Nat) : Option Miss := c.cache.misses.find? (fun m => decide (m.line = line))

/-- A dirty line lost in HBM is being fetched from the partner (07 R208). -/
def Chip.refetching (c : Chip) (line : Nat) : Bool :=
  c.lineDirty line && c.cache.misses.any (fun m => decide (m.line = line ∧ m.step = 4) && !m.drop)

/-- The partial write needs the line's old bytes from the medium (04 R112, R113): no frame
holds the line and its written bit is set, or its dirty line is being fetched. -/
def Chip.needsMerge (c : Chip) (line : Nat) (mask : Mask) : Bool :=
  decide (mask ≠ fullMask) && (((c.held line).isNone && c.lineWritten line && (c.poisonAt line).isNone) || c.refetching line)

/-- The merge table is full and the write needs an entry of it (04 R113). -/
def Chip.mergeFull (c : Chip) (line : Nat) (merge : Bool) : Bool :=
  merge && !c.merging line && decide (mergeMax ≤ c.cache.merges.length)

/-- The fill that a placed write meets (04 R112, R113): one that needs the old bytes starts or joins a merge,
another keeps its bytes out of an outstanding merge, and a write that needs nothing of the fill discards it. -/
def Chip.meetFill (c : Chip) (line : Nat) (mask : Mask) (merge : Bool) (f : Option Nat) (head : Option HeadNo) : Chip :=
  let out := c.merging line
  c.onCache fun k =>
    if merge then
      { k with
        merges := if out then k.merges.map (fun m => if m.line = line then { m with mask := m.mask ||| mask } else m)
                  else k.merges ++ [{ line := line, mask := mask, head := head }]
        misses := if k.misses.any (fun m => decide (m.line = line)) then k.misses
                  else k.misses ++ [{ line := line, frame := f, cause := 2 }] }
    else if out && decide (mask ≠ fullMask) then
      { k with merges := k.merges.map (fun m => if m.line = line then { m with mask := m.mask ||| mask } else m) }
    else
      { k with merges := k.merges.filter (fun m => m.line != line)
               misses := k.misses.map (fun m => if m.line = line then { m with drop := true } else m) }

/-- Write one line into its frames (Table 04-4; partial writes by 04 R112, R113; 02 R75 for the
disabled bytes of a line never written; 07 R212 for a poisoned old line). -/
def Chip.placeLine (c : Chip) (line : Nat) (data : Line) (mask : Mask) (poison two : Bool)
    (head : Option HeadNo) : Option Chip :=
  let seg := lineSeg line; let n := lineSector line
  let old := c.held line
  let merge := c.needsMerge line mask
  let base : Line := match old with | some (_, s) => if s.poison then 0 else s.data | none => 0
  let v : Stored := { data := if mask = fullMask then data else mergeLine base data mask, poison := poison }
  match c.placeFrames seg two with
  | none => none
  | some (fs, c) =>
    let c := fs.foldl (fun c f => c.dirtySector n v f) c
    let c := (c.pinTargets seg).foldl (fun c f => c.copySector n v f) c
    let c := fs.foldl (fun c f => c.writeFrame f n .hostWrite) c
    some (c.meetFill line mask merge fs.head? head)

/-- SQUALL_STATE by its conditions; 3 takes precedence over 2, and 2 over 1 (04 R122). -/
def Chip.squallCond (c : Chip) : Nat :=
  if c.windowCap < c.windowUse + c.squallEnterFrames then 3
  else if c.cache.budget < c.dirtyTotal then 2
  else if c.cache.budget < c.dirtyTotal + c.squallEnterBytes then 1
  else 0

/-- Budget and window headroom have reached the exit thresholds (04 R124). -/
def Chip.squallExitMet (c : Chip) : Bool :=
  decide (c.dirtyTotal + c.squallExitBytes ≤ c.cache.budget ∧ c.windowUse + c.squallExitFrames ≤ c.windowCap)

/-- A change of SQUALL_STATE: SQUALL_NOTE to the partner, the end of a running test 3 (16 R411) and, at entry and exit,
notification 0x0004 (04 R123, Table 13-10). -/
def Chip.setSquall (c : Chip) (v : Nat) : Chip :=
  if c.cache.squall = v then c
  else
    let was := c.cache.squall
    let c := c.onCache fun k => { k with squall := v }
    let c := c.sendTwin (.squallNote v)
    let c := if c.boot.bist.any (fun b => decide (b.test = 3)) then c.bistEnd 2 0 0 else c
    if was = 0 || v = 0 then c.notify 4 0x3011 1 [BitVec.ofNat 8 v] else c

/-- Segments in CLAIMED or COPIED, those of a switch under way apart. -/
def OpenGran.staged (o : OpenGran) : List Nat :=
  (o.segs.filter (fun p => decide (p.2 ≠ .switched) && !o.prep.contains p.1)).map Prod.fst

/-- Return every CLAIMED or COPIED segment to WAITING and free its staging (08 R233). -/
def Chip.unclaimAll (c : Chip) : Chip :=
  let n := (c.dolly.opened.map (fun o => o.staged.length)).sum
  let c' := if n = 0 then c else c.bump 0x2040 7 n
  let gone := c.dolly.opened.flatMap (fun o => match o.dst with
    | some d => o.staged.map (segKey d)
    | none => [])
  (c'.onDolly fun d => { d with
    opened := d.opened.map (fun o => { o with segs := o.segs.filter (fun p => !o.staged.contains p.1) }) }).onCache fun k =>
      { k with wb := k.wb.filter (fun o => o.reserved || decide (o.cause ≠ .dolly) || !o.lines.any (fun l => gone.contains (l.1 / 64))) }

/-- Squall mode as evaluated at once, from entry into service on (04 R122 to R124): entry by
the entry conditions, with its Warning record and count, the dolly giving up its claims; in
squall mode the state follows the conditions and stays at least 1 until both exit thresholds
are met, and leaving discards the credits. -/
def Chip.evalSquall (c : Chip) : Chip :=
  if !c.inService then c
  else if c.cache.squall = 0 then
    if c.squallCond = 0 then c
    else
      let c := (c.setSquall c.squallCond).bump 0x3011 6
      (c.vendorRecord .warning 0x0101 0x3011 1 [BitVec.ofNat 8 c.cache.squall]).unclaimAll
  else if c.squallExitMet then
    (c.setSquall 0).onCache fun k => { k with byteHalves := 0, frameHalves := 0 }
  else c.setSquall (max 1 c.squallCond)

/-- Distinct dirty lines a chip change adds. -/
def addedLines (a b : Chip) : Nat := (b.dirtyTotal - a.dirtyTotal) / 64
/-- Window frames a chip change adds. -/
def addedFrames (a b : Chip) : Nat := b.windowUse - a.windowUse

/-- The credits a write needs in squall mode are held (04 R123 item 2): one byte credit for two
released lines, one frame credit for two released frames. -/
def Chip.creditsFor (c : Chip) (lines frames : Nat) : Bool :=
  decide (2 * lines ≤ c.cache.byteHalves ∧ 2 * frames ≤ c.cache.frameHalves)

/-- Segments for whose lines this chip, as the target of a cross-chip switch, keeps budget and window frames (08 R229 step 2). -/
def Chip.reservedSegs (c : Chip) : Nat := ((c.dolly.opened.filter (·.isTarget)).map (fun o => o.prep.length)).sum

/-- The write that turns `a` into `b` is admitted (04 R120, R123), beside what is kept for segments being handed over (08 R229). -/
def admitted (a b : Chip) : Bool :=
  let held := a.reservedSegs
  let lines := addedLines a b; let frames := addedFrames a b
  let needs := decide (a.cache.squall ≠ 0 ∧ (0 < lines ∨ 0 < frames))
  (decide (b.dirtyTotal + 4096 * held ≤ a.cache.budget) || decide (lines = 0) || (decide (a.cache.squall ≠ 0) && a.creditsFor lines frames)) &&
    (decide (frames = 0) || decide (b.windowUse + 2 * held ≤ a.windowCap)) &&
    (!needs || a.creditsFor lines frames)

/-- Take the credits of an admitted write in squall mode. -/
def spendCredits (a b : Chip) : Chip :=
  if a.cache.squall = 0 then b
  else b.onCache fun k =>
    { k with byteHalves := k.byteHalves - 2 * addedLines a b, frameHalves := k.frameHalves - 2 * addedFrames a b }

/-- A line in a FAILED group takes no new dirty line: the write is dropped, the line receives a
poison record and a General Media record of transaction type 0x06 is raised (06 R179). -/
def Chip.dropFailed (c : Chip) (r : Req) : Chip :=
  ((c.addPoison r.line 1).requestRecord r .failure (c.mediaBody r.line 6 0 1)).ackWrite r

/-- The segment's home is here through an open cross-chip move, the other chip holding the
mirror copy (08 R232). -/
def Chip.movedHere (c : Chip) (seg : Nat) : Bool :=
  match c.openGran (segGran seg) with
  | some o => o.isTarget && o.switched seg
  | none => false

/-- The write goes to one local frame and to the partner (01 R28; 08 R232). -/
def Chip.mirrorsLine (c : Chip) (line : Nat) : Bool :=
  match c.objAt line with
  | some (_, o) => c.mirrors o || (c.paired && c.movedHere (lineSeg line))
  | none => false

/-- Set or clear the poison record of a written line (03 R93, 07 R215, R216): a write with
poison adds a record of source External, a write without poison clears one. -/
def Chip.poisonWrite (c : Chip) (line : Nat) (poison : Bool) : Chip :=
  if poison then c.addPoison line 2 else c.clearPoison line

/-- A partial write that meets a poisoned old line raises a General Media record (07 R212). -/
def Chip.poisonedOld (c : Chip) (line : Nat) (mask : Mask) : Bool :=
  decide (mask ≠ fullMask) && (match c.held line with | some (_, s) => s.poison | none => (c.poisonAt line).isSome)

/-- The request came over the twin link. -/
def forwarded (r : Req) : Bool := match r.src with | .fwd _ => true | _ => false

/-- Admit and place a write at its home (01 R26, R28): `none` where it must wait for credits or
window room. The written bit is set before the acknowledgement; a mirrored write is sent to the
partner and acknowledged at MIRROR_COMMIT. -/
def Chip.tryHomeWrite (c : Chip) (r : Req) : Option Chip :=
  let mir := c.mirrorsLine r.line
  let head := match r.src with | .head h | .lost h => some h | .fwd _ | .gone => none
  if c.mergeFull r.line (c.needsMerge r.line r.mask) then none
  else match c.placeLine r.line r.data r.mask r.poison (!mir) head with
  | none => none
  | some d =>
    if !admitted c d then none
    else
      let bad := c.poisonedOld r.line r.mask
      let d := ((spendCredits c d).setLineWritten r.line).poisonWrite r.line r.poison
      let d := if bad then d.requestRecord r .failure (d.mediaBody r.line 2 0 1) else d
      let r := { r with metPoison := bad && forwarded r }
      if mir then
        let (tag, d) := d.takeTag
        let d := (d.onTwin fun t => { t with mirror := t.mirror ++ [{ tag := tag, req := r }] }).bump 0x5010 4
        some (d.sendTwin (.mirrorWrite r.data r.mask) r.line tag r.arrival r.poison)
      else
        let stale := match c.objAt r.line with | some (_, o) => o.mirror | none => false
        let d := if stale then d.markStale (lineGran r.line) else d
        some (d.ackWrite r)

/-- Place a mirror write of the partner in its mirror-held frame (Table 04-4, 09 R252). -/
def Chip.tryMirrorWrite (c : Chip) (m : MirReq) : Option Chip :=
  let seg := lineSeg m.line; let n := lineSector m.line
  let took : Option (Nat × Chip) := match c.mirrorHeld seg with
    | some f => some (f, c)
    | none => (c.takeFrame none).map fun f =>
        (f, (c.choose).setFrame f { seg := seg, kind := .outside, role := .mirrorHeld, age := 2 })
  match took with
  | none => none
  | some (f, d) =>
    let heldHere := (d.frame f).dirty.getLsbD n
    let old := if heldHere then (if (d.sector f n).poison then 0 else (d.sector f n).data) else 0
    let merge := decide (m.mask ≠ fullMask) && !heldHere && c.lineWritten m.line && (c.poisonAt m.line).isNone
    if c.mergeFull m.line merge then none else
    let v : Stored := { data := if m.mask = fullMask then m.data else mergeLine old m.data m.mask, poison := m.poison }
    let d := ((d.dirtySector n v f).writeFrame f n .mirrorWrite).meetFill m.line m.mask merge (some f) none
    if !admitted c d then none
    else
      let d := ((spendCredits c d).setLineWritten m.line)
      some (d.sendTwin .mirrorCommit m.line m.tag)

/-- Serve the first waiter, if it is admitted. It is serialised only now: a line whose object was destroyed meanwhile is
unmapped (01 R22; 02 R56), and a line of a group that FAILED meanwhile takes no new dirty line (06 R179). -/
def Chip.tryWaiter (c : Chip) : Waiter → Option Chip
  | .home r =>
    if (c.objAt r.line).isNone then some (c.denyRequest r 0x80 1 3)
    else if c.groupFailed (lineSeg r.line) && !c.lineDirty r.line then some (c.dropFailed r)
    else c.tryHomeWrite r
  | .mirror m => if (c.objAt m.line).isNone then some (c.sendTwin .mirrorCommit m.line m.tag) else c.tryMirrorWrite m

/-- Grant credits in order of arrival: serve waiting writes while the first is admitted
(04 R123). -/
def Chip.serveWaiters (c : Chip) : Nat → Chip
  | 0 => c
  | fuel + 1 =>
    match c.cache.creditQ with
    | [] => c
    | w :: rest =>
      match (c.onCache fun k => { k with creditQ := rest }).tryWaiter w with
      | none => c
      | some d => d.evalSquall.serveWaiters fuel

/-- A write at its home (01 R26, R28; 06 R179; 04 R113, R123): dropped in a FAILED group if it
would add a dirty line; held where the merge table is full; queued where it is not admitted or
earlier writes wait for credits and this one needs some. -/
def Chip.homeWrite (c : Chip) (r : Req) : Chip :=
  if c.groupFailed (lineSeg r.line) && !c.lineDirty r.line then c.dropFailed r
  else if c.mergeFull r.line (c.needsMerge r.line r.mask) then
    (c.onCache fun k => { k with mergeQ := k.mergeQ ++ [r] }).bump 0x3040 4
  else
    let c := match c.lookup (lineSeg r.line) with
      | some f => if (c.frame f).kind = .evicting then c.onFrame f fun x => { x with kind := .clean } else c
      | none => c
    let queue (c : Chip) : Chip := c.onCache fun k => { k with creditQ := k.creditQ ++ [.home r] }
    let behind := !c.cache.creditQ.isEmpty && !c.lineDirty r.line
    if behind then (queue c).evalSquall
    else match c.tryHomeWrite r with
      | some d => d.evalSquall
      | none => (queue c).evalSquall

/-- Place a poison mark on a line at its home: written to every copy of it as a dirty line, admitted as a write, with its
record (07 R214). -/
def Chip.markPoison (c : Chip) (line src : Nat) : Chip :=
  (c.addPoison line src).homeWrite { src := .gone, write := true, line := line, mask := fullMask, poison := true }

/-- A request that waited inside the chip before it was serialised at its line takes its way: a line whose object was
destroyed meanwhile is unmapped (01 R22; 02 R56). -/
def Chip.lateWrite (c : Chip) (r : Req) : Chip :=
  if (c.objAt r.line).isNone then c.denyRequest r 0x80 1 3 else c.homeWrite r

/-- Admit the partial writes held for a merge entry, in order, while the table has room (04 R113). -/
def Chip.serveMerges (c : Chip) : Nat → Chip
  | 0 => c
  | fuel + 1 =>
    match c.cache.mergeQ with
    | [] => c
    | r :: rest =>
      if mergeMax ≤ c.cache.merges.length then c
      else ((c.onCache fun k => { k with mergeQ := rest }).lateWrite r).serveMerges fuel

/-- Entries of the mirror receive buffer: mirror writes that wait. -/
def Chip.mirrorFill (c : Chip) : Nat :=
  c.cache.creditQ.countP (fun w => match w with | .mirror _ => true | .home _ => false)

/-- PANIC_ON (3820:02). -/
def Chip.panicOn (c : Chip) : Nat := c.par 0x3820 2 3072
/-- PANIC_OFF (3820:03). -/
def Chip.panicOff (c : Chip) : Nat := c.par 0x3820 3 1024

/-- Panic is raised at PANIC_ON entries and lowered at PANIC_OFF (05 R142). -/
def Chip.evalPanic (c : Chip) : Chip :=
  if !c.hbm.panic && c.panicOn ≤ c.mirrorFill then (c.onHbm fun h => { h with panic := true }).bump 0x3820 4
  else if c.hbm.panic && c.mirrorFill ≤ c.panicOff then c.onHbm fun h => { h with panic := false }
  else c

/-- Serve every waiting write that can be served, and evaluate squall mode and the panic signal. -/
def Chip.settle (c : Chip) : Chip :=
  let c := c.evalSquall
  let c := c.serveWaiters c.cache.creditQ.length
  (c.serveMerges c.cache.mergeQ.length).evalPanic

/-- A mirror write of the partner (09 R252), queued like any write that waits for credits. -/
def Chip.mirrorIn (c : Chip) (m : MirReq) : Chip :=
  let queue (c : Chip) : Chip := c.onCache fun k => { k with creditQ := k.creditQ ++ [.mirror m] }
  let heldDirty := match c.mirrorHeld (lineSeg m.line) with
    | some f => (c.frame f).dirty.getLsbD (lineSector m.line) | none => false
  if !c.cache.creditQ.isEmpty && !heldDirty then (queue c).evalSquall.evalPanic
  else match c.tryMirrorWrite m with
    | some d => d.evalSquall
    | none => (queue c).evalSquall.evalPanic

/-- Queue the medium read of a line into a frame, whose sector becomes PENDING, or without one (04 R112). A read of an
invalid sector returns an EVICTING frame to CLEAN (04 R114). -/
def Chip.queueMiss (c : Chip) (line : Nat) (f? : Option Nat) (readers : List Req) (cause : Nat) : Chip :=
  let c : Chip := match f? with
    | some f => c.onFrame f fun x =>
        { x with kind := if x.kind = .evicting then .clean else x.kind, pending := setBit x.pending (lineSector line) }
    | none => c
  (c.onCache fun k => { k with misses := k.misses ++ [{ line := line, frame := f?, readers := readers, cause := cause }] }).bump 0x3040 2

/-- Start a medium read of a line for a reader: the sector becomes PENDING in a frame of the
segment, or the read goes without allocation (01 R23, R24; 04 R111, R112). -/
def Chip.startMiss (c : Chip) (line : Nat) (readers : List Req) (cause : Nat) (bypass : Bool) : Chip :=
  let seg := lineSeg line
  let (f?, c) : Option Nat × Chip := match c.lookup seg with
    | some f => (some f, c.touch f)
    | none => if bypass then (none, c) else
        match c.allocate seg .clean with
        | (some f, c) => (some f, c.useFrame f)
        | (none, c) => (none, c)
  c.queueMiss line f? readers cause

/-- A read at its home (01 R23, R24, R25; 04 R110, R112): from a frame, from zeros where the
line has never been written, or through a medium read; a read of a sector whose fill or merge
is outstanding waits for it. -/
def Chip.homeRead (c : Chip) (r : Req) : Chip :=
  let wait (c : Chip) : Chip := c.onCache fun k =>
    { k with misses := k.misses.map (fun m => if m.line = r.line then { m with readers := m.readers ++ [r] } else m) }
  if (c.merging r.line || c.refetching r.line) && (c.missOf r.line).isSome then wait c
  else match c.held r.line with
    | some (f, s) =>
      let c := ((c.touch f).readFrame f (lineSector r.line) .hostRead).bump 0x3040 1
      (if s.poison then c.decodedMark r.line else c).completeRead r s.data s.poison
    | none =>
      if (c.poisonAt r.line).isSome then c.completeRead r 0 true
      else if !c.lineWritten r.line then c.completeRead r 0 false
      else if (c.missOf r.line).isSome then wait c
      else
        let bypass := match c.objAt r.line with | some (_, o) => o.bypass | none => false
        c.startMiss r.line [r] 1 bypass

/-- A read or write that waited takes its way (01 R22; 02 R56). -/
def Chip.lateRequest (c : Chip) (r : Req) : Chip :=
  if r.write then c.lateWrite r else if (c.objAt r.line).isNone then c.denyRequest r 0x80 1 3 else c.homeRead r

/-- Frame and sector of a scratch line (04 R129). -/
def scratchPlace (off : Nat) : Nat × Nat :=
  (frameNo (off % scratchWayLines / 64) (15 - off / scratchWayLines), off % 64)

/-- A scratch read or write (01 R32, 02 R73, 04 R129): held once, never dirty; a lost line reads
as poison with a volatile record until it is written (05 R152). -/
def Chip.scratchAccess (c : Chip) (r : Req) : Chip :=
  let (f, n) := scratchPlace (r.line - scratchBase)
  let fr := c.frame f
  let c := if r.write then c.writeFrame f n .hostWrite else c.readFrame f n .hostRead
  if r.write then
    let old := if fr.pending.getLsbD n then 0 else (c.sector f n).data
    let v : Stored := { data := mergeLine old r.data r.mask, poison := r.poison }
    let c := c.onCache fun k => { k with lines := k.lines.putD (64 * f + n) v {} }
    let c := if fr.pending = 0 then c else c.onFrame f fun x => { x with pending := clearBit x.pending n }
    c.ackWrite r
  else if fr.pending.getLsbD n then c.completeRead r 0 true
  else c.completeRead r (c.sector f n).data (c.sector f n).poison

end Sys2Proof.Machine
end

