-- ==== Sys2Proof/Machine/Medium.lean ====
section
/-! DEFINITION. The medium: channels, group states, keys and stored lines, the stripe operations
of the write scheduler, and the recovery ladder (06 R159 to R200, 07 R205 to R212). -/

namespace Sys2Proof.Machine

/-- The registers of channel `n`, CH00 where the number is out of range. -/
def Chip.chan (c : Chip) (n : Nat) : Channel := if h : n < 36 then c.med.ch.get ⟨n, h⟩ else c.med.ch.get 0

/-- Change the registers of channel `n`. -/
def Chip.onChan (c : Chip) (n : Nat) (f : Channel → Channel) : Chip :=
  if h : n < 36 then c.onMed fun m => { m with ch := m.ch.set n (f (m.ch.get ⟨n, h⟩)) h } else c

/-- Slots a group can allocate now (02 R435; 06 R180; 08 R243). -/
def Group.room (g : Group) : Nat :=
  if g.evacuating then 0
  else match g.state with
    | .healthy | .degraded | .rebuilding | .retraining => 2 ^ 25
    | .initialising => g.cursor
    | _ => 0

/-- Change the registers of group `g`; the partner is told when what the group can allocate changes (02 R435). -/
def Chip.onGroup (c : Chip) (g : Nat) (f : Group → Group) : Chip :=
  if h : g < 4 then
    let was := c.med.sg.get ⟨g, h⟩
    let c := c.onMed fun m => { m with sg := m.sg.set g (f was) h }
    if (f was).room = was.room then c else c.sendTwin (.tableUpdate (.room g (f was).room))
  else c

/-- Send a command frame to the module of a present channel (06 R182; 00 R3). DESIGN CHOICE (notes/assumptions/106.md): the TAGs of
a channel's frames count up modulo 64. -/
def Chip.gmi (c : Chip) (n : Nat) (op : GmiOp) : Chip :=
  if h : n < 36 then
    if c.chanPresent ⟨n, h⟩ then (c.emit (.gmi ⟨n, h⟩ (c.chan n).tag op)).onChan n fun x => { x with tag := (x.tag + 1) % 64 } else c
  else c

/-- MED_CH_STATE codes (Table 06-13). -/
def ChState.code : ChState → Nat
  | .absent => 0 | .powering => 1 | .training => 2 | .ready => 3 | .member => 4
  | .rebuilding => 5 | .removing => 6 | .safe => 7 | .missing => 8 | .failed => 9

/-- SG_STATE codes (Table 06-6). -/
def SgState.code : SgState → Nat
  | .healthy => 0 | .degraded => 1 | .rebuilding => 2 | .failed => 3
  | .initialising => 4 | .empty => 5 | .retraining => 6

/-- Set a channel's state with the pins and LED of Table 06-13, and notify 0x0006. -/
def Chip.setChan (c : Chip) (n : Nat) (s : ChState) : Chip :=
  let pw := match s with | .powering | .training | .ready | .member | .rebuilding | .removing => true | _ => false
  let rst := match s with | .training | .ready | .member | .rebuilding | .removing => true | _ => false
  let led := match s with
    | .powering | .training | .rebuilding | .removing => 2
    | .safe | .missing | .failed => 1 | _ => 0
  (c.onChan n fun x => { x with state := s, pwren := pw, rstN := rst, led := led, refuseBlink := false }).notify
    6 0x4001 (n + 1) [BitVec.ofNat 8 n, BitVec.ofNat 8 s.code]

/-- Set a group's state and notify 0x0007. -/
def Chip.setGroup (c : Chip) (g : Nat) (s : SgState) : Chip :=
  (c.onGroup g fun x => { x with state := s }).notify 7 0x4010 (g + 1) [BitVec.ofNat 8 g, BitVec.ofNat 8 s.code]

/-- A group becomes DEGRADED: the Warning record "Module degraded" at every present head
(06 R187). -/
def Chip.degrade (c : Chip) (g : Nat) (member : Nat) : Chip :=
  ((c.onGroup g fun x => { x with missing := some member }).setGroup g .degraded).vendorRecord .warning 0x0401 0x4010 (g + 1)
    [BitVec.ofNat 8 g, BitVec.ofNat 8 SgState.degraded.code]

/-- The stamp of a member: chip serial, group, member, epoch, check (Table 06-11). The spec gives the check no rule. -/
def Chip.stampFor (c : Chip) (g m : Nat) : Stamp :=
  let e := (c.group g).epoch
  { chip := c.id.serial, group := g, member := m, epoch := e, check := Config.stampCheck c.id.serial g m e }

/-- The eight words of GROUP_STAMP (Table 06-11). -/
def Stamp.words (st : Stamp) : List (BitVec 32) :=
  let lo (v : Nat) : BitVec 32 := BitVec.ofNat 32 v
  [lo st.chip.toNat, lo (st.chip.toNat / 2 ^ 32), lo (st.group % 256 + st.member % 256 * 256), 0, lo st.epoch, lo (st.epoch / 2 ^ 32),
   lo st.check.toNat, lo (st.check.toNat / 2 ^ 32)]

/-- Write a module's GROUP_STAMP, by eight REG_WRITEs (06 R186, R188). -/
def Chip.writeStamp (c : Chip) (n : Nat) (st : Stamp) : Chip :=
  (st.words.zipIdx.foldl (fun (c : Chip) w => c.gmi n (.regWrite (0x40 + 4 * w.2) w.1)) c).onChan n fun x => { x with module := { x.module with stamp := st } }

/-- Raise the group epoch and write the new stamp into every present member, but the one being
rebuilt onto (06 R188). -/
def Chip.newEpoch (c : Chip) (g : Nat) (but : Option Nat) : Chip :=
  let c := c.onGroup g fun x => { x with epoch := x.epoch + 1 }
  (List.range 9).foldl (fun c m =>
    let n := memberChan g m
    if (c.chan n).state = .member && some m != but then c.writeStamp n (c.stampFor g m) else c) c

/-- Member `m` of group `g` serves reads: it is in service and does not retrain, and, where it is being rebuilt, the unit
lies below the rebuild cursor of its row (Table 06-6, 06 R189, 07 R209). -/
def Chip.memberReads (c : Chip) (g m row u : Nat) : Bool :=
  let x := c.chan (memberChan g m)
  !x.retraining && (match x.state with
    | .member => true
    | .rebuilding => decide (u < (c.group g).rows.getD row 0)
    | _ => false)

/-- The row of a line is degraded: its stripe lacks a readable member (07 R209). -/
def Chip.rowDegraded (c : Chip) (g row u : Nat) : Bool := (List.range 9).any (fun m => !c.memberReads g m row u)

/-- The busy entry of a partition (06 R160). -/
def Chip.busyAt (c : Chip) (n row : Nat) : Option Busy := (c.chan n).busy.find? (fun b => decide (b.part = row))

/-- Some partition of the row is busy (06 R165). -/
def Chip.rowBusy (c : Chip) (g row : Nat) : Bool := (List.range 9).any (fun m => (c.busyAt (memberChan g m) row).isSome)

/-- Die of a partition row: 64 dies of 16 partitions (06 R162, Table 06-8). -/
def rowDie (row : Nat) : Nat := row / 16

/-- The channel has room for `k` more reads: 16 in its queue, 4 for one die (06 R172). -/
def Chip.readRoom (c : Chip) (n row k : Nat) : Bool :=
  decide ((c.chan n).reads.length + k ≤ 16 ∧ (c.chan n).reads.countP (fun q => decide (rowDie q.part = rowDie row)) + k ≤ 4)

/-- Identity of the media key of a tag, 0 where none is loaded (12 R323). -/
def Chip.keyOf (c : Chip) (t : Tag) : Nat := (c.sec.tags.getD t.toNat {}).key

/-- The key under which a segment's lines are enciphered now: the old tag until the segment has
switched in a rekey move, the new one after it (08 R228, 12 R324). -/
def Chip.segKeyId (c : Chip) (seg : Nat) : Nat :=
  match c.objAtGran (segGran seg) with
  | none => c.sec.internalKey
  | some (_, o) =>
    match o.oldKeyTag with
    | none => c.keyOf o.keyTag
    | some t =>
      let queued := c.dolly.queue.any (fun q => decide (q.gran = segGran seg ∧ q.kind = .rekey))
      let open_ := c.dolly.opened.any (fun g => decide (g.gran = segGran seg ∧ g.kind = .rekey) && !g.switched seg)
      c.keyOf (if queued || open_ then t else o.keyTag)

/-- The keys under which a line of the object may be deciphered: its tag's key, and those of the old
tags until a change of KEY_TAG has completed (02 R55, R58). -/
def Chip.readKeys (c : Chip) (seg : Nat) : List Nat :=
  match c.objAtGran (segGran seg) with
  | none => [c.sec.internalKey]
  | some (_, o) => c.keyOf o.keyTag :: (o.oldKeyTag.toList ++ o.olderTags).map c.keyOf

/-- What a lane deciphers from a stored line: the line under its own key; anything under
another (12 R324). A poisoned line stores 64 zero bytes (07 R203). -/
def Chip.decipher (c : Chip) (seg : Nat) (m : MedLine) : Stored :=
  if m.poison then { data := 0, poison := true }
  else if (c.readKeys seg).contains m.key then { data := m.data }
  else { data := Config.garbled m.key m.data }

/-- The assembly area's copy of a medium line whose stripe is being programmed (06 R167). -/
def Chip.assembled (c : Chip) (key : Nat) : Option MedLine :=
  (c.cache.wb.filter (fun o => o.reserved && !o.finished)).findSome? (fun o => SMap.find o.lines key)

/-- The line as a direct or stand-in read returns it (06 R171: bit for bit the same). -/
def Chip.mediumLine (c : Chip) (line : Nat) : Stored :=
  match c.homeSlot (lineSeg line) with
  | none => {}
  | some p =>
    let k := medKey p (lineSeg line) (lineSector line)
    c.decipher (lineSeg line) ((c.assembled k).getD (c.med.lines.getD k {}))

/-- Change the medium read of a line. -/
def Chip.onMiss (c : Chip) (line : Nat) (f : Miss → Miss) : Chip :=
  c.onCache fun k => { k with misses := k.misses.map (fun m => if m.line = line then f m else m) }

/-- Send the command frame of the next read of a die: the oldest in the channel's queue, once no other read of the die is
under way (06 R172; Table 06-10: tRR_DIE). DEDUCED (notes/assumptions/106.md): until then the read is queued and not issued. -/
def Chip.issueNext (c : Chip) (n die : Nat) : Chip :=
  let mine := (c.chan n).reads.filter (fun q => decide (rowDie q.part = die))
  if mine.any (·.issued) then c
  else match mine with
    | [] => c
    | q :: _ =>
      (c.onChan n fun x => { x with reads := x.reads.map (fun y => if y = q then { y with issued := true } else y) }).gmi n
        (.readLine q.part q.unit q.index q.arg)

/-- Queue a READ_LINE on a channel (06 R172, R182). -/
def Chip.queueRead (c : Chip) (n : Nat) (q : ReadQ) : Chip :=
  (c.onChan n fun x => { x with reads := x.reads ++ [q] }).issueNext n (rowDie q.part)

/-- The reads of a line leave the queues of a group's channels, whose dies take their next read. -/
def Chip.takeReads (c : Chip) (g line : Nat) : Chip :=
  (List.range 9).foldl (fun c m =>
    let n := memberChan g m
    match (c.chan n).reads.find? (fun q => decide (q.line = line)) with
    | none => c
    | some q => (c.onChan n fun x => { x with reads := x.reads.filter (fun y => y.line != line) }).issueNext n (rowDie q.part)) c

/-- The members on whose channels reads of a line are queued. -/
def Chip.readMembers (c : Chip) (g line : Nat) : List Nat :=
  (List.range 9).filter (fun m => (c.chan (memberChan g m)).reads.any (fun q => decide (q.line = line)))

/-- Every read of the line has been issued. -/
def Chip.readsIssued (c : Chip) (g line : Nat) : Bool :=
  (List.range 9).all (fun m => (c.chan (memberChan g m)).reads.all (fun q => decide (q.line ≠ line) || q.issued))

/-- The drift bin in a header beat (06 R183). -/
def lineBin (o : LineOut) : Nat := min 4 (o.hdr.extractLsb' 22 3).toNat

/-- Forced-bin rereads beside bin `b`: the ARGs of one above and of one below (07 R209; Table 06-8). -/
def forcedArgs (b : Nat) : List Nat := (if b < 4 then [b + 2] else []) ++ (if 0 < b then [b] else [])

/-- Member lines to be read for a line: member and ARG. -/
abbrev Asked := List (Nat × Nat)

/-- The asked reads may be queued: each member readable and its partition not busy (06 R160, R174, R177). -/
def Chip.askable (c : Chip) (p : LinePlace) (l : Asked) : Bool :=
  l.all (fun x => c.memberReads p.group x.1 p.row p.unit && (c.busyAt (memberChan p.group x.1) p.row).isNone)

/-- Each channel has room for the asked reads (06 R172). -/
def Chip.askRoom (c : Chip) (p : LinePlace) (l : Asked) : Bool :=
  l.all (fun x => c.readRoom (memberChan p.group x.1) p.row (l.countP (fun y => decide (y.1 = x.1))))

/-- Dispatch the asked reads of a line, where they may be queued and have room; a miss that finds no room is counted once
(06 R172), one that finds a partition busy waits (R174). -/
def Chip.ask (c : Chip) (m : Miss) (p : LinePlace) (stage : MissStage) (l : Asked) (done : Chip → Chip) : Chip :=
  if !c.askable p l then c
  else if !c.askRoom p l then
    if m.waited then c else (c.onMiss m.line fun x => { x with waited := true }).bump 0x4030 3
  else
    let c := c.onMiss m.line fun x => { x with stage := stage }
    done (l.foldl (fun c x => c.queueRead (memberChan p.group x.1) { line := m.line, part := p.row, unit := p.unit, index := p.line, arg := x.2 }) c)

/-- The other eight members of a line's stripe. -/
def LinePlace.others (p : LinePlace) : List Nat := (List.range 9).filter (fun m => m != p.member)

/-- Dispatch a stand-in read: READ_LINE on the other eight members (06 R170 to R172, R177). -/
def Chip.standIn (c : Chip) (m : Miss) (p : LinePlace) : Chip :=
  c.ask m p .standin (p.others.map (fun k => (k, 0))) fun c => c.bump 0x4030 1

/-- Age of a unit in minutes: the minute count minus its stamp, modulo 2^24 (06 R193). -/
def Chip.unitAge (c : Chip) (n row u : Nat) : Nat :=
  ((c.chan n).module.minute + 2 ^ 24 - (c.med.units.getD (unitKey n row u) {}).minute % 2 ^ 24) % 2 ^ 24

/-- Drift bin of an age in minutes (Table 06-14). -/
def driftBin (m : Nat) : Fin 5 :=
  if m < 1 then 0 else if m < 60 then 1 else if m < 1440 then 2 else if m < 43200 then 3 else 4

/-- The line's own member decoded it uncorrectable in this read. -/
def Miss.ownBad (m : Miss) (p : LinePlace) : Bool := m.failed.any (fun x => decide (x.1 = p.member))

/-- The rereads of step 3 (Table 07-3): the line, and each member line that failed step 2, one bin above and one below the
applied bin, as far as their members can be read. The bin of a line that was not read directly is that of its unit's age. -/
def Chip.rereads (c : Chip) (m : Miss) (p : LinePlace) : Asked :=
  let own := if m.ownBad p then [] else [(p.member, (driftBin (c.unitAge (memberChan p.group p.member) p.row p.unit)).val)]
  ((own ++ m.failed).filter (fun x => c.memberReads p.group x.1 p.row p.unit)).flatMap (fun x => (forcedArgs x.2).map (fun a => (x.1, a)))

/-- A medium read has its line; the step it reached goes into its records (07 R220). -/
def Chip.gotLine (c : Chip) (line : Nat) (v : Stored) : Chip :=
  let c := match c.missOf line with
    | some m => c.onInteg fun i => { i with ended := (line, m.step, ((m.failed.head?).map Prod.snd).getD 0) }
    | none => c
  c.onMiss line fun m => { m with stage := .returned, got := some v, recovering := false }

/-- The granule whose lines a slot takes: the granule recorded in the slot, or one being moved there (06 R161, 08 R232). -/
def Chip.slotGran (c : Chip) (p : Slot) : Option Nat :=
  match (c.med.slots.find? (fun q => decide (q.2 = p))).map Prod.fst with
  | some g => some g
  | none => (c.dolly.opened.find? (fun o => decide (o.dst = some p))).map (·.gran)

/-- The data unit that a member holds in the stripe at unit offset `u`; none for the parity (06 R162). -/
def memberUnit (u m : Nat) : Option Nat :=
  let k := (m + 17 - parityMember u) % 9
  if k < 8 then some k else none

/-- The twin line at a place on the medium, where a granule lies there (06 R162). -/
def Chip.unitLine (c : Chip) (g m row u l : Nat) : Option Nat :=
  let t := u * 1024 + row
  match memberUnit u m, c.slotGran { group := g, slot := t / 256 } with
  | some k, some gr => some (64 * (512 * gr + 2 * (t % 256) + k / 4) + 16 * (k % 4) + l)
  | _, _ => none

/-- The line of member `m` in the stripe of a line. -/
def Chip.lineOf (c : Chip) (p : LinePlace) (m : Nat) : Nat :=
  (c.unitLine p.group m p.row p.unit p.line).getD (memberLine (memberChan p.group m) p.row p.unit p.line)

/-- Queue the repair of the lines that failed in a read (07 R211). -/
def Chip.queueRepairs (c : Chip) (m : Miss) (p : LinePlace) : Chip :=
  let bad := m.failed.map (fun x => if x.1 = p.member then m.line else c.lineOf p x.1)
  c.onInteg fun i => { i with repairs := bad.foldl insertNat i.repairs }

/-- A line is lost on the medium: its stored line stands as poisoned from now on (07 R202, R211). -/
def Chip.loseOnMedium (c : Chip) (line : Nat) : Chip :=
  match c.homeSlot (lineSeg line) with
  | some s => c.onMed fun d => { d with lines := d.lines.put (medKey s (lineSeg line) (lineSector line)) { data := 0, key := c.segKeyId (lineSeg line), poison := true } }
  | none => c

/-- Step 4 of the ladder applies (07 R209). -/
def Chip.mirrorLadder (c : Chip) (line : Nat) : Bool :=
  (match c.objAt line with | some (_, o) => o.mirror | none => false) && c.paired &&
    decide (c.twin.link = .up) && !c.med.stale.contains (lineGran line)

/-- A member line of another line's stripe is declared lost with it (Table 07-5): written, in no frame of this chip, and without
a partner's copy. -/
def Chip.declareMember (c : Chip) (line : Nat) : Chip :=
  if memberBase ≤ line || !c.lineWritten line || (c.held line).isSome || c.lineDirty line || c.mirrorLadder line then c
  else (c.loseOnMedium line).addPoison line 1

/-- The line is declared uncorrectable (07 R209 step 5, R214, R218): it returns poison and gains a record, its stripe is to be
repaired, and member lines that failed are declared with it. The record of a host read is raised at its head by the
completion. A full-line write placed during the read has replaced the line, which is not poisoned then (07 R212); nor is a
line that HBM holds dirty, whose line on the medium is an older one, unless it is that dirty line which was lost (R208). -/
def Chip.declare (c : Chip) (line cause : Nat) : Chip :=
  let m : Miss := (c.missOf line).getD { line := line, cause := cause }
  let lost := !m.failed.isEmpty
  let c : Chip := match c.linePlace line with
    | some p => (m.failed.filter (fun x => x.1 != p.member)).foldl (fun (c : Chip) (x : Nat × Nat) => c.declareMember (c.lineOf p x.1)) (c.queueRepairs m p)
    | none => c
  let c := if lost then c.loseOnMedium line else c
  if m.drop then c.gotLine line {}
  else if lost && c.lineDirty line && !c.merging line then c.gotLine line (((c.held line).map Prod.snd).getD {})
  else
    let c := (c.onMiss line fun x => { x with step := 5 }).bump 0x4203 4
    let c := c.onInteg fun i => { i with ended := (line, 5, ((m.failed.head?).map Prod.snd).getD 0) }
    let c := if memberBase ≤ line then c else c.addPoison line 1
    let c := if cause = 1 || cause = 2 then c
      else c.record .failure (c.mediaBody line cause 0 (1 + c.overflowBit line))
    c.gotLine line { data := 0, poison := true }

/-- The programs of the cause change the contents of a stripe: reads of the busy unit of the stripe come from the assembly area
(Table 06-3). -/
def ProgCause.changes : ProgCause → Bool
  | .driftRefresh | .scrubRewrite | .relocation | .rebuild => false
  | _ => true

/-- Step 4 of the ladder, the partner's copy, or where it does not apply step 5 (Table 07-3). -/
def Chip.toStep4 (c : Chip) (m : Miss) : Chip :=
  if c.mirrorLadder m.line && !c.lineDirty m.line then
    (c.onMiss m.line fun x => { x with step := 4, stage := .fetching, recovering := true }).sendTwin .mirrorFetch m.line
  else c.declare m.line m.cause

/-- Dispatch a medium read that waits (06 R170 to R174, R177, R179; 07 R209): poison for a missing member of a FAILED
group; the assembly area for a unit of a stripe being programmed; a stand-in read for a busy or
missing member; a direct read otherwise, when the queue and the die have room. In a recovery: the stand-in read of step 2, or the
rereads of step 3. -/
def Chip.dispatch (c : Chip) (line : Nat) : Chip :=
  match c.missOf line, c.linePlace line with
  | some m, some p =>
    let n := memberChan p.group p.member
    let reads := c.memberReads p.group p.member p.row p.unit
    if m.stage != .waiting || (2 ≤ m.step && !m.recovering) then c
    else if m.step = 3 then
      let l := c.rereads m p
      if l.isEmpty then c.toStep4 m else c.ask m p .queued l fun c => c
    else if m.step = 2 then
      if c.rowDegraded p.group p.row p.unit then
        let m := { m with step := 3 }
        let l := c.rereads m p
        let c := c.onMiss line fun x => { x with step := 3 }
        if l.isEmpty then c.toStep4 m else c.ask m p .queued l fun c => c
      else c.standIn m p
    else if (c.group p.group).state = .failed && !reads then c.declare line m.cause
    else if !reads then c.standIn m p
    else match c.busyAt n p.row with
      | some b => if b.unit = p.unit && b.cause.changes then c.gotLine line (c.mediumLine line) else c.standIn m p
      | none => c.ask m p .queued [(p.member, 0)] fun c => c.bump 0x4030 2
  | some m, none => if m.stage = .waiting then c.gotLine line {} else c
  | none, _ => c

/-- DRIFT_REFRESH_BITS (4122:02). -/
def Chip.driftBits (c : Chip) : Nat := c.par 0x4122 2 4

/-- A corrected line: counted, and its unit queued for a scrub rewrite from
DRIFT_REFRESH_BITS corrected bits on (07 R205). -/
def Chip.corrected (c : Chip) (n row u bits line : Nat) : Chip :=
  let c := c.mediumCorrected n line
  if c.driftBits ≤ bits && !c.integ.rewrites.contains (n, row * 2 ^ 24 + u) then
    c.onInteg fun i => { i with rewrites := i.rewrites ++ [(n, row * 2 ^ 24 + u)] }
  else c

/-- Recoveries in progress (07 R210). -/
def Chip.recoveries (c : Chip) : Nat := c.cache.misses.countP (·.recovering)

/-- A read enters the ladder at step 2 or 3: it is dispatched with one of the 256 recovery entries, or waits for one (07 R209,
R210). One whose line a full-line write has replaced runs on, for the repair of the stripe (R212). -/
def Chip.recover (c : Chip) (m : Miss) (step : Nat) : Chip :=
  let free := m.recovering || decide (c.recoveries < 256)
  let c := c.onMiss m.line fun _ => { m with step := step, stage := .waiting, recovering := free }
  if free then c.dispatch m.line else c.bump 0x4203 5

/-- LAST_UE (4250:01): DPA, source, step, channel, unit, timestamp. -/
def Chip.lastUe (c : Chip) (line step n u : Nat) : Chip :=
  c.setVol 0x4250 1 (ofBytes (toBytes 8 (64 * line) ++ [1, BitVec.ofNat 8 step, BitVec.ofNat 8 n, 0] ++
    toBytes 4 u ++ toBytes 8 c.stamp.toNat))

/-- A burst arrives with a valid header beat (06 R183, R187). -/
def Chip.burstIn (c : Chip) (n : Nat) (o : LineOut) : Chip := c.onChan n fun x => { x with noHeader := 0, header := o.hdr }

/-- A READ_UNIT decodes a line uncorrectable: it enters the ladder with the transaction type `cause`, or joins the read of it that is
under way (07 R209, R210, R213). -/
def Chip.detect (c : Chip) (line cause : Nat) : Chip :=
  match c.linePlace line with
  | none => c
  | some p =>
    let n := memberChan p.group p.member
    let c := (c.bump 0x4202 (n + 1)).lastUe line 1 n p.unit
    if (c.missOf line).isSome then c
    else
      let x : Miss := { line := line, stage := .waiting, cause := cause, failed := [(p.member, (driftBin (c.unitAge n p.row p.unit)).val)] }
      (c.onCache fun k => { k with misses := k.misses ++ [x] }).recover x (if c.rowDegraded p.group p.row p.unit then 3 else 2)

/-- A medium read ends with its line: a recovery is counted by the step that gave it, and the lines that failed are to be
repaired (07 R209, R211); a decoded mark gains its record (R216). -/
def Chip.readGood (c : Chip) (m : Miss) (p : LinePlace) : Chip :=
  let c := if 2 ≤ m.step && !m.drop then c.bump 0x4203 (m.step - 1) else c
  let c := c.queueRepairs m p
  let c := if (c.mediumLine m.line).poison then c.decodedMark m.line else c
  c.gotLine m.line (c.mediumLine m.line)

/-- A member line was read without success. -/
def lineBad (o : LineOut) : Bool := decide (o.out = .uncorrectable)

/-- A medium read returns with the outcomes of its decodes (06 R171, R175, R183; 07 R205, R209): of the line itself, of the
other eight members in a stand-in read, of each reread line in step 3. A corrected line is charged to its own unit. A line
whose repair is queued still fails when it is read directly (07 R211). -/
def Chip.lineReturned (c : Chip) (line : Nat) (outs : Vector LineOut 9) : Chip :=
  match c.missOf line, c.linePlace line with
  | some m, some p =>
    if (m.stage != .queued && m.stage != .standin) || !c.readsIssued p.group line then c
    else
      let mine := c.readMembers p.group line
      let at' (k : Nat) : LineOut := outs.toList.getD k {}
      let bad (k : Nat) : Bool := lineBad (at' k) || (m.stage = .queued && m.step = 1 && c.integ.repairs.contains line)
      let failed := (mine.filter bad).map (fun k => (k, lineBin (at' k)))
      let c := c.takeReads p.group line
      let c := mine.foldl (fun c k => c.burstIn (memberChan p.group k) (at' k)) c
      let c := mine.foldl (fun c k => match (at' k).out with
        | .corrected b => c.corrected (memberChan p.group k) p.row p.unit b (c.lineOf p k)
        | _ => c) c
      let c := failed.foldl (fun c x => c.lastUe (c.lineOf p x.1) m.step (memberChan p.group x.1) p.unit) c
      let kept := m.failed.filter (fun x => !failed.any (fun y => decide (y.1 = x.1)))
      let m' := { m with failed := kept ++ failed }
      match m.stage, m.step with
      | .standin, _ => if failed.isEmpty then c.readGood m p else c.recover m' 3
      | _, 1 =>
        if failed.isEmpty then c.readGood m p
        else (c.bump 0x4202 (memberChan p.group p.member + 1)).recover m' (if c.rowDegraded p.group p.row p.unit then 3 else 2)
      | _, _ =>
        let ownGood := mine.contains p.member && !bad p.member
        let others := m.failed.filter (fun x => x.1 != p.member)
        let retried := !others.isEmpty && others.all (fun x => mine.contains x.1 && !bad x.1)
        if ownGood || retried then c.readGood m p else (c.onMiss line fun _ => m').toStep4 m'
  | _, _ => c

/-- Serve the readers of a medium read. -/
def Chip.serveReaders (c : Chip) (rs : List Req) (v : Stored) : Chip :=
  rs.foldl (fun c r => c.completeRead r v.data v.poison) c

/-- The frames that hold a dirty copy of a line. -/
def Chip.copies (c : Chip) (line : Nat) : List Nat :=
  (c.cache.frames.filter (fun p => decide (p.2.seg = lineSeg line) && p.2.dirty.getLsbD (lineSector line))).map Prod.fst

/-- The copy of a dirty line that is read: one whose frame a retirement has not left unbuilt (05 R151), and of
two the one in the lower in-service index (05 R157). -/
def Chip.bestCopy (c : Chip) (line : Nat) : Option Nat :=
  let l := c.copies line
  let built := l.filter (fun f => !(c.frame f).unbuilt)
  (if built.isEmpty then l else built).foldl (fun b f => match b with
    | none => some f
    | some g => if frameIndex f < frameIndex g then some f else some g) none

/-- A fill ends (04 R112, R113; 07 R210, R212, R214): a mark that the ladder placed counts as a dirty line in every copy; its data is merged with a held partial write in
every copy, or placed in the pending sector, or discarded; its readers receive the outcome. A fill that a write
discarded serves its readers from the cache; where that write has been written back and evicted since, the line is
read again (01 R35). -/
def Chip.fillDone (c : Chip) (line : Nat) : Chip :=
  match c.missOf line with
  | none => c
  | some m =>
    match m.stage, m.got with
    | .returned, some v =>
      let n := lineSector line
      let c := c.onCache fun k => { k with misses := k.misses.filter (fun x => x.line != line) }
      let c := if m.drop then
          if c.merging line then
            c.onCache fun k => { k with misses := k.misses ++ [{ line := line, frame := (c.copies line).head?, readers := m.readers, cause := 2 }] }
          else match c.held line with
            | some (_, now) => c.serveReaders m.readers now
            | none => m.readers.foldl (fun c r => c.homeRead r) c
        else match c.cache.merges.find? (fun x => decide (x.line = line)) with
          | some g =>
            let old : Line := if v.poison then 0 else v.data
            let c := (c.copies line).foldl (fun c f =>
              (c.setSector f n { data := mergeLine old (c.sector f n).data g.mask, poison := (c.sector f n).poison }).writeFrame f n .mergeWrite) c
            let c := c.onCache fun k => { k with merges := k.merges.filter (fun x => x.line != line) }
            let c := if v.poison then
                let c := c.clearPoison line
                match g.head with
                | some h => c.recordAt [h] .failure (c.mediaBody line 2 0 1)
                | none => c.recordAt [] .failure (c.mediaBody line 2 0 1)
              else c
            c.serveReaders m.readers (((c.held line).map Prod.snd).getD v)
          | none =>
            let c := match m.frame with
              | none => c
              | some f =>
                if c.lineDirty line then (c.copies line).foldl (fun c f => c.setSector f n v) c
                else if (c.frame f).seg = lineSeg line && (c.frame f).kind.visible then
                  ((c.setSector f n v).writeFrame f n .fillWrite).onFrame f fun x => { x with valid := setBit x.valid n, pending := clearBit x.pending n }
                else c
            let c := if !v.poison || memberBase ≤ line then c
              else if m.step = 5 && (c.held line).isSome && !c.groupFailed (lineSeg line) then c.markPoison line 1
              else c.decodedMark line
            c.serveReaders m.readers v
      c
    | _, _ => c

/-- Members of a group that take programs: those in service, and the one being rebuilt onto
below its cursor (06 R177, R178). -/
def Chip.programmable (c : Chip) (g stripe m : Nat) : Bool := c.memberReads g m (stripeRow stripe) (stripeUnit stripe)

/-- The data units that an operation changes (06 R166): those of its lines, and those it names. -/
def WbOp.dataUnits (o : WbOp) : List Nat :=
  (List.range 8).filter (fun k => o.units.contains k || o.lines.any (fun p => decide (dataUnit (p.1 / 64) (p.1 % 64) = k)))

/-- The members a stripe operation programs for the data units `ks`, in member order, the parity last; no unit of a
missing member is programmed (06 R166, R177). -/
def Chip.stripeTodo (c : Chip) (g stripe : Nat) (ks : List Nat) : List Nat :=
  let u := stripeUnit stripe
  let data := (List.range 9).filter (fun m => ks.any (fun k => decide (dataMember u k = m)))
  (data ++ [parityMember u]).filter (c.programmable g stripe)

/-- The members a full-stripe operation programs: the data units in member order, the parity last (06 R166, R177). -/
def Chip.fullTodo (c : Chip) (g stripe : Nat) : List Nat :=
  ((List.range 9).filter (fun m => m != parityMember (stripeUnit stripe)) ++ [parityMember (stripeUnit stripe)]).filter (c.programmable g stripe)

/-- Hand an operation to the write scheduler under the next number. -/
def Chip.addOp (c : Chip) (o : WbOp) : Chip :=
  c.onCache fun k => { k with nextOp := k.nextOp + 1, wb := k.wb ++ [{ o with id := k.nextOp }] }

/-- Hand a stripe operation to the write scheduler (06 R166): its lines enter the assembly
area. -/
def Chip.newOp (c : Chip) (g stripe : Nat) (cause : ProgCause) (full : Bool) (lines : List (Nat × MedLine))
    (release : List Nat) : Chip :=
  let o : WbOp := { group := g, stripe := stripe, cause := cause, lines := lines, release := release }
  c.addOp { o with todo := if full then c.fullTodo g stripe else c.stripeTodo g stripe o.dataUnits }

/-- An operation on one unit only: refresh, rewrite, relocation, rebuild (Table 06-3). -/
def Chip.unitOp (c : Chip) (g stripe member : Nat) (cause : ProgCause) : Chip :=
  c.addOp { group := g, stripe := stripe, cause := cause, todo := [member] }

/-- The stripe operation with a number. -/
def Chip.op (c : Chip) (id : Nat) : Option WbOp := c.cache.wb.find? (fun o => decide (o.id = id))

/-- Change a stripe operation. -/
def Chip.onOp (c : Chip) (id : Nat) (f : WbOp → WbOp) : Chip :=
  c.onCache fun k => { k with wb := k.wb.map (fun o => if o.id = id then f o else o) }

/-- Programs that write-back, the dolly, the device's tables and the repair of a stripe need; the rest is maintenance. -/
def ProgCause.data : ProgCause → Bool
  | .fullStripe | .partialStripe | .dolly | .mapUpdate | .dirtyMap | .tableRegion | .repair => true
  | _ => false

/-- The group state permits a program of the cause (Table 06-6). -/
def SgState.permits : SgState → ProgCause → Bool
  | .healthy, _ => true
  | .degraded, p => p.data
  | .rebuilding, p => p.data || decide (p = .rebuild)
  | .initialising, p => decide (p = .initialisation)
  | _, _ => false

/-- Drift refreshes and scrub rewrites stop in squall mode (06 R195, 07 R205); in a wrap only write-back, the map and repairs
go on (10 R295 step 2). -/
def Chip.causeRuns (c : Chip) (p : ProgCause) : Bool :=
  if c.wrapping then p.data && p != .dolly
  else !decide (p = .driftRefresh ∨ p = .scrubRewrite) || decide (c.cache.squall = 0)

/-- A miss waits in the cache pipeline for room in a read queue (06 R172). -/
def Chip.missWaits (c : Chip) : Bool := c.cache.misses.any (fun m => m.waited && decide (m.stage = .waiting))

/-- The dolly starts no program in squall mode, in a wrap or while a miss waits for room (08 R237). -/
def Chip.dollyStarts (c : Chip) (p : ProgCause) : Bool := p != .dolly || (decide (c.cache.squall = 0) && !c.wrapping && !c.missWaits)

/-- DEG_ROWS (4012:03). -/
def Chip.degRows (c : Chip) : Nat := c.par 0x4012 3 384

/-- Rows reserved in a group. -/
def Chip.reservedRows (c : Chip) (g : Nat) : Nat := c.cache.wb.countP (fun o => o.reserved && decide (o.group = g))

/-- A row is reserved by some operation (06 R166). -/
def Chip.rowReserved (c : Chip) (g row : Nat) : Bool :=
  c.cache.wb.any (fun o => o.reserved && decide (o.group = g ∧ stripeRow o.stripe = row))

/-! The written map on the medium (06 R196 to R198). DESIGN CHOICE (notes/assumptions/106.md): in the written map region of the
internal stripes the map blocks come first, two slots to a stripe, then the slot records, 2,048 slots to a stripe; then the
dirty map and the table region. -/

/-- First internal stripe of a group (06 R162). -/
def internalBase : Nat := 8388608 * 1024
/-- The stripe of the map block of a slot. -/
def mapStripe (slot : Nat) : Nat := internalBase + slot / 2
/-- First stripe of the slot records. -/
def recBase : Nat := internalBase + 16384 * 1024
/-- The stripe of the record of a slot. -/
def recStripe (slot : Nat) : Nat := recBase + slot / 2048
/-- The stripe of the dirty map, after the written map region (10 R297). -/
def dirtyStripe : Nat := internalBase + 16400 * 1024
/-- The stripe of the table region, after the dirty map (15 R391). -/
def tableStripe : Nat := internalBase + 16401 * 1024

/-- The operation programs slot records or map blocks; a materialisation is a write-back of its slot's stripes. -/
def WbOp.mapOp (o : WbOp) : Bool := decide (o.cause = .mapUpdate) && !o.mat
/-- A map operation that programs slot records. -/
def WbOp.recOp (o : WbOp) : Bool := o.mapOp && decide (recBase ≤ o.stripe)
/-- A map operation that programs map blocks. -/
def WbOp.blockOp (o : WbOp) : Bool := o.mapOp && decide (o.stripe < recBase)

/-- The slot lies in the stripe of a map operation. -/
def WbOp.covers (o : WbOp) (k : Nat) : Bool :=
  decide (k / 2 ^ 25 = o.group) &&
    decide (o.stripe = if recBase ≤ o.stripe then recStripe (k % 2 ^ 25) else mapStripe (k % 2 ^ 25))

/-- The generation that a slot's record is to have (06 R198). -/
def Chip.wantedGen (c : Chip) (k : Nat) : Nat := c.med.gens.getD k (c.med.recs.getD k {}).gen

/-- A slot's record still has an old generation: its bitmaps on the medium have been cleared and the record not programmed. -/
def Chip.recStale (c : Chip) (k : Nat) : Bool := decide (c.wantedGen k ≠ (c.med.recs.getD k {}).gen)

/-- The record that a slot is to have: its state as its map block stands on the medium (Table 06-15). -/
def Chip.wantedRec (c : Chip) (k : Nat) : SlotRec :=
  let mine := c.med.medMap.filter (fun q => decide (q.1 / 512 = k))
  { gen := c.wantedGen k
    state := if c.recStale k || mine.isEmpty then 0 else if decide (mine.length = 512) && mine.all (fun q => decide (q.2 = BitVec.allOnes 64)) then 1 else 2 }

/-- Slots of which the written map knows something. -/
def Chip.mapSlots (c : Chip) : List Nat :=
  (c.med.recs.map Prod.fst ++ c.med.gens.map Prod.fst ++ (c.med.map ++ c.med.medMap).map (fun (p : Nat × BitVec 64) => p.1 / 512)).eraseDups

/-- The lines of finished operations of a segment word: programmed and not yet released. -/
def Chip.programmed (c : Chip) (key : Nat) : BitVec 64 :=
  (c.cache.wb.filter (·.finished)).foldl (fun m o =>
    o.lines.foldl (fun m l => if l.1 / 64 = key then setBit m (l.1 % 64) else m) m) 0

/-- The dirty lines of a segment on this chip. -/
def Chip.segDirty (c : Chip) (seg : Nat) : BitVec 64 :=
  (c.cache.frames.filter (fun p => decide (p.2.seg = seg))).foldl (fun m p => m ||| p.2.dirty) 0

/-- The word of a segment as the map block is to hold it: every bit set in the working copy, but those of dirty lines that have
not been programmed (06 R197: every bit that the medium copy lacks belongs to a dirty line). -/
def Chip.blockWord (c : Chip) (key : Nat) : BitVec 64 :=
  let k := key / 512
  let dirty := match c.slotGran { group := k / 2 ^ 25, slot := k % 2 ^ 25 } with
    | some g => c.segDirty (512 * g + key % 512)
    | none => 0
  c.med.map.getD key 0 &&& ~~~ (dirty &&& ~~~ (c.med.medMap.getD key 0 ||| c.programmed key))

/-- The words of a slot whose map block is to change. -/
def Chip.blockWords (c : Chip) (k : Nat) : List (Nat × BitVec 64) :=
  let keys := ((c.med.map ++ c.med.medMap).map Prod.fst).filter (fun q => decide (q / 512 = k))
  (keys.eraseDups.map (fun q => (q, c.blockWord q))).filter (fun p => c.med.medMap.getD p.1 0 != p.2)

/-- Queue the map update of a slot: its map block, then its record, unless an update of them waits already, which gathers this
change too (06 R197). -/
def Chip.mapWrite (c : Chip) (k : Nat) : Chip :=
  if c.cache.wb.any (fun o => o.blockOp && !o.reserved && !o.finished && o.covers k) then c
  else (c.addOp { group := k / 2 ^ 25, stripe := mapStripe (k % 2 ^ 25), cause := .mapUpdate }).addOp
    { group := k / 2 ^ 25, stripe := recStripe (k % 2 ^ 25), cause := .mapUpdate }

/-- The materialisation of a slot ends without effect on its bits: stripes not yet started are dropped, a stripe under way is an
ordinary full-stripe write-back from now on. -/
def Chip.endMaterialise (c : Chip) (p : Slot) : Chip :=
  let mine (o : WbOp) : Bool := o.mat && decide (o.group = p.group ∧ o.stripe / 256 = p.slot)
  c.onCache fun k => { k with wb := (k.wb.filter (fun o => !mine o || o.reserved || o.finished)).map (fun o =>
    if mine o then { o with mat := false, cause := .fullStripe } else o) }

/-- Clear a whole slot: its working bits, and on the medium by the next generation of its record; a generation that reaches
its limit has the map block rewritten too (06 R198). -/
def Chip.zeroSlot (c : Chip) (p : Slot) : Chip :=
  let k := slotKey p
  let next := (c.wantedGen k + 1) % 2 ^ 30
  let c := (c.endMaterialise p).onMed fun d => { d with map := d.map.filter (fun q => q.1 / 512 != k), mixed := d.mixed.del k, gens := d.gens.put k next }
  let c := if c.cache.wb.any (fun o => o.recOp && !o.reserved && !o.finished && o.covers k) then c
    else c.addOp { group := p.group, stripe := recStripe p.slot, cause := .mapUpdate }
  if next = 0 then c.mapWrite k else c

/-- Clear a slot in which something is still written. -/
def Chip.cleanSlot (c : Chip) (p : Slot) : Chip :=
  let mine (q : Nat × BitVec 64) : Bool := decide (q.1 / 512 = slotKey p)
  if c.med.map.any mine || (c.med.medMap.any mine && !c.recStale (slotKey p)) then c.zeroSlot p else c

/-- The bit of a line stands in the medium copy of the written map. -/
def Chip.bitOnMedium (c : Chip) (key : Nat) : Bool :=
  let k := key / 32768
  (c.med.medMap.getD (key / 64) 0).getLsbD (key % 64) && (c.med.recs.getD k {}).state != 0 && !c.recStale k

/-- The bits of an operation's lines that are written stand in the medium copy. -/
def Chip.bitsOnMedium (c : Chip) (o : WbOp) : Bool :=
  o.lines.all (fun l => !(c.med.map.getD (l.1 / 64) 0).getLsbD (l.1 % 64) || c.bitOnMedium l.1)

/-- A record of a slot with a stale generation is programmed before its map block, and a record after the blocks that were
queued before it (06 R198). -/
def Chip.mapReady (c : Chip) (o : WbOp) : Bool :=
  let stale := (c.mapSlots.filter o.covers).any c.recStale
  if o.blockOp then !stale
  else if o.recOp then
    stale || !c.cache.wb.any (fun x => x.blockOp && !x.finished && decide (x.id < o.id ∧ x.group = o.group ∧ recBase + (x.stripe - internalBase) / 1024 = o.stripe))
  else true

/-- The tables as they now stand (15 R391). -/
def Chip.tablesNow (c : Chip) : Tables :=
  { gen := c.med.tableGen, objs := c.obj.table, slots := c.med.slots, routes := c.med.routeMap }

/-- The places of the queued repairs of a stripe (07 R211). -/
def Chip.repairsIn (c : Chip) (g stripe : Nat) : List LinePlace :=
  (c.integ.repairs.filterMap c.linePlace).filter (fun p => decide (p.group = g ∧ p.row = stripeRow stripe ∧ p.unit = stripeUnit stripe))

/-- The stored lines that a repair programs: recovered data, or poisoned (07 R211). -/
def Chip.repairLines (c : Chip) (g stripe : Nat) : List (Nat × MedLine) :=
  c.integ.repairs.filterMap fun l => match c.linePlace l, c.homeSlot (lineSeg l) with
    | some p, some s =>
      if l < memberBase ∧ p.group = g ∧ p.row = stripeRow stripe ∧ p.unit = stripeUnit stripe then
        let k := medKey s (lineSeg l) (lineSector l)
        some (k, c.med.lines.getD k { key := c.segKeyId (lineSeg l) })
      else none
    | _, _ => none

/-- What an operation on an internal stripe, or a repair, programs, as it stands when its row is reserved, with the data units it changes
(06 R197, R198; 15 R391; 10 R297). -/
def Chip.payload (c : Chip) (o : WbOp) : WbOp :=
  if o.blockOp then
    let ks := c.mapSlots.filter o.covers
    let ws := ks.flatMap c.blockWords
    { o with words := ws, units := (ws.map (fun (p : Nat × BitVec 64) => 4 * (p.1 / 512 % 2) + p.1 % 512 / 128) ++
                ks.flatMap (fun k => if c.wantedGen k = 0 && c.med.recs.has k then [4 * (k % 2), 4 * (k % 2) + 1, 4 * (k % 2) + 2, 4 * (k % 2) + 3] else [])).eraseDups }
  else if o.recOp then
    let rs := ((c.mapSlots.filter o.covers).map (fun k => (k, c.wantedRec k))).filter (fun p => c.med.recs.getD p.1 {} != p.2)
    { o with slotRecs := rs, units := (rs.map (fun p => p.1 % 2048 / 256)).eraseDups }
  else match o.cause with
    | .tableRegion => { o with tables := some c.tablesNow, units := [0, 1, 2, 3] }
    | .dirtyMap => { o with units := [0] }
    | .repair => { o with lines := c.repairLines o.group o.stripe, units := (c.repairsIn o.group o.stripe).filterMap (fun p => memberUnit p.unit p.member) }
    | _ => o

/-- The operation may reserve its row: none holds it, the group state permits the cause, and a
degraded group has fewer than DEG_ROWS rows reserved (06 R166, R177, R195). -/
def Chip.mayReserve (c : Chip) (o : WbOp) : Bool :=
  !o.reserved && !c.rowReserved o.group (stripeRow o.stripe) && ((c.group o.group).state).permits o.cause &&
    (decide ((c.group o.group).state = .healthy) || decide (c.reservedRows o.group < c.degRows)) && c.causeRuns o.cause && c.dollyStarts o.cause && c.mapReady o

/-- Apply the lines of a member (or of every member) of an operation to the medium (06 R166, R184). -/
def Chip.applyLines (c : Chip) (o : WbOp) (member : Option Nat) : Chip :=
  let u := stripeUnit o.stripe
  let mine := o.lines.filter (fun p => match member with
    | none => true
    | some m => decide (dataMember u (dataUnit (p.1 / 64) (p.1 % 64)) = m))
  c.onMed fun d => { d with lines := mine.foldl (fun l p => l.put p.1 p.2) d.lines }

/-- The key tag under which a unit of a slot is enciphered (06 R183; 08 R228). -/
def Chip.slotTag (c : Chip) (p : Slot) : Tag :=
  match c.slotGran p with
  | none => 0
  | some g => match c.objAtGran g with
    | none => 0
    | some (_, o) =>
      let old := c.dolly.queue.any (fun q => decide (q.gran = g ∧ q.kind = .rekey)) ||
        c.dolly.opened.any (fun x => decide (x.gran = g ∧ x.kind = .rekey ∧ x.src = p))
      if old then o.oldKeyTag.getD o.keyTag else o.keyTag

/-- The metadata that a program writes with a unit (06 R183): segment, key tag, kind, map generation. -/
def Chip.unitMeta (c : Chip) (g m row u : Nat) (cause : ProgCause) : UnitMeta :=
  let t := u * 1024 + row
  if parityMember u = m then { kind := 1 }
  else if 8388608 ≤ u then
    let k := 2 ^ 25 * g + 2 * (t - internalBase) + boolNat (decide (4 ≤ (memberUnit u m).getD 0))
    { kind := 2, gen := if t < recBase then c.wantedGen k else if tableStripe ≤ t then c.med.tableGen else 0 }
  else if cause = .initialisation then { kind := 3 }
  else match c.unitLine g m row u 0 with
    | some l => { seg := lineSeg l, keyTag := c.slotTag { group := g, slot := t / 256 } }
    | none => { kind := 3 }

/-- A programmed unit: stamped with the module's minute count, its program counted, with its metadata; a rewrite or relocation
returns the metadata unchanged (06 R183, R191, R193). -/
def Chip.stampUnit (c : Chip) (g m row u : Nat) (cause : ProgCause) : Chip :=
  let n := memberChan g m
  c.onMed fun d => { d with units := d.units.upd (unitKey n row u) {} fun x =>
    let y := if cause = .driftRefresh ∨ cause = .scrubRewrite then x else c.unitMeta g m row u cause
    { y with minute := (c.chan n).module.minute, count := x.count + 1 } }

/-- The repairs queued for lines of a unit are done by a program of the unit (07 R211). -/
def Chip.repairedUnit (c : Chip) (g m row u : Nat) : Chip :=
  c.onInteg fun i => { i with repairs := i.repairs.filter (fun l => match c.linePlace l with
    | some p => !decide (p.group = g ∧ p.member = m ∧ p.row = row ∧ p.unit = u)
    | none => true) }

/-- The tables of a finished table region update stand on the medium (15 R391). -/
def Medium.tabled (d : Medium) (t : Option Tables) : Medium :=
  match t with
  | some x => if d.tab.gen ≤ x.gen then { d with tab := x } else d
  | none => d

/-- The slot records and words of a finished map update stand on the medium: a record of a new generation leaves its map block
without effect (Table 06-15). -/
def Medium.mapped (d : Medium) (o : WbOp) : Medium :=
  let fresh := (o.slotRecs.filter (fun p => decide (p.2.gen ≠ (d.recs.getD p.1 {}).gen))).map Prod.fst
  { d with
    medMap := (o.words.foldl (fun m p => m.putD p.1 p.2 0) d.medMap).filter (fun q => !fresh.contains (q.1 / 512))
    recs := o.slotRecs.foldl (fun m p => m.put p.1 p.2) d.recs
    gens := d.gens.filter (fun p => !o.slotRecs.any (fun r => decide (r.1 = p.1 ∧ r.2.gen = p.2))) }

/-- An operation can end: the state of its group permits it, or will once the group no longer retrains (Table 06-6). -/
def Chip.opRuns (c : Chip) (o : WbOp) : Bool :=
  ((c.group o.group).state).permits o.cause || decide ((c.group o.group).state = .retraining)

/-- A part of a checkpoint of the dirty map is outstanding (10 R297). -/
def Chip.checkpointing (c : Chip) : Bool := c.cache.wb.any (fun x => decide (x.cause = .dirtyMap) && !x.finished && c.opRuns x)

/-- The dirty map of a checkpoint is complete once no group's part of it is outstanding (10 R297). -/
def Chip.checkpointed (c : Chip) (o : WbOp) : Chip :=
  if o.cause != .dirtyMap || c.checkpointing then c
  else c.onMed fun d => { d with dirtyMap := o.dirty }

/-- An operation whose last program is confirmed: finished, its row released, every line on the
medium (06 R166, R177); its lines' bits are gathered for the map block (R197). -/
def Chip.finishOp (c : Chip) (o : WbOp) : Chip :=
  let c := (c.applyLines o none).onOp o.id fun x => { x with finished := true, reserved := false, todo := [] }
  let c := (c.onMed fun d => (d.mapped o).tabled o.tables).checkpointed o
  let c := if o.cause = .repair then
      c.onInteg fun i => { i with repairs := i.repairs.filter (fun l => match c.linePlace l with
        | some p => !decide (p.group = o.group ∧ p.row = stripeRow o.stripe ∧ p.unit = stripeUnit o.stripe)
        | none => true) }
    else c
  if o.release.isEmpty then c
  else ((o.lines.filter (fun l => !c.bitOnMedium l.1)).map (fun l => l.1 / 32768)).eraseDups.foldl (fun c k => c.mapWrite k) c

/-- Advance an operation past the member just programmed; its next program waits from now on (06 R177). -/
def Chip.advanceOp (c : Chip) (id member : Nat) : Chip :=
  match c.op id with
  | none => c
  | some o =>
    let rest := o.todo.erase member
    let c := c.applyLines o (some member)
    if rest.isEmpty then c.finishOp o else c.onOp id fun x => { x with todo := rest, retried := false, since := c.now }

/-- Remove a finished operation that releases nothing. -/
def Chip.dropOp (c : Chip) (id : Nat) : Chip :=
  c.onCache fun k => { k with wb := k.wb.filter (fun o => o.id != id) }

/-- Drop the operations of a group for a cause that has ended: its rebuild or its initialisation. -/
def Chip.dropOps (c : Chip) (g : Nat) (cause : ProgCause) : Chip :=
  c.onCache fun k => { k with wb := k.wb.filter (fun o => !decide (o.group = g ∧ o.cause = cause)) }

/-- Queue the rebuild of a member: one program at a time in each of the 1,024 rows, from unit 0 (06 R178). -/
def Chip.queueRebuild (c : Chip) (g m : Nat) : Chip :=
  (c.dropOps g .rebuild).onCache fun k =>
    { k with nextOp := k.nextOp + 1024
             wb := k.wb ++ (List.range 1024).map (fun r => { id := k.nextOp + r, group := g, stripe := r, cause := .rebuild, todo := [m] }) }

/-- Queue the initialisation of a stripe: nine units of zeros (06 R180, Table 06-3). -/
def Chip.queueInit (c : Chip) (g stripe : Nat) : Chip :=
  c.addOp { group := g, stripe := stripe, cause := .initialisation, todo := c.fullTodo g stripe }

/-- A group holds a whole copy of the table region (15 R391). -/
def SgState.hasTables : SgState → Bool
  | .failed | .initialising | .empty => false
  | _ => true

/-- The tables have changed: a table region update in every group that holds a copy, which gathers later changes until its row
is reserved (15 R391). -/
def Chip.tableChanged (c : Chip) : Chip :=
  let c := c.onMed fun m => { m with tableGen := m.tableGen + 1 }
  (List.range c.id.part.groups).foldl (fun c g =>
    if !((c.group g).state).hasTables || c.cache.wb.any (fun o => decide (o.group = g ∧ o.cause = .tableRegion) && !o.reserved && !o.finished) then c
    else c.addOp { group := g, stripe := tableStripe, cause := .tableRegion }) c

/-- A map or table operation below `n` is outstanding in a group whose state lets it end, or that retrains (15 R391; 06 R198,
Table 06-6). -/
def Chip.mediumPending (c : Chip) (n : Nat) : Bool :=
  c.cache.wb.any (fun o => decide (o.id < n) && !o.finished && (o.mapOp || decide (o.cause = .tableRegion)) && c.opRuns o)

/-- Read outstanding reads of a channel's lines again: the misses return to waiting and their reads leave every queue (06 R187). -/
def Chip.reissueReads (c : Chip) (n : Nat) : Chip :=
  let mine := ((c.chan n).reads.map (·.line)).eraseDups
  mine.foldl (fun c l => (c.takeReads (n / 9) l).onMiss l fun x => { x with stage := .waiting }) c

/-- The state of a group apart from a retrain of one of its members (06 R189). -/
def Group.base (g : Group) : SgState := if g.state = .retraining then g.before else g.state

/-- A group with a retraining member stays RETRAINING, whatever state it returns to; a FAILED one is FAILED (06 R189). -/
def Chip.keepRetraining (c : Chip) (g : Nat) : Chip :=
  let x := c.group g
  if decide (x.state = .failed ∨ x.state = .retraining) || !(List.range 9).any (fun m => (c.chan (memberChan g m)).retraining) then c
  else (c.onGroup g fun y => { y with before := x.state }).setGroup g .retraining

/-- Operations that a lost or leaving member has left with nothing to program end. -/
def Chip.endEmptied (c : Chip) (g : Nat) : Chip :=
  (c.cache.wb.filter (fun o => decide (o.group = g) && o.reserved && o.todo.isEmpty && !o.finished)).foldl (fun c o => c.finishOp o) c

/-- A member becomes MISSING (06 R187): its reads become stand-in reads, open stripes complete
without it, its group degrades or, already DEGRADED, fails. A REBUILDING member returns its group
to DEGRADED. -/
def Chip.memberMissing (c : Chip) (n : Nat) : Chip :=
  let g := n / 9; let m := n % 9
  let was : ChState := (c.chan n).state
  if was != .member && was != .rebuilding && was != .removing then c
  else
    let c := c.reissueReads n
    let c := (c.onChan n fun x => { x with busy := [], reads := [], retraining := false, tokensDue := 0, wearDue := [] }).setChan n .missing
    let c := c.onCache fun k => { k with wb := k.wb.map (fun o => if o.group = g then { o with todo := o.todo.filter (· != m) } else o) }
    let c := if decide (was = .rebuilding) then c.dropOps g .rebuild else c
    let c := c.endEmptied g
    if was = .removing then c
    else
      let c : Chip := match (c.group g).base with
        | .healthy => (c.degrade g m).newEpoch g none
        | .rebuilding =>
          if was = .rebuilding then (c.degrade g m).newEpoch g none
          else (c.setGroup g .failed).newEpoch g none
        | .degraded => (c.setGroup g .failed).newEpoch g none
        | _ => c
      c.keepRetraining g

end Sys2Proof.Machine
end

