-- ==== Sys2Proof/Machine/Handover.lean ====
section
/-! DEFINITION. A change of home without a copy of data: the frames that change role, the cross-chip
switch of a segment and the planned handover's wait (08 R229; 09 R264, R268). -/

namespace Sys2Proof.Machine

/-- A reel drops its hold on the frames of its window: they become the first candidates for
eviction (02 R69). The other chip drops it for a segment with its home there. -/
def Chip.dropHolds (c : Chip) (segs : List Nat) : Chip :=
  segs.foldl (fun c seg => if !c.homeHere seg then c.sendTwin (.tableUpdate (.reelHold seg false)) else match c.lookup seg with
    | some f => if (c.frame f).holds = 0 then c else
        c.onFrame f fun x => { x with holds := x.holds - 1, age := if x.holds = 1 then 3 else x.age }
    | none => c) c

/-- First twin segment of an object. -/
def objFirst (o : Obj) : Nat := 512 * o.base
/-- Segments of an object. -/
def objSegs (o : Obj) : Nat := 512 * o.granules

/-- Twin segment of a position of a reel (02 R69). -/
def Chip.reelSeg (c : Chip) (r : Reel) (k : Nat) : Nat :=
  objFirst ((c.obj.table.find r.obj).getD {}) + r.start + k * r.stride

/-- The reel's minimum cursor (02 R69). -/
def Reel.minCursor (r : Reel) : Nat :=
  r.readers.foldl (fun m x => min m x.cursor) ((r.readers.map (·.cursor)).foldl max 0)

/-- The positions of the reel's window (02 R69). -/
def Reel.windowPos (r : Reel) : List Nat :=
  ((List.range r.window).map (· + r.minCursor)).filter (fun k => decide (k < r.count))

/-- The open reel with an identifier. -/
def Chip.reel (c : Chip) (id : Nat) : Option Reel := c.obj.reels.find? (fun r => decide (r.id = id))

/-- Change an open reel. -/
def Chip.onReel (c : Chip) (id : Nat) (f : Reel → Reel) : Chip :=
  c.onObj fun o => { o with reels := o.reels.map (fun r => if r.id = id then f r else r) }

/-- Close a reel (02 R72). -/
def Chip.closeReel (c : Chip) (id : Nat) : Chip :=
  match c.reel id with
  | none => c
  | some r => (c.dropHolds (r.held.map (c.reelSeg r))).onObj fun o => { o with reels := o.reels.filter (fun x => x.id != id) }

/-- Close the reels that fit. -/
def Chip.closeReels (c : Chip) (p : Reel → Bool) : Chip :=
  (c.obj.reels.filter p).foldl (fun c r => c.closeReel r.id) c

/-- Set the route map bit of a granule: the position of its home (02 R51). -/
def Chip.setRoute (c : Chip) (gran : Nat) (home : Bool) : Chip :=
  (c.onMed fun m => { m with routeMap := m.routeMap.putD gran home (granHalf gran) }).tableChanged

/-- This chip's mirror-held frame of a segment becomes its local frame (08 R229, 09 R264). -/
def Chip.becomeLocal (c : Chip) (seg : Nat) : Chip :=
  match c.mirrorHeld seg with
  | some f => c.onFrame f fun x => { x with role := .detached, second := false, peer := none }
  | none => c

/-- This chip's local frames of a segment become its mirror-held frame; clean frames are freed
(08 R229 step 6, 09 R268). -/
def Chip.becomeHeld (c : Chip) (seg : Nat) : Chip :=
  let fs := (c.cache.frames.filter (fun p => decide (p.2.seg = seg ∧ p.2.role ≠ .mirrorHeld ∧ p.2.kind ≠ .scratch ∧ p.2.kind ≠ .free))).map Prod.fst
  match fs.find? (fun f => decide ((c.frame f).dirty ≠ 0)) with
  | none => fs.foldl (fun c f => c.freeFrame f) c
  | some f =>
    let c := (fs.filter (· != f)).foldl (fun c g => c.freeFrame g) c
    if (c.frame f).kind = .pin then
      match c.takeFrame none with
      | none => c
      | some g =>
        let x := c.frame f
        let c := ((c.choose).copySectors f g x.dirty).setFrame g
          { seg := seg, kind := .outside, role := .mirrorHeld, age := 2, valid := x.dirty, dirty := x.dirty, wb := x.wb, dirtyAt := x.dirtyAt }
        c.freeFrame f
    else c.onFrame f fun x => { x with kind := .outside, role := .mirrorHeld, valid := x.dirty, pending := 0, holds := 0, peer := none, second := false }

/-- The lines of a segment that a MOVE_HANDOVER carries: its dirty lines, and the whole PIN frame of
a pinned segment (08 R229 step 4, R235). -/
def Chip.carried (c : Chip) (seg : Nat) : BitVec 64 :=
  (c.cache.frames.filter (fun p => decide (p.2.seg = seg ∧ p.2.kind ≠ .pinFree ∧ p.2.kind ≠ .scratch))).foldl
    (fun m p => m ||| p.2.dirty ||| (if p.2.kind = .pin then p.2.valid else 0)) 0

/-- The lines of a segment in a mask, as this chip holds them. -/
def Chip.linesOf (c : Chip) (seg : Nat) (m : BitVec 64) : List (Nat × Stored) :=
  ((List.range 64).filter (fun n => m.getLsbD n)).map fun n =>
    (n, match c.held (64 * seg + n) with
      | some (_, v) => v
      | none => match c.bestCopy (64 * seg + n) with
        | some f => c.sector f n
        | none => {})

/-- The poison marks of a list of lines, as a mask. -/
def poisonMask (l : List (Nat × Stored)) : BitVec 64 := l.foldl (fun m p => if p.2.poison then setBit m p.1 else m) 0

/-- Change an open granule move. -/
def Chip.onGran (c : Chip) (gran : Nat) (f : OpenGran → OpenGran) : Chip :=
  c.onDolly fun d => { d with opened := d.opened.map (fun o => if o.gran = gran then f o else o) }

/-- Set the stage of a segment of an open granule. -/
def Chip.setStage (c : Chip) (seg : Nat) (s : SegStage) : Chip :=
  c.onGran (segGran seg) fun o => { o with segs := o.segs.put (seg % 512) s }

/-- Step 4 at S: the segment's home becomes T, and MOVE_HANDOVER goes out with its written bitmap
and, but for a home swap, its dirty lines (08 R229). S keeps its dirty copies. -/
def Chip.sendHandover (c : Chip) (seg : Nat) : Chip :=
  match c.openGran (segGran seg) with
  | none => c
  | some o =>
    let m := if o.kind = .swap then 0 else c.carried seg
    let ls := c.linesOf seg m
    let msg := TwinBody.moveHandover (c.written seg) (if o.kind = .swap then 0 else c.segDirty seg) (poisonMask ls) (ls.map (fun p => (p.1, p.2.data)))
    let c := c.onGran o.gran fun x =>
      { x with segs := x.segs.put (seg % 512) .switched, prep := x.prep.erase (seg % 512), waiting := x.waiting.filter (fun w => w.1 != seg % 512) }
    (c.sendTwin msg (64 * seg) 0 0 false true).bump 0x2040 6

/-- The forwarded requests for a segment inside this chip. -/
def Chip.forwardedIn (c : Chip) (seg : Nat) : Nat := c.twin.fwdIn.countP (fun p => decide (lineSeg p.2.line = seg))

/-- Hand over the segments whose counted forwarded requests have completed (08 R229 step 3). -/
def Chip.settleMoves (c : Chip) : Chip :=
  let due := c.dolly.opened.flatMap (fun o =>
    if o.isTarget then [] else (o.waiting.filter (fun w => decide (c.forwardedIn (512 * o.gran + w.1) = 0))).map (fun w => 512 * o.gran + w.1))
  due.foldl (fun c s => c.sendHandover s) c

/-- The mirrored objects whose homes this chip hands over: those it owns (09 R267), or of them the
adopted ones alone (09 R271). -/
def Chip.handsOver (c : Chip) (id : Nat) (o : Obj) : Bool :=
  o.mirror && c.owns id o && decide (o.state = .active) && (o.adopted || !c.twin.handBack)

/-- The objects handed over. -/
def Chip.handedObjs (c : Chip) : List (Nat × Obj) := c.obj.table.filter (fun p => c.handsOver p.1 p.2)

/-- The line lies in an object being handed over (09 R268). -/
def Chip.inHandover (c : Chip) (line : Nat) : Bool :=
  match c.objAt line with
  | some (i, o) => c.handsOver i o && c.homeHere (lineSeg line)
  | none => false

/-- Ownership of an object leaves this chip (09 R268). -/
def Chip.giveObj (c : Chip) (id : Nat) : Chip :=
  (c.onObj fun x => { x with table := x.table.map (fun p => if p.1 = id then
    (p.1, if bit id 20 = c.twin.position then { p.2 with handedOver := true } else { p.2 with adopted := false }) else p) }).tableChanged

/-- Ownership of an object comes to this chip (09 R264, R268, R271). -/
def Chip.adoptObj (c : Chip) (id : Nat) : Chip :=
  (c.onObj fun x => { x with table := x.table.map (fun p => if p.1 = id then
    (p.1, if bit id 20 = c.twin.position then { p.2 with handedOver := false } else { p.2 with adopted := true }) else p) }).tableChanged

/-- The segments of an object of which this chip holds a frame. -/
def Chip.framedSegs (c : Chip) (o : Obj) : List Nat :=
  ((c.cache.frames.map (fun p => p.2.seg)).filter (fun s => decide (512 * o.base ≤ s ∧ s < 512 * (o.base + o.granules)))).eraseDups

/-- The granules of an object of which this chip holds a copy. -/
def Chip.heldGrans (c : Chip) (o : Obj) : List Nat :=
  (c.med.slots.map Prod.fst).filter (fun g => decide (o.base ≤ g ∧ g < o.base + o.granules))

/-- Split the records of a poison list into those of an object's lines and the rest. -/
def poisonOf (o : Obj) (l : List Poison) : List Poison × List Poison :=
  l.partition (fun q => decide (o.base ≤ lineGran q.line ∧ lineGran q.line < o.base + o.granules))

/-- The poison shadow of an object becomes this chip's list (09 R264 step 5). -/
def Chip.activateShadow (c : Chip) (o : Obj) : Chip :=
  let p := poisonOf o c.integ.shadow
  let c := c.onInteg fun i => { i with shadow := p.2 }
  p.1.foldl (fun c q => (List.range q.len).foldl (fun c n => c.listPoison (q.line + n) q.src) c) c

/-- This chip's records of an object become the shadow of the partner's (09 R268). -/
def Chip.shadowOf (c : Chip) (o : Obj) : Chip :=
  c.onInteg fun i =>
    let p := poisonOf o i.poison
    { i with poison := p.2, shadow := p.1.foldl insertPoison i.shadow }

/-- X's half of the installation: the homes of its mirrored objects become Y's, with their ownership
and their poison records; their reels close (09 R268). -/
def Chip.giveHomes (c : Chip) : Chip :=
  c.handedObjs.foldl (fun c p =>
    let c := c.closeReels (fun r => decide (r.obj = p.1))
    let c := (c.framedSegs p.2).foldl (fun c s => c.becomeHeld s) c
    let c := (c.heldGrans p.2).foldl (fun c g => c.setRoute g (!c.twin.position)) c
    ((c.giveObj p.1).shadowOf p.2).sendTwin (.tableUpdate (.owner p.1 (!c.twin.position)))) c

/-- X sends HANDOVER_STATE once Y parks, its admitted mirrored writes are committed and the counted
forwarded requests complete (Table 09-9). -/
def Chip.settleHand (c : Chip) : Chip :=
  if c.twin.hand != .parked || !c.twin.mirror.isEmpty || c.twin.fwdIn.any (fun p => c.inHandover p.2.line) ||
     (c.cache.mergeQ ++ c.hbm.heldForFence).any (fun r => c.inHandover r.line) ||
     c.cache.creditQ.any (fun w => match w with | .home r => c.inHandover r.line | .mirror _ => false) then c
  else
    let c := c.giveHomes
    let c := c.sendTwin (.handoverState (c.twin.epoch + 1))
    (c.onTwin fun t => { t with hand := .installing, epoch := t.epoch + 1 }).pairRecord

/-- What waits for requests to complete goes on: cross-chip switches and a planned handover. -/
def Chip.settleTwin (c : Chip) : Chip := c.settleMoves.settleHand

end Sys2Proof.Machine
end

