-- ==== Sys2Proof/Machine/WriteBack.lean ====
section
/-! DEFINITION. Fills, eviction, write-back and way locks (04 R112 to R130) and the mirror
receive buffer's panic signal (05 R142). -/

namespace Sys2Proof.Machine

/-- FILL_COMPLETE: the data of a fill arrives (04 R112, R113). -/
def execFillComplete (line : Nat) (s : State) : Host.Outcome State Fault Refusal :=
  s.onChip fun c => (c.fillDone line).settle.settleTwin

/-- A segment of the object is under the move protocol: an open granule move, or a pin or unpin move (04 R133). -/
def Chip.isMoving (c : Chip) (id : Nat) (o : Obj) : Bool :=
  c.dolly.opened.any (fun g => decide (g.obj = id)) ||
    c.dolly.pins.any (fun p => decide (objFirst o ≤ p.seg ∧ p.seg < objFirst o + objSegs o))

/-- DESCRIPTOR_MISS_DONE: the descriptor replaces the least recently used of 48. One miss is outstanding, the first;
the others wait for it (04 R133). -/
def execDescriptorMissDone (obj : Nat) (s : State) : Host.Outcome State Fault Refusal :=
  s.onChip fun c =>
    if c.cache.descMiss.head? ≠ some obj then c
    else
      let c := c.onCache fun k => { k with descMiss := k.descMiss.drop 1 }
      match c.obj.table.find obj with
      | some o => c.onCache fun k =>
          { k with descs := ({ obj := obj, desc := o, moving := c.isMoving obj o } :: k.descs.filter (fun d => d.obj != obj)).take 48 }
      | none => c

/-- BACKGROUND_EVICT: a CLEAN frame that no reel holds starts eviction while its pseudo-channel
has fewer than 8,192 FREE frames (04 R114). -/
def execBackgroundEvict (frame : Nat) (s : State) : Host.Outcome State Fault Refusal :=
  s.onChip fun c =>
    if (c.frame frame).kind = .clean && (c.frame frame).holds = 0 && c.freeAt (frameIndex frame) < 8192 then
      c.onFrame frame fun x => { x with kind := .evicting }
    else c

/-- EVICT_COMMIT: an EVICTING frame to which no request refers becomes FREE (04 R114). -/
def execEvictCommit (frame : Nat) (s : State) : Host.Outcome State Fault Refusal :=
  s.onChip fun c =>
    if (c.frame frame).kind = .evicting && !c.frameInUse frame then c.freeFrame frame else c

/-- The twin lines of a stripe, with their line keys: two segments of 64 lines (06 R162). -/
def Chip.stripeLines (c : Chip) (g stripe : Nat) : List (Nat × Nat) :=
  let p : Slot := { group := g, slot := stripe / 256 }
  match c.slotGran p with
  | none => []
  | some gr =>
    (List.range 128).map fun i =>
      let seg := 512 * gr + 2 * (stripe % 256) + i / 64
      (64 * seg + i % 64, medKey p seg (i % 64))

/-- The dolly holds the segment CLAIMED or COPIED; a wrap takes its lines all the same (08 R226). -/
def Chip.dollyHolds (c : Chip) (seg : Nat) : Bool :=
  !c.wrapping && (match c.openGran (segGran seg) with
    | some o => decide (o.stage seg = some .claimed ∨ o.stage seg = some .copied)
    | none => false)

/-- The line may be snapshot: dirty on this chip, in no snapshot, with no merge outstanding, its
segment not in the dolly's hands (04 R113, R128; 08 R226). -/
def Chip.snapshotable (c : Chip) (line : Nat) : Bool :=
  c.lineDirty line && !c.merging line && !c.dollyHolds (lineSeg line) &&
    !(c.copies line).any (fun f => (c.frame f).wb.getLsbD (lineSector line))

/-- The dirty lines of a stripe that write-back may take. -/
def Chip.stripeDirty (c : Chip) (g stripe : Nat) : List (Nat × Nat) :=
  (c.stripeLines g stripe).filter (fun p => c.snapshotable p.1)

/-- Lines of the stripe held in HBM, dirty or valid and clean (04 R127); a line is whole only once its merge has ended
(04 R113). -/
def Chip.stripeHeld (c : Chip) (g stripe : Nat) : Nat :=
  (c.stripeLines g stripe).countP (fun p => ((c.held p.1).isSome || c.lineDirty p.1) && !c.merging p.1)

/-- Time since when the stripe's oldest dirty line is dirty, ns. -/
def Chip.stripeOldest (c : Chip) (g stripe : Nat) : Nat :=
  (c.stripeDirty g stripe).foldl (fun t p =>
    (c.copies p.1).foldl (fun t f => min t ((c.frame f).dirtyAt.getD (lineSector p.1) c.now)) t) c.now

/-- Dirty lines in the frame of the stripe that holds the fewest (04 R126 item 2). -/
def Chip.fewestDirty (c : Chip) (g stripe : Nat) : Nat :=
  (c.stripeDirty g stripe).foldl (fun n p => (c.copies p.1).foldl (fun n f => min n (popCount (c.frame f).dirty)) n) 64

/-- The commands that wait for lines to be written back: MOVE, EVICT and a change of KEY_TAG (04 R126 item 3). -/
def CmdEntry.wantsLines (e : CmdEntry) : Bool :=
  opcodeOf e = 0x10 || opcodeOf e = 0x14 || (opcodeOf e = 0x03 && bit (flagsOf e) 1)

/-- A move waits for lines of the segment: its granule is open or waits to open, by a command, by a rekey of the
partner's or by an evacuation. -/
def Chip.moveWaits (c : Chip) (seg : Nat) : Bool :=
  let moves (k : MoveKind) : Bool := decide (k ≠ .mirrorBuild)
  c.dolly.opened.any (fun o => decide (o.gran = segGran seg) && moves o.kind && !o.isTarget && !o.switched seg) ||
    c.dolly.queue.any (fun q => decide (q.gran = segGran seg) && moves q.kind) ||
    c.dolly.evac.any (fun v => v.left.contains (segGran seg))

/-- Lines of the stripe are waited for (04 R126 item 3): by a MOVE, EVICT or KEY_TAG change whose range holds them or
by a move; or they are held once (09 R266). -/
def Chip.stripeWanted (c : Chip) (g stripe : Nat) : Bool :=
  (c.stripeDirty g stripe).any (fun p =>
    (c.copies p.1).any (fun f => (c.frame f).once) || c.moveWaits (lineSeg p.1) ||
    c.obj.cmds.any (fun r => r.result.isNone && CmdEntry.wantsLines r.entry && decide (r.first ≤ lineSeg p.1 ∧ lineSeg p.1 < r.first + r.count)))

/-- Rank of a stripe in the order of 04 R126, lower first: class, then the preference within it
(full stripes and older lines; under SQUALL_STATE 3 the frame with the fewest dirty lines). `none`: no item of
the order takes it. -/
def Chip.wbRank (c : Chip) (g stripe : Nat) : Option (Nat × Nat) :=
  let n := (c.stripeDirty g stripe).length
  let full := decide (c.stripeHeld g stripe = 128)
  let old := c.stripeOldest g stripe
  if n = 0 then none
  else if c.wrap.state = 1 || c.wrap.state = 2 then some (1, 0)
  else if c.cache.squall = 3 then some (2, c.fewestDirty g stripe)
  else if c.cache.squall ≠ 0 then some (if full then 2 else 3, old)
  else if c.stripeWanted g stripe then some (4, 0)
  else if full then some (5, 0)
  else if c.wbAgeMax < c.now - old then some (6, 0)
  else if c.wbStart * c.cache.budget ≤ 100 * c.dirtyTotal then some (7, old)
  else none

/-- The stripes of a group that hold dirty lines of this chip. -/
def Chip.dirtyStripes (c : Chip) (g : Nat) : List Nat :=
  (c.dirtyMaps.filterMap (fun p =>
    match c.homeSlot p.1 with
    | some q => if q.group = g then some (stripeOf q.slot (p.1 % 512)) else none
    | none => none)).eraseDups

/-- Rank order. -/
def rankLe (a b : Nat × Nat) : Bool := decide (a.1 < b.1) || (decide (a.1 = b.1) && decide (a.2 ≤ b.2))

/-- The stripe comes first in the order of 04 R126 among its group's. -/
def Chip.wbFirst (c : Chip) (g stripe : Nat) : Bool :=
  match c.wbRank g stripe with
  | none => false
  | some r => (c.dirtyStripes g).all (fun t => match c.wbRank g t with | none => true | some q => rankLe r q)

/-- The newest value of a line for the assembly area: from its dirty frame, from a clean frame,
from the medium, or zeros where it was never written. -/
def Chip.assemblyValue (c : Chip) (line : Nat) : Stored :=
  match c.bestCopy line with
  | some f => c.sector f (lineSector line)
  | none => match c.held line with
    | some (_, v) => v
    | none => if c.lineWritten line then c.mediumLine line else {}

/-- A line as it is enciphered for the medium: a poisoned line stores zeros (07 R203). -/
def Chip.encipher (c : Chip) (line : Nat) (v : Stored) : MedLine :=
  { data := if v.poison then 0 else v.data, key := c.segKeyId (lineSeg line), poison := v.poison }

/-- Set the WB bit of a line in every frame that holds it (04 R128 step 1). -/
def Chip.markWb (c : Chip) (line : Nat) : Chip :=
  (c.copies line).foldl (fun c f => c.onFrame f fun x => { x with wb := setBit x.wb (lineSector line) }) c

/-- A line is read from its best copy in HBM, if it is held here at all. -/
def Chip.readCopy (c : Chip) (line : Nat) (t : HbmTraffic) : Chip :=
  match c.bestCopy line with
  | some f => c.readFrame f (lineSector line) t
  | none => c

/-- The source slot's stripe for a segment that has switched but whose granule is open: it is
programmed as well (08 R232). -/
def Chip.sourceLines (c : Chip) (lines : List (Nat × MedLine)) (twin : List Nat) : List (Nat × Nat × MedLine) :=
  (twin.zip lines).filterMap fun q =>
    match c.openGran (lineGran q.1) with
    | some o =>
      if o.switched (lineSeg q.1) && o.dst.isSome && decide (o.kind = .medium ∨ o.kind = .rekey) then
        let old := match c.objAtGran o.gran with
          | some (_, x) => (match x.oldKeyTag with | some t => c.keyOf t | none => q.2.2.key)
          | none => q.2.2.key
        some (q.1, medKey o.src (lineSeg q.1) (lineSector q.1), { q.2.2 with key := old })
      else none
    | none => none

/-- WRITE_BACK_START: the first stripe in the order of R126 is snapshot and handed to the write
scheduler; full where every line is held, or where the device fills the rest from the medium with
at least 75 % held (04 R126 to R128). -/
def execWriteBackStart (group : GroupNo) (stripe : Nat) (fill : Bool) (s : State) : Host.Outcome State Fault Refusal :=
  s.onChip fun c =>
    let g := group.val
    if c.wbFirst g stripe && ((c.group g).state).permits .partialStripe then
      let dirty := c.stripeDirty g stripe
      let heldN := c.stripeHeld g stripe
      let full := decide (heldN = 128) || (fill && decide (96 ≤ heldN) && (c.stripeLines g stripe).all (fun p => !c.merging p.1))
      let take := if full then c.stripeLines g stripe else dirty
      let lines := take.map (fun p => (p.2, c.encipher p.1 (c.assemblyValue p.1)))
      let src := c.sourceLines lines (take.map Prod.fst)
      let c' := dirty.foldl (fun c p => (c.markWb p.1).readCopy p.1 .snapshotRead) c
      let c' := c'.newOp g stripe (if full then .fullStripe else .partialStripe) full lines (dirty.map Prod.fst)
      let rest := (take.filter (fun p => (c.held p.1).isNone && !c.lineDirty p.1 && c.lineWritten p.1)).map (fun p => dataUnit (p.2 / 64) (p.2 % 64))
      let c' := if full then c'.onOp c.cache.nextOp fun o => { o with units := rest.eraseDups } else c'
      let c' := if full then c'.bump 0x3012 3 8192 else c'.bump 0x3012 4 (64 * dirty.length)
      match src with
      | [] => c'
      | (_, k, _) :: _ =>
        c'.newOp (keyGroup k) (keyStripe k) .partialStripe false (src.map Prod.snd) (src.map Prod.fst)
    else c

/-- Release one line: DIRTY and WB cleared in every copy of it whose WB bit is still set
(04 R128 step 4). -/
def Chip.releaseLine (c : Chip) (line : Nat) : Chip :=
  let n := lineSector line
  (c.copies line).foldl (fun c f =>
    if (c.frame f).wb.getLsbD n then c.onFrame f fun x => { x with dirty := clearBit x.dirty n, wb := clearBit x.wb n, dirtyAt := x.dirtyAt.del n }
    else c) c

/-- Return the frames whose DIRTY field has become zero: OUTSIDE frames to FREE, a primary to
CLEAN, or evicted at once for a bypass object (04 R115, R128). -/
def Chip.releaseFrames (c : Chip) (seg : Nat) : Chip :=
  let mine := (c.cache.frames.filter (fun p => decide (p.2.seg = seg ∧ p.2.dirty = 0))).map Prod.fst
  let bypass := match c.objAt (64 * seg) with | some (_, o) => o.bypass | none => false
  mine.foldl (fun c f => match (c.frame f).kind with
    | .outside => c.freeFrame f
    | .dirty => if bypass then c.freeFrame f else c.onFrame f fun x => { x with kind := .clean, peer := none, once := false }
    | .pin => c.onFrame f fun x => { x with peer := none }
    | _ => c) c

/-- The lines of a stripe of a slot being materialised: every line with a clear written bit is taken as zeros (06 R199). -/
def Chip.matLines (c : Chip) (g stripe : Nat) : List (Nat × MedLine) :=
  (c.stripeLines g stripe).map fun p =>
    (p.2, c.encipher p.1 (if c.lineWritten p.1 || c.lineDirty p.1 then c.assemblyValue p.1 else {}))

/-- A materialised stripe is released: the bits of its zero lines that are still clear are set; with the last stripe the slot is
0b01 and its block free, or mixed again where a command has cleared bits meanwhile (06 R199). -/
def Chip.matRelease (c : Chip) (o : WbOp) : Chip :=
  let k := 2 ^ 25 * o.group + o.stripe / 256
  let zeros := o.lines.filter (fun l => decide (l.2.data = 0) && !l.2.poison)
  let keys := (zeros.map (fun l => l.1 / 64)).eraseDups
  let c := keys.foldl (fun (c : Chip) q => c.setMap q (zeros.foldl (fun m l => if l.1 / 64 = q then setBit m (l.1 % 64) else m) (c.med.map.getD q 0))) c
  let more := c.cache.wb.any (fun x => x.mat && decide (x.id ≠ o.id ∧ x.group = o.group ∧ x.stripe / 256 = o.stripe / 256))
  let c := c.mapWrite k
  if more then c
  else if (c.med.mixed.find k).isNone then c.bump 0x4130 2
  else c.onMed fun d => { d with mixed := d.mixed.upd k {} fun x => { x with filling := false } }

/-- WRITE_BACK_RELEASE: the lines of a finished stripe whose bits stand in the medium copy of the written map (06 R197) and
whose WB bit is still set leave the dirty
total and their frames; squall credits accrue, waiting writes are served, squall mode is left when
its exit thresholds are met (04 R123, R124, R128). -/
def execWriteBackRelease (op : Nat) (s : State) : Host.Outcome State Fault Refusal :=
  s.onChip fun c =>
    match c.op op with
    | some o =>
      if o.finished && c.bitsOnMedium o then
        let free := o.release.filter (fun l =>
          !c.cache.wb.any (fun x => x.id != op && !x.finished && x.release.contains l))
        let c' := free.foldl (fun c l => c.releaseLine l) c
        let c' := ((free.map lineSeg).eraseDups).foldl (fun c seg => c.releaseFrames seg) c'
        let c' := (if o.mat then c'.matRelease o else c').dropOp op
        let lines := (c.dirtyTotal - c'.dirtyTotal) / 64
        let frames := c.windowUse - c'.windowUse
        let c' := if c.cache.squall = 0 then c' else c'.onCache fun k =>
          { k with byteHalves := k.byteHalves + lines, frameHalves := k.frameHalves + frames }
        c'.settle.settleTwin
      else c
    | none => c

/-- Frames of a way, as listed. -/
def Chip.framesOfWay (c : Chip) (w : Nat) : List Nat :=
  (c.cache.frames.map Prod.fst).filter (fun f => decide (frameWay f = w))

/-- Vacate one frame of a way to be locked (04 R130): CLEAN frames are evicted, OUTSIDE frames
are copied to a FREE frame, DIRTY frames to another way of their set or into a detached pair; a shadow that then shares
the pseudo-channel is first copied to another. -/
def Chip.vacate (c : Chip) (f : Nat) : Chip :=
  let fr := c.frame f
  match fr.kind with
  | .clean | .evicting => c.evictFrame f
  | .outside =>
    match c.takeFrame fr.peer with
    | some g => c.choose.moveFrame f g
    | none => c
  | .dirty =>
    match c.allocate fr.seg .dirty with
    | (some g, c) => (c.partShadow f g).moveFrame f g
    | (none, c) =>
      match c.takeFrame fr.peer with
      | some g =>
        let c := c.choose.moveFrame f g
        let c := c.onFrame g fun x => { x with kind := .outside, role := .detached, second := false }
        (match fr.peer with
          | some p => c.onFrame p fun x => { x with role := .detached, second := true }
          | none => c)
      | none => c
  | _ => c

/-- Scratch that a committed HDM decoder of any head maps, in lines (04 R130). -/
def Chip.scratchMapped (c : Chip) : Nat :=
  (List.finRange 6).foldl (fun n h =>
    (c.head h).hdm.toList.foldl (fun n d =>
      if d.committed && decide (scratchBase ≤ d.dpa.toNat / 64) then max n ((d.dpa.toNat + d.size.toNat) / 64 - scratchBase) else n) n) 0

/-- A change of the locked ways is refused with STATE_CONFLICT (04 R130). -/
def Chip.wayConflict (c : Chip) (scratch pin : Nat) : Bool :=
  decide (4 < scratch + pin) || c.cache.wayChange.isSome ||
    decide (scratch < c.cache.waysScratch ∧ scratch * scratchWayLines < c.scratchMapped) ||
    (List.range 4).any (fun j => decide (pin ≤ j ∧ j < c.cache.waysPin) &&
      c.cache.frames.any (fun p => decide (frameWay p.1 = 12 + j ∧ p.2.kind = .pin)))

/-- Start a change of the locked ways: the new window capacity counts at once for squall mode (04 R130). -/
def Chip.startWays (c : Chip) (scratch pin : Nat) : Chip :=
  (c.onCache fun k => { k with wayChange := some { scratch := scratch, pin := pin } }).evalSquall

/-- Way `x` is locked under `d`, the ways locked as scratch and as pin pool (04 R129). -/
def wayLocked (d : Nat × Nat) (x : Nat) : Bool := decide (16 ≤ x + d.1) || decide (12 ≤ x ∧ x < 12 + d.2)

/-- Ways that a change newly locks. -/
def newlyLocked (old new : Nat × Nat) : List Nat := (List.range 16).filter (fun x => wayLocked new x && !wayLocked old x)

/-- WAY_CHANGE_DONE: once the window fits the new capacity and no request refers to a CLEAN frame to be evicted, the
newly locked ways are vacated, unlocked ways return FREE, and a scratch change raises its Memory Module record and
rebuilds the CDAT (04 R130, 03 R86, R87). -/
def execWayChangeDone (s : State) : Host.Outcome State Fault Refusal :=
  s.onChip fun c =>
    match c.cache.wayChange with
    | none => c
    | some w =>
      let cap := (16 - w.scratch - w.pin) * 196608 - c.reelLimit
      let old := (c.cache.waysScratch, c.cache.waysPin)
      let new := (w.scratch, w.pin)
      let goes := newlyLocked old new
      let inUse (f : Nat) : Bool := decide ((c.frame f).kind = .clean ∨ (c.frame f).kind = .evicting) && c.frameInUse f
      if cap < c.windowUse || goes.any (fun x => (c.framesOfWay x).any inUse) then c
      else
        let comes := (List.range 16).filter (fun x => wayLocked old x && decide (wayLocked new x = false ∨
          (16 ≤ x + old.1 ∧ x + new.1 < 16) ∨ (x + old.1 < 16 ∧ 16 ≤ x + new.1)))
        let c := c.onCache fun k => { k with waysScratch := w.scratch, waysPin := w.pin, wayChange := none }
        let c := goes.foldl (fun c x => (c.framesOfWay x).foldl (fun c f => c.vacate f) c) c
        let c := c.onCache fun k =>
          { k with frames := k.frames.filter (fun p => !comes.contains (frameWay p.1)),
                   lines := k.lines.filter (fun p => !comes.contains (frameWay (p.1 / 64))) }
        let c := if old.1 = w.scratch then c
          else (c.record .informational (.memModule 2 (w.scratch * 805306368))).onBoot fun b =>
            { b with cdatSeq := b.cdatSeq + 1, cdatScratch := w.scratch }
        c.settle

end Sys2Proof.Machine
end

