-- ==== Sys2Proof/Machine/GmiRows.lean ====
section
/-! DEFINITION. The commands of the medium: reads, programs and their tokens, presence and
training of modules, group states, drift and scrub (06 R165 to R199, 07 R205 to R217). -/

namespace Sys2Proof.Machine

/-- MEDIUM_READ_DISPATCH (06 R170 to R172). -/
def execMediumReadDispatch (line : Nat) (s : State) : Host.Outcome State Fault Refusal :=
  s.onChip fun c => c.dispatch line

/-- MEDIUM_LINE_RETURNED: the bursts of a read, one outcome for each member read (06 R171, R183; 07 R205, R209). -/
def execMediumLineReturned (line : Nat) (outs : Vector LineOut 9) (s : State) : Host.Outcome State Fault Refusal :=
  s.onChip fun c => c.lineReturned line outs

/-- RECOVERY_ENTRY_WAIT: a waiting recovery takes an entry when fewer than 256 are in progress (07 R210). -/
def execRecoveryEntryWait (line : Nat) (s : State) : Host.Outcome State Fault Refusal :=
  s.onChip fun c =>
    match c.missOf line with
    | some m =>
      if 2 ≤ m.step && m.stage = .waiting && !m.recovering && c.recoveries < 256 then
        (c.onMiss line fun x => { x with recovering := true }).dispatch line
      else c
    | none => c

/-- The members that an operation programs, as the group stands now (06 R166, R177, R178; 07 R211). -/
def Chip.opMembers (c : Chip) (o : WbOp) : List Nat :=
  match o.cause with
  | .fullStripe | .initialisation => c.fullTodo o.group o.stripe
  | .driftRefresh | .scrubRewrite | .relocation | .rebuild => o.todo
  | .repair => if (c.repairsIn o.group o.stripe).isEmpty then o.todo else c.stripeTodo o.group o.stripe o.dataUnits
  | _ =>
    if o.mat then c.fullTodo o.group o.stripe
    else if o.dataUnits.isEmpty then [] else c.stripeTodo o.group o.stripe o.dataUnits

/-- The members whose units give the units of `ms`: themselves, or every other member of the stripe where one of them is
missing (06 R177). -/
def Chip.unitsFor (c : Chip) (o : WbOp) (ms : List Nat) : List Nat :=
  let here := c.programmable o.group o.stripe
  if ms.all here then ms else (List.range 9).filter here

/-- The members whose old units an operation reads (06 R166, R177, R178; 04 R127; 07 R211): of a whole stripe, the units with
lines that HBM does not hold; the unit itself for a rewrite; the other members for a rebuild; the eight data units for a repair;
the units to be changed and the parity for an update. -/
def Chip.oldUnits (c : Chip) (o : WbOp) : List Nat :=
  let u := stripeUnit o.stripe
  let changed := (List.range 9).filter (fun m => o.dataUnits.any (fun k => decide (dataMember u k = m)))
  match o.cause with
  | .initialisation | .relocation => []
  | .fullStripe => c.unitsFor o ((List.range 9).filter (fun m => o.units.any (fun k => decide (dataMember u k = m))))
  | .driftRefresh | .scrubRewrite => o.todo
  | .rebuild => (List.range 9).filter (fun m => !o.todo.contains m)
  | .repair => c.unitsFor o ((List.range 9).filter (fun m => m != parityMember u))
  | _ =>
    if o.mat then c.unitsFor o ((List.range 9).filter (fun m => o.units.any (fun k => decide (dataMember u k = m))))
    else if o.dataUnits.length = 8 then []
    else if changed.all (c.programmable o.group o.stripe) then
      (changed ++ [parityMember u]).filter (c.programmable o.group o.stripe)
    else c.unitsFor o changed

/-- What a READ_UNIT of an operation met in line `l` of a member's unit: a corrected line is counted on that unit; an
uncorrectable one is recovered within the reservation, and the operation waits for it (07 R205, R211). -/
def Chip.metOld (c : Chip) (o : WbOp) (m l : Nat) (out : Decode) : Chip :=
  let row := stripeRow o.stripe; let u := stripeUnit o.stripe
  let line := (c.unitLine o.group m row u l).getD (memberLine (memberChan o.group m) row u l)
  match out with
  | .ok => c
  | .corrected b => c.corrected (memberChan o.group m) row u b line
  | .uncorrectable => (c.detect line 6).onOp o.id fun x => { x with waits := x.waits ++ [line] }

/-- The snapshot of a stripe of a slot being materialised (06 R199): a full stripe, whose dirty lines are taken with it. -/
def Chip.matSnapshot (c : Chip) (o : WbOp) : WbOp :=
  let held (p : Nat × Nat) : Bool := (c.held p.1).isSome || c.lineDirty p.1 || !c.lineWritten p.1
  { o with lines := c.matLines o.group o.stripe, release := (c.stripeDirty o.group o.stripe).map Prod.fst,
           units := ((c.stripeLines o.group o.stripe).filter (fun p => !held p)).map (fun p => dataUnit (p.2 / 64) (p.2 % 64)) |>.eraseDups }

/-- STRIPE_UPDATE_START: a stripe operation obtains its row; its old units are read inside the
reservation (06 R166, R177). An operation with nothing left to program ends at once. `found`: the member, the line of the unit and the
outcome of each line that did not decode at once. -/
def execStripeUpdateStart (d : OldUnits) (s : State) : Host.Outcome State Fault Refusal :=
  s.onChip fun c =>
    match c.op d.op with
    | some o =>
      if !o.finished && c.mayReserve o then
        let o := if o.mat then c.matSnapshot o else c.payload o
        let o := { o with reserved := true, since := c.now, todo := c.opMembers o }
        let old := c.oldUnits o
        let c := c.onOp d.op fun _ => o
        let c := if o.mat then o.release.foldl (fun c l => (c.markWb l).readCopy l .snapshotRead) c else c
        if o.todo.isEmpty then c.finishOp o
        else
          let c := old.foldl (fun c m => c.gmi (memberChan o.group m) (.readUnit (stripeRow o.stripe) (stripeUnit o.stripe) 0)) c
          (d.found.filter (fun x => old.contains x.1.val)).foldl (fun c x => c.metOld o x.1.val x.2.1.val x.2.2) c
      else c
    | none => c

/-- Programs in flight on a channel, and on one of its dies (06 R159: 128 and 4). -/
def Chip.programRoom (c : Chip) (n row : Nat) : Bool :=
  decide ((c.chan n).busy.length < 128 ∧ (c.chan n).busy.countP (fun b => decide (rowDie b.part = rowDie row)) < 4)

/-- The recoveries that an operation waits for have ended (07 R211). -/
def Chip.waitsOver (c : Chip) (o : WbOp) : Bool :=
  o.waits.all (fun l => match c.missOf l with
    | some m => decide (m.stage = .returned)
    | none => true)

/-- The read of a line of the row needs member `m`, or a member that does not serve reads (06 R177). -/
def Chip.readNeeds (c : Chip) (g row m : Nat) (x : Miss) : Bool :=
  x.stage != .returned && x.stage != .fetching && (match c.linePlace x.line with
    | some p => decide (p.group = g ∧ p.row = row) &&
        (decide (p.member = m) || !c.memberReads g p.member row p.unit || x.stage = .standin)
    | none => false)

/-- The reads that a program of member `m` waits for (06 R168, R177): those issued to the partition; in a row that lacks a member,
also those that wait for the partition or the missing member, until the program has waited 2 us; else those queued for
the partition that no stand-in read can replace, being part of one. -/
def Chip.readsFirst (c : Chip) (o : WbOp) (m : Nat) : Bool :=
  let row := stripeRow o.stripe
  let mine := (c.chan (memberChan o.group m)).reads.filter (fun q => decide (q.part = row))
  let direct (q : ReadQ) : Bool := match c.missOf q.line with
    | some x => decide (x.stage = .queued ∧ x.step = 1)
    | none => true
  mine.any (·.issued) ||
    (if c.rowDegraded o.group row (stripeUnit o.stripe) then
       decide (c.now < o.since + 2000) && c.cache.misses.any (c.readNeeds o.group row m)
     else mine.any (fun q => !direct q))

/-- Convert the reads queued for a partition: each is dispatched again, as a stand-in read (06 R168, R171). -/
def Chip.convertReads (c : Chip) (n row : Nat) : Chip :=
  (((c.chan n).reads.filter (fun q => decide (q.part = row))).map (·.line)).eraseDups.foldl (fun c l =>
    (c.takeReads (n / 9) l).onMiss l fun x => { x with stage := .waiting }) c

/-- The lines that a PROGRAM writes (Table 06-8 MASK): of a repair those that failed, in the parity unit with each of them; else
the whole unit, which for a repair of the parity alone is its unit (16 R411). -/
def Chip.programMask (c : Chip) (o : WbOp) (m : Nat) : BitVec 16 :=
  if decide (o.cause = .repair) && !(c.repairsIn o.group o.stripe).isEmpty then
    (c.repairsIn o.group o.stripe).foldl (fun b p =>
      if p.member = m ∨ m = parityMember (stripeUnit o.stripe) then b ||| (1#16 <<< p.line) else b) 0
  else 0xFFFF

/-- Start the next program of an operation (06 R168): PROGRAM, or RELOCATE for a wear
relocation; the partition is busy until its token. -/
def Chip.startProgram (c : Chip) (o : WbOp) (member : Nat) : Chip :=
  let n := memberChan o.group member
  let row := stripeRow o.stripe; let u := stripeUnit o.stripe
  let c := c.convertReads n row
  let c := c.onChan n fun x =>
    { x with busy := x.busy ++ [{ part := row, unit := u, cause := o.cause, op := o.id }], tokensDue := x.tokensDue + 1 }
  c.gmi n (if o.cause = .relocation then .relocate row u else .program row u (c.programMask o member))

/-- PROGRAM_START: the next program of an operation that holds its row starts where its reads, the die,
module and group conditions hold; the row checker refuses and counts one that would break the
one-busy rule (06 R165, R168). -/
def execProgramStart (op : Nat) (s : State) : Host.Outcome State Fault Refusal :=
  s.onChip fun c =>
    match c.op op with
    | none => c
    | some o =>
      match o.todo with
      | [] => c
      | m :: _ =>
        let row := stripeRow o.stripe
        if !o.reserved then c
        else if c.rowBusy o.group row then
          if (List.range 9).any (fun k => (c.chan (memberChan o.group k)).busy.any
              (fun b => decide (b.part = row) && b.op != o.id)) then
            (c.bump 0x4020 2).onBoot fun b => { b with rowCheck := true }
          else c
        else if ((c.group o.group).state).permits o.cause && c.causeRuns o.cause && c.programRoom (memberChan o.group m) row &&
            c.waitsOver o && !c.readsFirst o m then
          c.startProgram o m
        else c

/-- A token ends the busy state of a partition. -/
def Chip.endBusy (c : Chip) (n row : Nat) : Chip :=
  c.onChan n fun x => { x with busy := x.busy.filter (fun b => b.part != row), tokensDue := x.tokensDue - 1 }

/-- A rebuild advances past a unit of a row, and an initialisation past a stripe (06 R178, R180). -/
def Chip.advanceCursor (c : Chip) (g m part : Nat) (b : Busy) : Chip :=
  match b.cause, (c.group g).base with
  | .rebuild, .rebuilding =>
    let c := c.onGroup g fun x => { x with rows := x.rows.put part (b.unit + 1) }
    if b.unit + 1 < 9175040 then c.unitOp g ((b.unit + 1) * 1024 + part) m .rebuild else c
  | .initialisation, .initialising =>
    if ((c.op b.op).map (·.finished)).getD true then
      let t := b.unit * 1024 + part + 1
      let c := c.onGroup g fun x => { x with cursor := t / 256 }
      if t < 2 ^ 33 then c.queueInit g t else c
    else c
  | _, _ => c

/-- PROGRAM_DONE: the partition is free, the unit stamped, the operation advances; a token with
WEAR makes the unit due for RELOCATE; a rebuild advances its cursor (06 R178, R184, R191). The program of a unit repairs its
lines in passing (07 R211). -/
def execProgramDone (ch : ChanNo) (part : Nat) (wear : Bool) (s : State) : Host.Outcome State Fault Refusal :=
  s.onChip fun c =>
    match c.busyAt ch.val part with
    | none => c
    | some b =>
      let m := ch.val % 9; let g := ch.val / 9
      let c := (c.endBusy ch.val part).stampUnit g m part b.unit b.cause
      let c := if b.cause = .repair then c else c.repairedUnit g m part b.unit
      let c := if wear then c.onChan ch.val fun x => { x with wearDue := x.wearDue ++ [(part, b.unit)] } else c
      let c := (c.advanceOp b.op m).advanceCursor g m part b
      match c.op b.op with
      | some o => if o.finished && o.release.isEmpty && !o.mat then c.dropOp b.op else c
      | none => c

/-- A module sets bits of its ERR_STATUS, and holds GMInn_ALERT_N low until it is cleared (06 R181, R186). -/
def Chip.raiseErr (c : Chip) (n : Nat) (e : BitVec 5) : Chip :=
  c.onChan n fun x => { x with module := { x.module with errStatus := x.module.errStatus ||| e }, alertN := decide (x.module.errStatus ||| e = 0) }

/-- PROGRAM_FAILED: the device reissues the PROGRAM once under the same reservation; a second
failure makes the module MISSING (06 R185). -/
def execProgramFailed (ch : ChanNo) (part : Nat) (s : State) : Host.Outcome State Fault Refusal :=
  s.onChip fun c =>
    match c.busyAt ch.val part with
    | none => c
    | some b =>
      if b.cause = .relocation then c
      else
        let c := c.raiseErr ch.val 4
        if b.retried then (c.endBusy ch.val part).memberMissing ch.val
        else
          let c := c.onChan ch.val fun x =>
            { x with busy := x.busy.map (fun y => if y.part = part then { y with retried := true } else y) }
          c.gmi ch.val (.program part b.unit (match c.op b.op with | some o => c.programMask o (ch.val % 9) | none => 0xFFFF))

/-- RELOCATE_DONE: a wear relocation ends (06 R191). -/
def execRelocateDone (ch : ChanNo) (part : Nat) (s : State) : Host.Outcome State Fault Refusal :=
  s.onChip fun c =>
    match c.busyAt ch.val part with
    | none => c
    | some b =>
      if b.cause = .relocation then
        let c := ((c.endBusy ch.val part).onOp b.op fun o => { o with finished := true, reserved := false, todo := [] }).dropOp b.op
        c.bump 0x4100 1
      else c

/-- The device reads a module's STATUS (06 R182, R186, R192): its registers, the life used and its alert; SPARES_LOW raises a
Warning record when it is first read. DESIGN CHOICE (notes/assumptions/106.md): bits found set in ERR_STATUS are then cleared by a
REG_WRITE of them. -/
def Chip.statusRead (c : Chip) (n : Nat) (st : StatusIn) : Chip :=
  let low := st.err.getLsbD 4 && !(c.chan n).errRead.getLsbD 4
  let c := (c.gmi n .status).onChan n fun x =>
    { x with module := { x.module with temp := st.temp, maxWear := st.wear, spares := st.spares, errStatus := 0 }, errRead := st.err, alertN := true }
  let c := if st.err = 0 then c else c.gmi n (.regWrite 0x30 (st.err.setWidth 32))
  let life := (c.chan n).module.lifeUsed
  let c := if c.integ.lifeWarn ≤ life then c.alert 0 .warning 3 life else c
  if low then c.vendorRecord .warning 0x0402 0x4002 (n + 1) else c

/-- The channel's module is reached over GMI: a present channel out of GMInn_RST_N (00 R3, 06 R181). -/
def Chip.gmiUp (c : Chip) (ch : ChanNo) : Bool := c.chanPresent ch && (c.chan ch.val).rstN

/-- TOKEN_ALERT: the device reads the module's status (06 R184). -/
def execTokenAlert (ch : ChanNo) (st : StatusIn) (s : State) : Host.Outcome State Fault Refusal :=
  s.onChip fun c => if c.gmiUp ch then (c.raiseErr ch.val st.err).statusRead ch.val st else c

/-- TOKEN_MISSING: no token in time, and the module becomes MISSING (06 R185, R187). -/
def execTokenMissing (ch : ChanNo) (part : Nat) (s : State) : Host.Outcome State Fault Refusal :=
  s.onChip fun c => if (c.busyAt ch.val part).isSome then c.memberMissing ch.val else c

/-- The CA parity errors of a channel within the last millisecond (06 R187). -/
def Chip.recentParErrs (c : Chip) (n : Nat) : List Nat := (c.chan n).caParErrs.filter (fun t => decide (c.now < t + 1000000))

/-- MODULE_ALERT: the device reads the status; on a CA parity error it reissues the command once; sixteen within 1 ms
make the member MISSING (06 R182, R187). -/
def execModuleAlert (ch : ChanNo) (st : StatusIn) (cmd : GmiOp) (s : State) : Host.Outcome State Fault Refusal :=
  s.onChip fun c =>
    if !c.gmiUp ch then c
    else
      let c := (c.raiseErr ch.val st.err).statusRead ch.val st
      if st.err.getLsbD 0 then
        let l := c.recentParErrs ch.val
        if 15 ≤ l.length then (c.onChan ch.val fun x => { x with caParErrs := [] }).memberMissing ch.val
        else (c.onChan ch.val fun x => { x with caParErrs := l ++ [c.now] }).gmi ch.val cmd
      else c

/-- READ_HEADER_MISSING: four reads in a row without a valid header beat make the member
MISSING; the read itself is reissued (06 R187). -/
def execReadHeaderMissing (ch : ChanNo) (line : Nat) (s : State) : Host.Outcome State Fault Refusal :=
  s.onChip fun c =>
    match (c.chan ch.val).reads.find? (fun q => q.line = line && q.issued) with
    | none => c
    | some q =>
      let n := (c.chan ch.val).noHeader + 1
      if 4 ≤ n then (c.onChan ch.val fun x => { x with noHeader := 0 }).memberMissing ch.val
      else (c.onChan ch.val fun x => { x with noHeader := n }).gmi ch.val (.readLine q.part q.unit q.index q.arg)

/-- MODULE_SEATED: MODnn_PRSNT_N goes low on a present channel (06 R436, 00 R3). -/
def execModuleSeated (ch : ChanNo) (s : State) : Host.Outcome State Fault Refusal :=
  s.onChip fun c => if c.chanPresent ch then c.onChan ch.val fun x => { x with prsntN := false } else c

/-- PRESENCE_STABLE: after 100 ms the channel enters POWERING and raises PWREN (Table 06-13). -/
def execPresenceStable (ch : ChanNo) (s : State) : Host.Outcome State Fault Refusal :=
  s.onChip fun c =>
    if c.chanPresent ch && !(c.chan ch.val).prsntN && (c.chan ch.val).state = .absent then c.setChan ch.val .powering else c

/-- MODULE_UNSEATED: MODnn_PRSNT_N goes high; a SAFE, MISSING or FAILED channel returns to
ABSENT (Table 06-13); a POWERING, TRAINING or READY channel has no module either. -/
def execModuleUnseated (ch : ChanNo) (s : State) : Host.Outcome State Fault Refusal :=
  s.onChip fun c =>
    let c := if c.chanPresent ch then c.onChan ch.val fun x => { x with prsntN := true, pwrgd := false, attnN := true, alertN := true } else c
    match (c.chan ch.val).state with
    | .safe | .missing | .failed | .powering | .training | .ready => c.setChan ch.val .absent
    | _ => c

/-- PRESENCE_LOST_TIMEOUT: PRSNT_N high for 10 us on a member makes it MISSING, and the channel
returns to ABSENT (06 R187, Table 06-13). -/
def execPresenceLostTimeout (ch : ChanNo) (s : State) : Host.Outcome State Fault Refusal :=
  s.onChip fun c =>
    if (c.chan ch.val).prsntN then
      let c := c.memberMissing ch.val
      if (c.chan ch.val).state = .missing then c.setChan ch.val .absent else c
    else c

/-- The TRAIN commands of steps 2 to 5 (Table 06-12): patterns 1 to 5. -/
def Chip.trainChan (c : Chip) (n : Nat) : Chip := [1, 2, 3, 4, 5].foldl (fun c p => c.gmi n (.train p)) c

/-- PWRGD_STABLE: PWRGD high for 10 ms, and the channel enters TRAINING (Tables 06-12, 06-13). -/
def execPwrgdStable (ch : ChanNo) (s : State) : Host.Outcome State Fault Refusal :=
  s.onChip fun c =>
    if (c.chan ch.val).state = .powering then
      ((c.onChan ch.val fun x => { x with pwrgd := true }).setChan ch.val .training).trainChan ch.val
    else c

/-- PWRGD_TIMEOUT: PWRGD has not risen within 100 ms of PWREN (Table 06-13). -/
def execPwrgdTimeout (ch : ChanNo) (s : State) : Host.Outcome State Fault Refusal :=
  s.onChip fun c =>
    if (c.chan ch.val).state = .powering && !(c.chan ch.val).pwrgd then c.setChan ch.val .failed else c

/-- PWRGD_FALL: a member becomes MISSING, a TRAINING or READY channel FAILED (06 R187). -/
def execPwrgdFall (ch : ChanNo) (s : State) : Host.Outcome State Fault Refusal :=
  s.onChip fun c =>
    let c := if c.chanPresent ch then c.onChan ch.val fun x => { x with pwrgd := false } else c
    match (c.chan ch.val).state with
    | .training | .ready => c.setChan ch.val .failed
    | _ => c.memberMissing ch.val

/-- The states of the groups have been found, at the end of stage 3 of the start (15 R386). -/
def Chip.groupsFound (c : Chip) : Bool := decide (c.boot.stage = 0 ∨ 3 < c.boot.stage)

/-- Start the initialisation of a group: new epoch and stamps, zeros in slot order (06 R180, R188). -/
def Chip.startInit (c : Chip) (g : Nat) : Chip :=
  let c := (List.range 9).foldl (fun c m =>
    if (c.chan (memberChan g m)).state = .ready then c.setChan (memberChan g m) .member else c) c
  let c := (c.onGroup g fun x => { x with cursor := 0, missing := none, evacuated := false }).newEpoch g none
  ((c.setGroup g .initialising).dropOps g .initialisation).queueInit g 0

/-- An EMPTY group is initialised once all nine of its modules are READY with blank or foreign stamps (06 R180; 16 R405): stamps that
do not name this chip, this group and that member. -/
def Chip.mayInit (c : Chip) (g : Nat) : Bool :=
  decide ((c.group g).state = .empty) && (List.range 9).all (fun m =>
    let x := c.chan (memberChan g m)
    decide (x.state = .ready) &&
      !decide (x.module.stamp.chip = c.id.serial ∧ x.module.stamp.group = g ∧ x.module.stamp.member = m ∧ x.module.stamp ≠ {}))

/-- The device starts that initialisation in service (16 R405). -/
def Chip.autoInit (c : Chip) (g : Nat) : Chip := if c.inService && c.mayInit g then c.startInit g else c

/-- A READY module takes the place of its group's missing member: new epoch, stamps, and the
rebuild starts at unit 0 (06 R178, R188). -/
def Chip.joinGroup (c : Chip) (n : Nat) : Chip :=
  let g := n / 9; let m := n % 9
  if (c.group g).base = .degraded && (c.group g).missing = some m && (c.chan n).state = .ready && c.groupsFound then
    let c := c.newEpoch g (some m)
    let c := (c.onGroup g fun x => { x with rows := [] }).setChan n .rebuilding
    let c := if (c.group g).state = .retraining then c.onGroup g fun x => { x with before := .rebuilding } else c.setGroup g .rebuilding
    c.queueRebuild g m
  else c

/-- A failed training step makes the channel FAILED; the step is reported (06 R187, Table 06-16). -/
def Chip.trainFailed (c : Chip) (n step : Nat) : Chip :=
  (c.onChan n fun x => { x with margin := x.margin % 2 ^ 56 + step % 256 * 2 ^ 56 }).setChan n .failed

/-- GMI_TRAIN_DONE: steps 2 to 5 of training passed; the registers are read, and a GEOMETRY or UNITS other than those of Table 06-11 fails
step 6; the drift clock and references are set (R193); the stamp of R188 makes the module a MEMBER or READY;
one that its group misses starts a rebuild, and the ninth of an EMPTY group its initialisation (16 R405). -/
def execGmiTrainDone (ch : ChanNo) (vendor geometry units : BitVec 32) (serial : BitVec 64) (rev : BitVec 32) (st : StatusIn) (stamp : StampIn)
    (margin : BitVec 56) (s : State) : Host.Outcome State Fault Refusal :=
  s.onChip fun c =>
    if (c.chan ch.val).state = .training then
      let g := ch.val / 9; let m := ch.val % 9
      let read (l : List Nat) (c : Chip) : Chip := l.foldl (fun c r => c.gmi ch.val (.regRead r)) c
      let at' : Stamp := match stamp with
        | .blank => {}
        | .stamp x y z e k => { chip := x, group := y, member := z, epoch := e, check := k }
      let c := read [0, 4, 8] (c.onChan ch.val fun x => { x with margin := margin.toNat })
      if geometry ≠ 0x10041001 ∨ units ≠ 9175040 then c.trainFailed ch.val 6
      else
        let c := (read [0xC, 0x10, 0x14] c).onChan ch.val fun x =>
          { x with module := { vendor := vendor, geometry := geometry, units := units, serial := serial, rev := rev, stamp := at',
                               minute := c.med.minute % 2 ^ 24, trainStep := 7, trainResult := 0xFE },
                   noHeader := 0, caParErrs := [], errRead := 0, reads := [], busy := [], tokensDue := 0, wearDue := [] }
        let c := c.gmi ch.val (.timebeat (c.med.minute % 2 ^ 24))
        let c := (List.range 64).foldl (fun c d => c.gmi ch.val (.setRef d ((c.chan ch.val).refs.getD d 0))) c
        let c := c.statusRead ch.val st
        let c := read [0x40, 0x44, 0x48, 0x4C, 0x50, 0x54, 0x58, 0x5C] c
        if at' = c.stampFor g m && stamp != .blank && !((c.group g).base = .degraded && (c.group g).missing = some m && c.groupsFound) then
          c.setChan ch.val .member
        else ((c.setChan ch.val .ready).joinGroup ch.val).autoInit g
    else c

/-- GMI_TRAIN_FAILED: a failure at any step makes the channel FAILED (06 R187). -/
def execGmiTrainFailed (ch : ChanNo) (step : Nat) (s : State) : Host.Outcome State Fault Refusal :=
  s.onChip fun c => if (c.chan ch.val).state = .training then c.trainFailed ch.val step else c

/-- A retrain of a channel starts, from step 2; a member's group is RETRAINING, its reads become stand-in reads (06 R189). -/
def Chip.startRetrain (c : Chip) (n : Nat) : Chip :=
  let go (c : Chip) : Chip := (c.onChan n fun x => { x with retrains := x.retrains + 1 }).trainChan n
  match (c.chan n).state with
  | .member | .rebuilding =>
    if (c.chan n).retraining then c
    else (((go c).reissueReads n).onChan n fun x => { x with retraining := true }).keepRetraining (n / 9)
  | .ready => go c
  | _ => c

/-- RETRAIN_START (06 R189). -/
def execRetrainStart (ch : ChanNo) (s : State) : Host.Outcome State Fault Refusal :=
  s.onChip fun c => c.startRetrain ch.val

/-- RETRAIN_DONE: the retrain passes; with the last of its group the group leaves RETRAINING (06 R189). -/
def execRetrainDone (ch : ChanNo) (s : State) : Host.Outcome State Fault Refusal :=
  s.onChip fun c =>
    if (c.chan ch.val).retraining then
      let g := ch.val / 9
      let c := c.onChan ch.val fun x => { x with retraining := false }
      if (c.group g).state = .retraining && !(List.range 9).any (fun m => (c.chan (memberChan g m)).retraining) then
        c.setGroup g (c.group g).before
      else c
    else c

/-- RETRAIN_TIMEOUT: a retrain that has not passed within 200 ms makes the member MISSING (06 R189). -/
def execRetrainTimeout (ch : ChanNo) (s : State) : Host.Outcome State Fault Refusal :=
  s.onChip fun c => if (c.chan ch.val).retraining then c.memberMissing ch.val else c

/-- Set MED_REMOVE_STATE (4004:02). -/
def Chip.removeState (c : Chip) (v : Nat) : Chip := c.onMed fun m => { m with removeState := v }

/-- A removal of channel `n` is accepted (06 R190): of a module that is not a member, of a member of a HEALTHY or EMPTY group, of
one being rebuilt onto. -/
def Chip.removable (c : Chip) (n : Nat) : Bool :=
  let g := c.group (n / 9)
  match (c.chan n).state with
  | .powering | .training | .ready => true
  | .missing | .failed => !(c.chan n).prsntN
  | .member => decide (g.state = .healthy) || decide (g.state = .empty)
  | .rebuilding => decide (g.state = .rebuilding)
  | _ => false

/-- Request removal of a module (06 R190, 16 R404): accepted, the channel enters REMOVING, a
HEALTHY group degrades with a new epoch and an abandoned rebuild returns its group to DEGRADED;
refused, the LED blinks and MED_REMOVE_STATE is 3. -/
def Chip.removal (c : Chip) (n : Nat) : Bool × Chip :=
  let g := n / 9; let m := n % 9
  if c.removable n then
    let was := (c.chan n).state
    let c := ((c.reissueReads n).setChan n .removing).removeState 1
    let c := match was, (c.group g).state with
      | .member, .healthy => (c.degrade g m).newEpoch g none
      | .rebuilding, .rebuilding => ((c.onGroup g fun x => { x with rows := [] }).degrade g m).newEpoch g none
      | _, _ => c
    let c := if was = .rebuilding then c.dropOps g .rebuild else c
    let due (o : WbOp) : Bool := (c.chan n).busy.any (fun b => b.op = o.id)
    let c := c.onCache fun k => { k with wb := k.wb.map (fun o =>
      if o.group = g && !due o then { o with todo := o.todo.filter (· != m) } else o) }
    (true, c.endEmptied g)
  else (false, (c.onChan n fun x => { x with refuseBlink := true, led := 2 }).removeState 3)

/-- ATTN_HOLD: MODnn_ATTN_N low for 500 ms requests removal (06 R190). -/
def execAttnHold (ch : ChanNo) (s : State) : Host.Outcome State Fault Refusal :=
  s.onChip fun c =>
    if c.chanPresent ch then ((c.removal ch.val).2).onChan ch.val fun x => { x with attnN := false } else c

/-- REMOVAL_SAFE: every token due has arrived, and the channel enters SAFE (06 R190). The button has been released by then. -/
def execRemovalSafe (ch : ChanNo) (s : State) : Host.Outcome State Fault Refusal :=
  s.onChip fun c =>
    if (c.chan ch.val).state = .removing && (c.chan ch.val).tokensDue = 0 then
      ((c.onChan ch.val fun x => { x with attnN := true }).setChan ch.val .safe).removeState 2
    else c

/-- REMOVE_REFUSED_BLINK_END: the 3 s blink ends and the LED shows the state again (06 R190). -/
def execRemoveRefusedBlinkEnd (ch : ChanNo) (s : State) : Host.Outcome State Fault Refusal :=
  s.onChip fun c =>
    if (c.chan ch.val).refuseBlink then
      let led := match (c.chan ch.val).state with
        | .powering | .training | .rebuilding | .removing => 2
        | .safe | .missing | .failed => 1 | _ => 0
      c.onChan ch.val fun x => { x with refuseBlink := false, led := led, attnN := true }
    else c

/-- Every row of a member being rebuilt has reached its last unit (06 R178). -/
def Group.rebuilt (g : Group) : Bool := (List.range 1024).all (fun r => decide (g.rows.getD r 0 = 9175040))

/-- REBUILD_DONE: with every unit rebuilt the member's stamp is written and the group becomes HEALTHY (06 R178). -/
def execRebuildDone (group : GroupNo) (s : State) : Host.Outcome State Fault Refusal :=
  s.onChip fun c =>
    let g := group.val
    match (c.group g).state, (c.group g).missing with
    | .rebuilding, some m =>
      let n := memberChan g m
      if (c.chan n).state = .rebuilding && (c.group g).rebuilt then
        let c := (c.writeStamp n (c.stampFor g m)).setChan n .member
        ((c.onGroup g fun x => { x with missing := none, rows := [] }).dropOps g .rebuild).setGroup g .healthy
      else c
    | _, _ => c

/-- Drop every operation of a group whose contents are discarded: its lines are no longer in a snapshot (06 R180). -/
def Chip.dropGroupOps (c : Chip) (g : Nat) : Chip :=
  let lines := (c.cache.wb.filter (fun o => decide (o.group = g))).flatMap (·.release)
  let c := c.onCache fun k => { k with wb := k.wb.filter (fun o => o.group != g) }
  lines.foldl (fun c l => (c.copies l).foldl (fun c f => c.onFrame f fun x => { x with wb := clearBit x.wb (lineSector l) }) c) c

/-- Discard the contents of a group (06 R180): its bitmaps are cleared, so that its lines read as zeros, and its marks go. A
granule keeps its slot until it is moved or released (R161). -/
def Chip.discardGroup (c : Chip) (g : Nat) : Chip :=
  let c := c.dropGroupOps g
  let c := ((c.med.slots.filter (fun p => decide (p.2.group = g))).map Prod.fst).foldl (fun c gr => c.clearPoisonRange (32768 * gr) 32768) c
  let c := (c.mapSlots.filter (fun k => decide (k / 2 ^ 25 = g))).foldl (fun c k => c.cleanSlot { group := g, slot := k % 2 ^ 25 }) c
  c.onMed fun d =>
    { d with medMap := d.medMap.filter (fun p => p.1 / 512 / 2 ^ 25 != g),
             lines := d.lines.filter (fun p => keyGroup p.1 != g) }

/-- Initialised on nine members a group is HEALTHY (06 R180; 16 R405). DESIGN CHOICE (notes/assumptions/108.md): on eight, of a Sanitize
or after the loss of one, it is DEGRADED, and on fewer FAILED, as Table 06-6 has it of a group in service. -/
def Chip.initEnd (c : Chip) (g : Nat) : Chip :=
  match (List.range 9).filter (fun m => decide ((c.chan (memberChan g m)).state ≠ .member)) with
  | [] => c.setGroup g .healthy
  | [m] => c.degrade g m
  | _ => c.setGroup g .failed

/-- GROUP_INIT_DONE: with the last slot initialised the group enters service and takes its copy of the table region (15 R391); Sanitize
ends with the last group, and the partner that waits for it hears of it (12 R328, R329). -/
def execGroupInitDone (group : GroupNo) (s : State) : Host.Outcome State Fault Refusal :=
  s.onChip fun c =>
    let g := group.val
    if (c.group g).state = .initialising && (c.group g).cursor = 2 ^ 25 then
      let c := ((c.dropOps g .initialisation).initEnd g).tableChanged
      if !c.sec.sanitizing || (List.range 4).any (fun g => decide ((c.group g).state = .initialising)) then c
      else
        let c := c.onSec fun s => { s with sanitizing := false }
        if c.paired then c.sendTwin (.tableUpdate .erased) else c
    else c

/-- WEAR_RELOCATION: the media core issues RELOCATE for a unit whose token had WEAR (06 R191). -/
def execWearRelocation (ch : ChanNo) (part unit : Nat) (s : State) : Host.Outcome State Fault Refusal :=
  s.onChip fun c =>
    if (c.chan ch.val).wearDue.contains (part, unit) then
      (c.onChan ch.val fun x => { x with wearDue := x.wearDue.erase (part, unit) }).unitOp
        (ch.val / 9) (unit * 1024 + part) (ch.val % 9) .relocation
    else c

/-- MINUTE_TICK: TIMEBEAT to every module and the minute record (06 R193, 11 R306). -/
def execMinuteTick (s : State) : Host.Outcome State Fault Refusal :=
  s.onChip fun c =>
    let c := c.onMed fun m => { m with minute := m.minute + 1 }
    let m := c.med.minute % 2 ^ 24
    let c := (List.range 36).foldl (fun c n =>
      if (c.chan n).rstN then
        (c.onChan n fun x => { x with module := { x.module with minute := m } }).gmi n (.timebeat m)
      else c) c
    c.minuteRecord

/-- Drift refreshes and scrub rewrites run in a HEALTHY group outside squall mode (06 R195). -/
def Chip.rewriteAllowed (c : Chip) (g : Nat) : Bool :=
  decide ((c.group g).state = .healthy ∧ c.cache.squall = 0)

/-- DRIFT_REFRESH: a unit flagged by scrub is rewritten unchanged (06 R195). -/
def execDriftRefresh (ch : ChanNo) (part unit : Nat) (s : State) : Host.Outcome State Fault Refusal :=
  s.onChip fun c =>
    if c.rewriteAllowed (ch.val / 9) && c.integ.rewrites.contains (ch.val, part * 2 ^ 24 + unit) then
      let c := c.onInteg fun i => { i with rewrites := i.rewrites.erase (ch.val, part * 2 ^ 24 + unit) }
      (c.unitOp (ch.val / 9) (unit * 1024 + part) (ch.val % 9) .driftRefresh).bump 0x4122 3
    else c

/-- SCRUB_REWRITE: a unit whose read needed many corrected bits is programmed unchanged (07 R205). -/
def execScrubRewrite (ch : ChanNo) (part unit : Nat) (s : State) : Host.Outcome State Fault Refusal :=
  s.onChip fun c =>
    if c.rewriteAllowed (ch.val / 9) && c.integ.rewrites.contains (ch.val, part * 2 ^ 24 + unit) then
      let c := c.onInteg fun i => { i with rewrites := i.rewrites.erase (ch.val, part * 2 ^ 24 + unit) }
      c.unitOp (ch.val / 9) (unit * 1024 + part) (ch.val % 9) .scrubRewrite
    else c

/-- Mixed blocks in use (Table 06-15). -/
def Chip.mixedSlots (c : Chip) : Nat := c.med.mixed.length

/-- The slot is to be materialised next: mixed, not yet being filled, and unchanged longest of those whose group takes the
programs (06 R199). -/
def Chip.matNext (c : Chip) (k : Nat) : Bool :=
  let takes (g : Nat) : Bool := ((c.group g).state).permits .mapUpdate
  match c.med.mixed.find k with
  | none => false
  | some x => !x.filling && takes (k / 2 ^ 25) &&
      c.med.mixed.all (fun q => q.2.filling || !takes (q.1 / 2 ^ 25) || decide (x.changed ≤ q.2.changed))

/-- MATERIALISE: with more than 90 % of the mixed blocks in use, the mixed slot unchanged longest is written as full
stripes, 256 of them; its state is 0b11 until their release (06 R199). -/
def execMaterialise (group : GroupNo) (slot : Nat) (s : State) : Host.Outcome State Fault Refusal :=
  s.onChip fun c =>
    let k := slotKey { group := group.val, slot := slot }
    if 122368 * 9 < 10 * c.mixedSlots && c.matNext k then
      let c := c.onMed fun d => { d with mixed := d.mixed.upd k {} fun x => { x with filling := true } }
      c.onCache fun x => { x with
        nextOp := x.nextOp + 256
        wb := x.wb ++ (List.range 256).map (fun i => { id := x.nextOp + i, group := group.val, stripe := 256 * slot + i, cause := .mapUpdate, mat := true }) }
    else c

/-- Units of one patrol pass: nine members, 1,024 rows, 9,175,040 units (07 R213). -/
def scrubUnits : Nat := 9 * 1024 * 9175040

/-- SCRUB_PERIOD (4220:01). -/
def Chip.scrubPeriod (c : Chip) : Nat := c.par 0x4220 1 86400000000000
/-- DRIFT_REFRESH_AGE (4122:01). -/
def Chip.driftAge (c : Chip) : Nat := c.par 0x4122 1 15552000000000000

/-- Patrol scrub runs in the group; else the pass pauses (07 R213). -/
def Chip.scrubRuns (c : Chip) (g : Nat) : Bool :=
  decide (c.cache.squall = 0) && !c.wrapping && (match (c.group g).state with
    | .healthy | .degraded | .rebuilding => true
    | _ => false)

/-- The end of a patrol pass (07 R213): counts, its end time, SCRUB_LATE, the bin counts. -/
def Chip.scrubEnd (c : Chip) (g : Nat) : Chip :=
  let late := decide (c.scrubPeriod < c.now - (c.group g).scrubStart)
  let c := ((c.bump 0x4220 2).setVol 0x4220 3 c.stamp.toNat).setVol 0x4220 4 (boolNat late)
  let c := (List.finRange 5).foldl (fun c b => c.setVol 0x4121 (b.val + 1) (c.med.binCount.get b)) c
  (c.onMed fun m => { m with binCount := Vector.replicate 5 0 }).onGroup g fun x =>
    { x with scrubPos := 0, scrubStart := c.now }

/-- The unit that a pass visits next: in order, then those it has passed over (07 R213). -/
def Group.scrubNext (g : Group) : Nat := if g.scrubPos < scrubUnits then g.scrubPos else g.skipped.headD 0

/-- The pass leaves unit `x`, which is to be visited again where `again`; the pass ends with the last one (07 R213). -/
def Chip.scrubLeave (c : Chip) (g x : Nat) (again : Bool) : Chip :=
  let c := c.onGroup g fun y =>
    { y with scrubPos := if y.scrubPos < scrubUnits then y.scrubPos + 1 else y.scrubPos
             skipped := y.skipped.filter (· != x) ++ (if again then [x] else []) }
  if scrubUnits ≤ (c.group g).scrubPos && (c.group g).skipped.isEmpty then c.scrubEnd g else c

/-- Move a reference offset of a die by one step and send SET_REF, at most once a minute (06 R194). -/
def Chip.moveRef (c : Chip) (n row : Nat) (b : Fin 5) (up : Bool) : Chip :=
  let d := rowDie row
  if (c.chan n).refAt.find d = some c.med.minute then c
  else
    let v := ((c.chan n).refs.getD d 0)
    let o := v.extractLsb' (8 * b.val) 8
    let o' : BitVec 8 := if up then o + 1 else o - 1
    let v' : BitVec 40 := (v &&& ~~~ (0xFF#40 <<< (8 * b.val))) ||| (o'.setWidth 40 <<< (8 * b.val))
    (c.onChan n fun x => { x with refs := x.refs.put d v', refAt := x.refAt.put d c.med.minute }).gmi n (.setRef d v')

/-- Toward the fewest corrected bits: upward, downward or not at all (06 R194). -/
def sampleUp (x : Sample) : Option Bool :=
  let above := x.above.getD x.own; let below := x.below.getD x.own
  if above < x.own ∧ above ≤ below then some true else if below < x.own then some false else none

/-- A unit taken as a sample is read again one bin above and one below its own, and the offset of its bin moved (06 R194). -/
def Chip.sampleUnit (c : Chip) (n row u : Nat) (x : Sample) : Chip :=
  let b := driftBin (c.unitAge n row u)
  let c := (forcedArgs b.val).foldl (fun c a => c.gmi n (.readUnit row u a)) c
  match sampleUp x with
  | some up => c.moveRef n row b up
  | none => c

/-- One line of a unit that patrol scrub reads (07 R205, R206, R213, R216). -/
def Chip.scrubLine (c : Chip) (g m row u l : Nat) (out : Decode) : Chip :=
  let at' := c.unitLine g m row u l
  let line := at'.getD (memberLine (memberChan g m) row u l)
  match out with
  | .ok => match at' with
    | some x => if (c.mediumLine x).poison then c.decodedMark x else c
    | none => c
  | .corrected b => c.corrected (memberChan g m) row u b line
  | .uncorrectable => c.detect line 5

/-- PATROL_SCRUB: the next unit of the pass is read and each of its lines decoded (07 R205, R213; 06 R194, R195).
A unit whose partition is busy is passed over and visited again before the pass ends; a unit that no member serves is not
read; the read takes three of its die's four read slots. DESIGN CHOICE (notes/assumptions/106.md): with some reads the device reads
the STATUS of the member's module, what it returns being an operand. -/
def execPatrolScrub (group : GroupNo) (outs : Vector Decode 16) (sample : Option Sample) (st : Option StatusIn)
    (s : State) : Host.Outcome State Fault Refusal :=
  s.onChip fun c =>
    let g := group.val
    if !c.scrubRuns g then c
    else
      let pos := (c.group g).scrubNext
      let m := pos % 9; let u := pos / 9 % 9175040; let row := pos / 9 / 9175040
      let n := memberChan g m
      if !c.memberReads g m row u then c.scrubLeave g pos false
      else if (c.busyAt n row).isSome then c.scrubLeave g pos true
      else if !c.readRoom n row 3 then c
      else
        let c := c.gmi n (.readUnit row u 0)
        let age := c.unitAge n row u
        let c := c.onMed fun d => { d with binCount := d.binCount.set (driftBin age).val (d.binCount.get (driftBin age) + 1) (driftBin age).isLt }
        let c := (List.finRange 16).foldl (fun c l => c.scrubLine g m row u l.val (outs.get l)) c
        let c := if c.driftAge ≤ age * 60000000000 && !c.integ.rewrites.contains (n, row * 2 ^ 24 + u) then
            c.onInteg fun i => { i with rewrites := i.rewrites ++ [(n, row * 2 ^ 24 + u)] } else c
        let c := match sample with
          | some x => c.sampleUnit n row u x
          | none => c
        let c := match st with
          | some x => c.statusRead n x
          | none => c
        c.scrubLeave g pos false

/-- STRIPE_REPAIR: the stripe of a failed line is to be repaired: each of its lines that failed is programmed with its
recovered data, or as poisoned, and the parity with them (07 R211). -/
def execStripeRepair (line : Nat) (s : State) : Host.Outcome State Fault Refusal :=
  s.onChip fun c =>
    if c.integ.repairs.contains line then
      match c.linePlace line with
      | none => c.onInteg fun i => { i with repairs := i.repairs.erase line }
      | some p =>
        let t := p.unit * 1024 + p.row
        if c.cache.wb.any (fun o => decide (o.cause = .repair ∧ o.group = p.group ∧ o.stripe = t) && !o.finished) then c
        else c.addOp { group := p.group, stripe := t, cause := .repair }
    else c

/-- BUCKET_LEAK: every corrected-error bucket falls by one, no lower than 0 (07 R206). -/
def execBucketLeak (s : State) : Host.Outcome State Fault Refusal :=
  s.onChip fun c =>
    let c := (List.range 36).foldl (fun c i => c.setVol 0x4211 (i + 1) (c.vol 0x4211 (i + 1) - 1)) c
    (List.range 16).foldl (fun c i => c.setVol 0x4212 (i + 1) (c.vol 0x4212 (i + 1) - 1)) c

/-- The 16 bytes of a poison record: the DPA with the source in [2:0], the length (07 R216, R217). -/
def Poison.image (p : Poison) : List Byte := toBytes 8 (64 * p.line + p.src) ++ toBytes 8 p.len

/-- Write the poison list to its place in the ledger log (07 R217, 11 R304). -/
def Chip.persistPoison (c : Chip) (cls : PageClass) : Chip :=
  if c.integ.durable = c.integ.poison then c
  else
    let img := c.integ.poison.flatMap Poison.image
    let old := 16 * c.integ.durable.length
    (c.pageWrite cls 0x4C0000 (img ++ List.replicate (old - img.length) 0)).onInteg fun i => { i with durable := i.poison }

/-- POISON_LIST_PERSIST: a change of the list reaches the ledger (07 R217). -/
def execPoisonListPersist (s : State) : Host.Outcome State Fault Refusal :=
  s.onChip fun c => c.persistPoison .log

end Sys2Proof.Machine
end

