-- ==== Sys2Proof/Machine/Shared.lean ====
section
/-! DEFINITION. What several families share: abort codes, power snapshots, the closing of reels,
the loss of a head's link, the loss of the twin link, the witness frames, the fence and the start
of a wrap (03 R101; 09 R251 to R260; 10 R289, R295). -/

namespace Sys2Proof.Machine

/-- Abort codes (Table 13-8). -/
def abNoEntry : Nat := 0x01010000
/-- ACCESS_DENIED. -/
def abAccessDenied : Nat := 0x02010000
/-- WRITE_LOCKED. -/
def abWriteLocked : Nat := 0x02020000
/-- LENGTH_MISMATCH. -/
def abLength : Nat := 0x03010000
/-- VALUE_OUT_OF_RANGE. -/
def abRange : Nat := 0x03020000
/-- STATE_CONFLICT. -/
def abConflict : Nat := 0x04010000
/-- RESULT_PENDING. -/
def abPending : Nat := 0x04020000
/-- NO_RESULT. -/
def abNoResult : Nat := 0x04030000
/-- TRANSFER_SEQUENCE. -/
def abSequence : Nat := 0x05010000
/-- TRANSFER_TIMEOUT. -/
def abTimeout : Nat := 0x05020000
/-- TRANSFER_UNKNOWN. -/
def abUnknown : Nat := 0x05030000
/-- TRANSFER_LIMIT. -/
def abLimit : Nat := 0x05040000
/-- AUTH_FAILED. -/
def abAuth : Nat := 0x05050000
/-- HARDWARE_ERROR. -/
def abHardware : Nat := 0x06010000

/-- PWR_STATE codes (Table 10-3). -/
def PwrState.code : PwrState → Nat
  | .off => 0 | .up => 1 | .on => 2 | .wrap => 3 | .down => 4 | .retryWait => 5 | .lockout => 6

/-- Capture a power snapshot; beyond the 64th the oldest is overwritten (10 R289). -/
def Chip.snapshot (c : Chip) (trigger : Nat) (chan : Nat := 0xFF) : Chip :=
  let s : Snapshot :=
    { time := c.stamp.toNat, trigger := trigger, chan := chan, pwr := c.pwr.state.code, wrap := c.wrap.state,
      bankMv := c.res.bankMv, dieC := c.pwr.dieC, rails := c.pwr.rails.toList.map (·.mv), dirty := c.dirtyTotal,
      budget := c.res.published / 65536 }
  (c.onPwr fun p => { p with snaps := (p.snaps ++ [s]).drop (p.snaps.length + 1 - 64), lastSnap := some s }).bump 0x6030 1

/-- Change the source of every request inside the device. -/
def Chip.mapReqs (c : Chip) (f : Req → Req) : Chip :=
  let c := c.onCache fun k =>
    { k with misses := k.misses.map (fun m => { m with readers := m.readers.map f }),
             mergeQ := k.mergeQ.map f,
             outside := k.outside.map f,
             creditQ := k.creditQ.map (fun w => match w with | .home r => .home (f r) | .mirror m => .mirror m) }
  let c := c.onTwin fun t =>
    { t with fwd := t.fwd.map (fun p => { p with req := f p.req }), mirror := t.mirror.map (fun p => { p with req := f p.req }),
             holdQ := t.holdQ.map f, overHold := t.overHold.map f, handQ := t.handQ.map f }
  let c := c.onHbm fun h => { h with heldForFence := h.heldForFence.map f }
  let c := c.onDolly fun d => { d with parked := d.parked.map f }
  c.onWit fun w => { w with poisonNotes := w.poisonNotes.map (fun p => (p.1, f p.2)) }

/-- PERST_N asserts or the link of a head goes down (03 R101): it completes its requests
internally and discards their results; configuration space, decoders, IDE stream and mailbox
state return to reset; extents, logs, cue ring, background operation and its result stay. -/
def Chip.headDown (c : Chip) (h : HeadNo) (l : LinkState) : Chip :=
  let c := c.onCache fun k => { k with outside := k.outside.filter (fun r => decide (r.src ≠ .head h)) }
  let c := c.mapReqs fun r => if r.src = .head h then { r with src := .lost h } else r
  let c := { c with deferred := c.deferred.filter (fun p => p.1 != h) }
  let c := c.onRing fun r => { r with transfers := r.transfers.filter (fun t => decide (t.req ≠ .mailbox h)) }
  let c := c.onSec fun s =>
    { s with eraseReq := s.eraseReq.filter (fun a => decide (a.req ≠ .mailbox h)), eraseHead := s.eraseHead.filter (fun x => decide (x ≠ h)) }
  let was := (c.head h).link
  let c := c.onHead h fun d =>
    { d with link := l, hdm := Vector.replicate 4 {}, ideOn := false, ideSkid := false, ideRx := {}, ideTx := {},
             irqPolicy := 0, respLimit := 0, sessions := [], spdm := .none, heldLow := [], bars := Vector.replicate 3 0, poisonAt := (0, 0, 0) }
  if was = .up then (c.headEvent h 0).emit (.headLink h false) else c

/-- Every head stops and holds its link Disabled (09 R260, 10 R295). -/
def Chip.disableHeads (c : Chip) : Chip := c.presentHeads.foldl (fun c h => c.headDown h .disabled) c

/-- LEASE_STATE codes (Table 09-5). -/
def LeaseState.code : LeaseState → Nat
  | .none => 0 | .current => 1 | .relayed => 2 | .witnessLost => 3 | .expired => 4 | .released => 5

/-- PAIR_STATE codes (Table 09-2). -/
def PairState.code : PairState → Nat
  | .unpaired => 0 | .paired => 1 | .split => 2 | .alone => 3 | .fenced => 4 | .rejoining => 5 | .refused => 6

/-- SEQ of the next witness frame: the high half is counter 2, the low half counts frames
(09 R258, 11 R315). -/
def Chip.witSeq (c : Chip) : Nat := c.wit.seqHigh * 2 ^ 32 + c.wit.seqLow.toNat

/-- The numbers of the low half are used up and counter 2 has come to its end: no witness frame can be sent (Table 11-4). -/
def Chip.seqSpent (c : Chip) : Bool := decide (c.wit.seqLow = BitVec.allOnes 32 ∧ counterLimit ≤ c.counter 2)

/-- The SEQ of the next frame is used: counter 2 rises before the low half would wrap (Table 11-4). -/
def Chip.useSeq (c : Chip) : Chip :=
  if c.wit.seqLow = BitVec.allOnes 32 then
    let c := c.countNow 2
    c.onWit fun w => { w with seqHigh := c.counter 2, seqLow := 0 }
  else c.onWit fun w => { w with seqLow := w.seqLow + 1 }

/-- Send a witness frame (Tables 09-6, 09-7); a relayed copy goes over the link (09 R256). -/
def Chip.sendWitness (c : Chip) (type : Nat) (drill : Bool := false) (relay : Bool := false) : Chip :=
  if c.seqSpent then c else
  let f : WitFrame :=
    { type := type, drill := drill, linkDown := decide (c.twin.link ≠ .up), relayed := relay,
      sender := c.id.serial.setWidth 32, seq := c.witSeq, chip := c.id.serial, peer := c.twin.twinSerial,
      epoch := c.twin.epoch, sentNs := c.now }
  let c := c.useSeq
  if relay then c.sendTwin (.renewRelay f) else c.emit (.witness f)

/-- Send CLAIM against the recorded twin, unless one is outstanding (09 R254, R258, R259). -/
def Chip.sendClaim (c : Chip) (reason : Nat) : Chip :=
  if c.wit.claim.isSome then c
  else (c.sendWitness 4).onWit fun w => { w with claim := some c.now, claimReason := reason }

/-- DATA of notification 0x0003: pair state, lease state, pair epoch (Table 13-10). -/
def Chip.pairNote (c : Chip) (p : PairState) (l : LeaseState) : List Byte :=
  [BitVec.ofNat 8 p.code, BitVec.ofNat 8 l.code] ++ toBytes 6 0 ++ toBytes 8 c.twin.epoch

/-- Change the pair state, with its notification 0x0003 (Table 13-10). The pair is lost when the chip becomes UNPAIRED or
REFUSED: the CDAT gives up the other half's entries (03 R87); a SPLIT leaves it (09 R262). -/
def Chip.setPair (c : Chip) (s : PairState) : Chip :=
  if c.twin.state = s then c
  else
    let c := if decide (s = .unpaired ∨ s = .refused) && c.boot.cdatPair then
        c.onBoot fun b => { b with cdatSeq := b.cdatSeq + 1, cdatPair := false }
      else c
    (c.onTwin fun t => { t with state := s }).notify 3 0x5000 1 (c.pairNote s c.wit.state)

/-- Change the lease state, with its notification 0x0003. -/
def Chip.setLease (c : Chip) (s : LeaseState) : Chip :=
  if c.wit.state = s then c
  else (c.onWit fun w => { w with state := s }).notify 3 0x5020 1 (c.pairNote c.twin.state s)

/-- Hold a request whose home is on the lost chip: 4,096 requests, the rest behind withheld
credits (01 R42, 09 R251). -/
def Chip.hold (c : Chip) (r : Req) : Chip :=
  let c := if c.twin.holdQ.length < 4096 then c.onTwin fun t => { t with holdQ := t.holdQ ++ [r] }
    else c.onTwin fun t => { t with overHold := t.overHold ++ [r] }
  c.peak 0x5050 1 c.twin.holdQ.length

/-- Return the segments of a cross-chip move that has not handed over to WAITING (Table 08-5). -/
def Chip.unprep (c : Chip) : Chip :=
  c.onDolly fun d => { d with opened := d.opened.map (fun o =>
    if o.crosses && !o.isTarget then
      { o with prep := [], segs := o.segs.filter (fun p => decide (p.2 = .switched)) } else o) }

/-- The twin link goes down: requests recorded as forwarded enter the hold queue, reads of the
partner's copy fail, requests of the partner lose their answer, reels lose what they hold on the other chip, segments not
yet handed over wait, and a planned handover ends (09 R251, Table 08-5). -/
def Chip.twinDown (c : Chip) : Chip :=
  if c.twin.link = .down then c
  else
    let c := (c.onTwin fun t =>
      { t with link := .down, keyed := false, helloSent := false, peerHello := none, accept := none, probing := false,
               staleDone := false, handY := false, handIn := [], hand := .idle,
               handState := if t.hand = .idle then t.handState else 3 }).bump 0x5001 2
    let held := c.twin.fwd.map (·.req)
    let c := c.onTwin fun t => { t with fwd := [], fwdIn := [], fwdCmds := t.fwdCmds.map (fun f => { f with lost := true }) }
    let c := (c.dropHolds c.obj.peerHolds).onObj fun o =>
      { o with peerHolds := [], reels := o.reels.map (fun (r : Reel) => { r with held := r.held.filter (fun k => c.homeHere (c.reelSeg r k)) }) }
    let c := held.foldl (fun c r => c.hold r) c
    let c := c.mapReqs fun r => match r.src with | .fwd _ => { r with src := .gone } | _ => r
    let fetching := c.cache.misses.filter (fun m => decide (m.stage = .fetching))
    let c := fetching.foldl (fun c m => c.declare m.line m.cause) c
    let c := if c.sec.peerErasing then c.peerErased .internalError else c
    let c := c.onSec fun s => { s with twinSession := false, twinRekeying := false, slots := s.slots &&& ~~~ 4 }
    c.unprep

/-- Discard writes to mirrored homes that are not acknowledged (09 R260 step 2). -/
def Chip.dropMirrored (c : Chip) : Chip :=
  let mirrored (r : Req) : Bool := match c.objAt r.line with | some (_, o) => o.mirror | none => false
  let c := c.twin.mirror.foldl (fun c m => c.markStale (lineGran m.req.line)) c
  let c := c.onTwin fun t => { t with mirror := [] }
  let c := c.onHbm fun h => { h with heldForFence := h.heldForFence.filter (fun r => !r.write || !mirrored r), heldMirror := [] }
  c.onCache fun k =>
    { k with mergeQ := k.mergeQ.filter (fun r => !mirrored r),
             creditQ := k.creditQ.filter (fun w => match w with | .home r => !mirrored r | .mirror _ => false) }

/-- The requests that wait for the other chip end with no effect and no completion: every head is
down (01 Table 01-7). -/
def Chip.dropHeld (c : Chip) : Chip :=
  (c.onTwin fun t => { t with fwd := [], holdQ := [], overHold := [], handQ := [] }).onDolly fun d => { d with parked := [] }

/-- The chip fences (09 R260): no home is served, unacknowledged mirrored writes are discarded,
every head is Disabled, the dolly stops; FENCED, EXPIRED, and REGISTER goes out. It takes its twin
link down, so that the partner suspects it. -/
def Chip.fence (c : Chip) : Chip :=
  if c.twin.state = .fenced then c
  else
    let c := (c.twinDown.dropMirrored.disableHeads.dropHeld).onDolly fun d => { d with paused := true }
    let c := (c.setPair .fenced).onWit fun w => { w with claim := none }
    let c := if c.wit.state = .released then c else c.setLease .expired
    c.sendWitness 1

/-- The usable energy of the reserve in mJ (6010:03). -/
def Chip.energyMj (c : Chip) : Nat := c.res.energyUj / 1000

/-- Drive SQ08_EN. -/
def Chip.setProbeEn (c : Chip) (on : Bool) : Chip :=
  c.onPwr fun p => { p with rails := p.rails.set 8 { p.rails.get 8 with en := on } }

/-- WRAP_STATE changes, with notification 0x0005 (Table 13-10). -/
def Chip.setWrap (c : Chip) (v : Nat) : Chip :=
  (c.onWrap fun w => { w with state := v }).notify 5 0x6020 1 [BitVec.ofNat 8 v, BitVec.ofNat 8 c.wrap.cause]

/-- Stripe operations that a wrap stops before they program a unit give up their row (10 R295 step 2). -/
def Chip.stopOps (c : Chip) : Chip :=
  let runs (o : WbOp) : Bool := c.causeRuns o.cause || c.med.ch.any (fun x => x.busy.any (fun b => decide (b.op = o.id)))
  c.onCache fun k => { k with wb := k.wb.map (fun o => if o.reserved && !o.finished && !runs o then { o with reserved := false } else o) }

/-- Steps 1 and 2 of a wrap (10 R295): the trigger is recorded and the budget frozen; heads, cue
rings, reels, mirroring, dolly and background work stop; RELEASE goes to the witness and the twin
link goes down. While a wrap runs, a second trigger starts nothing (10 R282); with the rails not
on there is nothing to wrap. -/
def Chip.startWrap (c : Chip) (cause : Nat) : Chip :=
  if c.wrapping || c.pwr.state != .on then c
  else
    let probing := decide (c.res.probe = 3)
    let c := ((c.onPwr fun p => { p with state := .wrap }).onWrap fun w => { w with cause := cause }).setWrap 1
    let c := c.snapshot 6
    let c := if probing then c.setProbeEn false else c
    let c := c.onRes fun r => { r with probe := 0, frozen := true }
    let c := c.onLedger fun l =>
      { l with queue := l.queue.filter (fun p => decide (p.cls.rank < 4)), refreshRun := false,
               current := match l.current with | some p => if p.cls = .refresh then none else some p | none => none }
    let before := !c.inService
    let c := c.onWrap fun w =>
      { w with cause := cause, startedAt := c.clk.ticks, drainedAt := c.clk.ticks, dirtyAt := c.dirtyTotal, energyAt := c.energyMj,
               budgetAt := c.res.published / 65536, probeEnded := probing, undrained := 0, short := false,
               beforeService := before, stay := 0 }
    let c := (c.bistEnd 2 0 0).disableHeads
    let c := { c with heads := c.heads.map (fun (d : Head) => { d with cue := {} }) }
    let c := c.closeReels (fun _ => true)
    let c := c.onObj fun o => { o with cmds := [], tails := [] }
    let c := c.dropMirrored
    let c := c.onCache fun k => { k with creditQ := [], mergeQ := [], descs := k.descs.filter (!·.moving) }
    let c := c.onHbm fun h => { h with heldForFence := h.heldForFence.filter (!·.write) }
    let c := if c.wit.registered then (c.sendWitness 6).setLease .released else c
    let c := c.twinDown.dropHeld
    let c := c.onDolly fun d => { d with paused := true, queue := [], pins := [] }
    (c.onInteg fun i => { i with scan := i.scan.map (fun (s : Scan) => { s with done := true }) }).unclaimAll.stopOps.evalPanic

/-- A pair epoch's low half is older than this chip's, as serial numbers modulo 2^32 (09 R250). -/
def Chip.olderEpoch (c : Chip) (e : BitVec 32) : Bool :=
  let d := (BitVec.ofNat 32 c.twin.epoch - e).toNat
  decide (0 < d ∧ d < 2 ^ 31)

/-- Take a CTL message: one with an older epoch is discarded and counted (09 R250). -/
def Chip.ctlIn (c : Chip) (hdr : TwinHdr) (f : Chip → Chip) : Chip :=
  if !c.linkReady then c
  else
    let c := c.bump 0x5001 3
    if c.olderEpoch hdr.epoch then c.bump 0x5001 4 else f c

/-- Take a REQ or MIR message: only in PAIRED and ALONE, and only with the current epoch (09 R250). -/
def Chip.reqIn (c : Chip) (hdr : TwinHdr) (f : Chip → Chip) : Chip :=
  if !c.linkReady then c
  else
    let c := c.bump 0x5001 3
    let ok := match c.twin.state with | .paired | .alone => true | _ => false
    if ok && hdr.epoch = BitVec.ofNat 32 c.twin.epoch then f c else c

/-- Take a response, or a message accepted at any epoch (09 R250). -/
def Chip.anyIn (c : Chip) (f : Chip → Chip) : Chip := if c.linkReady then f (c.bump 0x5001 3) else c

end Sys2Proof.Machine
end

