-- ==== Sys2Proof/Machine/Hbm.lean ====
section
/-! DEFINITION. The HBM controller: training, refresh, uncorrectable bursts and pseudo-channel
retirement (05 R144 to R155, 07 R208). -/

namespace Sys2Proof.Machine

/-- The unused spare, if one remains (3802:01). -/
def Chip.sparePc (c : Chip) : Option PcNo := (List.finRange 16).find? (fun p => decide (c.hbm.pcs.get p = .spare))

/-- Set the state of a pseudo-channel. -/
def Chip.setPc (c : Chip) (p : PcNo) (s : PcState) : Chip :=
  c.onHbm fun h => { h with pcs := h.pcs.set p.val s p.isLt }

/-- Bind an in-service index from one pseudo-channel to another (05 R150 step 3). -/
def Chip.rebind (c : Chip) (p q : PcNo) : Chip :=
  c.onHbm fun h =>
    let i := h.index.get p
    { h with index := (h.index.set p.val none p.isLt).set q.val i q.isLt }

/-- The DRAM record of a retired pseudo-channel, at every head (05 R155, 07 R220). -/
def Chip.dramRecord (c : Chip) (p : PcNo) : Chip :=
  c.record .failure (.dram 0xFFFFFFFFFFFFFFC0 6 0 2 p.val [0, 0, 0, 0, 0, (c.hbm.index.get p).getD 15, 0xFFFFFFFF, 0])

/-- A pseudo-channel in service fails (05 R149, R150, R153): it is fenced and its retirement
starts; during a retirement or with no spare left the device starts a wrap of cause HBM loss. -/
def Chip.pcFail (c : Chip) (p : PcNo) (trigger : Nat) : Chip :=
  match c.hbm.pcs.get p with
  | .inService =>
    let second := c.hbm.retire.isSome || c.sparePc.isNone
    let c := (c.setPc p .retiring).hbmAccess p .fence false 0
    if second then c.startWrap 6
    else
      (c.onHbm fun h => { h with retire := some { pc := p.val, index := (h.index.get p).getD 15, trigger := trigger, fencedAt := c.now } }).setVol 0x3813 2 0
  | _ => c

/-- RETIRE_UE_LIMIT (3812:01). -/
def Chip.ueLimit (c : Chip) : Nat := c.par 0x3812 1 4
/-- RETIRE_UE_WINDOW (3812:02). -/
def Chip.ueWindow (c : Chip) : Nat := c.par 0x3812 2 86400000000000
/-- RETIRE_CE_RATE (3812:03). -/
def Chip.ceRate (c : Chip) : Nat := c.par 0x3812 3 100000

/-- Count an uncorrectable burst and test the trigger of Table 05-7. -/
def Chip.countUe (c : Chip) (p : PcNo) : Chip :=
  let c := c.bump 0x3811 (p.val + 1)
  let c := c.onHbm fun h => { h with ueTimes := (h.ueTimes.filter (fun x => decide (c.now < x.2 + c.ueWindow))) ++ [(p.val, c.now)] }
  if c.ueLimit ≤ c.hbm.ueTimes.countP (fun x => decide (x.1 = p.val)) then c.pcFail p 1 else c

/-- The Correction Mask of a record: that of the first corrected burst in a Threshold record (07 R206), none otherwise. -/
def Chip.burstMask (c : Chip) (descr : Nat) : Nat := if descr = 2 then Config.correctionMask c.clk.ticks else 0

/-- The DRAM record of a sector of a frame (Table 07-6): the DPA of its line, the pseudo-channel, and stack ID, bank group,
bank, row, column, in-service index and frame. -/
def Chip.dramBody (c : Chip) (f n txn descr : Nat) : EventBody :=
  let a := lineAddr f n
  .dram (match (c.frame f).kind with | .free | .pinFree | .scratch => 0xFFFFFFFFFFFFFFC0 | _ => 64 * (64 * (c.frame f).seg + n)) txn 0 descr
    (c.pcOf (frameIndex f)).val [hbmStack a, hbmGroup a, hbmBank a, hbmRow a, hbmColumn a, frameIndex f, f, c.burstMask descr]

/-- Count a corrected burst and test the trigger of Table 05-7: the corrected bursts of the last hour. -/
def Chip.countCe (c : Chip) (p : PcNo) (body : EventBody) : Chip :=
  let c := c.hbmCorrected p body
  let c := c.onHbm fun h =>
    let l := h.ceTimes.filter (fun x => decide (c.now < x.2 + 3600000000000)) ++ [(p.val, c.now)]
    { h with ceTimes := l, ceHour := Vector.ofFn (fun q => l.countP (fun x => decide (x.1 = q.val))) }
  if c.ceRate < c.hbm.ceHour.get p then c.pcFail p 2 else c

/-- A parity error that repeats after its retry: 16 within 1 s retire the pseudo-channel (05 R149). -/
def Chip.parityRepeated (c : Chip) (p : PcNo) : Chip :=
  let c := c.onHbm fun h => { h with parTimes := (h.parTimes.filter (fun x => decide (c.now < x.2 + 1000000000))) ++ [(p.val, c.now)] }
  if 16 ≤ c.hbm.parTimes.countP (fun x => decide (x.1 = p.val)) then c.pcFail p 3 else c

/-- Mark a dirty line poisoned in every copy, with its record: a double HBM fault (07 R214,
Table 07-4). A retirement under way counts it (3814:01). -/
def Chip.doubleFault (c : Chip) (line : Nat) : Chip :=
  let c := c.onHbm fun h => { h with retire := h.retire.map fun (r : Retire) => { r with poisoned := r.poisoned + 1 } }
  let c := (c.copies line).foldl (fun c f => c.setSector f (lineSector line) { data := 0, poison := true }) c
  let c := c.addPoison line 1
  c.record .failure (c.mediaBody line 6 0 (1 + c.overflowBit line))

/-- An uncorrectable burst of a sector, by the kind of its content (07 R208, Table 07-2): a
scratch line is lost; a dirty line comes from its other copy, unless a retirement has not rebuilt it
(05 R150), or from the partner's, or is a double fault; the holder of a mirror-held line asks for it again, and holds it as lost
until it arrives; a clean sector loses VALID. -/
def Chip.hbmBad (c : Chip) (f n : Nat) (all : Bool) : Chip :=
  let fr := c.frame f
  let line := 64 * fr.seg + n
  let alone := all || (c.copies line).all (fun g => decide (g = f) || (c.frame g).unbuilt)
  let c' : Chip := match fr.kind with
    | .scratch => (c.onFrame f fun x => { x with pending := setBit x.pending n }).onCache fun k => { k with lines := k.lines.del (64 * f + n) }
    | .free | .pinFree => c
    | _ =>
      if !fr.dirty.getLsbD n then
        (c.onFrame f fun x => { x with valid := clearBit x.valid n }).onCache fun k => { k with lines := k.lines.del (64 * f + n) }
      else if decide (fr.role = .mirrorHeld ∧ fr.kind = .outside) then (c.setSector f n { data := 0, poison := true }).sendTwin .mirrorResend line
      else if !alone then c
      else if c.mirrorLadder line then
        if (c.missOf line).isSome then c
        else (c.onCache fun k => { k with misses := k.misses ++ [({ line := line, frame := some f, stage := .fetching, step := 4 } : Miss)] }).sendTwin .mirrorFetch line
      else c.doubleFault line
  c'.countUe (c'.pcOf (frameIndex f))

/-- What the tag lookup in a set meets, whether or not it finds the segment (04 R109): an entry whose parity fails in one
array is rewritten from the other, so the model holds one copy of both. Where both fail, tag and kind come from the frame
state word, which has no age: the way's age is a free value then. DEDUCED (notes/assumptions/104.md): TAG_PARITY_COUNT
increases by one in both cases. -/
def Chip.tagMeets (c : Chip) (set : Nat) (ev : HbmEvent) : Chip :=
  match ev with
  | .tagParity => c.bump 0x3050 1
  | .tagBothParity way =>
    let f := frameNo set way.val
    let c := c.bump 0x3050 1
    if (c.cache.frames.find f).isNone then c else c.choose.onFrame f fun x => { x with age := c.nextChoice % 4 }
  | _ => c

/-- What an access meets in the on-chip arrays it passes (Table 07-1): SRAM_CE_COUNT and SRAM_UE_COUNT. An entry of a descriptor, route or move
record cache whose parity fails is reloaded from HBM, which gives it its contents again. -/
def Chip.sramMeets (c : Chip) (ev : HbmEvent) : Chip :=
  match ev with
  | .sramCorrected => c.bump 0x4240 1
  | .sramDetected | .cacheParity => c.bump 0x4240 2
  | _ => c

/-- What an HBM access to a sector meets beside data (07 R204, R208; 04 R109; 05 R137, R149). -/
def Chip.hbmMeets (c : Chip) (f n : Nat) (ev : HbmEvent) : Chip :=
  match ev with
  | .ok => c
  | .tagParity | .tagBothParity _ => c.tagMeets (f / 16) ev
  | .corrected => (c.writeFrame f n .corrected).countCe (c.pcOf (frameIndex f)) (c.dramBody f n 5 2)
  | .uncorrectable => c.hbmBad f n false
  | .allUncorrectable => c.hbmBad f n true
  | .parityRetry => c.bump 0x3850 1
  | .parityRepeat => (c.bump 0x3850 1).parityRepeated (c.pcOf (frameIndex f))
  | .laneFail => c.pcFail (c.pcOf (frameIndex f)) 4
  | .sramCorrected | .sramDetected | .cacheParity => c.sramMeets ev

/-- The compare blocks after the runs of a training, in order (05 R146). -/
def compared (runs : List PatRun) : Vector Compare 16 :=
  runs.foldl (fun v r => v.set r.pc.val (patCheck r) r.pc.isLt) (Vector.replicate 16 {})

/-- HBM_TRAIN_DONE: `failed` gives each pseudo-channel's failed step, or 0; `margins` what training
measured; `runs` what its helpers were used for. One failing in-service pseudo-channel is retired onto the spare; a failing spare is
marked; with fewer than fifteen passing the start stops (05 R147, R148). -/
def execHbmTrainDone (failed : Vector (Fin 9) 16) (found : TrainFound) (s : State) : Host.Outcome State Fault Refusal :=
  s.onChip fun c =>
    if c.boot.hbmDone then c
    else
      let c := c.onHbm fun h => { h with margins := found.margins, compare := compared found.runs, owed := [] }
      let c := c.onCache fun k => { k with frames := [], lines := [], sched := [] }
      let bad := (List.finRange 16).filter (fun p => (failed.get p).val != 0)
      let badIn := bad.filter (fun p => decide (c.hbm.pcs.get p = .inService))
      let spareBad := match c.sparePc with | some p => bad.contains p | none => true
      let c := match c.sparePc with
        | some p => if bad.contains p then c.setPc p .spareFailed else c
        | none => c
      match badIn with
      | [] => (c.bindingRecord).onBoot fun b => { b with hbmDone := true }
      | [p] =>
        match spareBad, c.sparePc with
        | false, some q =>
          let c := (((c.rebind p q).setPc p .retired).setPc q .inService).bindingRecord
          ((c.dramRecord p).vendorRecord .warning 0x0301 0x3802 1).onBoot fun b => { b with hbmDone := true }
        | _, _ => (c.setPc p .failedTraining).onBoot fun b => { b with stage := 15, stopCause := 4 }
      | ps => (ps.foldl (fun c p => c.setPc p .failedTraining) c).onBoot fun b => { b with stage := 15, stopCause := 4 }

/-- The action of RETIRE_CMD (05 R154): an abort code, 0 for none. DEDUCED (notes/assumptions/104.md): a pseudo-channel
that is neither in service nor the unused spare gives STATE_CONFLICT. -/
def Chip.retireCmd (c : Chip) (v : Nat) : Nat × Chip :=
  if h : v < 16 then
    let p : PcNo := ⟨v, h⟩
    match c.hbm.pcs.get p with
    | .spare => (0, ((c.setPc p .spareFailed).vendorRecord .warning 0x0301 0x3802 1).bindingRecord)
    | .inService => if c.hbm.retire.isSome || c.sparePc.isNone then (abConflict, c) else (0, c.pcFail p 5)
    | _ => (abConflict, c)
  else (abRange, c)

/-- A dirty line of frame `f` whose only copy on this chip lay in the failed pseudo-channel (05 R150, Table
05-8): fetched from the partner, its readers waiting, or a double fault. -/
def Chip.onlyCopyLost (c : Chip) (line : Nat) : Chip :=
  if c.mirrorLadder line then
    if (c.missOf line).isSome then c
    else (c.onCache fun k => { k with misses := k.misses ++ [({ line := line, frame := (c.copies line).head?, stage := .fetching, step := 4 } : Miss)] }).sendTwin
      .mirrorFetch line
  else c.doubleFault line

/-- A mirror-held line of the failed pseudo-channel is asked for again (07 R208); any other dirty line without a rebuilt copy
is lost here. -/
def Chip.lostDirty (c : Chip) (f n : Nat) : Chip :=
  let fr := c.frame f
  let line := 64 * fr.seg + n
  if decide (fr.kind = .outside ∧ fr.role = .mirrorHeld) then (c.setSector f n { data := 0, poison := true }).sendTwin .mirrorResend line
  else if (c.copies line).any (fun g => !(c.frame g).unbuilt) then c
  else c.onlyCopyLost line

/-- Rebind a frame of the failed index (05 R150 step 3): clean content is gone, dirty lines wait
for their rebuild, PIN frames stay, scratch lines are lost. -/
def Chip.unbuild (c : Chip) (f : Nat) : Chip :=
  let empty (c : Chip) : Chip := c.onCache fun k => { k with lines := k.lines.filter (fun p => p.1 / 64 != f) }
  match (c.frame f).kind with
  | .clean | .evicting => c.freeFrame f
  | .free | .pinFree => c
  | .scratch => empty (c.onFrame f fun x => { x with valid := 0, pending := BitVec.allOnes 64 })
  | _ => empty (c.onFrame f fun x => { x with valid := x.dirty, unbuilt := true })

/-- The frames of the scratch ways in an in-service index. -/
def Chip.scratchFramesAt (c : Chip) (i : Nat) : List Nat :=
  (List.range c.cache.waysScratch).flatMap fun w =>
    ((List.range 196608).map (fun s => frameNo s (15 - w))).filter (fun f => decide (frameIndex f = i))

/-- Serve the requests and mirror writes held for a fence (05 R150). -/
def Chip.releaseFence (c : Chip) : Chip :=
  let q := c.hbm.heldForFence; let ms := c.hbm.heldMirror
  let c := c.onHbm fun h => { h with heldForFence := [], heldMirror := [] }
  let c := ms.foldl (fun c m => if (c.objAt m.line).isNone then c.sendTwin .mirrorCommit m.line m.tag else c.mirrorIn m) c
  q.foldl (fun c r => if scratchBase ≤ r.line then c.scratchAccess r else c.lateRequest r) c

/-- A fence holds the index (05 R150 step 1). -/
def Chip.fencedIndex (c : Chip) (i : Nat) : Bool :=
  match c.hbm.retire with
  | none => false
  | some r => !r.settled && decide (i = r.index)

/-- The request needs a frame of the index that a fence holds (05 R150 step 1): a read the frame that serves it, a write each
frame of the segment that takes a copy. -/
def Chip.fenced (c : Chip) (line : Nat) (write : Bool := false) : Bool :=
  let at_ (f : Nat) : Bool := c.fencedIndex (frameIndex f)
  if scratchBase ≤ line then at_ (scratchPlace (line - scratchBase)).1
  else match c.lookup (lineSeg line) with
    | some f => at_ f || (write && (c.frame f).peer.any at_)
    | none => (c.detached (lineSeg line)).any at_

/-- Frames of a segment that are not rebuilt yet. -/
def Chip.unbuiltOf (c : Chip) (seg : Nat) : List Nat :=
  (c.cache.frames.filter (fun p => p.2.unbuilt && decide (p.2.seg = seg))).map Prod.fst

/-- A request finds its segment's frames rebuilt: on demand, at class 2 (05 R150 step 4). -/
def Chip.buildFor (c : Chip) (seg n : Nat) : Chip :=
  (c.unbuiltOf seg).foldl (fun c f => (c.buildFrame f).writeFrame f n .rebuildDemand) c

/-- The in-service index in which a block of an area of Table 04-1 lies: the spec gives the areas the rest of each
pseudo-channel and not the blocks' places. -/
def areaAt (block : Nat) : Nat := Config.areaIndex block % 15

/-- The pseudo-channel of a block of an area. -/
def Chip.areaPc (c : Chip) (block : Nat) : PcNo := c.pcOf (areaAt block)

/-- A frame state word that could not be read (Table 07-2): SEGMENT and kind stand in the tag, DIRTY in the peer's state word
and the dirty index, and VALID is set from DIRTY. -/
def Chip.rebuildState (c : Chip) (f : Nat) : Chip :=
  match (c.frame f).kind with
  | .free | .pinFree | .scratch => c
  | _ => c.onFrame f fun x => { x with valid := x.dirty }

/-- A written map word that could not be read (Table 07-2): from the medium copy, with every bit set whose line is dirty
(06 R197). Where the medium's copy is lost too, every line whose bit is lost is poisoned: those of the segment that are not
dirty (07 R214). -/
def Chip.rebuildMap (c : Chip) (seg : Nat) (lost : Bool) : Chip :=
  match c.homeSlot seg with
  | none => c
  | some p =>
    if lost then ((List.range 64).filter (fun n => !(c.segDirty seg).getLsbD n)).foldl (fun c n => c.markPoison (64 * seg + n) 1) c
    else
      let old := if c.recStale (slotKey p) then 0 else c.med.medMap.getD (segKey p seg) 0
      c.setWritten seg (old ||| c.segDirty seg)

/-- A segment whose staging the dolly lost is copied again from its first step (Table 07-2; 08 R226). -/
def Chip.restage (c : Chip) (seg : Nat) : Chip :=
  match c.openGran (segGran seg) with
  | none => c
  | some o =>
    if !o.staged.contains (seg % 512) then c
    else
      let c := c.onGran o.gran fun x => { x with segs := x.segs.del (seg % 512) }
      match o.dst with
      | none => c
      | some d => c.onCache fun k =>
          { k with wb := k.wb.filter (fun w => w.reserved || decide (w.cause ≠ .dolly) || !w.lines.any (fun l => decide (l.1 / 64 = segKey d (seg % 512)))) }

/-- A stripe operation whose assembly area was lost starts again at the snapshot of its lines (Table 07-2; 04 R128). -/
def Chip.restartOp (c : Chip) (id : Nat) : Chip :=
  match c.op id with
  | none => c
  | some o =>
    if o.finished then c
    else
      let c := o.release.foldl (fun c l => (c.copies l).foldl (fun c f => c.onFrame f fun x => { x with wb := clearBit x.wb (lineSector l) }) c) c
      if o.release.isEmpty || o.mat then c.onOp id fun x => { x with reserved := false, release := [] } else c.dropOp id

/-- The dolly stagings and the stripe operations that lay in an index restart (Table 05-8, order 8). -/
def Chip.restartWork (c : Chip) (i : Nat) : Chip :=
  let staged := c.dolly.opened.flatMap (fun o => o.staged.map (fun s => 512 * o.gran + s))
  let c := (staged.filter (fun s => decide (areaAt s = i))).foldl (fun c s => c.restage s) c
  ((c.cache.wb.map (·.id)).filter (fun n => decide (areaAt n = i))).foldl (fun c n => c.restartOp n) c

/-- RETIRE_SETTLED: the index is bound to the spare and the hold released (05 R150 steps 2, 3;
R152, R153). The failed pseudo-channel's queues are dropped. -/
def execRetireSettled (s : State) : Host.Outcome State Fault Refusal :=
  s.onChip fun c =>
    match c.hbm.retire, c.sparePc with
    | some r, some q =>
      if r.settled then c
      else
        let p : PcNo := if h : r.pc < 16 then ⟨r.pc, h⟩ else 0
        let c := ((c.rebind p q).setPc q .inService).dropSched [p.val]
        let listed := (c.cache.frames.map Prod.fst).filter (fun f => decide (frameIndex f = r.index))
        let c := (listed ++ c.scratchFramesAt r.index).foldl (fun c f => c.unbuild f) c
        let todo := listed.filter (fun f => (c.frame f).unbuilt)
        let c := todo.foldl (fun c f => (List.range 64).foldl (fun c n => if (c.frame f).dirty.getLsbD n then c.lostDirty f n else c) c) c
        let c := c.restartWork r.index
        let hold := c.now - r.fencedAt
        let c := c.onHbm fun h =>
          { h with retire := h.retire.map fun (x : Retire) => { x with settled := true, total := todo.length, order := 1 },
                   retireLog := ofBytes ([BitVec.ofNat 8 r.pc, BitVec.ofNat 8 r.index, BitVec.ofNat 8 r.trigger, 0] ++ toBytes 4 hold) }
        (c.vendorRecord .warning 0x0301 0x3802 1).releaseFence
    | _, _ => c

/-- Place of a frame in the order of Table 05-8: 2 where this chip holds its lines twice, 3 for a frame of a mirrored segment. -/
def Frame.rebuildOrder (x : Frame) : Nat := if x.peer.isSome then 2 else 3

/-- The rebuild engine's next piece (05 R150 step 4, Table 05-8): the lowest unbuilt frame of the order it has reached, at class
3; with none left, the next order. -/
def Chip.rebuildStep (c : Chip) : Chip :=
  match c.hbm.retire with
  | none => c
  | some r =>
    if !r.settled then c
    else match c.cache.frames.find? (fun p => p.2.unbuilt && decide (p.2.rebuildOrder = r.order)) with
      | some p => (c.buildFrame p.1).writeFrame p.1 0 .rebuild
      | none => c.onHbm fun h => { h with retire := h.retire.map fun (x : Retire) => { x with order := min 8 (x.order + 1) } }

/-- RETIRE_PROGRESS (3813:02): percent of the running rebuild by its frames, or of the last one. -/
def Chip.retireProgress (c : Chip) : Nat :=
  match c.hbm.retire with
  | none => c.vol 0x3813 2
  | some r => if !r.settled then 0 else 100 * (r.total - c.cache.frames.countP (fun p => p.2.unbuilt)) / max 1 r.total

/-- RETIRE_REBUILD_DONE: what is left is rebuilt; the binding is recorded, the DRAM record raised, the
pseudo-channel is retired (05 R150 steps 4, 5, R155, Table 05-10). -/
def execRetireRebuildDone (s : State) : Host.Outcome State Fault Refusal :=
  s.onChip fun c =>
    match c.hbm.retire with
    | some r =>
      if !r.settled then c
      else
        let p : PcNo := if h : r.pc < 16 then ⟨r.pc, h⟩ else 0
        let c := ((c.cache.frames.filter (fun x => x.2.unbuilt)).map Prod.fst).foldl (fun c f => c.buildFrame f) c
        let head := toBytes 8 c.hbm.retireLog
        let log := ofBytes (head ++ toBytes 4 ((c.now - r.fencedAt) / 1000) ++ toBytes 4 r.poisoned ++ toBytes 8 c.stamp.toNat)
        let c := (c.onHbm fun h => { h with retire := none, retireLog := log }).setPc p .retired
        ((c.setVol 0x3813 2 100).bindingRecord).dramRecord p
    | none => c

/-- SPARE_TEST: the test of the unused spare; one that fails is marked (05 R154). -/
def execSpareTest (pass : Bool) (s : State) : Host.Outcome State Fault Refusal :=
  s.onChip fun c =>
    match c.sparePc with
    | some p =>
      let c := c.hbmAccess p .spareTest false 0
      if pass then c else ((c.setPc p .spareFailed).vendorRecord .warning 0x0301 0x3802 1).bindingRecord
    | none => c

/-- The pseudo-channel's channel is in self-refresh (05 R156). -/
def Chip.resting (c : Chip) (pc : PcNo) : Bool := c.hbm.selfRefresh.getLsbD (pc.val / 2)

/-- REFRESH_DUE: a bank's refresh is issued, or postponed and owed while host reads are queued for it, never
more than 8: at 8 the one that is due is issued as class 0 (05 R145). In self-refresh the stack refreshes itself (05 R156). -/
def execRefreshDue (pc : PcNo) (stack : Fin 2) (bank : Fin 16) (s : State) : Host.Outcome State Fault Refusal :=
  s.onChip fun c =>
    if c.resting pc then c else
    let b := 16 * stack.val + bank.val
    let n := if c.hostReadFor pc.val b then min 8 (c.owedBy pc.val b + 1) else c.owedBy pc.val b
    (c.onHbm fun h => { h with owed := h.owed.putD (32 * pc.val + b) n 0 }).peak 0x3830 3 n

/-- Refresh tier of a stack temperature (05 R144). -/
def tempTier (t : Int) : Nat := if t ≤ 85 then 0 else if t ≤ 95 then 1 else 2

/-- Readings in a row, with this one, at least 2 °C below a threshold, two counted. -/
def belowRun (was : Nat) (t limit : Int) : Nat := if t + 2 ≤ limit then min 2 (was + 1) else 0

/-- The tier that two consecutive readings below a threshold allow (05 R144). -/
def lowTier (below85 below95 : Nat) : Nat := if 2 ≤ below85 then 0 else if 2 ≤ below95 then 1 else 2

/-- STACK_TEMP_READ: a shorter interval applies at once, a longer one after two consecutive readings
at least 2 °C below its threshold (05 R144). -/
def execStackTempRead (temp : Int) (s : State) : Host.Outcome State Fault Refusal :=
  s.onChip fun c => c.onHbm fun h =>
    let a := belowRun h.below temp 95; let b := belowRun h.below85 temp 85
    { h with tempC := temp, below := a, below85 := b,
             tier := if h.tier < tempTier temp then tempTier temp else min h.tier (max (tempTier temp) (lowTier b a)) }

end Sys2Proof.Machine
end

