-- ==== Sys2Proof/Machine/Objects.lean ====
section
/-! DEFINITION. Object commands (02 R48 to R62, R435): the fields of an entry and a result, the
checks, the object table, capacity, the release of a range, and each command's work at the
placement cores. -/

namespace Sys2Proof.Machine

/-- Status codes (Table 02-8). -/
def stOk : Nat := 0x00
/-- RETRY. -/
def stRetry : Nat := 0x01
/-- INVALID_OPCODE. -/
def stOpcode : Nat := 0x02
/-- INVALID_FIELD. -/
def stField : Nat := 0x03
/-- NO_OBJECT. -/
def stNoObject : Nat := 0x04
/-- OVERLAP. -/
def stOverlap : Nat := 0x05
/-- NO_CAPACITY. -/
def stNoCapacity : Nat := 0x06
/-- NO_OBJECT_ID. -/
def stNoId : Nat := 0x07
/-- SUPERSEDED. -/
def stSuperseded : Nat := 0x08
/-- NOT_PAIRED. -/
def stNotPaired : Nat := 0x09
/-- NO_PIN_SPACE. -/
def stNoPin : Nat := 0x0A
/-- NO_REEL. -/
def stNoReel : Nat := 0x0B
/-- REEL_LIMIT. -/
def stReelLimit : Nat := 0x0C
/-- ACCESS_DENIED. -/
def stDenied : Nat := 0x0D
/-- UNAVAILABLE. -/
def stUnavailable : Nat := 0x0E
/-- PHASE_ERROR. -/
def stPhase : Nat := 0x0F
/-- CANCELLED. -/
def stCancelled : Nat := 0x10
/-- MEDIUM_ERROR. -/
def stMedium : Nat := 0x11

/-- Defined bits of OPFLAGS by opcode; MATCH_TAG is bit 31 (Tables 02-5, 02-7). -/
def flagMask (op : Nat) : Nat :=
  match op with
  | 0x01 => 0x7
  | 0x02 | 0x04 | 0x05 | 0x15 => 0x80000001
  | 0x03 => 0x8000001F
  | _ => 0x80000000

/-- Operand bytes an opcode uses (Table 02-7). -/
def usedBytes (op flags : Nat) : List Nat :=
  match op with
  | 0x01 => (List.range 20).map (· + 16)
  | 0x03 => [16, 28, 30, 31, 32, 33, 34, 35]
  | 0x04 => if bit flags 0 then [32, 33, 34, 35] else []
  | 0x05 => [24, 25, 26, 27]
  | 0x10 => (List.range 17).map (· + 16)
  | 0x11 | 0x12 | 0x13 | 0x14 | 0x15 => (List.range 16).map (· + 16)
  | 0x20 => (List.range 20).map (· + 16)
  | 0x21 => [16, 17]
  | 0x22 => [16, 17, 18] ++ (List.range 8).map (· + 24)
  | 0x23 => [16, 17, 18]
  | _ => []

/-- An opcode of Table 02-7. -/
def knownOp (op : Nat) : Bool :=
  [0x01, 0x02, 0x03, 0x04, 0x05, 0x10, 0x11, 0x12, 0x13, 0x14, 0x15, 0x20, 0x21, 0x22, 0x23].contains op

/-- Bytes of must-be-zero fields that are not zero (Table 02-5); byte 63 counts on the cue ring
path only (02 R66). -/
def zeroFaults (e : CmdEntry) (cue : Bool) : List Nat :=
  let op := opcodeOf e; let fl := flagsOf e
  (if fieldAt e 3 1 % 64 = 0 then [] else [3]) ++
  (if fl &&& flagMask op = fl then [] else [8]) ++
  (if fieldAt e 12 4 = 0 then [] else [12]) ++
  ((List.range 40).map (· + 16)).filter (fun b => !(usedBytes op fl).contains b && fieldAt e b 1 != 0) ++
  (if op = 0x03 && 4 ≤ fieldAt e 16 1 then [16] else []) ++
  (if fieldAt e 60 3 = 0 then [] else [60]) ++
  (if cue && (fieldAt e 63 1 != if cphOf e then 0 else 0x80) then [63] else [])

/-- HEADS bits of present heads of both positions (02 R76). -/
def Chip.headMask (c : Chip) : BitVec 12 :=
  let m := 2 ^ c.id.part.heads - 1
  BitVec.ofNat 12 (m + 64 * m)

/-- SGROUP is 0xFF or a present group. -/
def Chip.groupOk (c : Chip) (g : Nat) : Bool := decide (g = 0xFF ∨ g < c.id.part.groups)

/-- Field checks of CREATE (02 R59 step 1). HEADS is the mask of 12 bits in operand bytes 30 and 31 (Table 02-2); DEDUCED
(notes/assumptions/104.md): the four bits above it are ignored, as no rule makes them must-be-zero. -/
def Chip.createFaults (c : Chip) (e : CmdEntry) : List Nat :=
  let base := fieldAt e 16 8; let n := fieldAt e 24 4
  let auto := bit (flagsOf e) 2
  let half := boolNat (bit (objOf e) 20)
  let baseOk := decide (base % 2 ^ 21 = 0 ∧ base / 2 ^ 48 = half)
  (if 1 ≤ n ∧ n ≤ halfGranules then [] else [24]) ++
  (if c.groupOk (fieldAt e 29 1) then [] else [29]) ++
  (if BitVec.ofNat 12 (fieldAt e 30 2) &&& c.headMask = 0 then [30] else []) ++
  (if auto || baseOk then [] else [16]) ++
  (if !auto && baseOk && 2 ^ 48 * (half + 1) < base + n * 2 ^ 21 then [24] else [])

/-- Field checks that need no object (02 R70, R76, Table 02-7). -/
def Chip.fieldFaults (c : Chip) (e : CmdEntry) : List Nat :=
  match opcodeOf e with
  | 0x01 => c.createFaults e
  | 0x05 => if 1 ≤ fieldAt e 24 4 ∧ fieldAt e 24 4 ≤ halfGranules then [] else [24]
  | 0x10 =>
    let t := fieldAt e 32 1
    if t = 0x1F ∨ (t % 16 < c.id.part.groups ∧ t < 0x20) then [] else [32]
  | 0x20 =>
    (if 1 ≤ fieldAt e 32 2 then [] else [32]) ++
    (if 4 ≤ fieldAt e 34 2 ∧ fieldAt e 34 2 ≤ 4096 then [] else [34])
  | _ => []

/-- The lowest byte of a list of faults. -/
def lowest (l : List Nat) : Option Nat := l.foldl (fun m x => match m with | none => some x | some y => some (min x y)) none

/-- A result (Table 02-6): values are byte offset, width and value. -/
def mkResult (e : CmdEntry) (obj status detail userTag : Nat) (vals : List (Nat × Nat × Nat)) : CmdResult :=
  let r := setField (setField (setField (setField 0 0 2 (fieldAt e 0 2)) 2 1 (opcodeOf e)) 3 1 (fieldAt e 3 1)) 4 4 obj
  let r := setField (setField (setField r 8 1 status) 9 1 detail) 56 4 userTag
  let r := vals.foldl (fun r v => setField r v.1 v.2.1 v.2.2) r
  setField r 63 1 (if cphOf e then 0x80 else 0)

/-- The command in flight with a number. -/
def Chip.cmd (c : Chip) (id : Nat) : Option RunCmd := c.obj.cmds.find? (fun r => decide (r.id = id))

/-- Change a command in flight. -/
def Chip.onCmd (c : Chip) (id : Nat) (f : RunCmd → RunCmd) : Chip :=
  c.onObj fun o => { o with cmds := o.cmds.map (fun r => if r.id = id then f r else r) }

/-- USER_TAG of an object, 0 if there is none. -/
def Chip.userTag (c : Chip) (obj : Nat) : Nat := ((c.obj.table.find obj).map (fun o => o.userTag.toNat)).getD 0

/-- The opcodes whose effect reaches the medium before the result is written (02 R58; 06 R198; 15 R391): CREATE, DESTROY, SET_ATTR,
RESIZE, MOVE and ZERO. -/
def durableOp (op : Nat) : Bool := [0x01, 0x02, 0x03, 0x05, 0x10, 0x15].contains op

/-- A command completes with a status: its result waits to be written (02 R67), after the programs that its changes have
queued (02 R58). -/
def Chip.finish (c : Chip) (id status : Nat) (detail : Nat := 0) (vals : List (Nat × Nat × Nat) := [])
    (obj : Option Nat := none) : Chip :=
  match c.cmd id with
  | none => c
  | some r =>
    let o := obj.getD (objOf r.entry)
    c.onCmd id fun x => { x with waits := false, durable := if durableOp (opcodeOf r.entry) then c.cache.nextOp else 0, result := some (mkResult r.entry o status detail (c.userTag o) vals) }

/-- Invalidate a descriptor in both chips, in the step that changes it: an attribute, the unmap point, or MOVING at the
start or end of a move of its segments (04 R134). -/
def Chip.descInval (c : Chip) (obj : Nat) : Chip :=
  (c.onCache fun k => { k with descs := k.descs.filter (fun d => d.obj != obj) }).sendTwin (.descInval obj)

/-- Change the object table on both chips; the entry becomes durable in the table region
(02 R50, 09 R264, 15 R391). -/
def Chip.putObj (c : Chip) (obj : Nat) (o : Obj) : Chip :=
  let c := (c.onObj fun x => { x with table := x.table.put obj o }).tableChanged
  (c.sendTwin (.tableUpdate (.object obj (some o)))).descInval obj

/-- Free an object's entry on both chips. -/
def Chip.delObj (c : Chip) (obj : Nat) : Chip :=
  let c := (c.onObj fun x => { x with table := x.table.del obj }).tableChanged
  (c.sendTwin (.tableUpdate (.object obj none))).descInval obj

/-- Slots of a group that are taken, by granules or by open moves (06 R161, 08 R224). -/
def Chip.usedSlots (c : Chip) (g : Nat) : List Nat :=
  (c.med.slots.filter (fun p => decide (p.2.group = g))).map (fun p => p.2.slot) ++
  (c.dolly.opened.filterMap (·.dst) ++ (c.dolly.opened.filter (fun o => o.commitAt.isSome && !o.isTarget)).map (·.src)).filterMap
    (fun p => if p.group = g then some p.slot else none)

/-- Slots a group can allocate now (02 R435). -/
def Chip.slotRoom (c : Chip) (g : Nat) : Nat := (c.group g).room

/-- Free granules of a group (02 R435). -/
def Chip.freeGranules (c : Chip) (g : Nat) : Nat :=
  c.slotRoom g - (c.usedSlots g).countP (fun s => decide (s < c.slotRoom g))

/-- The lowest-numbered free slot of a group (06 R161). -/
def Chip.freeSlot (c : Chip) (g : Nat) : Option Nat :=
  let u := c.usedSlots g
  let n := lowestFree u 0 u.length
  if n < c.slotRoom g then some n else none

/-- The group a granule takes: SGROUP, or for 0xFF the one with the most free granules, the
lowest-numbered among equals (Table 02-2). -/
def Chip.pickGroup (c : Chip) (sgroup : Nat) (among : List Nat) : Option Nat :=
  if sgroup ≠ 0xFF then some sgroup
  else among.foldl (fun b g => match b with
    | none => if c.freeGranules g = 0 then none else some g
    | some x => if c.freeGranules x < c.freeGranules g then some g else some x) none

/-- Numbers of the present groups. -/
def Chip.groupNos (c : Chip) : List Nat := List.range c.id.part.groups

/-- Give a granule its slot on this chip (06 R161); the granule map changes on both chips. -/
def Chip.takeSlot (c : Chip) (gran sgroup : Nat) : Chip :=
  if c.med.slots.has gran then c
  else match c.pickGroup sgroup c.groupNos with
    | none => c
    | some g => match c.freeSlot g with
      | none => c
      | some s =>
        let c := ((c.onMed fun d => { d with slots := d.slots.put gran { group := g, slot := s } }).zeroSlot { group := g, slot := s }).tableChanged
        c.sendTwin (.tableUpdate (.granule gran (some (g, s))))

/-- Release a granule's slot on this chip; what is still written in it is cleared (06 R198). -/
def Chip.freeSlotOf (c : Chip) (gran : Nat) : Chip :=
  match c.med.slots.find gran with
  | none => c
  | some p =>
    let c := ((c.cleanSlot p).onMed fun d => { d with slots := d.slots.del gran, stale := d.stale.erase gran, routeMap := d.routeMap.del gran }).tableChanged
    c.sendTwin (.tableUpdate (.granule gran none))

/-- Give slots to a run of granules. -/
def Chip.takeSlots (c : Chip) (first sgroup : Nat) : Nat → Chip
  | 0 => c
  | n + 1 => (c.takeSlot first sgroup).takeSlots (first + 1) sgroup n

/-- Release the slots of a run of granules. -/
def Chip.freeSlots (c : Chip) (first : Nat) : Nat → Chip
  | 0 => c
  | n + 1 => (c.freeSlotOf first).freeSlots (first + 1) n

/-- Free granules of a group of the partner, by its granule map and the slots that group can allocate (02 R52, R435). -/
def Chip.peerFree (c : Chip) (g : Nat) : Nat :=
  let room := c.med.peerRoom.getD g 0
  room - c.med.peerSlots.countP (fun p => decide (p.2.group = g ∧ p.2.slot < room))

/-- The capacity for `n` granules is free (02 R52, R59, R435). -/
def Chip.capacity (c : Chip) (sgroup n : Nat) (mirror : Bool) : Bool :=
  let here := if sgroup = 0xFF then (c.groupNos.map c.freeGranules).sum else c.freeGranules sgroup
  let there := if sgroup = 0xFF then (c.groupNos.map c.peerFree).sum else c.peerFree sgroup
  decide (n ≤ here) && (!mirror || decide (n ≤ there))

/-- The range overlaps an object in state ACTIVE or DESTROYING but `but`, or the tail of a
shrinking RESIZE in progress (02 R59, R435). -/
def Chip.overlaps (c : Chip) (base n : Nat) (but : Option Nat) : Bool :=
  c.obj.table.any (fun p => some p.1 != but && decide (p.2.state ≠ .unavailable ∧ p.2.base < base + n ∧ base < p.2.base + p.2.granules)) ||
  c.obj.tails.any (fun t => decide (t.first < base + n ∧ base < t.first + t.granules))

/-- The lowest free range of `n` granules of a half (02 R59): a candidate is the start of the
half or the end of an object or tail. -/
def Chip.autoBase (c : Chip) (half n : Nat) : Option Nat :=
  let cands := half * halfGranules :: (c.obj.table.map (fun p => p.2.base + p.2.granules) ++ c.obj.tails.map (fun t => t.first + t.granules))
  let ok := cands.filter (fun b => decide (half * halfGranules ≤ b ∧ b + n ≤ (half + 1) * halfGranules) && !c.overlaps b n none)
  lowest ok

/-- A free index of this chip's objects, as an identifier (02 R50). DESIGN CHOICE (notes/assumptions/104.md): the lowest;
the device may assign any. -/
def Chip.freeId (c : Chip) (half : Nat) : Option Nat :=
  let used := (c.obj.table.map Prod.fst).filter (fun i => decide (i / 2 ^ 20 = half))
  let n := lowestFree (used.map (· % 2 ^ 20)) 0 used.length
  if n < 2 ^ 20 then some (half * 2 ^ 20 + n) else none

/-- Draw a key: an identity that no other draw of the pair has (12 R322, R323). -/
def Chip.drawKey (c : Chip) : Nat × Chip :=
  (2 * (c.sec.draws + 1) + c.pos, c.onSec fun s => { s with draws := s.draws + 1, sinceSeed := s.sinceSeed + 1 })

/-- Set a media key slot, in the lanes and in SECRETS. -/
def Chip.setTag (c : Chip) (t : Tag) (k : KeyTag) : Chip :=
  c.onSec fun s => { s with tags := s.tags.putD t.toNat k {}, durableTags := s.durableTags.putD t.toNat k {} }

/-- The state of a key tag (Table 12-2). -/
def Chip.tagState (c : Chip) (t : Tag) : KeyState := (c.sec.tags.getD t.toNat {}).state

/-- What a command that names a tag meets (12 R325, R327, R322, R337): proceed, wait for the key
of position 0, or end with a status. -/
inductive KeyNeed where
  | ready (c : Chip)
  | wait
  | status (n : Nat)

/-- Obtain the key of a tag, generating one where this chip may (12 R325). -/
def Chip.needKey (c : Chip) (t : Tag) : KeyNeed :=
  match c.tagState t with
  | .loaded => .ready c
  | .erasing => .status stRetry
  | .empty =>
    let gen : KeyNeed :=
      if c.sec.drbgStopped || (c.sec.userPass.isSome && !c.sec.slots.getLsbD 1) then .status stRetry
      else
        let (k, d) := c.drawKey
        let d := d.setTag t { (d.sec.tags.getD t.toNat {}) with state := .loaded, key := k }
        .ready (if d.paired then d.sendTwin (.tableUpdate (.key t k)) else d)
    match c.twin.state with
    | .paired => if c.twin.position then .wait else gen
    | .unpaired | .refused | .alone => gen
    | .split => .status stNotPaired
    | _ => .status stRetry

/-- The chip in position 1 asks for the key of an EMPTY tag: position 0 sends it, generating it first (12 R325). DESIGN CHOICE
(notes/assumptions/108.md): the spec names no message that asks. -/
def Chip.giveKey (c : Chip) (t : Tag) : Chip :=
  if !c.paired || c.twin.position then c
  else if c.tagState t = .loaded then c.sendTwin (.tableUpdate (.key t (c.sec.tags.getD t.toNat {}).key))
  else match c.needKey t with
    | .ready d => d
    | _ => c

/-- Discard the lines of segments in a range (04 R132, Table 04-7): frames are freed, PIN frames
keep their segment unless it is released, dirty lines leave the dirty total at once. A write-back under way releases none
of them: their medium bits stay clear. -/
def Chip.discardSegs (c : Chip) (first count : Nat) (release : Bool) : Chip :=
  let inR (s : Nat) : Bool := decide (first ≤ s ∧ s < first + count)
  let fs := c.cache.frames.filter (fun p => inR p.2.seg && decide (p.2.kind ≠ .free ∧ p.2.kind ≠ .scratch))
  let c := fs.foldl (fun c p =>
    if p.2.kind = .pin && !release then
      (c.onFrame p.1 fun x => { x with valid := 0, dirty := 0, wb := 0, pending := 0, peer := none }).onCache fun k =>
        { k with lines := k.lines.filter (fun q => q.1 / 64 != p.1) }
    else c.freeFrame p.1) c
  let c := c.onCache fun k =>
    { k with merges := k.merges.filter (fun m => !inR (lineSeg m.line)),
             misses := k.misses.map (fun m => if inR (lineSeg m.line) then { m with frame := none } else m),
             wb := k.wb.map (fun o => { o with release := o.release.filter (fun l => !inR (lineSeg l)) }) }
  c.onInteg fun i => { i with repairs := i.repairs.filter (fun l => !inR (lineSeg l)) }

/-- Clear the written bits of a range of segments: whole granules by slot record, the rest by
bitmap words (06 R198). -/
def Chip.clearWritten (c : Chip) (first count : Nat) : Chip :=
  let inR (s : Nat) : Bool := decide (first ≤ s ∧ s < first + count)
  let slots := (c.med.slots ++ c.dolly.opened.filterMap (fun o => o.dst.map (fun d => (o.gran, d))) ++
    (c.dolly.opened.filter (fun o => !o.isTarget)).map (fun o => (o.gran, o.src))).eraseDups
  let mine := slots.filter (fun p => decide (512 * p.1 < first + count ∧ first < 512 * p.1 + 512))
  mine.foldl (fun c p =>
    if first ≤ 512 * p.1 && 512 * p.1 + 512 ≤ first + count then c.zeroSlot p.2
    else
      let k := slotKey p.2
      let words := (c.med.map.map Prod.fst).filter (fun q => decide (q / 512 = k) && inR (512 * p.1 + q % 512))
      if words.isEmpty then c else (words.foldl (fun c q => c.setMap q 0) c).mapWrite k) c

/-- Zero a range of twin segments on this chip (02 R60, R61, R74): discarded lines, clear written
bits, no poison records. -/
def Chip.zeroSegs (c : Chip) (first count : Nat) (release : Bool) : Chip :=
  ((c.discardSegs first count release).clearWritten first count).clearPoisonRange (64 * first) (64 * count)

/-- The segments of a range of which this chip holds a slot are to be overwritten (SCRUB_BACKLOG, 2050:01): SCRUB, or
SCRUB_ON_DESTROY (02 R60). -/
def Chip.scrubBacklog (c : Chip) (tag : Tag) (scrub : Bool) (first count : Nat) : Chip :=
  if scrub || c.par 0x2050 2 0 = 1 then
    let mine := c.med.slots.filter (fun p => decide (512 * p.1 < first + count ∧ first < 512 * p.1 + 512))
    c.onMed fun m => { m with scrubLeft := m.scrubLeft ++ mine.map fun p =>
      let lo := max first (512 * p.1)
      { tag := tag, slot := p.2, first := lo - 512 * p.1, count := min (first + count) (512 * p.1 + 512) - lo } }
  else c

/-- Release the open and queued granule moves of a range (08 R241); the requests parked in them are unmapped (01 R22). -/
def Chip.dropMoves (c : Chip) (first n : Nat) : Chip :=
  let inR (g : Nat) : Bool := decide (first ≤ g ∧ g < first + n)
  let parked := c.dolly.parked.filter (fun r => inR (lineGran r.line))
  let c := c.onDolly fun d =>
    { d with opened := d.opened.filter (fun o => !inR o.gran), parked := d.parked.filter (fun r => !inR (lineGran r.line)), queue := d.queue.filter (fun q => !inR q.gran),
             journal := d.journal.filter (fun p => !inR p.2.gran), pins := d.pins.filter (fun p => !inR (segGran p.seg)) }
  parked.foldl (fun c r => c.lateRequest r) c

/-- End the commands on a range of an object with CANCELLED (02 R62). -/
def Chip.cancelCmds (c : Chip) (obj but first count : Nat) : Chip :=
  (c.obj.cmds.filter (fun r => decide (r.id ≠ but ∧ objOf r.entry = obj ∧ r.result = none ∧ r.first < first + count ∧ first < r.first + r.count))).foldl
    (fun c r => c.finish r.id stCancelled) c

/-- Where a command is executed (02 R57). -/
def Chip.cmdHere (c : Chip) (e : CmdEntry) : Bool :=
  let named := decide (bit (objOf e) 20 = c.twin.position)
  let apart := match c.twin.state with | .unpaired | .refused | .alone => true | _ => false
  if opcodeOf e = 0x01 then named || apart || decide (c.twin.state = .split)
  else if opcodeOf e = 0x04 && bit (flagsOf e) 0 then named || apart
  else match c.obj.table.find (objOf e) with
    | some o => c.owns (objOf e) o || decide (o.state = .unavailable)
    | none => named || apart

/-- The issuing head's bit in HEADS is clear (02 R63); CREATE and QUERY are exempt. -/
def Chip.cmdDenied (c : Chip) (path : CmdPath) (e : CmdEntry) : Bool :=
  match path with
  | .cue h _ => !(opcodeOf e = 0x01 || opcodeOf e = 0x04) && (match c.obj.table.find (objOf e) with
      | some o => !o.heads.getLsbD (c.pairHead h).val
      | none => false)
  | _ => false

end Sys2Proof.Machine
end

