-- ==== Sys2Proof/Machine/Commands.lean ====
section
/-! DEFINITION. Object commands in flight: the work of each opcode, the waits between commands,
the cue rings and the writing of results (02 R55 to R72; 08 R223, R241, R242). -/

namespace Sys2Proof.Machine

/-- The range operand of a command, relative to the object (02, after Table 02-6). -/
def rangeOf (e : CmdEntry) (o : Obj) : Nat × Nat :=
  let first := fieldAt e 16 8; let n := fieldAt e 24 8
  (first, if n = 0 then objSegs o - first else n)

/-- The byte of a range operand that runs past the end of the object. -/
def rangeFault (e : CmdEntry) (o : Obj) : Option Nat :=
  let (first, n) := rangeOf e o
  if objSegs o ≤ first then some 16 else if objSegs o < first + n then some 24 else none

/-- The dolly is outside squall mode and outside a wrap (08 R237). -/
def Chip.dollyFree (c : Chip) : Bool := c.cache.squall = 0 && !c.wrapping && !c.dolly.paused

/-- Record the twin segments a command works on. -/
def Chip.cmdSpan (c : Chip) (id first count : Nat) : Chip := c.onCmd id fun r => { r with first := first, count := count }

/-- CREATE (02 R59). -/
def Chip.runCreate (c : Chip) (id : Nat) (e : CmdEntry) : Chip :=
  let half := boolNat (bit (objOf e) 20)
  let fl := flagsOf e; let mirror := bit fl 0; let n := fieldAt e 24 4; let sg := fieldAt e 29 1
  let tag : Tag := BitVec.ofNat 8 (fieldAt e 28 1)
  if (mirror && !c.paired) || half != c.pos then c.finish id stNotPaired
  else if c.sec.sanitizing || c.sec.peerErasing then c.finish id stRetry
  else
    let base := if bit fl 2 then c.autoBase half n else some (fieldAt e 16 8 / 2 ^ 21)
    match base with
    | none => c.finish id stOverlap
    | some b =>
      if c.overlaps b n none then c.finish id stOverlap
      else if !c.capacity sg n mirror then c.finish id stNoCapacity
      else match c.freeId half with
        | none => c.finish id stNoId
        | some i =>
          match c.needKey tag with
          | .wait => (c.onCmd id fun r => { r with waits := true }).sendTwin (.tableUpdate (.wantKey tag))
          | .status s => c.finish id s
          | .ready c =>
            let o : Obj :=
              { base := b, granules := n, mirror := mirror, bypass := bit fl 1, keyTag := tag, sgroup := BitVec.ofNat 8 sg,
                heads := BitVec.ofNat 12 (fieldAt e 30 2) &&& c.headMask, userTag := BitVec.ofNat 32 (fieldAt e 32 4) }
            ((c.putObj i o).takeSlots b sg n).finish id stOk 0 [(16, 8, b * 2 ^ 21)] (some i)

/-- DESTROY at its unmap point (02 R56, R60; 06 R198): unmapped on both chips, commands cancelled, reels
closed, dirty lines discarded, written bits cleared; the release ends it. Writes that wait inside the chip take their way again, and find the
line unmapped (R22). -/
def Chip.runDestroy (c : Chip) (id : Nat) (obj : Nat) (o : Obj) (scrub : Bool) : Chip :=
  let c := (c.cancelCmds obj id (objFirst o) (objSegs o)).closeReels (fun r => decide (r.obj = obj))
  let c := (c.putObj obj { o with state := .destroying, scrub := scrub }).dropMoves o.base o.granules
  ((c.scrubBacklog o.keyTag scrub (objFirst o) (objSegs o)).zeroSegs (objFirst o) (objSegs o) true).settle

/-- Granules of an object whose copy this chip holds. -/
def Chip.objGrans (c : Chip) (o : Obj) : List Nat :=
  (c.med.slots.map Prod.fst).filter (fun g => decide (o.base ≤ g ∧ g < o.base + o.granules))

/-- Queue granules for the dolly (08 R224). -/
def Chip.enqueue (c : Chip) (cmd : Option Nat) (obj : Nat) (kind : MoveKind) (group : Nat) (gs : List Nat) : Chip :=
  c.onDolly fun d => { d with queue := d.queue ++ gs.map (fun g => { cmd := cmd, obj := obj, gran := g, kind := kind, group := group }) }

/-- Lines of the granule lie on this chip's medium under a key other than that of the object's tag (02 R55). -/
def Chip.oldKeyed (c : Chip) (o : Obj) (g : Nat) : Bool :=
  match c.med.slots.find g with
  | none => false
  | some p => c.med.lines.any (fun q => decide (q.1 / 32768 = slotKey p ∧ q.2.key ≠ c.keyOf o.keyTag) &&
      (c.med.map.getD (q.1 / 64) 0).getLsbD (q.1 % 64))

/-- The partner holds granules of the object. -/
def Chip.peerHas (c : Chip) (o : Obj) : Bool :=
  c.med.peerSlots.any (fun p => decide (o.base ≤ p.1 ∧ p.1 < o.base + o.granules))

/-- The mirrored granules of a run of segments lose a change on the partner, which cannot be told of it: they are stale
(09 R269). -/
def Chip.staleRange (c : Chip) (first count : Nat) : Chip :=
  ((c.med.peerSlots.map Prod.fst).filter (fun g => c.med.slots.has g && decide (512 * g < first + count ∧ first < 512 * g + 512))).foldl
    (fun c g => c.markStale g) c

/-- The lines that the partner holds are to be rewritten under a new key too: it is told by the object's entry, and the
change waits for it. While it cannot be reached its mirror copies are stale instead (02 R55; 09 R269). -/
def Chip.rekeyPeer (c : Chip) (obj : Nat) (o : Obj) : Chip :=
  if !c.peerHas o then c
  else
    let c := c.onObj fun x => { x with peerRekey := insertNat x.peerRekey obj }
    if c.paired then c else c.staleRange (objFirst o) (objSegs o)

/-- SET_ATTR (02 R53, R55, R58; 12 R325): BYPASS, HEADS, USER_TAG and MIRROR to 0 at once; a new KEY_TAG
and MIRROR to 1 through the dolly. A change issued again after it ended incomplete takes the granules that are left. -/
def Chip.runSetAttr (c : Chip) (id : Nat) (e : CmdEntry) (obj : Nat) (o : Obj) : Chip :=
  let fl := flagsOf e
  let tag : Tag := BitVec.ofNat 8 (fieldAt e 28 1)
  let newMirror := bit (fieldAt e 16 1) 0
  let rekey := bit fl 1 && tag != o.keyTag
  let rest := bit fl 1 && tag = o.keyTag && o.oldKeyTag.isSome
  let build := bit fl 4 && newMirror && !o.mirror
  let rebuild := bit fl 4 && newMirror && o.mirror && o.mirrorBuild
  let unmirror := bit fl 4 && !newMirror && o.mirror
  if build && !c.paired then c.finish id stNotPaired
  else if build && !c.capacity o.sgroup.toNat 0 false then c.finish id stNoCapacity
  else if build && (if o.sgroup = 0xFF then (c.groupNos.map c.peerFree).sum else c.peerFree o.sgroup.toNat) < o.granules then
    c.finish id stNoCapacity
  else
    let go (c : Chip) : Chip :=
      let o' : Obj :=
        { o with bypass := if bit fl 0 then bit (fieldAt e 16 1) 1 else o.bypass,
                 heads := if bit fl 2 then BitVec.ofNat 12 (fieldAt e 30 2) &&& c.headMask else o.heads,
                 userTag := if bit fl 3 then BitVec.ofNat 32 (fieldAt e 32 4) else o.userTag,
                 mirror := if bit fl 4 then newMirror else o.mirror,
                 mirrorBuild := build || (o.mirrorBuild && !unmirror),
                 keyTag := if rekey then tag else o.keyTag,
                 oldKeyTag := if rekey then some o.keyTag else o.oldKeyTag,
                 olderTags := if rekey then o.oldKeyTag.toList ++ o.olderTags else o.olderTags }
      let c := c.putObj obj o'
      let gs := c.objGrans o
      let c := if build then gs.foldl (fun c g => c.markStale g) c else c
      let c := if unmirror then
          (gs.foldl (fun c g => c.onMed fun m => { m with stale := m.stale.erase g, peerSlots := m.peerSlots.del g }) c).onCache fun k =>
            { k with frames := k.frames.map (fun p =>
                if decide (objFirst o ≤ p.2.seg ∧ p.2.seg < objFirst o + objSegs o ∧ p.2.dirty ≠ 0 ∧ p.2.peer = none) then (p.1, { p.2 with once := true }) else p) }
        else c
      let c := if rekey then (c.enqueue (some id) obj .rekey 0xFF gs).rekeyPeer obj o'
        else if rest then (c.enqueue (some id) obj .rekey 0xFF (gs.filter (c.oldKeyed o'))).rekeyPeer obj o'
        else c
      let c := if build then c.enqueue (some id) obj .mirrorBuild 0xFF gs
        else if rebuild then c.enqueue (some id) obj .mirrorBuild 0xFF (gs.filter c.med.stale.contains)
        else c
      if rekey || rest || build || rebuild then c else c.finish id stOk
    if rekey then
      match c.needKey tag with
      | .wait => (c.onCmd id fun r => { r with waits := true }).sendTwin (.tableUpdate (.wantKey tag))
      | .status s => c.finish id s
      | .ready c => go c
    else go c

/-- State code of a QUERY result (Table 02-7). -/
def ObjState.code : ObjState → Nat
  | .active => 1 | .destroying => 2 | .unavailable => 3

/-- Segments of an object resident in HBM (Table 02-7). -/
def Chip.residentSegs (c : Chip) (o : Obj) : Nat :=
  c.cache.frames.countP (fun p => p.2.kind.visible && decide (objFirst o ≤ p.2.seg ∧ p.2.seg < objFirst o + objSegs o))

/-- Pinned segments of an object. -/
def Chip.pinnedSegs (c : Chip) (o : Obj) : Nat :=
  c.cache.frames.countP (fun p => decide (p.2.kind = .pin ∧ objFirst o ≤ p.2.seg ∧ p.2.seg < objFirst o + objSegs o))

/-- Values of a QUERY result (Table 02-7). -/
def Chip.queryValues (c : Chip) (obj : Nat) (o : Obj) : List (Nat × Nat × Nat) :=
  [(16, 8, o.base * 2 ^ 21), (24, 4, o.granules), (28, 1, o.keyTag.toNat), (29, 1, o.sgroup.toNat), (30, 2, o.heads.toNat),
   (32, 1, boolNat o.mirror + 2 * boolNat o.bypass), (33, 1, ObjState.code o.state),
   (36, 4, c.obj.reels.countP (fun r => decide (r.obj = obj))), (40, 8, c.residentSegs o), (48, 8, c.pinnedSegs o)]

/-- QUERY (02 R58). -/
def Chip.runQuery (c : Chip) (id : Nat) (e : CmdEntry) : Chip :=
  let half := boolNat (bit (objOf e) 20)
  let found := if bit (flagsOf e) 0 then
      c.obj.table.find? (fun p => decide (p.1 / 2 ^ 20 = half ∧ p.2.userTag = BitVec.ofNat 32 (fieldAt e 32 4)))
    else (c.obj.table.find (objOf e)).map (fun o => (objOf e, o))
  match found with
  | none => c.finish id stNoObject
  | some (i, o) =>
    if bit (flagsOf e) 31 && o.userTag != BitVec.ofNat 32 (fieldAt e 56 4) then c.finish id stNoObject
    else c.finish id stOk 0 (c.queryValues i o) (some i)

/-- RESIZE (02 R60, R435). -/
def Chip.runResize (c : Chip) (id : Nat) (e : CmdEntry) (obj : Nat) (o : Obj) : Chip :=
  let n := fieldAt e 24 4
  let half := o.base / halfGranules
  let vals := [(24, 4, n)]
  if (half + 1) * halfGranules < o.base + n then c.finish id stField 24
  else if n = o.granules then c.finish id stOk 0 vals
  else if o.granules < n then
    if o.mirror && !c.paired then c.finish id stNotPaired
    else if c.overlaps (o.base + o.granules) (n - o.granules) (some obj) then c.finish id stOverlap
    else if !c.capacity o.sgroup.toNat (n - o.granules) o.mirror then c.finish id stNoCapacity
    else
      ((c.putObj obj { o with granules := n }).takeSlots (o.base + o.granules) o.sgroup.toNat (n - o.granules)).finish id stOk 0 vals
  else
    let first := o.base + n; let m := o.granules - n
    let c := (c.cancelCmds obj id (512 * first) (512 * m)).closeReels (fun r => decide (r.obj = obj ∧ 512 * n ≤ r.start))
    let scrub := bit (flagsOf e) 0
    let c := (c.putObj obj { o with granules := n, scrub := scrub }).dropMoves first m
    let c := ((c.scrubBacklog o.keyTag scrub (512 * first) (512 * m)).zeroSegs (512 * first) (512 * m) true).settle
    (c.onObj fun x => { x with tails := x.tails ++ [{ cmd := id, first := first, granules := m }] }).finish id stOk 0 vals

/-- MOVE of a widened range (08 R223): granules not at the target wait for the dolly. -/
def Chip.runMove (c : Chip) (id : Nat) (e : CmdEntry) (obj : Nat) (o : Obj) : Chip :=
  let t := fieldAt e 32 1
  if 16 ≤ t && !c.paired then c.finish id stNotPaired
  else
    let (first, n) := rangeOf e o
    let g0 := o.base + first / 512
    let gN := o.base + (first + n + 511) / 512
    let gs := (List.range (gN - g0)).map (· + g0)
    let todo := gs.filter (fun g =>
      let here := c.homeHere (512 * g)
      if t < 16 then !here || decide ((c.med.slots.find g).map (·.group) ≠ some t)
      else here || (t != 0x1F && decide ((c.med.peerSlots.find g).map (·.group) ≠ some (t - 16))))
    let kind (g : Nat) : MoveKind :=
      if decide (t < 16) = c.homeHere (512 * g) then .medium else if o.mirror then .swap else .cross
    let c := (c.cmdSpan id (512 * g0) (512 * (gN - g0))).onCmd id fun r => { r with done := 512 * (gs.length - todo.length) }
    todo.foldl (fun c g => c.enqueue (some id) obj (kind g) t [g]) c

/-- A PIN_FREE frame of a set that nothing has reserved (04 R131). -/
def Chip.pinFreeFrame (c : Chip) (seg : Nat) : Option Nat :=
  ((List.range c.cache.waysPin).map (fun j => frameNo (cacheSet seg) (12 + j))).find? (fun f => !c.cache.frames.has f)

/-- The segment is pinned. -/
def Chip.pinned (c : Chip) (seg : Nat) : Bool :=
  match c.lookup seg with | some f => decide ((c.frame f).kind = .pin) | none => false

/-- A pin move of the segment runs. -/
def Chip.pinning (c : Chip) (seg : Nat) : Bool := c.dolly.pins.any (fun p => decide (p.seg = seg) && p.into)

/-- Fill a PIN frame under a move: the segment's valid lines are copied, the rest follows from the
medium (08 R234). -/
def Chip.reservePin (c : Chip) (id seg : Nat) : Option Chip :=
  if c.pinned seg || c.pinning seg then some c
  else (c.pinFreeFrame seg).map fun f =>
    (c.setFrame f { seg := seg, kind := .pinFree }).onDolly fun d => { d with pins := d.pins ++ [{ cmd := id, seg := seg, frame := f }] }

/-- Reserve PIN frames for a run of segments, all or none (04 R131). -/
def Chip.reservePins (c : Chip) (id seg : Nat) : Nat → Option Chip
  | 0 => some c
  | n + 1 => (c.reservePin id seg).bind fun c => c.reservePins id (seg + 1) n

/-- PIN (04 R131, 08 R234): the moves of its segments start. -/
def Chip.runPin (c : Chip) (id obj : Nat) (first n : Nat) : Chip :=
  match c.reservePins id first n with
  | none => c.finish id stNoPin
  | some c => c.descInval obj

/-- UNPIN (08 R235): each pinned segment of the range leaves its PIN frame. -/
def Chip.runUnpin (c : Chip) (id obj : Nat) (first n : Nat) : Chip :=
  let mine := c.cache.frames.filter (fun p => decide (p.2.kind = .pin ∧ first ≤ p.2.seg ∧ p.2.seg < first + n))
  (c.descInval obj).onDolly fun d => { d with pins := d.pins ++ mine.map (fun p => { cmd := id, seg := p.2.seg, frame := p.1, into := false }) }

/-- Bring the written lines of a segment into HBM (04 R111, 02 R69), in the frame named: none where the set has no
qualifying way. -/
def Chip.bringIn (c : Chip) (seg cause : Nat) : Option Nat × Chip :=
  match (match c.lookup seg with
    | some f => (some f, c.onFrame f fun x => { x with kind := if x.kind = .evicting then .clean else x.kind })
    | none => c.allocate seg .clean) with
  | (none, c) => (none, c)
  | (some f, c) =>
    let need := (List.range 64).filter (fun n =>
      (c.written seg).getLsbD n && (c.held (64 * seg + n)).isNone && (c.missOf (64 * seg + n)).isNone)
    (some f, need.foldl (fun c n => c.queueMiss (64 * seg + n) (some f) [] cause) c)

/-- PROMOTE goes on over the segments of its range it has not reached: one whose set has a way counts, one whose set has
none is passed over (04 R111, Table 02-7). -/
def Chip.promoteOn (c : Chip) (id seg : Nat) : Nat → Chip
  | 0 => c
  | n + 1 =>
    let (ok, c) := if c.written seg = 0 then (true, c) else let p := c.bringIn seg 6; (p.1.isSome, p.2)
    (c.onCmd id fun r => { r with next := r.next + 1, done := if ok then r.done + 1 else r.done }).promoteOn id (seg + 1) n

/-- PROMOTE, which pauses in squall mode and in a wrap (02 R438; 08 R233). -/
def Chip.runPromote (c : Chip) (id : Nat) : Chip :=
  match c.cmd id with
  | none => c
  | some r => if c.dollyFree then c.promoteOn id (r.first + r.next) (r.count - r.next) else c

/-- ZERO (02 R60, R61): on both chips; mirrored granules whose partner cannot be reached are stale (09 R269). Granules that
only the other chip holds cannot be zeroed meanwhile: the command ends RETRY with no effect (R58). DEDUCED
(notes/assumptions/104.md). -/
def Chip.runZero (c : Chip) (id : Nat) (e : CmdEntry) (o : Obj) (first n : Nat) : Chip :=
  let scrub := bit (flagsOf e) 0
  let away := (c.med.peerSlots.map Prod.fst).any (fun g =>
    decide (o.base ≤ g ∧ g < o.base + o.granules ∧ 512 * g < first + n ∧ first < 512 * g + 512) && !c.med.slots.has g)
  if away && !c.paired then c.finish id stRetry
  else
    let c := ((c.scrubBacklog o.keyTag scrub first n).zeroSegs first n false).settle
    let c := if c.paired then (if c.peerHas o then c.sendTwin (.tableUpdate (.zero first n o.keyTag scrub)) else c)
      else c.staleRange first n
    c.finish id stOk

/-- Frames committed to open reel windows (2030:03). -/
def Chip.reelFrames (c : Chip) : Nat := (c.obj.reels.map (·.window)).sum

/-- REEL_OPEN (02 R70). DESIGN CHOICE (notes/assumptions/104.md): of the free REEL_IDs it gets the lowest, at once after
the close that freed it. -/
def Chip.runReelOpen (c : Chip) (id : Nat) (e : CmdEntry) (obj : Nat) (o : Obj) : Chip :=
  let start := fieldAt e 16 8; let n := fieldAt e 24 8; let stride := fieldAt e 32 2; let window := fieldAt e 34 2
  if objSegs o ≤ start then c.finish id stField 16
  else
    let count := if n = 0 then (objSegs o - 1 - start) / stride + 1 else n
    if objSegs o ≤ start + (count - 1) * stride then c.finish id stField 24
    else
      let rid := lowestFree (c.obj.reels.map (·.id)) 0 c.obj.reels.length
      if 256 ≤ rid then c.finish id stNoReel
      else if c.reelLimit < c.reelFrames + window then c.finish id stReelLimit
      else
        (c.onObj fun x => { x with reels := x.reels ++ [{ id := rid, obj := obj, start := start, count := count, stride := stride,
                                                          window := window, readers := [{ no := 0, cursor := 0 }] }] }).finish
          id stOk 0 [(16, 2, rid), (18, 1, 0)]

/-- The reel's window moves: positions that leave it lose the hold (02 R69). -/
def Chip.slideReel (c : Chip) (rid : Nat) : Chip :=
  match c.reel rid with
  | none => c
  | some r =>
    let lo := r.minCursor
    let inW (k : Nat) : Bool := decide (lo ≤ k ∧ k < lo + r.window ∧ k < r.count)
    (c.dropHolds ((r.held.filter (fun k => !inW k)).map (c.reelSeg r))).onReel rid fun x => { x with held := x.held.filter inW }

/-- Remove a reader; the reel closes with its last one (02 R71, R72). -/
def Chip.dropReader (c : Chip) (rid reader : Nat) : Chip :=
  let c := c.onReel rid fun r => { r with readers := r.readers.filter (fun x => x.no != reader) }
  match c.reel rid with
  | some r => if r.readers.isEmpty then c.closeReel rid else c.slideReel rid
  | none => c

/-- REEL_JOIN (02 R71). DESIGN CHOICE (notes/assumptions/104.md): of the free reader numbers it gets the lowest. -/
def Chip.runReelJoin (c : Chip) (id : Nat) (r : Reel) : Chip :=
  let no := lowestFree (r.readers.map (·.no)) 0 r.readers.length
  if 32 ≤ no then c.finish id stNoReel
  else (c.onReel r.id fun x => { x with readers := x.readers ++ [{ no := no, cursor := r.minCursor }] }).finish
    id stOk 0 [(18, 1, no), (24, 8, r.minCursor)]

/-- REEL_ADVANCE (02 R71). -/
def Chip.runReelAdvance (c : Chip) (id : Nat) (e : CmdEntry) (r : Reel) : Chip :=
  let cur := fieldAt e 24 8
  match r.readers.find? (fun x => decide (x.no = fieldAt e 18 1)) with
  | none => c.finish id stNoReel
  | some x =>
    if cur < x.cursor || r.count ≤ cur then c.finish id stField 24
    else
      let c := (c.onReel r.id fun q => { q with readers := q.readers.map (fun y => if y.no = x.no then { y with cursor := cur } else y) }).slideReel r.id
      c.finish id stOk 0 [(32, 8, ((c.reel r.id).map Reel.minCursor).getD 0)]

/-- REEL_LEAVE (02 R72). -/
def Chip.runReelLeave (c : Chip) (id : Nat) (e : CmdEntry) (r : Reel) : Chip :=
  if r.readers.any (fun x => decide (x.no = fieldAt e 18 1)) then (c.dropReader r.id (fieldAt e 18 1)).finish id stOk
  else c.finish id stNoReel

/-- A SET_ATTR that the dolly carries. -/
def longAttr (e : CmdEntry) : Bool := opcodeOf e = 0x03 && (bit (flagsOf e) 1 || bit (flagsOf e) 4)

/-- N waits until R completes (Table 08-6). -/
def mustWait (r n : CmdEntry) : Bool :=
  let a := opcodeOf r; let b := opcodeOf n
  (a = 0x11 && b = 0x12) || (a = 0x12 && b = 0x11) || (a = 0x10 && b = 0x10) ||
  (a = 0x10 && longAttr n) || (longAttr r && b = 0x10) || (longAttr r && longAttr n)

/-- R stops with SUPERSEDED (Table 08-6). -/
def supersedes (r n : CmdEntry) : Bool :=
  (opcodeOf r = 0x13 && opcodeOf n = 0x14) || (opcodeOf r = 0x14 && opcodeOf n = 0x13)

/-- Twin segments a command's range covers, MOVE widened, an attribute change the whole object. -/
def spanOf (e : CmdEntry) (o : Obj) : Nat × Nat :=
  let (first, n) := rangeOf e o
  match opcodeOf e with
  | 0x10 => (objFirst o + first / 512 * 512, ((first + n + 511) / 512 - first / 512) * 512)
  | 0x11 | 0x12 | 0x13 | 0x14 | 0x15 => (objFirst o + first, n)
  | _ => (objFirst o, objSegs o)

/-- Commands on an overlapping range of the same object that come first: those running, and of those that wait the earlier
ones (02 R62: admitted in order of arrival). -/
def Chip.rivals (c : Chip) (id : Nat) (e : CmdEntry) (first n : Nat) : List RunCmd :=
  c.obj.cmds.filter (fun r => decide (r.id ≠ id ∧ objOf r.entry = objOf e ∧ r.result = none ∧ r.first < first + n ∧ first < r.first + r.count) &&
    (!r.waits || decide (r.id < id)))

/-- The command changes what both chips hold: the object table, or written bits. -/
def changesTables (e : CmdEntry) : Bool := [0x01, 0x02, 0x03, 0x05, 0x15].contains (opcodeOf e)

/-- A change that both chips must hold waits while a PAIRED chip has no twin link, until the link is back or a verdict has
come: its OK promises that it survives a single fault (02 R58). -/
def Chip.pairWaits (c : Chip) (e : CmdEntry) : Bool := changesTables e && c.paired && !c.linkReady

/-- Begin a command on an ACTIVE object of this chip. -/
def Chip.runOn (c : Chip) (id : Nat) (e : CmdEntry) (o : Obj) : Chip :=
  let obj := objOf e; let op := opcodeOf e
  let ranged := decide (0x10 ≤ op ∧ op ≤ 0x15)
  match (if ranged then rangeFault e o else none) with
  | some b => c.finish id stField b
  | none =>
    let (first, n) := spanOf e o
    let c := c.cmdSpan id first n
    let rivals := c.rivals id e first n
    if c.pairWaits e || rivals.any (fun r => mustWait r.entry e) then c.onCmd id fun r => { r with waits := true }
    else
      let c := (rivals.filter (fun r => supersedes r.entry e)).foldl (fun c r => c.finish r.id stSuperseded 0 [(32, 8, r.done)]) c
      let reel := (c.reel (fieldAt e 16 2)).filter (fun r => decide (r.obj = obj))
      match op with
      | 0x02 => c.runDestroy id obj o (bit (flagsOf e) 0)
      | 0x03 => c.runSetAttr id e obj o
      | 0x05 => c.runResize id e obj o
      | 0x10 => c.runMove id e obj o
      | 0x11 => c.runPin id obj first n
      | 0x12 => c.runUnpin id obj first n
      | 0x13 => c.runPromote id
      | 0x14 => c
      | 0x15 => c.runZero id e o first n
      | 0x20 => c.runReelOpen id e obj o
      | _ => match reel with
        | none => c.finish id stNoReel
        | some r =>
          if op = 0x21 then c.runReelJoin id r else if op = 0x22 then c.runReelAdvance id e r else c.runReelLeave id e r

/-- Forward a command to its owner; without a link it waits until the owner is reached (02 R57). -/
def Chip.forwardCmd (c : Chip) (id : Nat) (e : CmdEntry) : Chip :=
  if c.paired && c.linkReady then
    let (tag, c) := c.takeTag
    (c.onTwin fun t => { t with fwdCmds := t.fwdCmds ++ [{ tag := tag, cmd := id }] }).sendTwin (.fwdCmd e) 0 tag
  else c.onCmd id fun r => { r with waits := true }

/-- Execute a command entry (02 R57 to R63): its opcode and fields are checked, the head's right,
then it runs on the owning chip; while Locked every command is denied (12 R345). -/
def Chip.run (c : Chip) (id : Nat) : Chip :=
  match c.cmd id with
  | none => c
  | some r =>
    let e := r.entry
    let cue := match r.path with | .cue _ _ => true | _ => false
    let fwd := match r.path with | .fwd _ => true | _ => false
    let c := c.onCmd id fun x => { x with waits := false }
    if !knownOp (opcodeOf e) then c.finish id stOpcode
    else if c.sec.locked then c.finish id stDenied
    else match lowest (zeroFaults e cue ++ c.fieldFaults e) with
      | some b => c.finish id stField b
      | none =>
        if c.cmdDenied r.path e then c.finish id stDenied
        else if !fwd && !c.cmdHere e then c.forwardCmd id e
        else if opcodeOf e = 0x01 then if c.pairWaits e then c.onCmd id fun r => { r with waits := true } else c.runCreate id e
        else if opcodeOf e = 0x04 then c.runQuery id e
        else match c.obj.table.find (objOf e) with
          | none => c.finish id stNoObject
          | some o =>
            match o.state with
            | .destroying => c.finish id stNoObject
            | .unavailable => c.finish id stUnavailable
            | .active =>
              if bit (flagsOf e) 31 && o.userTag != BitVec.ofNat 32 (fieldAt e 56 4) then c.finish id stNoObject
              else c.runOn id e o

/-- Take a command into the list of commands in flight; it waits to be started. -/
def Chip.addCmd (c : Chip) (path : CmdPath) (e : CmdEntry) : Nat × Chip :=
  (c.obj.nextCmd, c.onObj fun o =>
    { o with nextCmd := o.nextCmd + 1, cmds := o.cmds ++ [{ id := o.nextCmd, path := path, entry := e, waits := true }] })

/-- A command arrives at the placement cores and starts (02 R66). -/
def Chip.command (c : Chip) (path : CmdPath) (e : CmdEntry) : Chip :=
  let (id, c) := c.addCmd path e
  c.run id

/-- Commands of a cue ring in flight. -/
def Chip.ringCmds (c : Chip) (h : HeadNo) : List RunCmd :=
  c.obj.cmds.filter (fun r => match r.path with | .cue k _ => decide (k = h) | _ => false)

/-- A waiting command may start: in ring order, under CUE_INFLIGHT_MAX and FENCE (02 R66). -/
def Chip.mayStart (c : Chip) (r : RunCmd) : Bool :=
  match r.path with
  | .cue h _ =>
    let ring := c.ringCmds h
    let before := ring.filter (fun x => decide (x.id < r.id))
    decide (ring.countP (fun x => !x.waits && x.result.isNone) < c.cueMax) && before.all (fun x => !x.waits) &&
      (!fenceOf r.entry || before.isEmpty)
  | _ => true

/-- Start the waiting commands that may start, in order. -/
def Chip.startWaiting (c : Chip) : Chip :=
  (c.obj.cmds.filter (·.waits)).foldl (fun c r =>
    match c.cmd r.id with
    | some x => if x.waits && c.mayStart x then c.run r.id else c
    | none => c) c

/-- CMD_LAST_ERROR (2060:02). -/
def Chip.lastCmdError (c : Chip) (r : RunCmd) (res : CmdResult) : Chip :=
  let path := match r.path with | .cue h _ => h.val | .mailbox _ => 6 | _ => 7
  c.setVol 0x2060 2 (ofBytes ([BitVec.ofNat 8 path, BitVec.ofNat 8 (fieldAt res 2 1), BitVec.ofNat 8 (fieldAt res 8 1),
    BitVec.ofNat 8 (fieldAt res 9 1)] ++ toBytes 2 (fieldAt res 0 2) ++ toBytes 2 0 ++ toBytes 4 (fieldAt res 4 4) ++
    toBytes 4 (c.stamp.toNat / 1000)))

/-- Write a result into its cue ring entry, byte 63 last, and signal it (02 R64, R67). -/
def Chip.cueResult (c : Chip) (h : HeadNo) (slot : BitVec 8) (res : CmdResult) : Chip :=
  let c := c.onHead h fun d => { d with cue := { d.cue with entries := d.cue.entries.write (64 * slot.toNat) (entryBytes res) } }
  let c := c.bump 0x2021 (h.val + 1)
  let q := (c.head h).cue
  if !q.irqEn then c
  else if q.coalesce = 0 then c.emit (.msix h 2)
  else c.onHead h fun d => { d with cue := { d.cue with delaying := true } }

/-- Deliver a result on the path of its command (02 R57, R67, R92; 13 R370). -/
def Chip.deliver (c : Chip) (r : RunCmd) (res : CmdResult) : Chip :=
  let err := fieldAt res 8 1 != 0
  let c := match r.path with
    | .cue h slot => c.cueResult h slot res
    | .mailbox h => c.onHead h fun d => { d with objResult := d.objResult.map (fun (x : ObjRes) => if x.cmd = r.id then { x with result := some res } else x) }
    | .dict q => c.onObj fun o => { o with dictRes := o.dictRes.map (fun (x : DictRes) => if x.req = q ∧ x.entry = 0x2070 ∧ x.cmd = r.id then { x with result := some (entryBytes res) } else x) }
    | .fwd tag => c.sendTwin (.fwdCmdResult res) 0 tag
  let c := match r.path with | .fwd _ => c | _ => if err then (c.bump 0x2060 1).lastCmdError r res else c
  let mine := c.obj.tails.filter (fun t => decide (t.cmd = r.id))
  let c := mine.foldl (fun c t => c.freeSlots t.first t.granules) c
  let c := c.onObj fun o => { o with cmds := o.cmds.filter (fun x => x.id != r.id), tails := o.tails.filter (fun t => t.cmd != r.id) }
  c.startWaiting

/-- Segments of EVICT still to be written back: dirty in a group that takes programs (04 R132). -/
def Chip.evictBusy (c : Chip) (first n : Nat) : Bool :=
  c.cache.frames.any (fun p => decide (first ≤ p.2.seg ∧ p.2.seg < first + n ∧ p.2.dirty ≠ 0) && !c.groupFailed p.2.seg)

/-- Free the frames of an EVICT range but pinned ones and those a FAILED group holds (04 R132). -/
def Chip.evictRange (c : Chip) (first n : Nat) : Chip :=
  (c.cache.frames.filter (fun p => decide (first ≤ p.2.seg ∧ p.2.seg < first + n ∧ p.2.dirty = 0 ∧ p.2.kind ≠ .pin ∧ p.2.kind ≠ .pinFree))).foldl
    (fun c p => c.freeFrame p.1) c

/-- Complete a running command whose work has ended (Table 02-7, 08 R242). -/
def Chip.cmdCheck (c : Chip) (r : RunCmd) : Chip :=
  let mine := c.dolly.queue.any (fun q => decide (q.cmd = some r.id)) || c.dolly.opened.any (fun o => decide (o.cmd = some r.id)) ||
    c.dolly.pins.any (fun p => decide (p.cmd = r.id))
  if r.waits || r.result.isSome || (c.twin.fwdCmds.any (fun f => decide (f.cmd = r.id))) || !(c.cmdHere r.entry || (match r.path with | .fwd _ => true | _ => false)) then c
  else match opcodeOf r.entry with
    | 0x10 => if mine then c else c.finish r.id stOk 0 [(32, 8, r.done)]
    | 0x11 | 0x12 =>
      let other := c.dolly.pins.any (fun p => decide (r.first ≤ p.seg ∧ p.seg < r.first + r.count))
      if mine || other then c else c.finish r.id stOk 0 [(32, 8, r.done)]
    | 0x13 =>
      let c := c.runPromote r.id
      let r := (c.cmd r.id).getD r
      if r.next < r.count || c.cache.misses.any (fun m => decide (r.first ≤ lineSeg m.line ∧ lineSeg m.line < r.first + r.count)) then c
      else c.finish r.id stOk 0 [(32, 8, r.done)]
    | 0x14 =>
      if !c.dollyFree || c.evictBusy r.first r.count then c
      else
        let c := c.evictRange r.first r.count
        let left := c.cache.frames.filter (fun p => decide (r.first ≤ p.2.seg ∧ p.2.seg < r.first + r.count))
        let pinned := left.countP (fun p => decide (p.2.kind = .pin ∨ p.2.kind = .pinFree))
        let stuck := left.countP (fun p => decide (p.2.kind ≠ .pin ∧ p.2.kind ≠ .pinFree ∧ p.2.role = .primary))
        c.finish r.id (if left.any (fun p => decide (p.2.dirty ≠ 0) && c.groupFailed p.2.seg) then stMedium else stOk) 0
          [(32, 8, r.count - pinned - stuck), (40, 8, pinned)]
    | 0x03 =>
      if mine || c.obj.peerRekey.contains (objOf r.entry) then c
      else match c.obj.table.find (objOf r.entry) with
        | none => c
        | some o => (c.putObj (objOf r.entry) { o with oldKeyTag := none, olderTags := [], mirrorBuild := false }).finish r.id stOk
    | _ => c

end Sys2Proof.Machine
end

