-- ==== Sys2Proof/Machine/CommandRows.lean ====
section
/-! DEFINITION. The rows of the object commands, the cue rings and the reels (02 R55 to R72; 13 R370). -/

namespace Sys2Proof.Machine

/-- The level of a requester: 0 Observer, 1 Operator, 2 Custodian (13 R357, R364); 3 Vendor, once a return-to-vendor
unlock has granted it (12 R347 step 7). DESIGN CHOICE (notes/assumptions/103.md): it is granted to every requester,
because the unlock has cleared the keys by which the ring would tell them apart. -/
def Chip.levelOf (c : Chip) (a : Access) : Nat :=
  if c.sec.rtvState = 2 then 3
  else match a.req with
  | .ring _ => (match a.auth with | .none | .bad => 0 | .operator => 1 | .custodian => 2)
  | .mailbox h | .window h => c.mboxLevel h

/-- An entry with its opcode set: the row names the opcode. -/
def asOp (op : Nat) (e : CmdEntry) : CmdEntry := setField e 2 1 op

/-- CREATE (02 R59). -/
def execCreate (path : CmdPath) (entry : CmdEntry) (s : State) : Host.Outcome State Fault Refusal :=
  s.onChip fun c => c.command path (asOp 0x01 entry)

/-- DESTROY (02 R56, R60). -/
def execDestroy (path : CmdPath) (entry : CmdEntry) (s : State) : Host.Outcome State Fault Refusal :=
  s.onChip fun c => c.command path (asOp 0x02 entry)

/-- SET_ATTR (02 R55). -/
def execSetAttr (path : CmdPath) (entry : CmdEntry) (s : State) : Host.Outcome State Fault Refusal :=
  s.onChip fun c => c.command path (asOp 0x03 entry)

/-- QUERY (02 R58). -/
def execQuery (path : CmdPath) (entry : CmdEntry) (s : State) : Host.Outcome State Fault Refusal :=
  s.onChip fun c => c.command path (asOp 0x04 entry)

/-- RESIZE (02 R60, R435). -/
def execResize (path : CmdPath) (entry : CmdEntry) (s : State) : Host.Outcome State Fault Refusal :=
  s.onChip fun c => c.command path (asOp 0x05 entry)

/-- MOVE (08 R223). -/
def execMove (path : CmdPath) (entry : CmdEntry) (s : State) : Host.Outcome State Fault Refusal :=
  s.onChip fun c => c.command path (asOp 0x10 entry)

/-- PIN (04 R131). -/
def execPin (path : CmdPath) (entry : CmdEntry) (s : State) : Host.Outcome State Fault Refusal :=
  s.onChip fun c => c.command path (asOp 0x11 entry)

/-- UNPIN (08 R235). -/
def execUnpin (path : CmdPath) (entry : CmdEntry) (s : State) : Host.Outcome State Fault Refusal :=
  s.onChip fun c => c.command path (asOp 0x12 entry)

/-- PROMOTE (04 R111). -/
def execPromote (path : CmdPath) (entry : CmdEntry) (s : State) : Host.Outcome State Fault Refusal :=
  s.onChip fun c => c.command path (asOp 0x13 entry)

/-- EVICT (04 R132). -/
def execEvict (path : CmdPath) (entry : CmdEntry) (s : State) : Host.Outcome State Fault Refusal :=
  s.onChip fun c => c.command path (asOp 0x14 entry)

/-- ZERO (02 R60, R61). -/
def execZero (path : CmdPath) (entry : CmdEntry) (s : State) : Host.Outcome State Fault Refusal :=
  s.onChip fun c => c.command path (asOp 0x15 entry)

/-- REEL_OPEN (02 R70). -/
def execReelOpen (path : CmdPath) (entry : CmdEntry) (s : State) : Host.Outcome State Fault Refusal :=
  s.onChip fun c => c.command path (asOp 0x20 entry)

/-- REEL_JOIN (02 R71). -/
def execReelJoin (path : CmdPath) (entry : CmdEntry) (s : State) : Host.Outcome State Fault Refusal :=
  s.onChip fun c => c.command path (asOp 0x21 entry)

/-- REEL_ADVANCE (02 R71). -/
def execReelAdvance (path : CmdPath) (entry : CmdEntry) (s : State) : Host.Outcome State Fault Refusal :=
  s.onChip fun c => c.command path (asOp 0x22 entry)

/-- REEL_LEAVE (02 R72). -/
def execReelLeave (path : CmdPath) (entry : CmdEntry) (s : State) : Host.Outcome State Fault Refusal :=
  s.onChip fun c => c.command path (asOp 0x23 entry)

/-- Forget a forwarded command that is answered or given up. -/
def Chip.dropFwdCmd (c : Chip) (cmd : Nat) : Chip :=
  c.onTwin fun t => { t with fwdCmds := t.fwdCmds.filter (fun f => f.cmd != cmd) }

/-- DESTROY_RELEASE_DONE: the granules of a destroyed object are released and its poison records
removed, the entry becomes FREE and the DESTROY completes (02 R56, R60, R61; 07 R215). -/
def execDestroyReleaseDone (obj : Nat) (s : State) : Host.Outcome State Fault Refusal :=
  s.onChip fun c =>
    match c.obj.table.find obj with
    | some o =>
      if o.state = .destroying then
        let mine := c.obj.cmds.filter (fun r => decide (objOf r.entry = obj ∧ opcodeOf r.entry = 0x02 ∧ r.result = none) && !r.waits)
        let c := (((c.discardSegs (objFirst o) (objSegs o) true).clearPoisonRange (64 * objFirst o) (64 * objSegs o)).freeSlots o.base o.granules).delObj obj
        (mine.foldl (fun c r => c.finish r.id stOk) c).settle
      else c
    | none => c

/-- COMMAND_RESULT_WRITTEN: a command whose work has ended completes, and its result is written
into the cue ring entry with byte 63 last, or returned on its mailbox, dictionary or twin path; a
change of the tables or of the written map is on the medium first (02 R58, R67; 06 R198; 13 R370; 15 R391). -/
def execCommandResultWritten (cmd : Nat) (s : State) : Host.Outcome State Fault Refusal :=
  s.onChip fun c =>
    match c.cmd cmd with
    | none => c
    | some r =>
      let c := c.cmdCheck r
      match c.cmd cmd with
      | none => c
      | some r =>
        match r.result with
        | none => c
        | some res => if c.mediumPending r.durable then c else c.deliver r res

/-- COMMAND_UNREACHABLE_TIMEOUT: a command whose owning chip has not been reached for 1 ms returns
RETRY (02 R57): it waits for the link, or it crossed the link before that went down. -/
def execCommandUnreachableTimeout (cmd : Nat) (s : State) : Host.Outcome State Fault Refusal :=
  s.onChip fun c =>
    match c.cmd cmd with
    | none => c
    | some r =>
      let away := !c.cmdHere r.entry && (match r.path with | .fwd _ => false | _ => true)
      let lost := c.twin.fwdCmds.any (fun f => decide (f.cmd = cmd) && f.lost)
      if r.result.isNone && away && (lost || !c.paired || !c.linkReady) then (c.finish cmd stRetry).dropFwdCmd cmd else c

/-- Read one entry at HEAD: HEAD advances, EXP_PHASE inverts at the wrap; a CPH that differs
completes with PHASE_ERROR (02 R65). -/
def Chip.cueReadOne (c : Chip) (h : HeadNo) : Chip :=
  let q := (c.head h).cue
  let slot := q.head
  let e : CmdEntry := BitVec.ofNat 512 (ofBytes (q.entries.read (64 * slot.toNat) 64))
  let c := c.onHead h fun d =>
    { d with cue := { d.cue with head := slot + 1, expPhase := if slot = 255 then !q.expPhase else q.expPhase } }
  if cphOf e = q.expPhase then (c.addCmd (.cue h slot) e).2
  else
    let c := c.onHead h fun d => { d with cue := { d.cue with phaseErr := true } }
    let res := mkResult e (objOf e) stPhase 0 (c.userTag (objOf e)) []
    let c := c.cueResult h slot res
    (c.bump 0x2060 1).lastCmdError { path := .cue h slot, entry := e } res

/-- Read entries from HEAD up to TAIL, in order. -/
def Chip.cueRead (c : Chip) (h : HeadNo) : Nat → Chip
  | 0 => c
  | n + 1 => if (c.head h).cue.head = (c.head h).cue.tail then c else (c.cueReadOne h).cueRead h n

/-- The control window of a head is reached (03 R103, R104): the head is present, its link is up and the main
domain runs. -/
def Chip.windowOpen (c : Chip) (h : HeadNo) : Bool :=
  decide (h.val < c.id.part.heads) && decide ((c.head h).link = .up) && c.boot.mainOut

/-- A write of CUE_TAIL: a doorbell. With ENABLE 0 or a reset busy the write is dropped and TAIL_ERR set
(02 R65, R66, Table 02-9). -/
def Chip.cueTail (c : Chip) (h : HeadNo) (tail : BitVec 8) : Chip :=
  let q := (c.head h).cue
  if !q.enable || q.resetBusy then c.onHead h fun d => { d with cue := { d.cue with tailErr := true } }
  else ((c.onHead h fun d => { d with cue := { d.cue with tail := tail } }).cueRead h 256).startWaiting

/-- A write of 1 to RESET of CUE_CTRL: the device stops reading entries and sets RESET_BUSY (02 R68). -/
def Chip.cueReset (c : Chip) (h : HeadNo) : Chip := c.onHead h fun d => { d with cue := { d.cue with resetBusy := true } }

/-- CUE_TAIL (02 R65). -/
def execCueTail (h : HeadNo) (tail : BitVec 8) (s : State) : Host.Outcome State Fault Refusal :=
  s.onChip fun c => if c.windowOpen h then c.cueTail h tail else c

/-- CUE_RESET (02 R68). -/
def execCueReset (h : HeadNo) (s : State) : Host.Outcome State Fault Refusal :=
  s.onChip fun c => if c.windowOpen h then c.cueReset h else c

/-- CUE_RESET_DONE: with every command in flight complete, HEAD and TAIL become 0, EXP_PHASE 1 and
RESET_BUSY clears (02 R68). -/
def execCueResetDone (h : HeadNo) (s : State) : Host.Outcome State Fault Refusal :=
  s.onChip fun c =>
    if (c.head h).cue.resetBusy && (c.ringCmds h).isEmpty then
      c.onHead h fun d => { d with cue := { d.cue with head := 0, tail := 0, expPhase := true, resetBusy := false } }
    else c

/-- CUE_COALESCE_EXPIRED: the delay after the first unsignalled result ends (03 R96). -/
def execCueCoalesceExpired (h : HeadNo) (s : State) : Host.Outcome State Fault Refusal :=
  s.onChip fun c =>
    if (c.head h).cue.delaying then
      (c.onHead h fun d => { d with cue := { d.cue with delaying := false } }).emit (.msix h 2)
    else c

/-- REEL_STALL_TIMEOUT: a reader that has not advanced is removed (02 R71). -/
def execReelStallTimeout (reel reader : Nat) (s : State) : Host.Outcome State Fault Refusal :=
  s.onChip fun c => c.dropReader reel reader

/-- Bring a segment in and hold its frame for a reel; a pinned segment is resident and takes no hold (02 R69; 04 R131). -/
def Chip.bringInHold (c : Chip) (seg : Nat) : Bool × Chip :=
  match c.bringIn seg 6 with
  | (some f, c) => if (c.frame f).kind = .pin then (false, c) else (true, c.onFrame f fun x => { x with holds := x.holds + 1 })
  | (none, c) => (false, c)

/-- REEL_PREFETCH: a position of the window is brought in and held (02 R69; 04 R111; 07 R218): the
frame's REEL_HOLDS rises, but for a pinned segment (04 R131). A position with its home on the other chip is brought in and
held there, which it confirms. -/
def execReelPrefetch (reel pos : Nat) (s : State) : Host.Outcome State Fault Refusal :=
  s.onChip fun c =>
    match c.reel reel with
    | none => c
    | some r =>
      let seg := c.reelSeg r pos
      if r.held.contains pos || !decide (r.minCursor ≤ pos ∧ pos < r.minCursor + r.window ∧ pos < r.count) ||
         c.dolly.paused then c
      else if !c.homeHere seg then (if c.paired then c.sendTwin (.tableUpdate (.reelHold seg true)) else c)
      else
        let (got, c) := c.bringInHold seg
        if got then c.onReel reel fun q => { q with held := insertNat q.held pos } else c

/-- The action of OBJ_CMD (2070:01): an abort code, 0 for none (02 R63; 13 R370). SCRUB below the
Custodian level completes with ACCESS_DENIED. -/
def Chip.objCmd (c : Chip) (a : Access) (e : CmdEntry) : Nat × Chip :=
  if c.obj.dictRes.any (fun x => decide (x.req = a.req ∧ x.entry = 0x2070 ∧ x.result = none)) then (abConflict, c)
  else
    let (id, c) := c.addCmd (.dict a.req) e
    let c := c.onObj fun o =>
      { o with dictRes := o.dictRes.filter (fun x => !decide (x.req = a.req ∧ x.entry = 0x2070)) ++ [{ req := a.req, entry := 0x2070, cmd := id }] }
    let scrub := [0x02, 0x05, 0x15].contains (opcodeOf e) && bit (flagsOf e) 0
    (0, if scrub && c.levelOf a < 2 then c.finish id stDenied else c.run id)

end Sys2Proof.Machine
end

