-- ==== Sys2Proof/Machine/Dolly.lean ====
section
/-! DEFINITION. The dolly: granules in motion, segment steps, the switch, pin moves, evacuation
(08 R222 to R244). -/

namespace Sys2Proof.Machine

/-- Kinds of move as the journal numbers them, in the order of Table 08-1. -/
def MoveKind.code : MoveKind → Nat
  | .medium => 1 | .cross => 2 | .swap => 3 | .rekey => 4 | .mirrorBuild => 5

/-- The body of a journal entry: object, granule, kind, source slot and chip, target slot and chip,
new key tag (08 R224). -/
def OpenGran.image (pos : Nat) (o : OpenGran) : List Byte :=
  let d := o.dst.getD {}
  let here := decide (o.dst.isSome)
  toBytes 4 o.obj ++ toBytes 4 o.gran ++ [BitVec.ofNat 8 (MoveKind.code o.kind)] ++
  toBytes 4 o.src.slot ++ [BitVec.ofNat 8 o.src.group, BitVec.ofNat 8 (if o.isTarget then 1 - pos else pos)] ++
  toBytes 4 d.slot ++ [BitVec.ofNat 8 d.group, BitVec.ofNat 8 (if here then pos else 1 - pos), o.key]

/-- Place of journal entry `e` (11 R305). -/
def journalAt (e : Nat) : RecordAt := { a := 0x2FC000 + 64 * e, b := 0x3FC000 + 64 * e, size := 32 }

/-- Write a journal entry for an open granule (08 R224 step 3). -/
def Chip.journalPut (c : Chip) (o : OpenGran) : Chip :=
  let e := lowestFree (c.dolly.journal.map Prod.fst) 0 c.dolly.journal.length
  (c.onDolly fun d => { d with journal := d.journal.put e o }).writeRecord .system (journalAt e) (o.image c.pos)

/-- Clear the journal entry of a granule (08 R225 step 3). -/
def Chip.journalDel (c : Chip) (gran : Nat) : Chip :=
  match c.dolly.journal.find? (fun p => decide (p.2.gran = gran)) with
  | none => c
  | some p => (c.onDolly fun d => { d with journal := d.journal.del p.1 }).writeRecord .system (journalAt p.1) []

/-- Open a granule: record, journal, MOVING, by way of the descriptor that every cache loads anew (08 R224; 04 R134). -/
def Chip.openMove (c : Chip) (o : OpenGran) : Chip :=
  ((c.onDolly fun d => { d with opened := d.opened ++ [o], queue := d.queue.filter (fun q => q.gran != o.gran || decide (q.kind ≠ o.kind)) }).journalPut o).descInval o.obj

/-- Close a granule's record; MOVING clears with the object's last one (08 R225 step 4; 04 R134). -/
def Chip.closeMove (c : Chip) (o : OpenGran) : Chip :=
  ((c.onDolly fun d => { d with opened := d.opened.filter (fun x => x.gran != o.gran) }).journalDel o.gran).descInval o.obj

/-- A command of the dolly stops: its queued granules are dropped and it ends with a status. -/
def Chip.stopCmd (c : Chip) (cmd : Option Nat) (status : Nat) : Chip :=
  match cmd with
  | none => c
  | some id =>
    let n := ((c.cmd id).map (·.done)).getD 0
    (c.onDolly fun d => { d with queue := d.queue.filter (fun q => q.cmd != some id) }).finish id status 0 [(32, 8, n)]

/-- Segments of a granule that are pinned here (08 R224 step 2). -/
def Chip.pinnedIn (c : Chip) (gran : Nat) : List Nat :=
  ((c.cache.frames.filter (fun p => decide (p.2.kind = .pin ∧ segGran p.2.seg = gran))).map (fun p => p.2.seg))

/-- The group of an evacuation's mask with the most free granules, the lowest-numbered among equals;
16 and up name the other chip's (08 R243). -/
def Chip.evacTarget (c : Chip) (mask : Nat) (own : Bool) : Option Nat :=
  let cands := ((List.range 4).filter (fun g => bit mask g)).map (fun g => (g, c.freeGranules g)) ++
    (if own then ((List.range 4).filter (fun g => bit mask (4 + g))).map (fun g => (16 + g, c.peerFree g)) else [])
  (cands.foldl (fun b x => if x.2 = 0 then b else match b with
    | none => some x
    | some y => if y.2 < x.2 then some x else some y) none).map Prod.fst

/-- What the dolly opens next for a granule: a queued move, or one of the evacuation. -/
def Chip.nextMove (c : Chip) (gran : Nat) : Option Queued :=
  match c.dolly.queue.find? (fun q => decide (q.gran = gran)) with
  | some q => some q
  | none =>
    match c.dolly.evac with
    | none => none
    | some v =>
      if !v.left.contains gran || v.stopping then none
      else
        let home := c.homeHere (512 * gran)
        match c.objAtGran gran, c.evacTarget v.mask.toNat home with
        | some (id, o), some g => some { cmd := none, obj := id, gran := gran, group := g, kind := if g < 16 then .medium else if o.mirror then .swap else .cross }
        | _, _ => none

/-- The dolly may start work (08 R237). -/
def Chip.dollyRuns (c : Chip) : Bool := c.dollyFree && !c.missWaits

/-- GRANULE_OPEN: the slot at the target is reserved, or the command returns NO_CAPACITY; a cross-chip
move needs a PIN_FREE frame there for each pinned segment, `pinRoom` saying whether the other chip
has them; the journal is written and MOVING set (08 R224). -/
def execGranuleOpen (gran : Nat) (pinRoom : Bool) (s : State) : Host.Outcome State Fault Refusal :=
  s.onChip fun c =>
    match c.nextMove gran, c.med.slots.find gran with
    | some q, some src =>
      if 64 ≤ c.dolly.opened.length || (c.openGran gran).isSome || !c.dollyRuns ||
         c.dolly.opened.any (fun x => q.cmd.isSome && decide (x.cmd = q.cmd) && x.poisoned) then c
      else
        let key := match c.obj.table.find q.obj with | some o => o.keyTag | none => 0
        let base : OpenGran := { cmd := q.cmd, obj := q.obj, gran := gran, kind := q.kind, src := src, key := key }
        let c := c.onDolly fun d => { d with evac := d.evac.map (fun (v : Evac) => { v with left := if q.cmd = none then v.left.erase gran else v.left }) }
        match q.kind with
        | .mirrorBuild => c.openMove base
        | .swap | .cross =>
          let g := q.group % 16
          let room := decide (q.kind = .swap) || (if g = 15 then decide (0 < (c.groupNos.map c.peerFree).sum) else decide (0 < c.peerFree g))
          let pins := c.pinnedIn gran
          if !room then c.stopCmd q.cmd stNoCapacity
          else if !pins.isEmpty && !pinRoom then c.stopCmd q.cmd stNoPin
          else (c.openMove base).sendTwin (.tableUpdate (.openMove gran q.obj (if g = 15 then 0xFF else g) key (decide (q.kind = .swap)) pins))
        | .medium | .rekey =>
          let g := if q.kind = .rekey then src.group else q.group
          match c.freeSlot g with
          | none => c.stopCmd q.cmd stNoCapacity
          | some n =>
            let d : Slot := { group := g, slot := n }
            (c.cleanSlot d).openMove { base with dst := some d }
    | _, _ => c

/-- Segments in CLAIMED or COPIED, at most 256 (08 R226). -/
def Chip.stagedCount (c : Chip) : Nat := (c.dolly.opened.map (fun o => o.segs.countP (fun p => decide (p.2 ≠ .switched)))).sum

/-- No write-back snapshot of the segment is open (08 R226 step 1). -/
def Chip.noSnapshot (c : Chip) (seg : Nat) : Bool :=
  !c.cache.frames.any (fun p => decide (p.2.seg = seg ∧ p.2.wb ≠ 0))

/-- The clean written lines of a segment, which the copy takes (08 R226 step 2). -/
def Chip.copyLines (c : Chip) (seg : Nat) : List Nat :=
  ((List.range 64).filter (fun n => (c.written seg).getLsbD n && !c.lineDirty (64 * seg + n))).map (fun n => 64 * seg + n)

/-- Each channel on which the copy of a segment reads the medium holds fewer than 8 reads in its queue (08 R237); a line
whose member cannot be read is read from the other eight. -/
def Chip.dollyRoom (c : Chip) (seg : Nat) : Bool :=
  (c.copyLines seg).all fun l =>
    match c.held l, c.linePlace l with
    | none, some p =>
      (if c.memberReads p.group p.member p.row p.unit then [p.member] else p.others).all
        fun m => decide ((c.chan (memberChan p.group m)).reads.length < 8)
    | _, _ => true

/-- The units that the copy reads from the medium, with READ_UNIT (08 R226 step 2): member, row and unit; those of the other
members for one that cannot be read. -/
def Chip.copyUnits (c : Chip) (lines : List Nat) : List (Nat × Nat × Nat) :=
  ((lines.filter (fun l => (c.held l).isNone)).flatMap (fun l => match c.linePlace l with
    | some p =>
      let ms := if c.memberReads p.group p.member p.row p.unit then [p.member] else p.others.filter (fun m => c.memberReads p.group m p.row p.unit)
      ms.map (fun m => (memberChan p.group m, p.row, p.unit))
    | none => [])).eraseDups

/-- What the copy reads of a line: from a frame, or from the medium; a line of a missing member of a
FAILED group is poisoned (08 R227). -/
def Chip.copyValue (c : Chip) (line : Nat) : Stored :=
  if (c.poisonAt line).isSome then { data := 0, poison := true }
  else match c.held line with
    | some (_, v) => v
    | none => c.mediumLine line

/-- The copy cannot read the line: its group is FAILED and its member missing (06 R179, 08 R227). -/
def Chip.copyLost (c : Chip) (line : Nat) : Bool :=
  match c.linePlace line with
  | some p => (c.held line).isNone && decide ((c.group p.group).state = .failed) && !c.memberReads p.group p.member p.row p.unit
  | none => false

/-- SEGMENT_CLAIM: segments with no open write-back snapshot enter CLAIMED and their clean written
lines are staged and handed to the target's write scheduler, or sent to the partner; a pair of
segments claimed together programs its stripe full. `bad`: the lines that the copy's reads decode uncorrectable; each runs or
joins a recovery, which the claim waits for, and one that is then declared uncorrectable is copied as poisoned (07 R210;
08 R226, R227, R237). -/
def execSegmentClaim (seg : Nat) (pair : Bool) (bad : List Nat) (s : State) : Host.Outcome State Fault Refusal :=
  s.onChip fun c =>
    match c.openGran (segGran seg) with
    | none => c
    | some o =>
      let segs := if pair then [seg / 2 * 2, seg / 2 * 2 + 1] else [seg]
      if o.isTarget || !c.dollyRuns || 256 < c.stagedCount + segs.length ||
         segs.any (fun x => (o.stage x).isSome || !c.noSnapshot x || (o.kind != .swap && !c.dollyRoom x)) then c
      else if o.kind = .swap then segs.foldl (fun c x => c.setStage x .claimed) c
      else
        let lines := segs.flatMap c.copyLines
        let suspects := o.suspect.filter (fun l => segs.contains (lineSeg l))
        let fresh := lines.filter (fun l => bad.contains l && suspects.isEmpty && (c.held l).isNone && (c.poisonAt l).isNone && !c.copyLost l)
        let c := if suspects.isEmpty then (c.copyUnits lines).foldl (fun c x => c.gmi x.1 (.readUnit x.2.1 x.2.2 0)) c else c
        if !fresh.isEmpty then
          (fresh.foldl (fun c l => c.detect l 6) c).onGran o.gran fun x => { x with suspect := x.suspect ++ fresh }
        else if suspects.any (fun l => (c.missOf l).isSome) then c
        else
        let lost := lines.filter (fun l => c.copyLost l && (c.poisonAt l).isNone)
        let declared := !lost.isEmpty || suspects.any (fun l => (c.poisonAt l).isSome)
        let c := lost.foldl (fun c l => c.declare l 6) c
        let c := c.onGran o.gran fun x => { x with poisoned := x.poisoned || declared, suspect := x.suspect.filter (fun l => !suspects.contains l) }
        let c := segs.foldl (fun c x => c.setStage x .claimed) c
        let c := lines.foldl (fun c l => c.readCopy l .staging) c
        let c := c.bump 0x2040 5 (64 * lines.length)
        match o.dst with
        | some d =>
          let stripe := stripeOf d.slot (seg % 512)
          let put (l : Nat) : Nat × MedLine :=
            let v := c.copyValue l
            (medKey d (lineSeg l) (lineSector l), { data := if v.poison then 0 else v.data, key := c.keyOf (if o.kind = .rekey then o.key else (match c.obj.table.find o.obj with | some x => x.oldKeyTag.getD x.keyTag | none => o.key)), poison := v.poison })
          let id := c.cache.nextOp
          if lines.isEmpty then c
          else (c.newOp d.group stripe .dolly pair (lines.map put) []).onOp id fun x => { x with units := if pair then List.range 8 else [] }
        | none =>
          segs.foldl (fun c x =>
            let ls := (c.copyLines x).map (fun l => (lineSector l, c.copyValue l))
            c.sendTwin (.mirrorData (ls.map (fun p => (p.1, p.2.data))) (c.written x) (poisonMask ls)) (64 * x) 0 0 false true true) c

/-- The programs of a staged segment at the target are confirmed. -/
def Chip.stagedDone (c : Chip) (o : OpenGran) (seg : Nat) : Bool :=
  match o.dst with
  | none => true
  | some d => !c.cache.wb.any (fun x => decide (x.cause = .dolly) && !x.finished && x.lines.any (fun l => decide (l.1 / 64 = segKey d seg)))

/-- SEGMENT_COPIED: the staged data is programmed at the target (Table 08-2). -/
def execSegmentCopied (seg : Nat) (s : State) : Host.Outcome State Fault Refusal :=
  s.onChip fun c =>
    match c.openGran (segGran seg) with
    | some o => if o.stage seg = some .claimed && c.stagedDone o seg then c.setStage seg .copied else c
    | none => c

/-- SEGMENT_SWITCH: for a medium or rekey move the home moves in one step, the written bitmap with it
(08 R228); a cross-chip switch starts with MOVE_PREP (08 R229); a mirror build switches nothing. -/
def execSegmentSwitch (seg : Nat) (s : State) : Host.Outcome State Fault Refusal :=
  s.onChip fun c =>
    match c.openGran (segGran seg) with
    | none => c
    | some o =>
      if o.isTarget || o.stage seg != some .copied || o.prep.contains (seg % 512) then c
      else match o.kind with
        | .cross | .swap => (c.onGran o.gran fun x => { x with prep := insertNat x.prep (seg % 512) }).sendTwin .movePrep (64 * seg) 0 0 false true
        | .mirrorBuild => (c.setStage seg .switched).bump 0x2040 6
        | .medium | .rekey =>
          let m := c.written seg
          ((c.setStage seg .switched).setWritten seg m).bump 0x2040 6

/-- SGROUP of an object follows the groups of its granules on this chip (08 R223). -/
def Chip.fixSgroup (c : Chip) (id : Nat) : Chip :=
  match c.obj.table.find id with
  | none => c
  | some o =>
    let gs := ((c.med.slots.filter (fun p => decide (o.base ≤ p.1 ∧ p.1 < o.base + o.granules))).map (fun p => p.2.group)).eraseDups
    let sg : BitVec 8 := match gs with | [g] => BitVec.ofNat 8 g | [] => o.sgroup | _ => 0xFF
    if sg = o.sgroup then c else c.putObj id { o with sgroup := sg }

/-- Release a slot: its generation rises and its lines are unreachable (06 R198, 08 R225). -/
def Chip.releaseSlot (c : Chip) (p : Slot) : Chip := c.zeroSlot p

/-- An evacuation ends when its last granule has committed, or is stopped (08 R243). -/
def Chip.evacCheck (c : Chip) : Chip :=
  match c.dolly.evac with
  | none => c
  | some v =>
    let busy := c.dolly.opened.any (fun o => decide (o.cmd = none ∧ o.src.group = v.src ∧ o.kind ≠ .mirrorBuild))
    if busy then c
    else if v.stopping then
      (c.onDolly fun d => { d with evac := none, evacState := 4 }).onGroup v.src fun g => { g with evacuating := false }
    else if v.left.isEmpty then
      ((c.onDolly fun d => { d with evac := none, evacState := 2 }).onGroup v.src fun g => { g with evacuating := false, evacuated := true }).setGroup v.src .empty
    else c

/-- A mirror copy of a granule has been rebuilt: its stale mark clears, and a build's command
advances (09 R270 step 7). -/
def Chip.unstale (c : Chip) (gran : Nat) : Chip := c.onMed fun m => { m with stale := m.stale.erase gran }

/-- Roll an open granule back (08 R239, R240): switched segments return to the source, which is
current, and the target slot is released. -/
def Chip.rollback (c : Chip) (o : OpenGran) : Chip :=
  let back := (o.segs.filter (fun p => decide (p.2 = .switched))).map Prod.fst
  let c := match o.dst with
    | some d =>
      let c := if o.commitAt.isSome then (c.onMed fun m => { m with slots := m.slots.put o.gran o.src }).tableChanged else c
      c.releaseSlot d
    | none => if o.isTarget then c else back.foldl (fun c n => c.becomeLocal (512 * o.gran + n)) c
  (c.closeMove o).bump 0x2040 8

/-- The target of a granule move on this chip has FAILED (Table 08-5). -/
def Chip.targetFailed (c : Chip) (o : OpenGran) : Bool :=
  match o.dst with | some d => decide ((c.group d.group).state = .failed) | none => false

/-- Clear the stale-marked builds' command range once nothing is left (09 R271): the serving chip
hands adopted objects back. -/
def Chip.autoFailback (c : Chip) : Chip :=
  let adopted := c.obj.table.filter (fun p => p.2.adopted && p.2.mirror)
  if adopted.isEmpty || !c.paired || c.par 0x5030 3 1 = 0 || c.twin.hand != .idle ||
     c.med.stale.any (fun g => adopted.any (fun p => decide (p.2.base ≤ g ∧ g < p.2.base + p.2.granules))) then c
  else (c.onTwin fun t => { t with hand := .begun, handState := 1, handBack := true }).sendTwin .handoverBegin

/-- A granule of a rekey that the partner's command asked for is done: after the last one it is told (02 R55). -/
def Chip.rekeyDone (c : Chip) (o : OpenGran) : Chip :=
  if o.kind = .rekey && o.cmd.isNone && !c.dolly.queue.any (fun q => decide (q.obj = o.obj ∧ q.kind = .rekey ∧ q.cmd = none)) &&
     !c.dolly.opened.any (fun x => decide (x.obj = o.obj ∧ x.kind = .rekey ∧ x.cmd = none)) then
    c.sendTwin (.tableUpdate (.rekeyed o.obj))
  else c

/-- Steps 1 and 2 of a commit on this chip: the bitmaps and the record of the target slot, and the tables with the target as
the granule's slot, go to the medium (08 R225). -/
def Chip.commitSlot (c : Chip) (o : OpenGran) (d : Slot) : Chip :=
  let c := ((c.mapWrite (slotKey d)).onMed fun m => { m with slots := m.slots.put o.gran d }).tableChanged
  c.onGran o.gran fun x => { x with commitAt := some c.cache.nextOp }

/-- GRANULE_COMMIT: with all 512 segments switched the target slot becomes the granule's home: maps,
slot record and tables programmed, then granule map and route map changed on both chips, the source slot released,
the journal cleared (08 R225). A granule whose target group is FAILED rolls back and its command ends
with MEDIUM_ERROR (08 R239); so does the command of a granule with an uncorrectable line, after the
commit (08 R227). -/
def execGranuleCommit (gran : Nat) (s : State) : Host.Outcome State Fault Refusal :=
  s.onChip fun c =>
    match c.openGran gran with
    | none => c
    | some o =>
      if o.isTarget then c
      else if c.targetFailed o then ((c.rollback o).stopCmd o.cmd stMedium).evacCheck
      else if !(List.range 512).all (fun n => o.switched n) then c
      else if o.dst.isSome && o.commitAt.isNone then (match o.dst with | some d => c.commitSlot o d | none => c)
      else if c.mediumPending (o.commitAt.getD 0) then c
      else
        let c := match o.cmd with | some id => c.onCmd id fun r => { r with done := r.done + 512 } | none => c
        let c := match o.kind with
          | .medium | .rekey =>
            match o.dst with
            | none => c
            | some d =>
              let c := c.releaseSlot o.src
              c.sendTwin (.tableUpdate (.granule gran (some (d.group, d.slot))))
          | .cross =>
            let c := (c.onMed fun m => { m with slots := m.slots.del gran }).releaseSlot o.src
            let c := c.setRoute gran (!c.twin.position)
            (c.sendTwin (.tableUpdate (.route gran (!c.twin.position)))).sendTwin (.tableUpdate (.closeMove gran true))
          | .swap =>
            let c := c.setRoute gran (!c.twin.position)
            (c.sendTwin (.tableUpdate (.route gran (!c.twin.position)))).sendTwin (.tableUpdate (.closeMove gran true))
          | .mirrorBuild => c.unstale gran
        let c := (c.closeMove o).rekeyDone o
        let c := match o.kind with | .medium => c.fixSgroup o.obj | .cross => c.fixSgroup o.obj | _ => c
        let c := if o.poisoned then c.stopCmd o.cmd stMedium else c
        c.evacCheck.autoFailback

/-- The frames of a segment whose content a pin move takes: the primary, or a detached pair, the first of it first. -/
def Chip.pinSource (c : Chip) (seg : Nat) : List Nat :=
  match c.lookup seg with | some g => [g] | none => c.detached seg

/-- No reel holds a frame for a pinned segment (04 R131): its positions leave the reels' holds. -/
def Chip.unholdSeg (c : Chip) (seg : Nat) : Chip :=
  c.onObj fun x => { x with
    peerHolds := x.peerHolds.filter (· != seg)
    reels := x.reels.map (fun (r : Reel) => { r with held := r.held.filter (fun k => c.reelSeg r k != seg) }) }

/-- A pinned segment of the segment's move takes its place: the PIN frame holds every written line and
takes the tag as primary; the old frames follow (08 R234 step 3). A shadow that would share its pseudo-channel is first
copied to another (04 R117). -/
def Chip.pinSwitch (c : Chip) (p : PinMove) : Chip :=
  let seg := p.seg; let f := p.frame
  let c := match c.lookup seg with | some g => c.partShadow g f | none => c
  let old := c.lookup seg
  let det := c.detached seg
  let dirty := c.segDirty seg
  let m := c.written seg
  let was : Frame := match c.pinSource seg with | g :: _ => c.frame g | [] => {}
  let c := (List.range 64).foldl (fun c n =>
    if !m.getLsbD n && !dirty.getLsbD n then c
    else match c.held (64 * seg + n) with
      | some (_, v) => c.setSector f n v
      | none => if (c.missOf (64 * seg + n)).isSome then c else c.setSector f n (c.copyValue (64 * seg + n))) c
  let absent (n : Nat) : Bool := (c.held (64 * seg + n)).isNone && (c.missOf (64 * seg + n)).isSome
  let valid := (List.range 64).foldl (fun v n => if (m.getLsbD n || dirty.getLsbD n) && !absent n then setBit v n else v) (0 : BitVec 64)
  let pend := (List.range 64).foldl (fun v n => if absent n then setBit v n else v) (0 : BitVec 64)
  let shadow : Option Nat := match old with
    | some g => (c.frame g).peer
    | none => match det with
      | d :: e :: _ => if frameIndex d = frameIndex f then some e else some d
      | _ => none
  let c := match old with | some g => c.freeFrame g | none => (det.filter (fun d => some d != shadow)).foldl (fun c d => c.freeFrame d) c
  let c := c.setFrame f { seg := seg, kind := .pin, age := 2, valid := valid, dirty := dirty, pending := pend, wb := was.wb, peer := shadow,
                          dirtyAt := was.dirtyAt, lastUse := was.lastUse, once := was.once }
  let c := c.onCache fun k => { k with misses := k.misses.map (fun m => if lineSeg m.line = seg then { m with frame := some f } else m) }
  let c := c.unholdSeg seg
  match shadow with
  | some g => c.onFrame g fun x => { x with role := .shadow, second := false, peer := some f }
  | none => c

/-- An unpin move takes its place: a new primary, or with no way to be had a detached pair
(08 R235; 04 R117). -/
def Chip.unpinSwitch (c : Chip) (p : PinMove) : Chip :=
  let f := p.frame
  match c.allocate p.seg .clean with
  | (some g, c) => ((c.partShadow f g).moveFrame f g).onFrame g fun x => { x with kind := if x.dirty = 0 then .clean else .dirty }
  | (none, c) =>
    let c := c.onCache fun k => { k with misses := k.misses.map (fun m => if m.frame = some f then { m with frame := none } else m) }
    let fr := c.frame f
    if fr.dirty = 0 then c.freeFrame f
    else match c.takeFrame fr.peer with
      | none => c
      | some g =>
        let c := (c.choose.moveFrame f g).onFrame g fun x =>
          { x with kind := .outside, role := .detached, valid := fr.dirty, pending := 0 }
        match fr.peer with | some q => c.onFrame q fun x => { x with role := .detached, second := true } | none => c

/-- PIN_MOVE_SWITCH: the copy of a pin or unpin move is done and the frames change in one pipeline
step (08 R234, R235). The descriptor's MOVING may clear: every cache loads it anew (04 R134). -/
def execPinMoveSwitch (seg : Nat) (s : State) : Host.Outcome State Fault Refusal :=
  s.onChip fun c =>
    match c.dolly.pins.find? (fun p => decide (p.seg = seg)) with
    | none => c
    | some p =>
      if !c.dollyFree then c else
      let c := if p.into then c.pinSwitch p else c.unpinSwitch p
      let c := c.onDolly fun d => { d with pins := d.pins.filter (fun x => x.seg != seg) }
      let c := match c.objAtGran (segGran seg) with | some (id, _) => c.descInval id | none => c
      let c := c.bump 0x2040 6
      (c.onObj fun o => { o with cmds := o.cmds.map (fun r =>
        if r.result.isNone && !r.waits && decide (opcodeOf r.entry = (if p.into then 0x11 else 0x12) ∧ r.first ≤ seg ∧ seg < r.first + r.count) then
          { r with done := r.done + 1 } else r) }).settle

/-- The open granule of which this chip is T. -/
def Chip.targetOf (c : Chip) (seg : Nat) : Option OpenGran := (c.openGran (segGran seg)).filter (·.isTarget)

/-- MOVE_PREP at T (08 R229 step 2): in squall mode, or with no budget and frames for 64 lines, it
answers MOVE_ABORT; otherwise it parks the segment's requests and answers MOVE_PARKED with the count
of its forwarded requests. -/
def execMovePrep (hdr : TwinHdr) (s : State) : Host.Outcome State Fault Refusal :=
  s.onChip fun c => c.ctlIn hdr fun c =>
    let seg := lineSeg hdr.line
    match c.targetOf seg with
    | none => c.sendTwin .moveAbort (64 * seg) 0 0 false true
    | some o =>
      let k := c.reservedSegs + 1
      if c.cache.squall != 0 || c.cache.budget < c.dirtyTotal + 4096 * k || c.windowCap < c.windowUse + 2 * k then
        c.sendTwin .moveAbort (64 * seg) 0 0 false true
      else
        let n := c.twin.fwd.countP (fun p => decide (lineSeg p.req.line = seg))
        (c.onGran o.gran fun x => { x with prep := insertNat x.prep (seg % 512), waiting := (x.waiting.filter (fun w => w.1 != seg % 512)) ++ [(seg % 512, c.now)] }).sendTwin
          (.moveParked n) (64 * seg) 0 0 false true

/-- MOVE_PARKED at S (08 R229 step 3): S waits for that many forwarded requests, then hands over. -/
def execMoveParked (hdr : TwinHdr) (count : Nat) (s : State) : Host.Outcome State Fault Refusal :=
  s.onChip fun c => c.ctlIn hdr fun c =>
    let seg := lineSeg hdr.line
    match c.openGran (segGran seg) with
    | some o =>
      if o.isTarget || !o.prep.contains (seg % 512) then c
      else (c.onGran o.gran fun x => { x with waiting := x.waiting ++ [(seg % 512, count)] }).settleMoves
    | none => c

/-- Place one handed-over line at T: in two frames, in the local frame of a swap, or in the PIN frame
reserved for the segment (08 R229 step 5, R235). -/
def Chip.placeHanded (c : Chip) (seg : Nat) (dirty poison : BitVec 64) (l : Nat × Line) : Chip :=
  let v : Stored := { data := l.2, poison := poison.getLsbD l.1 }
  let line := 64 * seg + l.1
  let c := if v.poison then c.addPoison line 1 else c
  if dirty.getLsbD l.1 then (c.placeLine line l.2 fullMask v.poison true none).getD c
  else match c.lookup seg with
    | some f => c.copySector l.1 v f
    | none => c

/-- The PIN frame reserved at T for a segment of a cross-chip move. -/
def Chip.reservedPin (c : Chip) (seg : Nat) : Option Nat :=
  (c.cache.frames.find? (fun p => decide (p.2.kind = .pinFree ∧ p.2.seg = seg))).map Prod.fst

/-- Serve the parked requests of a segment, in order. -/
def Chip.serveParked (c : Chip) (seg : Nat) : Chip :=
  let mine := c.dolly.parked.filter (fun r => decide (lineSeg r.line = seg))
  let c := c.onDolly fun d => { d with parked := d.parked.filter (fun r => lineSeg r.line != seg) }
  mine.foldl (fun c r => c.lateRequest r) c

/-- MOVE_HANDOVER at T (08 R229 step 5): the segment's lines are placed, T is its home, serves the
parked requests and answers MOVE_DONE. -/
def execMoveHandover (hdr : TwinHdr) (bitmap dirty poison : BitVec 64) (lines : List (Nat × Line)) (s : State) :
    Host.Outcome State Fault Refusal :=
  s.onChip fun c => c.ctlIn hdr fun c =>
    let seg := lineSeg hdr.line
    match c.targetOf seg with
    | none => c
    | some o =>
      let since := ((o.waiting.find? (fun w => decide (w.1 = seg % 512))).map Prod.snd).getD c.now
      let c := (c.onGran o.gran fun x =>
        { x with segs := x.segs.put (seg % 512) .switched, prep := x.prep.erase (seg % 512), waiting := x.waiting.filter (fun w => w.1 != seg % 512) }).setWritten seg bitmap
      let c := if o.kind = .swap then c.becomeLocal seg
        else
          let c := match c.reservedPin seg with
            | some f => c.setFrame f { seg := seg, kind := .pin }
            | none => c
          lines.foldl (fun c l => c.placeHanded seg dirty poison l) c
      let c := ((c.peak 0x2040 9 (c.now - since)).serveParked seg).sendTwin .moveDone (64 * seg) 0 0 false true
      c.evalSquall

/-- MOVE_DONE at S (08 R229 step 6): the dirty copies are released and the clean frames freed; for a
swap the local frame becomes the mirror-held one. A reel's hold on the segment ends here (R236). -/
def execMoveDone (hdr : TwinHdr) (s : State) : Host.Outcome State Fault Refusal :=
  s.onChip fun c => c.ctlIn hdr fun c =>
    let seg := lineSeg hdr.line
    match c.openGran (segGran seg) with
    | none => c
    | some o =>
      if o.isTarget || !o.switched seg then c
      else
        let c := c.unholdSeg seg
        let c := if o.kind = .swap then c.becomeHeld seg
          else
            let fs := (c.cache.frames.filter (fun p => decide (p.2.seg = seg ∧ p.2.kind ≠ .scratch ∧ p.2.role ≠ .mirrorHeld))).map Prod.fst
            fs.foldl (fun c f => c.freeFrame f) c
        c.settle

/-- MOVE_ABORT at S: the segment is in COPIED again (08 R229). -/
def execMoveAbort (hdr : TwinHdr) (s : State) : Host.Outcome State Fault Refusal :=
  s.onChip fun c => c.ctlIn hdr fun c =>
    let seg := lineSeg hdr.line
    match c.openGran (segGran seg) with
    | some o => if o.isTarget then c else c.onGran o.gran fun x => { x with prep := x.prep.erase (seg % 512), waiting := x.waiting.filter (fun w => w.1 != seg % 512) }
    | none => c

/-- MOVE_PREP_RETRY: 100 us after the abort S sends MOVE_PREP again (08 R229). -/
def execMovePrepRetry (seg : Nat) (s : State) : Host.Outcome State Fault Refusal :=
  s.onChip fun c =>
    match c.openGran (segGran seg) with
    | some o =>
      if o.crosses && !o.isTarget && o.stage seg = some .copied && !o.prep.contains (seg % 512) then
        (c.onGran o.gran fun x => { x with prep := insertNat x.prep (seg % 512) }).sendTwin .movePrep (64 * seg) 0 0 false true
      else c
    | none => c

/-- T's part of opening a granule move: the target slot, PIN frames for the pinned segments, the
journal entry (08 R224). -/
def Chip.openTarget (c : Chip) (gran obj group : Nat) (key : Tag) (swap : Bool) (pins : List Nat) : Chip :=
  if (c.openGran gran).isSome then c
  else
    let slot := if swap then none else
      (c.pickGroup group c.groupNos).bind fun g => (c.freeSlot g).map fun n => ({ group := g, slot := n } : Slot)
    let c := match slot with | some d => c.cleanSlot d | none => c
    let c := pins.foldl (fun c s => match c.pinFreeFrame s with
      | some f => c.setFrame f { seg := s, kind := .pinFree }
      | none => c) c
    c.openMove { obj := obj, gran := gran, kind := if swap then .swap else .cross, dst := slot, key := key, isTarget := true }

/-- T's part of ending a granule move (08 R225, R239). -/
def Chip.closeTarget (c : Chip) (gran : Nat) (commit : Bool) : Chip :=
  match (c.openGran gran).filter (·.isTarget) with
  | none => c
  | some o =>
    if commit then
      let c := match o.dst with
        | some d => ((c.commitSlot o d).onMed fun m => { m with peerSlots := m.peerSlots.del gran }).sendTwin (.tableUpdate (.granule gran (some (d.group, d.slot))))
        | none => c
      (c.setRoute gran c.twin.position).closeMove o
    else c.rollback o

/-- The staged lines of a segment arrive at the chip that builds its copy: they are programmed in its
slot (08 R226 step 3; 09 R270 step 7). -/
def Chip.takeCopy (c : Chip) (seg : Nat) (lines : List (Nat × Line)) (bitmap poison : BitVec 64) : Chip :=
  let slot := match (c.openGran (segGran seg)).filter (·.isTarget) with
    | some o => (match o.dst with | some d => some d | none => c.med.slots.find (segGran seg))
    | none => c.med.slots.find (segGran seg)
  match slot with
  | none => c
  | some d =>
    let put (l : Nat × Line) : Nat × MedLine :=
      (medKey d seg l.1, { data := if poison.getLsbD l.1 then 0 else l.2, key := c.segKeyId seg, poison := poison.getLsbD l.1 })
    let c := c.setMap (segKey d seg) bitmap
    let c := if lines.isEmpty then c else c.newOp d.group (stripeOf d.slot (seg % 512)) .dolly false (lines.map put) []
    c.mapWrite (slotKey d)

/-- The action of EVAC_CMD (08 R243, R244): an abort code, 0 for none. -/
def Chip.evacCmd (c : Chip) (v : Nat) : Nat × Chip :=
  let src := v % 256; let mask := v / 256 % 256; let flags := v / 65536 % 256
  if bit flags 0 then
    match c.dolly.evac with
    | none => (abConflict, c)
    | some _ => (0, (c.onDolly fun d => { d with evac := d.evac.map (fun (e : Evac) => { e with stopping := true }) }).evacCheck)
  else
    let groups := c.groupNos
    let own := (List.range 4).filter (fun g => bit mask g)
    let other := (List.range 4).filter (fun g => bit mask (4 + g))
    let occupied := (c.med.slots.filter (fun p => decide (p.2.group = src))).map Prod.fst
    let free := (own.map c.freeGranules).sum + (other.map c.peerFree).sum
    let okGroup (g : Nat) : Bool := match (c.group g).state with | .healthy | .degraded | .rebuilding => true | _ => false
    if c.dolly.evac.isSome then (abConflict, c)
    else if !groups.contains src || own.contains src || own.any (fun g => !groups.contains g || !okGroup g) ||
       other.any (fun g => !groups.contains g || c.med.peerRoom.getD g 0 = 0) || (!other.isEmpty && !c.paired) || free < occupied.length then
      (abConflict, c.onDolly fun d => { d with evacState := 3 })
    else
      (0, ((c.onDolly fun d => { d with evac := some { src := src, mask := BitVec.ofNat 8 mask, total := occupied.length, left := occupied }, evacState := 1 }).onGroup
        src fun g => { g with evacuating := true }).evacCheck)

end Sys2Proof.Machine
end

