-- ==== Sys2Proof/Machine/HeadsBase.lean ====
section
/-! DEFINITION. The way of a CXL.mem request after HDM decode: object, home, hold or forward
(01 R22, R31, R42; 02 R47, R53; 09 R251, R265), and the Dynamic Capacity extents a head offers
(03 R85, R87). -/

namespace Sys2Proof.Machine

/-- Dynamic Capacity region of a twin line: 64 TiB each (Table 03-4). -/
def lineRegion (l : Nat) : Nat := l / 2 ^ 40

/-- The head may offer region `r` to its host (03 R85): its HEAD_DC_REGIONS bit is set, the extent is
neither offered nor accepted nor released by the host, and the region is of the own half or the
pair is formed, in PAIRED (03 Table 03-12). -/
def Chip.mayOffer (c : Chip) (h : HeadNo) (r : Nat) : Bool :=
  let d := c.head h
  bit (c.dcRegions h) r && !d.offered.getLsbD r && !d.accepted.getLsbD r && !d.hostReleased.getLsbD r &&
    (decide (r / 4 = c.pos) || c.paired)

/-- Offer one extent, which covers the whole region (03 R85, R94). -/
def Chip.offerOne (c : Chip) (h : HeadNo) (r : Nat) : Chip :=
  if c.mayOffer h r then
    (c.onHead h fun d => { d with offered := d.offered ||| (1#8 <<< r) }).recordAt [h] .dynamicCapacity (.dynCap 0 r)
  else c

/-- Offer what a head may offer: in service, after it has trained (03 R85, 15 R387). -/
def Chip.offerExtents (c : Chip) (h : HeadNo) : Chip :=
  if c.inService && (c.head h).trained && decide ((c.head h).link = .up) then
    (List.range 8).foldl (fun c r => c.offerOne h r) c
  else c

/-- Offer at every present head. -/
def Chip.offerAll (c : Chip) : Chip := c.presentHeads.foldl (fun c h => c.offerExtents h) c

/-- A write of HEAD_DC_REGIONS (03 R85): extents the host released may be offered again, a cleared
bit withdraws an offer and starts the release of an accepted extent. -/
def Chip.regionsWritten (c : Chip) (h : HeadNo) : Chip :=
  let m := BitVec.ofNat 8 (c.dcRegions h)
  let d := c.head h
  let rel := d.accepted &&& ~~~ m &&& ~~~ d.releasing
  let c := c.onHead h fun x => { x with hostReleased := 0, offered := x.offered &&& m, releasing := x.releasing ||| rel }
  let c := ((List.range 8).filter (fun r => rel.getLsbD r)).foldl (fun c r => c.recordAt [h] .dynamicCapacity (.dynCap 1 r)) c
  c.offerExtents h

/-- The CDAT gains or loses the other half's entries (03 R87). -/
def Chip.setCdatPair (c : Chip) (v : Bool) : Chip :=
  if c.boot.cdatPair = v then c else c.onBoot fun b => { b with cdatSeq := b.cdatSeq + 1, cdatPair := v }

/-- Writes of a head that may wait for credits on a chip in squall mode, its own or the partner's (04 R123 item 3, R136). -/
def Chip.headLimit (c : Chip) (state : Nat) (own : Bool) : Nat :=
  if state = 3 then boolNat own else 16 * c.id.part.groups

/-- Writes of a head that wait for credits on this chip. -/
def Chip.waitsHere (c : Chip) (h : HeadNo) : Nat :=
  c.cache.creditQ.countP (fun w => match w with | .home r => decide (r.src = .head h) | .mirror _ => false)

/-- Writes of a head that are on the partner, where any of them may wait for credits: forwarded ones and mirror writes. -/
def Chip.waitsThere (c : Chip) (h : HeadNo) : Nat :=
  c.twin.fwd.countP (fun f => f.req.write && decide (f.req.src = .head h)) + c.twin.mirror.countP (fun m => decide (m.req.src = .head h))

/-- The head withholds request credits: it is at its limit for a chip in squall mode (04 R123 item 3), a partial write
waits for an entry of the full merge table (04 R113), the hold queue is full (01 R42), or a channel's read queue
holds 12 or more reads (06 R172). -/
def Chip.withheld (c : Chip) (h : HeadNo) : Bool :=
  (decide (c.cache.squall ≠ 0) && decide (c.headLimit c.cache.squall true ≤ c.waitsHere h)) ||
  (c.paired && decide (c.cache.partnerSquall ≠ 0) && decide (c.headLimit c.cache.partnerSquall false ≤ c.waitsThere h)) ||
  !c.cache.mergeQ.isEmpty || decide (4096 ≤ c.twin.holdQ.length) || c.med.ch.any (fun x => decide (12 ≤ x.reads.length))

/-- A request uses its object's descriptor; a miss is queued for DESCRIPTOR_MISS_DONE (04 R133). -/
def Chip.useDesc (c : Chip) (obj : Nat) : Chip :=
  match c.cache.descs.find? (fun d => decide (d.obj = obj)) with
  | some d => (c.onCache fun k => { k with descs := d :: k.descs.filter (fun x => x.obj != obj) }).bump 0x3030 1
  | none =>
    (c.onCache fun k => if k.descMiss.contains obj then k else { k with descMiss := k.descMiss ++ [obj] }).bump 0x3030 2

/-- A request at its home (01 R23, R26): held while its pseudo-channel is fenced (05 R150), else
served, what it needs having been rebuilt; `ev` is what its HBM access meets. -/
def Chip.serveHome (c : Chip) (r : Req) (ev : HbmEvent := .ok) : Chip :=
  if c.fenced r.line r.write then c.onHbm fun h => { h with heldForFence := h.heldForFence ++ [r] }
  else
    let c := c.buildFor (lineSeg r.line) (lineSector r.line)
    let c := match c.held r.line with
      | some (f, _) => c.hbmMeets f (lineSector r.line) ev
      | none => (c.tagMeets (cacheSet (lineSeg r.line)) ev).sramMeets ev
    if r.write then c.homeWrite r else c.homeRead r

/-- A line of a non-mirrored segment that the lost chip holds (09 R265): the route map names the
lost chip and this chip has no copy. -/
def Chip.lostLine (c : Chip) (line : Nat) (mirrored : Bool) : Bool :=
  let g := lineGran line
  decide (c.twin.state = .alone) && !mirrored &&
    decide (c.med.routeMap.getD g (granHalf g) ≠ c.twin.position) && !c.med.slots.has g

/-- The request waits for a planned handover: at X for a home being handed over, at Y for a home of
X's mirrored objects (09 R268). -/
def Chip.waitsHandover (c : Chip) (o : Obj) (line : Nat) : Bool :=
  let here := c.homeHere (lineSeg line)
  o.mirror && ((c.twin.hand != .idle && (c.inHandover line || (decide (c.twin.hand = .installing) && !here))) ||
    (c.twin.handY && !here))

/-- The way of a request whose object admits it (01 R31, R42; 09 R251, R262, R265, R268; 08 R229). -/
def Chip.routeHome (c : Chip) (r : Req) (o : Obj) (ev : HbmEvent := .ok) : Chip :=
  let seg := lineSeg r.line
  if c.waitsHandover o r.line then c.onTwin fun t => { t with handQ := t.handQ ++ [r] }
  else if c.lostLine r.line o.mirror then c.denyRequest r 0x83 2 6
  else if c.homeHere seg then c.serveHome r ev
  else if (match c.targetOf seg with | some g => g.prep.contains (seg % 512) | none => false) then
    c.onDolly fun d => { d with parked := d.parked ++ [r] }
  else match c.twin.state with
    | .paired =>
      if c.linkReady && c.wit.claim.isNone then
        let (tag, c) := c.takeTag
        (c.onTwin fun t => { t with fwd := t.fwd ++ [{ tag := tag, req := r }] }).sendTwin
          (if r.write then .fwdWrite r.data r.mask else .fwdRead) r.line tag r.arrival r.poison
      else c.hold r
    | .alone => c.denyRequest r 0x83 2 6
    | _ => c.denyRequest r 0x80 1 3

/-- The way of a request to an object that permits it; an UNAVAILABLE object is served as a lost partner's (Table 02-3,
Table 01-7). -/
def Chip.routeObj (c : Chip) (r : Req) (o : Obj) (ev : HbmEvent := .ok) : Chip :=
  if o.state = .unavailable && !c.movedHere (lineSeg r.line) then c.denyRequest r 0x83 2 6 else c.routeHome r o ev

/-- The way of a request after the checks of its head: an address in no object is unmapped (01 R22). -/
def Chip.route (c : Chip) (r : Req) (ev : HbmEvent := .ok) : Chip :=
  match c.objAt r.line with
  | none => c.denyRequest r 0x80 1 3
  | some (id, o) => (c.useDesc id).routeObj r o ev

/-- Route a list of requests in order. -/
def Chip.routeAll (c : Chip) (rs : List Req) : Chip := rs.foldl (fun c r => c.route r) c

/-- A request enters at a head (02 R46, R53, R73; 03 R85): a scratch line in its configured size, or a
twin line of an accepted extent whose object, by its descriptor (04 R133), permits the head. -/
def Chip.enter (c : Chip) (h : HeadNo) (r : Req) (ev : HbmEvent) : Chip :=
  if scratchBase ≤ r.line then
    if r.line < scratchBase + c.cache.waysScratch * scratchWayLines then
      if c.fenced r.line then c.onHbm fun x => { x with heldForFence := x.heldForFence ++ [r] }
      else
        let p := scratchPlace (r.line - scratchBase)
        (c.hbmMeets p.1 p.2 ev).scratchAccess r
    else c.denyRequest r 0x80 1 3
  else if !(c.head h).accepted.getLsbD (lineRegion r.line) then c.denyRequest r 0x80 1 3
  else match c.objAt r.line with
    | some (id, o) =>
      let c := c.useDesc id
      if o.heads.getLsbD (c.pairHead h).val then c.routeObj r o ev else c.denyRequest r 0x81 1 4
    | none => c.denyRequest r 0x80 1 3

/-- Enter what waited in the hold queue, in order of arrival (01 R39; 09 R264). -/
def Chip.drainHolds (c : Chip) : Chip :=
  let q := c.twin.holdQ ++ c.twin.overHold
  (c.onTwin fun t => { t with holdQ := [], overHold := [] }).routeAll q

/-- Fill the hold queue from the withheld requests (01 R42). -/
def Chip.refillHold (c : Chip) : Chip :=
  c.onTwin fun t =>
    let room := 4096 - t.holdQ.length
    { t with holdQ := t.holdQ ++ t.overHold.take room, overHold := t.overHold.drop room }

/-- Place a poison mark on a line at its home: in every copy, as a dirty line, with its record
(07 R214). -/
def Chip.markLine (c : Chip) (line src : Nat) : Chip :=
  (c.addPoison line src).serveHome { src := .gone, write := true, line := line, mask := fullMask, poison := true }

/-- A line whose write this chip could not place reads as poison: its record, and the marks of the
copies it holds (01 Table 01-7; 07 Table 07-4). -/
def Chip.loseLine (c : Chip) (line src : Nat) : Chip :=
  ((c.copies line).foldl (fun c f => c.setSector f (lineSector line) { data := 0, poison := true }) c).addPoison line src

end Sys2Proof.Machine
end

