-- ==== Sys2Proof/Machine/Pairing.lean ====
section
/-! DEFINITION. The pair: formation, refusal, rejoin, the replica and its resynchronisation, loss of
the twin link, takeover and split (09 R245 to R270; 15 R392). -/

namespace Sys2Proof.Machine

/-- WITNESS_NODE (5020:03). -/
def Chip.witnessNode (c : Chip) : Nat := c.par 0x5020 3 0

/-- TWIN_PROTO of the running image (Table 15-2). -/
def Chip.twinProto (c : Chip) : Nat := (c.boot.images.get (if c.boot.record.active then 1 else 0)).proto

/-- This chip owns objects (Table 09-4). -/
def Chip.ownsObjects (c : Chip) : Bool := c.obj.table.any (fun p => c.owns p.1 p.2)

/-- HELLO of this chip (Table 09-4). -/
def Chip.helloMsg (c : Chip) : Hello :=
  { part := c.id.part.code, position := c.twin.position, owns := c.ownsObjects, wrapValid := !c.twin.noWrap,
    proto := c.twinProto, serial := c.id.serial, twin := c.twin.twinSerial, epoch := c.twin.epoch,
    witness := BitVec.ofNat 48 c.witnessNode, staleLen := c.med.stale.length }

/-- Send HELLO, once for each time the link comes up and from the registration with the witness on, so that a pair forms only
of two registered chips (09 R245; 15 R392). -/
def Chip.sendHello (c : Chip) : Chip :=
  if c.twin.helloSent || !c.linkReady || !c.wit.registered then c
  else (c.sendTwin (.hello c.helloMsg)).onTwin fun t => { t with helloSent := true }

/-- Both chips record each other as twin. -/
def Chip.mutual (c : Chip) (h : Hello) : Bool := decide (c.twin.twinSerial = h.serial ∧ h.twin = c.id.serial)

/-- A chip with a recorded twin takes a chip as its twin that records none and owns no objects: an
accepted replacement (09 R246 case 3), or its recorded twin where it owns no objects itself. -/
def takesNew (twin replace serial : BitVec 64) (owns : Bool) (theirTwin : BitVec 64) (mine : Bool) : Bool :=
  decide (twin ≠ 0 ∧ theirTwin = 0) && !owns && (decide (serial = replace) || (decide (serial = twin) && !mine))

/-- The refusal cause of Table 09-1 that a HELLO gives, 0 for none (09 R246). -/
def Chip.refusalCause (c : Chip) (h : Hello) : Nat :=
  let mine := c.ownsObjects
  if h.part ≠ c.id.part.code then 1
  else if c.mutual h && decide (h.position = c.twin.position) then 2
  else if !c.mutual h && mine && h.owns then 2
  else if !c.mutual h && decide (c.twin.twinSerial ≠ 0) && !takesNew c.twin.twinSerial c.twin.replace h.serial h.owns h.twin mine then 3
  else if !c.mutual h && decide (h.twin ≠ 0 ∧ h.twin ≠ c.id.serial) && mine then 3
  else if h.proto ≠ c.twinProto then 4
  else if h.witness ≠ BitVec.ofNat 48 c.witnessNode then 6
  else 0

/-- The chip is in the pair stage of a start, or runs the rest of it after Unlock (15 R392). -/
def Chip.inPairStage (c : Chip) : Bool := decide (c.boot.stage = 5 ∨ c.boot.stage = 10) || c.boot.late

/-- The chip refuses, or is refused (09 R247): REFUSED with its record and cause. DESIGN CHOICE
(notes/assumptions/54.md): an ALONE, SPLIT or FENCED chip keeps its state and what it serves, and the pair
stage only goes on to its claim (15 R392); the cause stands in PAIR_REFUSE_CAUSE and the barometer in every state. -/
def Chip.refused (c : Chip) (cause : Nat) : Chip :=
  let c := c.onTwin fun t => { t with refuseCause := cause }
  let c := match c.twin.state with
    | .unpaired => if c.inPairStage then c else c.setPair .refused
    | _ => c
  c.vendorRecord .failure 0x0202 0x5000 5 (if c.twin.state = .refused then c.pairNote .refused c.wit.state else [])

/-- Refuse a twin (09 R247). -/
def Chip.refuse (c : Chip) (cause : Nat) : Chip := (c.sendTwin (.pairRefuse cause)).refused cause

/-- Send the tables this chip answers for, and the poison records of its mirrored objects (07 R216): its objects, its granule map, the slots of its groups, its homes, the key table
where it is the source (09 R264; 12 R325), and the moves it takes part in as target (08 R240). -/
def Chip.sendTables (c : Chip) (keys : Bool) : Chip :=
  let mine := c.obj.table.filter (fun p => c.owns p.1 p.2)
  let c := if keys then c.sendTwin (.tableUpdate (.keyTable ((c.sec.tags.filter (fun p => decide (p.2.state = .loaded))).map (fun p => (p.1, p.2.key))))) else c
  let c := mine.foldl (fun c p => c.sendTwin (.tableUpdate (.object p.1 (some p.2)))) c
  let c := c.med.slots.foldl (fun c p => c.sendTwin (.tableUpdate (.granule p.1 (some (p.2.group, p.2.slot))))) c
  let c := c.groupNos.foldl (fun c g => c.sendTwin (.tableUpdate (.room g (c.group g).room))) c
  let c := (c.med.routeMap.filter (fun p => mine.any (fun q => decide (q.2.base ≤ p.1 ∧ p.1 < q.2.base + q.2.granules)))).foldl
    (fun c p => c.sendTwin (.tableUpdate (.route p.1 p.2))) c
  let c := (c.integ.poison.filter (fun q => mine.any (fun p => decide (p.2.base ≤ lineGran q.line ∧ lineGran q.line < p.2.base + p.2.granules)))).foldl
    (fun c q => c.shadowNote q.line q.len q.src false) c
  (c.dolly.opened.filter (·.isTarget)).foldl (fun c o =>
    c.sendTwin (.tableUpdate (.moveState o.gran ((o.segs.filter (fun p => decide (p.2 = .switched))).map Prod.fst)))) c

/-- The recorded epoch rises; the pair record is written (09 R250). -/
def Chip.setEpoch (c : Chip) (e : Nat) : Chip := (c.onTwin fun t => { t with epoch := max t.epoch e }).pairRecord

/-- The tables on the medium passed the commit point of a journalled move before the start: the target slot is the granule's
home (08 R225). -/
def Chip.committed (c : Chip) (o : OpenGran) : Bool := o.dst.isSome && decide (c.med.slots.find o.gran = o.dst)

/-- Roll back every open granule of a start: the source slot is the home, the target slot is
released (08 R240); a committed one ends with the release of its source (R225 step 3). -/
def Chip.rollbackJournal (c : Chip) : Chip :=
  (c.dolly.journal.map Prod.snd).foldl (fun c o =>
    if c.committed o then (if o.isTarget then c else c.releaseSlot o.src).closeMove o else c.rollback o) c

/-- The pair stage ends (15 R392): stage 6, and the heads train (15 R387). -/
def Chip.endPairStage (c : Chip) : Chip :=
  if !c.inPairStage then c
  else if c.inService then c.onBoot fun b => { b with late := false }
  else
    let c := c.onBoot fun b => { b with stage := 6, late := false, stageEnds := b.stageEnds.set 4 ((c.now - 40 * b.startAt) / 1000) }
    c.presentHeads.foldl (fun c h =>
      if !(c.head h).perst && decide ((c.head h).link = .detect) then c.onHead h fun d => { d with link := .training } else c) c

/-- The head is isolated (16 R409). -/
def Chip.isolated (c : Chip) (h : HeadNo) : Bool := decide (c.vol 0xA120 (h.val + 1) = 1)

/-- The heads of a chip that held them down train again (09 R260, R270). -/
def Chip.raiseHeads (c : Chip) : Chip :=
  c.presentHeads.foldl (fun c h =>
    if (c.head h).link = .disabled && !c.isolated h && !(c.head h).perst then c.onHead h fun d => { d with link := .training } else c) c

/-- Objects that were UNAVAILABLE become ACTIVE (09 R270 step 6). -/
def Chip.restoreObjs (c : Chip) : Chip :=
  c.onObj fun x => { x with table := x.table.map (fun p => if p.2.state = .unavailable then (p.1, { p.2 with state := .active }) else p) }

/-- The rebuild of stale granules is handed to the dolly of their home (09 R270 step 7). -/
def Chip.resync (c : Chip) : Chip :=
  let mine := c.med.stale.filter (fun g => c.homeHere (512 * g))
  let c := c.onTwin fun t => { t with staleAtResync := c.med.stale.length }
  mine.foldl (fun c g => match c.objAtGran g with
    | some (id, o) => if o.mirror then c.enqueue none id .mirrorBuild 0xFF [g] else c
    | none => c) c

/-- A rehearsal must wait: a handover, a rejoin, a wrap or a twin-core self-test runs (16 R410). -/
def Chip.rehearsalWaits (c : Chip) : Bool :=
  c.twin.hand != .idle || c.twin.handY || decide (c.twin.state = .rejoining) || c.wrapping ||
    (match c.boot.bist with | some b => decide (b.test = 7 ∧ (b.target = 8 ∨ b.target = 9)) | none => false)

/-- The key tags of the partner's mirrored objects are all loaded (09 R272 step 3). -/
def Chip.rehearsalKeys (c : Chip) : Bool :=
  c.obj.table.all (fun p => !p.2.mirror || c.owns p.1 p.2 || decide (c.tagState p.2.keyTag = .loaded))

/-- A rehearsal starts: a CLAIM with DRILL, and the checks on the shadow installation; `holdOk` and
`replicaOk` are the outcomes of the self-checks (09 R272). -/
def Chip.startRehearsal (c : Chip) (holdOk : Bool := true) (replicaOk : Bool := true) : Chip :=
  let bad := boolNat (!c.rehearsalKeys) + 2 * boolNat (!holdOk) + 4 * boolNat (!replicaOk)
  (c.sendWitness 4 true).onWit fun w => { w with drill := true, rehearsalDue := false, rehearsalChecks := bad }

/-- A rehearsal that waited starts once nothing holds it back (16 R410). -/
def Chip.dueRehearsal (c : Chip) : Chip := if c.wit.rehearsalDue && !c.rehearsalWaits then c.startRehearsal else c

/-- The route map is rewritten so that no bit of a granule this chip holds names the lost chip
(09 R264 step 3). -/
def Chip.rewriteRoutes (c : Chip) : Chip :=
  ((c.med.slots.map Prod.fst).foldl (fun c g => c.setRoute g c.twin.position) c).onTwin fun t => { t with lostChip := false }

/-- The frames of a granule are freed: its mirror copy here is stale and is rebuilt (09 R270). -/
def Chip.freeGranule (c : Chip) (g : Nat) : Chip :=
  ((c.cache.frames.filter (fun p => decide (segGran p.2.seg = g ∧ p.2.kind ≠ .scratch ∧ p.2.kind ≠ .free))).map Prod.fst).foldl
    (fun c f => c.freeFrame f) c

/-- The returning chip is partner for the adopted objects: its local frames of them are mirror-held
(09 R270 step 5). -/
def Chip.holdGiven (c : Chip) : Chip :=
  (c.obj.table.filter (fun p => p.2.mirror && p.2.handedOver)).foldl (fun c p =>
    (c.framedSegs p.2).foldl (fun c s => if (c.mirrorHeld s).isSome then c else c.becomeHeld s) c) c

/-- The pair forms, or its rejoin completes (09 R245, R270 steps 4 to 7); an image in probation then has
its rehearsal (15 R400). -/
def Chip.formed (c : Chip) (pos : Bool) (serial : BitVec 64) (epoch : Nat) : Chip :=
  let rejoin := match c.twin.state with | .alone | .split | .fenced | .rejoining => true | _ => false
  let source := if rejoin then c.twin.state != .rejoining
    else match c.twin.peerHello with
      | some h => if c.ownsObjects != h.owns then c.ownsObjects else !pos
      | none => !pos
  let c := if c.twin.lostChip then c.rewriteRoutes else c
  let c := (c.med.stale.filter (fun g => !c.homeHere (512 * g))).foldl (fun c g => c.freeGranule g) c
  let c := if c.twin.state = .rejoining then c.holdGiven else c
  let c := c.onTwin fun t =>
    { t with position := pos, twinSerial := serial, refuseCause := 0, replace := 0, recordLost := false, suspended := false,
             splitSince := false, lostChip := false, accept := none, staleDone := false }
  let c := c.onWit fun w =>
    { w with claim := none, rehearsalDue := w.rehearsalDue || (!w.rehearsalPassed && decide (c.boot.record.state = .probation)) }
  let c := c.setEpoch epoch
  let c := ((c.restoreObjs.setPair .paired).vendorRecord .informational 0x0201 0x5000 1 (c.pairNote .paired c.wit.state)).setCdatPair true
  let c := c.onDolly fun d => { d with paused := false }
  let c := if c.wrap.state = 5 then c.setWrap 0 else c
  let c := (c.raiseHeads.endPairStage).offerAll
  let c := (((c.sendTables source).resync).dueRehearsal).startWaiting
  (if rejoin && source then c.autoFailback else c).drainHolds

/-- The positions of a fresh formation (09 R246): this chip's own. -/
def Chip.newPosition (c : Chip) (h : Hello) : Bool :=
  if c.mutual h || decide (c.twin.twinSerial ≠ 0) then c.twin.position
  else if c.ownsObjects != h.owns then h.owns
  else decide (h.serial.toNat < c.id.serial.toNat)

/-- This chip sends PAIR_ACCEPT: the one with a recorded twin where only one has it, otherwise the one
with the lower serial number. -/
def Chip.accepts (c : Chip) (h : Hello) : Bool :=
  let mine := decide (c.twin.twinSerial ≠ 0); let theirs := decide (h.twin ≠ 0)
  if mine != theirs then mine else decide (c.id.serial.toNat < h.serial.toNat)

/-- The objects of a former twin are released where a replacement takes its place (09 R246 case 3):
the UNAVAILABLE ones become DESTROYING; every granule of a mirrored object is stale. -/
def Chip.replaceTwin (c : Chip) (h : Hello) : Chip :=
  if c.mutual h || c.twin.twinSerial = 0 || c.twin.twinSerial = h.serial then c
  else
    let gone := c.obj.table.filter (fun p => decide (p.2.state = .unavailable))
    let c := gone.foldl (fun c p => c.onObj fun x => { x with table := x.table.put p.1 { p.2 with state := .destroying } }) c
    (c.obj.table.filter (fun p => p.2.mirror && decide (p.2.state = .active))).foldl
      (fun c p => (c.heldGrans p.2).foldl (fun c g => c.markStale g) c) c

/-- The lease of this chip is current (Table 09-5). -/
def Chip.leased (c : Chip) : Bool := match c.wit.state with | .current | .relayed => true | _ => false

/-- The stale granules this chip reports at rejoin (09 R269): its stale set, and as a returning chip
the granules of its adopted objects that lie in the last persisted dirty map, or all of them where it
found no valid wrap record. -/
def Chip.staleReport (c : Chip) : List Nat :=
  if c.twin.state != .rejoining then c.med.stale
  else
    let given := c.obj.table.filter (fun p => p.2.mirror && p.2.handedOver)
    let inGiven (g : Nat) : Bool := given.any (fun p => decide (p.2.base ≤ g ∧ g < p.2.base + p.2.granules))
    let dirty := (c.med.dirtyMap.map segGran).eraseDups.filter inGiven
    let all := if c.twin.noWrap then given.flatMap (fun p => c.heldGrans p.2) else []
    (c.med.stale.filter inGiven) ++ dirty ++ all

/-- Send the stale set, and keep what it adds (09 R270 step 2). -/
def Chip.sendStale (c : Chip) : Chip :=
  let l := c.staleReport
  let c := l.foldl (fun c g => c.markStale g) c
  c.sendTwin (.staleSet l) 0 0 0 false false true

/-- Complete a rejoin once the stale sets are exchanged and the returning chip's lease is renewed: it
sends PAIR_ACCEPT; under SPLIT the chip with the lower serial number does (09 R270 steps 3, 4). -/
def Chip.tryRejoin (c : Chip) : Chip :=
  match c.twin.peerHello with
  | none => c
  | some h =>
    if !c.twin.staleDone then c
    else match c.twin.accept with
      | some a => match c.twin.state with
        | .alone | .split | .unpaired | .refused => c.formed c.twin.position h.serial a.2
        | _ => c
      | none =>
        let turn := decide (c.twin.state = .rejoining) ||
          (decide (c.twin.state = .split ∧ h.epoch = c.twin.epoch) && decide (c.id.serial.toNat < h.serial.toNat))
        if turn && c.leased then
          let e := max c.twin.epoch h.epoch + 1
          (c.sendTwin (.pairAccept (!c.twin.position) e)).formed c.twin.position h.serial e
        else c

/-- The mirrored objects leave the returning chip's table: the serving chip's table decides them
(09 R270). -/
def Chip.forgetMirrored (c : Chip) : Chip := c.onObj fun x => { x with table := x.table.filter (fun p => !p.2.mirror) }

/-- Slots of granules that lie in no object are released. -/
def Chip.dropOrphans (c : Chip) : Chip :=
  ((c.med.slots.map Prod.fst).filter (fun g => (c.objAtGran g).isNone)).foldl (fun c g => c.freeSlotOf g) c

/-- What follows once both chips' HELLO are known and this chip is registered: refusal, formation, or
rejoin (09 R245, R246, R270). -/
def Chip.tryForm (c : Chip) : Chip :=
  match c.twin.peerHello with
  | none => c
  | some h =>
    if !c.linkReady || !c.twin.auth || !c.twin.helloSent then c
    else
      let fresh (c : Chip) : Chip :=
        if !c.wit.registered then c
        else if c.accepts h then
          let p := c.newPosition h; let e := max c.twin.epoch h.epoch + 1
          ((c.replaceTwin h).sendTwin (.pairAccept (!p) e)).formed p h.serial e
        else match c.twin.accept with
          | some a => c.formed a.1 h.serial a.2
          | none => c
      let returning (c : Chip) : Chip :=
        let c := ((c.closeReels (fun _ => true)).setPair .rejoining).forgetMirrored
        if c.wit.registered then c else c.sendWitness 1
      let cause := c.refusalCause h
      match c.twin.state with
      | .paired | .rejoining => c
      | _ =>
      if cause ≠ 0 then c.refuse cause
      else match c.twin.state with
      | .unpaired | .refused =>
        if c.mutual h && decide (h.epoch ≠ c.twin.epoch) then
          if c.twin.epoch < h.epoch then returning c else (c.sendTables true).sendStale
        else fresh c
      | .alone => if c.mutual h then (c.sendTables true).sendStale else fresh c
      | .split =>
        if !c.mutual h then fresh c
        else if c.twin.epoch < h.epoch then returning c else (c.sendTables true).sendStale
      | .fenced => if c.mutual h && decide (c.twin.epoch < h.epoch) then returning c else c
      | _ => c

/-- HELLO may go out: in service or in the pair stage, on a chip that is not Locked (12 R345; 15 R392). -/
def Chip.mayHello (c : Chip) : Bool := (c.inService || c.inPairStage) && !c.sec.locked && !c.wrapping

/-- Send HELLO where it may go out, and form with a HELLO already received. -/
def Chip.greet (c : Chip) : Chip := if c.mayHello then c.sendHello.tryForm else c

/-- The link is gone: the requests a handover held take their way again (09 R251, R268). -/
def Chip.dropLink (c : Chip) : Chip :=
  let q := c.twin.handQ
  let c := (c.onTwin fun t => { t with handQ := [] }).twinDown
  let c := if c.twin.state = .rejoining then c.setPair .fenced else c
  c.routeAll q

/-- The link is lost: a paired chip sends CLAIM; in WITNESS_LOST it fences at once (09 R254,
R257). -/
def Chip.lostLink (c : Chip) : Chip :=
  if c.twin.link = .down then c
  else if c.twin.state = .paired && c.wit.state = .witnessLost then c.fence
  else
    let c := c.dropLink
    if c.twin.state = .paired then c.sendClaim 1 else c

/-- A free value of a duration the device measures. -/
def Chip.measure (c : Chip) : Nat := Config.measured c.cache.choice % 2 ^ 32

/-- TAKEOVER_LOG (5050:04): kind 1 takeover, 2 handover, 3 split. -/
def Chip.logTakeover (c : Chip) (kind cause held : Nat) : Chip :=
  let m := c.measure
  (c.choose).onTwin fun t =>
    { t with takeoverLog := ofBytes ([BitVec.ofNat 8 kind, BitVec.ofNat 8 cause, 0, 0] ++ toBytes 4 held ++ toBytes 4 m ++
        toBytes 4 m ++ toBytes 4 m ++ toBytes 4 m ++ toBytes 8 t.epoch ++ toBytes 8 c.stamp.toNat) }

/-- Cause of a takeover or split for TAKEOVER_LOG: 1 pulse then link, 2 link alone. -/
def Chip.lossCause (c : Chip) : Nat := if c.twin.pulseLost then 1 else 2

/-- An adopted object may be served: none of its granules is stale (09 R265). -/
def Chip.adoptable (c : Chip) (o : Obj) : Bool :=
  o.mirror && !c.twin.splitSince && !c.med.stale.any (fun g => decide (o.base ≤ g ∧ g < o.base + o.granules))

/-- The objects of the lost chip: adopted where mirrored and current, otherwise UNAVAILABLE (09 R264
step 2, R265), its poison shadow active (step 5). -/
def Chip.takeObjs (c : Chip) : Chip :=
  (c.obj.table.filter (fun p => !c.owns p.1 p.2 && decide (p.2.state = .active))).foldl (fun c p =>
    if c.adoptable p.2 then (c.adoptObj p.1).activateShadow p.2
    else c.onObj fun x => { x with table := x.table.put p.1 { p.2 with state := .unavailable } }) c

/-- The mirror-held frames of the segments served here are local frames (09 R264). -/
def Chip.localise (c : Chip) : Chip :=
  (c.cache.frames.filter (fun p => decide (p.2.kind = .outside ∧ p.2.role = .mirrorHeld))).foldl (fun c p =>
    match c.objAtGran (segGran p.2.seg) with
    | some (_, o) => if o.state = .active then c.becomeLocal p.2.seg else c
    | none => c) c

/-- After a SPLIT every granule whose home lay on the partner is stale (09 R269). -/
def Chip.staleAway (c : Chip) : Chip :=
  if c.twin.splitSince then
    ((c.med.slots.map Prod.fst).filter (fun g => !c.homeHere (512 * g))).foldl (fun c g => c.markStale g) c
  else c

/-- The moves of a lost partner (Table 08-5): S takes back every switched segment of its open
cross-chip granules, and their commands end with RETRY; T keeps the segments it serves. -/
def Chip.movesOnLoss (c : Chip) : Chip :=
  (c.dolly.opened.filter (fun o => !o.isTarget && o.crosses)).foldl (fun c o => (c.rollback o).stopCmd o.cmd stRetry) c

/-- Mirrored dirty lines of which one copy is left, to be written back first (09 R266). -/
def Chip.markOnce (c : Chip) : Chip :=
  c.onCache fun k => { k with frames := k.frames.map (fun p =>
    if p.2.dirty ≠ 0 && p.2.peer.isNone && decide (p.2.role ≠ .mirrorHeld) then (p.1, { p.2 with once := true }) else p) }

/-- The mirrored writes that waited for a commit are written a second time here, acknowledged, and
mark their granules stale (09 R253). -/
def Chip.settleMirror (c : Chip) : Chip :=
  let l := c.twin.mirror
  l.foldl (fun c m => c.homeWrite m.req) (c.onTwin fun t => { t with mirror := [] })

/-- The partner is lost while it rewrites lines under a new key (02 R55): its mirror copies are stale and built anew later;
granules that only it holds are still owed. -/
def Chip.peerLost (c : Chip) : Chip :=
  c.obj.peerRekey.foldl (fun c id => match c.obj.table.find id with
    | none => c.onObj fun x => { x with peerRekey := x.peerRekey.erase id }
    | some o =>
      let c := c.staleRange (objFirst o) (objSegs o)
      if c.med.peerSlots.all (fun p => !decide (o.base ≤ p.1 ∧ p.1 < o.base + o.granules) || c.med.slots.has p.1) then
        c.onObj fun x => { x with peerRekey := x.peerRekey.erase id }
      else c) c

/-- The installation of a takeover (09 R264 to R266). -/
def Chip.takeover (c : Chip) (epoch : Nat) : Chip :=
  let held := c.twin.holdQ.length
  let cause := c.lossCause
  let c := c.twinDown.setEpoch epoch
  let c := c.staleAway.takeObjs.localise
  let c := (c.onTwin fun t => { t with lostChip := true, suspended := false }).onCache fun k => { k with descs := [] }
  let c := c.movesOnLoss.markOnce.peerLost
  let c := ((c.onWit fun w => { w with claim := none }).setPair .alone).bump 0x5050 3
  let c := (c.vendorRecord .fatal 0x0204 0x5000 1 (c.pairNote .alone c.wit.state)).logTakeover 1 cause held
  let c := c.settleMirror.drainHolds
  let crossed := c.twin.fwdCmds
  let c := crossed.foldl (fun c f => c.finish f.cmd stRetry) (c.onTwin fun t => { t with fwdCmds := [] })
  let c := if c.inPairStage then c.rollbackJournal.endPairStage else c
  c.startWaiting.settle

/-- Send a POISON_NOTE for at most five writes (09 R263, Table 09-7). -/
def Chip.poisonNote (c : Chip) (l : List Req) : Chip :=
  let seq := c.witSeq
  let c := c.useSeq.onWit fun w => { w with poisonNotes := w.poisonNotes ++ l.map (fun r => (seq, r)) }
  c.emit (.poisonRing true seq (l.map (·.line)))

/-- Send POISON_NOTEs for a list of writes, five to a note. -/
def Chip.poisonNotes (c : Chip) (l : List Req) : Nat → Chip
  | 0 => c
  | n + 1 => if l.isEmpty then c else (c.poisonNote (l.take 5)).poisonNotes (l.drop 5) n

/-- A SPLIT verdict (09 R262, R263). -/
def Chip.split (c : Chip) : Chip :=
  let cause := c.lossCause
  let c := c.dropLink
  let held := c.twin.holdQ ++ c.twin.overHold
  let c := c.onTwin fun t => { t with holdQ := [], overHold := [], suspended := true, splitSince := true }
  let c := ((c.onWit fun w => { w with claim := none }).setPair .split).vendorRecord .warning 0x0203 0x5010 1 (c.pairNote .split c.wit.state)
  let c := (c.logTakeover 3 cause held.length).settleMirror.peerLost
  let c := (held.filter (fun r => !r.write)).foldl (fun c r => c.completeRead r 0 true 0x82 2) c
  let ws := held.filter (·.write)
  let c := c.poisonNotes ws ws.length
  let c := if c.inPairStage then c.rollbackJournal.endPairStage else c
  c.startWaiting.settle

end Sys2Proof.Machine
end

