-- ==== Sys2Proof/Machine/Erase.lean ====
section
/-! DEFINITION. Erasure of keys and contents: the crypto-erase of a key tag, Secure Erase and
Sanitize on one chip (12 R327 to R329). -/

namespace Sys2Proof.Machine

/-- Step 1 of a crypto-erase: the tag enters ERASING (12 R327). -/
def Chip.eraseStart (c : Chip) (t : Tag) : Chip :=
  c.onSec fun s => { s with tags := s.tags.upd t.toNat {} (fun k => { k with state := .erasing }), eraseTag := some t, erasePeer := false, eraseState := 1 }

/-- Steps 3 to 5 for one tag: lanes and SECRETS hold no key, the generation rises (12 R327). -/
def emptied (m : SMap KeyTag) (t : Nat) : SMap KeyTag :=
  m.put t { state := .empty, key := 0, gen := (m.getD t {}).gen + 1 }

/-- A crypto-erase ends on this chip (12 R327 steps 2 to 5); the scrub backlog of the tag is dropped. -/
def Chip.eraseEnd (c : Chip) (t : Tag) : Chip :=
  (c.onMed fun m => { m with scrubLeft := m.scrubLeft.filter (fun r => decide (r.tag ≠ t)) }).onSec fun s => { s with tags := emptied s.tags t.toNat, durableTags := emptied s.durableTags t.toNat, eraseTag := none, eraseState := 2 }

/-- Every media key and the internal media key are erased, and a new internal media key is drawn
(12 R328 step 4). -/
def Chip.eraseAllKeys (c : Chip) : Chip :=
  let (k, c) := c.drawKey
  c.onSec fun s =>
    { s with tags := (List.range 256).foldl emptied s.tags, durableTags := (List.range 256).foldl emptied s.durableTags,
             eraseTag := none, internalKey := k }

/-- Commands that run here end: their objects become FREE. -/
def Chip.cancelAll (c : Chip) : Chip :=
  (c.obj.cmds.filter (fun r => r.result.isNone && !c.twin.fwdCmds.any (fun f => decide (f.cmd = r.id)))).foldl
    (fun c r => c.finish r.id stCancelled) c

/-- Steps 1 to 3 and 5 of Secure Erase on one chip, but for the keys (12 R328): work stops, every
object is FREE, HBM holds no line, no poison record and no written line is left. -/
def Chip.eraseContents (c : Chip) : Chip :=
  let c := (c.closeReels (fun _ => true)).cancelAll
  let homes := c.cache.creditQ.filterMap (fun w => match w with | .home r => some r | .mirror _ => none)
  let waiting := c.cache.misses.flatMap (·.readers) ++ c.cache.mergeQ ++ homes ++ c.dolly.parked ++ c.twin.handQ
  let acks := c.twin.mirror
  let c := c.onObj fun o => { o with table := [], tails := [], peerHolds := [], peerRekey := [] }
  let c := c.onDolly fun d =>
    { d with opened := [], queue := [], pins := [], parked := [], journal := [], evac := none, evacState := if d.evac.isSome then 4 else d.evacState }
  let c := (List.range 4).foldl (fun c g => c.onGroup g fun x => { x with evacuating := false }) c
  let c := c.onTwin fun t => { t with mirror := [], handQ := [], audit := none }
  let c := c.onCache fun k =>
    { k with frames := k.frames.filter (fun p => decide (p.2.kind = .scratch)), lines := [], descs := [], descMiss := [], misses := [], merges := [],
             mergeQ := [], creditQ := [], wb := [] }
  let c := ((List.range 15).flatMap c.scratchFramesAt).foldl (fun c f => c.unbuild f) c
  let c := (c.onInteg fun i => { i with poison := [], overflow := false, shadow := [], repairs := [], rewrites := [] }).persistPoison .log
  let c := c.mapSlots.foldl (fun c k => c.cleanSlot { group := k / 2 ^ 25, slot := k % 2 ^ 25 }) c
  let c := (c.onMed fun m => { m with slots := [], peerSlots := [], routeMap := [], stale := [], dirtyMap := [] }).tableChanged
  let c := acks.foldl (fun c m => c.ackWrite m.req) c
  (c.routeAll waiting).settle

/-- Secure Erase on one chip (12 R328). -/
def Chip.secureErase (c : Chip) : Chip := c.eraseContents.eraseAllKeys

/-- A group of this chip is being initialised. -/
def Chip.initialising (c : Chip) : Bool := c.groupNos.any (fun g => decide ((c.group g).state = .initialising))

/-- A module of the group is present and takes part: a MEMBER or READY. -/
def Chip.groupPresent (c : Chip) (g : Nat) : Bool :=
  (List.range 9).any (fun m => match (c.chan (memberChan g m)).state with | .member | .ready => true | _ => false)

/-- Sanitize on one chip: Secure Erase, and the initialisation of every present member of every group (12 R329). -/
def Chip.sanitize (c : Chip) : Chip :=
  let c := c.secureErase
  let c := c.groupNos.foldl (fun c g => c.discardGroup g) c
  let c := (c.groupNos.filter c.groupPresent).foldl (fun c g => c.startInit g) c
  c.onSec fun s => { s with sanitizing := c.initialising }

end Sys2Proof.Machine
end

