-- ==== Sys2Proof/Machine/DictTable.lean ====
section
/-! DEFINITION. The entries of the object dictionary, as the entry maps of the chapters give them
(13 R363 to R367): index, subindices, type, access code, level to write (or, for an entry that is
read only, to read), default, range, reserved bits. -/

namespace Sys2Proof.Machine

/-- Types of entries (Table 00-5). -/
inductive DType where
  | u8 | u16 | u32 | u64 | i16 | bool | time64
  | str (n : Nat)
  | blob (n : Nat)
  | domain
  deriving DecidableEq, Repr

/-- Size of a type in bytes; a DOMAIN has the length of its value. -/
def DType.size : DType → Nat
  | .u8 => 1 | .u16 => 2 | .u32 => 4 | .u64 => 8 | .i16 => 2 | .bool => 1 | .time64 => 8
  | .str n => n | .blob n => n | .domain => 0

/-- Code of a type (Table 13-11). -/
def DType.code : DType → Nat
  | .u8 => 1 | .u16 => 2 | .u32 => 3 | .u64 => 4 | .i16 => 5 | .bool => 7 | .time64 => 8
  | .str _ => 9 | .blob _ => 10 | .domain => 11

/-- The type is mapped in the control window (13 R371). -/
def DType.mapped : DType → Bool
  | .str _ | .blob _ | .domain => false
  | _ => true

/-- Access codes of entries (Table 00-4). -/
inductive DAcc where
  | ro | rw | w1c | wo
  deriving DecidableEq, Repr

/-- Code of an access (Table 13-11). -/
def DAcc.code : DAcc → Nat
  | .ro => 0 | .rw => 1 | .w1c => 2 | .wo => 4

/-- An entry, or a run of entries of consecutive subindices. -/
structure DictRow where
  index : Nat
  lo : Nat
  hi : Nat
  type : DType
  acc : DAcc
  level : Nat
  dflt : Nat := 0
  persistent : Bool := false
  /-- Kept for each requester (13 R365). -/
  perReq : Bool := false
  min : Nat := 0
  max : Option Nat := none
  /-- Bits that the entry marks reserved, pad or must be 0 (13 R369). -/
  rsv : Nat := 0
  deriving Repr

/-- Entries DEVICE_SERIAL to REEL_COUNT. -/
def dictRows0 : List DictRow := [
  { index := 0x1000, lo := 1, hi := 1, type := .u64, acc := .ro, level := 0 },  -- DEVICE_SERIAL
  { index := 0x1000, lo := 2, hi := 2, type := .u8, acc := .ro, level := 0 },  -- PART_NUMBER
  { index := 0x1000, lo := 3, hi := 3, type := (.blob 6), acc := .ro, level := 0 },  -- RING_MAC
  { index := 0x1000, lo := 4, hi := 4, type := (.str 32), acc := .rw, level := 1, persistent := true },  -- NODE_NAME
  { index := 0x1100, lo := 1, hi := 2, type := .u8, acc := .ro, level := 0 },  -- RING_PORT_STATE
  { index := 0x1100, lo := 3, hi := 3, type := .bool, acc := .ro, level := 0 },  -- RING_BREAK
  { index := 0x1101, lo := 1, hi := 2, type := .u64, acc := .ro, level := 0 },  -- RING_RX_FRAMES
  { index := 0x1101, lo := 3, hi := 4, type := .u64, acc := .ro, level := 0 },  -- RING_TX_FRAMES
  { index := 0x1102, lo := 1, hi := 1, type := .u64, acc := .ro, level := 0 },  -- DUP_DROPPED
  { index := 0x1102, lo := 2, hi := 2, type := .u32, acc := .ro, level := 0 },  -- FCS_DROPPED
  { index := 0x1102, lo := 3, hi := 3, type := .u32, acc := .ro, level := 0 },  -- HOPS_EXPIRED
  { index := 0x1102, lo := 4, hi := 4, type := .u32, acc := .ro, level := 0 },  -- OVERLONG_CUT
  { index := 0x1110, lo := 1, hi := 1, type := (.blob 32), acc := .wo, level := 2, persistent := true },  -- RING_KEY_OPERATOR
  { index := 0x1110, lo := 2, hi := 2, type := (.blob 32), acc := .wo, level := 2, persistent := true },  -- RING_KEY_CUSTODIAN
  { index := 0x1110, lo := 3, hi := 3, type := .u32, acc := .ro, level := 0 },  -- AUTH_FAILS
  { index := 0x1120, lo := 1, hi := 1, type := .u32, acc := .rw, level := 1, dflt := 255, persistent := true, rsv := 0xFFFFFF00 },  -- NOTIFY_MASK
  { index := 0x1120, lo := 2, hi := 2, type := .u32, acc := .ro, level := 0 },  -- NOTIFY_SENT
  { index := 0x1120, lo := 3, hi := 3, type := .u32, acc := .ro, level := 0 },  -- NOTIFY_DROPPED
  { index := 0x1130, lo := 1, hi := 1, type := .u8, acc := .ro, level := 0 },  -- TRANSFERS_OPEN
  { index := 0x1130, lo := 2, hi := 2, type := .u32, acc := .ro, level := 0 },  -- TRANSFER_ABORTS
  { index := 0x1130, lo := 3, hi := 3, type := (.blob 16), acc := .ro, level := 0 },  -- LAST_ABORT
  { index := 0x1130, lo := 4, hi := 4, type := .u8, acc := .ro, level := 0 },  -- RING_CONTEXTS
  { index := 0x1140, lo := 1, hi := 1, type := .u8, acc := .wo, level := 2, min := 1, max := some 1 },  -- DICT_DEFAULTS
  { index := 0x1140, lo := 2, hi := 2, type := .u32, acc := .ro, level := 0 },  -- DICT_STORE_WRITES
  { index := 0x1400, lo := 1, hi := 6, type := .u32, acc := .ro, level := 0 },  -- HEAD_STATUS
  { index := 0x1401, lo := 1, hi := 6, type := .u8, acc := .rw, level := 1, dflt := 255, persistent := true },  -- HEAD_DC_REGIONS
  { index := 0x1402, lo := 1, hi := 6, type := .u8, acc := .rw, level := 2, dflt := 1, persistent := true, min := 0, max := some 2 },  -- HEAD_MBOX_LEVEL
  { index := 0x1403, lo := 1, hi := 6, type := .u32, acc := .ro, level := 0 },  -- HEAD_IDE_FAIL_COUNT
  { index := 0x1404, lo := 1, hi := 1, type := .u8, acc := .rw, level := 1, dflt := 3, persistent := true, min := 0, max := some 3 },  -- HEAD_MAX_RATE
  { index := 0x2000, lo := 1, hi := 1, type := .u32, acc := .ro, level := 0 },  -- OBJ_COUNT
  { index := 0x2000, lo := 2, hi := 2, type := .u64, acc := .ro, level := 0 },  -- OBJ_FREE_GRANULES
  { index := 0x2001, lo := 1, hi := 4, type := .u64, acc := .ro, level := 0 },  -- SG_FREE_GRANULES
  { index := 0x2010, lo := 1, hi := 1, type := .u32, acc := .rw, level := 0, perReq := true },  -- OBJ_SELECT
  { index := 0x2011, lo := 1, hi := 1, type := (.blob 40), acc := .ro, level := 0 },  -- OBJ_DESC
  { index := 0x2011, lo := 2, hi := 2, type := .u32, acc := .ro, level := 0 },  -- OBJ_USER_TAG
  { index := 0x2011, lo := 3, hi := 3, type := .u64, acc := .ro, level := 0 },  -- OBJ_DIRTY_LINES
  { index := 0x2020, lo := 1, hi := 6, type := .u32, acc := .ro, level := 0 },  -- CUE_STATE
  { index := 0x2021, lo := 1, hi := 6, type := .u64, acc := .ro, level := 0 },  -- CUE_CMD_COUNT
  { index := 0x2022, lo := 1, hi := 1, type := .u8, acc := .rw, level := 1, dflt := 16, persistent := true, min := 1, max := some 64 },  -- CUE_INFLIGHT_MAX
  { index := 0x2030, lo := 1, hi := 1, type := .u16, acc := .ro, level := 0 }]  -- REEL_COUNT

/-- Entries REEL_FRAME_LIMIT to SQUALL_COUNT. -/
def dictRows1 : List DictRow := [
  { index := 0x2030, lo := 2, hi := 2, type := .u32, acc := .rw, level := 1, dflt := 524288, persistent := true, min := 0, max := some 1048576 },  -- REEL_FRAME_LIMIT
  { index := 0x2030, lo := 3, hi := 3, type := .u32, acc := .ro, level := 0 },  -- REEL_FRAMES_USED
  { index := 0x2030, lo := 4, hi := 4, type := .time64, acc := .rw, level := 1, dflt := 50000000, persistent := true, min := 1000000, max := some 10000000000 },  -- REEL_STALL_TIMEOUT
  { index := 0x2031, lo := 1, hi := 1, type := .u16, acc := .rw, level := 0, perReq := true },  -- REEL_SELECT
  { index := 0x2031, lo := 2, hi := 2, type := (.blob 48), acc := .ro, level := 0 },  -- REEL_INFO
  { index := 0x2040, lo := 1, hi := 1, type := .u8, acc := .ro, level := 0 },  -- DOLLY_STATE
  { index := 0x2040, lo := 2, hi := 2, type := .u32, acc := .rw, level := 1, dflt := 8000, persistent := true, min := 500, max := some 25000 },  -- DOLLY_RATE
  { index := 0x2040, lo := 3, hi := 3, type := .u8, acc := .ro, level := 0 },  -- DOLLY_OPEN_GRANULES
  { index := 0x2040, lo := 4, hi := 4, type := .u64, acc := .ro, level := 0 },  -- DOLLY_QUEUED_GRANULES
  { index := 0x2040, lo := 5, hi := 5, type := .u64, acc := .ro, level := 0 },  -- DOLLY_BYTES
  { index := 0x2040, lo := 6, hi := 6, type := .u64, acc := .ro, level := 0 },  -- DOLLY_SEGMENTS
  { index := 0x2040, lo := 7, hi := 7, type := .u32, acc := .ro, level := 0 },  -- DOLLY_ABANDONED
  { index := 0x2040, lo := 8, hi := 8, type := .u32, acc := .ro, level := 0 },  -- DOLLY_ROLLBACKS
  { index := 0x2040, lo := 9, hi := 9, type := .time64, acc := .ro, level := 0 },  -- DOLLY_PARK_PEAK
  { index := 0x2041, lo := 1, hi := 1, type := (.blob 4), acc := .wo, level := 1, rsv := 0xFFFE0000 },  -- EVAC_CMD
  { index := 0x2041, lo := 2, hi := 2, type := .u8, acc := .ro, level := 0 },  -- EVAC_STATE
  { index := 0x2041, lo := 3, hi := 3, type := .u8, acc := .ro, level := 0 },  -- EVAC_PROGRESS
  { index := 0x2041, lo := 4, hi := 4, type := .u64, acc := .ro, level := 0 },  -- EVAC_REMAINING
  { index := 0x2050, lo := 1, hi := 1, type := .u64, acc := .ro, level := 0 },  -- SCRUB_BACKLOG
  { index := 0x2050, lo := 2, hi := 2, type := .bool, acc := .rw, level := 2, persistent := true },  -- SCRUB_ON_DESTROY
  { index := 0x2060, lo := 1, hi := 1, type := .u32, acc := .ro, level := 0 },  -- CMD_ERROR_COUNT
  { index := 0x2060, lo := 2, hi := 2, type := (.blob 16), acc := .ro, level := 0 },  -- CMD_LAST_ERROR
  { index := 0x2070, lo := 1, hi := 1, type := (.blob 64), acc := .wo, level := 1 },  -- OBJ_CMD
  { index := 0x2070, lo := 2, hi := 2, type := (.blob 64), acc := .ro, level := 1 },  -- OBJ_CMD_RESULT
  { index := 0x3000, lo := 1, hi := 1, type := .u32, acc := .ro, level := 0, dflt := 196608 },  -- CACHE_SETS
  { index := 0x3000, lo := 2, hi := 2, type := .u8, acc := .rw, level := 1, persistent := true, min := 0, max := some 4 },  -- WAYS_SCRATCH
  { index := 0x3000, lo := 3, hi := 3, type := .u8, acc := .rw, level := 1, persistent := true, min := 0, max := some 4 },  -- WAYS_PIN
  { index := 0x3000, lo := 4, hi := 4, type := .u8, acc := .ro, level := 0 },  -- WAY_CHANGE_STATE
  { index := 0x3000, lo := 5, hi := 5, type := .u64, acc := .ro, level := 0 },  -- SCRATCH_SIZE
  { index := 0x3010, lo := 1, hi := 1, type := .u64, acc := .ro, level := 0 },  -- DIRTY_TOTAL
  { index := 0x3010, lo := 2, hi := 2, type := .u64, acc := .ro, level := 0 },  -- DIRTY_PARTNER
  { index := 0x3010, lo := 3, hi := 3, type := .u64, acc := .ro, level := 0 },  -- DIRTY_BUDGET
  { index := 0x3010, lo := 4, hi := 4, type := .u32, acc := .ro, level := 0 },  -- WINDOW_CAPACITY
  { index := 0x3010, lo := 5, hi := 5, type := .u32, acc := .ro, level := 0 },  -- WINDOW_USE
  { index := 0x3011, lo := 1, hi := 1, type := .u8, acc := .ro, level := 0 },  -- SQUALL_STATE
  { index := 0x3011, lo := 2, hi := 2, type := .u64, acc := .rw, level := 1, dflt := 268435456, persistent := true, min := 67108864, max := some 1073741824 },  -- SQUALL_ENTER_BYTES
  { index := 0x3011, lo := 3, hi := 3, type := .u64, acc := .rw, level := 1, dflt := 536870912, persistent := true, min := 0, max := some 2147483648 },  -- SQUALL_EXIT_BYTES
  { index := 0x3011, lo := 4, hi := 4, type := .u32, acc := .rw, level := 1, dflt := 65536, persistent := true, min := 16384, max := some 262144 },  -- SQUALL_ENTER_FRAMES
  { index := 0x3011, lo := 5, hi := 5, type := .u32, acc := .rw, level := 1, dflt := 131072, persistent := true, min := 0, max := some 524288 },  -- SQUALL_EXIT_FRAMES
  { index := 0x3011, lo := 6, hi := 6, type := .u32, acc := .ro, level := 0 }]  -- SQUALL_COUNT

/-- Entries SQUALL_TIME to MED_REMOVE. -/
def dictRows2 : List DictRow := [
  { index := 0x3011, lo := 7, hi := 7, type := .time64, acc := .ro, level := 0 },  -- SQUALL_TIME
  { index := 0x3012, lo := 1, hi := 1, type := .u8, acc := .rw, level := 1, dflt := 50, persistent := true, min := 10, max := some 90 },  -- WB_START
  { index := 0x3012, lo := 2, hi := 2, type := .time64, acc := .rw, level := 1, dflt := 1000000000, persistent := true, min := 10000000, max := some 60000000000 },  -- WB_AGE_MAX
  { index := 0x3012, lo := 3, hi := 3, type := .u64, acc := .ro, level := 0 },  -- WB_FULL_BYTES
  { index := 0x3012, lo := 4, hi := 4, type := .u64, acc := .ro, level := 0 },  -- WB_PARTIAL_BYTES
  { index := 0x3020, lo := 1, hi := 1, type := .u32, acc := .ro, level := 0 },  -- PIN_FRAMES_TOTAL
  { index := 0x3020, lo := 2, hi := 2, type := .u32, acc := .ro, level := 0 },  -- PIN_FRAMES_USED
  { index := 0x3030, lo := 1, hi := 1, type := .u64, acc := .ro, level := 0 },  -- DESC_HITS
  { index := 0x3030, lo := 2, hi := 2, type := .u64, acc := .ro, level := 0 },  -- DESC_MISSES
  { index := 0x3040, lo := 1, hi := 1, type := .u64, acc := .ro, level := 0 },  -- CACHE_HITS
  { index := 0x3040, lo := 2, hi := 2, type := .u64, acc := .ro, level := 0 },  -- CACHE_MISSES
  { index := 0x3040, lo := 3, hi := 3, type := .u32, acc := .ro, level := 0 },  -- DETACHED_SEGMENTS
  { index := 0x3040, lo := 4, hi := 4, type := .u64, acc := .ro, level := 0 },  -- MERGE_WAITS
  { index := 0x3050, lo := 1, hi := 1, type := .u32, acc := .ro, level := 0 },  -- TAG_PARITY_COUNT
  { index := 0x3800, lo := 1, hi := 16, type := .u8, acc := .ro, level := 0 },  -- PC_STATE
  { index := 0x3801, lo := 1, hi := 16, type := .u8, acc := .ro, level := 0 },  -- PC_INDEX
  { index := 0x3802, lo := 1, hi := 1, type := .u8, acc := .ro, level := 0, dflt := 15 },  -- SPARE_PC
  { index := 0x3810, lo := 1, hi := 16, type := .u32, acc := .ro, level := 0 },  -- PC_CE_COUNT
  { index := 0x3811, lo := 1, hi := 16, type := .u32, acc := .ro, level := 0 },  -- PC_UE_COUNT
  { index := 0x3812, lo := 1, hi := 1, type := .u8, acc := .rw, level := 1, dflt := 4, persistent := true, min := 1, max := some 16 },  -- RETIRE_UE_LIMIT
  { index := 0x3812, lo := 2, hi := 2, type := .time64, acc := .rw, level := 1, dflt := 86400000000000, persistent := true, min := 3600000000000, max := some 604800000000000 },  -- RETIRE_UE_WINDOW
  { index := 0x3812, lo := 3, hi := 3, type := .u32, acc := .rw, level := 1, dflt := 100000, persistent := true, min := 1000, max := some 10000000 },  -- RETIRE_CE_RATE
  { index := 0x3813, lo := 1, hi := 1, type := .u8, acc := .wo, level := 1 },  -- RETIRE_CMD
  { index := 0x3813, lo := 2, hi := 2, type := .u8, acc := .ro, level := 0 },  -- RETIRE_PROGRESS
  { index := 0x3814, lo := 1, hi := 1, type := (.blob 32), acc := .ro, level := 0 },  -- RETIRE_LOG
  { index := 0x3820, lo := 1, hi := 1, type := .u16, acc := .ro, level := 0 },  -- MIRROR_RX_FILL
  { index := 0x3820, lo := 2, hi := 2, type := .u16, acc := .rw, level := 1, dflt := 3072, persistent := true, min := 1024, max := some 4032 },  -- PANIC_ON
  { index := 0x3820, lo := 3, hi := 3, type := .u16, acc := .rw, level := 1, dflt := 1024, persistent := true, min := 0, max := some 3968 },  -- PANIC_OFF
  { index := 0x3820, lo := 4, hi := 4, type := .u32, acc := .ro, level := 0 },  -- PANIC_COUNT
  { index := 0x3830, lo := 1, hi := 1, type := .i16, acc := .ro, level := 0 },  -- STACK_TEMP
  { index := 0x3830, lo := 2, hi := 2, type := .u8, acc := .ro, level := 0 },  -- REFRESH_TIER
  { index := 0x3830, lo := 3, hi := 3, type := .u8, acc := .ro, level := 0 },  -- REFRESH_OWED_PEAK
  { index := 0x3840, lo := 1, hi := 16, type := (.blob 16), acc := .ro, level := 0 },  -- TRAIN_MARGIN
  { index := 0x3850, lo := 1, hi := 1, type := .u32, acc := .ro, level := 0 },  -- PARITY_RETRY_COUNT
  { index := 0x3860, lo := 1, hi := 1, type := .u8, acc := .ro, level := 0 },  -- SR_CHANNELS
  { index := 0x4000, lo := 1, hi := 1, type := .u8, acc := .ro, level := 0, dflt := 36 },  -- MED_CH_COUNT
  { index := 0x4001, lo := 1, hi := 36, type := .u8, acc := .ro, level := 0 },  -- MED_CH_STATE
  { index := 0x4002, lo := 1, hi := 36, type := (.blob 32), acc := .ro, level := 0 },  -- MED_MOD_INFO
  { index := 0x4003, lo := 1, hi := 36, type := .u8, acc := .ro, level := 0 },  -- MED_LIFE_USED
  { index := 0x4004, lo := 1, hi := 1, type := .u8, acc := .wo, level := 1 }]  -- MED_REMOVE

/-- Entries MED_REMOVE_STATE to SCRUB_PASSES. -/
def dictRows3 : List DictRow := [
  { index := 0x4004, lo := 2, hi := 2, type := .u8, acc := .ro, level := 0 },  -- MED_REMOVE_STATE
  { index := 0x4010, lo := 1, hi := 4, type := .u8, acc := .ro, level := 0 },  -- SG_STATE
  { index := 0x4011, lo := 1, hi := 4, type := .u8, acc := .ro, level := 0, dflt := 255 },  -- SG_MISSING
  { index := 0x4012, lo := 1, hi := 1, type := .u32, acc := .rw, level := 1, dflt := 2000, persistent := true, min := 500, max := some 6000 },  -- REBUILD_RATE
  { index := 0x4012, lo := 2, hi := 2, type := .u8, acc := .ro, level := 0 },  -- REBUILD_PROGRESS
  { index := 0x4012, lo := 3, hi := 3, type := .u16, acc := .rw, level := 1, dflt := 384, persistent := true, min := 384, max := some 1024 },  -- DEG_ROWS
  { index := 0x4013, lo := 1, hi := 1, type := .u8, acc := .wo, level := 2 },  -- SG_INIT
  { index := 0x4020, lo := 1, hi := 1, type := .u8, acc := .rw, level := 1, dflt := 40, persistent := true, min := 20, max := some 40 },  -- WB_BUS_SHARE
  { index := 0x4020, lo := 2, hi := 2, type := .u32, acc := .ro, level := 0 },  -- ROW_CHECK_COUNT
  { index := 0x4030, lo := 1, hi := 1, type := .u64, acc := .ro, level := 0 },  -- STANDIN_READS
  { index := 0x4030, lo := 2, hi := 2, type := .u64, acc := .ro, level := 0 },  -- DIRECT_READS
  { index := 0x4030, lo := 3, hi := 3, type := .u64, acc := .ro, level := 0 },  -- QUEUE_WAITS
  { index := 0x4030, lo := 4, hi := 4, type := .time64, acc := .ro, level := 0 },  -- READ_PEAK
  { index := 0x4030, lo := 5, hi := 5, type := .time64, acc := .ro, level := 0 },  -- DEG_READ_PEAK
  { index := 0x4100, lo := 1, hi := 1, type := .u64, acc := .ro, level := 0 },  -- WEAR_RELOCATIONS
  { index := 0x4120, lo := 1, hi := 1, type := .u64, acc := .rw, level := 0, perReq := true, rsv := 0xFFFFFF0000000000 },  -- MED_DRIFT_SELECT
  { index := 0x4120, lo := 2, hi := 2, type := .time64, acc := .ro, level := 0 },  -- MED_DRIFT_AGE
  { index := 0x4120, lo := 3, hi := 3, type := .u8, acc := .ro, level := 0 },  -- MED_DRIFT_BIN
  { index := 0x4121, lo := 1, hi := 5, type := .u64, acc := .ro, level := 0 },  -- DRIFT_BIN_UNITS
  { index := 0x4122, lo := 1, hi := 1, type := .time64, acc := .rw, level := 1, dflt := 15552000000000000, persistent := true, min := 2592000000000000, max := some 31536000000000000 },  -- DRIFT_REFRESH_AGE
  { index := 0x4122, lo := 2, hi := 2, type := .u8, acc := .rw, level := 1, dflt := 4, persistent := true, min := 1, max := some 8 },  -- DRIFT_REFRESH_BITS
  { index := 0x4122, lo := 3, hi := 3, type := .u64, acc := .ro, level := 0 },  -- DRIFT_REFRESH_COUNT
  { index := 0x4123, lo := 1, hi := 1, type := .u16, acc := .rw, level := 0, perReq := true, rsv := 0xF000 },  -- REF_SELECT
  { index := 0x4123, lo := 2, hi := 2, type := (.blob 5), acc := .ro, level := 0 },  -- REF_OFFSETS
  { index := 0x4130, lo := 1, hi := 1, type := .u32, acc := .ro, level := 0 },  -- WMAP_BLOCKS_USED
  { index := 0x4130, lo := 2, hi := 2, type := .u64, acc := .ro, level := 0 },  -- WMAP_MATERIALISED
  { index := 0x4140, lo := 1, hi := 36, type := (.blob 16), acc := .ro, level := 0 },  -- GMI_TRAIN_MARGIN
  { index := 0x4201, lo := 1, hi := 36, type := .u32, acc := .ro, level := 0 },  -- CH_CE_COUNT
  { index := 0x4202, lo := 1, hi := 36, type := .u32, acc := .ro, level := 0 },  -- CH_UE_COUNT
  { index := 0x4203, lo := 1, hi := 1, type := .u64, acc := .ro, level := 0 },  -- RECOVERY_COUNTS
  { index := 0x4203, lo := 2, hi := 2, type := .u64, acc := .ro, level := 0 },  -- RECOVERED_BIN
  { index := 0x4203, lo := 3, hi := 3, type := .u64, acc := .ro, level := 0 },  -- RECOVERED_MIRROR
  { index := 0x4203, lo := 4, hi := 4, type := .u64, acc := .ro, level := 0 },  -- DECLARED_UE
  { index := 0x4203, lo := 5, hi := 5, type := .u64, acc := .ro, level := 0 },  -- RECOVERY_WAITS
  { index := 0x4210, lo := 1, hi := 1, type := .u16, acc := .rw, level := 1, dflt := 64, persistent := true, min := 4, max := some 4096 },  -- BUCKET_LIMIT
  { index := 0x4210, lo := 2, hi := 2, type := .time64, acc := .rw, level := 1, dflt := 60000000000, persistent := true, min := 1000000000, max := some 3600000000000 },  -- BUCKET_LEAK
  { index := 0x4211, lo := 1, hi := 36, type := .u16, acc := .ro, level := 0 },  -- CH_BUCKET
  { index := 0x4212, lo := 1, hi := 16, type := .u16, acc := .ro, level := 0 },  -- PC_BUCKET
  { index := 0x4220, lo := 1, hi := 1, type := .time64, acc := .rw, level := 1, dflt := 86400000000000, persistent := true, min := 28800000000000, max := some 604800000000000 },  -- SCRUB_PERIOD
  { index := 0x4220, lo := 2, hi := 2, type := .u32, acc := .ro, level := 0 }]  -- SCRUB_PASSES

/-- Entries SCRUB_LAST_END to AUDIT_RATE. -/
def dictRows4 : List DictRow := [
  { index := 0x4220, lo := 3, hi := 3, type := .time64, acc := .ro, level := 0 },  -- SCRUB_LAST_END
  { index := 0x4220, lo := 4, hi := 4, type := .bool, acc := .ro, level := 0 },  -- SCRUB_LATE
  { index := 0x4221, lo := 1, hi := 4, type := .u8, acc := .ro, level := 0 },  -- SCRUB_PROGRESS
  { index := 0x4222, lo := 1, hi := 1, type := .time64, acc := .rw, level := 1, dflt := 3600000000000, persistent := true, min := 600000000000, max := some 86400000000000 },  -- HBM_SCRUB_PERIOD
  { index := 0x4230, lo := 1, hi := 1, type := .u16, acc := .ro, level := 0 },  -- POISON_RECORDS
  { index := 0x4230, lo := 2, hi := 2, type := .bool, acc := .ro, level := 0 },  -- POISON_OVERFLOW
  { index := 0x4240, lo := 1, hi := 1, type := .u32, acc := .ro, level := 0 },  -- SRAM_CE_COUNT
  { index := 0x4240, lo := 2, hi := 2, type := .u32, acc := .ro, level := 0 },  -- SRAM_UE_COUNT
  { index := 0x4250, lo := 1, hi := 1, type := (.blob 32), acc := .ro, level := 0 },  -- LAST_UE
  { index := 0x5000, lo := 1, hi := 1, type := .u8, acc := .ro, level := 0 },  -- PAIR_STATE
  { index := 0x5000, lo := 2, hi := 2, type := .u8, acc := .ro, level := 0 },  -- PAIR_POSITION
  { index := 0x5000, lo := 3, hi := 3, type := .u64, acc := .ro, level := 0 },  -- PAIR_EPOCH
  { index := 0x5000, lo := 4, hi := 4, type := .u64, acc := .ro, level := 0 },  -- TWIN_SERIAL
  { index := 0x5000, lo := 5, hi := 5, type := .u8, acc := .ro, level := 0 },  -- PAIR_REFUSE_CAUSE
  { index := 0x5000, lo := 6, hi := 6, type := .u64, acc := .wo, level := 2 },  -- PAIR_REPLACE
  { index := 0x5001, lo := 1, hi := 1, type := .u8, acc := .ro, level := 0 },  -- TWIN_LINK_STATE
  { index := 0x5001, lo := 2, hi := 2, type := .u32, acc := .ro, level := 0 },  -- TWIN_LINK_DOWNS
  { index := 0x5001, lo := 3, hi := 3, type := .u64, acc := .ro, level := 0 },  -- TWIN_MSG_COUNT
  { index := 0x5001, lo := 4, hi := 4, type := .u32, acc := .ro, level := 0 },  -- STALE_MSG_COUNT
  { index := 0x5002, lo := 1, hi := 1, type := .u8, acc := .ro, level := 0 },  -- PULSE_STATE
  { index := 0x5002, lo := 2, hi := 2, type := .u32, acc := .ro, level := 0 },  -- PULSE_LOSSES
  { index := 0x5010, lo := 1, hi := 1, type := .u8, acc := .ro, level := 0 },  -- MIRROR_STATE
  { index := 0x5010, lo := 2, hi := 2, type := .u64, acc := .ro, level := 0 },  -- STALE_GRANULES
  { index := 0x5010, lo := 3, hi := 3, type := .u8, acc := .ro, level := 0 },  -- RESYNC_PROGRESS
  { index := 0x5010, lo := 4, hi := 4, type := .u64, acc := .ro, level := 0 },  -- MIRROR_WRITES
  { index := 0x5020, lo := 1, hi := 1, type := .u8, acc := .ro, level := 0 },  -- LEASE_STATE
  { index := 0x5020, lo := 2, hi := 2, type := .time64, acc := .ro, level := 0 },  -- LEASE_REMAINING
  { index := 0x5020, lo := 3, hi := 3, type := (.blob 6), acc := .rw, level := 2, persistent := true },  -- WITNESS_NODE
  { index := 0x5020, lo := 4, hi := 4, type := .u32, acc := .ro, level := 0 },  -- RENEW_MISSES
  { index := 0x5020, lo := 5, hi := 5, type := .u64, acc := .ro, level := 0 },  -- WITNESS_SEQ
  { index := 0x5020, lo := 6, hi := 6, type := (.blob 32), acc := .wo, level := 2, persistent := true },  -- WITNESS_KEY
  { index := 0x5030, lo := 1, hi := 1, type := .u8, acc := .wo, level := 1, min := 1, max := some 1 },  -- HANDOVER_CMD
  { index := 0x5030, lo := 2, hi := 2, type := .bool, acc := .rw, level := 1 },  -- HANDOVER_RELEASE
  { index := 0x5030, lo := 3, hi := 3, type := .bool, acc := .rw, level := 1, dflt := 1, persistent := true },  -- AUTO_FAILBACK
  { index := 0x5030, lo := 4, hi := 4, type := .u8, acc := .ro, level := 0 },  -- HANDOVER_STATE
  { index := 0x5040, lo := 1, hi := 1, type := .u8, acc := .wo, level := 1, min := 1, max := some 1 },  -- REHEARSE_CMD
  { index := 0x5040, lo := 2, hi := 2, type := (.blob 32), acc := .ro, level := 0 },  -- REHEARSE_RESULT
  { index := 0x5040, lo := 3, hi := 3, type := .time64, acc := .rw, level := 1, dflt := 86400000000000, persistent := true, min := 0, max := some 2592000000000000 },  -- REHEARSE_PERIOD
  { index := 0x5041, lo := 1, hi := 1, type := .bool, acc := .rw, level := 1, dflt := 1, persistent := true },  -- AUDIT_ENABLE
  { index := 0x5041, lo := 2, hi := 2, type := .u32, acc := .rw, level := 1, dflt := 500, persistent := true, min := 50, max := some 4000 }]  -- AUDIT_RATE

/-- Entries AUDIT_MISMATCHES to DIRTY_SHUTDOWN_COUNT. -/
def dictRows5 : List DictRow := [
  { index := 0x5041, lo := 3, hi := 3, type := .u32, acc := .ro, level := 0 },  -- AUDIT_MISMATCHES
  { index := 0x5041, lo := 4, hi := 4, type := .u8, acc := .ro, level := 0 },  -- AUDIT_PROGRESS
  { index := 0x5050, lo := 1, hi := 1, type := .u16, acc := .ro, level := 0 },  -- HOLD_PEAK
  { index := 0x5050, lo := 2, hi := 2, type := .u32, acc := .ro, level := 0 },  -- HOLD_EXPIRED
  { index := 0x5050, lo := 3, hi := 3, type := .u32, acc := .ro, level := 0 },  -- TAKEOVER_COUNT
  { index := 0x5050, lo := 4, hi := 4, type := (.blob 48), acc := .ro, level := 0 },  -- TAKEOVER_LOG
  { index := 0x6000, lo := 1, hi := 1, type := .u8, acc := .ro, level := 0 },  -- PWR_STATE
  { index := 0x6000, lo := 2, hi := 2, type := .u16, acc := .ro, level := 0 },  -- VAUX_MV
  { index := 0x6001, lo := 1, hi := 16, type := (.blob 32), acc := .rw, level := 2, persistent := true },  -- SQ_CONFIG
  { index := 0x6002, lo := 1, hi := 16, type := .u32, acc := .ro, level := 0 },  -- SQ_STATUS
  { index := 0x6003, lo := 1, hi := 16, type := .u32, acc := .ro, level := 0 },  -- SQ_FAULT_COUNT
  { index := 0x6004, lo := 1, hi := 1, type := .u8, acc := .rw, level := 1, dflt := 3, persistent := true, min := 0, max := some 7 },  -- SEQ_RETRIES
  { index := 0x6004, lo := 2, hi := 2, type := .time64, acc := .rw, level := 1, dflt := 100000000, persistent := true, min := 10000000, max := some 10000000000 },  -- SEQ_RETRY_DELAY
  { index := 0x6004, lo := 3, hi := 3, type := .u8, acc := .ro, level := 0 },  -- SEQ_RETRIES_USED
  { index := 0x6004, lo := 4, hi := 4, type := .u8, acc := .wo, level := 1, min := 0, max := some 7 },  -- SEQ_GROUP_ON
  { index := 0x6005, lo := 1, hi := 1, type := .u8, acc := .rw, level := 2, dflt := 1, persistent := true, min := 0, max := some 2 },  -- SEQ_FAULT_ACTION
  { index := 0x6006, lo := 1, hi := 1, type := (.blob 16), acc := .ro, level := 0 },  -- SEQ_LAST_FAULT
  { index := 0x6010, lo := 1, hi := 1, type := .u32, acc := .ro, level := 0 },  -- HOLDUP_MV
  { index := 0x6010, lo := 2, hi := 2, type := .u16, acc := .rw, level := 2, dflt := 10000, persistent := true },  -- HOLDUP_RATIO
  { index := 0x6010, lo := 3, hi := 3, type := .u32, acc := .ro, level := 0 },  -- RESERVE_ENERGY
  { index := 0x6010, lo := 4, hi := 4, type := .u32, acc := .ro, level := 0, persistent := true },  -- BANK_CAP
  { index := 0x6010, lo := 5, hi := 5, type := .u32, acc := .ro, level := 0, persistent := true },  -- BANK_ESR
  { index := 0x6010, lo := 6, hi := 6, type := .u64, acc := .ro, level := 0 },  -- BUDGET_PUBLISHED
  { index := 0x6011, lo := 1, hi := 1, type := .u32, acc := .rw, level := 2, persistent := true },  -- BANK_VMIN
  { index := 0x6011, lo := 2, hi := 2, type := .u8, acc := .rw, level := 2, dflt := 85, persistent := true, min := 50, max := some 98 },  -- BANK_EFFICIENCY
  { index := 0x6011, lo := 3, hi := 3, type := .u32, acc := .rw, level := 2, persistent := true },  -- WRAP_I_MAX
  { index := 0x6011, lo := 4, hi := 4, type := .u32, acc := .rw, level := 2, persistent := true },  -- HOLDUP_WRAP_MV
  { index := 0x6011, lo := 5, hi := 5, type := .u32, acc := .rw, level := 2, persistent := true },  -- PROBE_LOAD
  { index := 0x6012, lo := 1, hi := 1, type := .time64, acc := .rw, level := 1, dflt := 60000000000, persistent := true, min := 10000000000, max := some 3600000000000 },  -- PROBE_PERIOD
  { index := 0x6012, lo := 2, hi := 2, type := .u8, acc := .rw, level := 1, dflt := 2, persistent := true, min := 1, max := some 5 },  -- PROBE_DROP
  { index := 0x6012, lo := 3, hi := 3, type := .time64, acc := .rw, level := 1, dflt := 600000000000, persistent := true, min := 0, max := some 3600000000000 },  -- PROBE_DEFER_MAX
  { index := 0x6012, lo := 4, hi := 4, type := .u8, acc := .wo, level := 1, min := 1, max := some 1 },  -- PROBE_CMD
  { index := 0x6012, lo := 5, hi := 5, type := (.blob 32), acc := .ro, level := 0 },  -- PROBE_LAST
  { index := 0x6012, lo := 6, hi := 6, type := .u32, acc := .ro, level := 0 },  -- PROBE_COUNT
  { index := 0x6020, lo := 1, hi := 1, type := .u8, acc := .ro, level := 0 },  -- WRAP_STATE
  { index := 0x6020, lo := 2, hi := 2, type := .u8, acc := .wo, level := 2, min := 1, max := some 2 },  -- WRAP_CMD
  { index := 0x6020, lo := 3, hi := 3, type := (.blob 64), acc := .ro, level := 0 },  -- WRAP_RECORD
  { index := 0x6020, lo := 4, hi := 4, type := .u32, acc := .ro, level := 0, persistent := true },  -- WRAP_COUNT
  { index := 0x6020, lo := 5, hi := 5, type := .time64, acc := .rw, level := 1, dflt := 100000000, persistent := true, min := 10000000, max := some 1000000000 },  -- RESUME_HOLD
  { index := 0x6021, lo := 1, hi := 1, type := .u32, acc := .ro, level := 0 }]  -- DIRTY_SHUTDOWN_COUNT

/-- Entries DIRTY_MAP_SEGMENTS to SEAL_ALARMS. -/
def dictRows6 : List DictRow := [
  { index := 0x6021, lo := 2, hi := 2, type := .u32, acc := .ro, level := 0 },  -- DIRTY_MAP_SEGMENTS
  { index := 0x6030, lo := 1, hi := 1, type := .u32, acc := .ro, level := 0 },  -- SNAPSHOT_COUNT
  { index := 0x6030, lo := 2, hi := 2, type := (.blob 64), acc := .ro, level := 0 },  -- SNAPSHOT_LAST
  { index := 0x7000, lo := 1, hi := 1, type := .u32, acc := .ro, level := 0, dflt := 33554432 },  -- LEDGER_SIZE
  { index := 0x7000, lo := 2, hi := 2, type := .u8, acc := .ro, level := 0 },  -- LEDGER_STATE
  { index := 0x7001, lo := 1, hi := 12, type := (.blob 16), acc := .ro, level := 0 },  -- PART_INFO
  { index := 0x7010, lo := 1, hi := 1, type := .u32, acc := .rw, level := 1, perReq := true },  -- RAW_ADDR
  { index := 0x7010, lo := 2, hi := 2, type := (.blob 256), acc := .ro, level := 0 },  -- RAW_READ
  { index := 0x7010, lo := 3, hi := 3, type := .u16, acc := .rw, level := 1, dflt := 256, perReq := true, min := 1, max := some 256 },  -- RAW_LEN
  { index := 0x7010, lo := 4, hi := 4, type := (.blob 256), acc := .wo, level := 1 },  -- RAW_WRITE
  { index := 0x7020, lo := 1, hi := 4, type := (.blob 8), acc := .wo, level := 2, persistent := true },  -- USER_PASSWORD
  { index := 0x7020, lo := 5, hi := 5, type := (.blob 12), acc := .wo, level := 1, rsv := 0xFFFFFF00 },  -- USER_UNLOCK
  { index := 0x7020, lo := 6, hi := 6, type := .u8, acc := .wo, level := 1, min := 0, max := some 3 },  -- USER_LOCK
  { index := 0x7020, lo := 7, hi := 7, type := .u8, acc := .ro, level := 0 },  -- UNLOCK_FAILS
  { index := 0x7030, lo := 1, hi := 64, type := .u64, acc := .ro, level := 0 },  -- COUNTER
  { index := 0x7031, lo := 1, hi := 1, type := .u8, acc := .wo, level := 1, min := 32, max := some 63 },  -- COUNTER_INC
  { index := 0x7031, lo := 2, hi := 2, type := .u64, acc := .ro, level := 0 },  -- COUNTER_END
  { index := 0x7040, lo := 1, hi := 1, type := .time64, acc := .rw, level := 1, dflt := 2592000000000000, persistent := true, min := 604800000000000, max := some 2592000000000000 },  -- REFRESH_PERIOD
  { index := 0x7040, lo := 2, hi := 2, type := .u8, acc := .ro, level := 0 },  -- REFRESH_PROGRESS
  { index := 0x7040, lo := 3, hi := 3, type := .time64, acc := .ro, level := 0 },  -- REFRESH_LAST_END
  { index := 0x7040, lo := 4, hi := 4, type := .u64, acc := .ro, level := 0 },  -- REFRESH_REWRITES
  { index := 0x7040, lo := 5, hi := 5, type := .u8, acc := .wo, level := 1, min := 1, max := some 1 },  -- REFRESH_CMD
  { index := 0x7050, lo := 1, hi := 1, type := .u64, acc := .ro, level := 0 },  -- PAGE_WRITES
  { index := 0x7050, lo := 2, hi := 2, type := .u64, acc := .ro, level := 0 },  -- WEAR_PEAK
  { index := 0x7050, lo := 3, hi := 3, type := .u16, acc := .ro, level := 0, dflt := 1024 },  -- SPARE_PAGES_LEFT
  { index := 0x7050, lo := 4, hi := 4, type := .time64, acc := .ro, level := 0 },  -- WRITE_TIME_PEAK
  { index := 0x7050, lo := 5, hi := 5, type := .u32, acc := .ro, level := 0 },  -- LEDGER_CE_COUNT
  { index := 0x7050, lo := 6, hi := 6, type := .u32, acc := .ro, level := 0 },  -- LEDGER_UE_COUNT
  { index := 0x8000, lo := 1, hi := 1, type := .u8, acc := .ro, level := 0 },  -- SEC_STATE
  { index := 0x8000, lo := 2, hi := 2, type := .u8, acc := .ro, level := 0 },  -- USER_ATTEMPTS
  { index := 0x8000, lo := 3, hi := 3, type := .u8, acc := .ro, level := 0 },  -- MASTER_ATTEMPTS
  { index := 0x8010, lo := 1, hi := 1, type := .u8, acc := .rw, level := 0, perReq := true },  -- KEY_SELECT
  { index := 0x8010, lo := 2, hi := 2, type := .u8, acc := .ro, level := 0 },  -- KEY_STATE
  { index := 0x8010, lo := 3, hi := 3, type := .u32, acc := .ro, level := 0 },  -- KEY_OBJECTS
  { index := 0x8010, lo := 4, hi := 4, type := .u32, acc := .ro, level := 0 },  -- KEY_GENERATION
  { index := 0x8011, lo := 1, hi := 1, type := .u8, acc := .wo, level := 2 },  -- CRYPTO_ERASE
  { index := 0x8011, lo := 2, hi := 2, type := .u8, acc := .ro, level := 0 },  -- CRYPTO_ERASE_STATE
  { index := 0x8020, lo := 1, hi := 1, type := .u8, acc := .rw, level := 2, persistent := true, min := 0, max := some 1 },  -- SEAL_MODE
  { index := 0x8020, lo := 2, hi := 2, type := .u8, acc := .ro, level := 0 },  -- SEAL_QUEUE
  { index := 0x8020, lo := 3, hi := 3, type := .u32, acc := .ro, level := 0 }]  -- SEAL_ALARMS

/-- Entries SEAL_LAST_ALARM to STORE_IMPORT. -/
def dictRows7 : List DictRow := [
  { index := 0x8020, lo := 4, hi := 4, type := (.blob 16), acc := .ro, level := 0 },  -- SEAL_LAST_ALARM
  { index := 0x8020, lo := 5, hi := 5, type := .u32, acc := .ro, level := 0 },  -- SEAL_PARITY_FAULTS
  { index := 0x8020, lo := 6, hi := 6, type := .u8, acc := .ro, level := 0 },  -- SEAL_STATE
  { index := 0x8030, lo := 1, hi := 6, type := .u64, acc := .ro, level := 0 },  -- IDE_INVOCATIONS
  { index := 0x8030, lo := 7, hi := 7, type := .u64, acc := .ro, level := 0 },  -- TWIN_INVOCATIONS
  { index := 0x8030, lo := 8, hi := 8, type := .u8, acc := .ro, level := 0 },  -- IDE_REKEY_DUE
  { index := 0x8031, lo := 1, hi := 1, type := .u32, acc := .ro, level := 0 },  -- TWIN_REKEYS
  { index := 0x8031, lo := 2, hi := 2, type := .u32, acc := .ro, level := 0 },  -- NONCE_STOPS
  { index := 0x8040, lo := 1, hi := 1, type := .domain, acc := .ro, level := 0 },  -- CERT_CHAIN
  { index := 0x8040, lo := 2, hi := 2, type := .domain, acc := .ro, level := 0 },  -- MEASUREMENTS
  { index := 0x8040, lo := 3, hi := 3, type := .u8, acc := .ro, level := 0 },  -- SPDM_SESSIONS
  { index := 0x8050, lo := 1, hi := 1, type := (.blob 40), acc := .ro, level := 2 },  -- RTV_CHALLENGE
  { index := 0x8050, lo := 2, hi := 2, type := (.blob 64), acc := .wo, level := 2 },  -- RTV_RESPONSE
  { index := 0x8050, lo := 3, hi := 3, type := .u8, acc := .ro, level := 0 },  -- RTV_STATE
  { index := 0x8060, lo := 1, hi := 1, type := .u8, acc := .ro, level := 0 },  -- JTAG_STATE
  { index := 0x8070, lo := 1, hi := 1, type := .u8, acc := .ro, level := 0 },  -- DRBG_STATE
  { index := 0x9000, lo := 1, hi := 1, type := .u8, acc := .ro, level := 0 },  -- FW_ACTIVE_SLOT
  { index := 0x9000, lo := 2, hi := 2, type := .u8, acc := .ro, level := 0 },  -- FW_BOOT_STATE
  { index := 0x9000, lo := 3, hi := 3, type := .u8, acc := .ro, level := 0 },  -- FW_ATTEMPTS
  { index := 0x9000, lo := 4, hi := 4, type := .u8, acc := .rw, level := 2, dflt := 3, persistent := true, min := 1, max := some 7 },  -- FW_ATTEMPT_LIMIT
  { index := 0x9000, lo := 5, hi := 5, type := .time64, acc := .rw, level := 2, dflt := 600000000000, persistent := true, min := 60000000000, max := some 86400000000000 },  -- PROBATION_TIME
  { index := 0x9000, lo := 6, hi := 6, type := .u8, acc := .wo, level := 2, min := 1, max := some 1 },  -- FW_CONFIRM
  { index := 0x9000, lo := 7, hi := 7, type := .u8, acc := .wo, level := 2, min := 1, max := some 1 },  -- FW_REVERT
  { index := 0x9000, lo := 8, hi := 8, type := .time64, acc := .ro, level := 0 },  -- PROBATION_LEFT
  { index := 0x9001, lo := 1, hi := 1, type := .u8, acc := .ro, level := 0 },  -- BOOT_STAGE
  { index := 0x9001, lo := 2, hi := 2, type := .time64, acc := .ro, level := 0 },  -- BOOT_TIME
  { index := 0x9001, lo := 3, hi := 3, type := (.blob 32), acc := .ro, level := 0 },  -- BOOT_LOG
  { index := 0x9002, lo := 1, hi := 2, type := (.blob 32), acc := .ro, level := 0 },  -- FW_SLOT_INFO
  { index := 0x9010, lo := 1, hi := 1, type := .u8, acc := .rw, level := 2, dflt := 255, perReq := true },  -- UPD_SLOT
  { index := 0x9010, lo := 2, hi := 2, type := (.blob 4112), acc := .wo, level := 2 },  -- UPD_BLOCK
  { index := 0x9010, lo := 3, hi := 3, type := .u8, acc := .wo, level := 2, min := 1, max := some 2 },  -- UPD_END
  { index := 0x9010, lo := 4, hi := 4, type := .u8, acc := .ro, level := 0 },  -- UPD_STATE
  { index := 0x9010, lo := 5, hi := 5, type := .u32, acc := .ro, level := 0 },  -- UPD_NEXT_OFFSET
  { index := 0x9010, lo := 6, hi := 6, type := .u8, acc := .ro, level := 0 },  -- UPD_LAST_ERROR
  { index := 0x9030, lo := 1, hi := 1, type := .u8, acc := .wo, level := 2 },  -- FW_ACTIVATE
  { index := 0x9030, lo := 2, hi := 2, type := .u8, acc := .ro, level := 0, dflt := 255 },  -- PARTNER_BOOT_STATE
  { index := 0x9030, lo := 3, hi := 3, type := .bool, acc := .rw, level := 2 },  -- PROTO_CHANGE
  { index := 0x9040, lo := 1, hi := 1, type := .u16, acc := .ro, level := 0 },  -- STORE_FORMAT
  { index := 0x9040, lo := 2, hi := 2, type := .u16, acc := .ro, level := 0 },  -- STORE_OLD_FORMAT
  { index := 0x9040, lo := 3, hi := 3, type := .domain, acc := .wo, level := 2 }]  -- STORE_IMPORT

/-- Entries STORE_EXPORT to HEAD_ISOLATE. -/
def dictRows8 : List DictRow := [
  { index := 0x9040, lo := 4, hi := 4, type := .domain, acc := .ro, level := 2 },  -- STORE_EXPORT
  { index := 0x9040, lo := 5, hi := 5, type := .domain, acc := .wo, level := 2 },  -- STORE_RESTORE
  { index := 0x9040, lo := 6, hi := 6, type := .u8, acc := .ro, level := 0 },  -- STORE_STATE
  { index := 0x9040, lo := 7, hi := 7, type := .u32, acc := .ro, level := 0 },  -- IMPORT_DROPPED
  { index := 0x9050, lo := 1, hi := 1, type := .u8, acc := .wo, level := 2, min := 1, max := some 1 },  -- RECOVERY_CMD
  { index := 0xA000, lo := 1, hi := 1, type := .u64, acc := .ro, level := 0, rsv := 0xFFFFFFF0000000F0 },  -- BAROMETER
  { index := 0xA000, lo := 2, hi := 2, type := .u64, acc := .w1c, level := 1, rsv := 0xFFFFFFF0000000FF },  -- BAROMETER_SEEN
  { index := 0xA000, lo := 3, hi := 3, type := .u64, acc := .ro, level := 0, rsv := 0xFFFFFFF0000000F0 },  -- BAROMETER_LAST_BOOT
  { index := 0xA010, lo := 1, hi := 1, type := .time64, acc := .ro, level := 0 },  -- UPTIME
  { index := 0xA010, lo := 2, hi := 2, type := .i16, acc := .ro, level := 0 },  -- DIE_TEMP
  { index := 0xA010, lo := 3, hi := 3, type := .i16, acc := .ro, level := 0 },  -- DIE_TEMP_PEAK
  { index := 0xA020, lo := 1, hi := 12, type := .u8, acc := .ro, level := 0 },  -- CORE_STATE
  { index := 0xA030, lo := 1, hi := 1, type := .u64, acc := .rw, level := 0, perReq := true },  -- EVENT_SELECT
  { index := 0xA030, lo := 2, hi := 2, type := (.blob 128), acc := .ro, level := 0 },  -- EVENT_RECORD
  { index := 0xA030, lo := 3, hi := 3, type := .u64, acc := .ro, level := 0 },  -- EVENT_NEWEST
  { index := 0xA030, lo := 4, hi := 4, type := .u64, acc := .ro, level := 0 },  -- EVENT_OLDEST
  { index := 0xA100, lo := 1, hi := 1, type := (.blob 4), acc := .wo, level := 1, rsv := 0xFFFF0000 },  -- BIST_CMD
  { index := 0xA100, lo := 2, hi := 2, type := (.blob 32), acc := .ro, level := 1 },  -- BIST_RESULT
  { index := 0xA100, lo := 3, hi := 3, type := .u8, acc := .ro, level := 0 },  -- BIST_STATE
  { index := 0xA100, lo := 4, hi := 4, type := .u32, acc := .ro, level := 0 },  -- BIST_RUNS
  { index := 0xA110, lo := 1, hi := 1, type := .u8, acc := .wo, level := 1, min := 0, max := some 11 },  -- CORE_RETIRE
  { index := 0xA110, lo := 2, hi := 2, type := .u16, acc := .ro, level := 0, persistent := true },  -- CORE_RETIRED
  { index := 0xA120, lo := 1, hi := 6, type := .u8, acc := .rw, level := 1, min := 0, max := some 1 }]  -- HEAD_ISOLATE

/-- Every entry, in ascending order of index and subindex. -/
def dictRows : List DictRow :=
  dictRows0 ++ dictRows1 ++ dictRows2 ++ dictRows3 ++ dictRows4 ++ dictRows5 ++ dictRows6 ++ dictRows7 ++ dictRows8

/-- The entry at an index and subindex, if the map has one. -/
def dictRow (index sub : Nat) : Option DictRow :=
  dictRows.find? (fun r => decide (r.index = index ∧ r.lo ≤ sub ∧ sub ≤ r.hi))

/-- SQ_CONFIG of a channel as Table 10-2 lays it out, from its fields. -/
def sqImage (kind up down reaction flags nominal ratio : Nat) : Nat :=
  ofBytes ([BitVec.ofNat 8 kind, BitVec.ofNat 8 up, BitVec.ofNat 8 down, BitVec.ofNat 8 reaction, 0, 10, BitVec.ofNat 8 flags, 0] ++
    toBytes 2 nominal ++ toBytes 2 ratio ++ toBytes 8 0 ++ toBytes 2 10000 ++ toBytes 2 1000 ++ toBytes 2 0 ++ toBytes 2 5000 ++
    toBytes 4 0)

/-- The default of SQ_CONFIG (Tables 10-1, 10-2; 10 R275). What those tables do not give for SQ08 to
SQ15 is DESIGN CHOICE (notes/assumptions/20.md): no up or down step, nominal 0, ratio 1,000. -/
def sqDefault (n : Nat) : Nat :=
  match n with
  | 0 => sqImage 1 2 3 3 0x0B 750 1000
  | 1 => sqImage 1 1 4 3 0x0B 800 1000
  | 2 => sqImage 1 5 0 3 0x0B 1100 1000
  | 3 => sqImage 1 4 1 3 0x0B 1200 1000
  | 4 => sqImage 1 4 1 3 0x0B 1200 1000
  | 5 => sqImage 1 0 5 3 0x0B 2500 2000
  | 6 => sqImage 1 3 2 3 0x0B 850 1000
  | 7 => sqImage 1 4 1 3 0x0B 1200 1000
  | 8 => sqImage 2 0xFF 0xFF 0 0 0 1000
  | _ => sqImage 0 0xFF 0xFF 0 0 0 1000

/-- The default of an entry. -/
def dictDefault (r : DictRow) (sub : Nat) : Nat := if r.index = 0x6001 then sqDefault (sub - 1) else r.dflt

/-- The entry describes only a resource that is fused off on the part, and is absent there (00 R3,
13 R378): heads, channels and groups. -/
def fusedOff (p : Part) (index sub : Nat) : Bool :=
  let headMap := [0x1400, 0x1401, 0x1402, 0x1403, 0x2020, 0x2021, 0x8030, 0xA120]
  let chanMap := [0x4001, 0x4002, 0x4003, 0x4140, 0x4201, 0x4202, 0x4211]
  let groupMap := [0x2001, 0x4010, 0x4011, 0x4221]
  (headMap.contains index && decide (p.heads < sub ∧ sub ≤ 6)) || (chanMap.contains index && decide (9 * p.groups < sub)) ||
    (groupMap.contains index && decide (p.groups < sub))

end Sys2Proof.Machine
end

