-- ==== Sys2Proof/Machine/Sha.lean ====
section
/-! DEFINITION. SHA-256 (FIPS 180-4), the digest of the mirror audit (09 R273). -/

namespace Sys2Proof.Machine

/-- The round constants. -/
def shaK : List (BitVec 32) :=
  [0x428A2F98#32, 0x71374491#32, 0xB5C0FBCF#32, 0xE9B5DBA5#32, 0x3956C25B#32, 0x59F111F1#32, 0x923F82A4#32, 0xAB1C5ED5#32] ++
  [0xD807AA98#32, 0x12835B01#32, 0x243185BE#32, 0x550C7DC3#32, 0x72BE5D74#32, 0x80DEB1FE#32, 0x9BDC06A7#32, 0xC19BF174#32] ++
  [0xE49B69C1#32, 0xEFBE4786#32, 0x0FC19DC6#32, 0x240CA1CC#32, 0x2DE92C6F#32, 0x4A7484AA#32, 0x5CB0A9DC#32, 0x76F988DA#32] ++
  [0x983E5152#32, 0xA831C66D#32, 0xB00327C8#32, 0xBF597FC7#32, 0xC6E00BF3#32, 0xD5A79147#32, 0x06CA6351#32, 0x14292967#32] ++
  [0x27B70A85#32, 0x2E1B2138#32, 0x4D2C6DFC#32, 0x53380D13#32, 0x650A7354#32, 0x766A0ABB#32, 0x81C2C92E#32, 0x92722C85#32] ++
  [0xA2BFE8A1#32, 0xA81A664B#32, 0xC24B8B70#32, 0xC76C51A3#32, 0xD192E819#32, 0xD6990624#32, 0xF40E3585#32, 0x106AA070#32] ++
  [0x19A4C116#32, 0x1E376C08#32, 0x2748774C#32, 0x34B0BCB5#32, 0x391C0CB3#32, 0x4ED8AA4A#32, 0x5B9CCA4F#32, 0x682E6FF3#32] ++
  [0x748F82EE#32, 0x78A5636F#32, 0x84C87814#32, 0x8CC70208#32, 0x90BEFFFA#32, 0xA4506CEB#32, 0xBEF9A3F7#32, 0xC67178F2#32]

/-- The initial hash value. -/
def shaInit : List (BitVec 32) :=
  [0x6A09E667#32, 0xBB67AE85#32, 0x3C6EF372#32, 0xA54FF53A#32, 0x510E527F#32, 0x9B05688C#32, 0x1F83D9AB#32, 0x5BE0CD19#32]

/-- One more word of the message schedule, the list being in reverse order. -/
def shaNext (w : List (BitVec 32)) : BitVec 32 :=
  let x := w.getD 1 0; let y := w.getD 14 0
  let s1 := x.rotateRight 17 ^^^ x.rotateRight 19 ^^^ (x >>> 10)
  let s0 := y.rotateRight 7 ^^^ y.rotateRight 18 ^^^ (y >>> 3)
  w.getD 15 0 + s0 + w.getD 6 0 + s1

/-- Extend the schedule by some words. -/
def shaExtend : Nat → List (BitVec 32) → List (BitVec 32)
  | 0, w => w
  | n + 1, w => shaExtend n (shaNext w :: w)

/-- One round on the eight working variables. -/
def shaRound (v : List (BitVec 32)) (k w : BitVec 32) : List (BitVec 32) :=
  let a := v.getD 0 0; let b := v.getD 1 0; let c := v.getD 2 0; let d := v.getD 3 0
  let e := v.getD 4 0; let f := v.getD 5 0; let g := v.getD 6 0; let h := v.getD 7 0
  let t1 := h + (e.rotateRight 6 ^^^ e.rotateRight 11 ^^^ e.rotateRight 25) + ((e &&& f) ^^^ (~~~ e &&& g)) + k + w
  let t2 := (a.rotateRight 2 ^^^ a.rotateRight 13 ^^^ a.rotateRight 22) + ((a &&& b) ^^^ (a &&& c) ^^^ (b &&& c))
  [t1 + t2, a, b, c, d + t1, e, f, g]

/-- The words of a block of 64 bytes, big-endian, in reverse order. -/
def shaWords : Nat → List Byte → List (BitVec 32) → List (BitVec 32)
  | 0, _, acc => acc
  | n + 1, b, acc => shaWords n (b.drop 4) (BitVec.ofNat 32 (ofBytes (b.take 4).reverse) :: acc)

/-- The compression of one block. -/
def shaBlock (hs : List (BitVec 32)) (block : List Byte) : List (BitVec 32) :=
  let w := (shaExtend 48 (shaWords 16 block [])).reverse
  List.zipWith (· + ·) hs ((shaK.zip w).foldl (fun v p => shaRound v p.1 p.2) hs)

/-- The compression of a number of blocks. -/
def shaBlocks : Nat → List Byte → List (BitVec 32) → List (BitVec 32)
  | 0, _, hs => hs
  | n + 1, b, hs => shaBlocks n (b.drop 64) (shaBlock hs (b.take 64))

/-- The padded message. -/
def shaPad (b : List Byte) : List Byte :=
  b ++ 0x80#8 :: List.replicate ((119 - b.length % 64) % 64) 0 ++ (toBytes 8 (8 * b.length)).reverse

/-- SHA-256 of a byte string, the first byte in the high bits. -/
def sha256 (b : List Byte) : BitVec 256 :=
  let p := shaPad b
  BitVec.ofNat 256 ((shaBlocks (p.length / 64) p shaInit).foldl (fun n w => n * 2 ^ 32 + w.toNat) 0)

end Sys2Proof.Machine
end

