-- ==== Sys2Proof/Machine/TwinRows.lean ====
section
/-! DEFINITION. The rows of the twin link: forwarding, mirroring, formation, the replica, planned
handover, stale sets and the mirror audit (09 R245 to R273). -/

namespace Sys2Proof.Machine

/-- TWIN_LINK_UP: the link trains at x16 and 64 GT/s; before it is keyed it carries only SPDM
messages (09 R248, 12 R331). A chip that refused tries again (09 R247). -/
def execTwinLinkUp (s : State) : Host.Outcome State Fault Refusal :=
  s.onChip fun c =>
    if c.twin.link = .up || !c.boot.mainOut || c.wrapping then c
    else c.onTwin fun t => { t with link := .up, keyed := false, auth := false, helloSent := false, peerHello := none }

/-- TWIN_LINK_DOWN: the link is declared lost (09 R248, R251, R254). -/
def execTwinLinkDown (s : State) : Host.Outcome State Fault Refusal :=
  s.onChip fun c => c.lostLink

/-- The request a FWD message carries. -/
def fwdReq (hdr : TwinHdr) (write : Bool) (data : Line) (mask : Mask) : Req :=
  { src := .fwd hdr.tag, arrival := hdr.head, write := write, line := hdr.line, data := data, mask := mask, poison := hdr.poison }

/-- Serve a forwarded request at its home (01 R31). -/
def Chip.serveForward (c : Chip) (r : Req) (tag : Nat) (ev : HbmEvent) : Chip :=
  let c := c.onTwin fun t => { t with fwdIn := t.fwdIn ++ [(tag, r)] }
  let c := match c.objAt r.line with
    | none => c.denyRequest r 0x80 1 6
    | some (id, _) => (c.useDesc id).serveHome r ev
  c.settle.settleTwin

/-- FWD_READ (01 R31). -/
def execFwdRead (hdr : TwinHdr) (ev : HbmEvent) (s : State) : Host.Outcome State Fault Refusal :=
  s.onChip fun c => c.reqIn hdr fun c => c.serveForward (fwdReq hdr false 0 0) hdr.tag ev

/-- FWD_WRITE (01 R31). -/
def execFwdWrite (hdr : TwinHdr) (data : Line) (mask : Mask) (ev : HbmEvent) (s : State) : Host.Outcome State Fault Refusal :=
  s.onChip fun c => c.reqIn hdr fun c => c.serveForward (fwdReq hdr true data mask) hdr.tag ev

/-- The forwarded request a response answers (09 R251). -/
def Chip.takeFwd (c : Chip) (tag : Nat) : Option (Req × Chip) :=
  (c.twin.fwd.find? (fun f => decide (f.tag = tag))).map fun f =>
    (f.req, c.onTwin fun t => { t with fwd := t.fwd.filter (fun x => x.tag != tag) })

/-- FWD_DATA: the completion leaves through the arrival head (01 R31). -/
def execFwdData (hdr : TwinHdr) (data : Line) (s : State) : Host.Outcome State Fault Refusal :=
  s.onChip fun c => c.anyIn fun c =>
    match c.takeFwd hdr.tag with
    | some (r, c) => c.completeRead r data hdr.poison
    | none => c

/-- FWD_ACK (01 R31). -/
def execFwdAck (hdr : TwinHdr) (s : State) : Host.Outcome State Fault Refusal :=
  s.onChip fun c => c.anyIn fun c =>
    match c.takeFwd hdr.tag with
    | some (r, c) => (if hdr.poison then c.requestRecord r .failure (c.mediaBody r.line 2 0 1) else c).ackWrite r
    | none => c

/-- FWD_CMD: the owning chip executes a forwarded command (02 R57). -/
def execFwdCmd (hdr : TwinHdr) (entry : CmdEntry) (s : State) : Host.Outcome State Fault Refusal :=
  s.onChip fun c => c.reqIn hdr fun c => c.command (.fwd hdr.tag) entry

/-- FWD_CMD_RESULT: the result returns to its command (02 R57). -/
def execFwdCmdResult (hdr : TwinHdr) (result : CmdResult) (s : State) : Host.Outcome State Fault Refusal :=
  s.onChip fun c => c.anyIn fun c =>
    match c.twin.fwdCmds.find? (fun f => decide (f.tag = hdr.tag)) with
    | none => c
    | some f => (c.onCmd f.cmd fun x => { x with waits := false, result := some result }).dropFwdCmd f.cmd

/-- A mirror write at its pseudo-channel: held while the frame it goes to is fenced, its frame rebuilt first (05 R150). -/
def Chip.mirrorArrives (c : Chip) (m : MirReq) : Chip :=
  if (c.mirrorHeld (lineSeg m.line)).any (fun f => c.fencedIndex (frameIndex f)) then
    c.onHbm fun h => { h with heldMirror := h.heldMirror ++ [m] }
  else ((c.buildFor (lineSeg m.line) (lineSector m.line)).mirrorIn m).evalPanic

/-- MIRROR_WRITE: admitted and placed in its mirror-held frame, then committed (09 R252). -/
def execMirrorWrite (hdr : TwinHdr) (data : Line) (mask : Mask) (s : State) : Host.Outcome State Fault Refusal :=
  s.onChip fun c => c.reqIn hdr fun c =>
    c.mirrorArrives { tag := hdr.tag, line := hdr.line, data := data, mask := mask, poison := hdr.poison, head := hdr.head }

/-- MIRROR_COMMIT: the waiting write is acknowledged (01 R28, 09 R252). -/
def execMirrorCommit (hdr : TwinHdr) (s : State) : Host.Outcome State Fault Refusal :=
  s.onChip fun c => c.anyIn fun c =>
    match c.twin.mirror.find? (fun m => decide (m.tag = hdr.tag)) with
    | none => c
    | some m => ((c.onTwin fun t => { t with mirror := t.mirror.filter (fun x => x.tag != hdr.tag) }).ackWrite m.req).settleTwin

/-- A line as this chip holds it: a dirty copy in any frame, otherwise a clean one or the medium's. -/
def Chip.ownCopy (c : Chip) (line : Nat) : Stored :=
  match c.bestCopy line with
  | some f => c.sector f (lineSector line)
  | none => c.copyValue line

/-- MIRROR_RESEND: the home sends a mirror write again for a line the partner lost (07 R208). -/
def execMirrorResend (hdr : TwinHdr) (s : State) : Host.Outcome State Fault Refusal :=
  s.onChip fun c => c.ctlIn hdr fun c =>
    if c.lineDirty hdr.line && c.homeHere (lineSeg hdr.line) then
      let v := c.ownCopy hdr.line
      let (tag, c) := c.takeTag
      c.sendTwin (.mirrorWrite v.data fullMask) hdr.line tag hdr.head v.poison
    else c

/-- MIRROR_FETCH: this chip's copy of a line or segment is read as a home read; `bad` are the lines
its ladder declares uncorrectable (05 Table 05-8; 07 R209). -/
def execMirrorFetch (hdr : TwinHdr) (bad : List Nat) (s : State) : Host.Outcome State Fault Refusal :=
  s.onChip fun c => c.reqIn hdr fun c =>
    let seg := lineSeg hdr.line
    let lost (l : Nat) : Bool := bad.contains l && (c.copies l).isEmpty
    let get (l : Nat) : Stored := if lost l then { data := 0, poison := true } else c.ownCopy l
    if hdr.segment then
      let ns := (List.range 64).filter (fun n => (c.written seg).getLsbD n || !(c.copies (64 * seg + n)).isEmpty)
      let ls := ns.map (fun n => (n, get (64 * seg + n)))
      let c := (ns.filter (fun n => lost (64 * seg + n))).foldl (fun c n => c.addPoison (64 * seg + n) 1) c
      c.sendTwin (.mirrorData (ls.map (fun p => (p.1, p.2.data))) (c.written seg) (poisonMask ls)) (64 * seg) hdr.tag hdr.head false true true
    else
      let v := get hdr.line
      let c := if lost hdr.line then c.addPoison hdr.line 1 else c
      c.sendTwin (.mirrorData [(lineSector hdr.line, v.data)] 0 0) hdr.line hdr.tag hdr.head v.poison false true

/-- The partner's copy fills the dirty lines that a retired pseudo-channel took with it (Table 05-8). -/
def Chip.refill (c : Chip) (seg : Nat) (lines : List (Nat × Line)) (poison : BitVec 64) : Chip :=
  let fs := c.cache.frames.filter (fun p => decide (p.2.seg = seg) && p.2.unbuilt)
  fs.foldl (fun c p => lines.foldl (fun c l =>
    if p.2.dirty.getLsbD l.1 && (c.copies (64 * seg + l.1)).all (fun f => (c.frame f).unbuilt) then
      c.setSector p.1 l.1 { data := if poison.getLsbD l.1 then 0 else l.2, poison := poison.getLsbD l.1 }
    else c) c) c

/-- MIRROR_DATA: the partner's copy of a line ends step 4 of the ladder, a poisoned one step 5
(07 R209); a segment refills a lost one, or is programmed as the copy being built here (08 R226). -/
def execMirrorData (hdr : TwinHdr) (lines : List (Nat × Line)) (bitmap poison : BitVec 64) (s : State) : Host.Outcome State Fault Refusal :=
  s.onChip fun c => c.anyIn fun c =>
    if hdr.segment then
      let seg := lineSeg hdr.line
      if c.cache.frames.any (fun p => decide (p.2.seg = seg) && p.2.unbuilt) then c.refill seg lines poison
      else c.takeCopy seg lines bitmap poison
    else match c.missOf hdr.line, lines with
      | some m, l :: _ =>
        if m.stage != .fetching then c
        else if hdr.poison then c.declare hdr.line m.cause
        else
          let c := if m.failed.isEmpty || m.drop then c else c.bump 0x4203 3
          let c := match c.linePlace hdr.line with | some p => c.queueRepairs m p | none => c
          c.gotLine hdr.line { data := l.2 }
      | _, _ => c

/-- HEARTBEAT (09 R254, R257): the partner's states and lease. An answer to PROBE ends the probe. -/
def execHeartbeat (hdr : TwinHdr) (pair lease remaining : Nat) (s : State) : Host.Outcome State Fault Refusal :=
  s.onChip fun c => c.ctlIn hdr fun c =>
    c.onTwin fun t => { t with peerState := pair, peerLease := lease, peerRemain := remaining, probing := false }

/-- Send HEARTBEAT (Table 09-4). -/
def Chip.sendHeartbeat (c : Chip) : Chip :=
  c.sendTwin (.heartbeat c.twin.state.code c.wit.state.code ((c.wit.leaseEnd - c.now) % 2 ^ 32) c.twin.epoch)

/-- HEARTBEAT_SEND: sent every 10 us (09 R254). -/
def execHeartbeatSend (s : State) : Host.Outcome State Fault Refusal :=
  s.onChip fun c => c.sendHeartbeat

/-- PROBE: answered at once by HEARTBEAT (Table 09-4). -/
def execProbe (s : State) : Host.Outcome State Fault Refusal :=
  s.onChip fun c => c.anyIn fun c => c.sendHeartbeat

/-- HELLO: kept, answered with the own HELLO, and formation, refusal or rejoin follows (09 R245,
R270). A pair that is formed keeps its state. -/
def execHello (h : Hello) (s : State) : Host.Outcome State Fault Refusal :=
  s.onChip fun c => c.anyIn fun c =>
    let c := c.onTwin fun t => { t with peerHello := some h, peerProto := h.proto, staleDone := false }
    c.sendHello.tryForm

/-- PAIR_ACCEPT: the position and the new epoch (09 R246, R270 step 4). -/
def execPairAccept (position : Bool) (epoch : Nat) (s : State) : Host.Outcome State Fault Refusal :=
  s.onChip fun c => c.anyIn fun c =>
    let c := c.onTwin fun t => { t with accept := some (position, epoch) }
    match c.twin.state with
    | .unpaired | .refused => if c.twin.staleDone then c.tryRejoin else c.tryForm
    | .alone | .split => c.tryRejoin
    | _ => c.onTwin fun t => { t with accept := none }

/-- PAIR_REFUSE: the chip takes REFUSED (09 R247). -/
def execPairRefuse (cause : Nat) (s : State) : Host.Outcome State Fault Refusal :=
  s.onChip fun c => c.anyIn fun c =>
    match c.twin.state with
    | .paired | .fenced => c
    | _ => c.refused cause

end Sys2Proof.Machine
end

