-- ==== Sys2Proof/Machine/TableRows.lean ====
section
/-! DEFINITION. The rows that keep the two chips' tables alike, the planned handover, the stale sets
and the mirror audit (09 R264, R267 to R273). -/

namespace Sys2Proof.Machine

/-- An object table entry as the other chip of the pair keeps it: ownership is seen from there. -/
def flipObj (o : Obj) : Obj := { o with adopted := o.handedOver, handedOver := o.adopted }

/-- This chip's part of a KEY_TAG change of the partner: its granules of the object are rewritten too, all of them where the
change is new, else those still under another key; with nothing left to do the partner is told at once (02 R55). -/
def Chip.rekeyHere (c : Chip) (id : Nat) (o : Obj) (new : Bool) : Chip :=
  let mine (k : MoveKind) (i : Nat) : Bool := decide (k = .rekey ∧ i = id)
  if o.oldKeyTag.isNone then
    c.onDolly fun d => { d with queue := d.queue.filter (fun q => !(mine q.kind q.obj && q.cmd.isNone)) }
  else
    let busy (g : Nat) : Bool := c.dolly.queue.any (fun q => mine q.kind q.obj && q.gran = g) || c.dolly.opened.any (fun x => mine x.kind x.obj && x.gran = g)
    let todo := (c.heldGrans o).filter (fun g => !busy g && (new || c.oldKeyed o g))
    let c := c.enqueue none id .rekey 0xFF todo
    if c.dolly.queue.any (fun q => mine q.kind q.obj) || c.dolly.opened.any (fun x => mine x.kind x.obj) then c
    else c.sendTwin (.tableUpdate (.rekeyed id))

/-- This chip's part of a change of an object of the partner: a mirrored object has a copy of each
granule on both chips, a granule that leaves the object or the mirror is released (02 R52, R60;
09 R264). -/
def Chip.takeObject (c : Chip) (id : Nat) (o : Obj) : Chip :=
  let old := c.obj.table.find id
  let released := old.filter (fun p => decide (o.state = .destroying ∧ p.state ≠ .destroying))
  let c := match released with | some p => c.scrubBacklog p.keyTag o.scrub (objFirst p) (objSegs p) | none => c
  let c := (c.onObj fun x => { x with table := x.table.put id o }).tableChanged
  let c := c.onCache fun k => { k with descs := k.descs.filter (fun d => d.obj != id) }
  if o.state = .destroying then
    (((c.closeReels (fun r => decide (r.obj = id))).dropMoves o.base o.granules).zeroSegs (objFirst o) (objSegs o) true).settle
  else
    let c := match old with
      | none => c
      | some p =>
        let c := if o.granules < p.granules then
            let first := o.base + o.granules; let n := p.granules - o.granules
            let c := (c.dropMoves first n).scrubBacklog p.keyTag o.scrub (512 * first) (512 * n)
            ((c.zeroSegs (512 * first) (512 * n) true).freeSlots first n).settle
          else c
        if p.mirror && !o.mirror then
          (((c.heldGrans o).filter (fun g => !c.homeHere (512 * g))).foldl (fun (c : Chip) g => (c.discardSegs (512 * g) 512 true).freeSlotOf g) c).settle
        else c
    let c := if o.mirror then c.takeSlots o.base o.sgroup.toNat o.granules else c
    c.rekeyHere id o (match old with | some p => p.keyTag != o.keyTag | none => false)

/-- A FREE object: its lines, slots and poison records go (02 R60). -/
def Chip.freeObject (c : Chip) (id : Nat) : Chip :=
  match c.obj.table.find id with
  | none => c
  | some o =>
    let c := (c.zeroSegs (objFirst o) (objSegs o) true).freeSlots o.base o.granules
    (c.onObj fun x => { x with table := x.table.del id }).tableChanged

/-- What the target of a cross-chip move has taken decides S's open granule: those segments are
switched, the others wait again (08 R240; 09 R270 step 2). -/
def Chip.restoreMove (c : Chip) (gran : Nat) (segs : List Nat) : Chip :=
  match (match c.openGran gran with | some o => some o | none => (c.dolly.journal.map Prod.snd).find? (fun o => decide (o.gran = gran))) with
  | none => c
  | some o =>
    let o : OpenGran := { o with segs := segs.foldl (fun m n => m.put n .switched) [], prep := [], waiting := [] }
    c.onDolly fun d => { d with opened := d.opened.filter (fun x => x.gran != gran) ++ [o] }

/-- The effect of a TABLE_UPDATE (Table 09-4). -/
def Chip.tableUpd (c : Chip) (u : TableUpd) : Chip :=
  match u with
  | .object id (some o) => c.takeObject id (flipObj o)
  | .object id none => c.freeObject id
  | .granule g (some p) => c.onMed fun m => { m with peerSlots := m.peerSlots.put g { group := p.1, slot := p.2 } }
  | .granule g none => c.onMed fun m => { m with peerSlots := m.peerSlots.del g }
  | .route g home => c.setRoute g home
  | .key t k =>
    let old := c.sec.tags.getD t.toNat {}
    if k = 0 then c.onSec fun s => { s with erasePeer := s.erasePeer || decide (s.eraseTag = some t) }
    else (c.setTag t { old with state := .loaded, key := k }).startWaiting
  | .keyTable keys =>
    let tags := keys.foldl (fun (m : SMap KeyTag) p => m.put p.1 { (c.sec.tags.getD p.1 {}) with state := .loaded, key := p.2 })
      (c.sec.tags.map (fun p => (p.1, { p.2 with state := .empty, key := 0 })))
    (c.onSec fun s => { s with tags := tags, durableTags := tags }).startWaiting
  | .eraseKey t => c.eraseStart t
  | .wantKey t => c.giveKey t
  | .secureErase san =>
    let c := if san then c.sanitize else c.secureErase
    if c.sec.sanitizing then c else c.sendTwin (.tableUpdate .erased)
  | .erased => if c.sec.peerErasing then c.peerErased .success else c
  | .openMove g obj group key swap pins => c.openTarget g obj group key swap pins
  | .closeMove g commit => c.closeTarget g commit
  | .owner id position =>
    if position != c.twin.position then c
    else if c.twin.handY then c.onTwin fun t => { t with handIn := t.handIn ++ [id] }
    else c.adoptObj id
  | .moveState g segs => c.restoreMove g segs
  | .zero first count tag scrub => ((c.scrubBacklog tag scrub first count).zeroSegs first count false).settle
  | .room g slots => c.onMed fun m => { m with peerRoom := m.peerRoom.put g slots }
  | .reelHold seg take =>
    if take then
      let (got, c) := c.bringInHold seg
      if got then (c.onObj fun o => { o with peerHolds := o.peerHolds ++ [seg] }).sendTwin (.tableUpdate (.reelKept seg)) else c
    else if c.obj.peerHolds.contains seg then (c.dropHolds [seg]).onObj fun o => { o with peerHolds := o.peerHolds.erase seg }
    else c
  | .reelKept seg =>
    let takes (r : Reel) (k : Nat) : Bool := decide (c.reelSeg r k = seg) && !r.held.contains k
    match c.obj.reels.find? (fun r => (r.windowPos).any (takes r)) with
    | none => c.sendTwin (.tableUpdate (.reelHold seg false))
    | some r => c.onReel r.id fun q => { q with held := ((r.windowPos).filter (takes r)).foldl insertNat q.held }
  | .rekeyed id => c.onObj fun o => { o with peerRekey := o.peerRekey.erase id }
  | .bootState v => c.onTwin fun t => { t with partnerBoot := v }

/-- TABLE_UPDATE (09 R264; 12 R325). -/
def execTableUpdate (hdr : TwinHdr) (u : TableUpd) (s : State) : Host.Outcome State Fault Refusal :=
  s.onChip fun c => c.ctlIn hdr fun c => c.tableUpd u

/-- DESC_INVAL: the descriptor leaves the cache (04 R134). -/
def execDescInval (hdr : TwinHdr) (obj : Nat) (s : State) : Host.Outcome State Fault Refusal :=
  s.onChip fun c => c.ctlIn hdr fun c =>
    c.onCache fun k => { k with descs := k.descs.filter (fun d => d.obj != obj) }

/-- POISON_SHADOW: a record of the partner's list is added to the shadow or removed (07 R216). -/
def execPoisonShadow (hdr : TwinHdr) (line len src : Nat) (remove : Bool) (s : State) : Host.Outcome State Fault Refusal :=
  s.onChip fun c => c.ctlIn hdr fun c =>
    c.onInteg fun i =>
      let rest := i.shadow.flatMap (cutPoison line len)
      { i with shadow := if remove then rest else insertPoison rest { line := line, len := len, src := src } }

/-- Set the device timestamp (01 R20); at the first set after start-up the medium minute count advances by the
wall-clock time since the last stored shutdown time, if that is positive (06 R193; 10 R300). -/
def Chip.setStamp (c : Chip) (value : Int) : Chip :=
  let adv := if c.clk.hostSet then 0 else match c.boot.shutdownAt with | some t => ((value - (t : Int)) / 60000000000).toNat | none => 0
  let c := c.onClk fun k => { k with offset := value - (c.now : Int), hostSet := true }
  if adv = 0 then c else (c.onMed fun m => { m with minute := m.minute + adv }).minuteRecord

/-- TIMESTAMP: the copy of a Set Timestamp (01 R20, Table 09-4). -/
def execTimestamp (hdr : TwinHdr) (value : Int) (s : State) : Host.Outcome State Fault Refusal :=
  s.onChip fun c => c.ctlIn hdr fun c => c.setStamp value

/-- SQUALL_NOTE: the partner's squall state (04 R123). -/
def execSquallNote (hdr : TwinHdr) (state : Nat) (s : State) : Host.Outcome State Fault Refusal :=
  s.onChip fun c => c.ctlIn hdr fun c => (c.onCache fun k => { k with partnerSquall := state }).settle

/-- A planned handover may start (09 R267). -/
def Chip.handoverReady (c : Chip) : Bool :=
  let mine := c.obj.table.filter (fun p => p.2.mirror && c.owns p.1 p.2 && decide (p.2.state = .active))
  let inMine (g : Nat) : Bool := mine.any (fun p => decide (p.2.base ≤ g ∧ g < p.2.base + p.2.granules))
  c.paired && decide (c.twin.hand = .idle) && !c.twin.handY && !c.med.stale.any inMine && !c.dolly.opened.any (fun o => inMine o.gran)

/-- The action of HANDOVER_CMD (09 R267): an abort code, 0 for none. -/
def Chip.handoverCmd (c : Chip) : Nat × Chip :=
  if c.handoverReady then
    (0, (c.onTwin fun t => { t with hand := .begun, handState := 1, handBack := false }).sendTwin .handoverBegin)
  else (abConflict, c.onTwin fun t => { t with handState := if t.hand = .idle then 3 else t.handState })

/-- HANDOVER_BEGIN at Y: it parks arrivals for X's mirrored homes and counts its forwarded requests
(Table 09-9). -/
def execHandoverBegin (hdr : TwinHdr) (s : State) : Host.Outcome State Fault Refusal :=
  s.onChip fun c => c.ctlIn hdr fun c =>
    let n := c.twin.fwd.countP (fun f => match c.objAt f.req.line with
      | some (_, o) => o.mirror && !c.homeHere (lineSeg f.req.line)
      | none => false)
    (c.onTwin fun t => { t with handY := true, handIn := [] }).sendTwin (.handoverParked n)

/-- HANDOVER_PARKED at X (Table 09-9). -/
def execHandoverParked (hdr : TwinHdr) (count : Nat) (s : State) : Host.Outcome State Fault Refusal :=
  s.onChip fun c => c.ctlIn hdr fun c =>
    if c.twin.hand = .begun then (c.onTwin fun t => { t with hand := .parked, handCount := count }).settleHand else c

/-- Y's installation of one object: ownership, homes, frames and poison records (09 R268). -/
def Chip.installObj (c : Chip) (id : Nat) : Chip :=
  match c.obj.table.find id with
  | none => c
  | some o =>
    let c := (c.adoptObj id).activateShadow o
    let c := (c.framedSegs o).foldl (fun c s => c.becomeLocal s) c
    (c.heldGrans o).foldl (fun c g => c.setRoute g c.twin.position) c

/-- HANDOVER_STATE at Y: the installation, then the parked requests, then HANDOVER_DONE (Table
09-9). -/
def execHandoverState (hdr : TwinHdr) (epoch : Nat) (s : State) : Host.Outcome State Fault Refusal :=
  s.onChip fun c => c.ctlIn hdr fun c =>
    if !c.twin.handY then c
    else
      let ids := c.twin.handIn; let q := c.twin.handQ
      let c := ids.foldl (fun c i => c.installObj i) ((c.setEpoch epoch).onCache fun k => { k with descs := [] })
      let c := (c.onTwin fun t => { t with handY := false, handIn := [], handQ := [] }).routeAll q
      (c.sendTwin .handoverDone).dueRehearsal

/-- HANDOVER_DONE at X: its held requests go to Y; then NOTE, or RELEASE and the fence that follows
it (09 R268). -/
def execHandoverDone (hdr : TwinHdr) (s : State) : Host.Outcome State Fault Refusal :=
  s.onChip fun c => c.ctlIn hdr fun c =>
    if c.twin.hand != .installing then c
    else
      let q := c.twin.handQ
      let c := (c.onTwin fun t => { t with hand := .idle, handState := 2, handQ := [], handBack := false }).routeAll q
      let c := (c.logTakeover 2 3 q.length).dueRehearsal
      if c.vol 0x5030 2 = 1 then ((c.sendWitness 6).setLease .released).fence else c.sendWitness 7

/-- STALE_SET: merged; after its last piece the returning chip answers with its own, and the rejoin
goes on (09 R269, R270 steps 2 to 4). -/
def execStaleSet (granules : List Nat) (final : Bool) (s : State) : Host.Outcome State Fault Refusal :=
  s.onChip fun c => c.anyIn fun c =>
    match c.twin.state with
    | .paired | .fenced => c
    | _ =>
      let c := granules.foldl (fun c g => c.markStale g) c
      if !final then c
      else
        let c := c.onTwin fun t => { t with staleDone := true }
        let c := if c.twin.state = .rejoining then c.dropOrphans.sendStale else c
        c.tryRejoin

/-- A granule has a dirty line on this chip. -/
def Chip.granDirty (c : Chip) (g : Nat) : Bool := c.cache.frames.any (fun p => decide (segGran p.2.seg = g ∧ p.2.dirty ≠ 0))

/-- SHA-256 over a granule's written lines in line order (09 R273). -/
def Chip.granDigest (c : Chip) (g : Nat) : BitVec 256 :=
  sha256 ((List.range 32768).flatMap fun n =>
    if c.lineWritten (32768 * g + n) then toBytes 64 (c.ownCopy (32768 * g + n)).data.toNat else [])

/-- The reads of a granule's units for its audit: those whose written lines are in no frame (09 R273). -/
def Chip.auditReads (c : Chip) (g : Nat) : Chip :=
  let lines := ((List.range 32768).map (32768 * g + ·)).filter c.lineWritten
  (c.copyUnits lines).foldl (fun c x => c.gmi x.1 (.readUnit x.2.1 x.2.2 0)) c

/-- Mirrored granules whose home is here, in order. -/
def Chip.auditGrans (c : Chip) : List Nat :=
  (c.med.slots.map Prod.fst).filter (fun g => c.homeHere (512 * g) && (match c.objAtGran g with
    | some (_, o) => o.mirror && decide (o.state = .active)
    | none => false))

/-- MIRROR_AUDIT_START: the next mirrored granule is audited; one with dirty lines waits for the next
pass (09 R273). -/
def execMirrorAuditStart (s : State) : Host.Outcome State Fault Refusal :=
  s.onChip fun c =>
    if c.par 0x5041 1 1 = 0 || !c.paired || !c.linkReady || c.twin.suspended then c
    else
      let l := c.auditGrans
      match (match l.find? (fun g => decide (c.twin.auditPos ≤ g)) with | some g => some g | none => l.head?) with
      | none => c
      | some g =>
        let c := (c.onTwin fun t => { t with auditPos := g + 1 }).setVol 0x5041 4 (100 * l.countP (fun x => decide (x ≤ g)) / l.length)
        if c.granDirty g || c.med.stale.contains g then c
        else
          let (tag, c) := c.takeTag
          ((c.onTwin fun t => { t with audit := some { gran := g, tag := tag } }).auditReads g).sendTwin (.auditReq g) 0 tag

/-- AUDIT_REQ: the partner's digest; a granule with dirty lines here is not answered (09 R273). -/
def execAuditReq (hdr : TwinHdr) (gran : Nat) (s : State) : Host.Outcome State Fault Refusal :=
  s.onChip fun c => c.reqIn hdr fun c =>
    if c.granDirty gran then c else (c.auditReads gran).sendTwin (.auditSum (c.granDigest gran)) 0 hdr.tag

/-- AUDIT_SUM: the digests are compared; a mismatch marks the granule stale, rebuilds it and raises a
Warning record (09 R273). -/
def execAuditSum (hdr : TwinHdr) (digest : BitVec 256) (s : State) : Host.Outcome State Fault Refusal :=
  s.onChip fun c => c.anyIn fun c =>
    match c.twin.audit with
    | none => c
    | some a =>
      if a.tag ≠ hdr.tag then c
      else
        let c := c.onTwin fun t => { t with audit := none }
        if c.granDirty a.gran || digest = c.granDigest a.gran then c
        else
          let c := ((c.markStale a.gran).vendorRecord .warning 0x0207 0x5041 3).bump 0x5041 3
          match c.objAtGran a.gran with
          | some (id, _) => c.enqueue none id .mirrorBuild 0xFF [a.gran]
          | none => c

end Sys2Proof.Machine
end

