-- ==== Sys2Proof/Machine/WitnessRows.lean ====
section
/-! DEFINITION. Liveness of the twin, the lease and the witness protocol, split and takeover
verdicts, the hold limit and the rehearsal (09 R254 to R272; 01 R41, R42). -/

namespace Sys2Proof.Machine

/-- A CLAIM of the pair stage, or of a chip that serves its homes. -/
def Chip.mayClaim (c : Chip) : Bool :=
  c.inPairStage || decide (c.twin.state = .paired ∨ c.twin.state = .split)

/-- PULSE_TOGGLE: T0 toggles TWIN_PULSE_OUT every 10 us (09 R254). -/
def execPulseToggle (s : State) : Host.Outcome State Fault Refusal :=
  s.onChip fun c => c.onTwin fun t => { t with pulseOut := !t.pulseOut }

/-- PULSE_LOSS: no edge for 50 us. With the link current a PROBE goes out and a Warning record is
raised (09 R254). -/
def execPulseLoss (s : State) : Host.Outcome State Fault Refusal :=
  s.onChip fun c =>
    if c.twin.pulseLost then c
    else
      let c := (c.onTwin fun t => { t with pulseLost := true }).bump 0x5002 2
      if c.linkReady then
        ((c.onTwin fun t => { t with probing := true }).sendTwin .probe).vendorRecord .warning 0x0205 0x5002 1
      else c

/-- PULSE_RESTORED: 1 ms of edges clears the loss (09 R254). -/
def execPulseRestored (s : State) : Host.Outcome State Fault Refusal :=
  s.onChip fun c => c.onTwin fun t => { t with pulseLost := false }

/-- LINK_SILENCE_TIMEOUT: no message for 100 us (09 R254). -/
def execLinkSilenceTimeout (s : State) : Host.Outcome State Fault Refusal :=
  s.onChip fun c => c.lostLink

/-- PROBE_TIMEOUT: a PROBE after a pulse loss goes unanswered for 10 us (09 R254). -/
def execProbeTimeout (s : State) : Host.Outcome State Fault Refusal :=
  s.onChip fun c => if c.twin.probing then c.lostLink else c

/-- REGISTER (09 R245, R258). -/
def execRegister (s : State) : Host.Outcome State Fault Refusal :=
  s.onChip fun c => if c.wit.registered then c else c.sendWitness 1

/-- REGISTER_RESEND: a fenced chip sends REGISTER every 10 ms (09 R260). -/
def execRegisterResend (s : State) : Host.Outcome State Fault Refusal :=
  s.onChip fun c => if c.twin.state = .fenced then c.sendWitness 1 else c

/-- Send one RENEW, kept until it is acknowledged (09 R255, R256). -/
def Chip.sendRenew (c : Chip) (relay : Bool) : Chip :=
  let seq := c.witSeq
  (c.sendWitness 2 false relay).onWit fun w => { w with renews := w.renews ++ [(seq, c.now)] }

/-- RENEW_SEND: every 100 us; also relayed after one that went unacknowledged (09 R255, R256). With counter 2 at its end the chip
fences (Table 11-4). A
fenced chip, and one whose wrap has released its lease, sends none. -/
def execRenewSend (s : State) : Host.Outcome State Fault Refusal :=
  s.onChip fun c =>
    if !c.wit.registered || decide (c.twin.state = .fenced) || c.wrapping then c
    else if c.seqSpent then c.fence
    else
      let c := c.sendRenew false
      if c.wit.relayNext && c.linkReady then c.sendRenew true else c

/-- A RENEW_ACK for this chip (09 R255, R256, R262): the answer to REGISTER gives no lease, the answer
to a RENEW a lease from that RENEW's send time. -/
def Chip.renewAck (c : Chip) (f : WitFrame) (renew : Option Nat) (relayed : Bool) : Chip :=
  match renew with
  | none => (c.onWit fun w => { w with registered := true }).greet
  | some seq =>
    match c.wit.renews.find? (fun p => decide (p.1 = seq)) with
    | none => c
    | some p =>
      if decide (c.twin.state = .fenced) || c.wrapping then c
      else
        let c := c.onWit fun w =>
          { w with leaseEnd := max w.leaseEnd (p.2 + 200000), renews := w.renews.filter (fun q => decide (seq < q.1)),
                   relayNext := false, reachLost := false }
        let c := (c.setLease (if relayed then .relayed else .current)).tryRejoin
        if c.twin.state = .split && f.result = 4 then c.sendClaim 3 else c

/-- RENEW_ACK; `renew` is the SEQ of the RENEW it answers, `none` for a REGISTER (09 R255); one for the partner, whose frame
this chip passed on, returns to it over the link (09 R256). -/
def execRenewAck (f : WitFrame) (renew : Option Nat) (s : State) : Host.Outcome State Fault Refusal :=
  s.onChip fun c =>
    if f.chip = c.id.serial then c.renewAck f renew f.relayed
    else if f.chip = c.twin.twinSerial then c.sendTwin (.renewRelay f)
    else c

/-- RENEW_RELAY: the partner's RENEW is passed on to the witness, and its answer comes back the same
way (09 R256). -/
def execRenewRelay (hdr : TwinHdr) (f : WitFrame) (renew : Option Nat) (s : State) : Host.Outcome State Fault Refusal :=
  s.onChip fun c => c.ctlIn hdr fun c =>
    if f.type ≠ 3 then c.emit (.witness { f with relayed := true })
    else if f.chip = c.id.serial then c.renewAck f renew true
    else c

/-- RENEW_ACK_TIMEOUT: a RENEW is unacknowledged for 50 us (09 R256, 5020:04). -/
def execRenewAckTimeout (seq : Nat) (s : State) : Host.Outcome State Fault Refusal :=
  s.onChip fun c =>
    if c.wit.renews.any (fun p => decide (p.1 = seq)) then
      (c.onWit fun w => { w with relayNext := true, reachLost := true }).bump 0x5020 4
    else c

/-- The partner reports over a current link that it cannot reach the witness either (09 R257). -/
def Chip.bothLost (c : Chip) : Bool :=
  c.paired && c.linkReady && c.wit.reachLost && decide (c.twin.peerLease = 3 ∨ c.twin.peerRemain < 100000)

/-- LEASE_FENCE_DEADLINE: 5 us before the lease ends the chip fences, unless neither chip can reach
the witness (09 R257, R260). -/
def execLeaseFenceDeadline (s : State) : Host.Outcome State Fault Refusal :=
  s.onChip fun c =>
    if !c.leased then c
    else match c.twin.state with
      | .paired | .split | .alone => if c.bothLost then c.setLease .witnessLost else c.fence
      | _ => c

/-- VERDICT_GRANT: the takeover (09 R264; 15 R392). -/
def execVerdictGrant (epoch : Nat) (s : State) : Host.Outcome State Fault Refusal :=
  s.onChip fun c => if c.wit.claim.isSome && c.mayClaim then c.takeover epoch else c

/-- VERDICT_SPLIT, whether or not this chip sent a CLAIM (09 R259, R262, R263). -/
def execVerdictSplit (s : State) : Host.Outcome State Fault Refusal :=
  s.onChip fun c => if c.inPairStage || c.paired then c.split else c.onWit fun w => { w with claim := none }

/-- A rehearsal ends with a verdict code of Table 09-6, 0 for a missing one: REHEARSE_RESULT, and on a
failure a Warning record (09 R272). -/
def Chip.endRehearsal (c : Chip) (verdict : Nat) : Chip :=
  let ok := decide (verdict = 4 ∧ c.wit.rehearsalChecks = 0)
  let theirs := c.obj.table.filter (fun p => !c.owns p.1 p.2 && decide (p.2.state = .active))
  let take := theirs.countP (fun p => c.adoptable p.2)
  let result := ofBytes ([BitVec.ofNat 8 verdict, BitVec.ofNat 8 c.wit.rehearsalChecks, 0, 0] ++ toBytes 4 c.measure ++ toBytes 4 take ++
    toBytes 4 (theirs.length - take) ++ toBytes 8 c.stamp.toNat)
  let c := c.choose.onWit fun w =>
    { w with drill := false, rehearseResult := result, rehearsalFailed := !ok, rehearsalPassed := w.rehearsalPassed || ok }
  if ok then c else c.vendorRecord .warning 0x0206 0x5040 2

/-- VERDICT_DENY of a CLAIM or of a rehearsal's CLAIM (09 R259, R272; 15 R392). -/
def execVerdictDeny (drill : Bool) (s : State) : Host.Outcome State Fault Refusal :=
  s.onChip fun c =>
    if drill then (if c.wit.drill then c.endRehearsal 3 else c)
    else
      let c := c.onWit fun w => { w with claim := none }
      if c.inPairStage && !c.inService then c.onBoot fun b => { b with stage := 10 } else c

/-- VERDICT_DRILL_OK (09 R259 step 4, R272). -/
def execVerdictDrillOk (s : State) : Host.Outcome State Fault Refusal :=
  s.onChip fun c => if c.wit.drill then c.endRehearsal 4 else c

/-- POISON_NOTE: the lines are marked, and POISON_ACK echoes the SEQ (09 R263). -/
def execPoisonNote (seq : Nat) (lines : List Nat) (s : State) : Host.Outcome State Fault Refusal :=
  s.onChip fun c => (((lines.take 5).filter (fun l => c.homeHere (lineSeg l))).foldl (fun c l => c.markLine l 7) c).emit (.poisonRing false seq [])

/-- The writes a POISON_NOTE spoke for. -/
def Chip.noted (c : Chip) (seq : Nat) : List Req := (c.wit.poisonNotes.filter (fun p => decide (p.1 = seq))).map Prod.snd

/-- They wait no longer. -/
def Chip.unnote (c : Chip) (seq : Nat) : Chip :=
  c.onWit fun w => { w with poisonNotes := w.poisonNotes.filter (fun p => p.1 != seq) }

/-- POISON_ACK: the writes are acknowledged with their records (09 R263). -/
def execPoisonAck (seq : Nat) (s : State) : Host.Outcome State Fault Refusal :=
  s.onChip fun c => (c.noted seq).foldl (fun c r => c.denyRequest r 0x82 2 6) (c.unnote seq)

/-- POISON_ACK_TIMEOUT: 200 us without POISON_ACK takes each write's arrival head down (09 R263). -/
def execPoisonAckTimeout (seq : Nat) (s : State) : Host.Outcome State Fault Refusal :=
  s.onChip fun c => (c.noted seq).foldl (fun c r => match r.src with
    | .head h => if (c.head h).link = .up then c.headDown h .training else c
    | _ => c) (c.unnote seq)

/-- ROUTE_MAP_REWRITE_DONE: the lost-chip flag clears (09 R264 step 3). -/
def execRouteMapRewriteDone (s : State) : Host.Outcome State Fault Refusal :=
  s.onChip fun c => if c.twin.lostChip then c.rewriteRoutes else c

/-- A request held 1 ms ends: a read with poison, a write acknowledged with its line recorded
(01 Table 01-7). -/
def Chip.expireHeld (c : Chip) (r : Req) : Chip :=
  let c := c.bump 0x5050 2
  (if r.write then c.loseLine r.line 7 else c).denyRequest r 0x82 2 6

/-- HOLD_EXPIRED: request `i` of the hold queue, or of the mirrored writes that wait (01 R41, R42;
09 R253). -/
def execHoldExpired (mirror : Bool) (i : Nat) (s : State) : Host.Outcome State Fault Refusal :=
  s.onChip fun c =>
    if mirror && c.linkReady then c
    else if mirror then
      match c.twin.mirror[i]? with
      | none => c
      | some m => (c.onTwin fun t => { t with mirror := t.mirror.eraseIdx i }).expireHeld m.req
    else
      match c.twin.holdQ[i]? with
      | none => c
      | some r => ((c.onTwin fun t => { t with holdQ := t.holdQ.eraseIdx i }).expireHeld r).refillHold

/-- The action of PAIR_REPLACE (09 R246, R247): the attempt is made again. -/
def Chip.pairReplace (c : Chip) (v : Nat) : Chip :=
  (c.onTwin fun t => { t with replace := BitVec.ofNat 64 v }).tryForm

/-- A rehearsal is due: it starts, or waits (09 R272, 16 R410). -/
def Chip.wantRehearsal (c : Chip) (holdOk replicaOk : Bool) : Chip :=
  if c.wit.drill then c
  else if c.rehearsalWaits then c.onWit fun w => { w with rehearsalDue := true }
  else c.startRehearsal holdOk replicaOk

/-- REHEARSAL_DUE: the period has passed (09 R272, 16 R410); `holdOk` and `replicaOk` are the outcomes
of the self-checks. -/
def execRehearsalDue (holdOk replicaOk : Bool) (s : State) : Host.Outcome State Fault Refusal :=
  s.onChip fun c => if c.par 0x5040 3 86400000000000 = 0 then c else c.wantRehearsal holdOk replicaOk

/-- REHEARSAL_TIMEOUT: no DRILL_OK within 1 ms (09 R272). -/
def execRehearsalTimeout (s : State) : Host.Outcome State Fault Refusal :=
  s.onChip fun c => if c.wit.drill then c.endRehearsal 0 else c

end Sys2Proof.Machine
end

