-- ==== Sys2Proof/Machine/HeadRows.lean ====
section
/-! DEFINITION. The rows of a head: CXL.mem requests, link training and loss, HDM decoders, CDAT and
Global Persistent Flush (01 R23, R26; 03 R80 to R101). -/

namespace Sys2Proof.Machine

/-- An IDE integrity check fails: the covered flits have no effect, the stream is Insecure, the link
goes down and trains again (03 R100). -/
def Chip.ideFail (c : Chip) (h : HeadNo) : Chip :=
  (((c.headEvent h 2).bump 0x1403 (h.val + 1)).onHead h fun d => { d with ideOn := false }).headDown h .training

/-- HDM decode (03 R83): the DPA of a host physical address in a committed decoder. -/
def Head.decode (d : Head) (hpa : Nat) : Option Nat :=
  (d.hdm.toList.find? (fun (x : Hdm) => x.committed && decide (x.base.toNat ≤ hpa ∧ hpa < x.base.toNat + x.size.toNat))).map
    (fun (x : Hdm) => x.dpa.toNat + (hpa - x.base.toNat))

/-- A request is taken at a head: unmapped where no decoder maps it (01 R22), else entered. -/
def Chip.takeRequest (c : Chip) (h : HeadNo) (hpa : Nat) (r : Req) (ev : HbmEvent) : Chip :=
  match (c.head h).decode hpa with
  | none => c.denyRequest { r with line := hpa / 64 } 0x80 1 3
  | some dpa => c.enter h { r with line := dpa / 64 } ev

/-- The first request outside the device whose head has credits again, with its head. -/
def Chip.nextOutside (c : Chip) : Option (HeadNo × Req) :=
  c.cache.outside.findSome? fun r => match r.src with
    | .head h => if c.withheld h then none else some (h, r)
    | _ => none

/-- Take the requests outside the device whose heads have credits again, in order of arrival (04 R123). -/
def Chip.admitOutside (c : Chip) : Nat → Chip
  | 0 => c
  | n + 1 => match c.nextOutside with
    | none => c
    | some (h, r) => ((c.onCache fun k => { k with outside := k.outside.erase r }).takeRequest h (64 * r.line) r .ok).admitOutside n

/-- A CXL.mem request at a head (01 R23, R26): refused by a failed MAC; outside the device while the head withholds
credits (01 R42; 04 R113, R123); else taken whole. -/
def Chip.hostRequest (c : Chip) (h : HeadNo) (hpa : Nat) (ideOk : Bool) (r : Req) (ev : HbmEvent) : Chip :=
  let d := c.head h
  if d.link != .up || !d.memActive then c
  else if d.ideOn && !ideOk then c.ideFail h
  else
    let r := { r with src := .head h, arrival := c.pairHead h }
    if c.withheld h || c.cache.outside.any (fun x => decide (x.src = .head h)) then
      c.onCache fun k => { k with outside := k.outside ++ [{ r with line := hpa / 64 }] }
    else c.takeRequest h hpa r ev

/-- HOST_READ (01 R23). -/
def execHostRead (h : HeadNo) (hpa : BitVec 64) (tag : BitVec 16) (ideOk : Bool) (ev : HbmEvent) (s : State) :
    Host.Outcome State Fault Refusal :=
  s.onChip fun c => c.hostRequest h hpa.toNat ideOk { tag := tag } ev

/-- HOST_WRITE (01 R26). -/
def execHostWrite (h : HeadNo) (hpa : BitVec 64) (tag : BitVec 16) (data : Line) (mask : Mask) (poison ideOk : Bool)
    (ev : HbmEvent) (s : State) : Host.Outcome State Fault Refusal :=
  s.onChip fun c => c.hostRequest h hpa.toNat ideOk { write := true, data := data, mask := mask, poison := poison, tag := tag } ev

/-- The head may train (03 R80; 09 R260, R270; 15 R387; 16 R409). -/
def Chip.mayTrain (c : Chip) (h : HeadNo) : Bool :=
  let stage := c.boot.stage
  let kept := decide (c.twin.twinSerial ≠ 0) && !c.sec.locked && decide ((1 ≤ stage ∧ stage ≤ 5) ∨ (7 ≤ stage ∧ stage ≤ 10))
  c.presentHeads.contains h && c.boot.mainOut && !kept && !c.isolated h && !c.wrapping &&
    decide (c.twin.state ≠ .fenced ∧ c.twin.state ≠ .rejoining)

/-- PERST_ASSERT (03 R101); an absent head ignores its pin (00 R3). -/
def execPerstAssert (h : HeadNo) (s : State) : Host.Outcome State Fault Refusal :=
  s.onChip fun c =>
    let l := if (c.head h).link = .disabled then .disabled else LinkState.detect
    if c.presentHeads.contains h then ((c.headEvent h 1).headDown h l).onHead h fun d => { d with perst := true } else c

/-- PERST_DEASSERT: the head starts training (03 R80); an absent head ignores its pin (00 R3). -/
def execPerstDeassert (h : HeadNo) (s : State) : Host.Outcome State Fault Refusal :=
  s.onChip fun c =>
    if !c.presentHeads.contains h then c
    else
    let c := c.onHead h fun d => { d with perst := false }
    if c.mayTrain h && (c.head h).link = .detect then c.onHead h fun d => { d with link := .training } else c

/-- HEAD_LINK_UP: training completes, at 64 GT/s in 256B flit mode, never above HEAD_MAX_RATE; the
extents are offered (03 R80, R85). -/
def execHeadLinkUp (h : HeadNo) (rate width : Fin 4) (flit256 : Bool) (s : State) : Host.Outcome State Fault Refusal :=
  s.onChip fun c =>
    if !c.presentHeads.contains h || (c.head h).link != .training || c.par 0x1404 1 3 < rate.val || (rate == 3 && !flit256) then c
    else
      let c := c.onHead h fun d => { d with link := .up, rate := rate, width := width, flit256 := flit256, trained := true }
      (c.emit (.headLink h true)).offerExtents h

/-- HEAD_LINK_DOWN: the head trains again (03 R101). -/
def execHeadLinkDown (h : HeadNo) (s : State) : Host.Outcome State Fault Refusal :=
  s.onChip fun c => if (c.head h).link = .up then c.headDown h .training else c

/-- RECOVERY_TIMEOUT: 2 ms in Recovery (03 R81). -/
def execRecoveryTimeout (h : HeadNo) (s : State) : Host.Outcome State Fault Refusal :=
  s.onChip fun c => if (c.head h).link = .up then c.headDown h .training else c

/-- L0_STABILITY_TIMEOUT: 1.9 ms without 100 us of unbroken L0 (03 R81). -/
def execL0StabilityTimeout (h : HeadNo) (s : State) : Host.Outcome State Fault Refusal :=
  s.onChip fun c => if (c.head h).link = .up then c.headDown h .training else c

/-- A decoder's DPA range lies within accepted extents, or within the configured scratch (03 R83). -/
def Chip.dpaOk (c : Chip) (h : HeadNo) (dpa size : Nat) : Bool :=
  let a := dpa / 64; let b := (dpa + size + 63) / 64
  c.inService &&
    ((decide (b ≤ scratchBase) && (List.range 8).all (fun r => decide (b ≤ r * 2 ^ 40 ∨ (r + 1) * 2 ^ 40 ≤ a) || (c.head h).accepted.getLsbD r)) ||
     decide (scratchBase ≤ a ∧ b ≤ scratchBase + c.cache.waysScratch * scratchWayLines))

/-- HDM_COMMIT: a locked decoder keeps its commit; interleave ways other than 1, or a range the head
does not hold, sets Error Not Committed (03 R83). -/
def execHdmCommit (h : HeadNo) (i : Fin 4) (base size dpa : BitVec 64) (ways gran : BitVec 4) (lock : Bool) (s : State) :
    Host.Outcome State Fault Refusal :=
  s.onChip fun c =>
    let d := c.head h
    let old := d.hdm.get i
    if d.link != .up || (old.committed && old.lockOnCommit) then c
    else
      let ok := ways == 0 && c.dpaOk h dpa.toNat size.toNat
      c.onHead h fun d =>
        { d with hdm := d.hdm.set i { base := base, size := size, dpa := dpa, ways := ways, gran := gran, committed := ok, errNotCommitted := !ok, lockOnCommit := lock } }

/-- The CDAT structures of a head (Table 03-5): DSMAS as 0, DSLBIS as 1, DSEMTS as 4, each with its
handle and fields; EFI memory types 2 reserved and 1 conventional, with the specific-purpose
attribute. A DSLBIS ends with its base units: 1,000 ps for a latency and 1 MB/s for a bandwidth (03 R87). -/
def Chip.cdatEntries (c : Chip) : List (List Nat) :=
  let p := c.pos
  let mine := (List.range 4).map (· + 4 * p)
  let theirs := if c.boot.cdatPair then (List.range 4).map (· + 4 * (1 - p)) else []
  let size := c.boot.cdatScratch * scratchWayLines * 64
  let all := (List.range 8).filter (fun x => mine.contains x || theirs.contains x)
  all.map (fun x => [0, x, 1, x * 2 ^ 46, 2 ^ 46]) ++
    (if size = 0 then [] else [[0, 8, 0, 2 ^ 49, size]]) ++
    mine.map (fun x => [1, x, 650, 140, 56000, 56000, 1000, 1]) ++ theirs.map (fun x => [1, x, 1000, 490, 56000, 56000, 1000, 1]) ++
    (if size = 0 then [] else [[1, 8, 110, 110, 56000, 56000, 1000, 1]]) ++
    all.map (fun x => [4, x, 2, 0]) ++ (if size = 0 then [] else [[4, 8, 1, 1]])

/-- The protocols that DOE Discovery lists, in order (Table 03-1). -/
def doeProtocols : List DoeProtocol := [.discovery, .cmaSpdm, .securedCmaSpdm, .tableAccess]

/-- A DOE request that is not SPDM: the head's CDAT (03 R87), or the protocol at an index of Discovery (03 R77). -/
def Chip.doeAnswer (c : Chip) (h : HeadNo) : DoeQuery → Output
  | .table => .cdat h c.boot.cdatSeq c.cdatEntries
  | .discovery i => .doeProtocol h doeProtocols[i.toNat]? (if i.toNat < 3 then i.toNat + 1 else 0)

/-- CDAT_READ: a request over DOE, whose answer raises MSI-X vector 3 (03 R77, R87, R96). -/
def execCdatRead (r : DoeRequest) (s : State) : Host.Outcome State Fault Refusal :=
  s.onChip fun c => if (c.head r.head).link = .up then (c.emit (c.doeAnswer r.head r.query)).emit (.msix r.head 3) else c

/-- A GPF phase completes at once with no action (03 R97). DESIGN CHOICE (notes/assumptions/108.md): the row names no head; the
phase reaches every head whose link is up. -/
def Chip.gpf (c : Chip) (phase : Nat) : Chip :=
  ((List.finRange 6).filter (fun h => decide ((c.head h).link = .up))).foldl (fun c h => c.emit (.gpfDone h phase)) c

/-- GPF_PHASE_1 (03 R97). -/
def execGpfPhase1 (s : State) : Host.Outcome State Fault Refusal := s.onChip fun c => c.gpf 1

/-- GPF_PHASE_2 (03 R97). -/
def execGpfPhase2 (s : State) : Host.Outcome State Fault Refusal := s.onChip fun c => c.gpf 2

end Sys2Proof.Machine
end

