-- ==== Sys2Proof/Machine/LedgerRows.lean ====
section
/-! DEFINITION. The ledger: page writes and their wear, spread counters, margin refresh, raw access
and the passwords of user areas (11 R307 to R320). -/

namespace Sys2Proof.Machine

/-- In step 5 of a wrap the poison list and the snapshots have 0.8 ms; what is still pending of them after that is abandoned
(11 R310). -/
def Chip.wrapAbandons (c : Chip) : Chip :=
  if c.wrap.state = 3 && decide (40 * c.wrap.drainedAt + 800000 ≤ c.now) then
    c.onLedger fun l => { l with queue := l.queue.filter (fun p => !decide (p.cls = .wrap ∧ 0x4C0000 ≤ p.addr)) }
  else c

/-- LEDGER_PAGE_WRITE_DONE: the die has done a page write in `ns`, and the next is issued (11 R307,
R309, R310). -/
def execLedgerPageWriteDone (ns : Nat) (s : State) : Host.Outcome State Fault Refusal :=
  s.onChip fun c =>
    match c.ledger.current with
    | none => c
    | some p => ((((c.pageDone p).peak 0x7050 4 ns).onLedger fun l => { l with current := none }).wrapAbandons).onLedger Ledger.issue

/-- LEDGER_TIMEOUT: no answer within 1 ms; the die is declared failed, and every write in progress or
queued ends (11 R320). -/
def execLedgerTimeout (s : State) : Host.Outcome State Fault Refusal :=
  s.onChip fun c => c.onLedger fun l => { l with failed := true, queue := [], current := none, refreshRun := false }

/-- Start a margin refresh pass at a page (11 R318). -/
def Chip.startRefresh (c : Chip) (page : Nat) : Chip :=
  c.onLedger fun l =>
    { l with refreshRun := true, refreshPage := page, refreshStart := c.stamp.toNat, refreshMinute := c.med.minute }

/-- REFRESH_PASS_DUE: a pass per REFRESH_PERIOD; one that was cut off resumes from the refresh
record's page (11 R318). -/
def execRefreshPassDue (s : State) : Host.Outcome State Fault Refusal :=
  s.onChip fun c => if c.ledger.refreshRun || c.ledger.failed || !c.inService then c else c.startRefresh c.ledger.refreshPage

/-- REFRESH_PAGE: the next page of the pass is read at tightened margins, `ce` words corrected and the words `ue`
unreadable; it is written back where `rewrite` is reported (11 R318, R320). -/
def execRefreshPage (rewrite : Bool) (ce : Nat) (ue : List (Fin 32)) (s : State) : Host.Outcome State Fault Refusal :=
  s.onChip fun c =>
    if !c.ledger.refreshRun || c.ledger.failed then c
    else
      let page := c.ledger.refreshPage
      let c := (c.bump 0x7050 5 ce).bump 0x7050 6 ue.length
      let c := c.unreadable (ue.map (fun w => 32 * page + w.val))
      let c := if rewrite then (c.pageWrite .refresh (256 * page) (c.ledger.cells.read (256 * page) 256)).bump 0x7040 4 else c
      let last := decide (131072 ≤ page + 1)
      let c := c.onLedger fun l => { l with refreshPage := if last then 0 else page + 1, refreshRun := !last }
      let c := if last then c.setVol 0x7040 3 c.stamp.toNat else c
      if (page + 1) % 1024 = 0 then c.refreshRecord else c

/-- The action of REFRESH_CMD: a pass at page 0 (7040:05). -/
def Chip.refreshCmd (c : Chip) : Nat × Chip :=
  if c.ledger.failed then (abHardware, c) else (0, c.startRefresh 0)

/-- The partition of a ledger address (Table 11-1): base, size, raw read level and raw write level, 3
where refused. -/
def partitions : List (Nat × Nat × Nat × Nat) :=
  [(0x0, 0x80000, 0, 3), (0x80000, 0x100000, 0, 3), (0x180000, 0x40000, 3, 3), (0x1C0000, 0x40000, 0, 3),
   (0x200000, 0x100000, 2, 3), (0x300000, 0x100000, 2, 3), (0x400000, 0xC0000, 1, 3), (0x4C0000, 0x200000, 0, 3),
   (0x6C0000, 0x100000, 1, 1), (0x7C0000, 0x40000, 3, 3), (0x800000, 0xC00000, 2, 3), (0x1400000, 0xC00000, 2, 3)]

/-- Partitions that a range of the die touches. -/
def partsIn (addr n : Nat) : List (Nat × Nat × Nat × Nat) :=
  partitions.filter (fun p => decide (p.1 < addr + n ∧ addr < p.1 + p.2.1))

/-- User area of an address of the USER partition. -/
def userArea (addr : Nat) : Nat := (addr - 0x6C0000) / 0x40000

/-- A range touches a user area that has a password and is locked (11 R316). -/
def Chip.areaLocked (c : Chip) (addr n : Nat) : Bool :=
  (List.finRange 4).any (fun a => (c.ledger.passwords.get a).isSome && !c.ledger.unlocked.getLsbD a.val &&
    decide (0x6C0000 + 0x40000 * a.val < addr + n ∧ addr < 0x6C0000 + 0x40000 * (a.val + 1)))


/-- A raw read: 256 bytes, past the end of the die zeros (11 R316); a word that the die cannot correct ends it as a
hardware error (11 R320). The abort code, 0 for none, and the bytes. -/
def Chip.rawRead (c : Chip) (level addr : Nat) : Nat × List Byte :=
  if (partsIn addr 256).any (fun p => decide (level < p.2.2.1)) || c.areaLocked addr 256 then (abAccessDenied, [])
  else if c.ledger.failed || wordBad c.ledger.bad addr 256 then (abHardware, [])
  else (0, (List.range 256).map (fun i => if addr + i < 0x2000000 then c.ledger.cells.byte (addr + i) else 0))

/-- A raw write as one page write, with the wrap within its page (11 R307, R316): an abort code, 0 for
none. -/
def Chip.rawWrite (c : Chip) (level addr : Nat) (bytes : List Byte) : Nat × Chip :=
  let page := addr / 256 * 256
  if c.ledger.failed then (abHardware, c)
  else if (partsIn addr 1).isEmpty || (partsIn addr 1).any (fun p => decide (level < p.2.2.2)) || c.areaLocked page 256 then (abAccessDenied, c)
  else
    let room := 256 - addr % 256
    let rest := bytes.drop room
    let c := c.onLedger fun l => { l with cells := l.cells.write page rest, bad := uncover l.bad page rest.length }
    (0, c.pageDone { cls := .store, addr := addr, bytes := bytes.take room })

/-- USER_PASSWORD: eight zero bytes remove it (11 R316). -/
def Chip.userPassword (c : Chip) (area : Nat) (v : Nat) : Nat × Chip :=
  if c.ledger.failed then (abHardware, c)
  else if h : area < 4 then
    (0, c.onLedger fun l => { l with passwords := l.passwords.set area (if v = 0 then none else some (BitVec.ofNat 64 v)) h })
  else (abRange, c)

/-- USER_UNLOCK: eight consecutive wrong passwords refuse every further unlock until a device reset
(11 R316). -/
def Chip.userUnlock (c : Chip) (v : Nat) : Nat × Chip :=
  let area := v % 256; let pw := v / 2 ^ 32
  if h : area < 4 then
    if 8 ≤ c.vol 0x7020 7 then (abConflict, c)
    else match c.ledger.passwords.get ⟨area, h⟩ with
      | none => (0, c)
      | some p =>
        if p = BitVec.ofNat 64 pw then (0, (c.onLedger fun l => { l with unlocked := l.unlocked ||| (1#4 <<< area) }).setVol 0x7020 7 0)
        else (abAccessDenied, c.bump 0x7020 7)
  else (abRange, c)

/-- USER_LOCK (11 R316). -/
def Chip.userLock (c : Chip) (area : Nat) : Nat × Chip :=
  if area < 4 then (0, c.onLedger fun l => { l with unlocked := l.unlocked &&& ~~~ (1#4 <<< area) }) else (abRange, c)

/-- COUNTER_INC of a user counter; done when its page write is (11 R315). -/
def Chip.counterInc (c : Chip) (n : Nat) : Nat × Chip :=
  if n < 32 || 64 ≤ n then (abRange, c)
  else if c.ledger.failed then (abHardware, c)
  else
    let v := c.counter n
    if counterLimit ≤ v then (abConflict, c)
    else
      let w := counterWrite n (v + 1)
      (0, c.pageNow w.1 w.2)

end Sys2Proof.Machine
end

