-- ==== Sys2Proof/Machine/Store.lean ====
section
/-! DEFINITION. The dictionary store in the ledger (15 Table 15-6, R394; 13 R367, R368; 11 R312) and
the boot record (15 Table 15-3). -/

namespace Sys2Proof.Machine

/-- The slot whose image runs: ACTIVE, or PREVIOUS while an activation waits for the next start (15 R399). -/
def Chip.runSlot (c : Chip) : Bool :=
  match c.boot.record.state, c.boot.record.previous with
  | .pending, some p => p
  | _, _ => c.boot.record.active

/-- The image this chip runs. -/
def Chip.image (c : Chip) : Image := c.boot.images.get (if c.runSlot then 1 else 0)

/-- The image of a slot, false for FW_A. -/
def Chip.imageOf (c : Chip) (slot : Bool) : Image := c.boot.images.get (if slot then 1 else 0)

/-- Change the image of a slot. -/
def Chip.onImage (c : Chip) (slot : Bool) (f : Image → Image) : Chip :=
  c.onBoot fun b =>
    if slot then { b with images := b.images.set 1 (f (b.images.get 1)) } else { b with images := b.images.set 0 (f (b.images.get 0)) }

/-- An entry of the store (Table 15-6): index, subindex, type, size, value, padded to 4 B. -/
def storeEntry (key value : Nat) : List Byte :=
  match dictRow (key / 256) (key % 256) with
  | none => []
  | some r =>
    let n := r.type.size
    toBytes 2 (key / 256) ++ [BitVec.ofNat 8 key, BitVec.ofNat 8 r.type.code] ++ toBytes 2 n ++ toBytes 2 0 ++
      toBytes (4 * ((n + 3) / 4)) (value % 2 ^ (8 * n))

/-- The store's body (Table 15-6). -/
def Chip.storeBody (c : Chip) (vals : SMap Nat) : List Byte :=
  let es := vals.flatMap (fun p => storeEntry p.1 p.2)
  [0x4B, 0x44, 0x53, 0x39] ++ toBytes 2 c.image.format ++ toBytes 2 0 ++ toBytes 4 vals.length ++ toBytes 4 (32 + es.length) ++
    toBytes 4 c.image.version.toNat ++ toBytes 12 0 ++ es

/-- The two-copy record of a region of the store, false for the lower (15 R394). -/
def storeRec (upper : Bool) : RecordAt :=
  let off := if upper then 0x7E000 else 0
  { a := 0x200000 + off, b := 0x300000 + off, size := 516088 }

/-- Write a store body into a region: the pages that differ, then the page of the trailer (11 R312). -/
def Chip.writeStore (c : Chip) (upper : Bool) (body : List Byte) : Chip :=
  let r := storeRec upper
  let (addr, seq) := nextCopy c.ledger.cells c.ledger.bad r
  let slot := slotBytes (fitBytes r.size body) seq
  let pages := (List.range 2015).filter (fun i =>
    (slot.drop (256 * i)).take 256 != c.ledger.cells.read (addr + 256 * i) 256)
  let c := (pages ++ [2015]).foldl (fun (c : Chip) (i : Nat) => c.pageNow (addr + 256 * i) ((slot.drop (256 * i)).take 256)) c
  (c.onBoot fun b => { b with storeValid := true, storeFormat := c.image.format, unread := false }).bump 0x1140 2

/-- Store persistent values (13 R368 steps 2, 3), as one persistent write. -/
def Chip.storeAll (c : Chip) (vals : SMap Nat) : Chip :=
  (c.writeStore c.boot.record.region (c.storeBody vals)).onRing fun r => { r with stored := vals }

/-- Store one persistent entry. A failed die takes no write (11 R320). -/
def Chip.persist (c : Chip) (index sub value : Nat) : Chip :=
  if c.ledger.failed then c else c.storeAll (c.ring.stored.put (dictKey index sub) value)

/-- STATE of a boot record as a byte (Table 15-3). -/
def BootState.code : BootState → Nat
  | .confirmed => 0 | .pending => 1 | .probation => 2

/-- The boot record's place (Table 15-3). -/
def bootRecAt : RecordAt := { a := 0xA0000, b := 0xA0100, size := 32 }

/-- FW_BOOT_STATE (9000:02): 3 where a confirmed image runs after a fall-back. -/
def Chip.fwState (c : Chip) : Nat :=
  match c.boot.record.state with
  | .confirmed => if c.boot.record.fellBack then 3 else 0
  | .pending => 1
  | .probation => 2

/-- Write the boot record, once, where it changes (15 R390), and tell the partner its state
(15 R399, TABLE_UPDATE kind 0x30). -/
def Chip.setBoot (c : Chip) (r : BootRec) : Chip :=
  if r = c.boot.record then c
  else
    let c := c.onBoot fun b => { b with record := r }
    let slotVer (s : Bool) : Nat := (c.imageOf s).version.toNat
    let body := [BitVec.ofBool r.active |>.setWidth 8, (match r.previous with | none => 0xFF | some s => BitVec.ofNat 8 (boolNat s)),
        BitVec.ofNat 8 r.state.code, BitVec.ofNat 8 r.attempts,
        BitVec.ofNat 8 (boolNat r.unclean + 2 * boolNat r.fellBack + 4 * boolNat r.recovery), BitVec.ofNat 8 (boolNat r.region),
        (match r.oldRegion with | none => 0xFF | some s => BitVec.ofNat 8 (boolNat s)), 0] ++
      toBytes 4 (slotVer r.active) ++ toBytes 4 ((r.previous.map slotVer).getD 0) ++ toBytes 8 r.activated ++ toBytes 8 0
    let (addr, seq) := nextCopy c.ledger.cells c.ledger.bad bootRecAt
    let c := if c.ledger.failed then c else c.pageNow addr (slotBytes body seq)
    if c.linkReady then c.sendTwin (.tableUpdate (.bootState c.fwState)) else c

end Sys2Proof.Machine
end

