-- ==== Sys2Proof/Machine/Reset.lean ====
section
/-! DEFINITION. A reset of the main domain: what stays is in the ledger, in the always-on domain, in
the modules and on the medium; everything else takes its reset value (01 R45; 03 R101; 10 R295;
11 R305, R309; 13 R367; 15 R388). -/

namespace Sys2Proof.Machine

/-- The state of a core after a reset: a retired core stays retired; a media core without a group of
its own stands by (01 R45; A110:02). -/
def coreAtReset (p : Part) (k : CoreNo) (s : CoreState) : CoreState :=
  if s = .retired then .retired
  else if 4 ≤ k.val ∧ k.val < 8 ∧ p.groups ≤ k.val - 4 then .standby
  else .running

/-- The slot after the newest snapshot of the log: back from `n` over slots that hold none (11 R304). -/
def newestSnap (m : Memory) (bad : List Nat) (n : Nat) : Nat → Nat
  | 0 => n
  | k + 1 =>
    let a := 0x5C0000 + 64 * ((n + 16383) % 16384)
    if crc32 (m.read a 60) = ofBytes (m.read (a + 60) 4) && !wordBad bad a 64 then n else newestSnap m bad ((n + 16383) % 16384) k

/-- The ledger across a reset of the main domain: the page write in progress completes, the queue is
dropped, user areas are locked (11 R309, R316). -/
def Chip.ledgerReset (c : Chip) : Chip :=
  let c := match c.ledger.current with
    | some p => c.pageDone p
    | none => c
  c.onLedger fun l =>
    let cells := l.cells
    let ring := l.evtRing.filter (fun p => decide (ofBytes (cells.read (0x4D0000 + 128 * ((p.1 - 1) % 7680)) 8) = p.1) &&
      !wordBad l.bad (0x4D0000 + 128 * ((p.1 - 1) % 7680)) 128)
    { l with queue := [], current := none, refreshRun := false, unlocked := 0,
             snapNext := newestSnap cells l.bad l.snapNext (min l.snapNext 64),
             evtRing := ring, evtSeq := (ring.map Prod.fst).foldl max 0 }

/-- The pair record as the ledger holds it: position, twin, epoch; position 0, no twin, epoch 0
without a valid copy (Table 11-2). -/
def Chip.pairStored (c : Chip) : Bool × BitVec 64 × Nat × Bool :=
  match readRecord c.ledger.cells c.ledger.bad pairRec with
  | some b => (decide (ofBytes (b.take 1) = 1), BitVec.ofNat 64 (ofBytes ((b.drop 8).take 8)), ofBytes ((b.drop 16).take 8), true)
  | none => (false, 0, 0, false)

/-- PC_STATE from its code (Table 05-10). -/
def pcOfCode (n : Nat) : PcState :=
  match n with
  | 0 => .inService | 1 => .spare | 2 => .retiring | 3 => .retired | 4 => .failedTraining | _ => .spareFailed

/-- The HBM controller after a reset, with the binding the ledger holds (Table 11-2, 05 R147). -/
def Chip.hbmStored (c : Chip) : Hbm :=
  match readRecord c.ledger.cells c.ledger.bad bindingRec with
  | none => {}
  | some b =>
    { pcs := Vector.ofFn (fun i => pcOfCode (ofBytes ((b.drop i.val).take 1))),
      index := Vector.ofFn (fun i =>
        let n := ofBytes ((b.drop 16).take 8) / 16 ^ i.val % 16
        if n < 15 then some n else none) }

/-- The written map as slot records and map blocks give it: the blocks of a slot whose record says that nothing is written are
without effect (Table 06-15). -/
def Medium.storedMap (m : Medium) : SMap (BitVec 64) := m.medMap.filter (fun q => decide ((m.recs.getD (q.1 / 512) {}).state ≠ 0))

/-- The medium across a reset: the modules keep their lines, units, stamps and registers; a channel
returns to ABSENT with its outputs low; the tables and the written map are those of the medium (06 R187, R196; 15 R391). -/
def mediumReset (m : Medium) : Medium :=
  let m := { m with ch := m.ch.map (fun (x : Channel) =>
                      { prsntN := x.prsntN, attnN := x.attnN, alertN := x.alertN, module := x.module, refs := x.refs }),
                    sg := m.sg.map (fun (g : Group) =>
                      { g with state := match g.base with | .rebuilding => .degraded | s => s,
                               before := .healthy, rows := [], skipped := [], scrubPos := 0, scrubStart := 0, evacuating := false }),
                    map := m.storedMap, gens := [], mixed := [], slots := m.tab.slots, routeMap := m.tab.routes, tableGen := m.tab.gen,
                    removeState := 0, binCount := Vector.replicate 5 0, scrubLeft := [] }
  ((m.map.map (fun (q : Nat × BitVec 64) => q.1 / 512)).eraseDups).foldl (fun (m : Medium) k => m.reindex k 0) m

/-- Keys and passphrases across a reset: the keys stay in SECRETS; a device with a user passphrase
comes up Locked, with its keys not loaded (12 R326, R343). -/
def securityReset (s : Security) (sealMode : Bool) : Security :=
  { durableTags := s.durableTags, tags := if s.userPass.isSome then [] else s.durableTags, internalKey := s.internalKey,
    draws := s.draws, userPass := s.userPass, masterPass := s.masterPass, locked := s.userPass.isSome,
    sanitizing := s.sanitizing, rtvStep := s.rtvStep, rtvState := s.rtvState, jtagOpen := s.jtagOpen, sealMode := sealMode,
    lastAlarm := s.lastAlarm }

/-- A reset of the main domain. -/
def Chip.mainReset (c : Chip) : Chip :=
  let c := c.ledgerReset
  let c := c.presentHeads.foldl (fun c h => if (c.head h).link = .up then c.emit (.headLink h false) else c) c
  let pair := c.pairStored
  { id := c.id, clk := { c.clk with hostSet := false }, outs := c.outs, deferred := [],
    heads := c.heads.map (fun (d : Head) => { perst := d.perst }),
    obj := { table := c.med.tab.objs },
    cache := { choice := c.cache.choice },
    hbm := c.hbmStored,
    med := mediumReset c.med,
    integ := { durable := c.integ.durable },
    dolly := { journal := c.dolly.journal },
    twin := { position := pair.1, twinSerial := pair.2.1, epoch := pair.2.2.1, splitSince := c.twin.splitSince },
    wit := { keySet := c.wit.keySet, seqHigh := c.wit.seqHigh },
    pwr := { c.pwr with bypHold := false }, res := c.res, wrap := c.wrap, ledger := c.ledger,
    sec := securityReset c.sec (decide (c.par 0x8020 1 0 = 1)),
    ring := { keyOp := c.ring.keyOp, keyCust := c.ring.keyCust, stored := c.ring.stored },
    boot := { record := c.boot.record, images := c.boot.images, storeValid := c.boot.storeValid,
              storeFormat := c.boot.storeFormat, oldFormat := c.boot.oldFormat, oldStored := c.boot.oldStored,
              revert := c.boot.revert, unread := c.boot.unread, startAt := c.clk.ticks, stage := 1, stopCause := 0, stageEnds := Vector.replicate 6 0 },
    cores := Vector.ofFn (fun k => coreAtReset c.id.part k (c.cores.get k)) }

/-- The main domain leaves reset with the rails on: stage 2, and the heads of a chip with no recorded
twin start to train (03 R80; 15 R386, R387). -/
def Chip.leaveReset (c : Chip) : Chip :=
  let c := c.onBoot fun b => { b with mainOut := true, stage := 2, stageEnds := b.stageEnds.set 0 ((c.now - 40 * b.startAt) / 1000) }
  let c := (c.onRes fun r => { r with frozen := false }).onCache fun k => { k with budget := c.res.published }
  let c := c.onWrap fun w => { w with state := 0 }
  let c := c.onClk fun k => { k with leftReset := k.ticks }
  c.presentHeads.foldl (fun c h =>
    if c.mayTrain h && !(c.head h).perst then c.onHead h fun d => { d with link := .training } else c) c

end Sys2Proof.Machine
end

