-- ==== Sys2Proof/Machine/Power.lean ====
section
/-! DEFINITION. The gaffer: SQ_CONFIG fields and thresholds, power snapshots and faults, the reactions,
the power-up and power-down of the rails, and the trigger of a wrap (10 R275 to R289, R437). -/

namespace Sys2Proof.Machine

/-- The field of `n` bytes at byte `off` of an SQ_CONFIG (Table 10-2). -/
def sqField (cfg : BitVec 256) (off n : Nat) : Nat := cfg.toNat / 2 ^ (8 * off) % 2 ^ (8 * n)

/-- KIND is RAIL. -/
def Rail.isRail (r : Rail) : Bool := decide (sqField r.cfg 0 1 = 1)
/-- KIND is MONITOR. -/
def Rail.isMonitor (r : Rail) : Bool := decide (sqField r.cfg 0 1 = 4)
/-- UP_STEP. -/
def Rail.upStep (r : Rail) : Nat := sqField r.cfg 1 1
/-- DOWN_STEP. -/
def Rail.downStep (r : Rail) : Nat := sqField r.cfg 2 1
/-- REACTION. -/
def Rail.reaction (r : Rail) : Nat := sqField r.cfg 3 1
/-- GROUP. -/
def Rail.group (r : Rail) : Nat := sqField r.cfg 4 1
/-- FLAGS: PG_USED. -/
def Rail.pgUsed (r : Rail) : Bool := bit (sqField r.cfg 6 1) 0
/-- FLAGS: SENSE_USED; a MONITOR channel is SENSE only. -/
def Rail.senseUsed (r : Rail) : Bool := bit (sqField r.cfg 6 1) 1 || r.isMonitor
/-- FLAGS: ASSERT_SEQ_FAULT. -/
def Rail.assertsFault (r : Rail) : Bool := bit (sqField r.cfg 6 1) 2
/-- FLAGS: CHIP_RAIL. -/
def Rail.chipRail (r : Rail) : Bool := bit (sqField r.cfg 6 1) 3
/-- NOMINAL_MV. -/
def Rail.nominal (r : Rail) : Nat := sqField r.cfg 8 2
/-- SENSE_RATIO. -/
def Rail.ratio (r : Rail) : Nat := sqField r.cfg 10 2

/-- A threshold below nominal: as set, or the percentage of nominal rounded up (10 R276). -/
def Rail.lowMark (r : Rail) (off pct : Nat) : Nat :=
  let v := sqField r.cfg off 2
  if v = 0 then (r.nominal * pct + 99) / 100 else v

/-- A threshold above nominal: as set, or the percentage of nominal rounded down (10 R276). -/
def Rail.highMark (r : Rail) (off pct : Nat) : Nat :=
  let v := sqField r.cfg off 2
  if v = 0 then r.nominal * pct / 100 else v

/-- WARN_LO_MV. -/
def Rail.warnLo (r : Rail) : Nat := r.lowMark 12 97
/-- WARN_HI_MV. -/
def Rail.warnHi (r : Rail) : Nat := r.highMark 14 103
/-- FAULT_LO_MV. -/
def Rail.faultLo (r : Rail) : Nat := r.lowMark 16 95
/-- FAULT_HI_MV. -/
def Rail.faultHi (r : Rail) : Nat := r.highMark 18 106
/-- OFF_MV. -/
def Rail.offMv (r : Rail) : Nat := r.lowMark 24 10

/-- The rail is good (10 R278). -/
def Rail.isGood (r : Rail) : Bool :=
  (!r.pgUsed || r.pg) && (!r.senseUsed || decide (r.faultLo ≤ r.mv ∧ r.mv ≤ r.faultHi))

/-- A RAIL channel with EN low reads off (10 R280). -/
def Rail.readsOff (r : Rail) : Bool :=
  if r.senseUsed then decide (r.mv < r.offMv) else if r.pgUsed then !r.pg else r.done

/-- Rail channel `n`. -/
def Chip.rail (c : Chip) (n : RailNo) : Rail := c.pwr.rails.get n

/-- Change rail channel `n`. -/
def Chip.onRail (c : Chip) (n : RailNo) (f : Rail → Rail) : Chip :=
  c.onPwr fun p => { p with rails := p.rails.set n.val (f (p.rails.get n)) n.isLt }

/-- The RAIL channels with a property. -/
def Chip.railsThat (c : Chip) (f : Rail → Bool) : List RailNo :=
  (List.finRange 16).filter (fun n => (c.rail n).isRail && f (c.rail n))

/-- SQ_CONFIG of a channel as stored. -/
def Chip.sqStored (c : Chip) (n : RailNo) : BitVec 256 := BitVec.ofNat 256 (c.par 0x6001 (n.val + 1) (sqDefault n.val))

/-- Every RAIL channel reads below its OFF_MV (10 R280). -/
def Chip.allOff (c : Chip) : Bool := (c.railsThat fun r => r.en || !r.readsOff).isEmpty

/-- Record a fault of a channel (10 R282, R289; 6003, 6006; R285 where ASSERT_SEQ_FAULT is set): kinds 1
fault low, 2 fault high, 3 PG lost, 4 chatter, 5 ramp timeout, 6 off timeout, 7 collapse, 8
overvoltage. -/
def Chip.recordFault (c : Chip) (n : RailNo) (kind : Nat) : Chip :=
  let r := c.rail n
  let log := ofBytes ([BitVec.ofNat 8 n.val, BitVec.ofNat 8 kind, BitVec.ofNat 8 c.pwr.state.code, BitVec.ofNat 8 r.reaction] ++
    toBytes 2 r.mv ++ toBytes 2 0 ++ toBytes 8 c.stamp.toNat)
  let c := (c.onRail n fun x =>
    { x with faults := (c.now :: x.faults).take 3, state := if kind = 4 then .chatter else .fault }).bump 0x6003 (n.val + 1)
  (c.onPwr fun p => { p with lastFault := log, seqFaultOut := p.seqFaultOut || r.assertsFault }).snapshot 2 n.val

/-- The RAIL channels of a group; the device's own rails belong to none (10 R282, R275). -/
def Chip.groupRails (c : Chip) (g : Nat) : List RailNo := c.railsThat fun r => !r.chipRail && decide (r.group = g)

/-- The rails of a group go off (Table 10-4). -/
def Chip.groupOff (c : Chip) (g : Nat) : Chip :=
  (c.groupRails g).foldl (fun c n => c.onRail n fun r => { r with en := false, state := .offByGroup, done := true, retrying := false }) c

/-- Load a channel at a power-up: its SQ_CONFIG, and its counts restart (10 R276, R278). -/
def freshRail (cfg : BitVec 256) (r : Rail) : Rail := { cfg := cfg, pgRaw := r.pgRaw, pg := r.pg, mv := r.mv }

/-- The up step after `s`, `s` counting as 0 for none: steps are numbered from 1 here. -/
def Chip.nextUp (c : Chip) (s : Nat) : Option Nat :=
  (((List.range 16).filter (fun k => decide (s < k + 1) && !(c.railsThat fun r => decide (r.upStep = k)).isEmpty)).head?).map (· + 1)

/-- The down step after `s`, counted the same way. -/
def Chip.nextDown (c : Chip) (s : Nat) : Option Nat :=
  (((List.range 16).filter (fun k => decide (s < k + 1) && !(c.railsThat fun r => decide (r.downStep = k)).isEmpty)).head?).map (· + 1)

/-- Raise EN of a rail: it ramps, and its chatter count restarts (10 R278, R279). -/
def Rail.raise (r : Rail) : Rail :=
  { r with en := true, state := .ramping, everGood := false, edges := 0, outLo := 0, outHi := 0, warnOut := 0, warnIn := 0,
           warned := false, collapse := 0, retrying := false, done := false }

/-- Run an up step: every RAIL channel of the step that does not count as done (10 R279). -/
def Chip.runUp (c : Chip) (s : Nat) : Chip :=
  let c := c.onPwr fun p => { p with step := s }
  (c.railsThat fun r => decide (r.upStep + 1 = s) && !r.done).foldl (fun c n => c.onRail n Rail.raise) c

/-- Start a power-up (10 R279): the 16 SQ_CONFIG entries are read, the hardware copy loaded; no probe
has completed, and the budget is 0 (10 R292). -/
def Chip.beginUp (c : Chip) : Chip :=
  let cfgs : Vector (BitVec 256) 16 := Vector.ofFn c.sqStored
  let c := c.onPwr fun p =>
    { p with state := .up, step := 0, hwCfg := cfgs, rails := Vector.ofFn (fun n => freshRail (cfgs.get n) (p.rails.get n)),
             afterDown := 0, stuck := false }
  let c := (c.onWrap fun w => { w with state := 0 }).onBoot fun b => { b with startAt := c.clk.ticks }
  let c := c.onRes fun r =>
    { r with probed := false, published := 0, frozen := false, probe := 0, above := 0,
             capUf := c.par 0x6010 4 0, esrUohm := c.par 0x6010 5 0 }
  c.runUp ((c.nextUp 0).getD 0)

/-- Run a down step: EN of its RAIL channels goes low (10 R280). -/
def Chip.runDown (c : Chip) (s : Nat) : Chip :=
  let c := c.onPwr fun p => { p with step := s }
  (c.railsThat fun r => decide (r.downStep + 1 = s)).foldl (fun c n => c.onRail n fun r =>
    { r with en := false, done := false, state := if r.state = .fault ∨ r.state = .chatter then r.state else .off }) c

/-- Drive every EN low at once. -/
def Chip.allEnLow (c : Chip) : Chip :=
  c.onPwr fun p => { p with rails := p.rails.map (fun (r : Rail) =>
    { r with en := false, retrying := false, state := if r.state = .fault ∨ r.state = .chatter then r.state else .off }) }

/-- LOCKOUT (10 R284, R289). -/
def Chip.lockout (c : Chip) : Chip := (c.onPwr fun p => { p with state := .lockout, bypHold := false, afterDown := 3 }).snapshot 5

/-- SEQ_RETRIES (6004:01). -/
def Chip.seqRetries (c : Chip) : Nat := c.par 0x6004 1 3

/-- A whole-sequence retry, or LOCKOUT when it would exceed SEQ_RETRIES (10 R284). -/
def Chip.retry (c : Chip) : Chip :=
  if c.pwr.retriesUsed < c.seqRetries then
    ((c.onPwr fun p => { p with retriesUsed := p.retriesUsed + 1 }).snapshot 4).beginUp
  else c.lockout

/-- The power-down has ended: every EN is low, and SEQ_FAULT_N is released (10 R280, R285, R437). -/
def Chip.endDown (c : Chip) : Chip :=
  let after := c.pwr.afterDown
  let c := (c.allEnLow).onPwr fun p => { p with step := 0, seqFaultOut := false, stuck := !c.allOff }
  if after = 1 then c.onPwr fun p => { p with state := .retryWait }
  else if after = 3 then c.lockout
  else c.onPwr fun p => { p with state := .off }

/-- Start the power-down (10 R280): the main domain is in reset, pending snapshots are lost (10 R289),
BYP_HOLD is low (13 R355). -/
def Chip.powerDown (c : Chip) (after : Nat) : Chip :=
  let c := c.mainReset
  let c := c.onPwr fun p => { p with state := .down, afterDown := after, snaps := [], bypHold := false }
  match c.nextDown 0 with
  | some s => c.runDown s
  | none => c.endDown

/-- What follows the rails going down, by the cause of the wrap (Table 10-11): 1 a retry, 2 a restart by
the cause, 3 LOCKOUT, 4 off until RESET_N pulses. -/
def afterCause (cause stay : Nat) : Nat :=
  match cause with
  | 3 => 1
  | 5 | 6 => 3
  | 8 => if stay = 1 then 4 else 2
  | _ => 2

/-- A wrap is triggered (Table 10-7). In ROM recovery mode, or with the main domain held in reset, no
line is dirty: the rails go down without a wrap (15 R396). -/
def Chip.triggerWrap (c : Chip) (cause : Nat) : Chip :=
  if c.pwr.state != .on then c
  else if c.boot.rom || !c.boot.mainOut then
    (c.onWrap fun w => { w with cause := cause, stay := 0 }).powerDown (afterCause cause 0)
  else c.startWrap cause

/-- The reaction SYSTEM_RESET (Table 10-4): a wrap with cause rail fault in ON; in UP the rails go down
with no wrap (10 R279); in WRAP it is recorded only (10 R282). -/
def Chip.systemReset (c : Chip) : Chip :=
  let c := c.onPwr fun p => { p with seqFaultOut := true }
  match c.pwr.state with
  | .on => c.triggerWrap 3
  | .up => c.powerDown 1
  | _ => c

/-- The reaction to a fault in UP, ON or WRAP (10 R279, R282, Table 10-4). -/
def Chip.react (c : Chip) (n : RailNo) : Chip :=
  match c.pwr.state with
  | .up | .on | .wrap =>
    let r := c.rail n
    let c := c.snapshot 3 n.val
    let third := decide (3 ≤ (r.faults.filter (fun t => decide (c.now < t + 1000000000))).length)
    (match r.reaction with
    | 0 => (c.vendorRecord .warning 0x0102 0x6002 (n.val + 1)).onRail n fun x => { x with done := true }
    | 1 => if third then c.systemReset else c.onRail n fun x => { x with en := false, retrying := true }
    | 2 => c.groupOff r.group
    | _ => c.systemReset)
  | _ => c

/-- A fault and its reaction. -/
def Chip.railFault (c : Chip) (n : RailNo) (kind : Nat) : Chip := (c.recordFault n kind).react n

/-- The supply of the chip collapses (10 R283): every EN goes low at once, with no wrap; a snapshot,
and RETRY_WAIT. -/
def Chip.collapse (c : Chip) (n : RailNo) (kind : Nat) : Chip :=
  let c := (c.recordFault n kind).allEnLow.mainReset
  c.onPwr fun p => { p with state := .retryWait, step := 0, afterDown := 1, snaps := [], bypHold := false, seqFaultOut := false }

/-- A rail that ramps is taken as good once it is good (10 R278, R279). A rail whose flags are both clear
is taken as good at RAMP_TIMEOUT only (10 R280). -/
def Chip.takeGood (c : Chip) (n : RailNo) : Chip :=
  let r := c.rail n
  if r.en && decide (r.state = .ramping) && (r.pgUsed || r.senseUsed) && r.isGood then
    c.onRail n fun x => { x with state := .good, everGood := true, done := true, edges := 0 }
  else c

/-- During a power-down, a rail not yet switched off below its fault-low threshold, or any rail above its
fault-high threshold, on two consecutive samples, takes every EN low at once (10 R277, R281). -/
def Chip.judgeDown (c : Chip) (n : RailNo) : Chip :=
  let r := c.rail n
  let low := r.en && r.everGood && decide (r.mv < r.faultLo)
  let high := decide (r.faultHi < r.mv)
  if r.isRail && r.senseUsed && (low || high) then
    if r.outLo + r.outHi = 0 then c.onRail n fun x => { x with outLo := boolNat low, outHi := boolNat high }
    else (((c.onRail n fun x => { x with outLo := 0, outHi := 0 }).recordFault n (if high then 2 else 1)).allEnLow).onPwr fun p => { p with step := 17 }
  else c.onRail n fun x => { x with outLo := 0, outHi := 0 }

/-- The rail's SENSE result is judged (10 R277, R283): collapse on two consecutive samples beyond 10 %,
a fault on two outside a fault threshold, a warning on sixteen outside a warning threshold. -/
def Chip.judge (c : Chip) (n : RailNo) : Chip :=
  let r := c.rail n
  let below := r.chipRail && decide (100 * r.mv < 90 * r.nominal)
  let above := r.chipRail && decide (110 * r.nominal < 100 * r.mv)
  let far := if below then 1 else if above then 2 else 0
  let twice := decide (far ≠ 0 ∧ r.collapse = far)
  let low := decide (r.mv < r.faultLo); let high := decide (r.faultHi < r.mv)
  let out := if low || high then r.outLo + r.outHi + 1 else 0
  let warn := decide (r.mv < r.warnLo) || decide (r.warnHi < r.mv)
  let wout := if warn then r.warnOut + 1 else 0
  let inside := decide (200 * r.warnLo + r.nominal ≤ 200 * r.mv ∧ 200 * r.mv + r.nominal ≤ 200 * r.warnHi)
  let win := if inside then r.warnIn + 1 else 0
  let c := c.onRail n fun x =>
    { x with collapse := far, outLo := if out = 0 then 0 else x.outLo + boolNat low, outHi := if out = 0 then 0 else x.outHi + boolNat high,
             warnOut := wout, warnIn := win }
  if twice then c.collapse n (if below then 7 else 8)
  else
    let c := if wout = 16 && !r.warned then
        ((c.onRail n fun x => { x with warned := true, state := if x.state = .good then .warning else x.state }).snapshot 1 n.val).vendorRecord
          .warning 0x0102 0x6002 (n.val + 1)
      else if win = 16 && r.warned then
        c.onRail n fun x => { x with warned := false, state := if x.state = .warning then .good else x.state }
      else c
    if out = 2 then c.railFault n (if high then 2 else 1) else c

/-- A rail that ramps is taken as good once it is; one of the device's own rails that ramps beyond nominal + 10 % on two
consecutive samples is the loss of the chip (10 R279, R283). -/
def Chip.judgeRamp (c : Chip) (n : RailNo) : Chip :=
  let r := c.rail n
  let above := r.chipRail && r.en && decide (110 * r.nominal < 100 * r.mv)
  if above && decide (r.collapse = 2) then c.collapse n 8
  else (c.onRail n fun x => { x with collapse := if above then 2 else 0 }).takeGood n

/-- A sample of a channel's SENSE in rail millivolts. -/
def Chip.railSample (c : Chip) (n : RailNo) (mv : Nat) : Chip :=
  let c := c.onRail n fun x => { x with mv := mv }
  let r := c.rail n
  match c.pwr.state with
  | .down => c.judgeDown n
  | .up | .on | .wrap =>
    if r.isMonitor || (r.isRail && r.senseUsed && r.en && r.everGood) then c.judge n else c.judgeRamp n
  | _ => c

end Sys2Proof.Machine
end

