-- ==== Sys2Proof/Machine/Reserve.lean ====
section
/-! DEFINITION. The hold-up reserve: usable energy, the dirty budget and its publication, and the
reserve probe (10 R290 to R294, R296, R302); and the wrap record with the end of the drain (10 R295,
R296, R300). -/

namespace Sys2Proof.Machine

/-- BANK_EFFICIENCY (6011:02). -/
def Chip.bankEff (c : Chip) : Nat := c.par 0x6011 2 85
/-- HOLDUP_WRAP_MV (6011:04). -/
def Chip.holdupWrapMv (c : Chip) : Nat := c.par 0x6011 4 0
/-- PROBE_LOAD (6011:05). -/
def Chip.probeLoad (c : Chip) : Nat := c.par 0x6011 5 0

/-- The usable energy of R291 at a bank voltage in units of 10 uV, in units of 5 x 10^-31 J: voltages are taken in
units of 0.1 nV, so that every factor is whole. -/
def Chip.usableAt (c : Chip) (v10 : Nat) : Nat :=
  let v := v10 * 10 ^ 5
  let vcut := c.par 0x6011 1 0 * 10 ^ 7 + c.par 0x6011 3 0 * c.res.esrUohm * 11
  c.res.capUf * 96 * c.bankEff * (v ^ 2 - vcut ^ 2)

/-- The usable energy at a bank voltage in mV. -/
def Chip.usable (c : Chip) (mv : Nat) : Nat := c.usableAt (100 * mv)

/-- Nanojoules per byte of the drain, times 100 (10 R291, R302). -/
def Part.perByte : Part → Nat
  | .klx9256 => 115 | .klx9128 => 130 | .klx9064 => 160

/-- The dirty budget of a usable energy: floor((0.8 e - 2.0 J) / the per-byte term), at most 6 GiB
(10 R291, R302). -/
def budgetOf (p : Part) (e : Nat) : Nat := min ((8 * e - 4 * 10 ^ 31) / (2 * 10 ^ 20 * p.perByte)) 6442450944

/-- Publish a dirty budget; admission applies it (10 R291, 04 R121). -/
def Chip.publish (c : Chip) (b : Nat) : Chip :=
  ((c.onRes fun r => { r with published := b, above := 0 }).onCache fun k => { k with budget := b }).settle

/-- The energy is short during a drain: e is below 1.15 nJ for each dirty byte plus 1.0 J (10 R296). -/
def energyShort (e dirty : Nat) : Bool := decide (e < 2 * 10 ^ 19 * (115 * dirty + 10 ^ 11))

/-- Write the wrap record (Table 10-9): state 1 RUNNING, 2 WRAPPED, 3 INCOMPLETE. -/
def Chip.wrapRecord (c : Chip) (cls : PageClass) (state cause : Nat) : Chip :=
  let w := c.wrap
  let ran := decide (state ≠ 1 ∧ cause ≠ 0)
  let z (n : Nat) : Nat := if ran then n else 0
  let degraded := c.presentGroups.any (fun g => match (c.group g.val).state with | .degraded | .rebuilding => true | _ => false)
  let flags := boolNat (ran && w.probeEnded) + 2 * boolNat degraded + 4 * boolNat w.resumed
  let body := [BitVec.ofNat 8 state, BitVec.ofNat 8 cause, 1, BitVec.ofNat 8 flags] ++ toBytes 4 (c.counter 0) ++
    toBytes 8 c.twin.epoch ++ toBytes 8 c.stamp.toNat ++ toBytes 4 c.med.minute ++
    toBytes 4 (z ((w.drainedAt - w.startedAt) * 40 / 1000)) ++ toBytes 8 (z w.dirtyAt) ++ toBytes 8 (z w.undrained) ++
    toBytes 4 (z w.energyAt) ++ toBytes 4 (z c.energyMj) ++ toBytes 4 (z w.budgetAt)
  let c := c.onWrap fun w => { w with resumed := false }
  c.writeRecord cls wrapRec (body ++ toBytes 4 (crc32 body))

/-- The image of a power snapshot (Table 10-5). -/
def Snapshot.image (s : Snapshot) : List Byte :=
  let b := toBytes 8 s.time ++ [BitVec.ofNat 8 s.trigger, BitVec.ofNat 8 s.chan, BitVec.ofNat 8 s.pwr, BitVec.ofNat 8 s.wrap] ++
    toBytes 2 s.bankMv ++ [BitVec.ofInt 8 s.dieC, BitVec.ofInt 8 (s.dieC / 256)] ++
    fitBytes 32 (s.rails.flatMap (toBytes 2 ·)) ++ toBytes 8 s.dirty ++ toBytes 4 s.budget
  b ++ toBytes 4 (crc32 b)

/-- Copy the oldest pending snapshot to the power-snapshot log (10 R289, 11 R304). -/
def Chip.copySnapshot (c : Chip) (cls : PageClass) : Chip :=
  match c.pwr.snaps with
  | [] => c
  | s :: rest =>
    let c := c.onPwr fun p => { p with snaps := rest }
    let c := c.pageWrite cls (0x5C0000 + 64 * c.ledger.snapNext) s.image
    c.onLedger fun l => { l with snapNext := (l.snapNext + 1) % 16384 }

/-- Copy every pending snapshot. -/
def Chip.copySnapshots (c : Chip) (cls : PageClass) : Chip :=
  (List.range c.pwr.snaps.length).foldl (fun c _ => c.copySnapshot cls) c

/-- Channels are in self-refresh, the others active. One that enters first completes its queues and issues an all-bank
refresh (05 R156). -/
def Chip.restChannels (c : Chip) (ks : List Nat) : Chip :=
  let ps := ks.flatMap (fun k => [2 * k, 2 * k + 1])
  ((c.dropSched ps).allBankRefresh ps).onHbm fun h => { h with selfRefresh := BitVec.ofNat 8 (ks.foldl (fun n k => n + 2 ^ k) 0) }

/-- Channels that enter self-refresh (05 R156, R157): every channel but that of in-service index 0 that
holds no dirty line which the wrap still reads; a line held twice is read from the lower index. -/
def Chip.enterSelfRefresh (c : Chip) : Chip :=
  let reads := (c.dirtyMaps.flatMap (fun p => (List.range 64).filterMap (fun n =>
    if p.2.getLsbD n then ((c.copies (64 * p.1 + n)).map frameIndex).min? else none))).eraseDups
  c.restChannels ((List.range 8).filter (fun k => !((0 :: reads).map (fun i => (c.pcOf i).val / 2)).contains k))

/-- Step 5 of a wrap (10 R295, 11 R310): poison list, pending snapshots, wrap record; INCOMPLETE where
lines are left (10 R296). Before entry into service it writes no record (15 R388). A WRAPPED record
of cause 1, 8 or 9 clears UNCLEAN (15 R390). -/
def Chip.persistWrap (c : Chip) : Chip :=
  let left := c.dirtyTotal / 64
  let c := c.onWrap fun w => { w with drainedAt := c.clk.ticks, undrained := left, short := decide (left ≠ 0) }
  let c := (c.enterSelfRefresh.setWrap 3).snapshot 7
  if c.wrap.beforeService then c
  else
    let c := ((c.persistPoison .wrap).copySnapshots .wrap).wrapRecord .wrap (if left = 0 then 2 else 3) c.wrap.cause
    if left = 0 && [1, 8, 9].contains c.wrap.cause then c.setBoot { c.boot.record with unclean := false } else c

/-- BUDGET_COMPUTE: the 1 ms computation (10 R291, R292, R294, R296). Outside a wrap a lower budget is
published at once, a higher one on the tenth consecutive result; between the publication of a probe
budget and the probe's step only a result below it, which ends the probe. In a drain it stops the drain
when the energy is short. -/
def execBudgetCompute (s : State) : Host.Outcome State Fault Refusal :=
  s.onChip fun c =>
    let asserted := (List.finRange 16).any (fun n => (c.rail n).assertsFault &&
      (c.rail n).faults.any (fun t => decide (c.now < t + 100000)))
    let c := if c.pwr.state = .on && !asserted then c.onPwr fun p => { p with seqFaultOut := false } else c
    if c.res.probe = 3 then c
    else
      let e := c.usable c.res.bankMin
      let b := budgetOf c.id.part e
      let c := c.onRes fun r => { r with energyUj := e / (2 * 10 ^ 24), bankMin := r.bankMv }
      if c.wrap.state = 2 then
        let c := c.enterSelfRefresh
        if energyShort e c.dirtyTotal then c.persistWrap else c
      else if c.res.frozen || !c.res.probed then c
      else if c.res.probe = 2 then
        if b < c.res.probeBudget then (c.onRes fun r => { r with probe := 0 }).publish b else c
      else if b < c.res.published then c.publish b
      else if c.res.published < b then
        if 9 ≤ c.res.above then c.publish b else c.onRes fun r => { r with above := r.above + 1 }
      else c.onRes fun r => { r with above := 0 }

/-- RESERVE_LOST_TIMEOUT: below 64 MiB for 1 s in service (10 R292). -/
def execReserveLostTimeout (s : State) : Host.Outcome State Fault Refusal :=
  s.onChip fun c => if c.inService && decide (c.res.published < 67108864) then c.triggerWrap 7 else c

/-- Start a probe (10 R294 step 1): the probe budget is that of the deepest point its step can reach. -/
def Chip.startProbe (c : Chip) : Chip :=
  if c.res.probe != 0 || c.pwr.state != .on || c.wrapping || c.probeLoad = 0 then c
  else
    let v0 := c.res.bankMv
    c.onRes fun r => { r with probe := 1, probeV0 := v0, probeBudget := budgetOf c.id.part (c.usableAt (v0 * (100 - c.par 0x6012 2 2))) }

/-- PROBE_START: PROBE_PERIOD, a move of 10 C of a BANK_TEMP channel, or a power-up (10 R294). -/
def execProbeStart (s : State) : Host.Outcome State Fault Refusal := s.onChip Chip.startProbe

/-- The action of PROBE_CMD (10 R294). -/
def Chip.probeCmd (c : Chip) : Nat × Chip :=
  if c.wrapping then (abConflict, c) else (0, c.startProbe)

/-- PROBE_BUDGET_READY: the dirty total is within the probe budget, or PROBE_DEFER_MAX has passed, and
the probe budget is published (10 R294 step 2). Before the first probe of a power-up the published
budget stays 0 (10 R292). -/
def execProbeBudgetReady (deferOver : Bool) (s : State) : Host.Outcome State Fault Refusal :=
  s.onChip fun c =>
    if c.res.probe = 1 && (deferOver || decide (c.dirtyTotal ≤ c.res.probeBudget)) then
      let c := c.onRes fun r => { r with probe := 2 }
      if c.res.probed then c.publish c.res.probeBudget else c
    else c

/-- PROBE_DISCHARGE: SQ08_EN rises, and the drop of HOLDUP_SENSE divided by the load current gives the
ESR (10 R294 step 3). -/
def execProbeDischarge (dropMv loadMa : Nat) (s : State) : Host.Outcome State Fault Refusal :=
  s.onChip fun c =>
    if c.res.probe = 2 && decide (c.dirtyTotal ≤ c.res.probeBudget) then
      let c := c.setProbeEn true
      let esr := if loadMa = 0 then c.measure else dropMv * 1000000 / loadMa
      (if loadMa = 0 then c.choose else c).onRes fun r => { r with probe := 3, probeEsr := esr, probeDrop := dropMv }
    else c

/-- The temperature of a BANK_TEMP channel: 10 mV a degree with 500 mV at 0 C (Table 10-2). -/
def Chip.bankTemp (c : Chip) : Int :=
  match (List.finRange 16).find? (fun n => decide (sqField (c.rail n).cfg 0 1 = 3)) with
  | some n => (((c.rail n).mv : Int) - 500) / 10
  | none => 0

/-- PROBE_STEP_END: SQ08_EN falls; the charge drawn divided by the voltage fallen gives the capacitance;
both values are kept in the ledger (10 R294 steps 4, 5). -/
def execProbeStepEnd (fallMv us chargeUc : Nat) (s : State) : Host.Outcome State Fault Refusal :=
  s.onChip fun c =>
    if c.res.probe != 3 then c
    else
      let cap := if fallMv = 0 then c.measure else chargeUc * 1000 / fallMv
      let c := (if fallMv = 0 then c.choose else c).setProbeEn false
      let r := c.res
      let last := ofBytes (toBytes 4 r.probeV0 ++ toBytes 4 r.probeDrop ++ toBytes 4 us ++ toBytes 4 cap ++ toBytes 4 r.probeEsr ++
        toBytes 4 (r.probeBudget / 65536) ++ toBytes 8 c.stamp.toNat)
      let c := c.onRes fun r =>
        { r with probe := 0, capUf := cap, esrUohm := r.probeEsr, probed := true, probeLast := last, probeTemp := c.bankTemp }
      let c := (c.bump 0x6012 6).snapshot 8
      if c.ledger.failed then c
      else c.storeAll ((c.ring.stored.put (dictKey 0x6010 4) (cap % 2 ^ 32)).put (dictKey 0x6010 5) (c.res.esrUohm % 2 ^ 32))

end Sys2Proof.Machine
end

