-- ==== Sys2Proof/Machine/PowerRows.lean ====
section
/-! DEFINITION. The rows of the sequencer: power-up, power-down, samples, faults, retries, RESET_N,
SEQ_FAULT_N, VAUX, and the writes of SQ_CONFIG and SEQ_GROUP_ON (10 R275 to R289). -/

namespace Sys2Proof.Machine

/-- The main domain is released from reset once the rails are good and REFCLK is present (15 Table 15-5). -/
def Chip.railsUp (c : Chip) : Chip :=
  let c := c.onPwr fun p => { p with state := .on, step := 0 }
  if c.clk.refclkOk then c.leaveReset else c

/-- POWER_UP_START: RESET_N is high with VAUX valid. OFF and a LOCKOUT that a pulse has released start the
power-up; a main domain held in reset by a wrap of cause 9 is released (10 R279, R284, R298). A
power-up waits until every rail is off (10 R280). -/
def execPowerUpStart (s : State) : Host.Outcome State Fault Refusal :=
  s.onChip fun c =>
    let pulsed := !c.pwr.resetN || !c.pwr.vauxOk
    let c := c.onPwr fun p =>
      { p with resetN := true, vauxOk := true, hiZ := false, afterDown := if pulsed && (p.afterDown = 3 || p.afterDown = 4) then 0 else p.afterDown }
    match c.pwr.state with
    | .off => if c.pwr.afterDown = 0 && c.allOff then c.beginUp else c
    | .lockout => if c.pwr.afterDown = 0 && c.allOff then c.beginUp else c
    | .on => if pulsed && !c.boot.mainOut && c.clk.refclkOk then (c.onBoot fun b => { b with startAt := c.clk.ticks }).leaveReset else c
    | _ => c

/-- UP_STEP_DONE: every rail of the step counts as done and STEP_DELAY has passed: the next step, or ON
(10 R279). -/
def execUpStepDone (s : State) : Host.Outcome State Fault Refusal :=
  s.onChip fun c =>
    if c.pwr.state != .up || !(c.railsThat fun r => decide (r.upStep + 1 = c.pwr.step) && !r.done).isEmpty then c
    else match c.nextUp c.pwr.step with
      | some k => c.runUp k
      | none => c.railsUp

/-- RAMP_TIMEOUT: a rail not good in time has a fault and its reaction; one whose flags are both clear is
taken as good (10 R279, R280). -/
def execRampTimeout (n : RailNo) (s : State) : Host.Outcome State Fault Refusal :=
  s.onChip fun c =>
    let r := c.rail n
    if !r.isRail || !r.en || r.state != .ramping then c
    else if !r.pgUsed && !r.senseUsed then c.onRail n fun x => { x with state := .good, everGood := true, done := true }
    else c.railFault n 5

/-- The next down step, or the end of the power-down. -/
def Chip.stepDown (c : Chip) : Chip :=
  match c.nextDown c.pwr.step with
  | some k => c.runDown k
  | none => c.endDown

/-- The rails the present down step waits for: its own, or every rail once all ENs went low (10 R280,
R281). -/
def Chip.downWaits (c : Chip) : List RailNo :=
  c.railsThat fun r => (decide (c.pwr.step = 17) || decide (r.downStep + 1 = c.pwr.step)) && !r.done

/-- DOWN_STEP_DONE: every rail of the step reads off (10 R280). -/
def execDownStepDone (s : State) : Host.Outcome State Fault Refusal :=
  s.onChip fun c =>
    if c.pwr.state = .down && c.downWaits.all (fun n => (c.rail n).readsOff) then c.stepDown else c

/-- OFF_TIMEOUT: a rail still above OFF_MV is recorded as an off timeout; one with both flags clear is
taken as off (10 R280). -/
def execOffTimeout (n : RailNo) (s : State) : Host.Outcome State Fault Refusal :=
  s.onChip fun c =>
    if c.pwr.state != .down || !c.downWaits.contains n then c
    else
      let r := c.rail n
      let c := if (r.senseUsed || r.pgUsed) && !r.readsOff then c.recordFault n 6 else c
      let c := c.onRail n fun x => { x with done := true }
      if c.downWaits.all (fun k => (c.rail k).readsOff) then c.stepDown else c

/-- POWER_DOWN_STUCK: a rail still above OFF_MV 1 s after the power-down counts as a failed
whole-sequence retry (10 R280, R284). -/
def execPowerDownStuck (s : State) : Host.Outcome State Fault Refusal :=
  s.onChip fun c =>
    match c.pwr.state with
    | .off | .retryWait =>
      if c.allOff then c
      else if c.pwr.retriesUsed < c.seqRetries then
        (c.onPwr fun p => { p with retriesUsed := p.retriesUsed + 1, stuck := true }).snapshot 4
      else c.lockout
    | _ => c

/-- HOLDUP_SENSE in bank millivolts: the 12-bit result through the divider of HOLDUP_RATIO (10 R277,
R290). -/
def Chip.bankOf (c : Chip) (code : BitVec 12) : Nat := code.toNat * 1600 * c.par 0x6010 2 10000 / 4096000

/-- A sample of HOLDUP_SENSE: two below HOLDUP_WRAP_MV outside a probe step start a wrap (Table 10-7). -/
def Chip.bankSample (c : Chip) (mv : Nat) : Chip :=
  let low := decide (mv < c.holdupWrapMv) && decide (c.res.probe ≠ 3)
  let n := if low then c.pwr.bankLowN + 1 else 0
  let c := (c.onPwr fun p => { p with bankLowN := n }).onRes fun r => { r with bankMv := mv, bankMin := min r.bankMin mv }
  if n = 2 then c.triggerWrap 2 else c

/-- A sample of the die temperature: two above 115 C start a wrap (Table 10-7). -/
def Chip.dieSample (c : Chip) (t : Int) : Chip :=
  let n := if 115 < t then c.pwr.dieHot + 1 else 0
  let c := c.onPwr fun p => { p with dieC := t, diePeak := max p.diePeak t, dieHot := n }
  if n = 2 then c.triggerWrap 10 else c

/-- ADC_SAMPLE (10 R277, R281 to R283, R295). -/
def execAdcSample (input : AdcIn) (s : State) : Host.Outcome State Fault Refusal :=
  s.onChip fun c =>
    match input with
    | .sense n code => c.railSample n (code.toNat * 1600 * (c.rail n).ratio / 4096000)
    | .holdup code => c.bankSample (c.bankOf code)
    | .die t => c.dieSample t

/-- PG_CHANGE: the debounced level is taken; sixteen raw edges within 1 ms after the rail was first good
are a chatter fault; a good rail whose PG falls has a fault (10 R278, R282). -/
def execPgChange (n : RailNo) (level : Bool) (edges : Nat) (s : State) : Host.Outcome State Fault Refusal :=
  s.onChip fun c =>
    let was := c.rail n
    let c := c.onRail n fun x => { x with pg := level, pgRaw := level, edges := if x.everGood then edges else 0 }
    let live := match c.pwr.state with | .up | .on | .wrap => true | _ => false
    if !was.isRail || !was.pgUsed || !live then c
    else if was.everGood && was.en && decide (was.state ≠ .chatter) && decide (16 ≤ edges) then c.railFault n 4
    else if was.everGood && was.en && was.pg && !level then c.railFault n 3
    else c.takeGood n

/-- RAIL_RETRY_TIMER: 10 ms after the rail reads off its EN rises again (Table 10-4). -/
def execRailRetryTimer (n : RailNo) (s : State) : Host.Outcome State Fault Refusal :=
  s.onChip fun c =>
    let r := c.rail n
    if r.retrying && !r.en && r.readsOff then c.onRail n fun x => { x.raise with faults := x.faults } else c

/-- RETRY_WAIT_DONE: SEQ_FAULT_N released for 10 ms and SEQ_RETRY_DELAY passed (10 R284). -/
def execRetryWaitDone (s : State) : Host.Outcome State Fault Refusal :=
  s.onChip fun c =>
    if c.pwr.state = .retryWait && c.allOff then (c.onPwr fun p => { p with seqFaultIn := false }).retry else c

/-- RETRY_COUNT_RESET: after 1 h in ON (10 R284). -/
def execRetryCountReset (s : State) : Host.Outcome State Fault Refusal :=
  s.onChip fun c => if c.pwr.state = .on then c.onPwr fun p => { p with retriesUsed := 0 } else c

/-- RESET_N_LOW: in ON a wrap of cause 9; LOCKOUT and an OFF that waits for a pulse are released at the
next rise; BYP_HOLD goes low (10 R284, R298; 13 R355). -/
def execResetNLow (s : State) : Host.Outcome State Fault Refusal :=
  s.onChip fun c =>
    let c := c.onPwr fun p => { p with resetN := false, bypHold := false }
    if c.pwr.state = .on && c.boot.mainOut then c.triggerWrap 9 else c

/-- SEQ_FAULT_SEEN: another sequencer holds SEQ_FAULT_N low; the gaffer acts in ON and WRAP on
SEQ_FAULT_ACTION (10 R285). -/
def execSeqFaultSeen (s : State) : Host.Outcome State Fault Refusal :=
  s.onChip fun c =>
    let c := c.onPwr fun p => { p with seqFaultIn := true }
    match c.pwr.state with
    | .on | .wrap =>
      match c.par 0x6005 1 1 with
      | 0 => c
      | 1 => (c.snapshot 3).systemReset
      | _ => (List.range 8).foldl (fun c g => c.groupOff g) (c.snapshot 3)
    | _ => c

/-- The bytes of an interrupted page write: the first `k` in write order hold their new values (11 R311). -/
def tornWrite (m : Memory) (p : PageWrite) (k : Nat) : Memory := m.write p.addr (p.bytes.take k)

/-- VAUX_COLLAPSE: every EN low, the always-on outputs float, the gaffer stops; a page write in progress
is cut off, and the always-on domain loses its state (10 R287, R289; 11 R311). -/
def execVauxCollapse (k : Nat) (s : State) : Host.Outcome State Fault Refusal :=
  s.onChip fun c =>
    let c := c.onLedger fun l => match l.current with
      | some p => { l with cells := tornWrite l.cells p k, bad := uncover l.bad p.addr (min k p.bytes.length), current := none }
      | none => l
    let c := c.mainReset
    { c with clk := { refclkOk := c.clk.refclkOk },
             pwr := { state := .off, resetN := c.pwr.resetN, vauxOk := false, vauxMv := 0, hiZ := true, pwrLoss := c.pwr.pwrLoss,
                      rails := c.pwr.rails.map (fun (r : Rail) => { pgRaw := r.pgRaw, pg := r.pg }) },
             res := {}, wrap := {} }

/-- The bytes of SQ_CONFIG that may be changed on SQ00 to SQ07 (10 R276), as a mask of its 256 bits. -/
def sqOpenMask : Nat :=
  0xFF * 2 ^ 40 + 1 * 2 ^ 48 + 0xFFFF * 2 ^ 80 + 0xFFFFFFFF * 2 ^ 160 + 0xFFFF * 2 ^ 208

/-- Bytes of SQ_CONFIG that affect only thresholds (10 R276). -/
def sqMarkMask : Nat := 0xFFFF * 2 ^ 64 + 0xFFFFFFFFFFFFFFFF * 2 ^ 96 + 0xFFFF * 2 ^ 192

/-- The fields of an SQ_CONFIG are in their ranges (Table 10-2). -/
def sqRanges (v : BitVec 256) : Bool :=
  decide (sqField v 0 1 ≤ 4) && (decide (sqField v 1 1 ≤ 15) || decide (sqField v 1 1 = 0xFF)) &&
    (decide (sqField v 2 1 ≤ 15) || decide (sqField v 2 1 = 0xFF)) && decide (sqField v 3 1 ≤ 3) &&
    decide (sqField v 4 1 ≤ 7) && decide (1 ≤ sqField v 5 1)

/-- The range check of a write of SQ_CONFIG (10 R276): an abort code, 0 for none. -/
def Chip.sqCheck (c : Chip) (n : RailNo) (v : Nat) : Nat :=
  let old := c.sqStored n
  let new := BitVec.ofNat 256 v
  if !sqRanges new then abRange
  else if n.val < 8 && decide ((old ^^^ new) &&& ~~~ BitVec.ofNat 256 sqOpenMask ≠ 0) then abRange
  else 0

/-- A stored SQ_CONFIG, in place of `old`, takes effect (10 R276): at once on SQ00 to SQ07 and where it changes thresholds only,
else at the next power-up. -/
def Chip.sqApply (c : Chip) (n : RailNo) (old : BitVec 256) (v : Nat) : Chip :=
  let new := BitVec.ofNat 256 v
  let m := BitVec.ofNat 256 sqMarkMask
  c.onRail n fun r =>
    if n.val < 8 then { r with cfg := new }
    else if (old ^^^ new) &&& ~~~ m = 0 then { r with cfg := (r.cfg &&& ~~~ m) ||| (new &&& m) }
    else r

/-- The action of SEQ_GROUP_ON: the group's rails power up again (Table 10-4). -/
def Chip.groupOn (c : Chip) (g : Nat) : Chip :=
  ((c.groupRails g).filter (fun n => decide ((c.rail n).state = .offByGroup))).foldl (fun c n => c.onRail n Rail.raise) c

end Sys2Proof.Machine
end

