-- ==== Sys2Proof/Machine/WrapRows.lean ====
section
/-! DEFINITION. The rows of the wrap and of the clock monitor: triggers, settle, drain, persist, resume
and restart, the dirty map, the hourly record and the snapshot log (01 R21; 10 R289, R295 to R300,
R437). -/

namespace Sys2Proof.Machine

/-- POWER_LOSS: PWR_LOSS_N low for 2 us (Table 10-7 cause 1). -/
def execPowerLoss (s : State) : Host.Outcome State Fault Refusal :=
  s.onChip fun c => (c.onPwr fun p => { p with pwrLoss := true }).triggerWrap 1

/-- REFCLK_LOST: the root PLL runs in holdover, heads and twin link go down, and a wrap of cause 4 starts
(01 R21). -/
def execRefclkLost (s : State) : Host.Outcome State Fault Refusal :=
  s.onChip fun c =>
    let c := c.onClk fun k => { k with refclkOk := false, holdover := true }
    let c := c.triggerWrap 4
    let c := c.presentHeads.foldl (fun c h => if (c.head h).link = .up then c.headDown h .training else c) c
    c.twinDown

/-- REFCLK_RESTORED: REFCLK present for 1 ms; a main domain held in reset for it is released (10 R437). -/
def execRefclkRestored (s : State) : Host.Outcome State Fault Refusal :=
  s.onChip fun c =>
    let c := c.onClk fun k => { k with refclkOk := true, holdover := false }
    if c.pwr.state = .on && !c.boot.mainOut && c.pwr.resetN then c.leaveReset else c

/-- GAFFER_WATCHDOG: the always-on watchdog runs the wrap with the hardware copy of SQ_CONFIG (10 R295). -/
def execGafferWatchdog (s : State) : Host.Outcome State Fault Refusal :=
  s.onChip fun c =>
    let c := c.onPwr fun p => { p with rails := Vector.ofFn (fun n => { p.rails.get n with cfg := p.hwCfg.get n }) }
    c.triggerWrap 5

/-- The dirty map: the segments that hold dirty lines on this chip, ascending (10 R297). -/
def Chip.dirtySegs (c : Chip) : List Nat := (c.dirtyMaps.filter (fun p => decide (p.2 ≠ 0))).map Prod.fst

/-- Groups that take a checkpoint of the dirty map (Table 06-6). -/
def Chip.mapGroups (c : Chip) : List Nat := c.groupNos.filter (fun g => ((c.group g).state).permits .dirtyMap)

/-- A checkpoint of the dirty map: a stripe operation in each group that takes it; the last one must have ended (10 R297). -/
def Chip.checkpoint (c : Chip) : Chip :=
  if c.checkpointing then c
  else
    let c := c.onCache fun k => { k with wb := k.wb.filter (fun o => o.cause != .dirtyMap) }
    c.mapGroups.foldl (fun c g => c.addOp { group := g, stripe := dirtyStripe, cause := .dirtyMap, dirty := c.dirtySegs }) c

/-- WRAP_SETTLED: issued programs and merges are done, every queued HBM write is complete (05 R140), a retraining member
counts as missing, the outstanding delta of the dirty map is programmed first, and the drain starts (10 R295 step 3). A wrap
begun with an empty persistent window goes to step 5 at once. -/
def execWrapSettled (s : State) : Host.Outcome State Fault Refusal :=
  s.onChip fun c =>
    if c.wrap.state = 1 && decide (c.wrap.dirtyAt = 0) then c.persistWrap
    else if c.wrap.state != 1 || !c.cache.merges.isEmpty || c.med.ch.toList.any (fun x => !x.busy.isEmpty) then c
    else
      let c := ((List.range 36).filter (fun n => (c.chan n).retraining)).foldl (fun c n => c.memberMissing n) c
      if c.med.dirtyMap ≠ c.dirtySegs && !c.mapGroups.isEmpty then c.checkpoint
      else ((c.dropSched (List.range 16)).enterSelfRefresh).setWrap 2

/-- Every dirty line lies in a FAILED group (10 R296, 06 R179). -/
def Chip.onlyFailedLeft (c : Chip) : Bool :=
  c.dirtySegs.all (fun g => match c.homeSlot g with | some p => decide ((c.group p.group).state = .failed) | none => true)

/-- WRAP_DRAINED: the drain ends, and step 5 begins (10 R295 steps 4, 5; R296 where lines are left in a
FAILED group). -/
def execWrapDrained (s : State) : Host.Outcome State Fault Refusal :=
  s.onChip fun c => if c.wrap.state = 2 && c.onlyFailedLeft then c.persistWrap else c

/-- WRAP_PERSISTED: step 5 has ended, and with the wrap record written the last channel enters self-refresh (05 R157); a completed wrap is counted; the rails go down, or, after a wrap of
cause 9, the main domain is held in reset with the rails on (10 R295 step 6, R298). -/
def execWrapPersisted (s : State) : Host.Outcome State Fault Refusal :=
  s.onChip fun c =>
    if c.wrap.state != 3 || (!c.ledger.failed && (c.ledger.current.isSome || c.ledger.queue.any (fun p => decide (p.cls.rank ≤ 3)))) then c
    else
      let c := (c.restChannels (List.range 8)).setWrap 4
      let c := if c.wrap.short then c else c.countNow 4
      if c.wrap.cause = 9 then
        (c.mainReset.onWrap fun w => { w with state := 0 }).onPwr fun p => { p with state := .on, step := 0 }
      else c.powerDown (afterCause c.wrap.cause c.wrap.stay)

/-- Scratch reads as zeros after a wrap (01 R32; 04 R129). -/
def Chip.emptyScratch (c : Chip) : Chip :=
  let gone (f : Nat) : Bool := c.lockedScratch (frameWay f)
  c.onCache fun k => { k with frames := k.frames.filter (fun p => !gone p.1), lines := k.lines.filter (fun p => !gone (p.1 / 64)) }

/-- WRAP_RESUME: the input and the bank have held for RESUME_HOLD during the drain of a wrap of cause 1
or 2, and the drain is complete: the chip resumes, with the record left as it was; with a recorded twin
it is FENCED and registers, to rejoin as a returning chip (10 R298, 09 R270). -/
def execWrapResume (s : State) : Host.Outcome State Fault Refusal :=
  s.onChip fun c =>
    if c.wrap.state != 2 || (c.wrap.cause != 1 && c.wrap.cause != 2) || c.dirtyTotal != 0 then c
    else
      let c := (c.onPwr fun p => { p with state := .on, pwrLoss := false }).setWrap 5
      let c := (c.restChannels []).onRes fun r => { r with frozen := false }
      let c := (c.onWrap fun w => { w with resumed := true }).emptyScratch
      let c := c.onDolly fun d => { d with paused := false }
      match c.twin.state with
      | .paired | .split | .fenced | .rejoining => (c.setPair .fenced).sendWitness 1
      | .alone => (c.raiseHeads.setWrap 0).sendWitness 1
      | .unpaired | .refused => c.raiseHeads.setWrap 0

/-- WRAP_RESTART: the condition of the wrap's cause is met and the gaffer powers up again; after a thermal
wrap that is a retry (Table 10-11). -/
def execWrapRestart (s : State) : Host.Outcome State Fault Refusal :=
  s.onChip fun c =>
    if c.pwr.state != .off || c.pwr.afterDown != 2 || !c.allOff then c
    else if c.wrap.cause = 10 then c.retry
    else (c.onPwr fun p => { p with pwrLoss := false }).beginUp

/-- DIRTY_MAP_CHECKPOINT: every 10 ms (10 R297). -/
def execDirtyMapCheckpoint (s : State) : Host.Outcome State Fault Refusal :=
  s.onChip fun c => if c.inService && !c.wrapping then c.checkpoint else c

/-- WRAP_RECORD_HOURLY: the RUNNING record again (10 R300). -/
def execWrapRecordHourly (s : State) : Host.Outcome State Fault Refusal :=
  s.onChip fun c => if c.inService && !c.wrapping then c.wrapRecord .system 1 0 else c

/-- SNAPSHOT_COPY: a pending snapshot is copied to the ledger while the main domain is on (10 R289). -/
def execSnapshotCopy (s : State) : Host.Outcome State Fault Refusal :=
  s.onChip fun c => if c.boot.mainOut then c.copySnapshot .log else c

/-- The action of WRAP_CMD: 1 wraps and stays off, 2 wraps and powers up again (10 R298). -/
def Chip.wrapCmd (c : Chip) (v : Nat) : Nat × Chip :=
  if c.pwr.state != .on || c.wrapping || !c.boot.mainOut then (abConflict, c)
  else (0, (c.startWrap 8).onWrap fun w => { w with stay := v })

end Sys2Proof.Machine
end

