-- ==== Sys2Proof/Machine/Security.lean ====
section
/-! DEFINITION. Security: crypto-erase, the DRBG, the sealing engine, IDE and twin link keys, SPDM,
passphrases and the return-to-vendor unlock (12 R322 to R348). -/

namespace Sys2Proof.Machine

/-- Draw a value from the DRBG (12 R322). -/
def Chip.drawRandom (c : Chip) : Nat × Chip :=
  (Config.random c.sec.draws, c.onSec fun s => { s with draws := s.draws + 1, sinceSeed := s.sinceSeed + 1 })

/-- DRBG_HEALTH_FAIL: the DRBG stops (12 R322). -/
def execDrbgHealthFail (s : State) : Host.Outcome State Fault Refusal :=
  s.onChip fun c => c.onSec fun x => { x with drbgStopped := true }

/-- DRBG_RESEED: after 2^20 requests (12 R322). -/
def execDrbgReseed (s : State) : Host.Outcome State Fault Refusal :=
  s.onChip fun c => if 2 ^ 20 ≤ c.sec.sinceSeed && !c.sec.drbgStopped then c.onSec fun x => { x with sinceSeed := 0 } else c

/-- An object of either chip in state ACTIVE or UNAVAILABLE carries the tag, as its tag or as the old
tag of a change in progress (12 R327). -/
def Chip.tagInUse (c : Chip) (t : Tag) : Bool :=
  c.obj.table.any (fun p => decide (p.2.state ≠ .destroying) && (decide (p.2.keyTag = t) || decide (p.2.oldKeyTag = some t) || p.2.olderTags.contains t))

/-- The pair state lets a key be erased on every chip that holds it (12 R327). -/
def Chip.mayErase (c : Chip) : Bool :=
  match c.twin.state with
  | .paired => true
  | .unpaired | .refused => decide (c.twin.twinSerial = 0)
  | _ => false

/-- The action of CRYPTO_ERASE (12 R327): the tag enters ERASING on both chips; the write is answered at
its completion. A second erase while one runs is a state conflict. -/
def Chip.cryptoErase (c : Chip) (a : Access) (t : Tag) : Nat × Chip :=
  if c.ledger.failed then (abHardware, c)
  else if c.tagInUse t || !c.mayErase || c.sec.eraseTag.isSome then
    (abConflict, if c.sec.eraseTag.isSome then c else c.onSec fun s => { s with eraseState := 3 })
  else
    let c := (c.eraseStart t).onSec fun s => { s with eraseReq := some a }
    (0, if c.paired then c.sendTwin (.tableUpdate (.eraseKey t)) else c)

/-- A program or a read under the tag is in flight (12 R327 step 2). -/
def Chip.tagBusy (c : Chip) (t : Tag) : Bool :=
  let key := c.keyOf t
  c.cache.misses.any (fun m => (c.readKeys (lineSeg m.line)).contains key) ||
    c.cache.wb.any (fun o => o.lines.any (fun l => decide (l.2.key = key)))

/-- The head's link is ended by its IDE stream: an integrity failure's outcome (12 Table 12-3). -/
def Chip.ideStop (c : Chip) (h : HeadNo) : Chip := if (c.head h).ideOn then (c.bump 0x8031 2).ideFail h else c

/-- IDE_COUNTER_EXHAUSTED: an invocation counter reaches 2^48 (12 R332). -/
def execIdeCounterExhausted (h : HeadNo) (tx : Bool) (s : State) : Host.Outcome State Fault Refusal :=
  s.onChip fun c =>
    if !(c.head h).ideOn then c
    else (c.onHead h fun d => if tx then { d with ideTx := { d.ideTx with count := 2 ^ 48 } } else { d with ideRx := { d.ideRx with count := 2 ^ 48 } }).ideStop h

/-- IDE_REKEY_DUE: an invocation counter reaches 2^48 - 2^40 (12 R332). -/
def execIdeRekeyDue (h : HeadNo) (tx : Bool) (s : State) : Host.Outcome State Fault Refusal :=
  s.onChip fun c =>
    if !(c.head h).ideOn then c
    else
      let n := 2 ^ 48 - 2 ^ 40
      let c := c.onHead h fun d =>
        if tx then { d with ideTx := { d.ideTx with count := max n d.ideTx.count } } else { d with ideRx := { d.ideRx with count := max n d.ideRx.count } }
      c.vendorRecordAt h .informational 0x0501

/-- The twin link's stream ends: the link is taken down, to retrain under a new session (12 R332). -/
def Chip.twinStop (c : Chip) : Chip := if c.linkReady then (c.bump 0x8031 2).lostLink else c

/-- TWIN_COUNTER_EXHAUSTED (12 R332). -/
def execTwinCounterExhausted (s : State) : Host.Outcome State Fault Refusal := s.onChip Chip.twinStop

/-- NONCE_UNCERTAIN: the stream ends as at its hard stop (12 R333). -/
def execNonceUncertain (h : Option HeadNo) (s : State) : Host.Outcome State Fault Refusal :=
  s.onChip fun c => match h with
    | some h => c.ideStop h
    | none => c.twinStop

/-- WITNESS_SEQ_EXHAUSTED: no RENEW can be sent any more, and the chip fences (12 R332). -/
def execWitnessSeqExhausted (s : State) : Host.Outcome State Fault Refusal :=
  s.onChip fun c => if c.wit.registered then (c.bump 0x8031 2).fence else c

/-- TWIN_REKEY_DUE: the counter reaches 2^47, and KEY_UPDATE goes out with all keys updated (12 R332). -/
def execTwinRekeyDue (s : State) : Host.Outcome State Fault Refusal :=
  s.onChip fun c =>
    if !c.linkReady || c.sec.twinRekeying then c
    else (c.onSec fun x => { x with twinRekeying := true, twinTx := max (2 ^ 47) x.twinTx }).emit (.spdm none "KEY_UPDATE" [])

/-- TWIN_REKEY_RETRY: a failed KEY_UPDATE is sent again (12 R332). -/
def execTwinRekeyRetry (s : State) : Host.Outcome State Fault Refusal :=
  s.onChip fun c => if c.linkReady && c.sec.twinRekeying then c.emit (.spdm none "KEY_UPDATE" []) else c

/-- Send an SPDM or IDE_KM answer at a head: over DOE, with MSI-X vector 3 (03 R96, R99; 12 R330). -/
def Chip.spdm (c : Chip) (h : HeadNo) (msg : String) (f : List Nat := []) : Chip := (c.emit (.spdm (some h) msg f)).emit (.msix h 3)

/-- The head has an open SPDM session. -/
def Chip.secured (c : Chip) (h : HeadNo) : Bool := (c.head h).sessions.any (·.finished)

/-- An IDE_KM message over the head's secured session; key changes stop with SC (01 R17) and while the
engine is disabled (12 R337). -/
def Chip.ideKm (c : Chip) (h : HeadNo) (f : Chip → Chip) : Chip :=
  if !c.secured h || !c.scRuns || c.sec.sealState = .disabled then c else f c

/-- IDE_KM_QUERY (12 R330): the state of each direction: K0 and K1 programmed, and the active set. -/
def execIdeKmQuery (h : HeadNo) (s : State) : Host.Outcome State Fault Refusal :=
  s.onChip fun c => if !c.secured h || !c.scRuns then c
    else
      let dir (x : IdeDir) : List Nat := [boolNat x.prog0, boolNat x.prog1, match x.active with | none => 2 | some k => boolNat k]
      c.spdm h "QUERY_RESP" (dir (c.head h).ideRx ++ dir (c.head h).ideTx)

/-- Change one direction of a head's IDE stream. -/
def Chip.onIde (c : Chip) (h : HeadNo) (tx : Bool) (f : IdeDir → IdeDir) : Chip :=
  c.onHead h fun d => if tx then { d with ideTx := f d.ideTx } else { d with ideRx := f d.ideRx }

/-- A new key in a key set: its counter starts at 0 (12 R332). -/
def IdeDir.program (x : IdeDir) (k1 : Bool) : IdeDir :=
  let x := if x.active = some k1 then { x with count := 0 } else x
  if k1 then { x with prog1 := true } else { x with prog0 := true }

/-- A direction leaves its active key set, whose key is not used again: no counter value repeats under one key (12 R332).
DESIGN CHOICE (notes/assumptions/108.md): the set must be programmed anew. -/
def IdeDir.retire (x : IdeDir) : IdeDir :=
  match x.active with
  | none => x
  | some false => { x with active := none, prog0 := false, count := 0 }
  | some true => { x with active := none, prog1 := false, count := 0 }

/-- KEY_PROG: a key set of a direction is programmed (12 R330). -/
def execKeyProg (h : HeadNo) (tx k1 : Bool) (s : State) : Host.Outcome State Fault Refusal :=
  s.onChip fun c => c.ideKm h fun c =>
    (c.onIde h tx fun x => x.program k1).spdm h "KP_ACK" [boolNat tx, boolNat k1, 0]

/-- KEY_SET_GO: a programmed key set becomes active, its counter at 0; the stream is secure once both
directions have an active set (03 R99; 12 R330, R332). -/
def execKeySetGo (h : HeadNo) (tx k1 skid : Bool) (s : State) : Host.Outcome State Fault Refusal :=
  s.onChip fun c => c.ideKm h fun c =>
    let d := c.head h
    let x := if tx then d.ideTx else d.ideRx
    if !(if k1 then x.prog1 else x.prog0) then c
    else
      let c := c.onIde h tx fun x => if x.active = some k1 then x else { x.retire with active := some k1, count := 0 }
      let c := c.onHead h fun d =>
        { d with ideOn := d.ideRx.active.isSome && d.ideTx.active.isSome, ideSkid := skid }
      c.spdm h "K_GOSTOP_ACK" [boolNat tx, boolNat k1]

/-- KEY_SET_STOP (12 R330). -/
def execKeySetStop (h : HeadNo) (tx k1 : Bool) (s : State) : Host.Outcome State Fault Refusal :=
  s.onChip fun c => c.ideKm h fun c =>
    let c := c.onIde h tx fun x => if x.active = some k1 then x.retire else x
    let c := c.onHead h fun d => { d with ideOn := d.ideOn && d.ideRx.active.isSome && d.ideTx.active.isSome }
    c.spdm h "K_GOSTOP_ACK" [boolNat tx, boolNat k1]

/-- Stage order of an SPDM connection. -/
def SpdmStage.rank : SpdmStage → Nat
  | .none => 0 | .version => 1 | .caps => 2 | .algorithms => 3

/-- An SPDM request at a head: it is answered while the link is up and SC runs (01 R17); out of the
order of the connection it gets ERROR UnexpectedRequest. -/
def Chip.spdmIn (c : Chip) (h : HeadNo) (need : SpdmStage) (f : Chip → Chip) : Chip :=
  if (c.head h).link != .up || !c.scRuns || c.boot.rom then c
  else if (c.head h).spdm.rank < need.rank then c.spdm h "ERROR" [0x04]
  else f c

/-- GET_VERSION: 1.2 only; the connection starts anew (12 R342). -/
def execGetVersion (h : HeadNo) (s : State) : Host.Outcome State Fault Refusal :=
  s.onChip fun c => c.spdmIn h .none fun c => (c.onHead h fun d => { d with spdm := .version }).spdm h "VERSION" [0x12]

/-- Capability flags of Table 12-6 in the order CERT, CHAL, MEAS with signature, MEAS_FRESH, ENCRYPT, MAC,
KEY_EX, MUT_AUTH, HBEAT, KEY_UPD, each 1, and the CT exponent 20. -/
def spdmCaps : List Nat := List.replicate 10 1 ++ [20]

/-- GET_CAPABILITIES (12 R342). -/
def execGetCapabilities (h : HeadNo) (s : State) : Host.Outcome State Fault Refusal :=
  s.onChip fun c => c.spdmIn h .version fun c => (c.onHead h fun d => { d with spdm := .caps }).spdm h "CAPABILITIES" spdmCaps

/-- NEGOTIATE_ALGORITHMS: ECDSA P-256, SHA-256, secp256r1, AES-256-GCM (12 R342). -/
def execNegotiateAlgorithms (h : HeadNo) (s : State) : Host.Outcome State Fault Refusal :=
  s.onChip fun c => c.spdmIn h .caps fun c =>
    (c.onHead h fun d => { d with spdm := .algorithms }).spdm h "ALGORITHMS: ECDSA P-256, SHA-256, secp256r1, AES-256-GCM"

/-- The slot 0 certificate chain, at most 4 KiB (12 R341). -/
def Chip.certChain (c : Chip) : List Byte := (Config.certChain c.image.hash).take 4096

/-- GET_DIGESTS: slot 0 only (12 R341). -/
def execGetDigests (h : HeadNo) (s : State) : Host.Outcome State Fault Refusal :=
  s.onChip fun c => c.spdmIn h .algorithms fun c => c.spdm h "DIGESTS" [1, (sha256 c.certChain).toNat]

/-- GET_CERTIFICATE: a portion of slot 0's chain, and what is left after it; no other slot is provisioned
(12 R341). -/
def execGetCertificate (h : HeadNo) (slot off len : Nat) (s : State) : Host.Outcome State Fault Refusal :=
  s.onChip fun c => c.spdmIn h .algorithms fun c =>
    if slot != 0 || c.certChain.length ≤ off then c.spdm h "ERROR" [0x01]
    else
      let part := (c.certChain.drop off).take len
      c.spdm h "CERTIFICATE" ([slot, part.length, c.certChain.length - off - part.length] ++ part.map (·.toNat))

/-- A signature of the L2 alias key over the next answer. -/
def Chip.sign (c : Chip) : Nat × Chip := (Config.signature c.sec.draws, (c.drawRandom).2)

/-- CHALLENGE: the digest of the chain, a fresh nonce and the signature (12 R342). -/
def execChallenge (h : HeadNo) (slot : Nat) (s : State) : Host.Outcome State Fault Refusal :=
  s.onChip fun c => c.spdmIn h .algorithms fun c =>
    if slot != 0 then c.spdm h "ERROR" [0x01]
    else
      let (nonce, c) := c.drawRandom
      let (sig, c) := c.sign
      c.spdm h "CHALLENGE_AUTH" [slot, (sha256 c.certChain).toNat, nonce, sig]

/-- Bits of SEC_STATE (Table 12-8). -/
def Chip.secState (c : Chip) : Nat :=
  let s := c.sec
  boolNat s.userPass.isSome + 2 * boolNat s.masterPass.isSome + 4 * boolNat s.locked + 8 * boolNat s.frozen +
    16 * boolNat (decide (5 ≤ s.userTries)) + 32 * boolNat (decide (5 ≤ s.masterTries))

/-- The values that a measurement block covers (Table 12-7). -/
def Chip.measured (c : Chip) (index : Nat) : List Nat :=
  match index with
  | 2 | 3 => [c.image.version.toNat, c.image.hash.toNat]
  | 4 => [c.counter 3]
  | 5 => [boolNat c.sec.sealMode, c.secState, boolNat c.sec.jtagOpen] ++ (List.finRange 6).map c.mboxLevel
  | 6 => [c.id.part.code]
  | _ => []

/-- A measurement block's bytes: block 4 raw as a U64, the others as digests or raw values the spec does not
lay out (Table 12-7). -/
def Chip.measureBlock (c : Chip) (index : Nat) : List Byte :=
  if index = 4 then toBytes 8 (c.counter 3) else Config.measurement index (c.measured index)

/-- GET_MEASUREMENTS: one block of six, or all, signed (12 R342). -/
def execGetMeasurements (h : HeadNo) (index : Nat) (s : State) : Host.Outcome State Fault Refusal :=
  s.onChip fun c => c.spdmIn h .algorithms fun c =>
    let which := if index = 0xFF then [1, 2, 3, 4, 5, 6] else [index]
    if index != 0xFF && (index = 0 || 6 < index) then c.spdm h "ERROR" [0x01]
    else
      let (sig, c) := c.sign
      c.spdm h "MEASUREMENTS" (which.flatMap (fun i => i :: (c.measureBlock i).map (·.toNat)) ++ [sig])

/-- KEY_EXCHANGE: two sessions a head; a further one gets ERROR Busy; none while the engine is disabled or the DRBG
has stopped (12 R322, R337, R342). -/
def execKeyExchange (h : HeadNo) (s : State) : Host.Outcome State Fault Refusal :=
  s.onChip fun c => c.spdmIn h .algorithms fun c =>
    let d := c.head h
    if c.sec.sealState = .disabled || c.sec.drbgStopped then c.spdm h "ERROR" [0x05]
    else if 2 ≤ d.sessions.length then c.spdm h "ERROR" [0x03]
    else
      let id := if d.sessions.any (fun x => decide (x.id = 0)) then 1 else 0
      (c.onHead h fun d => { d with sessions := d.sessions ++ [{ id := id }] }).spdm h "KEY_EXCHANGE_RSP" [id, 60]

/-- Change a session of a head. -/
def Chip.onSession (c : Chip) (h : HeadNo) (id : Nat) (f : SpdmSession → SpdmSession) : Chip :=
  c.onHead h fun d => { d with sessions := d.sessions.map (fun x => if x.id = id then f x else x) }

/-- End a session of a head. -/
def Chip.endSession (c : Chip) (h : HeadNo) (id : Nat) : Chip :=
  c.onHead h fun d => { d with sessions := d.sessions.filter (fun x => x.id != id) }

/-- The head has the session. -/
def Chip.hasSession (c : Chip) (h : HeadNo) (id : Nat) : Bool := (c.head h).sessions.any (fun x => decide (x.id = id))

/-- FINISH: the handshake completes, or the session ends where the verify data do not match (12 R342). -/
def execFinish (h : HeadNo) (session : Nat) (ok : Bool) (s : State) : Host.Outcome State Fault Refusal :=
  s.onChip fun c => c.spdmIn h .algorithms fun c =>
    if !c.hasSession h session then c.spdm h "ERROR" [0x02]
    else if ok then (c.onSession h session fun x => { x with finished := true }).spdm h "FINISH_RSP" [session]
    else (c.endSession h session).spdm h "ERROR" [0x06]

/-- SPDM_HEARTBEAT: it keeps a session open (12 R342). -/
def execSpdmHeartbeat (h : HeadNo) (session : Nat) (s : State) : Host.Outcome State Fault Refusal :=
  s.onChip fun c => c.spdmIn h .algorithms fun c =>
    if c.hasSession h session then (c.onSession h session fun x => { x with missed := 0 }).spdm h "HEARTBEAT_ACK" [session] else c

/-- SPDM_SESSION_TIMEOUT: 60 s without a heartbeat; the second one missed ends the session (12 R342). -/
def execSpdmSessionTimeout (h : HeadNo) (session : Nat) (s : State) : Host.Outcome State Fault Refusal :=
  s.onChip fun c =>
    if (c.head h).sessions.any (fun x => decide (x.id = session ∧ 1 ≤ x.missed)) then c.endSession h session
    else c.onSession h session fun x => { x with missed := x.missed + 1 }

/-- The twin link's keys are updated: the counter starts at 0 again (12 R332). -/
def Chip.twinRekeyed (c : Chip) : Chip := (c.onSec fun s => { s with twinTx := 0, twinRekeying := false }).bump 0x8031 1

/-- KEY_UPDATE: of a head's session; or on the twin link, the acknowledgement of this chip's own or a request
of the partner, which it acknowledges (12 R332, R342). -/
def execKeyUpdate (h : Option HeadNo) (session : Nat) (ack : Bool) (s : State) : Host.Outcome State Fault Refusal :=
  s.onChip fun c => match h with
    | some h => c.spdmIn h .algorithms fun c => if c.hasSession h session then c.spdm h "KEY_UPDATE_ACK" [session] else c
    | none =>
      if !c.linkReady then c
      else if ack then (if c.sec.twinRekeying then c.twinRekeyed else c)
      else (c.twinRekeyed).emit (.spdm none "KEY_UPDATE_ACK" [])

/-- END_SESSION (12 R342). -/
def execEndSession (h : HeadNo) (session : Nat) (s : State) : Host.Outcome State Fault Refusal :=
  s.onChip fun c => c.spdmIn h .algorithms fun c => if c.hasSession h session then (c.endSession h session).spdm h "END_SESSION_ACK" [session] else c

/-- TWIN_SPDM_SESSION: the mutual session completes; the link keys and the pair wrapping key are derived,
and HELLO follows; a failed chain or measurement is refusal cause 5 (09 R245; 12 R331). -/
def execTwinSpdmSession (ok : Bool) (s : State) : Host.Outcome State Fault Refusal :=
  s.onChip fun c =>
    if c.twin.link != .up || c.sec.sealState = .disabled then c
    else if ok then
      let c := c.onTwin fun t => { t with keyed := true, auth := true }
      (c.onSec fun x => { x with twinSession := true, twinTx := 0, twinRekeying := false, slots := x.slots ||| 4 }).greet
    else c.refused 5

/-- Name of a status of the sealing engine. -/
def sealStatus (n : Nat) : String :=
  match n % 5 with
  | 0 => "OK" | 1 => "TAG_FAIL" | 2 => "ALARM" | 3 => "FAULT" | _ => "LIMIT"

/-- The request to run next: those of SPDM sessions and IDE_KM first, in order of arrival (12 R334). -/
def Security.sealNext (s : Security) : Option SealReq :=
  match s.sealQ.find? (·.priority) with
  | some r => some r
  | none => s.sealQ.head?

/-- Run one request of the sealing engine (12 R332, R334, R335). The status of a request under a slot that
holds no key, and of a GCM encryption with a stopped DRBG, is not stated: it is a free choice. -/
def Chip.sealRun (c : Chip) : Chip :=
  match c.sec.sealNext with
  | none => c
  | some r =>
    if c.sec.sealState != .ready then c
    else
      let c := c.onSec fun s => { s with sealQ := s.sealQ.erase r }
      let uses := c.sec.slotUses.getD r.slot 0
      if !c.sec.slots.getLsbD r.slot then (c.emit (.seal (sealStatus c.nextChoice))).choose
      else match r.op with
        | .gcmSeal =>
          if 2 ^ 32 ≤ uses then c.emit (.seal "LIMIT")
          else if c.sec.drbgStopped then (c.emit (.seal (sealStatus c.nextChoice))).choose
          else ((c.drawRandom).2.onSec fun s => { s with slotUses := s.slotUses.put r.slot (uses + 1) }).emit (.seal "OK")
        | .kwWrap => c.emit (.seal "OK")
        | .gcmOpen | .kwUnwrap => c.emit (.seal (if r.tagOk then "OK" else "TAG_FAIL"))

/-- SEAL_REQUEST: a request enters the queue of 64, or returns FULL; while the engine recovers from an alarm or
is disabled it ends with ALARM (12 R334, R337). -/
def execSealRequest (op : SealOp) (slot : Fin 32) (priority tagOk : Bool) (s : State) : Host.Outcome State Fault Refusal :=
  s.onChip fun c =>
    if c.sec.sealState != .ready then c.emit (.seal "ALARM")
    else if 64 ≤ c.sec.sealQ.length then c.emit (.seal "FULL")
    else c.onSec fun x => { x with sealQ := x.sealQ ++ [{ op := op, slot := slot.val, priority := priority, tagOk := tagOk }] }

/-- A parity error in compatibility mode: the request ends with FAULT and nothing is erased (12 R338). -/
def Chip.sealParity (c : Chip) : Chip :=
  let c := match c.sec.sealNext with
    | some r => (c.onSec fun s => { s with sealQ := s.sealQ.erase r }).emit (.seal "FAULT")
    | none => c
  (c.bump 0x8020 5).vendorRecord .warning 0x0503 0x8020 5

/-- Cause of SEAL_LAST_ALARM (Table 12-9). -/
def sealEventCode : SealEvent → Nat
  | .glitch => 1 | .temperature => 2 | .shield => 3 | .datapath => 4 | .parity => 5

/-- Slots loaded. -/
def slotCount (b : BitVec 32) : Nat := (List.range 32).countP (fun i => b.getLsbD i)

/-- An alarm of the sealing engine (12 R337): slots and queue are erased; the third within 24 h leaves the
engine disabled. -/
def Chip.sealAlarm (c : Chip) (e : SealEvent) : Chip :=
  let n := slotCount c.sec.slots
  let c := c.sec.sealQ.foldl (fun c _ => c.emit (.seal "ALARM")) c
  let recent := c.now :: c.sec.alarms.filter (fun t => decide (c.now < t + 86400000000000))
  let last := ofBytes ([BitVec.ofNat 8 (sealEventCode e), BitVec.ofNat 8 (boolNat c.sec.sealMode), BitVec.ofNat 8 n, 0] ++ toBytes 4 0 ++ toBytes 8 c.stamp.toNat)
  let off := decide (3 ≤ recent.length) || decide (c.sec.sealState = .disabled)
  let c := c.onSec fun s =>
    { s with slots := 0, slotUses := [], sealQ := [], alarms := recent, lastAlarm := last,
             sealState := if off then .disabled else .recovering }
  (c.vendorRecord .failure 0x0502 0x8020 6).bump 0x8020 3

/-- SEAL_ALARM: in compatibility mode a parity error is no alarm (12 R337, R338). -/
def execSealAlarm (e : SealEvent) (s : State) : Host.Outcome State Fault Refusal :=
  s.onChip fun c => if c.sec.sealMode && e = .parity then c.sealParity else c.sealAlarm e

/-- SEAL_PARITY_FAULT: in native mode a parity error is an alarm (12 R337, R338). -/
def execSealParityFault (s : State) : Host.Outcome State Fault Refusal :=
  s.onChip fun c => if c.sec.sealMode then c.sealParity else c.sealAlarm .parity

/-- SEAL_RECOVER: 1 s after an alarm slot 0 is derived again, and the twin link's requester opens a new session
for slot 2 (12 R331, R337). -/
def execSealRecover (s : State) : Host.Outcome State Fault Refusal :=
  s.onChip fun c =>
    if c.sec.sealState != .recovering then c
    else
      let c := c.onSec fun x => { x with sealState := .ready, slots := x.slots ||| 1 }
      if c.linkReady && decide (c.id.serial.toNat < c.twin.twinSerial.toNat) then c.emit (.spdm none "KEY_EXCHANGE" []) else c

/-- The right passphrase of its kind was given (12 R343); `none` where none is set. -/
def passOk (stored : Option (BitVec 256)) (given : BitVec 256) : Bool :=
  match stored with
  | none => true
  | some p => p == given

/-- A wrong passphrase counts (12 R344). -/
def Chip.wrongPass (c : Chip) (master : Bool) : Chip :=
  c.onSec fun s => if master then { s with masterTries := s.masterTries + 1 } else { s with userTries := s.userTries + 1 }

/-- A passphrase command checks the passphrase of its kind: refused while frozen or after five wrong
attempts (12 R344); true with the command done. -/
def Chip.withPass (c : Chip) (master : Bool) (given : BitVec 256) (f : Chip → Chip) : Bool × Chip :=
  let stored := if master then c.sec.masterPass else c.sec.userPass
  let tries := if master then c.sec.masterTries else c.sec.userTries
  if c.sec.frozen || 5 ≤ tries then (false, c)
  else if passOk stored given then (true, f c)
  else (false, c.wrongPass master)

/-- The keys lie in the lanes; with a user passphrase set its KEK lies in slot 1 (12 R326, Table 12-5). -/
def Chip.setUserPass (c : Chip) (p : Option (BitVec 256)) : Chip :=
  c.onSec fun s => { s with userPass := p, slots := if p.isSome then s.slots ||| 2 else s.slots &&& ~~~ 2 }

/-- Set Passphrase (12 R344). A Locked chip cannot wrap its keys again, and key changes fail while the engine
is disabled (12 R337). -/
def Chip.setPassphrase (c : Chip) (master : Bool) (current new : BitVec 256) : Bool × Chip :=
  if c.sec.locked || c.sec.sealState = .disabled then (false, c)
  else c.withPass master current fun c => if master then c.onSec fun s => { s with masterPass := some new } else c.setUserPass (some new)

/-- Disable Passphrase (12 R344): of a passphrase that is set. -/
def Chip.disablePassphrase (c : Chip) (master : Bool) (current : BitVec 256) : Bool × Chip :=
  if c.sec.locked || (if master then c.sec.masterPass else c.sec.userPass).isNone || c.sec.sealState = .disabled then (false, c)
  else c.withPass master current fun c => if master then c.onSec fun s => { s with masterPass := none } else c.setUserPass none

/-- In PAIRED the partner runs the same steps, and the command completes only when both have done so (12 R328). -/
def Chip.peerErase (c : Chip) (san : Bool) : Chip :=
  if c.paired then (c.sendTwin (.tableUpdate (.secureErase san))).onSec fun s => { s with peerErasing := true } else c

/-- In ALONE an erase clears the recorded twin (12 R328): nothing is known of a lost chip or a split any more. -/
def Chip.forgetTwin (c : Chip) : Chip :=
  if c.twin.state = .alone then
    ((c.onTwin fun t => { t with twinSerial := 0, lostChip := false, splitSince := false }).pairRecord).setPair .unpaired
  else c

/-- Secure Erase on this chip and its partner (12 R328). -/
def Chip.secureEraseAll (c : Chip) : Chip :=
  (c.peerErase false).secureErase.forgetTwin

/-- Passphrase Secure Erase with the user or the master passphrase (12 R344); `none` where the pair state
answers Busy (12 R328). -/
def Chip.passphraseErase (c : Chip) (master : Bool) (current : BitVec 256) : Bool × Chip :=
  if (if master then c.sec.masterPass else c.sec.userPass).isNone then (false, c)
  else c.withPass master current fun c =>
    let c := c.secureEraseAll.setUserPass none
    c.onSec fun s => { s with locked := false }

/-- Secure Erase and Sanitize are refused while a user passphrase is set or the state is frozen (12 R328). -/
def Chip.eraseDenied (c : Chip) : Bool := c.sec.userPass.isSome || c.sec.frozen

/-- They return Busy in SPLIT, REJOINING and FENCED (12 R328), and while one runs. -/
def Chip.eraseBusy (c : Chip) : Bool :=
  (match c.twin.state with | .split | .rejoining | .fenced => true | _ => false) || c.sec.sanitizing || c.sec.peerErasing

/-- Overwrite a range of whole ledger pages with zeros. -/
def Chip.zeroPages (c : Chip) (addr n : Nat) : Chip :=
  (List.range (n / 256)).foldl (fun (c : Chip) (i : Nat) => c.pageDone { cls := .system, addr := addr + 256 * i, bytes := List.replicate 256 0 }) c

/-- Place of the RTV progress record (15 R389). -/
def rtvRec : RecordAt := { a := 0xA0200, b := 0xA0300, size := 8 }

/-- Record a step of the return-to-vendor sequence (12 R347). -/
def Chip.rtvDone (c : Chip) (n : Nat) : Chip :=
  let c := c.onSec fun s => { s with rtvStep := n }
  let (addr, seq) := nextCopy c.ledger.cells c.ledger.bad rtvRec
  if c.ledger.failed then c else c.pageNow addr (slotBytes (toBytes 8 n) seq)

/-- Step `n` of the return-to-vendor erase (12 R347). -/
def Chip.rtvStep (c : Chip) (n : Nat) : Chip :=
  match n with
  | 1 =>
    let c := if c.paired && c.wit.registered then (c.sendWitness 6).setLease .released else c
    c.twinDown.disableHeads
  | 2 =>
    let c := c.onSec fun s => { s with tags := [], internalKey := 0, slots := 0, slotUses := [], sealQ := [], twinSession := false }
    let c := c.onWit fun w => { w with keySet := false }
    let c := { c with heads := c.heads.map (fun (d : Head) => { d with ideOn := false, ideRx := {}, ideTx := {}, sessions := [] }) }
    c.onTwin fun t => { t with keyed := false }
  | 3 =>
    let c := (c.zeroPages 0x180000 0x40000).onSec fun s => { s with durableTags := [], userPass := none, masterPass := none, locked := false }
    let c := c.onRing fun r => { r with keyOp := none, keyCust := none }
    c.onLedger fun l => { l with passwords := Vector.replicate 4 none }
  | 4 =>
    let c := c.eraseContents
    let c := (c.onTwin fun t => { t with position := false, twinSerial := 0, epoch := 0 }).pairRecord
    c.setPair .unpaired
  | 5 => (c.zeroPages 0x400000 0xC0000).zeroPages 0x6C0000 0x100000
  | 6 => c.onCache fun k => { k with frames := k.frames.filter (fun p => decide (p.2.kind = .scratch)), lines := [] }
  | _ => c.onSec fun s => { s with rtvState := 2, jtagOpen := true }

/-- Run the steps after `n` (12 R347): from a verified response on, or resumed at a start. -/
def Chip.rtvRun (c : Chip) (n : Nat) : Chip :=
  ((List.range 7).filter (fun i => decide (n ≤ i))).foldl (fun (c : Chip) (i : Nat) => (c.rtvStep (i + 1)).rtvDone (i + 1)) c

/-- Draw the return-to-vendor nonce (12 R346). -/
def Chip.rtvDraw (c : Chip) : Chip :=
  let (v, c) := c.drawRandom
  c.onSec fun s => { s with rtvNonce := BitVec.ofNat 256 v }

/-- RTV_CHALLENGE as read: the chip serial and a fresh nonce (12 R346). -/
def Chip.rtvChallenge (c : Chip) : List Byte × Chip :=
  let c := c.rtvDraw
  (toBytes 8 c.id.serial.toNat ++ toBytes 32 c.sec.rtvNonce.toNat, c)

/-- The action of RTV_RESPONSE (12 R346, R347). -/
def Chip.rtvResponse (c : Chip) (ok : Bool) : Nat × Chip :=
  if ok then (0, (c.onSec fun s => { s with rtvState := 1 }).rtvRun 0) else (abAccessDenied, c.rtvDraw)

end Sys2Proof.Machine
end

