-- ==== Sys2Proof/Machine/Update.lean ====
section
/-! DEFINITION. Firmware images, their transfer and verification, activation, confirmation and fall-back,
and the import, restore and export of the dictionary store (15 R389 to R401). -/

namespace Sys2Proof.Machine

/-- Ledger address of a firmware slot, true for FW_B (11 Table 11-1). -/
def slotBase (slot : Bool) : Nat := if slot then 0x1400000 else 0x800000

/-- A field of a slot's image header (Table 15-2), little-endian. -/
def Chip.hdrField (c : Chip) (slot : Bool) (off n : Nat) : Nat := ofBytes (c.ledger.cells.read (slotBase slot + off) n)

/-- IMAGE_LENGTH is within its range: 4,096 + 65,536 n with n from 1 to 191 (Table 15-2). -/
def lengthOk (n : Nat) : Bool := decide (4096 + 65536 ≤ n ∧ n ≤ 4096 + 65536 * 191 ∧ (n - 4096) % 65536 = 0)

/-- What a complete header fails on, as 9010:06 codes it: 3 header, 6 part, 4 signature, 0 none
(15 R389, R398). -/
def Chip.headerFault (c : Chip) (slot sigOk : Bool) : Nat :=
  if c.hdrField slot 0 4 ≠ 0x46584C4B || c.hdrField slot 4 2 ≠ 1 || !lengthOk (c.hdrField slot 16 4) then 3
  else if !bit (c.hdrField slot 6 1) c.id.part.code then 6
  else if !sigOk then 4
  else 0

/-- The image that a slot's header describes. -/
def Chip.headerImage (c : Chip) (slot : Bool) : Image :=
  { present := true, parts := BitVec.ofNat 3 (c.hdrField slot 6 1), version := BitVec.ofNat 32 (c.hdrField slot 8 4),
    sec := c.hdrField slot 12 4, length := c.hdrField slot 16 4, format := c.hdrField slot 20 2, formatMin := c.hdrField slot 22 2,
    proto := c.hdrField slot 24 4, hash := BitVec.ofNat 96 (c.hdrField slot 32 12) }

/-- BODY_SHA256 matches the body (15 R389). -/
def Chip.bodyOk (c : Chip) (slot : Bool) : Bool :=
  let body := c.ledger.cells.read (slotBase slot + 4096) (c.hdrField slot 16 4 - 4096)
  (toBytes 32 (sha256 body).toNat).reverse == c.ledger.cells.read (slotBase slot + 32) 32

/-- A slot's image is valid: its header and body checked, and its security version is at least counter 3
(15 R389), and no word of it is unreadable (11 R320). -/
def Chip.slotValid (c : Chip) (slot : Bool) : Bool :=
  (c.imageOf slot).present && !wordBad c.ledger.bad (slotBase slot) (c.imageOf slot).length && (c.imageOf slot).parts.getLsbD c.id.part.code && decide (c.counter 3 ≤ (c.imageOf slot).sec)

/-- What the image in a slot fails on at the end of a transfer (15 R389): the header's faults, 5 body hash,
7 security version. -/
def Chip.imageFault (c : Chip) (slot sigOk : Bool) : Nat :=
  let h := c.headerFault slot sigOk
  if h ≠ 0 then h
  else if !c.bodyOk slot then 5
  else if c.hdrField slot 12 4 < c.counter 3 then 7
  else 0

/-- Block `b` of a slot matches its BLOCK_CRC (Table 15-2). -/
def Chip.blockOk (c : Chip) (slot : Bool) (b : Nat) : Bool :=
  decide (crc32 (c.ledger.cells.read (slotBase slot + 4096 + 65536 * b) 65536) = c.hdrField slot (64 + 4 * b) 4)

/-- A target slot is refused: ACTIVE, or PREVIOUS while STATE is PENDING or PROBATION (15 R398). -/
def Chip.slotRefused (c : Chip) (slot : Bool) : Bool :=
  let r := c.boot.record
  decide (r.active = slot) || (decide (r.state ≠ .confirmed) && decide (r.previous = some slot))

/-- A transfer begins: the slot's former image is invalid (15 R398). -/
def Chip.beginUpload (c : Chip) (slot : Bool) (via : UpdPath) : Chip :=
  (c.onImage slot fun _ => {}).onBoot fun b => { b with upload := some { slot := slot, via := via, next := 0 }, updState := 1, updError := 0 }

/-- A transfer ends without an image: UPD_STATE 4 with its cause. -/
def Chip.failUpload (c : Chip) (err : Nat) : Chip := c.onBoot fun b => { b with upload := none, updState := 4, updError := err }

/-- A transfer is abandoned (15 R397, R398). -/
def Chip.dropUpload (c : Chip) (err : Nat) : Chip := c.onBoot fun b => { b with upload := none, updState := 0, updError := err }

/-- Store the next piece of a transfer: its bytes go to the slot; a complete header is checked, and each
block that is complete. The answer is 9010:06's code, 0 for none: a bad header ends the transfer, a bad
block takes it back to the block's start (15 R398). -/
def Chip.loadPiece (c : Chip) (u : Upload) (data : List Byte) (sigOk : Bool) : Nat × Chip :=
  let next := u.next + data.length
  let header := decide (u.next < 4096 ∧ 4096 ≤ next)
  let limit := if u.next < 4096 then 4096 + 65536 * 191 else c.hdrField u.slot 16 4
  if limit < next then (1, c.onBoot fun b => { b with updError := 1 })
  else
    let c := c.pageNow (slotBase u.slot + u.next) data
    let fault := if header then c.headerFault u.slot sigOk else 0
    if fault ≠ 0 then (fault, c.failUpload fault)
    else
      let full (n : Nat) : Nat := (n - 4096) / 65536
      match ((List.range (full next)).filter (fun b => decide (full u.next ≤ b))).find? (fun b => !c.blockOk u.slot b) with
      | some b => (2, c.onBoot fun x => { x with upload := some { u with next := 4096 + 65536 * b }, updError := 2 })
      | none => (0, c.onBoot fun x => { x with upload := some { u with next := next } })

/-- End a transfer and verify the image (15 R389, R398): 9010:06's code, 0 for a verified image. -/
def Chip.endUpload (c : Chip) (u : Upload) (sigOk : Bool) : Nat × Chip :=
  let fault := c.imageFault u.slot sigOk
  if fault ≠ 0 then (fault, c.failUpload fault)
  else (0, (c.onImage u.slot fun _ => c.headerImage u.slot).onBoot fun b => { b with upload := none, updState := 3, updError := 0 })

/-- The action of UPD_BLOCK (15 R398): OFFSET, LENGTH, CRC-32, pad and the data. -/
def Chip.updBlock (c : Chip) (slot : Nat) (bytes : List Byte) (sigOk : Bool) : Nat × Chip :=
  let off := ofBytes (bytes.take 4); let len := ofBytes ((bytes.drop 4).take 4); let crc := ofBytes ((bytes.drop 8).take 4)
  let data := ((bytes.drop 16).take 4096).take len
  if c.ledger.failed then (abHardware, c)
  else if 1 < slot || len = 0 || 4096 < len || off % 4096 ≠ 0 || crc32 data ≠ crc then (abRange, c)
  else
    let s := decide (slot = 1)
    let start : Option Chip := match c.boot.upload with
      | some u => if u.via = .dict && u.slot = s then some c else none
      | none => if off = 0 && !c.slotRefused s then some (c.beginUpload s .dict) else none
    match start with
    | none => (abConflict, if c.boot.upload.isNone then c.onBoot fun b => { b with updError := if c.slotRefused s then 8 else 1 } else c)
    | some c =>
      match c.boot.upload with
      | none => (abConflict, c)
      | some u =>
        if off ≠ u.next then (abConflict, c.onBoot fun b => { b with updError := 1 })
        else
          let (e, c) := c.loadPiece u data sigOk
          (if e = 0 then 0 else if e = 1 then abConflict else abRange, c)

/-- The action of UPD_END (15 R398): 1 ends and verifies, 2 abandons. -/
def Chip.updEnd (c : Chip) (v : Nat) (sigOk : Bool) : Nat × Chip :=
  match c.boot.upload with
  | some u =>
    if u.via != .dict then (abConflict, c)
    else if v = 2 then (0, c.dropUpload 0)
    else
      let (e, c) := c.endUpload u sigOk
      (if e = 0 then 0 else abConflict, c)
  | none => (abConflict, c)

/-- UPD_IDLE_TIMEOUT: idle for 60 s (15 R398). -/
def execUpdIdleTimeout (s : State) : Host.Outcome State Fault Refusal :=
  s.onChip fun c => match c.boot.upload with
    | some u => if u.via = .recovery then c else c.dropUpload 9
    | none => c

/-- Why an activation is refused (15 R399): 0 not at all, 1 slot not verified, 2 a chip is PENDING or
PROBATION, 3 the twin protocol differs. -/
def Chip.activateFault (c : Chip) (slot : Nat) : Nat :=
  let s := decide (slot = 1)
  if 1 < slot || !c.slotValid s then 1
  else if c.boot.record.state != .confirmed || (c.paired && (c.twin.partnerBoot = 1 || c.twin.partnerBoot = 2)) then 2
  else if c.paired && decide ((c.imageOf s).proto ≠ c.twin.peerProto) && c.vol 0x9030 3 0 ≠ 1 then 3
  else 0

/-- Activate an image: PENDING for the next device reset (15 R399). -/
def Chip.activate (c : Chip) (slot : Bool) : Chip :=
  let r := c.boot.record
  c.setBoot { r with previous := some r.active, active := slot, state := .pending, activated := c.stamp.toNat }

/-- The action of FW_ACTIVATE (15 R399). -/
def Chip.fwActivate (c : Chip) (slot : Nat) : Nat × Chip :=
  if c.ledger.failed then (abHardware, c)
  else if 1 < slot then (abRange, c)
  else if c.activateFault slot ≠ 0 then (abConflict, c)
  else (0, c.activate (decide (slot = 1)))

/-- Raise counter 3 towards a value, one increment at a time (15 R393, R400). -/
def Chip.raiseSec (c : Chip) : Nat → Chip
  | 0 => c
  | n + 1 => if c.counter 3 < c.image.sec then (c.countNow 3).raiseSec n else c

/-- Raise counter 3 to SEC_VERSION of the active image, if it is lower. -/
def Chip.raiseCounter3 (c : Chip) : Chip := c.raiseSec (c.image.sec - c.counter 3)

/-- Confirm the image in probation (15 R400). DEDUCED (notes/assumptions/93.md): FELL_BACK clears too, because FW_BOOT_STATE then reads 0 (Table 15-8
step 6). -/
def Chip.confirm (c : Chip) : Chip :=
  let c := c.setBoot { c.boot.record with state := .confirmed, previous := none, oldRegion := none, unclean := false, fellBack := false }
  (c.onBoot fun b => { b with oldFormat := 0, oldStored := [] }).raiseCounter3

/-- The action of FW_CONFIRM: while in service, of an image in probation (15 R400). -/
def Chip.fwConfirm (c : Chip) : Nat × Chip :=
  if c.ledger.failed then (abHardware, c)
  else if !c.inService || c.boot.record.state != .probation then (abConflict, c)
  else (0, c.confirm)

/-- The action of FW_REVERT: the next start falls back, where there is a slot to fall back to (15 R400). -/
def Chip.fwRevert (c : Chip) : Nat × Chip :=
  if c.boot.record.previous.isNone then (abConflict, c) else (0, c.onBoot fun b => { b with revert := true })

/-- The conditions under which an image in probation confirms itself (15 R400), but for the time in
service. -/
def Chip.maySelfConfirm (c : Chip) : Bool :=
  c.inService && decide (c.boot.record.state = .probation) && !c.boot.coreRestarted &&
    (decide (c.twin.twinSerial = 0) || (c.paired && c.med.stale.isEmpty && c.wit.rehearsalPassed))

/-- PROBATION_ELAPSED: PROBATION_TIME in service since the start (15 R400). -/
def execProbationElapsed (s : State) : Host.Outcome State Fault Refusal :=
  s.onChip fun c =>
    if c.maySelfConfirm && !c.ledger.failed &&
        decide (c.par 0x9000 5 600000000000 ≤ 40 * (c.clk.ticks - c.boot.inServiceAt)) then c.confirm else c

/-- PROBATION_START_TIMEOUT: 60 s from leaving reset without service, waits with BOOT_STAGE 7 to 10 apart: the
main domain is reset with UNCLEAN left set (15 R401). -/
def execProbationStartTimeout (s : State) : Host.Outcome State Fault Refusal :=
  s.onChip fun c =>
    if c.boot.record.state != .probation || !c.boot.romDone || !c.boot.mainOut || c.inService || decide (7 ≤ c.boot.stage ∧ c.boot.stage ≤ 10) ||
      c.pwr.state != .on then c
    else c.mainReset.leaveReset

/-- The action of RECOVERY_CMD (15 R390). -/
def Chip.recoveryCmd (c : Chip) : Nat × Chip :=
  if c.ledger.failed then (abHardware, c) else (0, c.setBoot { c.boot.record with recovery := true })

/-- The entries of a store body (Table 15-6), as key, type code, size and value. -/
def storeEntries (b : List Byte) : Nat → List (Nat × Nat × Nat × Nat)
  | 0 => []
  | fuel + 1 =>
    if b.length < 8 then []
    else
      let n := ofBytes ((b.drop 4).take 2)
      (dictKey (ofBytes (b.take 2)) (ofBytes ((b.drop 2).take 1)), ofBytes ((b.drop 3).take 1), n, ofBytes ((b.drop 8).take n)) ::
        storeEntries (b.drop (8 + 4 * ((n + 3) / 4))) fuel

/-- The entry exists here, on this part, persistent, with the same type and size (15 R395). -/
def Chip.takesEntry (c : Chip) (e : Nat × Nat × Nat × Nat) : Bool :=
  match dictRow (e.1 / 256) (e.1 % 256) with
  | some r => r.persistent && decide (r.type.code = e.2.1 ∧ r.type.size = e.2.2.1) && !fusedOff c.id.part (e.1 / 256) (e.1 % 256)
  | none => false

/-- A store body whose MAGIC and lengths fit, as its format and its entries; `none` otherwise. -/
def storeParse (b : List Byte) : Option (Nat × List (Nat × Nat × Nat × Nat)) :=
  let count := ofBytes ((b.drop 8).take 4)
  if ofBytes (b.take 4) ≠ 0x3953444B || ofBytes ((b.drop 12).take 4) ≠ b.length then none
  else
    let es := storeEntries (b.drop 32) count
    if es.length = count then some (ofBytes ((b.drop 4).take 2), es) else none

/-- The entries of another store that this device takes, added to a store (15 R395). -/
def Chip.takenInto (c : Chip) (es : List (Nat × Nat × Nat × Nat)) (into : SMap Nat) : SMap Nat :=
  (es.filter c.takesEntry).foldl (fun (m : SMap Nat) e => m.put e.1 e.2.2.2) into

/-- STORE_EXPORT as read: the current body, as long as its entries (15 R395). -/
def Chip.storeExport (c : Chip) : List Byte := c.storeBody c.ring.stored

end Sys2Proof.Machine
end

