-- ==== Sys2Proof/Machine/BootRows.lean ====
section
/-! DEFINITION. The stages of a start: boot ROM, training, load, pair stage and entry into service; ROM
recovery mode and its downloads (15 R386 to R397). -/

namespace Sys2Proof.Machine

/-- A start stops with a row of Table 15-5; the heads report Media Status Error. -/
def Chip.stopStart (c : Chip) (cause : Nat) : Chip :=
  let c := c.onBoot fun b => { b with stage := 15, stopCause := cause }
  { c with heads := c.heads.map (fun (d : Head) => { d with media := .error }) }

/-- A boot stage ends at the present time; the next begins. -/
def Chip.nextStage (c : Chip) (done : Fin 6) (next : Nat) : Chip :=
  c.onBoot fun b => { b with stage := next, stageEnds := b.stageEnds.set done.val ((c.now - 40 * b.startAt) / 1000) done.isLt }

/-- The boot record as it reads: without a valid copy, ACTIVE is the valid slot with the higher version
(Table 15-3). -/
def Chip.bootRecord (c : Chip) : BootRec :=
  match readRecord c.ledger.cells c.ledger.bad bootRecAt with
  | some _ => c.boot.record
  | none =>
    let a := c.slotValid false; let b := c.slotValid true
    { active := if a && b then decide ((c.imageOf false).version.toNat < (c.imageOf true).version.toNat) else b }

/-- A fall-back, in one boot record (15 R390). -/
def BootRec.fallBack (r : BootRec) : BootRec :=
  { r with active := r.previous.getD r.active, previous := none, state := .confirmed, fellBack := true, unclean := false,
           region := r.oldRegion.getD r.region, oldRegion := none }

/-- ROM recovery mode: only the boot ROM runs, and the heads train (15 R396). -/
def Chip.enterRom (c : Chip) (cause : Nat) : Chip :=
  let c := c.onBoot fun b => { b with rom := true, stopCause := cause, revert := false }
  c.presentHeads.foldl (fun c h =>
    if !(c.head h).perst && (c.head h).link = .detect then c.onHead h fun d => { d with link := .training } else c) c

/-- What the boot ROM selects (15 R390): the record, and the slot to load, or none for ROM recovery mode. -/
def Chip.romSelect (c : Chip) : BootRec × Option Bool :=
  let r := c.bootRecord
  if r.recovery || (!c.slotValid false && !c.slotValid true) then ({ r with recovery := false }, none)
  else
    let r := if r.state = .pending then { r with state := .probation, attempts := 0, unclean := false } else r
    let back (r : BootRec) : BootRec × Option Bool :=
      match r.previous with
      | some p => if c.slotValid p then (r.fallBack, some p) else (r, none)
      | none => (r, none)
    if r.state = .probation then
      let r := if r.unclean then { r with attempts := r.attempts + 1 } else r
      if c.par 0x9000 4 3 ≤ r.attempts || !c.slotValid r.active || c.boot.revert then back r
      else ({ r with unclean := true }, some r.active)
    else if !c.slotValid r.active then ({ r with active := !r.active, fellBack := true }, some (!r.active))
    else (r, some r.active)

/-- The medium minute count at a start (06 R193; 11 R306): the minute record, or the wrap record's MINUTES
and one. -/
def Chip.resumeMinute (c : Chip) : Nat :=
  match readRecord c.ledger.cells c.ledger.bad minuteRec with
  | some b => ofBytes (b.take 4)
  | none => match readRecord c.ledger.cells c.ledger.bad wrapRec with
    | some b => ofBytes ((b.drop 24).take 4) + 1
    | none => 0

/-- The flags of the newest barometer record of the event log (14 R382). -/
def Chip.lastBarometer (c : Chip) : BitVec 64 :=
  match c.ledger.evtRing.reverse.find? (fun p => match p.2.body with | .vendor code _ _ _ _ => decide (code = 1) | _ => false) with
  | some p => (match p.2.body with | .vendor _ _ _ b _ => b | _ => 0)
  | none => 0

/-- The boot ROM loads the image (15 R390; 12 R326, R334, R339, R340, R346): keys are unwrapped, slot 0
holds the device KEK, a fresh nonce is drawn; an erase that was cut off runs its remaining steps
(12 R347), and the start stops there. -/
def Chip.romLoad (c : Chip) : Chip :=
  let c := (c.onSec fun s => { s with slots := 1, deviceId := true }).rtvDraw
  let c := c.onMed fun m => { m with minute := c.resumeMinute }
  let c := c.onBoot fun b => { b with romDone := true, rom := false, revert := false, lastBoot := c.lastBarometer }
  if 0 < c.sec.rtvStep && c.sec.rtvStep < 7 then
    (c.nextStage 1 9).rtvRun c.sec.rtvStep
  else c.nextStage 1 3

/-- The remap table has a copy without an unreadable word (11 R305, R320). -/
def Chip.remapOk (c : Chip) : Bool := !(wordBad c.ledger.bad remapRec.a (remapRec.size + 8) && wordBad c.ledger.bad remapRec.b (remapRec.size + 8))

/-- BOOT_ROM_SELECT (15 R390, Table 15-5). -/
def execBootRomSelect (s : State) : Host.Outcome State Fault Refusal :=
  s.onChip fun c =>
    if c.boot.stage != 2 || !c.boot.mainOut || c.boot.rom || c.boot.romDone || c.pwr.state != .on then c
    else if c.ledger.failed then c.enterRom 2
    else
      let (r, load) := c.romSelect
      let back := r.fellBack && r.previous.isNone && c.boot.record.oldRegion.isSome && r.oldRegion.isNone && load.isSome
      let c := if back then
          (c.onBoot fun b => { b with storeFormat := b.oldFormat, oldFormat := 0, oldStored := [] }).onRing fun x => { x with stored := c.boot.oldStored }
        else c
      let c := c.setBoot r
      match load with
      | none => c.enterRom 1
      | some _ => if c.remapOk then c.romLoad else (c.onBoot fun b => { b with romDone := true }).stopStart 3

/-- A group's state from its trained channels at a start (06 R177, R180, R188): with one member missing or not a MEMBER it becomes
DEGRADED, which raises its Warning (R187), and a membership other than the last raises its epoch. DESIGN CHOICE
(notes/assumptions/106.md): a group of whose modules none has a matching stamp is EMPTY, whether or not all nine are blank.
One that was being initialised goes on with it, and an evacuated one stays EMPTY (16 R405). -/
def Chip.groupAtStart (c : Chip) (g : Nat) : Chip :=
  let members := (List.range 9).filter (fun m => decide ((c.chan (memberChan g m)).state = .member))
  let absent := (List.range 9).find? (fun m => !members.contains m)
  match (c.group g).state with
  | .initialising => c
  | _ =>
    if (c.group g).evacuated then c
    else if members.length = 9 then c.onGroup g fun x => { x with state := .healthy, missing := none }
    else if members.length = 8 then
      match absent with
      | some m =>
        let same := decide ((c.group g).state = .degraded ∧ (c.group g).missing = some m)
        let c := c.degrade g m
        if same then c else c.newEpoch g none
      | none => c
    else if members.length = 0 then c.onGroup g fun x => { x with state := .empty, missing := none }
    else c.onGroup g fun x => { x with state := .failed, missing := none }

/-- The load stage starts once the published budget suffices (10 R292; 15 R386). -/
def Chip.toLoad (c : Chip) : Chip :=
  if c.squallExitBytes ≤ c.res.published then c.nextStage 2 4 else c.onBoot fun b => { b with stage := 7 }

/-- TRAIN_STAGE_DONE: HBM training, GMI training and the first probe have ended; with too small a budget the
start waits at BOOT_STAGE 7 (15 R386). -/
def execTrainStageDone (s : State) : Host.Outcome State Fault Refusal :=
  s.onChip fun c =>
    if c.boot.stage = 7 then c.toLoad
    else if c.boot.stage != 3 || !c.boot.hbmDone || c.med.ch.toList.any (fun x => decide (x.state = .powering ∨ x.state = .training)) then c
    else (c.groupNos.foldl (fun c g => c.groupAtStart g) c).toLoad

/-- The newest valid wrap record: its STATE and DSC (Table 10-9). -/
def Chip.wrapStored (c : Chip) : Option (Nat × Nat) :=
  (readRecord c.ledger.cells c.ledger.bad wrapRec).map fun b => (ofBytes (b.take 1), ofBytes ((b.drop 4).take 4))

/-- The dictionary store of STORE_REGION as the image reads it (15 R394): its values, a conversion into the
other region, or the defaults. -/
def Chip.loadStore (c : Chip) : Chip :=
  let img := c.image; let b := c.boot
  let c := if b.unread then c.onRing fun r => { r with stored := b.oldStored } else c
  let vals := c.ring.stored
  if !b.storeValid then (c.onRing fun r => { r with stored := [] }).onBoot fun b => { b with storeDefaults := true }
  else if img.formatMin ≤ b.storeFormat && b.storeFormat ≤ img.format then
    let c := c.onBoot fun b => { b with storeDefaults := false, unread := false }
    if b.storeFormat = img.format || c.ledger.failed then c
    else
      let c := c.writeStore (!b.record.region) (c.storeBody vals)
      let c := c.onBoot fun x => { x with oldFormat := b.storeFormat, oldStored := vals }
      c.setBoot { c.boot.record with region := !b.record.region, oldRegion := some b.record.region }
  else
    (c.onRing fun r => { r with stored := [] }).onBoot fun b => { b with storeDefaults := true, unread := true, oldStored := vals }

/-- R301 and R44 at a start (10 R301): the record and the count of a shutdown that no WRAPPED record
closes. -/
def Chip.dirtyStart (c : Chip) : Chip :=
  let c := c.onTwin fun t => { t with noWrap := true }
  let n := c.counter 0
  let c := match c.wrapStored with
    | none => c.wrapRecord .system 3 0
    | some _ => c
  if (match c.wrapStored with | some (_, d) => decide (d = n) | none => true) then
    (c.countUp 0).record .fatal (.memModule 1 (n + 1))
  else c

/-- Place poison marks on a segment of the last persisted dirty map (01 R44; 07 R214). -/
def Chip.poisonSeg (c : Chip) (seg : Nat) : Chip :=
  match c.med.slots.find (segGran seg) with
  | none => c
  | some p =>
    let key := c.segKeyId seg
    let c := (c.setMap (segKey p seg) (BitVec.allOnes 64)).onMed fun m =>
      { m with medMap := m.medMap.put (segKey p seg) (BitVec.allOnes 64),
               lines := (List.range 64).foldl (fun (l : SMap MedLine) n =>
                 let old : MedLine := l.getD (medKey p seg n) { key := key }
                 l.put (medKey p seg n) { old with poison := true }) m.lines,
               recs := m.recs.upd (slotKey p) {} fun r => { r with state := if r.state = 1 then 1 else 2 } }
    (List.range 64).foldl (fun (c : Chip) (n : Nat) => c.listPoison (64 * seg + n) 1) c

/-- A line of this chip carries a mark on the medium. -/
def Chip.markedOnMedium (c : Chip) (line : Nat) : Bool :=
  match c.med.slots.find (lineGran line) with
  | some p => ((c.med.lines.find (medKey p (lineSeg line) (lineSector line))).map (·.poison)).getD false
  | none => false

/-- The check of the poison list against the marks (07 R217). -/
def Chip.checkPoison (c : Chip) : Chip :=
  let keep (q : Poison) : List Poison :=
    ((List.range q.len).filter (fun k => c.markedOnMedium (q.line + k))).map (fun k => { line := q.line + k, len := 1, src := q.src })
  c.onInteg fun i => { i with poison := i.poison.flatMap (fun q =>
    if (keep q).length = q.len then [q] else keep q) }

/-- The durable poison records on pages without an unreadable word; those of other pages come back from their marks
(11 R320, 07 R217). -/
def Chip.poisonStored (c : Chip) : List Poison :=
  let lost := (List.range 256).filter (fun k => wordBad c.ledger.bad (0x4C0000 + 256 * k) 256)
  if lost.isEmpty then c.integ.durable
  else (c.integ.durable.zipIdx.filter (fun p => !lost.contains (p.2 / 16))).map Prod.fst

/-- LOAD_STAGE (Table 15-4): the ledger, the wrap record, the tables, a recorded Sanitize, R44 and the poison
list; a table block with no copy that decodes stops the start. `ue`: the ledger words found unreadable (11 R320). -/
def execLoadStage (tableOk : Bool) (ue : List (BitVec 22)) (s : State) : Host.Outcome State Fault Refusal :=
  s.onChip fun c =>
    if c.boot.stage = 8 then (if c.sec.sanitizing then c else c.nextStage 3 5)
    else if c.boot.stage != 4 then c
    else
      let c := ((c.unreadable (ue.map BitVec.toNat)).bump 0x7050 6 ue.length).loadStore
      let pair := c.pairStored
      let c := c.onTwin fun t => { t with recordLost := !pair.2.2.2 }
      let c := (c.onInteg fun i => { i with poison := c.poisonStored }).onWit fun w => { w with seqHigh := c.counter 2 }
      let c := c.onBoot fun b => { b with shutdownAt := (readRecord c.ledger.cells c.ledger.bad wrapRec).map (fun x => ofBytes ((x.drop 16).take 8)) }
      let c := c.onBoot fun b => { b with shutdown := match readRecord c.ledger.cells c.ledger.bad shutdownRec with | some x => BitVec.ofNat 8 (ofBytes (x.take 1)) | none => 0 }
      let c := c.onLedger fun l => { l with refreshPage := match readRecord l.cells l.bad refreshRec with | some x => ofBytes (x.take 4) | none => 0 }
      let clean := match c.wrapStored with | some (st, _) => decide (st = 2) | none => false
      let c := if clean then c.onTwin fun t => { t with noWrap := false } else c.dirtyStart
      if !tableOk then c.stopStart 5
      else if c.sec.sanitizing then (c.sanitize).onBoot fun b => { b with stage := 8 }
      else
        let c := if clean then c else c.med.dirtyMap.foldl (fun c g => c.poisonSeg g) c
        c.checkPoison.nextStage 3 5

/-- The chip claims its place in the pair: counter 2 rises at every start (Table 11-4), REGISTER and HELLO go out (15 R392). -/
def Chip.pairWork (c : Chip) : Chip :=
  let c := c.countNow 2
  let c := c.onWit fun w => { w with seqHigh := c.counter 2, seqLow := 0 }
  if c.twin.twinSerial = 0 then c.rollbackJournal.endPairStage.greet else (c.sendWitness 1).greet

/-- PAIR_STAGE (15 R392): a Locked chip ends the stage and leaves its journal. -/
def execPairStage (s : State) : Host.Outcome State Fault Refusal :=
  s.onChip fun c => if c.boot.stage != 5 || !c.boot.romDone then c else if c.sec.locked then c.endPairStage else c.pairWork

/-- Renew the lease and claim against the recorded twin (15 R392 step 2). -/
def Chip.pairClaim (c : Chip) : Chip := (c.sendRenew false).sendClaim 2

/-- PAIR_STAGE_TIMEOUT: no formation or rejoin within 2 s (15 R392). -/
def execPairStageTimeout (s : State) : Host.Outcome State Fault Refusal :=
  s.onChip fun c =>
    if c.inPairStage && decide (c.boot.stage ≠ 10) && decide (c.twin.twinSerial ≠ 0) && !c.sec.locked then c.pairClaim else c

/-- CLAIM_DENIED_RETRY: every 1 s after a DENY (15 R392). -/
def execClaimDeniedRetry (s : State) : Host.Outcome State Fault Refusal :=
  s.onChip fun c =>
    if c.boot.stage = 10 then ((c.onTwin fun t => { t with helloSent := false }).greet).pairClaim else c

/-- After Unlock in service the chip runs the rest of the pair stage (12 R345; 15 R392). -/
def Chip.unlocked (c : Chip) : Chip := if c.inService then (c.onBoot fun b => { b with late := true }).pairWork else c

/-- Groups that start their initialisation at service (06 R180; 16 R405). -/
def Chip.blankGroups (c : Chip) : List Nat := c.groupNos.filter c.mayInit

/-- The registers that entry into service sets (15 R393): locked ways, the CDAT, BOOT_STAGE 0 and BOOT_TIME,
Media Status Ready and Memory_Active 1. -/
def Chip.serviceOn (c : Chip) : Chip :=
  let scratch := c.par 0x3000 2 0
  let c := c.onCache fun k => { k with waysScratch := scratch, waysPin := c.par 0x3000 3 0, budget := c.res.published }
  let c := (c.nextStage 5 0).onBoot fun b =>
    { b with cdatSeq := b.cdatSeq + 1, cdatScratch := scratch, inServiceAt := c.clk.ticks, bootTime := c.now - 40 * b.startAt }
  { c with heads := c.heads.map (fun (d : Head) => { d with media := .ready, memActive := true }) }

/-- What starts in the background at entry into service (15 R393): initialisation of blank groups, the rest of one that a reset
cut off (06 R180), and rebuild onto READY modules. -/
def Chip.serviceWork (c : Chip) : Chip :=
  let on := c.groupNos.filter (fun g => decide ((c.group g).state = .initialising))
  let c := on.foldl (fun c g => (c.dropOps g .initialisation).queueInit g (256 * (c.group g).cursor)) c
  let c := c.blankGroups.foldl (fun c g => c.startInit g) c
  (List.range (9 * c.id.part.groups)).foldl (fun c n => c.joinGroup n) c

/-- ENTRY_INTO_SERVICE: one step (15 R393); from now on the entry conditions of squall mode hold (04 R122). -/
def execEntryIntoService (s : State) : Host.Outcome State Fault Refusal :=
  s.onChip fun c =>
    if c.boot.stage != 6 || c.wrapping then c
    else
      let c := (((c.countNow 1).wrapRecord .system 1 0).serviceOn).serviceWork
      let c := if c.boot.record.state == .confirmed then c.raiseCounter3 else c
      c.offerAll.greet.evalSquall

/-- STATUS of the recovery service: CMD, SLOT, RESULT, OFFSET, SERIAL (Table 15-7). -/
def Chip.recStatus (c : Chip) (slot : Bool) (result : Nat) : Chip := c.emit (.recoveryStatus [5, boolNat slot, result, 0, c.id.serial.toNat])

/-- ACK of the recovery service: the next offset expected (Table 15-7). -/
def Chip.recAck (c : Chip) (slot : Bool) (off : Nat) : Chip := c.emit (.recoveryStatus [4, boolNat slot, 0, off, 0])

/-- RECOVERY_QUERY (15 R397): idle, receiving, or the ledger failed. -/
def execRecoveryQuery (s : State) : Host.Outcome State Fault Refusal :=
  s.onChip fun c =>
    if !c.boot.rom then c
    else match c.boot.upload with
      | some u => c.recStatus u.slot 1
      | none => c.recStatus false (if c.ledger.failed then 7 else 0)

/-- A download in ROM recovery mode may not target an ACTIVE valid image in state CONFIRMED (15 R397). -/
def Chip.recRefused (c : Chip) (slot : Bool) : Bool :=
  decide (c.boot.record.active = slot ∧ c.boot.record.state = .confirmed) && c.slotValid slot

/-- RECOVERY_DATA (15 R397): in order, 64 B at a time; a failing block is discarded and answered with its
start. -/
def execRecoveryData (slot : Bool) (off : Nat) (data : Line) (sigOk : Bool) (s : State) : Host.Outcome State Fault Refusal :=
  s.onChip fun c =>
    if !c.boot.rom then c
    else if c.ledger.failed then c.recStatus slot 7
    else
      let start : Option Chip := match c.boot.upload with
        | some u => if u.via = .recovery && u.slot = slot then some c else none
        | none => some (if off = 0 && !c.recRefused slot then c.beginUpload slot .recovery else c)
      match start with
      | none => c.recStatus slot 6
      | some c =>
        match c.boot.upload with
        | none => if c.recRefused slot then c.recStatus slot 5 else c.recAck slot 0
        | some u =>
          if off ≠ u.next then c.recAck slot u.next
          else
            let (e, c) := c.loadPiece u (entryBytes data) sigOk
            let next := match c.boot.upload with | some v => v.next | none => 0
            if e = 0 then c.recAck slot next
            else if e = 2 then (c.recStatus slot 3).recAck slot next
            else if e = 1 then c.recAck slot next
            else c.recStatus slot 4

/-- A download has verified: the boot record names its slot, and the main domain is reset with the rails on
(15 R397); `had` says that a valid image existed before. -/
def Chip.recCommit (c : Chip) (slot had : Bool) : Chip :=
  let r := c.boot.record
  let c := c.setBoot (if had then { r with previous := some r.active, active := slot, state := .pending } else { r with active := slot, state := .confirmed })
  c.mainReset.leaveReset

/-- RECOVERY_END (15 R397): STATUS 2 or 4. -/
def execRecoveryEnd (slot sigOk : Bool) (s : State) : Host.Outcome State Fault Refusal :=
  s.onChip fun c =>
    if !c.boot.rom then c
    else match c.boot.upload with
      | some u =>
        if u.via != .recovery || u.slot != slot then c.recStatus slot 6
        else
          let had := c.slotValid (!slot)
          let (e, c) := c.endUpload u sigOk
          if e = 0 then (c.recStatus slot 2).recCommit slot had else c.recStatus slot 4
      | none => c.recStatus slot (if c.ledger.failed then 7 else 0)

/-- RECOVERY_DOWNLOAD_TIMEOUT: 10 s without a frame (15 R397). -/
def execRecoveryDownloadTimeout (s : State) : Host.Outcome State Fault Refusal :=
  s.onChip fun c => match c.boot.upload with
    | some u => if c.boot.rom && u.via = .recovery then c.dropUpload 9 else c
    | none => c

end Sys2Proof.Machine
end

