-- ==== Sys2Proof/Machine/Service.lean ====
section
/-! DEFINITION. Work in service: cores that stop, restart and retire, isolation of heads, built-in tests
(01 R17, R45; 16 R403 to R413), and the barometer (14 R380 to R382). -/

namespace Sys2Proof.Machine

/-- Set the state of a core. -/
def Chip.setCore (c : Chip) (k : CoreNo) (s : CoreState) : Chip := { c with cores := c.cores.set k.val s k.isLt }

/-- The media cores M0 to M3 (14 R383). -/
def mediaCores : List CoreNo := [4, 5, 6, 7]

/-- The media core has a stripe group of its own on this part (01 R45). -/
def Part.ownsGroup (p : Part) (k : CoreNo) : Bool := decide (k.val - 4 < p.groups)

/-- Media cores that now hold a group beside or in place of their own (Table 01-3, 01 R45). -/
def Chip.adopters (c : Chip) : List CoreNo :=
  mediaCores.filter (fun k =>
    if c.id.part.ownsGroup k then decide (c.cores.get k = .adopted) else decide (c.cores.get k = .running))

/-- Pick one core of a list, by a free choice. -/
def Chip.pickCore (c : Chip) (l : List CoreNo) : Option CoreNo := l[c.nextChoice % l.length]?

/-- Give one group of a stopped media core to another: one that has held such a group already, then one
that stands by, then one that runs (Table 01-3, 01 R45). -/
def Chip.adoptGroup (c : Chip) (held : List CoreNo) : Chip :=
  let can (k : CoreNo) : Bool := match c.cores.get k with
    | .running => c.id.part.ownsGroup k
    | .standby => true
    | _ => false
  let first := held.filter can
  let second := mediaCores.filter (fun k => decide (c.cores.get k = .standby))
  let from_ := if first.isEmpty then (if second.isEmpty then mediaCores.filter can else second) else first
  match c.pickCore from_ with
  | none => c
  | some k => (c.setCore k (if c.id.part.ownsGroup k then .adopted else .running)).choose

/-- Share out the groups whose media cores are stopped or retired (Table 01-3). -/
def Chip.shareGroups (c : Chip) : Chip :=
  let held := c.adopters
  let down := mediaCores.countP (fun k => c.id.part.ownsGroup k && !c.coreRuns k)
  let c := mediaCores.foldl (fun (c : Chip) (k : CoreNo) =>
    if c.coreRuns k then c.setCore k (if c.id.part.ownsGroup k then .running else .standby) else c) c
  (List.range down).foldl (fun (c : Chip) (_ : Nat) => c.adoptGroup held) c

/-- The commands in flight on a placement core, which the spec leaves open (Table 01-3), but a DESTROY past its unmap
point: its siblings end it (02 R58). -/
def Chip.cmdsOn (c : Chip) (k : CoreNo) : List RunCmd :=
  c.obj.cmds.filter (fun r => r.result.isNone && !(opcodeOf r.entry = 0x02 && !r.waits) && decide (Config.commandCore c.cache.choice r.id % 4 = k.val))

/-- The work of a core passes to its siblings (Table 01-3): the commands of a placement core end RETRY, the
group of a media core is adopted; a twin core's partner goes on without a gap. -/
def Chip.passWork (c : Chip) (k : CoreNo) (s : CoreState) : Chip :=
  let mine := if k.val < 4 then c.cmdsOn k else []
  let c := (c.setCore k s).choose
  let c := mine.foldl (fun (c : Chip) (r : RunCmd) => c.stopCmd (some r.id) stRetry) c
  if 4 ≤ k.val ∧ k.val < 8 then c.shareGroups else c

/-- MG has restarted: every open transfer, the cache of outcomes and every result are lost (13 R360,
R370). -/
def Chip.mgRestarted (c : Chip) : Chip :=
  (c.onRing fun r => { r with transfers := [], closed := [] }).onObj fun o => { o with dictRes := [] }

/-- Core `k` takes up its work again. -/
def Chip.coreBack (c : Chip) (k : CoreNo) : Chip :=
  let c := c.setCore k (if 4 ≤ k.val ∧ k.val < 8 ∧ !c.id.part.ownsGroup k then .standby else .running)
  let c := if k = 10 then c.mgRestarted else c
  if 4 ≤ k.val ∧ k.val < 8 then c.shareGroups else c

/-- A takeover, handover or rejoin runs (16 R407). -/
def Chip.twinWork (c : Chip) : Bool :=
  (c.wit.claim.isSome && !c.wit.drill) || c.twin.hand != .idle || c.twin.handY || decide (c.twin.state = .rejoining)

/-- The cores of a list that are not retired, but `k`. -/
def Chip.remaining (c : Chip) (l : List CoreNo) (k : CoreNo) : Nat :=
  l.countP (fun x => decide (x ≠ k ∧ c.cores.get x ≠ .retired))

/-- The retirement of core `k` is refused (16 R407, R413). -/
def Chip.retireDenied (c : Chip) (k : CoreNo) : Bool :=
  if k.val < 4 then decide (c.remaining [0, 1, 2, 3] k < 2)
  else if k.val < 8 then decide (2 * c.remaining mediaCores k < c.id.part.groups)
  else if k.val < 10 then decide (c.remaining [8, 9] k = 0) || c.twinWork
  else true

/-- CORE_RETIRED (A110:02) as stored. -/
def Chip.retiredMask (c : Chip) : Nat := c.par 0xA110 2 0

/-- Retire a core: recorded in the ledger, its work passes to its siblings (16 R407). -/
def Chip.retireCore (c : Chip) (k : CoreNo) : Chip :=
  if c.cores.get k = .retired then c
  else (((c.persist 0xA110 2 (c.retiredMask ||| 2 ^ k.val)).passWork k .retired).onBoot fun b => { b with coreRestarted := true })

/-- A write of CORE_RETIRE (16 R407). -/
def Chip.coreRetire (c : Chip) (v : Nat) : Nat × Chip :=
  if h : v < 12 then if c.retireDenied ⟨v, h⟩ then (abConflict, c) else (0, c.retireCore ⟨v, h⟩) else (abRange, c)

/-- Retire a failing core where 16 R407 permits; otherwise it keeps running (16 R408). -/
def Chip.retireFailing (c : Chip) (k : CoreNo) : Chip := if c.retireDenied k then c.coreBack k else c.retireCore k

/-- A core has failed to restart: the third failure within 24 h retires it where R407 permits, and
otherwise the gaffer restarts it (16 R408). -/
def Chip.restartFailed (c : Chip) (k : CoreNo) : Chip :=
  let recent := c.now :: (c.boot.coreFails.getD k.val []).filter (fun t => decide (c.now < t + 86400000000000))
  let c := c.onBoot fun b => { b with coreFails := b.coreFails.put k.val recent }
  if 3 ≤ recent.length then c.retireFailing k else c

/-- What a lost block of HBM needs, by its content (Table 07-2): a block of a twice-held area, the poison list and the reel
tables are read again from their other holder; `all` is the loss of both copies. A core's working memory is a fault of the
core. What a line of a frame needs, `Chip.hbmMeets` says. -/
def Chip.placeLost (c : Chip) (p : HbmPlace) (all : Bool) : Chip :=
  match p with
  | .stateWord f => c.rebuildState f
  | .lines _ | .twice _ | .lists _ => c
  | .writtenMap seg => c.rebuildMap seg all
  | .staging seg => c.restage seg
  | .assembly n => c.restartOp n
  | .coreMemory k => if c.coreRuns k then c.passWork k .restarting else c

/-- The pseudo-channel of a place: a frame's, or that of a block of an area. -/
def Chip.placePc (c : Chip) (p : HbmPlace) : PcNo :=
  match p with
  | .lines f | .stateWord f => c.pcOf (frameIndex f)
  | .twice n | .lists n | .writtenMap n | .staging n | .assembly n => c.areaPc n
  | .coreMemory k => c.areaPc k.val

/-- The number of a place's block in its area, or of its frame. -/
def placeBlock (p : HbmPlace) : Nat :=
  match p with
  | .lines f | .stateWord f => f
  | .twice n | .lists n | .writtenMap n | .staging n | .assembly n => n
  | .coreMemory k => k.val

/-- The DRAM record of a place that holds no line (Table 07-6): a frame's state word, or a block of an area. -/
def Chip.placeBody (c : Chip) (p : HbmPlace) (txn descr : Nat) : EventBody :=
  let a := Config.areaAddr (placeBlock p)
  let frame := match p with | .lines f | .stateWord f => f | _ => 0xFFFFFFFF
  .dram 0xFFFFFFFFFFFFFFC0 txn 0 descr (c.placePc p).val
    [hbmStack a, hbmGroup a, hbmBank a, hbmRow a, hbmColumn a, (c.hbm.index.get (c.placePc p)).getD 15, frame, c.burstMask descr]

/-- What a patrol read of a place other than a frame's sector meets (07 R204, R208; 05 R137, R149). -/
def Chip.placeMeets (c : Chip) (p : HbmPlace) (ev : HbmEvent) : Chip :=
  let pc := c.placePc p
  match ev with
  | .corrected => (c.hbmAccess pc .corrected true 0).countCe pc (c.placeBody p 5 2)
  | .uncorrectable => (c.placeLost p false).countUe pc
  | .allUncorrectable => (c.placeLost p true).countUe pc
  | .parityRetry => c.bump 0x3850 1
  | .parityRepeat => (c.bump 0x3850 1).parityRepeated pc
  | .laneFail => c.pcFail pc 4
  | .sramCorrected | .sramDetected | .cacheParity => c.sramMeets ev
  | .ok | .tagParity | .tagBothParity _ => c

/-- HBM_SCRUB: one patrol read of the stack, at class 4 (07 R213). -/
def execHbmScrub (place : HbmPlace) (n : Fin 64) (ev : HbmEvent) (s : State) : Host.Outcome State Fault Refusal :=
  s.onChip fun c =>
    if !c.inService then c
    else match place with
      | .lines f => ((c.readFrame f n .patrol).hbmMeets f n ev).settle
      | p => ((c.hbmAccess (c.placePc p) .patrol false 0).placeMeets p ev).settle

/-- CORE_STOPPED: the core is restarting and its work passes to its siblings, or waits (01 R17, Table 01-3). -/
def execCoreStopped (k : CoreNo) (s : State) : Host.Outcome State Fault Refusal :=
  s.onChip fun c => if c.coreRuns k then c.passWork k .restarting else c

/-- CORE_RESTARTED: the core takes up its work, or has failed to (01 R17; 16 R408). -/
def execCoreRestarted (k : CoreNo) (ok : Bool) (s : State) : Host.Outcome State Fault Refusal :=
  s.onChip fun c =>
    if c.cores.get k = .restarting then
      if ok then (c.coreBack k).onBoot fun b => { b with coreRestarted := true } else c.restartFailed k
    else c

/-- A write of HEAD_ISOLATE (16 R409): 1 takes the head's link to Disabled and keeps it there, 0 releases the
head, which trains under 03 R80; refused through the head it names. -/
def Chip.headIsolate (c : Chip) (a : Access) (h : HeadNo) (v : Nat) : Nat × Chip :=
  if a.req = .mailbox h ∨ a.req = .window h then (abConflict, c)
  else if 2 ≤ v then (abRange, c)
  else
    let was := c.isolated h
    let c := c.setVol 0xA120 (h.val + 1) v
    if v = 1 then (0, if was then c else c.headDown h .disabled)
    else if was && c.mayTrain h then
      (0, c.onHead h fun d => { d with link := if d.perst then .detect else .training })
    else (0, c)

/-- A test of Table 16-3 may not start on this target: its "Refused when" column (16 R411). -/
def Chip.bistDenied (c : Chip) (test target : Nat) : Bool :=
  match test with
  | 1 => c.sparePc.isNone
  | 3 => decide ((c.group (target / 9)).state ≠ .healthy) || decide (c.cache.squall ≠ 0) ||
      c.anyGroup (fun s => decide (s = .retraining)) || decide ((c.chan target).state ≠ .member)
  | 4 => decide ((c.group target).state ≠ .healthy)
  | 6 => decide (c.sec.sealState = .disabled)
  | 7 => if h : target < 12 then c.retireDenied ⟨target, h⟩ else true
  | 8 => if h : target < 6 then !c.isolated ⟨target, h⟩ else true
  | _ => false

/-- The target is one that the test of Table 16-3 can have. -/
def Chip.bistTarget (c : Chip) (test target : Nat) : Bool :=
  match test with
  | 1 | 2 | 6 => true
  | 3 => decide (target < 9 * c.id.part.groups)
  | 4 => decide (target < c.id.part.groups)
  | 5 => decide (target < 9 * c.id.part.groups ∨ target = 0xFF)
  | 7 => decide (target < 10)
  | 8 => decide (target < c.id.part.heads)
  | _ => false

/-- What a test does as it starts: test 3 retrains its channel, in test 7 the core's work passes to a
sibling (Table 16-3). -/
def Chip.bistBegin (c : Chip) (test target : Nat) : Chip :=
  match test with
  | 3 => c.startRetrain target
  | 7 => if h : target < 12 then c.passWork ⟨target, h⟩ .restarting else c
  | _ => c

/-- A write of BIST_CMD (16 R411): the test starts for the requester, or is refused. -/
def Chip.bistCmd (c : Chip) (q : Requester) (test target : Nat) : Nat × Chip :=
  if !c.bistTarget test target then (abRange, c)
  else if c.boot.bist.isSome || c.wrapping || c.bistDenied test target ||
      c.obj.dictRes.any (fun x => decide (x.req = q ∧ x.entry = 0xA100 ∧ x.result = none)) then (abConflict, c)
  else
    let c := c.onBoot fun b => { b with bist := some { test := test, target := target, req := q, startedAt := c.clk.ticks } }
    let c := c.onObj fun o =>
      { o with dictRes := o.dictRes.filter (fun x => !decide (x.req = q ∧ x.entry = 0xA100)) ++ [{ req := q, entry := 0xA100 }] }
    (0, c.bistBegin test target)

/-- BIST_STATE (A100:03): squall mode pauses test 4 (16 R411). -/
def Chip.bistState (c : Chip) : Nat :=
  match c.boot.bist with
  | none => 0
  | some b => if b.test = 4 ∧ c.cache.squall ≠ 0 then 2 else 1

/-- What the failure of a test does (Table 16-3). -/
def Chip.bistFailed (c : Chip) (b : Bist) (detail : Nat) : Chip :=
  match b.test with
  | 1 =>
    match c.sparePc with
    | some p => ((c.setPc p .spareFailed).vendorRecord .warning 0x0301 0x3802 1).bindingRecord
    | none => c
  | 3 => c.memberMissing b.target
  | 4 => if (c.group b.target).state = .healthy then c.unitOp b.target detail (parityMember (stripeUnit detail)) .repair else c
  | 5 => c.memberMissing (if b.target = 0xFF then detail else b.target)
  | 6 => c.sealAlarm .datapath
  | 7 => if h : b.target < 12 then c.retireFailing ⟨b.target, h⟩ else c
  | _ => c

/-- BIST_DONE: the running test ends, its verdict is written, a failure has its consequence (16 R411, R412,
R408). A retrain ends by its own rows. -/
def execBistDone (verdict : Bool) (errors detail : BitVec 32) (s : State) : Host.Outcome State Fault Refusal :=
  s.onChip fun c =>
    match c.boot.bist with
    | none => c
    | some b =>
      if verdict && decide (b.test = 3) && (c.chan b.target).retraining then c
      else
        let c := c.bistEnd (if verdict then 0 else 1) errors.toNat detail.toNat
        let c := if verdict then (if b.test = 7 then (if h : b.target < 12 then c.coreBack ⟨b.target, h⟩ else c) else c)
          else c.bistFailed b detail.toNat
        c.dueRehearsal

/-- BAROMETER_UPDATE: the flags and LEVEL change in one update; the vendor record goes to the ledger event
log, and to every head only when LEVEL changes; notification 0x0001 (14 R381, R382). -/
def execBarometerUpdate (s : State) : Host.Outcome State Fault Refusal :=
  s.onChip fun c =>
    let new := c.barometerNow
    let old := c.boot.barometer
    if new = old || !c.boot.romDone then c
    else
      let c := c.onBoot fun b => { b with barometer := new }
      let body : EventBody := .vendor 0x0001 0xA000 1 new (toBytes 8 new.toNat)
      let c := if levelOfFlags new = levelOfFlags old then c.ledgerEvent body else c.record .informational body
      c.notify 1 0xA000 1 (toBytes 8 new.toNat)

/-- A write of BAROMETER_SEEN (14 R382): a 1 clears a latched flag unless the flag is set in BAROMETER. -/
def Chip.clearSeen (c : Chip) (m : BitVec 64) : Chip :=
  c.onBoot fun b => { b with seen := b.seen &&& ~~~ (m &&& ~~~ b.barometer) }

/-- BAROMETER_SEEN as read: the latched flags, and their highest level in bits [3:0] (14 R382). -/
def Chip.seenValue (c : Chip) : BitVec 64 := c.boot.seen ||| BitVec.ofNat 64 (levelOfFlags c.boot.seen)

/-- EVENT_OLDEST (A030:04): the lowest sequence number still held (14 R383). -/
def Chip.eventOldest (c : Chip) : Nat := ((c.ledger.evtRing.head?).map Prod.fst).getD 0

/-- EVENT_RECORD (A030:02): the slot of a record the log holds (14 R383; 11 R304). -/
def Chip.eventRecord (c : Chip) (seq : Nat) : Option (List Byte) :=
  (c.ledger.evtRing.find? (fun p => decide (p.1 = seq))).map (fun p => fitBytes 128 (toBytes 8 seq ++ p.2.image))

end Sys2Proof.Machine
end

