-- ==== Sys2Proof/Machine/DictValues.lean ====
section
/-! DEFINITION. What the entries of the dictionary that show other state read (the entry maps of the
chapters: Tables 02-11, 03-13, 04-8, 05-10, 06-15, 07-7, 08-7, 09-12, 10-12, 11-6, 12-9, 13-13, 14-4, 15-9,
16-4). An entry that stands in no definition here is held by the dictionary itself. -/

namespace Sys2Proof.Machine

/-- The context of a requester: its volatile selections (13 R365). -/
def Chip.context (c : Chip) (q : Requester) : SMap Nat :=
  ((c.ring.contexts.find? (fun x => decide (x.req = q))).map (·.vals)).getD []

/-- A per-requester entry (13 R365). -/
def Chip.sel (c : Chip) (q : Requester) (index sub : Nat) (dflt : Nat := 0) : Nat := (c.context q).getD (dictKey index sub) dflt

/-- A value held by the element `i` of a vector, or 0. -/
def vecAt {α : Type} {n : Nat} (v : Vector α n) (i : Nat) (f : α → Nat) : Nat := if h : i < n then f (v.get ⟨i, h⟩) else 0

/-- A percentage. -/
def percent (a b : Nat) : Nat := if b = 0 then 0 else 100 * a / b

/-- Two's complement of 16 bits. -/
def i16 (v : Int) : Nat := (BitVec.ofInt 16 v).toNat

/-- RING_PORT_STATE (1100:01, 1100:02). -/
def PortState.code : PortState → Nat
  | .down => 0 | .negotiating => 1 | .up => 2

/-- RING_BREAK (1100:03): a port is down, or a source's frames have arrived on one port only for 10 ms. -/
def Chip.ringBreak (c : Chip) : Bool :=
  c.ring.ports.toList.any (fun p => decide (p ≠ .up)) ||
    c.ring.sources.any (fun r => decide (r.lastA + 10000000 ≤ r.lastB ∨ r.lastB + 10000000 ≤ r.lastA))

/-- Ring contexts in use (1130:04). -/
def Chip.ringContexts (c : Chip) : Nat := c.ring.contexts.countP (fun x => match x.req with | .ring _ => true | _ => false)

/-- LINK_STAT of a head (03 Table 03-12). -/
def Head.linkStat (d : Head) : Nat :=
  d.rate.val + 8 * d.width.val + 64 * boolNat d.flit256 + 128 * boolNat d.ideOn + 256 * boolNat d.ideSkid

/-- HEAD_STATUS (1400). -/
def Head.status (d : Head) : Nat := d.linkStat + 512 * boolNat (decide (d.link = .up)) + 1024 * boolNat d.perst

/-- Entries of 1000 to 13FF. -/
def Chip.value1000 (c : Chip) (index sub : Nat) : Option Nat :=
  match index with
  | 0x1000 => if sub = 1 then some c.id.serial.toNat else if sub = 2 then some c.id.part.code else if sub = 3 then some c.id.ringMac.toNat else none
  | 0x1100 => if sub = 3 then some (boolNat c.ringBreak) else some (vecAt c.ring.ports (sub - 1) PortState.code)
  | 0x1130 =>
    if sub = 1 then some c.ring.transfers.length
    else if sub = 3 then some c.ring.lastAbort
    else if sub = 4 then some c.ringContexts else none
  | 0x1400 => some (vecAt c.heads (sub - 1) Head.status)
  | _ => none

/-- Objects this chip owns (02 R50). -/
def Chip.owned (c : Chip) : List (Nat × Obj) := c.obj.table.filter (fun p => c.owns p.1 p.2)

/-- Dirty lines of an object held on this chip. -/
def Chip.objDirty (c : Chip) (o : Obj) : Nat :=
  ((c.dirtyMaps.filter (fun p => decide (objFirst o ≤ p.1 ∧ p.1 < objFirst o + objSegs o))).map (fun p => popCount p.2)).sum

/-- REEL_INFO (2031:02). -/
def Chip.reelInfo (c : Chip) (r : Reel) : Nat :=
  let resident := c.cache.frames.countP (fun p => decide (p.2.holds ≠ 0) && (List.range r.count).any (fun k => decide (c.reelSeg r k = p.2.seg)))
  ofBytes (toBytes 8 r.obj ++ toBytes 8 r.start ++ toBytes 8 r.count ++ toBytes 2 r.stride ++ toBytes 2 r.window ++
    [BitVec.ofNat 8 r.readers.length, 0, 0, 0] ++ toBytes 8 r.minCursor ++ toBytes 8 resident)

/-- DOLLY_STATE (2040:01). -/
def Chip.dollyState (c : Chip) : Nat :=
  if c.dolly.opened.isEmpty && c.dolly.queue.isEmpty && c.dolly.pins.isEmpty && c.dolly.evac.isNone then 0
  else if c.cache.squall ≠ 0 then 2
  else if c.missWaits || c.med.ch.any (fun x => decide (8 ≤ x.reads.length)) then 3 else 1

/-- EVAC_REMAINING (2041:04): granules not yet committed. -/
def Chip.evacLeft (c : Chip) : Nat :=
  match c.dolly.evac with
  | none => 0
  | some v => v.left.length + c.dolly.opened.countP (fun o => decide (o.cmd = none ∧ o.src.group = v.src ∧ o.kind ≠ .mirrorBuild))

/-- CUE_STATE of a head (2020). -/
def Chip.cueState (c : Chip) (h : HeadNo) : Nat :=
  let q := (c.head h).cue
  q.head.toNat + 256 * q.tail.toNat + 65536 * boolNat q.expPhase + 131072 * boolNat q.enable + 262144 * (c.ringCmds h).length

/-- Entries of 2000 to 2070. -/
def Chip.value2000 (c : Chip) (q : Requester) (index sub : Nat) : Option Nat :=
  match index with
  | 0x2000 => if sub = 1 then some c.owned.length else some (c.groupNos.map c.freeGranules).sum
  | 0x2001 => some (c.freeGranules (sub - 1))
  | 0x2011 =>
    let id := c.sel q 0x2010 1
    match c.obj.table.find id with
    | none => some 0
    | some o =>
      if sub = 1 then some (ofBytes (((entryBytes (mkResult 0 id 0 0 0 (c.queryValues id o))).drop 16).take 40))
      else if sub = 2 then some o.userTag.toNat else some (c.objDirty o)
  | 0x2020 => if h : sub - 1 < 6 then some (c.cueState ⟨sub - 1, h⟩) else none
  | 0x2030 => if sub = 1 then some c.obj.reels.length else if sub = 3 then some c.reelFrames else none
  | 0x2031 => if sub = 2 then some (((c.reel (c.sel q 0x2031 1)).map c.reelInfo).getD 0) else none
  | 0x2040 =>
    if sub = 1 then some c.dollyState
    else if sub = 3 then some c.dolly.opened.length
    else if sub = 4 then some c.dolly.queue.length else none
  | 0x2041 =>
    if sub = 2 then some c.dolly.evacState
    else if sub = 3 then some (match c.dolly.evac with | none => if c.dolly.evacState = 2 then 100 else 0 | some v => percent (v.total - c.evacLeft) v.total)
    else if sub = 4 then some c.evacLeft else none
  | 0x2050 => if sub = 1 then some (c.med.scrubLeft.map (·.count)).sum else none
  | _ => none

/-- Entries of 3000 to 3FFF. -/
def Chip.value3000 (c : Chip) (index sub : Nat) : Option Nat :=
  match index with
  | 0x3000 =>
    if sub = 1 then some 196608
    else if sub = 4 then some (boolNat c.cache.wayChange.isSome)
    else if sub = 5 then some (c.cache.waysScratch * 805306368) else none
  | 0x3010 =>
    if sub = 1 then some c.dirtyTotal else if sub = 2 then some c.dirtyPartner else if sub = 3 then some c.cache.budget
    else if sub = 4 then some c.windowCap else some c.windowUse
  | 0x3011 => if sub = 1 then some c.cache.squall else if sub = 7 then some (40 * c.cache.squallTicks) else none
  | 0x3020 =>
    if sub = 1 then some (c.cache.waysPin * 196608) else some (c.cache.frames.countP (fun p => decide (p.2.kind = .pin)))
  | 0x3040 =>
    if sub = 3 then some (c.cache.frames.countP (fun p => decide (p.2.kind = .outside ∧ p.2.role = .detached) && p.2.second)) else none
  | 0x3800 => some (vecAt c.hbm.pcs (sub - 1) PcState.code)
  | 0x3801 => some (vecAt c.hbm.index (sub - 1) (fun x => x.getD 0xFF))
  | 0x3802 => some ((c.sparePc.map (·.val)).getD 0xFF)
  | 0x3813 => if sub = 2 then some c.retireProgress else none
  | 0x3814 => some c.hbm.retireLog
  | 0x3820 => if sub = 1 then some c.mirrorFill else none
  | 0x3830 => if sub = 1 then some (i16 c.hbm.tempC) else if sub = 2 then some c.hbm.tier else none
  | 0x3840 => some (vecAt c.hbm.margins (sub - 1) (fun x => x))
  | 0x3860 => some c.hbm.selfRefresh.toNat
  | _ => none

/-- MED_MOD_INFO of a channel (4002), with ERR_STATUS as last read. -/
def Channel.info (x : Channel) : Nat :=
  let m := x.module
  ofBytes (toBytes 4 m.vendor.toNat ++ toBytes 4 m.rev.toNat ++ toBytes 8 m.serial.toNat ++ toBytes 4 m.maxWear.toNat ++
    toBytes 4 m.spares.toNat ++ toBytes 2 (i16 m.temp.toInt) ++ [0, 0] ++ toBytes 4 x.errRead.toNat)

/-- REBUILD_PROGRESS (4012:02): of the group that rebuilds or is initialised. -/
def Chip.rebuildProgress (c : Chip) : Nat :=
  match c.presentGroups.find? (fun g => match (c.group g.val).state with | .rebuilding | .initialising => true | _ => false) with
  | none => 0
  | some g => if (c.group g.val).state = .rebuilding then percent ((c.group g.val).rows.map Prod.snd).sum (1024 * 9175040)
    else percent (c.group g.val).cursor (2 ^ 25)

/-- The unit that MED_DRIFT_SELECT names (4120:01): channel, partition, unit. DESIGN CHOICE (notes/assumptions/106.md): a fused channel
reads as a channel without a module, and the numbers 36 to 63 as CH00; the spec gives neither a value. -/
def driftSel (v : Nat) : Nat × Nat × Nat := (v % 64, v / 64 % 1024, v / 65536 % 2 ^ 24)

/-- REF_OFFSETS of the selected die (4123:02). -/
def Chip.refOffsets (c : Chip) (v : Nat) : Nat := ((c.chan (v % 64)).refs.getD (v / 64 % 64) 0).toNat

/-- Entries of 4000 to 4FFF. -/
def Chip.value4000 (c : Chip) (q : Requester) (index sub : Nat) : Option Nat :=
  match index with
  | 0x4000 => some (9 * c.id.part.groups)
  | 0x4001 => some (vecAt c.med.ch (sub - 1) (fun x => x.state.code))
  | 0x4002 => some (vecAt c.med.ch (sub - 1) (fun x => x.info))
  | 0x4003 => some (vecAt c.med.ch (sub - 1) (fun x => min 255 x.module.lifeUsed))
  | 0x4004 => if sub = 2 then some c.med.removeState else none
  | 0x4010 => some (vecAt c.med.sg (sub - 1) (fun g => g.state.code))
  | 0x4011 => some (vecAt c.med.sg (sub - 1) (fun g => (g.missing.map (memberChan (sub - 1))).getD 0xFF))
  | 0x4012 => if sub = 2 then some c.rebuildProgress else none
  | 0x4030 => if 4 ≤ sub then some (Config.reading (dictKey index sub) c.clk.ticks) else none
  | 0x4120 =>
    let (n, row, u) := driftSel (c.sel q 0x4120 1)
    if sub = 2 then some (60000000000 * c.unitAge n row u) else if sub = 3 then some (driftBin (c.unitAge n row u)).val else none
  | 0x4123 => if sub = 2 then some (c.refOffsets (c.sel q 0x4123 1)) else none
  | 0x4130 => if sub = 1 then some c.mixedSlots else none
  | 0x4140 => some (vecAt c.med.ch (sub - 1) (fun x => x.margin % 2 ^ 64 + x.retrains % 2 ^ 32 * 2 ^ 64))
  | 0x4221 => some (percent (c.group (sub - 1)).scrubPos scrubUnits)
  | 0x4230 => if sub = 1 then some c.integ.poison.length else some (boolNat c.integ.overflow)
  | _ => none

/-- MIRROR_STATE (5010:01). -/
def Chip.mirrorState (c : Chip) : Nat :=
  match c.twin.state with
  | .alone => 3
  | .split => 1
  | .rejoining => 2
  | _ => if c.twin.suspended then 1 else if c.paired && !c.med.stale.isEmpty then 2 else 0

/-- Entries of 5000 to 5FFF. -/
def Chip.value5000 (c : Chip) (index sub : Nat) : Option Nat :=
  match index with
  | 0x5000 => match sub with
    | 1 => some c.twin.state.code
    | 2 => some c.pos
    | 3 => some c.twin.epoch
    | 4 => some c.twin.twinSerial.toNat
    | 5 => some c.twin.refuseCause
    | _ => none
  | 0x5001 => if sub = 1 then some (match c.twin.link with | .down => 0 | .training => 1 | .up => 2) else none
  | 0x5002 => if sub = 1 then some (boolNat c.twin.pulseLost) else none
  | 0x5010 => match sub with
    | 1 => some c.mirrorState
    | 2 => some c.med.stale.length
    | 3 => some (if c.mirrorState = 2 then percent (c.twin.staleAtResync - c.med.stale.length) c.twin.staleAtResync else 0)
    | _ => none
  | 0x5020 => match sub with
    | 1 => some c.wit.state.code
    | 2 => some (c.wit.leaseEnd - c.now)
    | 5 => some (c.witSeq - 1)
    | _ => none
  | 0x5030 => if sub = 4 then some c.twin.handState else none
  | 0x5040 => if sub = 2 then some c.wit.rehearseResult else none
  | 0x5050 => if sub = 4 then some c.twin.takeoverLog else none
  | _ => none

/-- SQ_STATUS of a channel (6002). -/
def Rail.status (r : Rail) : Nat :=
  let st := match r.state with | .off => 0 | .ramping => 1 | .good => 2 | .warning => 3 | .fault => 4 | .offByGroup => 5 | .chatter => 6
  r.mv % 65536 + 65536 * st + 2 ^ 20 * boolNat r.pgRaw + 2 ^ 21 * boolNat r.en

/-- Entries of 6000 to 6FFF. -/
def Chip.value6000 (c : Chip) (index sub : Nat) : Option Nat :=
  match index with
  | 0x6000 => if sub = 1 then some c.pwr.state.code else some c.pwr.vauxMv
  | 0x6002 => some (vecAt c.pwr.rails (sub - 1) Rail.status)
  | 0x6004 => if sub = 3 then some c.pwr.retriesUsed else none
  | 0x6006 => some c.pwr.lastFault
  | 0x6010 => match sub with
    | 1 => some c.res.bankMv
    | 3 => some c.energyMj
    | 4 => some c.res.capUf
    | 5 => some c.res.esrUohm
    | 6 => some c.res.published
    | _ => none
  | 0x6012 => if sub = 5 then some c.res.probeLast else none
  | 0x6020 => match sub with
    | 1 => some c.wrap.state
    | 3 => some (((readRecord c.ledger.ahead c.ledger.badAhead wrapRec).map ofBytes).getD 0)
    | 4 => some (c.counter 4)
    | _ => none
  | 0x6021 => if sub = 1 then some (c.counter 0) else some c.med.dirtyMap.length
  | 0x6030 => if sub = 2 then some ((c.pwr.lastSnap.map (fun x => ofBytes x.image)).getD 0) else none
  | _ => none

/-- LEDGER_STATE (7000:02). -/
def Chip.ledgerState (c : Chip) : Nat :=
  if c.ledger.failed then 3 else if c.ledger.current.isSome then 1 else if c.ledger.refreshRun then 2 else 0

/-- PART_INFO of a partition (7001). -/
def Chip.partInfo (c : Chip) (i : Nat) : Nat :=
  match partitions[i]? with
  | none => 0
  | some (base, size, rd, wr) =>
    let lv (n : Nat) : Byte := if 3 ≤ n then 0xFF else BitVec.ofNat 8 n
    let pw := ((List.finRange 4).filter (fun a => (c.ledger.passwords.get a).isSome)).foldl (fun m a => m + 2 ^ a.val) 0
    let user := decide (i = 8)
    let moved := c.ledger.remap.countP (fun p => decide (base ≤ 256 * p.1 ∧ 256 * p.1 < base + size))
    ofBytes (toBytes 4 base ++ toBytes 4 size ++ [lv rd, lv wr, (if user then BitVec.ofNat 8 pw else 0),
      (if user then c.ledger.unlocked.setWidth 8 else 0)] ++ toBytes 4 moved)

/-- Entries of 7000 to 7FFF. -/
def Chip.value7000 (c : Chip) (index sub : Nat) : Option Nat :=
  match index with
  | 0x7000 => if sub = 1 then some 33554432 else some c.ledgerState
  | 0x7001 => some (c.partInfo (sub - 1))
  | 0x7030 => some (c.counter (sub - 1))
  | 0x7031 => if sub = 2 then some (((List.range 64).filter (fun n => decide (counterLimit ≤ c.counter n))).foldl (fun m n => m + 2 ^ n) 0) else none
  | 0x7040 => if sub = 2 then some (percent c.ledger.refreshPage 131072) else none
  | 0x7050 => if sub = 2 then some ((c.ledger.counts.map Prod.snd).foldl max 0) else if sub = 3 then some (1024 - c.ledger.remap.length) else none
  | _ => none

/-- Entries of 8000 to 8FFF. -/
def Chip.value8000 (c : Chip) (q : Requester) (index sub : Nat) : Option Nat :=
  match index with
  | 0x8000 => if sub = 1 then some c.secState else if sub = 2 then some c.sec.userTries else some c.sec.masterTries
  | 0x8010 =>
    let t := c.sel q 0x8010 1
    let k := c.sec.tags.getD t {}
    match sub with
    | 2 => some (match k.state with | .empty => 0 | .loaded => 1 | .erasing => 2)
    | 3 => some (c.owned.countP (fun p => decide (p.2.keyTag.toNat = t) || ((p.2.oldKeyTag.toList ++ p.2.olderTags).any (fun x => decide (x.toNat = t)))))
    | 4 => some k.gen
    | _ => none
  | 0x8011 => if sub = 2 then some c.sec.eraseState else none
  | 0x8020 => match sub with
    | 2 => some c.sec.sealQ.length
    | 4 => some c.sec.lastAlarm
    | 6 => some (match c.sec.sealState with | .ready => 0 | .recovering => 1 | .disabled => 2)
    | _ => none
  | 0x8030 =>
    if sub = 8 then some ((c.presentHeads.filter (fun h => decide (2 ^ 48 - 2 ^ 40 ≤ (c.head h).ideTx.count ∨ 2 ^ 48 - 2 ^ 40 ≤ (c.head h).ideRx.count))).foldl (fun m h => m + 2 ^ h.val) 0)
    else if sub = 7 then some (max c.sec.twinTx (Config.reading (dictKey index sub) c.clk.ticks))
    else some (vecAt c.heads (sub - 1) (fun d => if d.ideTx.active.isSome then max d.ideTx.count (Config.reading (dictKey index sub) c.clk.ticks) else 0))
  | 0x8040 => if sub = 3 then some ((c.heads.toList.map (fun (d : Head) => d.sessions.length)).sum + boolNat c.sec.twinSession) else none
  | 0x8050 => if sub = 3 then some c.sec.rtvState else none
  | 0x8060 => some (boolNat c.sec.jtagOpen)
  | 0x8070 => some (boolNat c.sec.drbgStopped)
  | _ => none

/-- PROBATION_LEFT (9000:08): service still required (15 R400). -/
def Chip.probationLeft (c : Chip) : Nat :=
  if c.boot.record.state = .probation then
    let t := c.par 0x9000 5 600000000000
    if c.inService then t - 40 * (c.clk.ticks - c.boot.inServiceAt) else t
  else 0

/-- The stage of Table 15-1 that a start has reached (9001:03). -/
def Chip.stageReached (c : Chip) : Nat :=
  match c.boot.stage with
  | 0 => 6
  | 7 => 3
  | 8 => 4
  | 9 => 2
  | 10 => 5
  | 15 => if c.boot.stopCause = 4 then 3 else if c.boot.stopCause = 5 then 4 else 2
  | n => n

/-- The row of Table 15-5 that keeps a start from service, or 0 (9001:03). -/
def Chip.stopRow (c : Chip) : Nat := if c.boot.stage = 7 then 6 else if c.boot.stage = 10 then 7 else c.boot.stopCause

/-- BOOT_LOG (9001:03). -/
def Chip.bootLog (c : Chip) : Nat :=
  ofBytes (c.boot.stageEnds.toList.flatMap (toBytes 4 ·) ++ [BitVec.ofNat 8 c.stopRow, BitVec.ofNat 8 c.stageReached, 0, 0, 0, 0, 0, 0])

/-- FW_SLOT_INFO of a slot (9002). -/
def Chip.slotInfo (c : Chip) (slot : Bool) : Nat :=
  let i := c.imageOf slot
  ofBytes ([BitVec.ofNat 8 (boolNat (c.slotValid slot)), 0] ++ toBytes 2 i.format ++ toBytes 4 i.version.toNat ++ toBytes 4 i.sec ++
    toBytes 4 i.proto ++ toBytes 4 i.length ++ toBytes 12 i.hash.toNat)

/-- Entries of 9000 to 9FFF. -/
def Chip.value9000 (c : Chip) (index sub : Nat) : Option Nat :=
  match index with
  | 0x9000 => match sub with
    | 1 => some (boolNat c.boot.record.active)
    | 2 => some c.fwState
    | 3 => some c.boot.record.attempts
    | 8 => some c.probationLeft
    | _ => none
  | 0x9001 => if sub = 1 then some c.boot.stage else if sub = 2 then some c.boot.bootTime else some c.bootLog
  | 0x9002 => some (c.slotInfo (decide (sub = 2)))
  | 0x9010 => match sub with
    | 4 => some c.boot.updState
    | 5 => some ((c.boot.upload.map (·.next)).getD 0)
    | 6 => some c.boot.updError
    | _ => none
  | 0x9030 => if sub = 2 then some (if c.twin.twinSerial = 0 then 0xFF else c.twin.partnerBoot) else none
  | 0x9040 => match sub with
    | 1 => some c.boot.storeFormat
    | 2 => some c.boot.oldFormat
    | 6 => some (boolNat c.boot.storeDefaults)
    | _ => none
  | _ => none

/-- CORE_STATE codes (A020). -/
def CoreState.code : CoreState → Nat
  | .running => 0 | .restarting => 1 | .standby => 2 | .adopted => 3 | .retired => 4

/-- Entries of A000 to AFFF. -/
def Chip.valueA000 (c : Chip) (index sub : Nat) : Option Nat :=
  match index with
  | 0xA000 => if sub = 1 then some c.boot.barometer.toNat else if sub = 2 then some c.seenValue.toNat else some c.boot.lastBoot.toNat
  | 0xA010 =>
    if sub = 1 then some (40 * (c.clk.ticks - c.clk.leftReset)) else if sub = 2 then some (i16 c.pwr.dieC) else some (i16 c.pwr.diePeak)
  | 0xA020 => some (vecAt c.cores (sub - 1) CoreState.code)
  | 0xA030 => if sub = 3 then some c.ledger.evtSeq else if sub = 4 then some c.eventOldest else none
  | 0xA100 => if sub = 3 then some c.bistState else none
  | 0xA110 => if sub = 2 then some c.retiredMask else none
  | _ => none

/-- The value of an entry that shows other state, or none for one the dictionary holds itself. -/
def Chip.shown (c : Chip) (q : Requester) (index sub : Nat) : Option Nat :=
  match index / 4096 with
  | 1 => c.value1000 index sub
  | 2 => c.value2000 q index sub
  | 3 => c.value3000 index sub
  | 4 => c.value4000 q index sub
  | 5 => c.value5000 index sub
  | 6 => c.value6000 index sub
  | 7 => c.value7000 index sub
  | 8 => c.value8000 q index sub
  | 9 => c.value9000 index sub
  | 10 => c.valueA000 index sub
  | _ => none

end Sys2Proof.Machine
end

