-- ==== Sys2Proof/Machine/DictAccess.lean ====
section
/-! DEFINITION. Access to the dictionary (13 R361 to R370; 00 R12 to R15): contexts, what a read returns, the
check of a write, and what each entry's write does. -/

namespace Sys2Proof.Machine

/-- The highest subindex of an index on a part; entries of fused resources are absent (13 R363; 00 R3). -/
def topSub (p : Part) (index : Nat) : Option Nat :=
  ((dictRows.filter (fun r => decide (r.index = index))).flatMap (fun r =>
    (List.range (r.hi + 1)).filter (fun s => decide (r.lo ≤ s) && !fusedOff p index s))).foldl
      (fun t s => some (max (t.getD 0) s)) none

/-- The entry at an index and subindex on this part; subindex 0 gives the highest one (13 R361, R363). The
vendor-private entries exist once the Vendor level is granted (12 R347). DESIGN CHOICE (notes/assumptions/103.md):
each is a DOMAIN of unknown bytes, because the spec describes none of them. -/
def Chip.entry (c : Chip) (index sub : Nat) : Option DictRow :=
  if sub = 0 then
    (topSub c.id.part index).map (fun t => { index := index, lo := 0, hi := 0, type := .u8, acc := .ro, level := 0, dflt := t })
  else if 0xF000 ≤ index ∧ index ≤ 0xFFFF ∧ c.sec.rtvState = 2 then
    some { index := index, lo := sub, hi := sub, type := .domain, acc := .rw, level := 3, dflt := 0 }
  else if fusedOff c.id.part index sub then none else dictRow index sub

/-- The value of an entry of a fixed-size type (13 R364 to R367). -/
def Chip.dictValue (c : Chip) (q : Requester) (r : DictRow) (sub : Nat) : Nat :=
  if sub = 0 then r.dflt
  else match c.shown q r.index sub with
    | some v => v
    | none =>
      let d := dictDefault r sub
      if r.perReq then c.sel q r.index sub d else if r.persistent then c.par r.index sub d else c.vol r.index sub d

/-- A result entry (13 R370; 14 R383): OBJ_CMD_RESULT, BIST_RESULT. -/
def resultEntry (index sub : Nat) : Bool := (index == 0x2070 || index == 0xA100) && sub == 2

/-- The present value of a DOMAIN entry (12 Table 12-9; 15 R395). -/
def Chip.domainValue (c : Chip) (index sub : Nat) : List Byte :=
  match index, sub with
  | 0x8040, 1 => c.certChain
  | 0x8040, 2 => [1, 2, 3, 4, 5, 6].flatMap c.measureBlock
  | 0x9040, 4 => c.storeExport
  | i, s => if 0xF000 ≤ i then Config.vendorEntry (dictKey i s) c.clk.ticks else []

/-- SIZE of an entry; of a DOMAIN its present length (Table 13-11; 03 Table 03-7). -/
def Chip.entrySize (c : Chip) (r : DictRow) (sub : Nat) : Nat :=
  if r.type = .domain then (c.domainValue r.index sub).length else r.type.size

/-- What a read of an entry that is no plain value returns: an abort code, the bytes, and the chip where the
read changes it (11 R316; 12 R346; 13 R370; 14 R383). -/
def Chip.readSpecial (c : Chip) (a : Access) (index sub : Nat) : Option (Nat × List Byte × Chip) :=
  if resultEntry index sub then
    match c.obj.dictRes.find? (fun x => decide (x.req = a.req ∧ x.entry = index)) with
    | none => some (abNoResult, [], c)
    | some x => match x.result with
      | none => some (abPending, [], c)
      | some b => some (0, b, c)
  else match index, sub with
    | 0xA030, 2 => match c.eventRecord (c.sel a.req 0xA030 1) with
      | some b => some (0, b, c)
      | none => some (abNoResult, [], c)
    | 0x7010, 2 =>
      if c.ledger.failed then some (abHardware, [], c)
      else match c.rawRead (c.levelOf a) (c.sel a.req 0x7010 1) with
        | (code, b) => some (code, b, c)
    | 0x8050, 1 => if c.sec.drbgStopped then some (abHardware, [], c) else some (0, c.rtvChallenge.1, c.rtvChallenge.2)
    | _, _ => none

/-- Bits of a value that the entry marks reserved or must be 0 (13 R369; 10 Table 10-2; 14 R382). On SQ00 to
SQ07 every byte that may not change is out of range instead (10 R276). -/
def rsvMask (r : DictRow) (sub : Nat) : Nat :=
  if r.index = 0x6001 then (if sub ≤ 8 then 0 else 0xF8 * 2 ^ 48 + 0xFF * 2 ^ 56 + 0xFFFFFFFF * 2 ^ 224) else r.rsv

/-- What a read gives of a value whose bits `mask` are reserved (00 R12): 0 of them in the full configuration,
which is how they are held, and an unspecified value in the small ones. -/
def Chip.readOpen (c : Chip) (loc mask v : Nat) : Nat × Chip :=
  if c.id.part.full || mask = 0 then (v, c)
  else ((v ^^^ (v &&& mask)) ||| (Config.unspecified loc c.cache.choice &&& mask), c.choose)

/-- A read of an entry (13 R364, R370): an abort code, 0 for none, the bytes, and the chip. -/
def Chip.readEntry (c : Chip) (a : Access) (index sub : Nat) : Nat × List Byte × Chip :=
  match c.entry index sub with
  | none => (abNoEntry, [], c)
  | some r =>
    if r.acc = .ro && decide (c.levelOf a < r.level) then (abAccessDenied, [], c)
    else if r.acc = .wo then (0, List.replicate r.type.size 0, c)
    else match c.readSpecial a index sub with
      | some x => x
      | none =>
        if r.type = .domain then (0, c.domainValue index sub, c)
        else
          let (v, c) := c.readOpen (dictKey index sub) (rsvMask r sub) (c.dictValue a.req r sub)
          (0, toBytes r.type.size v, c)

/-- The entry is mapped in the control window (13 R371). -/
def mappedEntry (r : DictRow) : Bool := r.type.mapped && decide (0x1000 ≤ r.index ∧ r.index ≤ 0xAFFF)

/-- The window offset of a mapped entry, fixed for a firmware version (13 R371). -/
def Chip.windowOffset (c : Chip) (index sub : Nat) : BitVec 20 := Config.windowOffset c.image.version index sub

/-- The descriptor of an entry (13 R366, Table 13-11). -/
def Chip.descriptor (c : Chip) (r : DictRow) (sub : Nat) : List Byte :=
  [BitVec.ofNat 8 r.type.code, BitVec.ofNat 8 r.acc.code, BitVec.ofNat 8 (if r.acc = .ro then r.level else 0),
    BitVec.ofNat 8 (if r.acc = .ro then 0xFF else r.level)] ++ toBytes 4 (c.entrySize r sub) ++
    [BitVec.ofNat 8 (boolNat r.persistent + 2 * boolNat r.perReq + 4 * boolNat (resultEntry r.index sub) + 8 * boolNat (mappedEntry r)),
      0, 0, 0] ++
    toBytes 4 (if mappedEntry r then (c.windowOffset r.index sub).toNat else 0xFFFFFFFF)

/-- Use the context of a requester: it becomes the most recent one, and a new ring requester takes the least
recently used of 32 ring contexts, whose selections and results are lost (13 R365). -/
def Chip.useContext (c : Chip) (q : Requester) : Chip :=
  let mine : Context := { req := q, vals := c.context q }
  let others := c.ring.contexts.filter (fun x => decide (x.req ≠ q))
  let isRing (x : Context) : Bool := match x.req with | .ring _ => true | _ => false
  let full := isRing mine && decide (32 ≤ others.countP isRing)
  match (others.reverse.find? isRing), full with
  | some old, true =>
    (c.onRing fun r => { r with contexts := mine :: others.filter (fun x => decide (x.req ≠ old.req)) }).onObj fun o =>
      { o with dictRes := o.dictRes.filter (fun x => decide (x.req ≠ old.req)) }
  | _, _ => c.onRing fun r => { r with contexts := mine :: others }

/-- Set a per-requester entry (13 R365). -/
def Chip.setSel (c : Chip) (q : Requester) (index sub v : Nat) : Chip :=
  c.onRing fun r => { r with contexts := r.contexts.map (fun (x : Context) =>
    if x.req = q then { x with vals := x.vals.put (dictKey index sub) v } else x) }

/-- A written value changes reserved bits (13 R369): those of an RW entry against its value, those of another
against 0. -/
def Chip.rsvChanged (c : Chip) (q : Requester) (r : DictRow) (sub v : Nat) : Bool :=
  let old := if r.acc = .rw then c.dictValue q r sub else 0
  (v ^^^ old) &&& rsvMask r sub != 0

/-- A value breaks a relation to another entry (04 R121, R122; 05 Table 05-10; 09 Table 09-12). -/
def Chip.relationBroken (c : Chip) (index sub v : Nat) : Bool :=
  match index, sub with
  | 0x3011, 2 => decide (c.squallExitBytes ≤ v)
  | 0x3011, 3 => decide (v ≤ c.squallEnterBytes)
  | 0x3011, 4 => decide (c.squallExitFrames ≤ v)
  | 0x3011, 5 => decide (v ≤ c.squallEnterFrames)
  | 0x3820, 2 => decide (v ≤ c.par 0x3820 3 1024)
  | 0x3820, 3 => decide (c.par 0x3820 2 3072 ≤ v)
  | 0x5040, 3 => decide (0 < v ∧ v < 3600000000000)
  | _, _ => false

/-- A value lies outside the range of its entry, or is no BOOL (13 Table 13-8). -/
def outOfRange (r : DictRow) (v : Nat) : Bool :=
  (decide (r.type = .bool) && decide (1 < v)) || decide (v < r.min) || (match r.max with | some m => decide (m < v) | none => false)

/-- The action of an entry needs the device in service: its owner is not loaded before. -/
def serviceOnly (index sub : Nat) : Bool :=
  [0x2070, 0x2041, 0x3813, 0x4004, 0x4013, 0x5030, 0xA100, 0xA110].contains index || (index == 0x3000 && (sub == 2 || sub == 3)) ||
    (index == 0x5040 && sub == 1)

/-- The check of a write (13 R368 step 1): an abort code, 0 for none. -/
def Chip.writeFault (c : Chip) (a : Access) (r : DictRow) (sub : Nat) (bytes : List Byte) : Nat :=
  let v := ofBytes bytes
  if c.levelOf a < r.level then abAccessDenied
  else if r.type ≠ .domain && decide (bytes.length ≠ r.type.size) then abLength
  else if c.id.part.full && c.rsvChanged a.req r sub v then abWriteLocked
  else if r.type ≠ .domain && (outOfRange r v || c.relationBroken r.index sub v) then abRange
  else if !c.inService && serviceOnly r.index sub then abConflict
  else 0

/-- Notification 0x0008: a persistent entry is written (Table 13-10). -/
def Chip.noteStored (c : Chip) (a : Access) (index sub : Nat) : Chip :=
  let lv := BitVec.ofNat 8 (c.levelOf a)
  let data : List Byte := match a.req with
    | .ring m => [lv, 0, 0, 0] ++ toBytes 6 m.toNat
    | .mailbox h => [lv, 1, BitVec.ofNat 8 h.val, 0] ++ toBytes 6 0
    | .window h => [lv, 2, BitVec.ofNat 8 h.val, 0] ++ toBytes 6 0
  c.notify 8 index sub data

/-- What the new value of a persistent entry changes at once (04 R122; 05 R153; 03 R85; 02 R66). -/
def Chip.entryStored (c : Chip) (index sub : Nat) : Chip :=
  match index with
  | 0x3011 | 0x2030 => c.evalSquall
  | 0x3820 => c.evalPanic
  | 0x1401 => if h : sub - 1 < 6 then c.regionsWritten ⟨sub - 1, h⟩ else c
  | 0x2022 => c.startWaiting
  | _ => c

/-- A write of a persistent entry: the store, then the value, then what follows from it (13 R368). -/
def Chip.storeEntryValue (c : Chip) (a : Access) (index sub v : Nat) : Nat × Chip :=
  if c.ledger.failed then (abHardware, c)
  else (0, ((c.persist index sub v).entryStored index sub).noteStored a index sub)

/-- A secret is set (12 R326; Table 13-13): stored in SECRETS, not in the dictionary store. -/
def Chip.storeSecret (c : Chip) (a : Access) (index sub : Nat) (f : Chip → Chip) : Nat × Chip :=
  if c.ledger.failed then (abHardware, c) else (0, (f c).noteStored a index sub)

/-- Write many persistent entries as one persistent write (13 R367, R368; 15 R395): the store, then the values with what each
changes at once (10 R276; 04 R122, R130; 05 R153; 03 R85; 02 R66). A change of the locked ways that R130 refuses refuses all. -/
def Chip.adoptStore (c : Chip) (vals : SMap Nat) : Nat × Chip :=
  let old := c
  let new : Chip := c.onRing fun r => { r with stored := vals }
  let scratch := new.par 0x3000 2 0
  let pin := new.par 0x3000 3 0
  let ways := c.inService && decide (scratch ≠ c.par 0x3000 2 0 ∨ pin ≠ c.par 0x3000 3 0)
  if c.ledger.failed then (abHardware, c)
  else if ways && c.wayConflict scratch pin then (abConflict, c)
  else
    let c := (List.finRange 16).foldl (fun (c : Chip) (n : RailNo) =>
      if c.sqStored n = old.sqStored n then c else c.sqApply n (old.sqStored n) (c.sqStored n).toNat) (c.storeAll vals)
    let c := if ways then c.startWays scratch pin else c
    let c := (c.presentHeads.filter (fun h => c.dcRegions h != old.dcRegions h)).foldl (fun (c : Chip) (h : HeadNo) => c.regionsWritten h)
      c.evalSquall.evalPanic
    (0, c.startWaiting)

/-- DICT_DEFAULTS (13 R367): every persistent entry of the Operator level returns to its default. -/
def Chip.dictDefaults (c : Chip) (a : Access) : Nat × Chip :=
  let keep (p : Nat × Nat) : Bool := match dictRow (p.1 / 256) (p.1 % 256) with
    | some r => decide (r.level ≠ 1)
    | none => true
  let (e, c) := c.adoptStore (c.ring.stored.filter keep)
  (e, if e = 0 then c.noteStored a 0x1140 1 else c)

/-- The action of STORE_IMPORT: a KLX-7128 store of format 3 or 4 (15 R395). -/
def Chip.storeImport (c : Chip) (b : List Byte) : Nat × Chip :=
  if c.ledger.failed then (abHardware, c)
  else match storeParse b with
    | some (f, es) =>
      if f = 3 || f = 4 then
        let (e, d) := c.adoptStore (c.takenInto es c.ring.stored)
        (e, if e = 0 then d.setVol 0x9040 7 (es.countP (fun x => !c.takesEntry x)) else d)
      else (abRange, c)
    | none => (abRange, c)

/-- The action of STORE_RESTORE: a body of a format the image reads (15 R394, R395). -/
def Chip.storeRestore (c : Chip) (b : List Byte) : Nat × Chip :=
  if c.ledger.failed then (abHardware, c)
  else match storeParse b with
    | some (f, es) =>
      if c.image.formatMin ≤ f && f ≤ c.image.format then
        let (e, d) := c.adoptStore (c.takenInto es [])
        (e, if e = 0 then d.onBoot fun x => { x with storeDefaults := false } else d)
      else (abRange, c)
    | none => (abRange, c)

/-- The action of CRYPTO_ERASE, RTV_RESPONSE and the entries of 1000 to 3FFF that do more than hold a value. -/
def Chip.actLow (c : Chip) (a : Access) (index sub v : Nat) : Option (Nat × Chip) :=
  match index with
  | 0x1110 =>
    let key : Option (BitVec 256) := if v = 0 then none else some (BitVec.ofNat 256 v)
    some (c.storeSecret a index sub fun c => c.onRing fun r => if sub = 1 then { r with keyOp := key } else { r with keyCust := key })
  | 0x1140 => some (c.dictDefaults a)
  | 0x2041 => some (c.evacCmd v)
  | 0x2070 => some (c.objCmd a (BitVec.ofNat 512 v))
  | 0x3000 =>
    let scratch := if sub = 2 then v else c.par 0x3000 2 0
    let pin := if sub = 3 then v else c.par 0x3000 3 0
    some (if c.wayConflict scratch pin then (abConflict, c)
      else let (e, c) := c.storeEntryValue a index sub v; (e, if e = 0 then c.startWays scratch pin else c))
  | 0x3813 => some (c.retireCmd v)
  | _ => none

/-- The action of SG_INIT (06 R180; 16 R405): of a group that is FAILED or EMPTY. -/
def Chip.sgInit (c : Chip) (g : Nat) : Nat × Chip :=
  if c.id.part.groups ≤ g then (abRange, c)
  else if !decide ((c.group g).state = .empty ∨ (c.group g).state = .failed) then (abConflict, c)
  else (0, (c.discardGroup g).startInit g)

/-- The action of MED_REMOVE (06 R190). -/
def Chip.medRemove (c : Chip) (n : Nat) : Nat × Chip :=
  if 9 * c.id.part.groups ≤ n then (abRange, c)
  else let (ok, c) := c.removal n; (if ok then 0 else abConflict, c)

/-- The actions of the entries of 4000 to 6FFF that do more than hold a value. -/
def Chip.actMid (c : Chip) (a : Access) (index sub v : Nat) : Option (Nat × Chip) :=
  match index with
  | 0x4004 => some (c.medRemove v)
  | 0x4013 => some (c.sgInit v)
  | 0x5000 => some (0, c.pairReplace v)
  | 0x5020 => if sub = 6 then some (c.storeSecret a index sub fun c => c.onWit fun w => { w with keySet := true }) else none
  | 0x5030 => if sub = 1 then some c.handoverCmd else none
  | 0x5040 => if sub = 1 then some (0, c.wantRehearsal true true) else none
  | 0x6001 =>
    if h : sub - 1 < 16 then
      let n : RailNo := ⟨sub - 1, h⟩
      let v := v - bits v 51 51 * 2 ^ 51 + bits (c.par 0x6001 sub (sqDefault (sub - 1))) 51 51 * 2 ^ 51
      let e := c.sqCheck n v
      let old := c.sqStored n
      some (if e ≠ 0 then (e, c) else let (e, c) := c.storeEntryValue a index sub v; (e, if e = 0 then c.sqApply n old v else c))
    else none
  | 0x6004 => if sub = 4 then some (0, c.groupOn v) else none
  | 0x6012 => if sub = 4 then some c.probeCmd else none
  | 0x6020 => if sub = 2 then some (c.wrapCmd v) else none
  | _ => none

/-- The actions of the entries of 7000 to 8FFF that do more than hold a value; `ok`: a signature in the value
verifies. -/
def Chip.actHigh (c : Chip) (a : Access) (index sub v : Nat) (ok : Bool) : Option (Nat × Chip) :=
  match index with
  | 0x7010 =>
    if sub = 4 then some (c.rawWrite (c.levelOf a) (c.sel a.req 0x7010 1) ((toBytes 256 v).take (c.sel a.req 0x7010 3 256))) else none
  | 0x7020 => match sub with
    | 5 => some (c.userUnlock v)
    | 6 => some (c.userLock v)
    | _ => let (e, c) := c.userPassword (sub - 1) v; some (e, if e = 0 then c.noteStored a index sub else c)
  | 0x7031 => some (c.counterInc v)
  | 0x7040 => if sub = 5 then some c.refreshCmd else none
  | 0x8011 => some (c.cryptoErase a (BitVec.ofNat 8 v))
  | 0x8050 => some (c.rtvResponse ok)
  | _ => none

/-- The actions of the entries of 9000 to AFFF that do more than hold a value. -/
def Chip.actTop (c : Chip) (a : Access) (index sub v : Nat) (bytes : List Byte) (ok : Bool) : Option (Nat × Chip) :=
  match index, sub with
  | 0x9000, 6 => some c.fwConfirm
  | 0x9000, 7 => some c.fwRevert
  | 0x9010, 2 => some (c.updBlock (c.sel a.req 0x9010 1 0xFF) bytes ok)
  | 0x9010, 3 => some (c.updEnd v ok)
  | 0x9030, 1 => some (c.fwActivate v)
  | 0x9040, 3 => let (e, c) := c.storeImport bytes; some (e, if e = 0 then c.noteStored a index sub else c)
  | 0x9040, 5 => let (e, c) := c.storeRestore bytes; some (e, if e = 0 then c.noteStored a index sub else c)
  | 0x9050, _ => some c.recoveryCmd
  | 0xA000, _ => some (0, c.clearSeen (BitVec.ofNat 64 v))
  | 0xA100, _ => some (c.bistCmd a.req (v % 256) (v / 256 % 256))
  | 0xA110, _ => some (c.coreRetire v)
  | 0xA120, _ => if h : sub - 1 < 6 then some (c.headIsolate a ⟨sub - 1, h⟩ v) else none
  | _, _ => none

/-- Steps 2 and 3 of a write that has been checked (13 R368): an abort code, 0 for none. -/
def Chip.applyWrite (c : Chip) (a : Access) (r : DictRow) (sub : Nat) (bytes : List Byte) (ok : Bool) : Nat × Chip :=
  let v := ofBytes bytes
  let act := match r.index / 4096 with
    | 1 | 2 | 3 => c.actLow a r.index sub v
    | 4 | 5 | 6 => c.actMid a r.index sub v
    | 7 | 8 => c.actHigh a r.index sub v ok
    | _ => c.actTop a r.index sub v bytes ok
  match act with
  | some x => x
  | none =>
    if r.perReq then (0, c.setSel a.req r.index sub v)
    else if r.persistent then c.storeEntryValue a r.index sub v
    else (0, c.setVol r.index sub v)

/-- A write of an entry (13 R368; 00 R12): an abort code, 0 for none. A write to an entry that is read only
has no effect, and is refused in the full configuration. -/
def Chip.writeEntry (c : Chip) (a : Access) (index sub : Nat) (bytes : List Byte) (ok : Bool) : Nat × Chip :=
  match c.entry index sub with
  | none => (abNoEntry, c)
  | some r =>
    if r.acc = .ro then (if c.id.part.full then abWriteLocked else 0, c)
    else
      let e := c.writeFault a r sub bytes
      if e ≠ 0 then (e, c) else if 0xF000 ≤ r.index then (0, c) else c.applyWrite a r sub bytes ok

/-- LAST_ABORT (1130:03): the access that failed and its code (13 R361). -/
def Chip.recordAbort (c : Chip) (q : Requester) (index sub code : Nat) : Chip :=
  let who : List Byte := match q with
    | .ring m => toBytes 6 m.toNat ++ [0, 0]
    | .mailbox h => toBytes 6 0 ++ [1, BitVec.ofNat 8 h.val]
    | .window h => toBytes 6 0 ++ [2, BitVec.ofNat 8 h.val]
  c.onRing fun r => { r with lastAbort := ofBytes (who ++ toBytes 2 index ++ [BitVec.ofNat 8 sub, 0] ++ toBytes 4 code) }

end Sys2Proof.Machine
end

