-- ==== Sys2Proof/Machine/Transfers.lean ====
section
/-! DEFINITION. The dictionary over the ring (13 R357 to R361): authentication, expedited and segmented
transfers, the cache of outcomes, and the rows of the frames and timers. -/

namespace Sys2Proof.Machine

/-- Requests of the ring are served: firmware and MG run and a port is up (01 R17; 13 R349). -/
def Chip.ringServed (c : Chip) : Bool :=
  c.boot.mainOut && c.boot.romDone && !c.boot.rom && c.mgRuns && (c.portUp 0 || c.portUp 1)

/-- The request is authenticated (13 R357). -/
def authed (a : Access) : Bool := match a.auth with | .operator | .custodian => true | _ => false

/-- The tag verifies under neither key, or the level's key is not set (13 R357). -/
def Chip.authBad (c : Chip) (a : Access) : Bool :=
  match a.auth with
  | .none => false
  | .bad => true
  | .operator => c.ring.keyOp.isNone
  | .custodian => c.ring.keyCust.isNone

/-- Send a dictionary frame to a ring requester (Tables 13-5, 13-6). -/
def Chip.dictFrame (c : Chip) (req : Requester) (tid : BitVec 8) (auth : Bool) (cmd : BitVec 8) (index : BitVec 16) (sub flags : BitVec 8)
    (seg value : Nat) (data : List Byte) : Chip :=
  match req with
  | .ring m => c.emit (.dict m tid cmd index sub flags seg (BitVec.ofNat 32 value) data auth)
  | _ => c

/-- Send ABORT, which ends a transfer (13 R361). -/
def Chip.ringAbort (c : Chip) (req : Requester) (tid : BitVec 8) (auth : Bool) (index : BitVec 16) (sub : BitVec 8) (code : Nat) : Chip :=
  ((c.dictFrame req tid auth 6 index sub 0 0 code []).recordAbort req index.toNat sub.toNat code).bump 0x1130 2

/-- Send a final answer (13 R358): DONE, ABORT, or the one SEGMENT of an expedited read. -/
def Chip.sendAnswer (c : Chip) (req : Requester) (tid : BitVec 8) (auth : Bool) (index : BitVec 16) (sub : BitVec 8) (x : DictAnswer) : Chip :=
  match x with
  | .done => c.dictFrame req tid auth 7 index sub 0 0 0 []
  | .abort code => c.ringAbort req tid auth index sub code.toNat
  | .value b => c.dictFrame req tid auth 4 index sub 1 0 b.length b

/-- Keep the outcome of a closed transfer: the last 8 of each requester (13 R360). -/
def Chip.keepOutcome (c : Chip) (k : Closed) : Chip :=
  c.onRing fun r =>
    let others := r.closed.filter (fun x => !decide (x.req = k.req ∧ x.tid = k.tid))
    let mine := (others.filter (fun x => decide (x.req = k.req))).take 7
    { r with closed := k :: (mine ++ others.filter (fun x => decide (x.req ≠ k.req))) }

/-- Close a transfer with its final answer (13 R358, R360). -/
def Chip.closeWith (c : Chip) (req : Requester) (tid : BitVec 8) (auth : Bool) (index : BitVec 16) (sub cmd : BitVec 8) (x : DictAnswer) : Chip :=
  (c.sendAnswer req tid auth index sub x).keepOutcome { req := req, tid := tid, index := index, sub := sub, cmd := cmd, answer := x }

/-- The open transfer of a requester with a TID. -/
def Chip.openXfer (c : Chip) (req : Requester) (tid : BitVec 8) : Option Transfer :=
  c.ring.transfers.find? (fun t => decide (t.req = req ∧ t.tid = tid))

/-- Open a transfer, or change an open one. -/
def Chip.putXfer (c : Chip) (t : Transfer) : Chip :=
  c.onRing fun r => { r with transfers := r.transfers.filter (fun x => !decide (x.req = t.req ∧ x.tid = t.tid)) ++ [t] }

/-- Take a transfer from the open ones. -/
def Chip.dropXfer (c : Chip) (t : Transfer) : Chip :=
  c.onRing fun r => { r with transfers := r.transfers.filter (fun x => !decide (x.req = t.req ∧ x.tid = t.tid)) }

/-- Segments of a value (13 R358). -/
def segCount (b : List Byte) : Nat := max 1 ((b.length + 63) / 64)

/-- Send the segments of a read that the window allows: up to 16 beyond the last ACK (13 R358). -/
def Chip.sendSegs (c : Chip) (t : Transfer) : Chip :=
  let total := segCount t.data
  let upto := min total (t.next + 16)
  let c := ((List.range upto).filter (fun i => decide (t.sent ≤ i))).foldl (fun (c : Chip) (i : Nat) =>
    c.dictFrame t.req t.tid t.auth 4 t.index t.sub (if i + 1 = total then 1 else 0) i (if i = 0 then t.size else 0)
      ((t.data.drop (64 * i)).take 64)) c
  c.putXfer { t with sent := max t.sent upto }

/-- Send an ACK with the next segment expected (13 R359). -/
def Chip.sendAck (c : Chip) (t : Transfer) (gap : Bool) : Chip :=
  c.dictFrame t.req t.tid t.auth 5 t.index t.sub (if gap then 4 else 0) 0 t.next []

/-- Answer a repeated request from the cache (13 R360); a value that took segments is sent in segments again. -/
def Chip.answerCached (c : Chip) (auth : Bool) (k : Closed) : Chip :=
  match k.answer with
  | .value b =>
    if 64 < b.length then
      c.sendSegs { req := k.req, tid := k.tid, index := k.index, sub := k.sub, size := b.length, data := b, auth := auth }
    else c.sendAnswer k.req k.tid auth k.index k.sub k.answer
  | x => match x with
    | .abort code => c.dictFrame k.req k.tid auth 6 k.index k.sub 0 0 code.toNat []
    | _ => c.sendAnswer k.req k.tid auth k.index k.sub x

/-- A frame of a requester on the ring, with its authentication checked (13 R357). -/
def Chip.ringFrame (c : Chip) (a : Access) (index : BitVec 16) (sub : BitVec 8) (f : Chip → Chip) : Chip :=
  match a.req with
  | .ring _ =>
    if !c.ringServed then c
    else if c.authBad a then (c.ringAbort a.req a.tid false index sub abAuth).bump 0x1110 3
    else f c
  | _ => c

/-- READ, WRITE or WRITE_INIT (13 R359, R360, R365): a cached TID is answered from the cache, an open one goes
on, and a request beyond 4 open transfers of its requester or 64 in all is refused. -/
def Chip.ringRequest (c : Chip) (a : Access) (index : BitVec 16) (sub cmd : BitVec 8) (f : Chip → Chip) : Chip :=
  c.ringFrame a index sub fun c =>
    match c.ring.closed.find? (fun k => decide (k.req = a.req ∧ k.tid = a.tid ∧ k.index = index ∧ k.sub = sub ∧ k.cmd = cmd)) with
    | some k => c.answerCached (authed a) k
    | none =>
      if decide (c.sec.eraseReq.map (fun (x : Access) => (x.req, x.tid)) = some (a.req, a.tid)) && index == 0x8011 && sub == 1 then c
      else match c.openXfer a.req a.tid with
        | some t =>
          if t.index = index ∧ t.sub = sub ∧ t.write = decide (cmd = 3) then
            if t.write then c.sendAck t false else c.sendSegs { t with sent := t.next }
          else c.ringAbort a.req a.tid (authed a) index sub abSequence
        | none =>
          if decide (4 ≤ c.ring.transfers.countP (fun t => decide (t.req = a.req))) || decide (64 ≤ c.ring.transfers.length) then
            c.ringAbort a.req a.tid (authed a) index sub abLimit
          else f (c.useContext a.req)

/-- Answer a write that has ended; an accepted CRYPTO_ERASE is answered at its completion (13 R358; 12 R327). -/
def Chip.ringWritten (c : Chip) (a : Access) (index : BitVec 16) (sub cmd : BitVec 8) (e : Nat) : Chip :=
  if e ≠ 0 then c.closeWith a.req a.tid (authed a) index sub cmd (.abort (BitVec.ofNat 32 e))
  else if index = 0x8011 ∧ sub = 1 then c
  else c.closeWith a.req a.tid (authed a) index sub cmd .done

/-- A READ on the ring (13 R358, R366). -/
def Chip.ringRead (c : Chip) (a : Access) (index : BitVec 16) (sub : BitVec 8) (describe : Bool) (off : Nat) : Chip :=
  c.ringRequest a index sub 1 fun c =>
    let fail (c : Chip) (e : Nat) : Chip := c.closeWith a.req a.tid (authed a) index sub 1 (.abort (BitVec.ofNat 32 e))
    match c.entry index.toNat sub.toNat with
    | none => fail c abNoEntry
    | some r =>
      if describe then c.closeWith a.req a.tid (authed a) index sub 1 (.value (c.descriptor r sub.toNat))
      else if off ≠ 0 ∧ r.type ≠ .domain then fail c abLength
      else
        let (e, b, c) := c.readEntry a index.toNat sub.toNat
        if e ≠ 0 then fail c e
        else if b.length < off then fail c abLength
        else if r.type = .domain ∨ 64 < b.length then
          c.sendSegs { req := a.req, tid := a.tid, index := index, sub := sub, size := b.length, data := b.drop off, auth := (authed a) }
        else c.closeWith a.req a.tid (authed a) index sub 1 (.value b)

/-- DICT_READ: a READ request (13 R358). -/
def execDictRead (a : Access) (index : BitVec 16) (sub : BitVec 8) (describe : Bool) (off : Nat) (s : State) :
    Host.Outcome State Fault Refusal :=
  s.onChip fun c => c.ringRead a index sub describe off

/-- DICT_WRITE: a WRITE of a whole value of at most 64 B (13 R358, R368). A DOMAIN is written by a segmented
transfer only. -/
def execDictWrite (a : Access) (index : BitVec 16) (sub : BitVec 8) (size : Nat) (data : List Byte) (sigOk : Bool) (s : State) :
    Host.Outcome State Fault Refusal :=
  s.onChip fun c => c.ringRequest a index sub 2 fun c =>
    let isDomain := match c.entry index.toNat sub.toNat with | some r => decide (r.type = .domain) | none => false
    if size ≠ data.length || 64 < size || isDomain then c.ringWritten a index sub 2 abLength
    else
      let (e, c) := c.writeEntry a index.toNat sub.toNat data sigOk
      c.ringWritten a index sub 2 e

/-- What refuses a WRITE_INIT (13 R359, R368): an abort code, 0 for none. -/
def Chip.initFault (c : Chip) (a : Access) (index sub size : Nat) (data : List Byte) : Nat :=
  match c.entry index sub with
  | none => abNoEntry
  | some r =>
    if r.acc = .ro then (if c.id.part.full then abWriteLocked else if r.type.size = size ∧ data.length = 64 then 0 else abLength)
    else if c.levelOf a < r.level then abAccessDenied
    else if size < 65 || data.length ≠ 64 || (r.type ≠ .domain && decide (size ≠ r.type.size)) then abLength
    else 0

/-- WRITE_INIT: opens a segmented write with its first segment (13 R358). -/
def execWriteInit (a : Access) (index : BitVec 16) (sub : BitVec 8) (size : Nat) (data : List Byte) (s : State) :
    Host.Outcome State Fault Refusal :=
  s.onChip fun c => c.ringRequest a index sub 3 fun c =>
    let e := c.initFault a index.toNat sub.toNat size data
    if e ≠ 0 then c.closeWith a.req a.tid (authed a) index sub 3 (.abort (BitVec.ofNat 32 e))
    else
      let t : Transfer := { req := a.req, tid := a.tid, index := index, sub := sub, write := true, size := size, next := 1, data := data, auth := (authed a) }
      (c.putXfer t).sendAck t false

/-- Abort an open transfer (13 R359). -/
def Chip.abortXfer (c : Chip) (t : Transfer) (code : Nat) : Chip :=
  (c.dropXfer t).closeWith t.req t.tid t.auth t.index t.sub (if t.write then 3 else 1) (.abort (BitVec.ofNat 32 code))

/-- The answer to a frame that names a TID that is neither open nor cached (13 R360). -/
def Chip.unknownTid (c : Chip) (a : Access) (index : BitVec 16) (sub : BitVec 8) : Chip :=
  if c.ring.closed.any (fun k => decide (k.req = a.req ∧ k.tid = a.tid)) then c
  else c.ringAbort a.req a.tid (authed a) index sub abUnknown

/-- The next segment of a write is accepted; the final one completes the value, and the write is carried out
(13 R358, R359, R368). -/
def Chip.acceptSeg (c : Chip) (a : Access) (t : Transfer) (final : Bool) (data : List Byte) (sigOk : Bool) : Chip :=
  let got := t.data.length + data.length
  if (final && got != t.size) || (!final && (data.length != 64 || decide (t.size ≤ got))) then c.abortXfer t abLength
  else
    let t' := { t with next := t.next + 1, data := t.data ++ data }
    if !final then (c.putXfer t').sendAck t' false
    else
      let c := (c.sendAck t' false).dropXfer t
      let (e, c) := c.writeEntry a t.index.toNat t.sub.toNat t'.data sigOk
      c.ringWritten a t.index t.sub 3 e

/-- DICT_SEGMENT: a SEGMENT of a write (13 R359, R360). -/
def execDictSegment (a : Access) (index : BitVec 16) (sub : BitVec 8) (seg : Nat) (final : Bool) (data : List Byte) (sigOk : Bool) (s : State) :
    Host.Outcome State Fault Refusal :=
  s.onChip fun c => c.ringFrame a index sub fun c =>
    match c.ring.transfers.find? (fun t => decide (t.req = a.req ∧ t.tid = a.tid ∧ t.index = index ∧ t.sub = sub ∧ t.write = true)) with
    | some t =>
      if t.next + 16 ≤ seg then c.abortXfer t abSequence
      else if t.next < seg then c.sendAck t true
      else if seg < t.next then c.sendAck t false
      else c.acceptSeg a t final data sigOk
    | none =>
      match c.ring.closed.find? (fun k => decide (k.req = a.req ∧ k.tid = a.tid ∧ k.index = index ∧ k.sub = sub ∧ k.cmd ≠ 1)) with
      | some k => c.answerCached (authed a) k
      | none => c.unknownTid a index sub

/-- DICT_ACK: the requester has accepted the segments before `next` (13 R358, R359). -/
def execDictAck (a : Access) (index : BitVec 16) (sub : BitVec 8) (next : Nat) (gap : Bool) (s : State) : Host.Outcome State Fault Refusal :=
  s.onChip fun c => c.ringFrame a index sub fun c =>
    match c.ring.transfers.find? (fun t => decide (t.req = a.req ∧ t.tid = a.tid ∧ t.index = index ∧ t.sub = sub ∧ t.write = false)) with
    | none => c.unknownTid a index sub
    | some t =>
      if t.sent < next then c.abortXfer t abSequence
      else if next < t.next then c
      else if next = segCount t.data then
        (c.dropXfer t).keepOutcome { req := t.req, tid := t.tid, index := t.index, sub := t.sub, cmd := 1, answer := .value t.data }
      else c.sendSegs { t with next := next, sent := if gap then next else t.sent }

/-- DICT_ABORT: the requester ends its transfer (13 R361). -/
def execDictAbort (a : Access) (index : BitVec 16) (sub : BitVec 8) (code : BitVec 32) (s : State) : Host.Outcome State Fault Refusal :=
  s.onChip fun c => c.ringFrame a index sub fun c =>
    match c.openXfer a.req a.tid with
    | none => c.unknownTid a index sub
    | some t =>
      (((c.dropXfer t).keepOutcome { req := t.req, tid := t.tid, index := t.index, sub := t.sub, cmd := if t.write then 3 else 1, answer := .abort code }).recordAbort
        a.req t.index.toNat t.sub.toNat code.toNat).bump 0x1130 2

/-- SEGMENT_RESEND_TIMEOUT: no ACK has advanced the window for 5 ms (13 R359). -/
def execSegmentResendTimeout (req : Requester) (tid : BitVec 8) (s : State) : Host.Outcome State Fault Refusal :=
  s.onChip fun c =>
    match c.openXfer req tid with
    | some t => if !t.write && c.ringServed then c.sendSegs { t with sent := t.next } else c
    | none => c

/-- TRANSFER_TIMEOUT: no frame of a ring transfer for 100 ms (13 R359). -/
def execTransferTimeout (req : Requester) (tid : BitVec 8) (s : State) : Host.Outcome State Fault Refusal :=
  s.onChip fun c =>
    match req, c.openXfer req tid with
    | .ring _, some t => if c.mgRuns then c.abortXfer t abTimeout else c
    | _, _ => c

/-- TRANSFER_CACHE_EXPIRED: an outcome is older than 1 s (13 R360). -/
def execTransferCacheExpired (req : Requester) (tid : BitVec 8) (s : State) : Host.Outcome State Fault Refusal :=
  s.onChip fun c => c.onRing fun r => { r with closed := r.closed.filter (fun k => !decide (k.req = req ∧ k.tid = tid)) }

end Sys2Proof.Machine
end

