-- ==== Sys2Proof/Machine/RingRows.lean ====
section
/-! DEFINITION. The ring: frames received, forwarded and dropped, port states, the bypass relay, and the
merging of notifications (13 R349 to R356, R362). -/

namespace Sys2Proof.Machine

/-- The broadcast address (Table 13-1). -/
def broadcastAddr : BitVec 48 := BitVec.allOnes 48

/-- The other port of a ring node. -/
def otherPort (p : PortNo) : PortNo := if p = 0 then 1 else 0

/-- The frame of a source that this SEQ would be, as a distance above the highest accepted: modulo 2^32 (13 R354). -/
def seqAhead (top seq : BitVec 32) : Nat := (seq - top).toNat

/-- Take a SEQ into a source's record: true for a duplicate (13 R354). -/
def SrcRec.take (r : SrcRec) (boot : BitVec 16) (seq : BitVec 32) : Bool × SrcRec :=
  if r.boot ≠ boot then (false, { r with boot := boot, top := seq, seen := 0 })
  else
    let up := seqAhead r.top seq
    let back := seqAhead seq r.top
    if up = 0 then (true, r)
    else if up < 2 ^ 31 then (false, { r with top := seq, seen := if up ≤ 64 then (r.seen <<< up) ||| (1#64 <<< (up - 1)) else 0 })
    else if 64 ≤ back || r.seen.getLsbD (back - 1) then (true, r)
    else (false, { r with seen := r.seen ||| (1#64 <<< (back - 1)) })

/-- Record the arrival of a frame for this node in its source's record, of which 64 are kept; a duplicate's
delivery is dropped and counted (13 R354). -/
def Chip.sourceFrame (c : Chip) (p : PortNo) (f : RingFrame) : Chip :=
  let old := c.ring.sources.find? (fun r => decide (r.src = f.src))
  let (dup, r) := match old with
    | some r => r.take f.boot f.seq
    | none => (false, { src := f.src, boot := f.boot, top := f.seq, lastA := c.now, lastB := c.now })
  let r := if p = 0 then { r with lastA := c.now } else { r with lastB := c.now }
  let c := c.onRing fun x => { x with sources := (r :: x.sources.filter (fun q => decide (q.src ≠ f.src))).take 64 }
  if dup then c.bump 0x1102 1 else c

/-- Forward a frame from the other port with HOPS decremented; a frame that reaches its 129th byte is cut, its FCS
inverted (13 R351, R352). -/
def Chip.forwardFrame (c : Chip) (p : PortNo) (f : RingFrame) : Chip :=
  let q := otherPort p
  if f.dst = c.id.ringMac || !c.portUp q then c
  else
    let c := (c.emit (.ringForward q { f with hops := f.hops - 1, fcsOk := f.fcsOk && !f.overlong })).bump 0x1101 (q.val + 3)
    if f.overlong then c.bump 0x1102 4 else c

/-- RING_FRAME_RX: a frame arrives on a port (13 R352 to R354). -/
def execRingFrameRx (p : PortNo) (f : RingFrame) (s : State) : Host.Outcome State Fault Refusal :=
  s.onChip fun c =>
    if !c.boot.mainOut || !c.portUp p || !f.yelori then c
    else
      let c := c.bump 0x1101 (p.val + 1)
      if f.src = c.id.ringMac then c
      else if f.hops = 0 then c.bump 0x1102 3
      else
        let c := c.forwardFrame p f
        if !f.fcsOk then c.bump 0x1102 2
        else if (f.dst = c.id.ringMac || f.dst = broadcastAddr) && !f.overlong then c.sourceFrame p f
        else c

/-- RING_PORT_STATE_CHANGE: a port goes down, negotiates or comes up (13 R349). -/
def execRingPortStateChange (p : PortNo) (v : Fin 3) (s : State) : Host.Outcome State Fault Refusal :=
  s.onChip fun c =>
    if c.boot.mainOut then
      c.onRing fun r => { r with ports := r.ports.set p.val (match v with | 0 => .down | 1 => .negotiating | 2 => .up) p.isLt }
    else c

/-- RING_SERDES_LOCK: both ring SerDes have locked (13 R355). -/
def execRingSerdesLock (s : State) : Host.Outcome State Fault Refusal :=
  s.onChip fun c => if c.boot.mainOut && !c.pwr.bypHold then c.onRing fun r => { r with lockWait := true } else c

/-- BYP_HOLD_RAISE: 1 ms after the lock BYP_HOLD goes high (13 R355). -/
def execBypHoldRaise (s : State) : Host.Outcome State Fault Refusal :=
  s.onChip fun c =>
    if c.ring.lockWait && c.boot.mainOut then
      (c.onRing fun r => { r with lockWait := false }).onPwr fun p => { p with bypHold := true }
    else c

/-- SOURCE_RECORD_EXPIRED: a source record has not been used for 1 s (13 R354). -/
def execSourceRecordExpired (src : BitVec 48) (s : State) : Host.Outcome State Fault Refusal :=
  s.onChip fun c => c.onRing fun r => { r with sources := r.sources.filter (fun x => decide (x.src ≠ src)) }

/-- NOTIFY_MERGE_EXPIRED: the 10 ms of a code end; a change merged in them is sent, and a new 10 ms begins
(13 R362). Notifications stop with MG (01 R17). -/
def execNotifyMergeExpired (code : Nat) (s : State) : Host.Outcome State Fault Refusal :=
  s.onChip fun c =>
    if !c.ring.merging.contains code then c
    else match c.ring.merged.find code with
      | none => c.onRing fun r => { r with merging := r.merging.filter (· != code) }
      | some (key, data) =>
        let c := c.onRing fun r => { r with merged := r.merged.del code }
        if c.mgRuns then c.sendNote code (key / 256) (key % 256) data
        else c.onRing fun r => { r with merging := r.merging.filter (· != code) }

end Sys2Proof.Machine
end

