-- ==== Sys2Proof/Machine/Mailbox.lean ====
section
/-! DEFINITION. The mailbox of a head (03 R88, R89): what each command answers and what it does, but for the
dictionary and object commands of Olieno. -/

namespace Sys2Proof.Machine

/-- The doorbell of a head is set: a command waits for MG, or an erase for its completion. -/
def Chip.doorbell (c : Chip) (h : HeadNo) : Bool :=
  c.deferred.any (fun p => decide (p.1 = h)) || decide (c.sec.eraseHead = some h) || decide (c.sec.eraseReq.map (fun (a : Access) => a.req) = some (.mailbox h))

/-- A mailbox command at a head: it needs the head's link; the ROM serves few commands (15 R396); while MG
is stopped the command waits (03 R88); before service few commands are served (15 R387); a Custodian's
command needs the head's level (03 R89). -/
def Chip.boxIn (c : Chip) (h : HeadNo) (i : Instr) (early rom custodian : Bool) (f : Chip → Chip) : Chip :=
  if c.id.part.heads ≤ h.val || (c.head h).link != .up || !c.boot.mainOut || c.doorbell h then c
  else if c.boot.rom then (if rom then f c else c.mbox h .unsupported)
  else if !c.boot.romDone then c
  else if !c.mgRuns then { c with deferred := c.deferred ++ [(h, i)] }
  else if !c.inService && !early then c.mbox h .busy
  else if custodian && decide (c.mboxLevel h < 2) then c.mbox h .invalidSecurityState
  else f c

/-- A background operation of the head runs (03 R88). -/
def Chip.bgRuns (c : Chip) (h : HeadNo) : Bool := match (c.head h).bg with | some b => !b.done | none => false

/-- Start a background operation, whose return code will be `code`. -/
def Chip.startBg (c : Chip) (h : HeadNo) (kind : BgKind) (code : MboxCode := .success) : Chip :=
  (c.onHead h fun d => { d with bg := some { kind := kind, code := code } }).mbox h .backgroundStarted

/-- A command that reads: Success with field values. -/
def Chip.boxRead (c : Chip) (h : HeadNo) (i : Instr) (early rom : Bool) (d : Chip → MboxData) : Chip :=
  c.boxIn h i early rom false fun c => c.mbox h .success (d c)

/-- IDENTIFY: Vendor ID, Device ID, serial number and payload size (03 R79, R88). -/
def execIdentify (h : HeadNo) (s : State) : Host.Outcome State Fault Refusal :=
  s.onChip fun c => c.boxRead h (.identify h) true true fun c => .fields [c.id.vendor.toNat, c.id.device.toNat, c.id.serial.toNat, 65536]

/-- Progress of a Sanitize in percent: of the group least far, and in PAIRED the lower of the two chips
(12 R329). -/
def Chip.sanitizePercent (c : Chip) : Nat :=
  let groups := c.groupNos.filter (fun g => decide ((c.group g).state = .initialising))
  let own := groups.foldl (fun m g => min m ((c.group g).cursor * 100 / 2 ^ 25)) 99
  if c.sec.peerErasing then min own (Config.reading 0 c.clk.ticks % 101) else own

/-- Percentage complete of a background operation (Table 03-6): for an object command the fraction of its segments done. No
message carries the progress of a command that runs on the other chip: DESIGN CHOICE (notes/assumptions/40.md), it is
a free value until the result comes. -/
def Chip.bgPercent (c : Chip) (b : BgOp) : Nat :=
  if b.done then 100
  else match b.kind with
    | .objectCommand id => match c.cmd id with
      | some r =>
        if c.twin.fwdCmds.any (fun f => decide (f.cmd = id)) then Config.reading 2 c.clk.ticks % 101
        else if r.count = 0 then 0 else min 100 (100 * r.done / r.count)
      | none => 100
    | .sanitize => c.sanitizePercent
    | _ => Config.reading 1 c.clk.ticks % 101

/-- BACKGROUND_OPERATION_STATUS (03 R88). -/
def execBackgroundOperationStatus (h : HeadNo) (s : State) : Host.Outcome State Fault Refusal :=
  s.onChip fun c => c.boxRead h (.backgroundOperationStatus h) false false fun c =>
    match (c.head h).bg with
    | none => .status 0 false .success
    | some b => .status (c.bgPercent b) (!b.done) (if b.done then b.code else .success)

/-- GET_RESPONSE_MESSAGE_LIMIT (03 R88). -/
def execGetResponseMessageLimit (h : HeadNo) (s : State) : Host.Outcome State Fault Refusal :=
  s.onChip fun c => c.boxRead h (.getResponseMessageLimit h) false false fun c => .fields [(c.head h).respLimit.toNat]

/-- SET_RESPONSE_MESSAGE_LIMIT (03 R88). -/
def execSetResponseMessageLimit (h : HeadNo) (limit : BitVec 8) (s : State) : Host.Outcome State Fault Refusal :=
  s.onChip fun c => c.boxIn h (.setResponseMessageLimit h limit) false false false fun c =>
    (c.onHead h fun d => { d with respLimit := limit }).mbox h .success (.fields [limit.toNat])

/-- REQUEST_ABORT_BACKGROUND_OPERATION is not supported (Table 03-6). -/
def execRequestAbortBackgroundOperation (h : HeadNo) (s : State) : Host.Outcome State Fault Refusal :=
  s.onChip fun c => c.boxIn h (.requestAbortBackgroundOperation h) false false false fun c => c.mbox h .unsupported

/-- GET_EVENT_RECORDS: the records of one log, oldest first, with its overflow flag and count (03 R94). -/
def execGetEventRecords (h : HeadNo) (log : Nat) (s : State) : Host.Outcome State Fault Refusal :=
  s.onChip fun c => c.boxIn h (.getEventRecords h log) true false false fun c =>
    if hl : log < 5 then
      let l := (c.head h).logs.get ⟨log, hl⟩
      c.mbox h .success (.events l.recs false l.overflow l.overCount)
    else c.mbox h .invalidInput

/-- Clear records of one log; the overflow flag and count clear with any record. -/
def clearLog (l : EventLog) (all : Bool) (handles : List Nat) : EventLog :=
  { l with recs := if all then [] else l.recs.filter (fun r => !handles.contains r.handle), overflow := false, overCount := 0 }

/-- CLEAR_EVENT_RECORDS: by handle, or all of a log that has overflowed (03 R94). -/
def execClearEventRecords (h : HeadNo) (log : Nat) (all : Bool) (handles : List Nat) (s : State) : Host.Outcome State Fault Refusal :=
  s.onChip fun c => c.boxIn h (.clearEventRecords h log all handles) true false false fun c =>
    if hl : log < 5 then
      let l := (c.head h).logs.get ⟨log, hl⟩
      if all && !l.overflow then c.mbox h .invalidInput
      else if !all && !handles.all (fun x => l.recs.any (fun r => decide (r.handle = x))) then c.mbox h .invalidHandle
      else (c.onHead h fun d => { d with logs := d.logs.set log (clearLog l all handles) hl }).mbox h .success
    else c.mbox h .invalidInput

/-- GET_EVENT_INTERRUPT_POLICY: 1 for each log that raises MSI-X vector 1 (03 R96). -/
def execGetEventInterruptPolicy (h : HeadNo) (s : State) : Host.Outcome State Fault Refusal :=
  s.onChip fun c => c.boxRead h (.getEventInterruptPolicy h) true false fun c =>
    .fields ((List.range 5).map (fun i => boolNat ((c.head h).irqPolicy.getLsbD i)))

/-- SET_EVENT_INTERRUPT_POLICY: firmware interrupts are not supported (03 R96). -/
def execSetEventInterruptPolicy (h : HeadNo) (modes : Vector (Fin 4) 5) (s : State) : Host.Outcome State Fault Refusal :=
  s.onChip fun c => c.boxIn h (.setEventInterruptPolicy h modes) true false false fun c =>
    if modes.toList.any (fun m => decide (2 ≤ m.val)) then c.mbox h .invalidInput
    else
      (c.onHead h fun d => { d with irqPolicy := BitVec.ofNat 5 ((List.range 5).map (fun i => (modes.toList.getD i 0).val * 2 ^ i)).sum }).mbox h .success

/-- GET_FW_INFO: two slots, the slot that runs, the slot staged for the next reset or 0, no online activation,
and the version of each (Table 03-6; 15 R399). -/
def execGetFwInfo (h : HeadNo) (s : State) : Host.Outcome State Fault Refusal :=
  s.onChip fun c => c.boxRead h (.getFwInfo h) true true fun c =>
    let r := c.boot.record
    .fields [2, if c.boot.rom then 0 else 1 + boolNat c.runSlot, if r.state = .pending then 1 + boolNat r.active else 0, 0,
      (c.imageOf false).version.toNat, (c.imageOf true).version.toNat]

/-- The return code of a piece or an image that failed, by its 9010:06 code (15 R398). -/
def fwCode (e : Nat) : MboxCode := if e = 0 then .success else if e ≤ 2 then .invalidInput else .fwAuthenticationFailed

/-- Load one piece of a firmware transfer as a background operation (15 R398). -/
def Chip.fwPiece (c : Chip) (h : HeadNo) (u : Upload) (data : List Byte) (sigOk last : Bool) : Chip :=
  let had := c.slotValid (!u.slot)
  let (e, c) := c.loadPiece u data sigOk
  match e, last, c.boot.upload with
  | 0, true, some u =>
    let (e, c) := c.endUpload u sigOk
    let c := c.startBg h .transferFw (fwCode e)
    if e = 0 && c.boot.rom then c.recCommit u.slot had else c
  | _, _, _ => c.startBg h .transferFw (fwCode e)

/-- The first piece of a transfer (15 R398). -/
def Chip.fwInitiate (c : Chip) (h : HeadNo) (slot : Bool) (off : Nat) (data : List Byte) (sigOk : Bool) : Chip :=
  if c.boot.upload.isSome then c.mbox h .busy
  else if (if c.boot.rom then c.recRefused slot else c.slotRefused slot) then c.mbox h .invalidSlot
  else if off ≠ 0 then c.mbox h .fwTransferOutOfOrder
  else
    let c := c.beginUpload slot .mailbox
    match c.boot.upload with
    | some u => c.fwPiece h u data sigOk false
    | none => c

/-- A further piece of a transfer (15 R398). -/
def Chip.fwContinue (c : Chip) (h : HeadNo) (slot : Bool) (off : Nat) (data : List Byte) (sigOk last : Bool) : Chip :=
  match c.boot.upload with
  | none => c.mbox h .fwTransferOutOfOrder
  | some u =>
    if u.via != .mailbox then c.mbox h .busy
    else if u.slot != slot || 128 * off ≠ u.next then c.mbox h .fwTransferOutOfOrder
    else c.fwPiece h u data sigOk last

/-- The effect of Transfer FW (15 R398). -/
def Chip.transferFw (c : Chip) (h : HeadNo) (action : FwAction) (slot off : Nat) (data : List Byte) (sigOk : Bool) : Chip :=
  if action = .abort then
    match c.boot.upload with
    | some u => if u.via = .mailbox then (c.dropUpload 0).mbox h .success else c.mbox h .busy
    | none => c.mbox h .fwTransferOutOfOrder
  else if action = .full || data.length % 128 ≠ 0 then c.mbox h .invalidInput
  else if slot ≠ 1 ∧ slot ≠ 2 then c.mbox h .invalidSlot
  else if c.ledger.failed then c.mbox h .internalError
  else if c.bgRuns h then c.mbox h .busy
  else if action = .initiate then c.fwInitiate h (decide (slot = 2)) off data sigOk
  else c.fwContinue h (decide (slot = 2)) off data sigOk (decide (action = .finish))

/-- TRANSFER_FW (15 R398); in the ROM at every head whatever its level (15 R396). -/
def execTransferFw (h : HeadNo) (action : FwAction) (slot off : Nat) (data : List Byte) (sigOk : Bool) (s : State) :
    Host.Outcome State Fault Refusal :=
  s.onChip fun c => c.boxIn h (.transferFw h action slot off data sigOk) true true true fun c => c.transferFw h action slot off data sigOk

/-- ACTIVATE_FW (15 R399). -/
def execActivateFw (h : HeadNo) (online : Bool) (slot : Nat) (s : State) : Host.Outcome State Fault Refusal :=
  s.onChip fun c => c.boxIn h (.activateFw h online slot) true true true fun c =>
    if online then c.mbox h .unsupported
    else if c.ledger.failed then c.mbox h .internalError
    else if slot = 0 then c.mbox h .invalidSlot
    else match c.activateFault (slot - 1) with
      | 0 => (c.activate (decide (slot = 2))).mbox h .success
      | 1 => c.mbox h .invalidSlot
      | 2 => c.mbox h .busy
      | _ => c.mbox h .invalidInput

/-- GET_TIMESTAMP (01 R20). -/
def execGetTimestamp (h : HeadNo) (s : State) : Host.Outcome State Fault Refusal :=
  s.onChip fun c => c.boxRead h (.getTimestamp h) false false fun c => .fields [c.stamp.toNat]

/-- SET_TIMESTAMP: the offset is set, and copied to the twin (01 R20). -/
def execSetTimestamp (h : HeadNo) (value : BitVec 64) (s : State) : Host.Outcome State Fault Refusal :=
  s.onChip fun c => c.boxIn h (.setTimestamp h value) false false false fun c =>
    let c := c.setStamp (value.toNat : Int)
    let c := if c.paired && c.linkReady then c.sendTwin (.timestamp (value.toNat : Int)) else c
    c.mbox h .success

/-- The bytes of a log (Table 03-6). -/
def Chip.logBytes (c : Chip) (log : MboxLog) : Option (List Byte) :=
  match log with
  | .effects => some Config.effectsLog
  | .vendor => some (Config.vendorLog c.ledger.evtSeq)
  | .other => none

/-- The payload size of a mailbox (03 R88). -/
def boxPayload : Nat := 65536

/-- GET_SUPPORTED_LOGS: the Command Effects Log (0) and the vendor log (1), each with its size (Table 03-6). -/
def execGetSupportedLogs (h : HeadNo) (s : State) : Host.Outcome State Fault Refusal :=
  s.onChip fun c => c.boxRead h (.getSupportedLogs h) false false fun c =>
    .fields [2, 0, Config.effectsLog.length, 1, (Config.vendorLog c.ledger.evtSeq).length]

/-- GET_LOG (Table 03-6), at most one payload at a time (03 R88). -/
def execGetLog (h : HeadNo) (log : MboxLog) (off len : Nat) (s : State) : Host.Outcome State Fault Refusal :=
  s.onChip fun c => c.boxIn h (.getLog h log off len) false false false fun c =>
    match c.logBytes log with
    | none => c.mbox h .invalidInput
    | some b => if b.length < off + len ∨ boxPayload < len then c.mbox h .invalidInput else c.mbox h .success (.bytes ((b.drop off).take len))

/-- The scratch size in bytes, as reported to hosts (03 R86; 15 R387). -/
def Chip.scratchBytes (c : Chip) : Nat := c.boot.cdatScratch * scratchWayLines * 64

/-- IDENTIFY_MEMORY_DEVICE: firmware version, volatile-only capacity, no persistent-only capacity, LSA size,
poison list size (Table 03-6). -/
def execIdentifyMemoryDevice (h : HeadNo) (s : State) : Host.Outcome State Fault Refusal :=
  s.onChip fun c => c.boxRead h (.identifyMemoryDevice h) false false fun c =>
    .fields [c.image.version.toNat, c.scratchBytes, 0, 131072, poisonMax]

/-- GET_PARTITION_INFO: the volatile-only capacity is the scratch size (03 R86). -/
def execGetPartitionInfo (h : HeadNo) (s : State) : Host.Outcome State Fault Refusal :=
  s.onChip fun c => c.boxRead h (.getPartitionInfo h) false false fun c => .fields [c.scratchBytes, 0]

/-- SET_PARTITION_INFO is not supported (Table 03-6). -/
def execSetPartitionInfo (h : HeadNo) (s : State) : Host.Outcome State Fault Refusal :=
  s.onChip fun c => c.boxIn h (.setPartitionInfo h) false false false fun c => c.mbox h .unsupported

/-- Ledger address of the label storage area of a head: 128 KiB each (Table 11-1, Table 03-6). -/
def lsaBase (h : HeadNo) : Nat := 0x400000 + 0x20000 * h.val

/-- GET_LSA (Table 03-6), at most one payload at a time (03 R88). -/
def execGetLsa (h : HeadNo) (off len : Nat) (s : State) : Host.Outcome State Fault Refusal :=
  s.onChip fun c => c.boxIn h (.getLsa h off len) false false false fun c =>
    if 131072 < off + len ∨ boxPayload < len then c.mbox h .invalidInput
    else if c.ledger.failed || wordBad c.ledger.bad (lsaBase h + off) len then c.mbox h .internalError
    else c.mbox h .success (.bytes (c.ledger.cells.read (lsaBase h + off) len))

/-- SET_LSA: durable at completion (Table 03-6). PRESUMED (notes/assumptions/21.md): 8 bytes of the 64 KiB payload (03 R88)
precede the data. -/
def execSetLsa (h : HeadNo) (off : Nat) (data : List Byte) (s : State) : Host.Outcome State Fault Refusal :=
  s.onChip fun c => c.boxIn h (.setLsa h off data) false false false fun c =>
    if 131072 < off + data.length ∨ boxPayload < 8 + data.length then c.mbox h .invalidInput
    else if c.ledger.failed then c.mbox h .internalError
    else (c.pageNow (lsaBase h + off) data).mbox h .success

/-- GET_HEALTH_INFO: the alerts set, life used of the most-worn module, die temperature as a 16-bit two's
complement, Dirty Shutdown Count, corrected volatile and persistent errors (03 R98; 07 R207). -/
def execGetHealthInfo (h : HeadNo) (s : State) : Host.Outcome State Fault Refusal :=
  s.onChip fun c => c.boxRead h (.getHealthInfo h) true false fun c =>
    .fields [c.integ.alertsSet.toNat, c.med.ch.toList.foldl (fun m x => max m (if x.prsntN then 0 else x.module.lifeUsed)) 0, (BitVec.ofInt 16 c.pwr.dieC).toNat,
      c.counter 0, c.volSum 0x3810 16, c.volSum 0x4201 36]

/-- GET_ALERT_CONFIGURATION (07 R207). -/
def execGetAlertConfiguration (h : HeadNo) (s : State) : Host.Outcome State Fault Refusal :=
  s.onChip fun c => c.boxRead h (.getAlertConfiguration h) false false fun c =>
    let i := c.integ
    .fields [i.alertsOn.toNat, i.lifeWarn, (BitVec.ofInt 16 i.tempWarn).toNat, i.ceVolWarn, i.cePerWarn]

/-- SET_ALERT_CONFIGURATION: the alerts of the mask take their threshold and their enable (07 R207). -/
def execSetAlertConfiguration (h : HeadNo) (valid enable : BitVec 5) (life : Nat) (temp : Int) (volatileCe persistentCe : Nat) (s : State) :
    Host.Outcome State Fault Refusal :=
  s.onChip fun c => c.boxIn h (.setAlertConfiguration h valid enable life temp volatileCe persistentCe) false false false fun c =>
    if valid.getLsbD 0 && decide (100 < life) then c.mbox h .invalidInput
    else
      (c.onInteg fun i =>
        { i with alertsOn := (i.alertsOn &&& ~~~ valid) ||| (enable &&& valid), lifeWarn := if valid.getLsbD 0 then life else i.lifeWarn,
                 tempWarn := if valid.getLsbD 1 then temp else i.tempWarn, ceVolWarn := if valid.getLsbD 3 then volatileCe else i.ceVolWarn,
                 cePerWarn := if valid.getLsbD 4 then persistentCe else i.cePerWarn }).mbox h .success

/-- GET_SHUTDOWN_STATE (03 R98). -/
def execGetShutdownState (h : HeadNo) (s : State) : Host.Outcome State Fault Refusal :=
  s.onChip fun c => c.boxRead h (.getShutdownState h) false false fun c => .fields [c.boot.shutdown.toNat]

/-- SET_SHUTDOWN_STATE: stored in the ledger; the Dirty Shutdown Count is as before (03 R98). -/
def execSetShutdownState (h : HeadNo) (v : BitVec 8) (s : State) : Host.Outcome State Fault Refusal :=
  s.onChip fun c => c.boxIn h (.setShutdownState h v) false false false fun c =>
    if c.ledger.failed then c.mbox h .internalError
    else (c.onBoot fun b => { b with shutdown := v }).shutdownRecord.mbox h .success

/-- Records of the poison list that one payload holds. PRESUMED (notes/assumptions/21.md): 16 bytes each after a header of
32 (03 R88). -/
def poisonPage : Nat := (boxPayload - 32) / 16

/-- GET_POISON_LIST: the chip's records that meet the range, with the overflow flag and its timestamp (07 R216), one payload
at a time (03 R88): the More flag is set while records of the range remain, and the same request again returns the
next ones. -/
def execGetPoisonList (h : HeadNo) (dpa len : Nat) (s : State) : Host.Outcome State Fault Refusal :=
  s.onChip fun c => c.boxIn h (.getPoisonList h dpa len) false false false fun c =>
    let inRange (q : Poison) : Bool := decide (q.line < dpa / 64 + len ∧ dpa / 64 < q.line + q.len)
    let all := (c.integ.poison.filter inRange).map (fun q => (64 * q.line, q.len, q.src))
    let p := (c.head h).poisonAt
    let from_ := if p.1 = dpa ∧ p.2.1 = len then p.2.2 else 0
    let more := decide (from_ + poisonPage < all.length)
    (c.onHead h fun d => { d with poisonAt := if more then (dpa, len, from_ + poisonPage) else (0, 0, 0) }).mbox h .success
      (.poison ((all.drop from_).take poisonPage) more c.integ.overflow c.integ.overflowAt)

/-- INJECT_POISON: a mark on a line of a twin half, which stays until it is overwritten (Table 03-6; 07 R214), with a General
Media record of transaction type 0x04 (03 R95). PRESUMED (notes/assumptions/107.md): in the Informational log. -/
def execInjectPoison (h : HeadNo) (dpa : Nat) (s : State) : Host.Outcome State Fault Refusal :=
  s.onChip fun c => c.boxIn h (.injectPoison h dpa) false false false fun c =>
    let line := dpa / 64
    if dpa % 64 ≠ 0 || twinLines ≤ line || (c.objAt line).isNone then c.mbox h .invalidPhysicalAddress
    else
      let c := c.record .informational (c.mediaBody line 4 0 0)
      if c.homeHere (lineSeg line) then (c.markLine line 3).mbox h .success
      else (c.route { src := .gone, arrival := c.pairHead h, write := true, line := line, mask := fullMask, poison := true }).mbox h .success

/-- CLEAR_POISON: a full-line write of the supplied 64 B (07 R215). -/
def execClearPoison (h : HeadNo) (dpa : Nat) (data : Line) (s : State) : Host.Outcome State Fault Refusal :=
  s.onChip fun c => c.boxIn h (.clearPoison h dpa data) false false false fun c =>
    let line := dpa / 64
    let r : Req := { src := .gone, arrival := c.pairHead h, write := true, line := line, data := data, mask := fullMask }
    if dpa % 64 ≠ 0 then c.mbox h .invalidPhysicalAddress
    else if scratchBase ≤ line then
      if line < scratchBase + c.cache.waysScratch * scratchWayLines then (c.scratchAccess r).mbox h .success
      else c.mbox h .invalidPhysicalAddress
    else if (c.objAt line).isNone then c.mbox h .invalidPhysicalAddress
    else (c.route r).mbox h .success

/-- Bytes that a scan of a range reads in a group: the written lines of the slots that the group holds. -/
def Chip.scanBytes (c : Chip) (first count g : Nat) : Nat :=
  64 * ((c.med.slots.filter (fun p => decide (p.2.group = g))).map (fun p =>
    (List.range 32768).countP (fun i => decide (first ≤ 32768 * p.1 + i ∧ 32768 * p.1 + i < first + count) && c.lineWritten (32768 * p.1 + i)))).sum

/-- GET_SCAN_MEDIA_CAPABILITIES: the estimated time in ms at 1 GB/s for each group that holds the range
(07 R219). -/
def execGetScanMediaCapabilities (h : HeadNo) (dpa len : Nat) (s : State) : Host.Outcome State Fault Refusal :=
  s.onChip fun c => c.boxRead h (.getScanMediaCapabilities h dpa len) false false fun c =>
    .fields [(c.groupNos.map (c.scanBytes (dpa / 64) len)).foldl max 0 / 1000000]

/-- SCAN_MEDIA: one scan per chip at a time (07 R219). -/
def execScanMedia (h : HeadNo) (dpa len : Nat) (s : State) : Host.Outcome State Fault Refusal :=
  s.onChip fun c => c.boxIn h (.scanMedia h dpa len) false false false fun c =>
    let scanning := match c.integ.scan with | some x => !x.done | none => false
    if scanning || c.bgRuns h then c.mbox h .busy
    else (c.onInteg fun i => { i with scan := some { head := h, first := dpa / 64, count := len } }).startBg h .scanMedia

/-- GET_SCAN_MEDIA_RESULTS: the marked lines that the last scan found (07 R219). -/
def execGetScanMediaResults (h : HeadNo) (s : State) : Host.Outcome State Fault Refusal :=
  s.onChip fun c => c.boxRead h (.getScanMediaResults h) false false fun c =>
    match c.integ.scan with
    | some x => .fields (x.found.map (64 * ·))
    | none => .fields []

/-- Sanitize on this chip, and on the partner in PAIRED; in ALONE the recorded twin is cleared (12 R328, R329). -/
def Chip.sanitizeAll (c : Chip) : Chip :=
  (c.peerErase true).sanitize.forgetTwin

/-- An erase command's refusals (12 R328), then its effect. -/
def Chip.eraseBox (c : Chip) (h : HeadNo) (f : Chip → Chip) : Chip :=
  if c.eraseDenied then c.mbox h .invalidSecurityState
  else if c.eraseBusy then c.mbox h .busy
  else if c.sec.drbgStopped || c.ledger.failed then c.mbox h .internalError
  else f c

/-- SANITIZE (12 R329). -/
def execSanitize (h : HeadNo) (s : State) : Host.Outcome State Fault Refusal :=
  s.onChip fun c => c.boxIn h (.sanitize h) false false true fun c =>
    if c.bgRuns h then c.mbox h .busy else c.eraseBox h fun c => c.sanitizeAll.startBg h .sanitize

/-- SECURE_ERASE (12 R328). -/
def execSecureErase (h : HeadNo) (s : State) : Host.Outcome State Fault Refusal :=
  s.onChip fun c => c.boxIn h (.secureErase h) false false true fun c => c.eraseBox h fun c =>
    let c := c.secureEraseAll
    if c.sec.peerErasing then c.onSec fun x => { x with eraseHead := some h } else c.mbox h .success

/-- GET_SECURITY_STATE (12 R343, Table 12-8). -/
def execGetSecurityState (h : HeadNo) (s : State) : Host.Outcome State Fault Refusal :=
  s.onChip fun c => c.boxRead h (.getSecurityState h) false false fun c => .fields [c.secState]

/-- A passphrase command: it is refused, or done (12 R344). -/
def Chip.passBox (c : Chip) (h : HeadNo) (f : Chip → Bool × Chip) (done : Chip → Chip) : Chip :=
  if c.ledger.failed then c.mbox h .internalError
  else
    let (ok, c) := f c
    if ok then done c else c.mbox h .invalidSecurityState

/-- SET_PASSPHRASE (12 R344). -/
def execSetPassphrase (h : HeadNo) (master : Bool) (current new : BitVec 256) (s : State) : Host.Outcome State Fault Refusal :=
  s.onChip fun c => c.boxIn h (.setPassphrase h master current new) false false true fun c =>
    c.passBox h (fun c => c.setPassphrase master current new) fun c => c.mbox h .success

/-- DISABLE_PASSPHRASE (12 R344). -/
def execDisablePassphrase (h : HeadNo) (master : Bool) (current : BitVec 256) (s : State) : Host.Outcome State Fault Refusal :=
  s.onChip fun c => c.boxIn h (.disablePassphrase h master current) false false true fun c =>
    c.passBox h (fun c => c.disablePassphrase master current) fun c => c.mbox h .success

/-- Unlock (12 R345): of a locked chip, or of one whose slot 1 a sealing alarm has erased. -/
def Chip.unlock (c : Chip) (current : BitVec 256) : Bool × Chip :=
  if c.sec.sealState = .disabled then (false, c)
  else if c.sec.locked then
    c.withPass false current fun c => (c.onSec fun s => { s with locked := false, tags := s.durableTags, slots := s.slots ||| 2 }).unlocked
  else if c.sec.userPass.isSome && !c.sec.slots.getLsbD 1 then c.withPass false current fun c => c.onSec fun s => { s with slots := s.slots ||| 2 }
  else (false, c)

/-- UNLOCK (12 R344, R345). -/
def execUnlock (h : HeadNo) (current : BitVec 256) (s : State) : Host.Outcome State Fault Refusal :=
  s.onChip fun c => c.boxIn h (.unlock h current) false false true fun c => c.passBox h (fun c => c.unlock current) fun c => c.mbox h .success

/-- FREEZE_SECURITY_STATE: until the next device reset (12 R344). -/
def execFreezeSecurityState (h : HeadNo) (s : State) : Host.Outcome State Fault Refusal :=
  s.onChip fun c => c.boxIn h (.freezeSecurityState h) false false true fun c => (c.onSec fun x => { x with frozen := true }).mbox h .success

/-- PASSPHRASE_SECURE_ERASE (12 R344): a Locked chip is unlocked by it, and goes on to form or rejoin its pair (12 R345). -/
def execPassphraseSecureErase (h : HeadNo) (master : Bool) (current : BitVec 256) (s : State) : Host.Outcome State Fault Refusal :=
  s.onChip fun c => c.boxIn h (.passphraseSecureErase h master current) false false true fun c =>
    if c.eraseBusy || c.bgRuns h then c.mbox h .busy
    else if c.sec.drbgStopped then c.mbox h .internalError
    else c.passBox h (fun c => c.passphraseErase master current) fun d => (if c.sec.locked then d.unlocked else d).startBg h .passphraseSecureErase

/-- GET_DYNAMIC_CAPACITY_CONFIGURATION: base, length, block size and DSMAS handle of the eight regions (Table 03-4). -/
def execGetDynamicCapacityConfiguration (h : HeadNo) (s : State) : Host.Outcome State Fault Refusal :=
  s.onChip fun c => c.boxRead h (.getDynamicCapacityConfiguration h) false false fun _ =>
    .fields ((List.range 8).flatMap (fun r => [r * 2 ^ 46, 2 ^ 46, 2097152, r]))

/-- GET_DYNAMIC_CAPACITY_EXTENT_LIST: base and length of each accepted extent (03 R85). -/
def execGetDynamicCapacityExtentList (h : HeadNo) (s : State) : Host.Outcome State Fault Refusal :=
  s.onChip fun c => c.boxRead h (.getDynamicCapacityExtentList h) false false fun c =>
    .fields (((List.range 8).filter (fun r => (c.head h).accepted.getLsbD r)).flatMap (fun r => [r * 2 ^ 46, 2 ^ 46]))

/-- ADD_DYNAMIC_CAPACITY_RESPONSE: of the extents offered, those named are accepted and the others refused
(03 R85). -/
def execAddDynamicCapacityResponse (h : HeadNo) (regions : BitVec 8) (s : State) : Host.Outcome State Fault Refusal :=
  s.onChip fun c => c.boxIn h (.addDynamicCapacityResponse h regions) false false false fun c =>
    if regions &&& ~~~ (c.head h).offered != 0 then c.mbox h .invalidInput
    else
      (c.onHead h fun d =>
        { d with accepted := d.accepted ||| regions, hostReleased := d.hostReleased ||| (d.offered &&& ~~~ regions), offered := 0 }).mbox h .success

/-- RELEASE_DYNAMIC_CAPACITY: an extent is released by its host, and not offered again, or in answer to the
device's release (03 R85). -/
def execReleaseDynamicCapacity (h : HeadNo) (regions : BitVec 8) (s : State) : Host.Outcome State Fault Refusal :=
  s.onChip fun c => c.boxIn h (.releaseDynamicCapacity h regions) false false false fun c =>
    if regions &&& ~~~ (c.head h).accepted != 0 then c.mbox h .invalidInput
    else
      (c.onHead h fun d =>
        { d with accepted := d.accepted &&& ~~~ regions, releasing := d.releasing &&& ~~~ regions,
                 hostReleased := d.hostReleased ||| (regions &&& ~~~ d.releasing) }).mbox h .success

/-- MAILBOX_UNSUPPORTED_OPCODE (03 R90, Table 03-6). -/
def execMailboxUnsupportedOpcode (h : HeadNo) (opcode : BitVec 16) (s : State) : Host.Outcome State Fault Refusal :=
  s.onChip fun c => c.boxIn h (.mailboxUnsupportedOpcode h opcode) true false false fun c => c.mbox h .unsupported

/-- The written lines of a range that carry a poison mark at this chip (07 R219). -/
def Chip.markedLines (c : Chip) (first count : Nat) : List Nat :=
  let hbm := c.cache.lines.filterMap (fun p => if p.2.poison then (c.cache.frames.find (p.1 / 64)).map (fun f => 64 * f.seg + p.1 % 64) else none)
  let med := c.med.lines.filterMap (fun p =>
    if p.2.poison then (c.med.slots.find? (fun q => decide (slotKey q.2 = p.1 / 32768))).map (fun q => 32768 * q.1 + p.1 % 32768) else none)
  let marked (l : Nat) : Bool := decide (first ≤ l ∧ l < first + count) && c.lineWritten l && (c.objAt l).isSome && c.homeHere (lineSeg l) &&
    (match c.held l with | some (_, v) => v.poison | none => (c.mediumLine l).poison)
  ((hbm ++ med).filter marked).foldl insertNat []

/-- The lines of a range that a scan reads: written, of an object, with their home here (07 R219). -/
def Chip.scanLines (c : Chip) (first count : Nat) : List Nat :=
  (c.med.map.flatMap (fun q => match c.slotGran { group := q.1 / 512 / 2 ^ 25, slot := q.1 / 512 % 2 ^ 25 } with
    | some g => ((List.range 64).filter (fun n => q.2.getLsbD n)).map (fun n => 64 * (512 * g + q.1 % 512) + n)
    | none => [])).filter (fun l => decide (first ≤ l ∧ l < first + count) && (c.objAt l).isSome && c.homeHere (lineSeg l))

/-- The units of lines on the medium, as channel, row and unit. -/
def Chip.unitsOf (c : Chip) (lines : List Nat) : List (Nat × Nat × Nat) :=
  (lines.filterMap (fun l => (c.linePlace l).bind (fun p =>
    if c.memberReads p.group p.member p.row p.unit then some (memberChan p.group p.member, p.row, p.unit) else none))).eraseDups

/-- A scan reads its units with READ_UNIT, outside squall mode and a wrap; each line that decodes uncorrectable runs the ladder with
transaction type 0x03 (07 R213, R219). -/
def Chip.scanRead (c : Chip) (x : Scan) (bad : List Nat) : Chip :=
  if x.read || c.cache.squall != 0 || c.wrapping then c
  else
    let l := c.scanLines x.first x.count
    let c := (c.unitsOf l).foldl (fun c u => c.gmi u.1 (.readUnit u.2.1 u.2.2 0)) c
    let c := (l.filter bad.contains).foldl (fun c n => c.detect n 3) c
    c.onInteg fun i => { i with scan := some { x with read := true } }

/-- The scan has ended, or has read its range and no recovery of a line of it runs. -/
def Chip.scanOver (c : Chip) : Bool :=
  match c.integ.scan with
  | some x => x.done || x.read && !c.cache.misses.any (fun m => decide (2 ≤ m.step ∧ x.first ≤ m.line ∧ m.line < x.first + x.count))
  | none => true

/-- A Scan Media ends: the marked lines are its result, and enter the poison list if missing (07 R219). -/
def Chip.endScan (c : Chip) (x : Scan) : Chip :=
  let found := c.markedLines x.first x.count
  let c := found.foldl (fun (c : Chip) (l : Nat) => c.decodedMark l) c
  c.onInteg fun i => { i with scan := some { x with done := true, found := found } }

/-- Whether the work of a background operation has ended. -/
def Chip.bgEnded (c : Chip) (h : HeadNo) (b : BgOp) : Bool :=
  match b.kind with
  | .objectCommand id => match (c.head h).objResult with
    | some x => decide (x.cmd = id) && x.result.isSome
    | none => false
  | .sanitize => !c.sec.sanitizing && !c.sec.peerErasing
  | .passphraseSecureErase => !c.sec.peerErasing
  | .scanMedia => c.scanOver
  | _ => true

/-- BACKGROUND_OP_COMPLETE: the operation ends, and MSI-X vector 0 is raised while the link is up
(03 R88, R96, R101). A Scan Media reads its range here, `e.bad` being the lines that decode uncorrectable, and ends once their
recoveries have (07 R219). -/
def execBackgroundOpComplete (e : BgEnd) (s : State) : Host.Outcome State Fault Refusal :=
  s.onChip fun c =>
    let h := e.head
    match (c.head h).bg with
    | none => c
    | some b =>
      let c := match b.kind, c.integ.scan with
        | .scanMedia, some x => if b.done || x.done then c else c.scanRead x e.bad
        | _, _ => c
      if b.done || !c.bgEnded h b then c
      else
        let c := match b.kind, c.integ.scan with
          | .scanMedia, some x => if x.done then c else c.endScan x
          | _, _ => c
        let c := c.onHead h fun d => { d with bg := some { b with done := true } }
        if (c.head h).link = .up then c.emit (.msix h 0) else c

end Sys2Proof.Machine
end

