-- ==== Sys2Proof/Machine/VendorRows.lean ====
section
/-! DEFINITION. The vendor commands of the mailbox (03 Table 03-7, R90 to R92): the window identity, the
dictionary, and object commands. -/

namespace Sys2Proof.Machine

/-- Bytes 0 to 23 of Get Olieno Info, also block 0x0 of the control window (Tables 03-7, 03-11). -/
def Chip.olienoInfo (c : Chip) (h : HeadNo) : List Byte :=
  [1, 0, BitVec.ofNat 8 c.id.part.code, BitVec.ofNat 8 h.val,
    BitVec.ofNat 8 (c.pos + 2 * boolNat c.paired + 4 * boolNat c.twin.suspended), BitVec.ofNat 8 (c.mboxLevel h), 0, 0] ++
    toBytes 8 c.id.serial.toNat ++ toBytes 8 (if c.paired then c.twin.twinSerial.toNat else 0)

/-- GET_OLIENO_INFO (03 R90). -/
def execGetOlienoInfo (h : HeadNo) (input : List Byte) (s : State) : Host.Outcome State Fault Refusal :=
  s.onChip fun c => c.boxIn h (.getOlienoInfo h input) true true false fun c =>
    if input.length ≠ 0 then c.mbox h .invalidInput else c.mbox h .success (.bytes (c.olienoInfo h))

/-- An access of the mailbox of a head. -/
def boxAccess (h : HeadNo) : Access := { req := .mailbox h }

/-- Answer a dictionary command of the mailbox: ABORT, then the rest (Table 03-7); an abort is recorded
(13 R361). -/
def Chip.boxAbort (c : Chip) (h : HeadNo) (index sub e : Nat) (rest : List Byte) : Chip :=
  (if e = 0 then c else c.recordAbort (.mailbox h) index sub e).mbox h .success (.bytes (toBytes 4 e ++ rest))

/-- The fields of a dictionary command's input: INDEX, SUBINDEX, OFFSET, LENGTH (Table 03-7). -/
structure DictIn where
  index : Nat
  sub : Nat
  off : Nat
  len : Nat
  deriving DecidableEq, Repr

/-- The input of a dictionary command, checked for its length of 12 + `extra` LENGTH, its reserved byte and
LENGTH's range (03 R90, Table 03-7). -/
def dictIn (input : List Byte) (write : Bool) : Option DictIn :=
  let d : DictIn := { index := ofBytes (input.take 2), sub := ofBytes ((input.drop 2).take 1), off := ofBytes ((input.drop 4).take 4),
                      len := ofBytes ((input.drop 8).take 4) }
  if input.length = 12 + (if write then d.len else 0) ∧ ofBytes ((input.drop 3).take 1) = 0 ∧ 1 ≤ d.len ∧ d.len ≤ (if write then 65524 else 65528)
  then some d else none

/-- A dictionary read of the mailbox (03 R91): an abort code, SIZE and the data. -/
def Chip.boxDictRead (c : Chip) (h : HeadNo) (d : DictIn) : Chip :=
  match c.entry d.index d.sub with
  | none => c.boxAbort h d.index d.sub abNoEntry (toBytes 4 0)
  | some r =>
    let size := c.entrySize r d.sub
    if r.acc = .ro && decide (c.levelOf (boxAccess h) < r.level) then c.boxAbort h d.index d.sub abAccessDenied (toBytes 4 size)
    else if (r.type ≠ .domain && decide (d.off ≠ 0 ∨ d.len ≠ size)) || decide (size < d.off) then c.boxAbort h d.index d.sub abLength (toBytes 4 size)
    else
      let (e, b, c) := c.readEntry (boxAccess h) d.index d.sub
      c.boxAbort h d.index d.sub e (toBytes 4 size ++ (if e = 0 then (b.drop d.off).take d.len else []))

/-- DICTIONARY_READ (03 R90, R91). -/
def execDictionaryRead (h : HeadNo) (input : List Byte) (s : State) : Host.Outcome State Fault Refusal :=
  s.onChip fun c => c.boxIn h (.dictionaryRead h input) true false false fun c =>
    match dictIn input false with
    | none => c.mbox h .invalidInput
    | some d => (c.useContext (.mailbox h)).boxDictRead h d

/-- Answer a write of the mailbox; an accepted CRYPTO_ERASE is answered at its completion (12 R327). -/
def Chip.boxWritten (c : Chip) (h : HeadNo) (index sub e : Nat) : Chip :=
  if e = 0 ∧ index = 0x8011 ∧ sub = 1 then c else c.boxAbort h index sub e (toBytes 4 0)

/-- A piece of a DOMAIN entry (03 R91): pieces of increasing OFFSET from 0, and the piece that reaches the
entry's end, its own length field, carries out the write; a piece out of order aborts the transfer. -/
def Chip.boxPiece (c : Chip) (h : HeadNo) (d : DictIn) (data : List Byte) (ok : Bool) : Chip :=
  let tid := BitVec.ofNat 8 d.sub
  let fresh : Transfer := { req := .mailbox h, tid := tid, index := BitVec.ofNat 16 d.index, sub := BitVec.ofNat 8 d.sub, write := true }
  let old := (c.openXfer (.mailbox h) tid).getD fresh
  let t : Transfer := if d.off = 0 ∧ old.data = [] then fresh else old
  let all := t.data ++ data
  let size := if all.length < 16 then 2 ^ 32 else ofBytes ((all.drop 12).take 4)
  if d.off ≠ t.data.length then (c.dropXfer t).boxWritten h d.index d.sub abSequence
  else if size < all.length then (c.dropXfer t).boxWritten h d.index d.sub abLength
  else if all.length < size then (c.putXfer { t with data := all, size := size, next := t.next + 1 }).boxWritten h d.index d.sub 0
  else
    let (e, c) := (c.dropXfer t).writeEntry (boxAccess h) d.index d.sub all ok
    c.boxWritten h d.index d.sub e

/-- A dictionary write of the mailbox (03 R91). -/
def Chip.boxDictWrite (c : Chip) (h : HeadNo) (d : DictIn) (data : List Byte) (ok : Bool) : Chip :=
  match c.entry d.index d.sub with
  | none => c.boxWritten h d.index d.sub abNoEntry
  | some r =>
    if r.acc = .ro then
      let (e, c) := c.writeEntry (boxAccess h) d.index d.sub data ok
      c.boxWritten h d.index d.sub e
    else if c.levelOf (boxAccess h) < r.level then c.boxWritten h d.index d.sub abAccessDenied
    else if r.type = .domain then c.boxPiece h d data ok
    else if d.off ≠ 0 then c.boxWritten h d.index d.sub abLength
    else
      let (e, c) := c.writeEntry (boxAccess h) d.index d.sub data ok
      c.boxWritten h d.index d.sub e

/-- DICTIONARY_WRITE (03 R90, R91). -/
def execDictionaryWrite (h : HeadNo) (input : List Byte) (sigOk : Bool) (s : State) : Host.Outcome State Fault Refusal :=
  s.onChip fun c => c.boxIn h (.dictionaryWrite h input sigOk) true false false fun c =>
    match dictIn input true with
    | none => c.mbox h .invalidInput
    | some d => (c.useContext (.mailbox h)).boxDictWrite h d (input.drop 12) sigOk

/-- Run an object command of a head's mailbox: the command's number, its result if it completes at once, and the
chip (03 R92). -/
def Chip.objectRun (c : Chip) (h : HeadNo) (e : CmdEntry) : Nat × Option CmdResult × Chip :=
  let (id, c) := c.addCmd (.mailbox h) e
  let c := c.run id
  let c := match c.cmd id with | some r => c.cmdCheck r | none => c
  match c.cmd id with
  | none => (id, none, c)
  | some r =>
    match r.result, c.mediumPending r.durable with
    | some res, false => (id, some res, c.deliver r res)
    | _, _ => (id, none, c)

/-- OBJECT_COMMAND (03 R92): a command that completes at once returns its result, any other runs in the
background, and is turned away with Busy while another background operation of the head runs (03 R88). -/
def execObjectCommand (h : HeadNo) (input : List Byte) (s : State) : Host.Outcome State Fault Refusal :=
  s.onChip fun c => c.boxIn h (.objectCommand h input) false false false fun c =>
    if input.length ≠ 64 then c.mbox h .invalidInput
    else
      match c.objectRun h (BitVec.ofNat 512 (ofBytes input)) with
      | (_, some res, d) => d.mbox h .success (.bytes (entryBytes res))
      | (id, none, d) =>
        if c.bgRuns h then c.mbox h .busy
        else (d.onHead h fun x => { x with objResult := some { cmd := id } }).startBg h (.objectCommand id)

/-- GET_OBJECT_COMMAND_RESULT (03 R92). -/
def execGetObjectCommandResult (h : HeadNo) (input : List Byte) (s : State) : Host.Outcome State Fault Refusal :=
  s.onChip fun c => c.boxIn h (.getObjectCommandResult h input) false false false fun c =>
    if input.length ≠ 0 then c.mbox h .invalidInput
    else match (c.head h).objResult with
      | none => c.mbox h .invalidInput
      | some x => match x.result with
        | none => c.mbox h .busy
        | some res => c.mbox h .success (.bytes (entryBytes res))

end Sys2Proof.Machine
end

