-- ==== Sys2Proof/Machine/WindowRows.lean ====
section
/-! DEFINITION. Writes to the control window of a head (03 R103; 13 R371 to R377; 00 R12, R13): posted writes of
the mapped entries, aliases, and the registers of the head's own blocks. -/

namespace Sys2Proof.Machine

/-- A location that is not implemented, or a write that the full configuration drops (00 R12, R13): a completer
abort there, nothing in the small configurations. -/
def Chip.winDrop (c : Chip) (h : HeadNo) : Chip := if c.id.part.full then c.emit (.completerAbort h) else c

/-- The part of an entry is a register or a pair of the window (13 R372). -/
def partFits (size : Nat) (p : WinPart) : Bool :=
  match p with
  | .word => decide (size ≤ 4)
  | _ => decide (size = 8)

/-- The mapped entry of a window write, if there is one. -/
def Chip.winEntry (c : Chip) (index sub : Nat) (p : WinPart) : Option DictRow :=
  (c.entry index sub).filter (fun r => mappedEntry r && partFits r.type.size p)

/-- Post a write of a mapped entry (13 R375): while 64 are pending the head withholds credits, and the write
does not arrive. -/
def Chip.postWindow (c : Chip) (h : HeadNo) (w : WinWrite) : Chip :=
  if !c.windowOpen h || !c.boot.romDone || c.boot.rom || decide (64 ≤ (c.head h).pendingWin.length) then c
  else if (c.winEntry w.index w.sub w.part).isNone then c.winDrop h
  else c.onHead h fun d => { d with pendingWin := d.pendingWin ++ [w] }

/-- A refused window write: dropped and reported, and the first since ERR was cleared is latched (13 R375). -/
def Chip.winRefused (c : Chip) (h : HeadNo) (w : WinWrite) (e : Nat) : Chip :=
  let off := c.windowOffset w.index w.sub + (if w.part = .high then 4 else 0)
  let c := ((c.recordAbort (.window h) w.index w.sub e).emit (.completerAbort h))
  c.onHead h fun d => if d.winErr then d else { d with winErr := true, winErrOffset := off, winErrCode := BitVec.ofNat 32 e }

/-- The value of the register, or half, that a part names, out of an entry's value. -/
def partOf (p : WinPart) (v : Nat) : Nat :=
  match p with
  | .low => v % 2 ^ 32
  | .high => v / 2 ^ 32
  | _ => v

/-- An entry's value with one part replaced. -/
def withPart (p : WinPart) (old v : Nat) : Nat :=
  match p with
  | .low => old / 2 ^ 32 * 2 ^ 32 + v % 2 ^ 32
  | .high => v % 2 ^ 32 * 2 ^ 32 + old % 2 ^ 32
  | _ => v

/-- The read-modify-write of an alias (13 R376). -/
def AliasKind.apply (k : AliasKind) (old m : Nat) : Nat :=
  match k with
  | .set => old ||| m
  | .clear => old ^^^ (old &&& m)
  | .toggle => old ^^^ m

/-- Carry out the write of a window entry (13 R368): an abort code, 0 for none. The signature of an image was
verified when its header was complete (15 R398). -/
def Chip.winStore (c : Chip) (h : HeadNo) (w : WinWrite) (r : DictRow) (v : Nat) : Nat × Chip :=
  c.writeEntry { req := .window h } w.index w.sub (toBytes r.type.size v) true

/-- An alias write of an entry (13 R376, R377): it acts on RW bits; in the full configuration a 1 in any other
bit refuses it. -/
def Chip.winAlias (c : Chip) (h : HeadNo) (w : WinWrite) (r : DictRow) (k : AliasKind) : Nat × Chip :=
  let width := 8 * min 4 r.type.size
  let m := w.value.toNat % 2 ^ 32
  let old := c.dictValue (.window h) r w.sub
  let rw := if r.acc = .rw then partOf w.part (2 ^ (8 * r.type.size) - 1 - rsvMask r w.sub) else 0
  if c.id.part.full && decide (m &&& rw ≠ m) then (abWriteLocked, c)
  else if r.acc ≠ .rw then (0, c)
  else c.winStore h w r (withPart w.part old (k.apply (partOf w.part old) (m % 2 ^ width)))

/-- A plain write of an entry (13 R372, R374): the low half of a pair waits for the high half. -/
def Chip.winPlain (c : Chip) (h : HeadNo) (w : WinWrite) (r : DictRow) : Nat × Chip :=
  let key := dictKey w.index w.sub
  match w.part with
  | .low => (0, c.onHead h fun d => { d with heldLow := d.heldLow.filter (fun p => p.1 != key) ++ [(key, w.value.setWidth 32)] })
  | .high =>
    let low := match (c.head h).heldLow.find? (fun p => decide (p.1 = key)) with
      | some p => p.2.toNat
      | none => c.dictValue (.window h) r w.sub % 2 ^ 32
    let c := c.onHead h fun d => { d with heldLow := d.heldLow.filter (fun p => p.1 != key) }
    c.winStore h w r (w.value.toNat % 2 ^ 32 * 2 ^ 32 + low)
  | .pair => c.winStore h w r w.value.toNat
  | .word =>
    if c.id.part.full && decide (2 ^ (8 * r.type.size) ≤ w.value.toNat) then (abWriteLocked, c)
    else c.winStore h w r (w.value.toNat % 2 ^ (8 * r.type.size))

/-- Carry out the oldest posted write of a head (13 R375), while firmware and MG run. -/
def Chip.applyWindow (c : Chip) (h : HeadNo) : Chip :=
  match (c.head h).pendingWin with
  | [] => c
  | w :: rest =>
    if !c.boot.mainOut || !c.boot.romDone || c.boot.rom || !c.mgRuns then c
    else
      let c := (c.onHead h fun d => { d with pendingWin := rest }).useContext (.window h)
      match c.winEntry w.index w.sub w.part with
      | none => c
      | some r =>
        let (e, c) := match w.kind with
          | some k => c.winAlias h w r k
          | none => c.winPlain h w r
        if e = 0 then c else c.winRefused h w e

/-- WINDOW_WRITE (13 R375). -/
def execWindowWrite (h : HeadNo) (index : BitVec 16) (sub : BitVec 8) (part : WinPart) (v : BitVec 64) (s : State) :
    Host.Outcome State Fault Refusal :=
  s.onChip fun c => c.postWindow h { index := index.toNat, sub := sub.toNat, part := part, value := v }

/-- WINDOW_WRITE_APPLY (13 R375). -/
def execWindowWriteApply (h : HeadNo) (s : State) : Host.Outcome State Fault Refusal := s.onChip fun c => c.applyWindow h

/-- HEAD_HOLD (Table 03-12): this head's held requests, and whether it withholds credits, as every head does while
the hold queue or the merge table is full, and a head at its limit in squall mode (01 R42; 04 R113, R123). -/
def Chip.headHold (c : Chip) (h : HeadNo) : Nat :=
  c.twin.holdQ.countP (fun r => decide (r.src = .head h)) + 2 ^ 13 * boolNat (c.withheld h)

/-- The directory of the window: the mapped entries in ascending order (13 R371). -/
def Chip.directory (c : Chip) : List (Nat × Nat × DictRow) :=
  ((dictRows.map (·.index)).foldl insertNat []).flatMap (fun i =>
    (List.range 256).filterMap (fun s => ((c.entry i s).filter mappedEntry).map (fun r => (i, s, r))))

/-- Word `k` of the directory: two to a slot (13 R371). -/
def Chip.dirWord (c : Chip) (k : Nat) : Nat :=
  match c.directory[k / 2]? with
  | none => 0
  | some (i, s, r) =>
    if k % 2 = 0 then i + 2 ^ 16 * s + 2 ^ 24 * (r.type.code + 16 * r.acc.code)
    else (c.windowOffset i s).toNat + 2 ^ 20 * (if r.acc = .ro then 0 else r.level) + 2 ^ 22 * boolNat r.persistent

/-- A register of the window: its value, and its bits that are RW, W1C, WO and RSV; every other bit is RO. -/
structure WinRegister where
  value : Nat
  rw : Nat := 0
  w1c : Nat := 0
  wo : Nat := 0
  rsv : Nat := 0
  deriving DecidableEq, Repr

/-- The cue ring registers of a head (Table 02-9). -/
def Chip.cueRegister (c : Chip) (h : HeadNo) (off : Nat) : Option WinRegister :=
  let q := (c.head h).cue
  match off with
  | 0x90000 => some { value := q.tail.toNat, rw := 0xFF, rsv := 0xFFFFFF00 }
  | 0x90004 => some { value := q.head.toNat + 256 * boolNat q.expPhase, rsv := 0xFFFFFE00 }
  | 0x90008 => some { value := boolNat q.enable + 4 * boolNat q.resetBusy + 8 * boolNat q.irqEn + 16 * q.coalesce.toNat, rw := 0xFF9, wo := 2, rsv := 0xFFFFF000 }
  | 0x9000C => some { value := (c.ringCmds h).length % 256 + 256 * boolNat q.phaseErr + 512 * boolNat q.tailErr, w1c := 0x300, rsv := 0xFFFFFC00 }
  | _ => none

/-- The register at an offset of a head's own blocks and of the window status (Tables 03-11, 03-12, 02-9, 13-12);
`none` where nothing is implemented (00 R13). -/
def Chip.winRegister (c : Chip) (h : HeadNo) (off : Nat) : Option WinRegister :=
  let d := c.head h
  if off % 4 ≠ 0 then none
  else if off < 24 then some { value := ofBytes (((c.olienoInfo h).drop off).take 4) }
  else if 0x80000 ≤ off ∧ off < 0x84000 then some { value := ofBytes (d.cue.entries.read (off - 0x80000) 4), rw := 0xFFFFFFFF }
  else if 0x20000 ≤ off ∧ off < 0x23F80 then some { value := c.dirWord ((off - 0x20000) / 4) }
  else match off with
    | 0x10000 => some { value := h.val + 8 * c.pos + 16 * c.id.part.code + 64 * boolNat c.paired, rsv := 0xFFFFFF80 }
    | 0x10004 => some { value := d.linkStat, rsv := 0xFFFFFE00 }
    | 0x10008 => some { value := d.evt.toNat, w1c := 0x3F, rsv := 0xFFFFFFC0 }
    | 0x1000C => some { value := c.headHold h, rsv := 0xFFFFC000 }
    | 0x23F80 => some { value := d.pendingWin.length + 256 * boolNat d.winErr, w1c := 0x100, rsv := 0xFFFFFE00 }
    | 0x23F84 => some { value := d.winErrOffset.toNat, rsv := 0xFFF00000 }
    | 0x23F88 => some { value := d.winErrCode.toNat }
    | _ => c.cueRegister h off

/-- What a value written does to the RW, W1C and WO bits of a register. -/
def Chip.regApply (c : Chip) (h : HeadNo) (off v : Nat) : Chip :=
  if 0x80000 ≤ off ∧ off < 0x84000 then
    c.onHead h fun d => { d with cue := { d.cue with entries := d.cue.entries.write (off - 0x80000) (toBytes 4 v) } }
  else match off with
    | 0x10008 => c.onHead h fun d => { d with evt := d.evt &&& ~~~ BitVec.ofNat 6 v }
    | 0x23F80 => if bit v 8 then c.onHead h fun d => { d with winErr := false } else c
    | 0x90000 => c.cueTail h (BitVec.ofNat 8 v)
    | 0x90008 =>
      let c := c.onHead h fun d => { d with cue := { d.cue with enable := bit v 0, irqEn := bit v 3, coalesce := BitVec.ofNat 8 (v / 16) } }
      if bit v 1 then c.cueReset h else c
    | 0x9000C => c.onHead h fun d =>
        { d with cue := { d.cue with phaseErr := d.cue.phaseErr && !bit v 8, tailErr := d.cue.tailErr && !bit v 9 } }
    | _ => c

/-- A write of a register (00 R12, R13): in the full configuration one that changes an RO or RSV bit is dropped
and reported. -/
def Chip.regWrite (c : Chip) (h : HeadNo) (off v : Nat) : Chip :=
  match c.winRegister h off with
  | none => c.winDrop h
  | some r =>
    let acts := r.rw ||| r.w1c ||| r.wo
    if c.id.part.full && decide ((v ^^^ r.value) &&& acts ≠ v ^^^ r.value) then c.winDrop h else c.regApply h off v

/-- The aliases' blocks: 0x1, 0x2 to 0x7 and 0x9 (13 R376). -/
def aliased (off : Nat) : Bool := let b := off / 65536; decide ((1 ≤ b ∧ b ≤ 7) ∨ b = 9)

/-- An alias write of a register (13 R376, R377): it acts on RW bits; in the full configuration a 1 in any other
bit drops it. -/
def Chip.regAlias (c : Chip) (h : HeadNo) (off m : Nat) (k : AliasKind) : Chip :=
  match (c.winRegister h off).filter (fun _ => aliased off) with
  | none => c.winDrop h
  | some r =>
    if c.id.part.full && decide (m &&& r.rw ≠ m) then c.winDrop h
    else if r.rw = 0 then c
    else c.regApply h off (k.apply (r.value &&& r.rw) (m &&& r.rw))

/-- A write to an alias of a register or of a mapped entry. -/
def Chip.aliasWrite (c : Chip) (h : HeadNo) (r : WinReg) (m : BitVec 32) (k : AliasKind) : Chip :=
  if !c.windowOpen h then c
  else match r with
    | .entry index sub part =>
      if part = .pair then c.winDrop h
      else c.postWindow h { index := index.toNat, sub := sub.toNat, part := part, value := m.setWidth 64, kind := some k }
    | .reg off => c.regAlias h off.toNat m.toNat k

/-- SET_ALIAS (13 R376). -/
def execSetAlias (h : HeadNo) (r : WinReg) (m : BitVec 32) (s : State) : Host.Outcome State Fault Refusal :=
  s.onChip fun c => c.aliasWrite h r m .set

/-- CLEAR_ALIAS (13 R376). -/
def execClearAlias (h : HeadNo) (r : WinReg) (m : BitVec 32) (s : State) : Host.Outcome State Fault Refusal :=
  s.onChip fun c => c.aliasWrite h r m .clear

/-- TOGGLE_ALIAS (13 R376). -/
def execToggleAlias (h : HeadNo) (r : WinReg) (m : BitVec 32) (s : State) : Host.Outcome State Fault Refusal :=
  s.onChip fun c => c.aliasWrite h r m .toggle

/-- A 32-bit write of a register, or of a mapped entry that has no row of its own (00 R12). -/
def Chip.winSetWord (c : Chip) (h : HeadNo) (r : WinReg) (v : BitVec 32) : Chip :=
  match r with
  | .entry index sub part =>
    if part = .pair then c.winDrop h
    else c.postWindow h { index := index.toNat, sub := sub.toNat, part := part, value := v.setWidth 64 }
  | .reg off => c.regWrite h off.toNat v.toNat

/-- An access of `n` bytes at a naturally aligned offset of the cue ring entries (02 R64). -/
def cueAccess (off n : Nat) : Bool :=
  decide (0x80000 ≤ off ∧ off < 0x84000) && [4, 8, 16, 32, 64].contains n && off % n == 0

/-- A write of any size at an offset (02 R64; 13 R372): 4 to 64 bytes of a cue ring entry, 32 bits of a register;
any other is unimplemented. -/
def Chip.winWriteBytes (c : Chip) (h : HeadNo) (off : Nat) (b : List Byte) : Chip :=
  if cueAccess off b.length then
    c.onHead h fun d => { d with cue := { d.cue with entries := d.cue.entries.write (off - 0x80000) b } }
  else if b.length = 4 then c.regWrite h off (ofBytes b)
  else c.winDrop h

/-- A read of an unimplemented location (00 R13): dropped with a completer abort in the full configuration, where the
host sees all ones; an unspecified value in the small ones. -/
def Chip.winVoid (c : Chip) (h : HeadNo) (loc n : Nat) : Chip :=
  if c.id.part.full then (c.emit (.completerAbort h)).emit (.windowRead h (List.replicate n 0xFF))
  else (c.emit (.windowRead h (toBytes n (Config.unspecified loc c.cache.choice)))).choose

/-- The register that an offset, or an alias of it, reads (13 R376). -/
def unalias (off : Nat) : Nat := if aliased off then off - off % 65536 + off % 16384 else off

/-- A read of a register or of a mapped entry (00 R12; 13 R372): 32 bits, or both halves of a pair as one
snapshot. -/
def Chip.winRead (c : Chip) (h : HeadNo) (r : WinReg) : Chip :=
  match r with
  | .entry index sub part =>
    let i := index.toNat; let s := sub.toNat; let n := if part = .pair then 8 else 4
    match c.winEntry i s part with
    | none => c.winVoid h (dictKey i s) n
    | some r =>
      let above := if r.type.size < 4 then 2 ^ 32 - 2 ^ (8 * r.type.size) else 0
      let mask := above + (if r.acc = .wo then 0 else rsvMask r s)
      let (v, c) := c.readOpen (dictKey i s) mask (if r.acc = .wo then 0 else c.dictValue (.window h) r s)
      c.emit (.windowRead h (toBytes n (partOf part v)))
  | .reg off =>
    let o := unalias off.toNat
    match c.winRegister h o with
    | none => c.winVoid h off.toNat 4
    | some r =>
      let (v, c) := c.readOpen o r.rsv r.value
      c.emit (.windowRead h (toBytes 4 v))

/-- A read of any size at an offset (02 R64; 13 R372). -/
def Chip.winReadBytes (c : Chip) (h : HeadNo) (off n : Nat) : Chip :=
  if cueAccess off n then c.emit (.windowRead h ((c.head h).cue.entries.read (off - 0x80000) n))
  else if n = 4 then c.winRead h (.reg (BitVec.ofNat 20 off))
  else c.winVoid h off n

/-- Size of BAR0, BAR2 and BAR4 (Table 03-2). -/
def barSize (k : Fin 3) : Nat := if k = 0 then 131072 else if k = 1 then 1048576 else 16384

/-- A BAR as a read gives it: its base, whose bits below the size are 0, and in [3:0] 0b0100, 64-bit and
non-prefetchable (Table 03-2). -/
def Head.barValue (d : Head) (k : Fin 3) : Nat := (d.bars.get k).toNat / barSize k * barSize k + 4

/-- A read of the configuration space (03 R79, R97): the GPF DVSEC gives the Phase 2 duration, 1 us, and the Phase 2 power,
0 mW. -/
def Chip.configValue (c : Chip) (h : HeadNo) : CfgReg → List Nat
  | .ids => [c.id.vendor.toNat, c.id.device.toNat]
  | .serial high => [if high then c.id.serial.toNat / 2 ^ 32 else c.id.serial.toNat % 2 ^ 32]
  | .bar k high => [if high then (c.head h).barValue k / 2 ^ 32 else (c.head h).barValue k % 2 ^ 32]
  | .gpf => [1, 0]

/-- A write of the configuration space (03 R79): a half of a BAR of this head; the other registers are read only. -/
def Chip.configWrite (c : Chip) (h : HeadNo) (r : CfgReg) (v : BitVec 32) : Chip :=
  match r with
  | .bar k high => c.onHead h fun d =>
      { d with bars := d.bars.set k.val (BitVec.ofNat 64 (withPart (if high then .high else .low) (d.bars.get k).toNat v.toNat)) k.isLt }
  | _ => c

/-- REGISTER_WRITE: an access that has no row of its own, by its access code (00 R12, R13). -/
def execRegisterWrite (h : HeadNo) (w : WinAccess) (v : BitVec 32) (s : State) : Host.Outcome State Fault Refusal :=
  s.onChip fun c =>
    if !c.windowOpen h then c
    else match w with
      | .write r => c.winSetWord h r v
      | .writeBytes off b => c.winWriteBytes h off.toNat b
      | .read r => c.winRead h r
      | .readBytes off n => c.winReadBytes h off.toNat n
      | .configWrite r => c.configWrite h r v
      | .configRead r => c.emit (.configRead h (c.configValue h r))

end Sys2Proof.Machine
end

