-- ==== Sys2Proof/Machine/DictRows.lean ====
section
/-! DEFINITION. The rows that write or read one entry of the dictionary, by any requester: over the ring, at a
mailbox, or through the control window (13 R365, R368; 03 R91; 13 R375). -/

namespace Sys2Proof.Machine

/-- The input of a dictionary command of the mailbox (03 Table 03-7). -/
def dictInput (index sub off len : Nat) (data : List Byte) : List Byte :=
  toBytes 2 index ++ [BitVec.ofNat 8 sub, 0] ++ toBytes 4 off ++ toBytes 4 len ++ data

/-- A write of an entry over the ring, whole: expedited up to 64 B, and the completion of a segmented transfer
beyond (13 R358, R368). -/
def Chip.ringWrite (c : Chip) (a : Access) (index sub : Nat) (bytes : List Byte) (ok : Bool) : Chip :=
  let isDomain := match c.entry index sub with | some r => decide (r.type = .domain) | none => false
  let cmd : BitVec 8 := if isDomain || 64 < bytes.length then 3 else 2
  c.ringRequest a (BitVec.ofNat 16 index) (BitVec.ofNat 8 sub) cmd fun c =>
    let (e, c) := c.writeEntry a index sub bytes ok
    c.ringWritten a (BitVec.ofNat 16 index) (BitVec.ofNat 8 sub) cmd e

/-- A write of an entry at the mailbox of a head (03 R91). -/
def Chip.boxWrite (c : Chip) (h : HeadNo) (index sub : Nat) (bytes : List Byte) (ok : Bool) : Chip :=
  c.boxIn h (.dictionaryWrite h (dictInput index sub 0 bytes.length bytes) ok) true false false fun c =>
    (c.useContext (.mailbox h)).boxDictWrite h { index := index, sub := sub, off := 0, len := bytes.length } bytes ok

/-- A write of an entry through the control window of a head: posted, and carried out at once where no other
write of the head is pending (13 R375). An entry of another type has no place in the window (13 R371). -/
def Chip.winWrite (c : Chip) (h : HeadNo) (index sub : Nat) (bytes : List Byte) : Chip :=
  if 8 < bytes.length then c
  else
    let c := c.postWindow h { index := index, sub := sub, part := if bytes.length = 8 then .pair else .word, value := BitVec.ofNat 64 (ofBytes bytes) }
    if (c.head h).pendingWin.length = 1 then c.applyWindow h else c

/-- A write of an entry by a requester (13 R365, R368). -/
def Chip.writeRow (c : Chip) (a : Access) (index sub : Nat) (bytes : List Byte) (ok : Bool := true) : Chip :=
  match a.req with
  | .ring _ => c.ringWrite a index sub bytes ok
  | .mailbox h => c.boxWrite h index sub bytes ok
  | .window h => c.winWrite h index sub bytes

/-- A read of an entry that the window does not map, by a requester (13 R364). -/
def Chip.readRow (c : Chip) (a : Access) (index sub off len : Nat) : Chip :=
  match a.req with
  | .ring _ => c.ringRead a (BitVec.ofNat 16 index) (BitVec.ofNat 8 sub) false off
  | .mailbox h => c.boxIn h (.dictionaryRead h (dictInput index sub off len [])) true false false fun c =>
      (c.useContext (.mailbox h)).boxDictRead h { index := index, sub := sub, off := off, len := len }
  | .window _ => c

/-- OBJ_CMD (02 R63; 13 R370). -/
def execObjCmd (a : Access) (entry : CmdEntry) (s : State) : Host.Outcome State Fault Refusal :=
  s.onChip fun c => c.writeRow a 0x2070 1 (entryBytes entry)

/-- WAYS_SCRATCH (04 R130). -/
def execWaysScratch (a : Access) (v : BitVec 8) (s : State) : Host.Outcome State Fault Refusal :=
  s.onChip fun c => c.writeRow a 0x3000 2 [v]

/-- WAYS_PIN (04 R130). -/
def execWaysPin (a : Access) (v : BitVec 8) (s : State) : Host.Outcome State Fault Refusal :=
  s.onChip fun c => c.writeRow a 0x3000 3 [v]

/-- RETIRE_CMD (05 R154). -/
def execRetireCmd (a : Access) (v : BitVec 8) (s : State) : Host.Outcome State Fault Refusal :=
  s.onChip fun c => c.writeRow a 0x3813 1 [v]

/-- MED_REMOVE (06 R190). -/
def execMedRemove (a : Access) (v : BitVec 8) (s : State) : Host.Outcome State Fault Refusal :=
  s.onChip fun c => c.writeRow a 0x4004 1 [v]

/-- SG_INIT (06 R180). -/
def execSgInit (a : Access) (v : BitVec 8) (s : State) : Host.Outcome State Fault Refusal :=
  s.onChip fun c => c.writeRow a 0x4013 1 [v]

/-- EVAC_CMD (08 R243). -/
def execEvacCmd (a : Access) (v : BitVec 32) (s : State) : Host.Outcome State Fault Refusal :=
  s.onChip fun c => c.writeRow a 0x2041 1 (toBytes 4 v.toNat)

/-- EVAC_STOP: EVAC_CMD with STOP (08 R243). -/
def execEvacStop (a : Access) (v : BitVec 32) (s : State) : Host.Outcome State Fault Refusal :=
  s.onChip fun c => c.writeRow a 0x2041 1 (toBytes 4 v.toNat)

/-- HANDOVER_CMD (09 R267). -/
def execHandoverCmd (a : Access) (v : BitVec 8) (s : State) : Host.Outcome State Fault Refusal :=
  s.onChip fun c => c.writeRow a 0x5030 1 [v]

/-- PAIR_REPLACE (09 R246). -/
def execPairReplace (a : Access) (v : BitVec 64) (s : State) : Host.Outcome State Fault Refusal :=
  s.onChip fun c => c.writeRow a 0x5000 6 (toBytes 8 v.toNat)

/-- REHEARSE_CMD (09 R272). -/
def execRehearseCmd (a : Access) (v : BitVec 8) (s : State) : Host.Outcome State Fault Refusal :=
  s.onChip fun c => c.writeRow a 0x5040 1 [v]

/-- SEQ_GROUP_ON (10 R282). -/
def execSeqGroupOn (a : Access) (v : BitVec 8) (s : State) : Host.Outcome State Fault Refusal :=
  s.onChip fun c => c.writeRow a 0x6004 4 [v]

/-- SQ_CONFIG (10 R276). -/
def execSqConfig (a : Access) (n : RailNo) (v : BitVec 256) (s : State) : Host.Outcome State Fault Refusal :=
  s.onChip fun c => c.writeRow a 0x6001 (n.val + 1) (toBytes 32 v.toNat)

/-- PROBE_CMD (10 R294). -/
def execProbeCmd (a : Access) (v : BitVec 8) (s : State) : Host.Outcome State Fault Refusal :=
  s.onChip fun c => c.writeRow a 0x6012 4 [v]

/-- WRAP_AND_STAY_OFF: WRAP_CMD 1 (10 R298). -/
def execWrapAndStayOff (a : Access) (s : State) : Host.Outcome State Fault Refusal :=
  s.onChip fun c => c.writeRow a 0x6020 2 [1]

/-- WRAP_AND_POWER_UP: WRAP_CMD 2 (10 R298). -/
def execWrapAndPowerUp (a : Access) (s : State) : Host.Outcome State Fault Refusal :=
  s.onChip fun c => c.writeRow a 0x6020 2 [2]

/-- REFRESH_CMD (11 R318). -/
def execRefreshCmd (a : Access) (v : BitVec 8) (s : State) : Host.Outcome State Fault Refusal :=
  s.onChip fun c => c.writeRow a 0x7040 5 [v]

/-- RAW_WRITE (11 R316). -/
def execRawWrite (a : Access) (v : BitVec 2048) (s : State) : Host.Outcome State Fault Refusal :=
  s.onChip fun c => c.writeRow a 0x7010 4 (toBytes 256 v.toNat)

/-- USER_PASSWORD (11 R316). -/
def execUserPassword (a : Access) (area : Fin 4) (v : BitVec 64) (s : State) : Host.Outcome State Fault Refusal :=
  s.onChip fun c => c.writeRow a 0x7020 (area.val + 1) (toBytes 8 v.toNat)

/-- USER_UNLOCK (11 R316). -/
def execUserUnlock (a : Access) (v : BitVec 96) (s : State) : Host.Outcome State Fault Refusal :=
  s.onChip fun c => c.writeRow a 0x7020 5 (toBytes 12 v.toNat)

/-- USER_LOCK (11 R316). -/
def execUserLock (a : Access) (v : BitVec 8) (s : State) : Host.Outcome State Fault Refusal :=
  s.onChip fun c => c.writeRow a 0x7020 6 [v]

/-- COUNTER_INC (11 R315). -/
def execCounterInc (a : Access) (v : BitVec 8) (s : State) : Host.Outcome State Fault Refusal :=
  s.onChip fun c => c.writeRow a 0x7031 1 [v]

/-- CRYPTO_ERASE (12 R327). -/
def execCryptoErase (a : Access) (t : Tag) (s : State) : Host.Outcome State Fault Refusal :=
  s.onChip fun c => c.writeRow a 0x8011 1 [t]

/-- RTV_RESPONSE, its signature given by whether it verifies (12 R347). -/
def execRtvResponse (a : Access) (ok : Bool) (s : State) : Host.Outcome State Fault Refusal :=
  s.onChip fun c => c.writeRow a 0x8050 2 (List.replicate 64 0) ok

/-- DICT_DEFAULTS (13 R367). -/
def execDictDefaults (a : Access) (v : BitVec 8) (s : State) : Host.Outcome State Fault Refusal :=
  s.onChip fun c => c.writeRow a 0x1140 1 [v]

/-- BAROMETER_SEEN (14 R382). -/
def execBarometerSeen (a : Access) (v : BitVec 64) (s : State) : Host.Outcome State Fault Refusal :=
  s.onChip fun c => c.writeRow a 0xA000 2 (toBytes 8 v.toNat)

/-- UPD_BLOCK (15 R398). -/
def execUpdBlock (a : Access) (data : List Byte) (sigOk : Bool) (s : State) : Host.Outcome State Fault Refusal :=
  s.onChip fun c => c.writeRow a 0x9010 2 data sigOk

/-- UPD_END_VERIFY: UPD_END 1 (15 R398). -/
def execUpdEndVerify (a : Access) (sigOk : Bool) (s : State) : Host.Outcome State Fault Refusal :=
  s.onChip fun c => c.writeRow a 0x9010 3 [1] sigOk

/-- UPD_ABANDON: UPD_END 2 (15 R398). -/
def execUpdAbandon (a : Access) (s : State) : Host.Outcome State Fault Refusal :=
  s.onChip fun c => c.writeRow a 0x9010 3 [2]

/-- FW_ACTIVATE (15 R399). -/
def execFwActivate (a : Access) (v : BitVec 8) (s : State) : Host.Outcome State Fault Refusal :=
  s.onChip fun c => c.writeRow a 0x9030 1 [v]

/-- FW_CONFIRM (15 R400). -/
def execFwConfirm (a : Access) (v : BitVec 8) (s : State) : Host.Outcome State Fault Refusal :=
  s.onChip fun c => c.writeRow a 0x9000 6 [v]

/-- FW_REVERT (15 R400). -/
def execFwRevert (a : Access) (v : BitVec 8) (s : State) : Host.Outcome State Fault Refusal :=
  s.onChip fun c => c.writeRow a 0x9000 7 [v]

/-- STORE_IMPORT (15 R395). -/
def execStoreImport (a : Access) (data : List Byte) (s : State) : Host.Outcome State Fault Refusal :=
  s.onChip fun c => c.writeRow a 0x9040 3 data

/-- STORE_RESTORE (15 R395). -/
def execStoreRestore (a : Access) (data : List Byte) (s : State) : Host.Outcome State Fault Refusal :=
  s.onChip fun c => c.writeRow a 0x9040 5 data

/-- RECOVERY_CMD (15 R390). -/
def execRecoveryCmd (a : Access) (v : BitVec 8) (s : State) : Host.Outcome State Fault Refusal :=
  s.onChip fun c => c.writeRow a 0x9050 1 [v]

/-- CORE_RETIRE (16 R407). -/
def execCoreRetire (a : Access) (v : BitVec 8) (s : State) : Host.Outcome State Fault Refusal :=
  s.onChip fun c => c.writeRow a 0xA110 1 [v]

/-- HEAD_ISOLATE (16 R409). -/
def execHeadIsolate (a : Access) (h : HeadNo) (v : BitVec 8) (s : State) : Host.Outcome State Fault Refusal :=
  s.onChip fun c => c.writeRow a 0xA120 (h.val + 1) [v]

/-- HEAD_DC_REGIONS (03 R85). -/
def execHeadDcRegions (a : Access) (h : HeadNo) (v : BitVec 8) (s : State) : Host.Outcome State Fault Refusal :=
  s.onChip fun c => c.writeRow a 0x1401 (h.val + 1) [v]

/-- BIST_HBM_SPARE: test 1 (16 R411). -/
def execBistHbmSpare (a : Access) (s : State) : Host.Outcome State Fault Refusal :=
  s.onChip fun c => c.writeRow a 0xA100 1 [1, 0, 0, 0]

/-- BIST_HBM_PATROL: test 2 (16 R411). -/
def execBistHbmPatrol (a : Access) (s : State) : Host.Outcome State Fault Refusal :=
  s.onChip fun c => c.writeRow a 0xA100 1 [2, 0, 0, 0]

/-- BIST_GMI_RETRAIN: test 3 (16 R411). -/
def execBistGmiRetrain (a : Access) (target : BitVec 8) (s : State) : Host.Outcome State Fault Refusal :=
  s.onChip fun c => c.writeRow a 0xA100 1 [3, target, 0, 0]

/-- BIST_PARITY_CHECK: test 4 (16 R412). -/
def execBistParityCheck (a : Access) (target : BitVec 8) (s : State) : Host.Outcome State Fault Refusal :=
  s.onChip fun c => c.writeRow a 0xA100 1 [4, target, 0, 0]

/-- BIST_CIPHER_KAT: test 5 (16 R411). -/
def execBistCipherKat (a : Access) (target : BitVec 8) (s : State) : Host.Outcome State Fault Refusal :=
  s.onChip fun c => c.writeRow a 0xA100 1 [5, target, 0, 0]

/-- BIST_SEAL_KAT: test 6 (16 R411). -/
def execBistSealKat (a : Access) (s : State) : Host.Outcome State Fault Refusal :=
  s.onChip fun c => c.writeRow a 0xA100 1 [6, 0, 0, 0]

/-- BIST_CORE_SELFTEST: test 7 (16 R408). -/
def execBistCoreSelftest (a : Access) (target : BitVec 8) (s : State) : Host.Outcome State Fault Refusal :=
  s.onChip fun c => c.writeRow a 0xA100 1 [7, target, 0, 0]

/-- BIST_PHY_LOOPBACK: test 8 (16 R411). -/
def execBistPhyLoopback (a : Access) (target : BitVec 8) (s : State) : Host.Outcome State Fault Refusal :=
  s.onChip fun c => c.writeRow a 0xA100 1 [8, target, 0, 0]

/-- RAW_READ (11 R316). -/
def execRawRead (a : Access) (s : State) : Host.Outcome State Fault Refusal :=
  s.onChip fun c => c.readRow a 0x7010 2 0 256

/-- RTV_CHALLENGE (12 R346). -/
def execRtvChallenge (a : Access) (s : State) : Host.Outcome State Fault Refusal :=
  s.onChip fun c => c.readRow a 0x8050 1 0 40

/-- EVENT_RECORD_READ (14 R383). -/
def execEventRecordRead (a : Access) (s : State) : Host.Outcome State Fault Refusal :=
  s.onChip fun c => c.readRow a 0xA030 2 0 128

/-- STORE_EXPORT (15 R395). -/
def execStoreExport (a : Access) (off : Nat) (s : State) : Host.Outcome State Fault Refusal :=
  s.onChip fun c => c.readRow a 0x9040 4 off 65528

/-- Answer the requester of a crypto-erase that has completed (12 R327). -/
def Chip.answerErase (c : Chip) (a : Access) : Chip :=
  match a.req with
  | .ring _ => c.closeWith a.req a.tid (authed a) 0x8011 1 2 .done
  | .mailbox h => c.mbox h .success (.bytes (toBytes 8 0))
  | .window _ => c

/-- CRYPTO_ERASE_COMPLETE: with no program or read under the tag in flight the key is erased on this chip. A chip that erases for
its partner tells it so; the chip that took the write waits for the partner in PAIRED, and answers it (12 R327 steps 2 to 5). -/
def execCryptoEraseComplete (s : State) : Host.Outcome State Fault Refusal :=
  s.onChip fun c =>
    match c.sec.eraseTag, c.sec.eraseReq with
    | some t, some a =>
      if c.tagBusy t || (c.paired && !c.sec.erasePeer) then c
      else (((c.eraseEnd t).onSec fun s => { s with eraseReq := none }).answerErase a).startWaiting
    | some t, none =>
      if c.tagBusy t then c
      else
        let c := c.eraseEnd t
        (if c.paired then c.sendTwin (.tableUpdate (.key t 0)) else c).startWaiting
    | none, _ => c

end Sys2Proof.Machine
end

