-- ==== Sys2Proof/Machine/Dispatch.lean ====
section
/-! DEFINITION. The dispatch: one arm per command. -/

namespace Sys2Proof.Machine

def exec (i : Instr) (s : State) : Host.Outcome State Fault Refusal :=
  match i with
  | .hostRead h hpa tag ideOk ev => Sys2Proof.Machine.execHostRead h hpa tag ideOk ev s
  | .hostWrite h hpa tag data mask poison ideOk ev => Sys2Proof.Machine.execHostWrite h hpa tag data mask poison ideOk ev s
  | .holdExpired mirror n => Sys2Proof.Machine.execHoldExpired mirror n s
  | .refclkLost => Sys2Proof.Machine.execRefclkLost s
  | .coreStopped k => Sys2Proof.Machine.execCoreStopped k s
  | .coreRestarted k ok => Sys2Proof.Machine.execCoreRestarted k ok s
  | .gafferWatchdog => Sys2Proof.Machine.execGafferWatchdog s
  | .create path entry => Sys2Proof.Machine.execCreate path entry s
  | .destroy path entry => Sys2Proof.Machine.execDestroy path entry s
  | .destroyReleaseDone obj => Sys2Proof.Machine.execDestroyReleaseDone obj s
  | .setAttr path entry => Sys2Proof.Machine.execSetAttr path entry s
  | .query path entry => Sys2Proof.Machine.execQuery path entry s
  | .resize path entry => Sys2Proof.Machine.execResize path entry s
  | .move path entry => Sys2Proof.Machine.execMove path entry s
  | .pin path entry => Sys2Proof.Machine.execPin path entry s
  | .unpin path entry => Sys2Proof.Machine.execUnpin path entry s
  | .promote path entry => Sys2Proof.Machine.execPromote path entry s
  | .evict path entry => Sys2Proof.Machine.execEvict path entry s
  | .zero path entry => Sys2Proof.Machine.execZero path entry s
  | .reelOpen path entry => Sys2Proof.Machine.execReelOpen path entry s
  | .reelJoin path entry => Sys2Proof.Machine.execReelJoin path entry s
  | .reelAdvance path entry => Sys2Proof.Machine.execReelAdvance path entry s
  | .reelLeave path entry => Sys2Proof.Machine.execReelLeave path entry s
  | .reelStallTimeout reel reader => Sys2Proof.Machine.execReelStallTimeout reel reader s
  | .reelPrefetch reel pos => Sys2Proof.Machine.execReelPrefetch reel pos s
  | .commandUnreachableTimeout cmd => Sys2Proof.Machine.execCommandUnreachableTimeout cmd s
  | .commandResultWritten cmd => Sys2Proof.Machine.execCommandResultWritten cmd s
  | .cueTail h tail => Sys2Proof.Machine.execCueTail h tail s
  | .cueReset h => Sys2Proof.Machine.execCueReset h s
  | .cueResetDone h => Sys2Proof.Machine.execCueResetDone h s
  | .cueCoalesceExpired h => Sys2Proof.Machine.execCueCoalesceExpired h s
  | .objCmd a entry => Sys2Proof.Machine.execObjCmd a entry s
  | .perstAssert h => Sys2Proof.Machine.execPerstAssert h s
  | .perstDeassert h => Sys2Proof.Machine.execPerstDeassert h s
  | .headLinkUp h rate width flit256 => Sys2Proof.Machine.execHeadLinkUp h rate width flit256 s
  | .headLinkDown h => Sys2Proof.Machine.execHeadLinkDown h s
  | .recoveryTimeout h => Sys2Proof.Machine.execRecoveryTimeout h s
  | .l0StabilityTimeout h => Sys2Proof.Machine.execL0StabilityTimeout h s
  | .hdmCommit h k base size dpa ways gran lock => Sys2Proof.Machine.execHdmCommit h k base size dpa ways gran lock s
  | .cdatRead r => Sys2Proof.Machine.execCdatRead r s
  | .gpfPhase1 => Sys2Proof.Machine.execGpfPhase1 s
  | .gpfPhase2 => Sys2Proof.Machine.execGpfPhase2 s
  | .identify h => Sys2Proof.Machine.execIdentify h s
  | .backgroundOperationStatus h => Sys2Proof.Machine.execBackgroundOperationStatus h s
  | .getResponseMessageLimit h => Sys2Proof.Machine.execGetResponseMessageLimit h s
  | .setResponseMessageLimit h limit => Sys2Proof.Machine.execSetResponseMessageLimit h limit s
  | .requestAbortBackgroundOperation h => Sys2Proof.Machine.execRequestAbortBackgroundOperation h s
  | .getEventRecords h log => Sys2Proof.Machine.execGetEventRecords h log s
  | .clearEventRecords h log all handles => Sys2Proof.Machine.execClearEventRecords h log all handles s
  | .getEventInterruptPolicy h => Sys2Proof.Machine.execGetEventInterruptPolicy h s
  | .setEventInterruptPolicy h modes => Sys2Proof.Machine.execSetEventInterruptPolicy h modes s
  | .getFwInfo h => Sys2Proof.Machine.execGetFwInfo h s
  | .transferFw h action slot off data sigOk => Sys2Proof.Machine.execTransferFw h action slot off data sigOk s
  | .activateFw h online slot => Sys2Proof.Machine.execActivateFw h online slot s
  | .getTimestamp h => Sys2Proof.Machine.execGetTimestamp h s
  | .setTimestamp h value => Sys2Proof.Machine.execSetTimestamp h value s
  | .getSupportedLogs h => Sys2Proof.Machine.execGetSupportedLogs h s
  | .getLog h log off len => Sys2Proof.Machine.execGetLog h log off len s
  | .identifyMemoryDevice h => Sys2Proof.Machine.execIdentifyMemoryDevice h s
  | .getPartitionInfo h => Sys2Proof.Machine.execGetPartitionInfo h s
  | .setPartitionInfo h => Sys2Proof.Machine.execSetPartitionInfo h s
  | .getLsa h off len => Sys2Proof.Machine.execGetLsa h off len s
  | .setLsa h off data => Sys2Proof.Machine.execSetLsa h off data s
  | .getHealthInfo h => Sys2Proof.Machine.execGetHealthInfo h s
  | .getAlertConfiguration h => Sys2Proof.Machine.execGetAlertConfiguration h s
  | .setAlertConfiguration h valid enable life temp volatileCe persistentCe => Sys2Proof.Machine.execSetAlertConfiguration h valid enable life temp volatileCe persistentCe s
  | .getShutdownState h => Sys2Proof.Machine.execGetShutdownState h s
  | .setShutdownState h v => Sys2Proof.Machine.execSetShutdownState h v s
  | .getPoisonList h dpa len => Sys2Proof.Machine.execGetPoisonList h dpa len s
  | .injectPoison h dpa => Sys2Proof.Machine.execInjectPoison h dpa s
  | .clearPoison h dpa data => Sys2Proof.Machine.execClearPoison h dpa data s
  | .getScanMediaCapabilities h dpa len => Sys2Proof.Machine.execGetScanMediaCapabilities h dpa len s
  | .scanMedia h dpa len => Sys2Proof.Machine.execScanMedia h dpa len s
  | .getScanMediaResults h => Sys2Proof.Machine.execGetScanMediaResults h s
  | .sanitize h => Sys2Proof.Machine.execSanitize h s
  | .secureErase h => Sys2Proof.Machine.execSecureErase h s
  | .getSecurityState h => Sys2Proof.Machine.execGetSecurityState h s
  | .setPassphrase h master current new => Sys2Proof.Machine.execSetPassphrase h master current new s
  | .disablePassphrase h master current => Sys2Proof.Machine.execDisablePassphrase h master current s
  | .unlock h current => Sys2Proof.Machine.execUnlock h current s
  | .freezeSecurityState h => Sys2Proof.Machine.execFreezeSecurityState h s
  | .passphraseSecureErase h master current => Sys2Proof.Machine.execPassphraseSecureErase h master current s
  | .getDynamicCapacityConfiguration h => Sys2Proof.Machine.execGetDynamicCapacityConfiguration h s
  | .getDynamicCapacityExtentList h => Sys2Proof.Machine.execGetDynamicCapacityExtentList h s
  | .addDynamicCapacityResponse h regions => Sys2Proof.Machine.execAddDynamicCapacityResponse h regions s
  | .releaseDynamicCapacity h regions => Sys2Proof.Machine.execReleaseDynamicCapacity h regions s
  | .getOlienoInfo h input => Sys2Proof.Machine.execGetOlienoInfo h input s
  | .dictionaryRead h input => Sys2Proof.Machine.execDictionaryRead h input s
  | .dictionaryWrite h input sigOk => Sys2Proof.Machine.execDictionaryWrite h input sigOk s
  | .objectCommand h input => Sys2Proof.Machine.execObjectCommand h input s
  | .getObjectCommandResult h input => Sys2Proof.Machine.execGetObjectCommandResult h input s
  | .mailboxUnsupportedOpcode h opcode => Sys2Proof.Machine.execMailboxUnsupportedOpcode h opcode s
  | .backgroundOpComplete e => Sys2Proof.Machine.execBackgroundOpComplete e s
  | .ideKmQuery h => Sys2Proof.Machine.execIdeKmQuery h s
  | .keyProg h tx k1 => Sys2Proof.Machine.execKeyProg h tx k1 s
  | .keySetGo h tx k1 skid => Sys2Proof.Machine.execKeySetGo h tx k1 skid s
  | .keySetStop h tx k1 => Sys2Proof.Machine.execKeySetStop h tx k1 s
  | .ideRekeyDue h tx => Sys2Proof.Machine.execIdeRekeyDue h tx s
  | .ideCounterExhausted h tx => Sys2Proof.Machine.execIdeCounterExhausted h tx s
  | .nonceUncertain h => Sys2Proof.Machine.execNonceUncertain h s
  | .fillComplete line => Sys2Proof.Machine.execFillComplete line s
  | .descriptorMissDone obj => Sys2Proof.Machine.execDescriptorMissDone obj s
  | .backgroundEvict frame => Sys2Proof.Machine.execBackgroundEvict frame s
  | .evictCommit frame => Sys2Proof.Machine.execEvictCommit frame s
  | .writeBackStart group stripe fill => Sys2Proof.Machine.execWriteBackStart group stripe fill s
  | .writeBackRelease op => Sys2Proof.Machine.execWriteBackRelease op s
  | .waysScratch a v => Sys2Proof.Machine.execWaysScratch a v s
  | .waysPin a v => Sys2Proof.Machine.execWaysPin a v s
  | .wayChangeDone => Sys2Proof.Machine.execWayChangeDone s
  | .hbmTrainDone failed found => Sys2Proof.Machine.execHbmTrainDone failed found s
  | .retireCmd a v => Sys2Proof.Machine.execRetireCmd a v s
  | .retireSettled => Sys2Proof.Machine.execRetireSettled s
  | .retireRebuildDone => Sys2Proof.Machine.execRetireRebuildDone s
  | .spareTest pass => Sys2Proof.Machine.execSpareTest pass s
  | .refreshDue pc stack bank => Sys2Proof.Machine.execRefreshDue pc stack bank s
  | .stackTempRead temp => Sys2Proof.Machine.execStackTempRead temp s
  | .hbmScrub place n ev => Sys2Proof.Machine.execHbmScrub place n ev s
  | .mediumReadDispatch line => Sys2Proof.Machine.execMediumReadDispatch line s
  | .mediumLineReturned line outs => Sys2Proof.Machine.execMediumLineReturned line outs s
  | .recoveryEntryWait line => Sys2Proof.Machine.execRecoveryEntryWait line s
  | .stripeUpdateStart old => Sys2Proof.Machine.execStripeUpdateStart old s
  | .programStart op => Sys2Proof.Machine.execProgramStart op s
  | .programDone ch part wear => Sys2Proof.Machine.execProgramDone ch part wear s
  | .programFailed ch part => Sys2Proof.Machine.execProgramFailed ch part s
  | .relocateDone ch part => Sys2Proof.Machine.execRelocateDone ch part s
  | .tokenAlert ch st => Sys2Proof.Machine.execTokenAlert ch st s
  | .tokenMissing ch part => Sys2Proof.Machine.execTokenMissing ch part s
  | .moduleAlert ch st cmd => Sys2Proof.Machine.execModuleAlert ch st cmd s
  | .readHeaderMissing ch line => Sys2Proof.Machine.execReadHeaderMissing ch line s
  | .moduleSeated ch => Sys2Proof.Machine.execModuleSeated ch s
  | .presenceStable ch => Sys2Proof.Machine.execPresenceStable ch s
  | .moduleUnseated ch => Sys2Proof.Machine.execModuleUnseated ch s
  | .presenceLostTimeout ch => Sys2Proof.Machine.execPresenceLostTimeout ch s
  | .pwrgdStable ch => Sys2Proof.Machine.execPwrgdStable ch s
  | .pwrgdTimeout ch => Sys2Proof.Machine.execPwrgdTimeout ch s
  | .pwrgdFall ch => Sys2Proof.Machine.execPwrgdFall ch s
  | .gmiTrainDone ch vendor geometry units serial rev st stamp margin => Sys2Proof.Machine.execGmiTrainDone ch vendor geometry units serial rev st stamp margin s
  | .gmiTrainFailed ch step => Sys2Proof.Machine.execGmiTrainFailed ch step s
  | .retrainStart ch => Sys2Proof.Machine.execRetrainStart ch s
  | .retrainDone ch => Sys2Proof.Machine.execRetrainDone ch s
  | .retrainTimeout ch => Sys2Proof.Machine.execRetrainTimeout ch s
  | .attnHold ch => Sys2Proof.Machine.execAttnHold ch s
  | .medRemove a v => Sys2Proof.Machine.execMedRemove a v s
  | .removalSafe ch => Sys2Proof.Machine.execRemovalSafe ch s
  | .removeRefusedBlinkEnd ch => Sys2Proof.Machine.execRemoveRefusedBlinkEnd ch s
  | .rebuildDone group => Sys2Proof.Machine.execRebuildDone group s
  | .sgInit a v => Sys2Proof.Machine.execSgInit a v s
  | .groupInitDone group => Sys2Proof.Machine.execGroupInitDone group s
  | .wearRelocation ch part unit => Sys2Proof.Machine.execWearRelocation ch part unit s
  | .minuteTick => Sys2Proof.Machine.execMinuteTick s
  | .driftRefresh ch part unit => Sys2Proof.Machine.execDriftRefresh ch part unit s
  | .materialise group slot => Sys2Proof.Machine.execMaterialise group slot s
  | .patrolScrub group outs sample st => Sys2Proof.Machine.execPatrolScrub group outs sample st s
  | .scrubRewrite ch part unit => Sys2Proof.Machine.execScrubRewrite ch part unit s
  | .stripeRepair line => Sys2Proof.Machine.execStripeRepair line s
  | .bucketLeak => Sys2Proof.Machine.execBucketLeak s
  | .poisonListPersist => Sys2Proof.Machine.execPoisonListPersist s
  | .granuleOpen gran pinRoom => Sys2Proof.Machine.execGranuleOpen gran pinRoom s
  | .segmentClaim seg pair bad => Sys2Proof.Machine.execSegmentClaim seg pair bad s
  | .segmentCopied seg => Sys2Proof.Machine.execSegmentCopied seg s
  | .segmentSwitch seg => Sys2Proof.Machine.execSegmentSwitch seg s
  | .granuleCommit gran => Sys2Proof.Machine.execGranuleCommit gran s
  | .pinMoveSwitch seg => Sys2Proof.Machine.execPinMoveSwitch seg s
  | .movePrep hdr => Sys2Proof.Machine.execMovePrep hdr s
  | .moveParked hdr count => Sys2Proof.Machine.execMoveParked hdr count s
  | .moveHandover hdr bitmap dirty poison lines => Sys2Proof.Machine.execMoveHandover hdr bitmap dirty poison lines s
  | .moveDone hdr => Sys2Proof.Machine.execMoveDone hdr s
  | .moveAbort hdr => Sys2Proof.Machine.execMoveAbort hdr s
  | .movePrepRetry seg => Sys2Proof.Machine.execMovePrepRetry seg s
  | .evacCmd a v => Sys2Proof.Machine.execEvacCmd a v s
  | .evacStop a v => Sys2Proof.Machine.execEvacStop a v s
  | .twinLinkUp => Sys2Proof.Machine.execTwinLinkUp s
  | .twinLinkDown => Sys2Proof.Machine.execTwinLinkDown s
  | .fwdRead hdr ev => Sys2Proof.Machine.execFwdRead hdr ev s
  | .fwdWrite hdr data mask ev => Sys2Proof.Machine.execFwdWrite hdr data mask ev s
  | .fwdData hdr data => Sys2Proof.Machine.execFwdData hdr data s
  | .fwdAck hdr => Sys2Proof.Machine.execFwdAck hdr s
  | .fwdCmd hdr entry => Sys2Proof.Machine.execFwdCmd hdr entry s
  | .fwdCmdResult hdr result => Sys2Proof.Machine.execFwdCmdResult hdr result s
  | .mirrorWrite hdr data mask => Sys2Proof.Machine.execMirrorWrite hdr data mask s
  | .mirrorCommit hdr => Sys2Proof.Machine.execMirrorCommit hdr s
  | .mirrorResend hdr => Sys2Proof.Machine.execMirrorResend hdr s
  | .mirrorFetch hdr bad => Sys2Proof.Machine.execMirrorFetch hdr bad s
  | .mirrorData hdr lines bitmap poison => Sys2Proof.Machine.execMirrorData hdr lines bitmap poison s
  | .heartbeat hdr pair lease remaining => Sys2Proof.Machine.execHeartbeat hdr pair lease remaining s
  | .heartbeatSend => Sys2Proof.Machine.execHeartbeatSend s
  | .probe => Sys2Proof.Machine.execProbe s
  | .hello h => Sys2Proof.Machine.execHello h s
  | .pairAccept position epoch => Sys2Proof.Machine.execPairAccept position epoch s
  | .pairRefuse cause => Sys2Proof.Machine.execPairRefuse cause s
  | .renewRelay hdr f renew => Sys2Proof.Machine.execRenewRelay hdr f renew s
  | .tableUpdate hdr u => Sys2Proof.Machine.execTableUpdate hdr u s
  | .descInval hdr obj => Sys2Proof.Machine.execDescInval hdr obj s
  | .poisonShadow hdr line len src remove => Sys2Proof.Machine.execPoisonShadow hdr line len src remove s
  | .timestamp hdr value => Sys2Proof.Machine.execTimestamp hdr value s
  | .squallNote hdr state => Sys2Proof.Machine.execSquallNote hdr state s
  | .handoverBegin hdr => Sys2Proof.Machine.execHandoverBegin hdr s
  | .handoverParked hdr count => Sys2Proof.Machine.execHandoverParked hdr count s
  | .handoverState hdr epoch => Sys2Proof.Machine.execHandoverState hdr epoch s
  | .handoverDone hdr => Sys2Proof.Machine.execHandoverDone hdr s
  | .staleSet granules final => Sys2Proof.Machine.execStaleSet granules final s
  | .auditReq hdr gran => Sys2Proof.Machine.execAuditReq hdr gran s
  | .auditSum hdr digest => Sys2Proof.Machine.execAuditSum hdr digest s
  | .mirrorAuditStart => Sys2Proof.Machine.execMirrorAuditStart s
  | .pulseToggle => Sys2Proof.Machine.execPulseToggle s
  | .pulseLoss => Sys2Proof.Machine.execPulseLoss s
  | .pulseRestored => Sys2Proof.Machine.execPulseRestored s
  | .linkSilenceTimeout => Sys2Proof.Machine.execLinkSilenceTimeout s
  | .probeTimeout => Sys2Proof.Machine.execProbeTimeout s
  | .register => Sys2Proof.Machine.execRegister s
  | .registerResend => Sys2Proof.Machine.execRegisterResend s
  | .renewSend => Sys2Proof.Machine.execRenewSend s
  | .renewAck f renew => Sys2Proof.Machine.execRenewAck f renew s
  | .renewAckTimeout seq => Sys2Proof.Machine.execRenewAckTimeout seq s
  | .leaseFenceDeadline => Sys2Proof.Machine.execLeaseFenceDeadline s
  | .verdictGrant epoch => Sys2Proof.Machine.execVerdictGrant epoch s
  | .verdictSplit => Sys2Proof.Machine.execVerdictSplit s
  | .verdictDeny drill => Sys2Proof.Machine.execVerdictDeny drill s
  | .verdictDrillOk => Sys2Proof.Machine.execVerdictDrillOk s
  | .poisonNote seq lines => Sys2Proof.Machine.execPoisonNote seq lines s
  | .poisonAck seq => Sys2Proof.Machine.execPoisonAck seq s
  | .poisonAckTimeout seq => Sys2Proof.Machine.execPoisonAckTimeout seq s
  | .routeMapRewriteDone => Sys2Proof.Machine.execRouteMapRewriteDone s
  | .handoverCmd a v => Sys2Proof.Machine.execHandoverCmd a v s
  | .pairReplace a v => Sys2Proof.Machine.execPairReplace a v s
  | .rehearseCmd a v => Sys2Proof.Machine.execRehearseCmd a v s
  | .rehearsalDue holdOk replicaOk => Sys2Proof.Machine.execRehearsalDue holdOk replicaOk s
  | .rehearsalTimeout => Sys2Proof.Machine.execRehearsalTimeout s
  | .powerUpStart => Sys2Proof.Machine.execPowerUpStart s
  | .upStepDone => Sys2Proof.Machine.execUpStepDone s
  | .rampTimeout n => Sys2Proof.Machine.execRampTimeout n s
  | .downStepDone => Sys2Proof.Machine.execDownStepDone s
  | .offTimeout n => Sys2Proof.Machine.execOffTimeout n s
  | .powerDownStuck => Sys2Proof.Machine.execPowerDownStuck s
  | .adcSample input => Sys2Proof.Machine.execAdcSample input s
  | .pgChange n level edges => Sys2Proof.Machine.execPgChange n level edges s
  | .railRetryTimer n => Sys2Proof.Machine.execRailRetryTimer n s
  | .seqGroupOn a v => Sys2Proof.Machine.execSeqGroupOn a v s
  | .retryWaitDone => Sys2Proof.Machine.execRetryWaitDone s
  | .retryCountReset => Sys2Proof.Machine.execRetryCountReset s
  | .resetNLow => Sys2Proof.Machine.execResetNLow s
  | .seqFaultSeen => Sys2Proof.Machine.execSeqFaultSeen s
  | .vauxCollapse k => Sys2Proof.Machine.execVauxCollapse k s
  | .sqConfig a n v => Sys2Proof.Machine.execSqConfig a n v s
  | .budgetCompute => Sys2Proof.Machine.execBudgetCompute s
  | .reserveLostTimeout => Sys2Proof.Machine.execReserveLostTimeout s
  | .probeStart => Sys2Proof.Machine.execProbeStart s
  | .probeCmd a v => Sys2Proof.Machine.execProbeCmd a v s
  | .probeBudgetReady deferOver => Sys2Proof.Machine.execProbeBudgetReady deferOver s
  | .probeDischarge dropMv loadMa => Sys2Proof.Machine.execProbeDischarge dropMv loadMa s
  | .probeStepEnd fallMv us chargeUc => Sys2Proof.Machine.execProbeStepEnd fallMv us chargeUc s
  | .powerLoss => Sys2Proof.Machine.execPowerLoss s
  | .wrapAndStayOff a => Sys2Proof.Machine.execWrapAndStayOff a s
  | .wrapAndPowerUp a => Sys2Proof.Machine.execWrapAndPowerUp a s
  | .wrapSettled => Sys2Proof.Machine.execWrapSettled s
  | .wrapDrained => Sys2Proof.Machine.execWrapDrained s
  | .wrapPersisted => Sys2Proof.Machine.execWrapPersisted s
  | .wrapResume => Sys2Proof.Machine.execWrapResume s
  | .wrapRestart => Sys2Proof.Machine.execWrapRestart s
  | .dirtyMapCheckpoint => Sys2Proof.Machine.execDirtyMapCheckpoint s
  | .wrapRecordHourly => Sys2Proof.Machine.execWrapRecordHourly s
  | .snapshotCopy => Sys2Proof.Machine.execSnapshotCopy s
  | .ledgerPageWriteDone ns => Sys2Proof.Machine.execLedgerPageWriteDone ns s
  | .ledgerTimeout => Sys2Proof.Machine.execLedgerTimeout s
  | .refreshPage rewrite ce ue => Sys2Proof.Machine.execRefreshPage rewrite ce ue s
  | .refreshPassDue => Sys2Proof.Machine.execRefreshPassDue s
  | .refreshCmd a v => Sys2Proof.Machine.execRefreshCmd a v s
  | .rawWrite a v => Sys2Proof.Machine.execRawWrite a v s
  | .rawRead a => Sys2Proof.Machine.execRawRead a s
  | .userPassword a area v => Sys2Proof.Machine.execUserPassword a area v s
  | .userUnlock a v => Sys2Proof.Machine.execUserUnlock a v s
  | .userLock a v => Sys2Proof.Machine.execUserLock a v s
  | .counterInc a v => Sys2Proof.Machine.execCounterInc a v s
  | .cryptoErase a t => Sys2Proof.Machine.execCryptoErase a t s
  | .cryptoEraseComplete => Sys2Proof.Machine.execCryptoEraseComplete s
  | .drbgHealthFail => Sys2Proof.Machine.execDrbgHealthFail s
  | .drbgReseed => Sys2Proof.Machine.execDrbgReseed s
  | .sealRequest op slot priority tagOk => Sys2Proof.Machine.execSealRequest op slot priority tagOk s
  | .sealAlarm e => Sys2Proof.Machine.execSealAlarm e s
  | .sealRecover => Sys2Proof.Machine.execSealRecover s
  | .sealParityFault => Sys2Proof.Machine.execSealParityFault s
  | .twinRekeyDue => Sys2Proof.Machine.execTwinRekeyDue s
  | .twinRekeyRetry => Sys2Proof.Machine.execTwinRekeyRetry s
  | .twinCounterExhausted => Sys2Proof.Machine.execTwinCounterExhausted s
  | .witnessSeqExhausted => Sys2Proof.Machine.execWitnessSeqExhausted s
  | .getVersion h => Sys2Proof.Machine.execGetVersion h s
  | .getCapabilities h => Sys2Proof.Machine.execGetCapabilities h s
  | .negotiateAlgorithms h => Sys2Proof.Machine.execNegotiateAlgorithms h s
  | .getDigests h => Sys2Proof.Machine.execGetDigests h s
  | .getCertificate h slot off len => Sys2Proof.Machine.execGetCertificate h slot off len s
  | .challenge h slot => Sys2Proof.Machine.execChallenge h slot s
  | .getMeasurements h index => Sys2Proof.Machine.execGetMeasurements h index s
  | .keyExchange h => Sys2Proof.Machine.execKeyExchange h s
  | .finish h session ok => Sys2Proof.Machine.execFinish h session ok s
  | .spdmHeartbeat h session => Sys2Proof.Machine.execSpdmHeartbeat h session s
  | .spdmSessionTimeout h session => Sys2Proof.Machine.execSpdmSessionTimeout h session s
  | .keyUpdate h session ack => Sys2Proof.Machine.execKeyUpdate h session ack s
  | .endSession h session => Sys2Proof.Machine.execEndSession h session s
  | .twinSpdmSession ok => Sys2Proof.Machine.execTwinSpdmSession ok s
  | .rtvChallenge a => Sys2Proof.Machine.execRtvChallenge a s
  | .rtvResponse a ok => Sys2Proof.Machine.execRtvResponse a ok s
  | .ringFrameRx p f => Sys2Proof.Machine.execRingFrameRx p f s
  | .ringPortStateChange p v => Sys2Proof.Machine.execRingPortStateChange p v s
  | .ringSerdesLock => Sys2Proof.Machine.execRingSerdesLock s
  | .bypHoldRaise => Sys2Proof.Machine.execBypHoldRaise s
  | .sourceRecordExpired src => Sys2Proof.Machine.execSourceRecordExpired src s
  | .dictRead a index sub describe off => Sys2Proof.Machine.execDictRead a index sub describe off s
  | .dictWrite a index sub size data sigOk => Sys2Proof.Machine.execDictWrite a index sub size data sigOk s
  | .writeInit a index sub size data => Sys2Proof.Machine.execWriteInit a index sub size data s
  | .dictSegment a index sub seg final data sigOk => Sys2Proof.Machine.execDictSegment a index sub seg final data sigOk s
  | .dictAck a index sub next gap => Sys2Proof.Machine.execDictAck a index sub next gap s
  | .dictAbort a index sub code => Sys2Proof.Machine.execDictAbort a index sub code s
  | .segmentResendTimeout req tid => Sys2Proof.Machine.execSegmentResendTimeout req tid s
  | .transferTimeout req tid => Sys2Proof.Machine.execTransferTimeout req tid s
  | .transferCacheExpired req tid => Sys2Proof.Machine.execTransferCacheExpired req tid s
  | .notifyMergeExpired code => Sys2Proof.Machine.execNotifyMergeExpired code s
  | .windowWrite h index sub part v => Sys2Proof.Machine.execWindowWrite h index sub part v s
  | .windowWriteApply h => Sys2Proof.Machine.execWindowWriteApply h s
  | .setAlias h r m => Sys2Proof.Machine.execSetAlias h r m s
  | .clearAlias h r m => Sys2Proof.Machine.execClearAlias h r m s
  | .toggleAlias h r m => Sys2Proof.Machine.execToggleAlias h r m s
  | .registerWrite h w v => Sys2Proof.Machine.execRegisterWrite h w v s
  | .dictDefaults a v => Sys2Proof.Machine.execDictDefaults a v s
  | .barometerUpdate => Sys2Proof.Machine.execBarometerUpdate s
  | .barometerSeen a v => Sys2Proof.Machine.execBarometerSeen a v s
  | .eventRecordRead a => Sys2Proof.Machine.execEventRecordRead a s
  | .bootRomSelect => Sys2Proof.Machine.execBootRomSelect s
  | .trainStageDone => Sys2Proof.Machine.execTrainStageDone s
  | .loadStage tableOk ue => Sys2Proof.Machine.execLoadStage tableOk ue s
  | .pairStage => Sys2Proof.Machine.execPairStage s
  | .pairStageTimeout => Sys2Proof.Machine.execPairStageTimeout s
  | .claimDeniedRetry => Sys2Proof.Machine.execClaimDeniedRetry s
  | .entryIntoService => Sys2Proof.Machine.execEntryIntoService s
  | .recoveryQuery => Sys2Proof.Machine.execRecoveryQuery s
  | .recoveryData slot off data sigOk => Sys2Proof.Machine.execRecoveryData slot off data sigOk s
  | .recoveryEnd slot sigOk => Sys2Proof.Machine.execRecoveryEnd slot sigOk s
  | .recoveryDownloadTimeout => Sys2Proof.Machine.execRecoveryDownloadTimeout s
  | .updBlock a data sigOk => Sys2Proof.Machine.execUpdBlock a data sigOk s
  | .updEndVerify a sigOk => Sys2Proof.Machine.execUpdEndVerify a sigOk s
  | .updAbandon a => Sys2Proof.Machine.execUpdAbandon a s
  | .updIdleTimeout => Sys2Proof.Machine.execUpdIdleTimeout s
  | .fwActivate a v => Sys2Proof.Machine.execFwActivate a v s
  | .fwConfirm a v => Sys2Proof.Machine.execFwConfirm a v s
  | .probationElapsed => Sys2Proof.Machine.execProbationElapsed s
  | .fwRevert a v => Sys2Proof.Machine.execFwRevert a v s
  | .probationStartTimeout => Sys2Proof.Machine.execProbationStartTimeout s
  | .storeImport a data => Sys2Proof.Machine.execStoreImport a data s
  | .storeRestore a data => Sys2Proof.Machine.execStoreRestore a data s
  | .storeExport a off => Sys2Proof.Machine.execStoreExport a off s
  | .recoveryCmd a v => Sys2Proof.Machine.execRecoveryCmd a v s
  | .coreRetire a v => Sys2Proof.Machine.execCoreRetire a v s
  | .headIsolate a h v => Sys2Proof.Machine.execHeadIsolate a h v s
  | .headDcRegions a h v => Sys2Proof.Machine.execHeadDcRegions a h v s
  | .bistHbmSpare a => Sys2Proof.Machine.execBistHbmSpare a s
  | .bistHbmPatrol a => Sys2Proof.Machine.execBistHbmPatrol a s
  | .bistGmiRetrain a target => Sys2Proof.Machine.execBistGmiRetrain a target s
  | .bistParityCheck a target => Sys2Proof.Machine.execBistParityCheck a target s
  | .bistCipherKat a target => Sys2Proof.Machine.execBistCipherKat a target s
  | .bistSealKat a => Sys2Proof.Machine.execBistSealKat a s
  | .bistCoreSelftest a target => Sys2Proof.Machine.execBistCoreSelftest a target s
  | .bistPhyLoopback a target => Sys2Proof.Machine.execBistPhyLoopback a target s
  | .bistDone verdict errors detail => Sys2Proof.Machine.execBistDone verdict errors detail s
  | .refclkRestored => Sys2Proof.Machine.execRefclkRestored s

end Sys2Proof.Machine
end

