-- ==== Sys2Proof/Machine/Idle.lean ====
section
/-! DEFINITION. What the block does at a step with no command waiting: one tick of AON_CLK (01 R20), with the work
that needs no command, one piece of it at a tick. -/

namespace Sys2Proof.Machine

/-- The media cores overwrite one released segment of the scrub backlog, in service (02 R60): the lines of it that nothing
has written since hold nothing any more. -/
def Chip.scrubOne (c : Chip) : Chip :=
  match c.med.scrubLeft with
  | [] => c
  | r :: rest =>
    if !c.inService then c
    else
      let k := segKey r.slot r.first
      let now := c.med.map.getD k 0 ||| c.med.medMap.getD k 0
      c.onMed fun m =>
        { m with lines := m.lines.filter (fun p => decide (p.1 / 64 ≠ k) || now.getLsbD (p.1 % 64)),
                 scrubLeft := if r.count ≤ 1 then rest else { r with first := r.first + 1, count := r.count - 1 } :: rest }

/-- The timestamp counter and the time in squall mode advance by 40 ns, while VAUX is valid (01 R20; 04 R122). -/
def Chip.countTick (c : Chip) : Chip :=
  if !c.pwr.vauxOk then c
  else
    let c := c.onClk fun k => { k with ticks := k.ticks + 1 }
    if c.cache.squall = 0 then c else c.onCache fun k => { k with squallTicks := k.squallTicks + 1 }

/-- An idle step: the tick, one request of the sealing engine (12 R334), one segment of the scrub backlog, one command of each
HBM scheduler (05 R139), one piece of a rebuild (05 R150), and the requests outside the device whose heads have credits
again (04 R123). -/
def Chip.idle (c : Chip) : Chip :=
  let c := c.countTick.sealRun.scrubOne.schedTick.rebuildStep
  c.admitOutside c.cache.outside.length

/-- The mailbox command that has waited for MG longest, once MG runs (03 R88), and the chip without it. -/
def Chip.nextDeferred (c : Chip) : Option (Instr × Chip) :=
  match c.deferred with
  | [] => none
  | (_, i) :: rest => if c.mgRuns then some (i, { c with deferred := rest }) else none

end Sys2Proof.Machine
end

