-- ==== Sys2Proof/Safety.lean ====
section
/-! DEFINITION. The words that statements about the block are made of: a command completes, what it leaves as it
was, and the invariants of the state. -/

namespace Sys2Proof.Machine

/-- The command completes: it answers a next state, the waiting commands stay, and the chip it leaves is as `p`
says. -/
def Completes (i : Instr) (s : State) (p : Chip → Prop) : Prop :=
  ∃ t, exec i s = .next t ∧ t.pending = s.pending ∧ p t.chip

/-- The parts of a chip. -/
inductive Grp where
  | id | clk | heads | obj | cache | hbm | med | integ | dolly | twin | wit | pwr | res | wrap | ledger | sec | ring | boot
  | cores | deferred | outs
  deriving DecidableEq, Repr

/-- The ring part of two chips agrees, but for what every frame sent changes: the transmit sequence number and
the counts of frames sent at the two ports (13 R351, R352). -/
def sameRing (a b : Ring) : Prop :=
  { b with txSeq := a.txSeq, vals := a.vals } = a ∧
    ∀ k, k ≠ dictKey 0x1101 3 → k ≠ dictKey 0x1101 4 → b.vals.find k = a.vals.find k

/-- A part of two chips agrees; BAROMETER_SEEN apart, which latches the flags at the end of every command
(14 R382). -/
def Grp.same (g : Grp) (a b : Chip) : Prop :=
  match g with
  | .id => b.id = a.id
  | .clk => b.clk = a.clk
  | .heads => b.heads = a.heads
  | .obj => b.obj = a.obj
  | .cache => b.cache = a.cache
  | .hbm => b.hbm = a.hbm
  | .med => b.med = a.med
  | .integ => b.integ = a.integ
  | .dolly => b.dolly = a.dolly
  | .twin => b.twin = a.twin
  | .wit => b.wit = a.wit
  | .pwr => b.pwr = a.pwr
  | .res => b.res = a.res
  | .wrap => b.wrap = a.wrap
  | .ledger => b.ledger = a.ledger
  | .sec => b.sec = a.sec
  | .ring => sameRing a.ring b.ring
  | .boot => { b.boot with seen := a.boot.seen } = a.boot
  | .cores => b.cores = a.cores
  | .deferred => b.deferred = a.deferred
  | .outs => b.outs = a.outs

/-- Chip `b` is chip `a` in every part but those listed. -/
def Chip.keepsBut (a : Chip) (but : List Grp) (b : Chip) : Prop := ∀ g, g ∉ but → g.same a b

/-- Chip `b` is chip `a`: the command has no effect. -/
def Chip.untouched (a b : Chip) : Prop := a.keepsBut [] b

/-- What was sent between chip `a` and chip `b`. -/
def Chip.sent (a b : Chip) : List Output := b.outs.drop a.outs.length

/-- A message was sent over the twin link, with its line and tag. -/
def Chip.told (a b : Chip) (m : TwinBody) (line : Nat := 0) (tag : Nat := 0) : Prop :=
  ∃ hdr, Output.twin hdr m ∈ a.sent b ∧ hdr.line = line ∧ hdr.tag = tag

/-- A command frame was sent to the module of a channel, where the channel is present (06 R182; 00 R3). -/
def Chip.framed (a b : Chip) (n : Nat) (op : GmiOp) : Prop :=
  ∀ h : n < 36, a.chanPresent ⟨n, h⟩ = true → ∃ t, Output.gmi ⟨n, h⟩ t op ∈ a.sent b

/-- A CTL message is taken: the link carries messages and the epoch is not an older one (09 R248, R250). -/
def Chip.hears (c : Chip) (hdr : TwinHdr) : Prop := c.linkReady = true ∧ c.olderEpoch hdr.epoch = false

/-- A REQ or MIR message is taken: in PAIRED or ALONE, with the current epoch (09 R250). -/
def Chip.hearsReq (c : Chip) (hdr : TwinHdr) : Prop :=
  c.linkReady = true ∧ (c.twin.state = .paired ∨ c.twin.state = .alone) ∧ hdr.epoch = BitVec.ofNat 32 c.twin.epoch

/-- Under its condition the command completes as `p` says; otherwise it completes with no effect on the chip. -/
def CompletesIf (i : Instr) (s : State) (cond : Prop) [Decidable cond] (p : Chip → Prop) : Prop :=
  if cond then Completes i s p else Completes i s s.chip.untouched

/-- Some request that fits waits: outside the device for its head's credits, or inside it, held for the other chip or a
handover, behind a fence, parked, behind a merge, for credits, for the partner's answer or for a fill (01 R31, R39, R42;
04 R123; 05 R150; 08 R229). -/
def Chip.waits (c : Chip) (p : Req → Prop) : Prop :=
  ∃ r, p r ∧ (r ∈ c.cache.outside ∨ r ∈ c.twin.holdQ ∨ r ∈ c.twin.overHold ∨ r ∈ c.twin.handQ ∨ r ∈ c.hbm.heldForFence ∨ r ∈ c.dolly.parked ∨
    r ∈ c.cache.mergeQ ∨ Waiter.home r ∈ c.cache.creditQ ∨ (∃ m ∈ c.twin.fwd, m.req = r) ∨ (∃ m ∈ c.twin.mirror, m.req = r) ∨
    ∃ m ∈ c.cache.misses, r ∈ m.readers)

/-- A head takes requests: its link is up, its memory active, and the request's IDE check, where the stream is on,
passes (03 R80, R100). -/
def Chip.takes (c : Chip) (h : HeadNo) (ideOk : Bool) : Prop :=
  (c.head h).link = .up ∧ (c.head h).memActive = true ∧ ((c.head h).ideOn = true → ideOk = true)

/-- A request of a head stays outside the device: the head withholds request credits, or an earlier one waits so
(01 R42; 04 R113, R123). -/
def Chip.staysOutside (c : Chip) (h : HeadNo) : Prop := c.withheld h = true ∨ ∃ r ∈ c.cache.outside, r.src = .head h

/-- A head takes a request into the device at once. -/
def Chip.takesNow (c : Chip) (h : HeadNo) (ideOk : Bool) : Prop := c.takes h ideOk ∧ ¬ c.staysOutside h

/-- This chip serves a line for a head at once: an accepted extent, an ACTIVE object that permits the head, the home
here, nothing lost, handed over, fenced, being filled or still to be rebuilt (01 R22 to R25, R31; 03 R85; 05 R150). -/
def Chip.serves (c : Chip) (h : HeadNo) (line : Nat) : Prop :=
  line < scratchBase ∧ (c.head h).accepted.getLsbD (lineRegion line) = true ∧
    (∃ id o, c.objAt line = some (id, o) ∧ o.heads.getLsbD (c.pairHead h).val = true ∧ o.state = .active ∧
      c.waitsHandover o line = false ∧ c.lostLine line o.mirror = false) ∧
    c.homeHere (lineSeg line) = true ∧ c.fenced line true = false ∧ c.unbuiltOf (lineSeg line) = [] ∧ c.missOf line = none

/-- In service with nothing to settle: no write waits for credits or a merge entry, no squall condition holds, and the
panic signal is down (04 R113, R122; 05 R142). -/
def Chip.calm (c : Chip) : Prop :=
  c.inService = true ∧ c.cache.creditQ = [] ∧ c.cache.mergeQ = [] ∧ c.cache.squall = 0 ∧ c.squallCond = 0 ∧ c.hbm.panic = false ∧ c.panicOn ≠ 0

/-- What can change when waiting writes are served and squall mode and the panic signal are evaluated again. -/
def settleGrps : List Grp := [.heads, .obj, .cache, .hbm, .med, .integ, .dolly, .twin, .ledger, .ring, .boot, .outs]

/-- What a fence can change beside what its statement says: the requests inside the chip, the reels' holds on the other chip,
the reads of its copies, what the heads and the link had open. -/
def fenceGrps : List Grp :=
  [.heads, .obj, .cache, .hbm, .med, .integ, .dolly, .twin, .wit, .ledger, .sec, .ring, .boot, .deferred, .outs]

/-- No write waits for credits, for a merge entry or for a granule move. -/
def Chip.nonePending (c : Chip) : Prop := c.cache.creditQ = [] ∧ c.cache.mergeQ = [] ∧ c.dolly.parked = []

/-- The key of a tag is loaded, or EMPTY and drawn on this chip at once: unpaired, alone, or in position 0 of the pair
(12 R322, R325, R337). -/
def Chip.keyAtHand (c : Chip) (t : Tag) : Prop :=
  c.tagState t = .loaded ∨
    (c.tagState t = .empty ∧ (c.twin.state = .unpaired ∨ c.twin.state = .alone ∨ (c.twin.state = .paired ∧ c.twin.position = false)) ∧
      c.sec.drbgStopped = false ∧ (c.sec.userPass = none ∨ c.sec.slots.getLsbD 1 = true))

/-- The stores of a chip hold their canonical form: the ledger's cells and the cue ring entries of every head as byte
stores, the frames, the held lines and the volatile entries as tables whose keys rise. -/
def Chip.storesWf (c : Chip) : Prop :=
  Memory.wf c.ledger.cells = true ∧ (∀ h : HeadNo, Memory.wf (c.head h).cue.entries = true) ∧
    SMap.sorted c.cache.frames = true ∧ SMap.sorted c.cache.lines = true ∧ SMap.sorted c.ring.vals = true

/-- The command came over the twin link. -/
def viaTwin (path : CmdPath) : Prop := ∃ tag, path = .fwd tag

/-- The command came through a cue ring. -/
def viaCue (path : CmdPath) : Bool := match path with | .cue _ _ => true | _ => false

/-- An object command passes the checks that need no object and runs on this chip (02 R57, R63, R66; 12 R345). -/
def Chip.admits (c : Chip) (path : CmdPath) (e : CmdEntry) : Prop :=
  c.sec.locked = false ∧ lowest (zeroFaults e (viaCue path) ++ c.fieldFaults e) = none ∧ c.cmdDenied path e = false ∧
    (viaTwin path ∨ c.cmdHere e = true) ∧ c.cmd c.obj.nextCmd = none

/-- An object command runs at once on an ACTIVE object: admitted, MATCH_TAG matches, the range lies in the object,
no earlier command on an overlapping range stands against it, and what both chips are to hold can reach the partner
(02 R57, R58, R62; 08 R241). -/
def Chip.runsOn (c : Chip) (path : CmdPath) (e : CmdEntry) (o : Obj) : Prop :=
  c.admits path e ∧ c.obj.table.find (objOf e) = some o ∧ o.state = .active ∧
    (bit (flagsOf e) 31 = true → o.userTag = BitVec.ofNat 32 (fieldAt e 56 4)) ∧
    (0x10 ≤ opcodeOf e → opcodeOf e ≤ 0x15 → rangeFault e o = none) ∧
    c.rivals c.obj.nextCmd e (spanOf e o).1 (spanOf e o).2 = [] ∧ c.pairWaits e = false

/-- Command `id` is in flight with its path and entry, and has its result: status, detail and values. -/
def Chip.answered (c : Chip) (id : Nat) (path : CmdPath) (e : CmdEntry) (status : Nat) (detail : Nat := 0)
    (vals : List (Nat × Nat × Nat) := []) (obj : Nat := objOf e) : Prop :=
  ∃ r, c.cmd id = some r ∧ r.path = path ∧ r.entry = e ∧ r.result = some (mkResult e obj status detail (c.userTag obj) vals)

/-- Command `id` is in flight with its path and entry and has no result yet; it works on the segments given. -/
def Chip.working (c : Chip) (id : Nat) (path : CmdPath) (e : CmdEntry) (first count : Nat) : Prop :=
  ∃ r, c.cmd id = some r ∧ r.path = path ∧ r.entry = e ∧ r.result = none ∧ r.first = first ∧ r.count = count

/-- The access as its requester is known: only the ring carries a transfer identifier and an authentication. -/
def knownAccess (a : Access) : Access := match a.req with | .ring _ => a | q => { req := q }

/-- Whether a write's signature counts as verified: at the control window it was verified when the header was complete
(15 R398). -/
def signedFor (a : Access) (ok : Bool) : Bool := match a.req with | .window _ => true | _ => ok

/-- The mailbox of a head takes a command at once: the link up, firmware and MG running, the doorbell clear
(01 R17; 03 R88). -/
def Chip.boxServed (c : Chip) (h : HeadNo) : Prop :=
  h.val < c.id.part.heads ∧ (c.head h).link = .up ∧ c.boot.mainOut = true ∧ c.doorbell h = false ∧ c.boot.rom = false ∧
    c.boot.romDone = true ∧ c.mgRuns = true

/-- The mailbox of a head takes a command that only a device in service carries out (15 R387). -/
def Chip.boxOpen (c : Chip) (h : HeadNo) : Prop := c.boxServed h ∧ c.inService = true

/-- The control window of a head takes a write of a mapped entry and carries it out at once (13 R371, R375). -/
def Chip.winServed (c : Chip) (h : HeadNo) : Prop :=
  c.windowOpen h = true ∧ c.boot.romDone = true ∧ c.boot.rom = false ∧ c.mgRuns = true ∧ (c.head h).pendingWin = []

/-- A ring request with a transfer identifier that is neither open nor remembered is served (13 R357, R359, R360). -/
def Chip.ringFresh (c : Chip) (a : Access) : Prop :=
  c.ringServed = true ∧ c.authBad a = false ∧ (∀ k ∈ c.ring.closed, k.req = a.req → k.tid ≠ a.tid) ∧
    c.openXfer a.req a.tid = none ∧ c.ring.transfers.countP (fun t => decide (t.req = a.req)) < 4 ∧ c.ring.transfers.length < 64 ∧
    c.sec.eraseReq.map (fun (x : Access) => (x.req, x.tid)) ≠ some (a.req, a.tid)

/-- A requester's write of a whole value is carried out at once; at a mailbox a DOMAIN is written whole where its own
length field gives the bytes sent, and no pieces of it are open (03 R91; 13 R358, R375). -/
def Chip.asks (c : Chip) (a : Access) (index sub : Nat) (bytes : List Byte) : Prop :=
  match a.req with
  | .ring _ => c.ringFresh a
  | .mailbox h => c.boxServed h ∧ c.openXfer a.req (BitVec.ofNat 8 sub) = none ∧
      ∀ r, c.entry index sub = some r → r.type = .domain → 16 ≤ bytes.length ∧ ofBytes ((bytes.drop 12).take 4) = bytes.length
  | .window h => c.winServed h ∧ bytes.length ≤ 8 ∧ (c.winEntry index sub (if bytes.length = 8 then .pair else .word)).isSome = true

/-- A requester's write is carried out at once and passes the checks of its entry (13 R368 step 1). -/
def Chip.writes (c : Chip) (a : Access) (index sub : Nat) (bytes : List Byte) : Prop :=
  c.asks a index sub bytes ∧ ∃ r, c.entry index sub = some r ∧ c.writeFault a r sub bytes = 0

/-- The requester was told that its write is done: DONE on the ring, ABORT 0 at a mailbox, no error at the window. -/
def Chip.granted (c d : Chip) (a : Access) (index sub : Nat) : Prop :=
  match a.req with
  | .ring m => Output.dict m a.tid 7 (BitVec.ofNat 16 index) (BitVec.ofNat 8 sub) 0 0 0 [] (authed a) ∈ c.sent d
  | .mailbox h => Output.mbox h .success (.bytes (toBytes 4 0 ++ toBytes 4 0)) ∈ c.sent d
  | .window h => (d.head h).winErr = (c.head h).winErr

/-- The requester was told the abort code of its write: ABORT on the ring, the code at a mailbox, a completer abort
and the latched code at the window (13 R361, R375). -/
def Chip.denied (c d : Chip) (a : Access) (index sub code : Nat) : Prop :=
  match a.req with
  | .ring m => Output.dict m a.tid 6 (BitVec.ofNat 16 index) (BitVec.ofNat 8 sub) 0 0 (BitVec.ofNat 32 code) [] (authed a) ∈ c.sent d
  | .mailbox h => Output.mbox h .success (.bytes (toBytes 4 code ++ toBytes 4 0)) ∈ c.sent d
  | .window h => Output.completerAbort h ∈ c.sent d ∧
      ((c.head h).winErr = false → (d.head h).winErr = true ∧ (d.head h).winErrCode = BitVec.ofNat 32 code)

/-- What a dictionary access itself changes, beside its effect: the ring part with the requester's context, transfer
and abort record, the results of a context that is displaced, the window's error, the answer. -/
def accessGrps : List Grp := [.ring, .obj, .heads, .outs]

/-- A write that is refused with a code: it changes no group beyond the access and those named, and no object. -/
def Chip.turnedAway (c d : Chip) (a : Access) (index sub code : Nat) (but : List Grp := []) : Prop :=
  c.denied d a index sub code ∧ d.obj.table = c.obj.table ∧ d.obj.cmds = c.obj.cmds ∧ d.ring.stored = c.ring.stored ∧
    c.keepsBut (accessGrps ++ but) d

/-- A write that passes the checks of its entry: where `ok` holds the requester is told that it is done and the chip is
as `p` says; elsewhere it is refused with `code`, changes at most the groups `but` beside the access, and the chip is
as `q` says. -/
def Acts (i : Instr) (s : State) (a : Access) (index sub : Nat) (bytes : List Byte) (ok : Prop) (code : Nat) (p : Chip → Prop)
    (but : List Grp := []) (q : Chip → Prop := fun _ => True) : Prop :=
  s.chip.writes a index sub bytes →
    (ok → Completes i s fun c => s.chip.granted c a index sub ∧ p c) ∧
    (¬ ok → Completes i s fun c => s.chip.turnedAway c a index sub code but ∧ q c)

/-- The chip is as before but for the access, and the groups listed. -/
def Chip.only (c d : Chip) (gs : List Grp) : Prop := c.keepsBut (accessGrps ++ gs) d

/-- What a write of many persistent entries can change beside the access: what each of them decides (13 R367; 15 R395). -/
def storeGrps : List Grp := [.cache, .hbm, .med, .integ, .dolly, .twin, .pwr, .ledger, .sec, .boot]

/-- Stored entries leave the locked ways as they are, or change them where R130 permits it. -/
def Chip.waysFit (c : Chip) (vals : SMap Nat) : Prop :=
  let scratch := vals.getD (dictKey 0x3000 2) 0
  let pin := vals.getD (dictKey 0x3000 3) 0
  c.inService = false ∨ (scratch = c.par 0x3000 2 0 ∧ pin = c.par 0x3000 3 0) ∨ c.wayConflict scratch pin = false

/-- A requester's read of an entry is answered at once: over the ring, or at the mailbox of a head. -/
def Chip.asksRead (c : Chip) (a : Access) : Prop :=
  match a.req with
  | .ring _ => c.ringFresh a
  | .mailbox h => c.boxServed h
  | .window _ => False

/-- The requester is given the value read: over the ring in one final segment up to 64 B, or as an open transfer whose
first segments, 16 at most, have gone out; at a mailbox behind the abort code 0 and the size (03 Table 03-7;
13 R358). -/
def Chip.given (c d : Chip) (a : Access) (index sub : Nat) (b : List Byte) (segments : Bool := false) : Prop :=
  match a.req with
  | .ring m =>
    if segments = true ∨ 64 < b.length then
      (∃ t, d.openXfer a.req a.tid = some t ∧ t.data = b ∧ t.write = false ∧ t.next = 0 ∧ t.sent = min (segCount b) 16) ∧
        ∀ i, i < min (segCount b) 16 → Output.dict m a.tid 4 (BitVec.ofNat 16 index) (BitVec.ofNat 8 sub) (if i + 1 = segCount b then 1 else 0) i (BitVec.ofNat 32 (if i = 0 then b.length else 0)) ((b.drop (64 * i)).take 64) (authed a) ∈ c.sent d
    else Output.dict m a.tid 4 (BitVec.ofNat 16 index) (BitVec.ofNat 8 sub) 1 0 (BitVec.ofNat 32 b.length) b (authed a) ∈ c.sent d
  | .mailbox h => Output.mbox h .success (.bytes (toBytes 4 0 ++ (toBytes 4 b.length ++ b))) ∈ c.sent d
  | .window _ => True

/-- The mailbox of a head was answered, with the interrupt that marks the completion (03 R88, R96). -/
def Chip.boxAnswered (c d : Chip) (h : HeadNo) (code : MboxCode) (data : MboxData := .empty) : Prop :=
  Output.mbox h code data ∈ c.sent d ∧ Output.msix h 0 ∈ c.sent d

/-- A mailbox command is answered with a code and data, and changes nothing. -/
def BoxOnly (i : Instr) (s : State) (h : HeadNo) (code : MboxCode) (data : MboxData := .empty) : Prop :=
  Completes i s fun c => c.outs = s.chip.outs ++ [.mbox h code data, .msix h 0] ∧ s.chip.keepsBut [.outs] c

/-- The gaffer can wrap: the rails are on, the main domain is out of reset with its firmware's memory, and no wrap
runs (10 R282, R295; 15 R396). -/
def Chip.mayWrap (c : Chip) : Prop :=
  c.pwr.state = .on ∧ c.boot.rom = false ∧ c.boot.mainOut = true ∧ c.wrapping = false

/-- A wrap with its cause has started (10 R295 steps 1, 2): the gaffer is in WRAP, the cause is recorded, the budget is
frozen, every head is Disabled, the twin link is down and the dolly stops. -/
def Chip.wraps (d : Chip) (cause : Nat) : Prop :=
  d.pwr.state = .wrap ∧ d.wrap.state = 1 ∧ d.wrap.cause = cause ∧ d.res.frozen = true ∧
    (∀ h ∈ d.presentHeads, (d.head h).link = .disabled) ∧ d.twin.link = .down ∧ d.dolly.paused = true

/-- A power-up has started (10 R276, R279, R292): the 16 SQ_CONFIG entries are loaded, into the hardware copy too, the
rails of the lowest up step ramp and no other EN is high; no probe has run, and the budget is 0. -/
def Chip.powersUp (c d : Chip) : Prop :=
  d.pwr.state = .up ∧ (∀ n : RailNo, d.pwr.hwCfg.get n = c.sqStored n ∧ (d.rail n).cfg = c.sqStored n) ∧
    (∀ n, (d.rail n).en = true ↔ (d.rail n).isRail = true ∧ d.pwr.step = (d.rail n).upStep + 1) ∧
    (∀ n, (d.rail n).isRail = true → (d.rail n).upStep < 16 → d.pwr.step ≤ (d.rail n).upStep + 1) ∧
    (∀ n, (d.rail n).en = true → (d.rail n).state = .ramping) ∧
    d.res.published = 0 ∧ d.res.probed = false ∧ d.wrap.state = 0 ∧ d.boot.startAt = c.clk.ticks

/-- The main domain leaves reset (15 R386): boot stage 2, and the budget is no longer frozen. -/
def Chip.starts (c d : Chip) : Prop :=
  d.boot.mainOut = true ∧ d.boot.stage = 2 ∧ d.res.frozen = false ∧ d.wrap.state = 0 ∧ d.clk.leftReset = c.clk.ticks ∧
    d.clk.ticks = c.clk.ticks ∧ ∀ h ∈ c.presentHeads, (c.head h).perst = true → (d.head h).link = (c.head h).link

/-- A fault of a rail in UP, ON or WRAP is recorded, and its REACTION follows (10 R282, Table 10-4): IGNORE goes on;
RETRY takes EN low unless it is the third fault within 1 s; GROUP_OFF takes its group's rails off, the device's own
apart; SYSTEM_RESET wraps with cause 3 in ON, and takes the rails down in UP. -/
def Chip.reacted (c d : Chip) (n : RailNo) : Prop :=
  let r := c.rail n
  let count := (d.vol 0x6003 (n.val + 1) = c.vol 0x6003 (n.val + 1) + 1 ∧ (d.rail n).faults = (c.now :: r.faults).take 3)
  (r.reaction = 0 → count ∧ (d.rail n).en = r.en ∧ (d.rail n).done = true ∧ d.pwr.state = c.pwr.state) ∧
    (r.reaction = 1 → ((r.faults.take 2).filter fun t => decide (c.now < t + 1000000000)).length < 2 →
      count ∧ (d.rail n).en = false ∧ (d.rail n).retrying = true ∧ d.pwr.state = c.pwr.state) ∧
    (r.reaction = 2 → count ∧ d.pwr.state = c.pwr.state ∧ ∀ k, (c.rail k).isRail = true → (c.rail k).chipRail = false →
      (c.rail k).group = r.group → (d.rail k).en = false ∧ (d.rail k).state = .offByGroup) ∧
    (r.reaction = 3 → (c.mayWrap → d.wraps 3) ∧
      (c.pwr.state = .up → d.boot.mainOut = false ∧ d.pwr.afterDown = 1 ∧ (d.pwr.state = .down ∨ d.pwr.state = .retryWait)))

/-- The rows that write a dictionary entry: requester, index, subindex, the value's bytes, and whether a signature
in them verifies. -/
def asWrite (i : Instr) : Option (Access × Nat × Nat × List Byte × Bool) :=
  match i with
  | .objCmd a entry => some (a, 0x2070, 1, entryBytes entry, true)
  | .waysScratch a v => some (a, 0x3000, 2, [v], true)
  | .waysPin a v => some (a, 0x3000, 3, [v], true)
  | .retireCmd a v => some (a, 0x3813, 1, [v], true)
  | .medRemove a v => some (a, 0x4004, 1, [v], true)
  | .sgInit a v => some (a, 0x4013, 1, [v], true)
  | .evacCmd a v => some (a, 0x2041, 1, toBytes 4 v.toNat, true)
  | .evacStop a v => some (a, 0x2041, 1, toBytes 4 v.toNat, true)
  | .handoverCmd a v => some (a, 0x5030, 1, [v], true)
  | .pairReplace a v => some (a, 0x5000, 6, toBytes 8 v.toNat, true)
  | .rehearseCmd a v => some (a, 0x5040, 1, [v], true)
  | .seqGroupOn a v => some (a, 0x6004, 4, [v], true)
  | .sqConfig a n v => some (a, 0x6001, n.val + 1, toBytes 32 v.toNat, true)
  | .probeCmd a v => some (a, 0x6012, 4, [v], true)
  | .wrapAndStayOff a => some (a, 0x6020, 2, [1], true)
  | .wrapAndPowerUp a => some (a, 0x6020, 2, [2], true)
  | .refreshCmd a v => some (a, 0x7040, 5, [v], true)
  | .rawWrite a v => some (a, 0x7010, 4, toBytes 256 v.toNat, true)
  | .userPassword a area v => some (a, 0x7020, area.val + 1, toBytes 8 v.toNat, true)
  | .userUnlock a v => some (a, 0x7020, 5, toBytes 12 v.toNat, true)
  | .userLock a v => some (a, 0x7020, 6, [v], true)
  | .counterInc a v => some (a, 0x7031, 1, [v], true)
  | .cryptoErase a t => some (a, 0x8011, 1, [t], true)
  | .rtvResponse a ok => some (a, 0x8050, 2, List.replicate 64 0, ok)
  | .dictDefaults a v => some (a, 0x1140, 1, [v], true)
  | .barometerSeen a v => some (a, 0xA000, 2, toBytes 8 v.toNat, true)
  | .updBlock a data sigOk => some (a, 0x9010, 2, data, sigOk)
  | .updEndVerify a sigOk => some (a, 0x9010, 3, [1], sigOk)
  | .updAbandon a => some (a, 0x9010, 3, [2], true)
  | .fwActivate a v => some (a, 0x9030, 1, [v], true)
  | .fwConfirm a v => some (a, 0x9000, 6, [v], true)
  | .fwRevert a v => some (a, 0x9000, 7, [v], true)
  | .storeImport a data => some (a, 0x9040, 3, data, true)
  | .storeRestore a data => some (a, 0x9040, 5, data, true)
  | .recoveryCmd a v => some (a, 0x9050, 1, [v], true)
  | .coreRetire a v => some (a, 0xA110, 1, [v], true)
  | .headIsolate a h v => some (a, 0xA120, h.val + 1, [v], true)
  | .headDcRegions a h v => some (a, 0x1401, h.val + 1, [v], true)
  | .bistHbmSpare a => some (a, 0xA100, 1, [1, 0, 0, 0], true)
  | .bistHbmPatrol a => some (a, 0xA100, 1, [2, 0, 0, 0], true)
  | .bistGmiRetrain a target => some (a, 0xA100, 1, [3, target, 0, 0], true)
  | .bistParityCheck a target => some (a, 0xA100, 1, [4, target, 0, 0], true)
  | .bistCipherKat a target => some (a, 0xA100, 1, [5, target, 0, 0], true)
  | .bistSealKat a => some (a, 0xA100, 1, [6, 0, 0, 0], true)
  | .bistCoreSelftest a target => some (a, 0xA100, 1, [7, target, 0, 0], true)
  | .bistPhyLoopback a target => some (a, 0xA100, 1, [8, target, 0, 0], true)
  | _ => none

end Sys2Proof.Machine
end

