-- ==== Sys2Proof/Certificates/Slice0/Obligations.lean ====
section
/-! DEFINITION. The statements about the block, for the provers. -/

open Sys2Proof Sys2Proof.Machine

/-- A step runs the command at the front of the queue. With a command at the front, a step is that command's
effect on the state with the queue's rest. With none waiting (the model's choice, log entry 3; withFetchWord,
log entry 6), a step runs the mailbox command that has waited longest once MG runs; else the block idles:
while no request waits outside the device, the timestamp counter advances by one while VAUX is valid, the
background engines do one piece of work, and no head or object changes; no command is added. No word spells a
command, so withFetchWord changes nothing. (01 R20, 03 R88, 04 R122.) -/
def Obligations.StepTakesTheFront : Prop :=
  (∀ (i : Instr) (rest : List Instr) (s : State), step { s with pending := i :: rest } = exec i { s with pending := rest }) ∧
  (∀ (h : HeadNo) (i : Instr) (rest : List (HeadNo × Instr)) (s : State), s.pending = [] → s.chip.deferred = (h, i) :: rest → s.chip.mgRuns = true →
    step s = exec i { s with chip := { s.chip with deferred := rest } }) ∧
  (∀ s : State, s.pending = [] → s.chip.deferred = [] ∨ s.chip.mgRuns = false → ∃ t, step s = .next t ∧ t.pending = [] ∧
    (s.chip.cache.outside = [] →
      t.chip.clk = { s.chip.clk with ticks := if s.chip.pwr.vauxOk = true then s.chip.clk.ticks + 1 else s.chip.clk.ticks } ∧
        s.chip.keepsBut [.clk, .cache, .hbm, .med, .sec, .ring, .outs] t.chip)) ∧
  ∀ (s : State) (nbits w : Nat), Sys2Proof.decodeTableWord nbits w = none ∧ s.withFetchWord nbits w = s

/-- Every command completes. Whatever the state and whatever the command with its operands, its meaning answers a
next state, never a fault and never a refusal, and takes no command from the queue. The spec gives every
command of this block an effect, if only none, in every state. (00 R2, 01 R20.) -/
def Obligations.EveryCommandCompletes : Prop :=
  ∀ (i : Instr) (s : State), ∃ t, exec i s = .next t ∧ t.pending = s.pending

/-- The state after reset. At reset no command waits, nothing is stored beyond what memory reads as when
unwritten, the stores hold their canonical form, the gaffer is OFF with every EN low, the main domain is in
reset, no wrap runs, the published budget is 0, every head's link is down, the device is UNPAIRED, no object
exists, no dictionary entry differs from its default. What of this no rule gives is the model's choice (log
entries 13 to 20). (10 Table 10-3, 10 R279, 10 R292, 09 Table 09-2, 03 R80, 13 R367.) -/
def Obligations.ResetState : Prop :=
  let c := State.reset.chip
  State.reset.pending = [] ∧ c.storesWf ∧ c.ledger.cells = [] ∧ c.outs = [] ∧ c.pwr.state = .off ∧ (∀ n, (c.rail n).en = false) ∧ c.boot.mainOut = false ∧
    c.wrap.state = 0 ∧ c.res.published = 0 ∧ (∀ h : HeadNo, (c.head h).link = .detect ∧ (c.head h).memActive = false) ∧ c.twin.state = .unpaired ∧
    c.obj.table = [] ∧ c.ring.stored = [] ∧ (∀ slot, (c.imageOf slot).present = false)

/-- Every step keeps the stores' canonical form and the identity of the chip. Whatever the command, a step that
answers a next state takes at most the front of the queue, keeps the ledger's cells and the cue ring entries
in the one canonical form of a byte store, keeps the keys of the frames, the held lines and the volatile
entries rising, and never changes the fused part, the serial number or the ring address. (00 R2, 03 R79, 13
R350, 11 R303, 02 R64, 04 R107.) -/
def Obligations.StoresKept : Prop :=
  ∀ (s t : State), step s = .next t → s.chip.storesWf → t.chip.storesWf ∧ t.chip.id = s.chip.id ∧ t.pending = s.pending.tail

/-- Requests to an address that lies in no object. A read of a twin address in no object returns 64 zero bytes
with poison, and a write to it is dropped and acknowledged; both add a General Media record with the
transaction type "unmapped" to the Failure log of the arrival head, and neither reaches the cache pipeline or
changes a line. (01 R22.) -/
def Obligations.UnmappedRequests : Prop :=
  ∀ (s : State) (h : HeadNo) (hpa : BitVec 64) (tag : BitVec 16) (ideOk : Bool) (ev : HbmEvent) (dpa : Nat),
    s.chip.takesNow h ideOk → (s.chip.head h).decode hpa.toNat = some dpa → dpa / 64 < scratchBase → s.chip.objAt (dpa / 64) = none →
    let log := (s.chip.head h).logs.get LogNo.failure.index
    let recorded (c : Chip) : Prop := (c.head h).logs.get LogNo.failure.index = log.add s.chip.stamp (.media (64 * (dpa / 64)) 0x80 1 1 none []) ∧
      (∀ k, k ≠ h → c.head k = s.chip.head k) ∧ s.chip.keepsBut [.heads, .ledger, .ring, .outs] c
    (Completes (.hostRead h hpa tag ideOk ev) s fun c => (∃ l, Output.readDone h tag 0 true l ∈ s.chip.sent c) ∧ recorded c) ∧
    ∀ (data : Line) (mask : Mask) (poison : Bool), Completes (.hostWrite h hpa tag data mask poison ideOk ev) s fun c =>
      (∃ l, Output.writeDone h tag l ∈ s.chip.sent c) ∧ recorded c

/-- Reserved bits in a value written to an entry. On the KLX-9256 (the full configuration) a write whose value
changes a reserved bit of its entry (against its present value where it is RW, against 0 otherwise) is refused
with WRITE_LOCKED and nothing is stored, from every requester. In the small configurations the device does not
check: the write passes whatever those bits are. (13 R369.) -/
def Obligations.ReservedBits : Prop :=
  ∀ (s : State) (a : Access) (index sub : Nat) (bytes : List Byte) (ok : Bool) (r : DictRow) (i : Instr),
    (asWrite i = some (a, index, sub, bytes, ok) ∧ s.chip.asks a index sub bytes) ∨
      (s.chip.ringFresh a ∧ (∃ m, a.req = .ring m) ∧ index < 2 ^ 16 ∧ sub < 2 ^ 8 ∧ bytes.length ≤ 64 ∧
        i = .dictWrite a (BitVec.ofNat 16 index) (BitVec.ofNat 8 sub) bytes.length bytes ok) →
    s.chip.entry index sub = some r → r.acc ≠ .ro → r.type ≠ .domain → bytes.length = r.type.size → r.level ≤ s.chip.levelOf a →
    let v := ofBytes bytes
    let old := if r.acc = .rw then s.chip.dictValue a.req r sub else 0
    (s.chip.id.part = .klx9256 → (v ^^^ old) &&& rsvMask r sub ≠ 0 → Completes i s fun c => s.chip.turnedAway c a index sub abWriteLocked) ∧
    (s.chip.id.part ≠ .klx9256 → outOfRange r v = false → s.chip.relationBroken index sub v = false → s.chip.inService = true → s.chip.writeFault a r sub bytes = 0)

/-- Every request a head takes is answered or waits. Where a head's link is up, its memory active and the IDE
check passes, a host read is answered at the head or is held in one of the device's queues, and a host write
is acknowledged at the head or is held in one of them: no request is dropped without a completion, whatever
its address. (01 R22, 01 R23, 01 R26, 01 R31, 03 R85, 04 R123, 05 R150.) -/
def Obligations.EveryRequestAnsweredOrWaits : Prop :=
  ∀ (s : State) (h : HeadNo) (hpa : BitVec 64) (tag : BitVec 16) (ideOk : Bool), s.chip.takes h ideOk →
    (Completes (.hostRead h hpa tag ideOk .ok) s fun c =>
      (∃ d p l, Output.readDone h tag d p l ∈ s.chip.sent c) ∨ c.waits fun r => r.src = .head h ∧ r.tag = tag ∧ r.write = false) ∧
    ∀ (data : Line) (mask : Mask) (poison : Bool),
      Completes (.hostWrite h hpa tag data mask poison ideOk .ok) s fun c =>
        (∃ l, Output.writeDone h tag l ∈ s.chip.sent c) ∨
          c.waits fun r => r.src = .head h ∧ r.tag = tag ∧ r.write = true ∧ r.data = data ∧ r.mask = mask ∧ r.poison = poison

/-- Host requests that this chip serves at once or turns away. A read that a committed decoder maps to a line this
chip serves returns the line as the cache holds it, with 64 B of zeros and poison where the held line is
poisoned; where no frame holds it, no poison record covers it and it was never written, it returns zeros
without poison. A mark without a record gains one, unless the list is full. Both completions carry the DevLoad
of the state that served them. No stored line changes. A write to a line that this chip serves and that is
dirty in the pair of frames of its segment, with no mirror to update and no pin move of the segment, is
acknowledged at once, with no credit: both copies hold the line with the enabled bytes replaced (the disabled
bytes of a poisoned line become zero) and the write's poison, a later lookup finds it, and, where no frame
still has to be rebuilt, no other line that HBM holds changes. A request at an address in no committed decoder
is unmapped: a read completes with zeros and poison, a write is dropped and acknowledged, UNMAPPED_SEEN is
set, no line and no other head changes. Where the head withholds its credits, or an earlier request of it
waits outside, a request waits outside the device behind those before it and nothing else changes. A request
whose IDE check fails has no effect on memory: the stream goes off, the link trains again, and HEAD_EVT shows
the failure and the loss. (01 R22, 01 R23, 01 R24, 03 R78, 03 R93, 01 R26, 04 R112, 07 R212, 03 R83, 03 R94,
03 R100, 03 Table 03-12.) -/
def Obligations.HostRequestsHere : Prop :=
  (∀ (s : State) (h : HeadNo) (hpa : BitVec 64) (tag : BitVec 16) (ideOk : Bool) (dpa : Nat),
    s.chip.takesNow h ideOk → (s.chip.head h).decode hpa.toNat = some dpa → s.chip.serves h (dpa / 64) →
    match s.chip.held (dpa / 64) with
    | some (_, v) =>
      Completes (.hostRead h hpa tag ideOk .ok) s fun c =>
        Output.readDone h tag (if v.poison then 0 else v.data) v.poison (s.chip.devLoad h) ∈ s.chip.sent c ∧ c.cache.lines = s.chip.cache.lines ∧
          (v.poison = true → c.poisonAt (dpa / 64) ≠ none ∨ c.integ.overflow = true) ∧ (v.poison = false → c.integ = s.chip.integ) ∧
          s.chip.keepsBut [.heads, .cache, .integ, .ring, .ledger, .outs] c
    | none =>
      s.chip.poisonAt (dpa / 64) = none → s.chip.lineWritten (dpa / 64) = false →
        Completes (.hostRead h hpa tag ideOk .ok) s fun c =>
          c.outs = s.chip.outs ++ [.readDone h tag 0 false (s.chip.devLoad h)] ∧ c.cache.lines = s.chip.cache.lines ∧ c.cache.frames = s.chip.cache.frames ∧
            s.chip.keepsBut [.cache, .ring, .outs] c) ∧
  (∀ (s : State) (h : HeadNo) (hpa : BitVec 64) (tag : BitVec 16) (data : Line) (mask : Mask) (poison ideOk : Bool) (dpa f g : Nat) (fr : Frame),
    let line := dpa / 64
    let seg := lineSeg line
    let n := lineSector line
    s.chip.takesNow h ideOk → s.chip.storesWf → (s.chip.head h).decode hpa.toNat = some dpa → s.chip.serves h line → s.chip.mirrorsLine line = false →
    s.chip.lookup seg = some f → (s.chip.frame f).kind = .dirty → (s.chip.frame f).dirty.getLsbD n = true → (s.chip.frame f).peer = some g →
    g ≠ f → s.chip.cache.frames.find g = some fr → fr.seg = seg → fr.kind = .outside → (∀ p ∈ s.chip.dolly.pins, p.seg ≠ seg) →
    let old := s.chip.sector f n
    let new : Stored := { data := if mask = fullMask then data else mergeLine (if old.poison then 0 else old.data) data mask, poison := poison }
    Completes (.hostWrite h hpa tag data mask poison ideOk .ok) s fun c =>
      (∃ l, Output.writeDone h tag l ∈ s.chip.sent c) ∧ c.held line = some (f, new) ∧ c.sector g n = new ∧
      ((∀ p ∈ s.chip.cache.frames, p.2.unbuilt = false) → ∀ l, l ≠ line → (c.held l).map Prod.snd = (s.chip.held l).map Prod.snd) ∧ c.obj.table = s.chip.obj.table) ∧
  (∀ (s : State) (h : HeadNo) (hpa : BitVec 64) (tag : BitVec 16) (ideOk : Bool) (ev : HbmEvent) (data : Line) (mask : Mask) (poison : Bool),
    (s.chip.takes h ideOk → s.chip.staysOutside h →
      let r : Req := { src := .head h, arrival := s.chip.pairHead h, line := hpa.toNat / 64, tag := tag }
      (Completes (.hostRead h hpa tag ideOk ev) s fun c => c.cache = { s.chip.cache with outside := s.chip.cache.outside ++ [r] } ∧ s.chip.keepsBut [.cache] c) ∧
      (Completes (.hostWrite h hpa tag data mask poison ideOk ev) s fun c =>
        c.cache = { s.chip.cache with outside := s.chip.cache.outside ++ [{ r with write := true, data := data, mask := mask, poison := poison }] } ∧
          s.chip.keepsBut [.cache] c)) ∧
    (s.chip.takesNow h ideOk → (s.chip.head h).decode hpa.toNat = none →
      (Completes (.hostRead h hpa tag ideOk ev) s fun c =>
        (∃ l, Output.readDone h tag 0 true l ∈ s.chip.sent c) ∧ (c.head h).evt = (s.chip.head h).evt ||| 0b101000 ∧
        (∀ k, k ≠ h → c.head k = s.chip.head k) ∧ s.chip.keepsBut [.heads, .ledger, .ring, .outs] c) ∧
      (Completes (.hostWrite h hpa tag data mask poison ideOk ev) s fun c =>
        (∃ l, Output.writeDone h tag l ∈ s.chip.sent c) ∧ (c.head h).evt = (s.chip.head h).evt ||| 0b001000 ∧
        (∀ k, k ≠ h → c.head k = s.chip.head k) ∧ s.chip.keepsBut [.heads, .ledger, .ring, .outs] c)) ∧
    ∀ i : Instr, i = .hostRead h hpa tag ideOk ev ∨ i = .hostWrite h hpa tag data mask poison ideOk ev →
      (¬ ((s.chip.head h).link = .up ∧ (s.chip.head h).memActive = true) → Completes i s s.chip.untouched) ∧
      ((s.chip.head h).link = .up ∧ (s.chip.head h).memActive = true ∧ (s.chip.head h).ideOn = true ∧ ideOk = false →
        Completes i s fun c =>
          (c.head h).link = .training ∧ (c.head h).ideOn = false ∧ (c.head h).evt = (s.chip.head h).evt ||| 0b000101 ∧
          (∀ k, k ≠ h → c.head k = s.chip.head k) ∧ c.cache.lines = s.chip.cache.lines ∧
          s.chip.keepsBut [.heads, .cache, .hbm, .dolly, .twin, .wit, .ring, .sec, .deferred, .outs] c))

/-- A head loses its link, is reset and trains. At a head whose link is up, a link loss, 2 ms in Recovery and 1.9
ms without stable L0 take the link down: decoders, IDE stream, interrupt policy, sessions and held low halves
return to reset, LINK_DOWN_SEEN is set, training starts again, requests it holds go on with their results
discarded, and every other head is as before. At a head whose link is not up they change nothing. An asserted
PERST_N sets PERST_SEEN and takes a present head to Detect, out of any state but Disabled; its logs, extents
and cue ring stay; at an absent head it has no effect. When PERST_N deasserts, a present head in Detect that
may train starts training. Training of a present head that completes within HEAD_MAX_RATE, in 256B flit mode
at 64 GT/s, brings the link up at its rate and width. (03 R81, 03 R101, 03 Table 03-12, 03 R80, 00 R3.) -/
def Obligations.HeadLinks : Prop :=
  (∀ (s : State) (h : HeadNo) (i : Instr), i = .headLinkDown h ∨ i = .recoveryTimeout h ∨ i = .l0StabilityTimeout h →
    CompletesIf i s ((s.chip.head h).link = .up) fun c =>
      c.head h = { s.chip.head h with link := .training, hdm := Vector.replicate 4 {}, ideOn := false, ideSkid := false, ideRx := {}, ideTx := {},
                                      irqPolicy := 0, respLimit := 0, sessions := [], spdm := .none, heldLow := [], bars := Vector.replicate 3 0, poisonAt := (0, 0, 0),
                                      evt := (s.chip.head h).evt ||| 1 } ∧
      (∀ k, k ≠ h → c.head k = s.chip.head k) ∧
      c.twin.holdQ = s.chip.twin.holdQ.map (fun r => if r.src = .head h then { r with src := .lost h } else r) ∧
      c.outs = s.chip.outs ++ [.headLink h false] ∧
      s.chip.keepsBut [.heads, .cache, .hbm, .dolly, .twin, .wit, .ring, .sec, .deferred, .outs] c) ∧
  (∀ (s : State) (h : HeadNo),
    (CompletesIf (.perstAssert h) s (h.val < s.chip.id.part.heads) fun c =>
      (c.head h).perst = true ∧ (c.head h).link = (if (s.chip.head h).link = .disabled then .disabled else .detect) ∧
      (c.head h).evt = (s.chip.head h).evt ||| (if (s.chip.head h).link = .up then 3 else 2) ∧ (c.head h).logs = (s.chip.head h).logs ∧
      (c.head h).accepted = (s.chip.head h).accepted ∧ (c.head h).cue = (s.chip.head h).cue ∧ (∀ k, k ≠ h → c.head k = s.chip.head k) ∧
      s.chip.keepsBut [.heads, .cache, .hbm, .dolly, .twin, .wit, .ring, .sec, .deferred, .outs] c) ∧
    (CompletesIf (.perstDeassert h) s (h.val < s.chip.id.part.heads) fun c =>
      c.head h = { s.chip.head h with perst := false, link := (c.head h).link } ∧
      (c.head h).link = (if s.chip.mayTrain h = true ∧ (s.chip.head h).link = .detect then .training else (s.chip.head h).link) ∧
      (∀ k, k ≠ h → c.head k = s.chip.head k) ∧ s.chip.keepsBut [.heads] c) ∧
    ∀ (rate width : Fin 4) (flit256 : Bool),
      CompletesIf (.headLinkUp h rate width flit256) s
        (h.val < s.chip.id.part.heads ∧ (s.chip.head h).link = .training ∧ rate.val ≤ s.chip.par 0x1404 1 3 ∧ (rate = 3 → flit256 = true)) fun c =>
          (c.head h).link = .up ∧ (c.head h).rate = rate ∧ (c.head h).width = width ∧ (c.head h).flit256 = flit256 ∧ (c.head h).trained = true ∧
          (c.head h).accepted = (s.chip.head h).accepted ∧ s.chip.keepsBut [.heads, .ledger, .ring, .outs] c)

/-- HDM commit, CDAT and Global Persistent Flush. A commit on an up link of a decoder not locked by an earlier
commit writes the decoder, which is committed exactly when its interleave ways are 1 and its DPA range lies in
what the head holds, and shows Error Not Committed otherwise; nothing else changes. On an up link a DOE
request answers the CDAT, or the protocol at a Discovery index, with MSI-X vector 3, and both GPF phases
complete with no other action, at every head whose link is up (that a phase reaches all of them is the model's
choice, log entry 108). (03 R77, 03 R83, 03 R87, 03 R96, 03 R97.) -/
def Obligations.DecodersCdatFlush : Prop :=
  ∀ (s : State) (h : HeadNo),
    (∀ (i : Fin 4) (base size dpa : BitVec 64) (ways gran : BitVec 4) (lock : Bool),
      CompletesIf (.hdmCommit h i base size dpa ways gran lock) s
        ((s.chip.head h).link = .up ∧ ¬ (((s.chip.head h).hdm.get i).committed = true ∧ ((s.chip.head h).hdm.get i).lockOnCommit = true)) fun c =>
          ((c.head h).hdm.get i).committed = (decide (ways = 0) && s.chip.dpaOk h dpa.toNat size.toNat) ∧
          ((c.head h).hdm.get i).errNotCommitted = !((c.head h).hdm.get i).committed ∧
          (((c.head h).hdm.get i).base = base ∧ ((c.head h).hdm.get i).size = size ∧ ((c.head h).hdm.get i).dpa = dpa ∧
            ((c.head h).hdm.get i).lockOnCommit = lock) ∧
          (∀ j, j ≠ i → (c.head h).hdm.get j = (s.chip.head h).hdm.get j) ∧ (∀ k, k ≠ h → c.head k = s.chip.head k) ∧
          c.head h = { s.chip.head h with hdm := (c.head h).hdm } ∧ s.chip.keepsBut [.heads] c) ∧
    (∀ i : BitVec 8, CompletesIf (.cdatRead { head := h, query := .discovery i }) s ((s.chip.head h).link = .up) fun c =>
      c.outs = s.chip.outs ++ [.doeProtocol h (match i.toNat with | 0 => some .discovery | 1 => some .cmaSpdm | 2 => some .securedCmaSpdm | 3 => some .tableAccess | _ => none)
        (if i.toNat < 3 then i.toNat + 1 else 0), .msix h 3] ∧ s.chip.keepsBut [.outs] c) ∧
    (CompletesIf (.cdatRead { head := h, query := .table }) s ((s.chip.head h).link = .up) fun c =>
      c.outs = s.chip.outs ++ [.cdat h s.chip.boot.cdatSeq s.chip.cdatEntries, .msix h 3] ∧ s.chip.keepsBut [.outs] c) ∧
    let linked := (List.finRange 6).filter (fun k => decide ((s.chip.head k).link = .up))
    (Completes .gpfPhase1 s fun c => c.outs = s.chip.outs ++ linked.map (fun k => .gpfDone k 1) ∧ s.chip.keepsBut [.outs] c) ∧
    Completes .gpfPhase2 s fun c => c.outs = s.chip.outs ++ linked.map (fun k => .gpfDone k 2) ∧ s.chip.keepsBut [.outs] c

/-- Training, retirement and upkeep of the HBM. The first HBM_TRAIN_DONE of a start keeps the margins and what the
compare blocks counted, settles every refresh and empties every frame. With every in-service pseudo-channel
passing the stage completes; with one failing and a good spare the spare takes its index and the failed one is
retired; with more failing, or one and no good spare, the start stops with cause 4 and they show
FAILED_TRAINING; a failing spare is marked. Later ones change nothing. Once a retirement has settled, the
index of the failed pseudo-channel is bound to the spare, which is in service, and no request and no mirror
write is held for the fence any more; when its rebuild is done the pseudo-channel is retired, the progress
reads 100, no frame waits for a rebuild and no line that HBM held has changed. A spare that fails its test is
marked and is no spare any more; one that passes stays. Without a retirement or a spare these have no effect.
A due refresh is owed while host reads of its bank wait, never more than 8, and is issued otherwise; a channel
in self-refresh ignores it. A stack temperature above the tier's threshold raises the tier at once; the tier
falls below a threshold only at the second reading in a row at least 2 degrees below it. In service, with
nothing waiting, a scrub read without error only passes the scheduler; a parity error that its retry clears, a
parity error in a tag, a corrected burst and an uncorrectable burst are counted; a lane that cannot be
repaired retires its pseudo-channel; the clean sector of an uncorrectable burst loses VALID, and a lost frame
state word takes VALID from DIRTY. (05 R147, 05 R148, 05 R155, 05 R150, 05 R152, 05 R154, 05 R144, 05 R145, 05
R156, 07 R204, 07 R208, 07 R213.) -/
def Obligations.HbmChannels : Prop :=
  (∀ (s : State) (failed : Vector (Fin 9) 16) (margins : Vector Nat 16) (runs : List PatRun),
    let bad := (List.finRange 16).filter (fun p => decide (s.chip.hbm.pcs.get p = .inService) && decide (failed.get p ≠ 0))
    CompletesIf (.hbmTrainDone failed { margins := margins, runs := runs }) s (s.chip.boot.hbmDone = false) fun c =>
      c.hbm.margins = margins ∧ (∀ p, (∀ r ∈ runs, r.pc ≠ p) → c.hbm.compare.get p = {}) ∧
      (∀ r before after, runs = before ++ r :: after → (∀ x ∈ after, x.pc ≠ r.pc) → c.hbm.compare.get r.pc = patCheck r) ∧
      c.hbm.owed = [] ∧ c.cache.frames = [] ∧ c.cache.lines = [] ∧ (bad = [] → c.boot.hbmDone = true) ∧
      (∀ q, s.chip.sparePc = some q → failed.get q ≠ 0 → c.hbm.pcs.get q = .spareFailed) ∧
      (∀ p q, bad = [p] → s.chip.sparePc = some q → failed.get q = 0 →
        c.hbm.pcs.get p = .retired ∧ c.hbm.pcs.get q = .inService ∧ c.hbm.index.get q = s.chip.hbm.index.get p ∧ c.boot.hbmDone = true) ∧
      (2 ≤ bad.length ∨ (bad.length = 1 ∧ ∀ q, s.chip.sparePc = some q → failed.get q ≠ 0) →
        c.boot.stage = 15 ∧ c.boot.stopCause = 4 ∧ ∀ p ∈ bad, c.hbm.pcs.get p = .failedTraining) ∧
      s.chip.keepsBut [.heads, .cache, .hbm, .ledger, .ring, .boot, .outs] c) ∧
  (∀ (s : State) (p : PcNo),
    (match s.chip.hbm.retire, s.chip.sparePc with
      | some r, some q => r.pc = p.val →
          CompletesIf .retireSettled s (r.settled = false) fun c =>
            c.hbm.pcs.get q = .inService ∧ c.hbm.index.get q = s.chip.hbm.index.get p ∧
            (∃ n t, c.hbm.retire = some { r with settled := true, total := t, order := 1, poisoned := n } ∧ r.poisoned ≤ n) ∧
            c.hbm.heldForFence = [] ∧ c.hbm.heldMirror = [] ∧ s.chip.keepsBut [.heads, .obj, .cache, .hbm, .med, .integ, .dolly, .twin, .ledger, .ring, .boot, .outs] c
      | _, _ => Completes .retireSettled s s.chip.untouched) ∧
    (match s.chip.hbm.retire with
      | some r => r.pc = p.val → s.chip.storesWf →
          CompletesIf .retireRebuildDone s (r.settled = true) fun c =>
            c.hbm.retire = none ∧ c.hbm.pcs.get p = .retired ∧ c.vol 0x3813 2 = 100 ∧ (∀ x ∈ c.cache.frames, x.2.unbuilt = false) ∧
            (∀ k v, s.chip.cache.lines.find k = some v → c.cache.lines.find k = some v) ∧ s.chip.keepsBut [.heads, .cache, .hbm, .ledger, .ring, .outs] c
      | none => Completes .retireRebuildDone s s.chip.untouched) ∧
    match s.chip.sparePc with
      | some q =>
          (Completes (.spareTest true) s fun c => c.cache = { s.chip.cache with sched := c.cache.sched } ∧ s.chip.keepsBut [.cache] c) ∧
          (Completes (.spareTest false) s fun c =>
            c.hbm.pcs.get q = .spareFailed ∧ (∀ k, k ≠ q → c.hbm.pcs.get k = s.chip.hbm.pcs.get k) ∧ c.hbm = { s.chip.hbm with pcs := c.hbm.pcs } ∧
            c.cache = { s.chip.cache with sched := c.cache.sched } ∧ s.chip.keepsBut [.heads, .cache, .hbm, .ledger, .ring, .outs] c)
      | none => ∀ pass : Bool, Completes (.spareTest pass) s s.chip.untouched) ∧
  (∀ (s : State),
    (∀ (pc : PcNo) (stack : Fin 2) (n : Fin 16), CompletesIf (.refreshDue pc stack n) s (s.chip.resting pc = false) fun c =>
      let bank := 16 * stack.val + n.val
      (s.chip.hostReadFor pc.val bank = true → c.owedBy pc.val bank = min 8 (s.chip.owedBy pc.val bank + 1)) ∧
      (s.chip.hostReadFor pc.val bank = false → SMap.sorted s.chip.hbm.owed = true → c.owedBy pc.val bank = s.chip.owedBy pc.val bank) ∧
      (∀ k, k ≠ 32 * pc.val + bank → c.hbm.owed.getD k 0 = s.chip.hbm.owed.getD k 0) ∧
      c.hbm = { s.chip.hbm with owed := c.hbm.owed } ∧ s.chip.keepsBut [.hbm, .ring] c) ∧
    (∀ temp : Int, Completes (.stackTempRead temp) s fun c =>
      let h := s.chip.hbm
      c.hbm.tempC = temp ∧ c.hbm.below = (if temp + 2 ≤ 95 then min 2 (h.below + 1) else 0) ∧
      c.hbm.below85 = (if temp + 2 ≤ 85 then min 2 (h.below85 + 1) else 0) ∧
      (h.tier < tempTier temp → c.hbm.tier = tempTier temp) ∧
      (tempTier temp ≤ h.tier → tempTier temp ≤ c.hbm.tier ∧ c.hbm.tier ≤ h.tier) ∧
      (tempTier temp ≤ h.tier → h.tier ≤ 2 → h.below = 0 → h.below85 = 0 → c.hbm.tier = h.tier) ∧
      (tempTier temp ≤ h.tier → h.tier = 1 → h.below85 = 0 → c.hbm.tier = 1) ∧
      (temp + 2 ≤ 85 → h.below85 ≠ 0 → c.hbm.tier = 0) ∧
      (85 < temp + 2 → temp + 2 ≤ 95 → h.below ≠ 0 → h.tier = 2 → c.hbm.tier = 1) ∧
      c.hbm = { h with tempC := c.hbm.tempC, tier := c.hbm.tier, below := c.hbm.below, below85 := c.hbm.below85 } ∧ s.chip.keepsBut [.hbm] c) ∧
    (∀ place n ev, s.chip.inService = false → Completes (.hbmScrub place n ev) s s.chip.untouched) ∧
    (s.chip.calm →
      (∀ place n, Completes (.hbmScrub place n .ok) s fun c => c.cache = { s.chip.cache with sched := c.cache.sched } ∧ s.chip.keepsBut [.cache] c) ∧
      (∀ place n, Completes (.hbmScrub place n .parityRetry) s fun c => c.vol 0x3850 1 = s.chip.vol 0x3850 1 + 1 ∧ s.chip.keepsBut [.cache, .ring] c) ∧
      ∀ (frame : Nat) (n : Fin 64), let p := s.chip.pcOf (frameIndex frame)
        (∀ ev, ev = .tagParity ∨ (∃ w, ev = .tagBothParity w) → Completes (.hbmScrub (.lines frame) n ev) s fun c =>
          c.vol 0x3050 1 = s.chip.vol 0x3050 1 + 1 ∧ c.cache.lines = s.chip.cache.lines ∧ s.chip.keepsBut [.cache, .ring] c) ∧
        (s.chip.hbm.pcs.get p = .inService → s.chip.hbm.retire = none → s.chip.sparePc ≠ none → Completes (.hbmScrub (.lines frame) n .laneFail) s fun c =>
          c.hbm.pcs.get p = .retiring ∧ (∃ r, c.hbm.retire = some r ∧ r.pc = p.val ∧ r.trigger = 4) ∧ s.chip.keepsBut [.cache, .hbm, .ring] c) ∧
        (∀ old, old = s.chip.hbm.ceTimes.countP (fun x => decide (s.chip.now < x.2 + 3600000000000) && decide (x.1 = p.val)) →
          old < s.chip.ceRate → Completes (.hbmScrub (.lines frame) n .corrected) s fun c =>
          c.vol 0x3810 (p.val + 1) = s.chip.vol 0x3810 (p.val + 1) + 1 ∧ c.hbm.ceHour.get p = old + 1 ∧
          c.hbm.pcs = s.chip.hbm.pcs ∧ s.chip.keepsBut [.heads, .cache, .hbm, .integ, .ledger, .ring, .outs] c) ∧
        (s.chip.hbm.retire = none → s.chip.sparePc ≠ none →
          ((s.chip.frame frame).kind = .clean → (s.chip.frame frame).dirty = 0 → Completes (.hbmScrub (.lines frame) n .uncorrectable) s fun c =>
            (c.frame frame).valid = clearBit (s.chip.frame frame).valid n ∧ c.vol 0x3811 (p.val + 1) = s.chip.vol 0x3811 (p.val + 1) + 1 ∧
            s.chip.keepsBut [.cache, .hbm, .ring] c) ∧
          ((s.chip.frame frame).kind = .clean ∨ (s.chip.frame frame).kind = .dirty → Completes (.hbmScrub (.stateWord frame) n .uncorrectable) s fun c =>
            (c.frame frame).valid = (s.chip.frame frame).dirty ∧ c.vol 0x3811 (p.val + 1) = s.chip.vol 0x3811 (p.val + 1) + 1 ∧
            s.chip.keepsBut [.cache, .hbm, .ring] c))))

/-- A fill answers the reads that wait for it. When the data of a medium read has come back and no partial write
waits to be merged with it, every head read that waits for the line receives it, as 64 B of zeros with poison
where the line is poisoned. (01 R24, 04 R112, 07 R212, 03 R93.) -/
def Obligations.FillAnswersReaders : Prop :=
  ∀ (s : State) (line : Nat) (m : Miss) (v : Stored),
    s.chip.missOf line = some m → m.stage = .returned → m.got = some v → m.drop = false → s.chip.merging line = false →
    Completes (.fillComplete line) s fun c =>
      (∀ r ∈ m.readers, ∀ h, r.src = .head h → (s.chip.head h).link = .up →
        (∃ l, Output.readDone h r.tag (if v.poison then 0 else v.data) v.poison l ∈ s.chip.sent c)) ∧
      s.chip.keepsBut [.heads, .obj, .cache, .hbm, .med, .integ, .dolly, .twin, .ledger, .ring, .boot, .outs] c

/-- Descriptor misses, background eviction and the change of the locked ways. The first descriptor miss
outstanding ends: the descriptor goes to the front of the descriptor store, which holds at most 48, and shows
whether the object is being moved; a CLEAN frame that no reel holds starts eviction while its index has fewer
than 8,192 FREE frames, and an EVICTING frame to which no fill refers becomes FREE with its lines gone. While
no frame still has to be rebuilt, nothing else of the cache changes. A started change of the scratch and pin
ways takes effect once the window in use fits the new capacity and no request refers to a CLEAN frame of a
newly locked way: the ways read as set and no change runs any more, and a change of the scratch ways rebuilds
the CDAT under a new sequence number. Before that, and with no change started, nothing happens. (04 R114, 04
R133, 04 Table 04-2, 04 R129, 04 R130, 03 R86, 03 R87.) -/
def Obligations.CacheUpkeep : Prop :=
  (∀ (s : State),
    (∀ obj : Nat, match s.chip.obj.table.find obj with
      | some o =>
          CompletesIf (.descriptorMissDone obj) s (s.chip.cache.descMiss.head? = some obj) fun c =>
            (∃ d rest, c.cache.descs = d :: rest ∧ d.obj = obj ∧ d.desc = o ∧ d.moving = s.chip.isMoving obj o) ∧ c.cache.descs.length ≤ 48 ∧
            c.cache = { s.chip.cache with descMiss := s.chip.cache.descMiss.drop 1, descs := c.cache.descs } ∧ s.chip.keepsBut [.cache] c
      | none =>
          CompletesIf (.descriptorMissDone obj) s (s.chip.cache.descMiss.head? = some obj) fun c =>
            c.cache = { s.chip.cache with descMiss := s.chip.cache.descMiss.drop 1 } ∧ s.chip.keepsBut [.cache] c) ∧
    ∀ frame : Nat,
      (CompletesIf (.backgroundEvict frame) s
        ((s.chip.frame frame).kind = .clean ∧ (s.chip.frame frame).holds = 0 ∧ s.chip.freeAt (frameIndex frame) < 8192) fun c =>
          c.frame frame = { s.chip.frame frame with kind := .evicting } ∧ (∀ f, f ≠ frame → c.frame f = s.chip.frame f) ∧
          c.cache = { s.chip.cache with frames := c.cache.frames } ∧ s.chip.keepsBut [.cache] c) ∧
      CompletesIf (.evictCommit frame) s
        ((s.chip.frame frame).kind = .evicting ∧ (s.chip.frame frame).pending = 0 ∧ ∀ m ∈ s.chip.cache.misses, m.frame ≠ some frame) fun c =>
          (s.chip.storesWf → c.cache.frames.find frame = none) ∧ (∀ p ∈ c.cache.lines, p.1 / 64 ≠ frame) ∧
          ((∀ p ∈ s.chip.cache.frames, p.2.unbuilt = false) →
            ∀ f, f ≠ frame → c.frame f = s.chip.frame f ∧ ∀ n, n < 64 → c.sector f n = s.chip.sector f n) ∧
          c.cache = { s.chip.cache with frames := c.cache.frames, lines := c.cache.lines } ∧ s.chip.keepsBut [.cache] c) ∧
  (∀ (s : State), match s.chip.cache.wayChange with
    | some w =>
        CompletesIf .wayChangeDone s
          (s.chip.windowUse ≤ (16 - w.scratch - w.pin) * 196608 - s.chip.reelLimit ∧
            ∀ x ∈ newlyLocked (s.chip.cache.waysScratch, s.chip.cache.waysPin) (w.scratch, w.pin), ∀ f ∈ s.chip.framesOfWay x,
              ¬ (((s.chip.frame f).kind = .clean ∨ (s.chip.frame f).kind = .evicting) ∧ s.chip.frameInUse f = true)) fun c =>
          c.cache.waysScratch = w.scratch ∧ c.cache.waysPin = w.pin ∧ c.cache.wayChange = none ∧
          (w.scratch ≠ s.chip.cache.waysScratch → c.boot.cdatSeq = s.chip.boot.cdatSeq + 1 ∧ c.boot.cdatScratch = w.scratch) ∧
          (w.scratch = s.chip.cache.waysScratch → c.boot.cdatSeq = s.chip.boot.cdatSeq) ∧
          s.chip.keepsBut [.heads, .obj, .cache, .hbm, .med, .integ, .dolly, .twin, .ledger, .ring, .boot, .outs] c
    | none => Completes .wayChangeDone s s.chip.untouched)

/-- Write-back of a stripe. WRITE_BACK_START of the first stripe in the order, in a group that permits the
program, snapshots its dirty lines: each line is marked WB in every frame that holds it and the stripe's
operation enters the assembly area with them to release; the medium does not change yet. WRITE_BACK_RELEASE of
a finished operation whose lines' bits stand in the medium copy of the written map removes it; a line whose WB
bit is still set in a frame is dirty there no more. (04 R126, 04 R127, 04 R128, 04 R115, 06 R197.) -/
def Obligations.WriteBack : Prop :=
  ∀ (s : State),
    (∀ (group : GroupNo) (stripe : Nat) (fill : Bool),
      CompletesIf (.writeBackStart group stripe fill) s
        (s.chip.wbFirst group.val stripe = true ∧ ((s.chip.group group.val).state).permits .partialStripe = true) fun c =>
          (∃ o ∈ c.cache.wb, o.id = s.chip.cache.nextOp ∧ o.group = group.val ∧ o.stripe = stripe ∧
            o.release = (s.chip.stripeDirty group.val stripe).map Prod.fst ∧ o.finished = false ∧ o.reserved = false) ∧
          (∀ p ∈ s.chip.stripeDirty group.val stripe, ∀ f ∈ s.chip.copies p.1, (c.frame f).wb.getLsbD (lineSector p.1) = true) ∧
          c.cache.lines = s.chip.cache.lines ∧ s.chip.keepsBut [.cache, .ring] c) ∧
    ∀ op : Nat, match s.chip.op op with
      | some o =>
          CompletesIf (.writeBackRelease op) s (o.finished = true ∧ s.chip.bitsOnMedium o = true) fun c =>
            (op < s.chip.cache.nextOp → c.op op = none) ∧
            (s.chip.storesWf → s.chip.cache.creditQ = [] → s.chip.cache.mergeQ = [] → s.chip.dolly.opened = [] → s.chip.twin.hand = .idle →
              ∀ l ∈ o.release, (∀ x ∈ s.chip.cache.wb, x.id ≠ op → l ∉ x.release) →
                ∀ f ∈ s.chip.copies l, (s.chip.frame f).wb.getLsbD (lineSector l) = true → (c.frame f).dirty.getLsbD (lineSector l) = false) ∧
            s.chip.keepsBut [.heads, .obj, .cache, .hbm, .med, .integ, .dolly, .twin, .ledger, .ring, .boot, .outs] c
      | none => Completes (.writeBackRelease op) s s.chip.untouched

/-- A module is seated, powered, unseated and removed. Seating lowers PRSNT_N of a present channel; after 100 ms
of stable presence an ABSENT channel enters POWERING with PWREN high; with PWRGD stable it enters TRAINING
with its reset released, and is sent the five training patterns; without PWRGD in time it is FAILED. Unseating
raises PRSNT_N and takes a SAFE, MISSING, FAILED, POWERING, TRAINING or READY channel to ABSENT with its
outputs low. No other channel and no group changes. A held ATTN_N of a present channel requests removal:
accepted, the channel enters REMOVING and MED_REMOVE_STATE reads 1, and a member of a HEALTHY group leaves it
DEGRADED under a new epoch; refused, MED_REMOVE_STATE reads 3, the LED blinks and the channel keeps its state
until the blink ends. With every token arrived a REMOVING channel is SAFE, its power off, and MED_REMOVE_STATE
reads 2. (06 R187, 06 Table 06-13, 06 R436, 00 R3, 06 R190, 16 R404.) -/
def Obligations.Modules : Prop :=
  (∀ (s : State) (ch : ChanNo),
    let n := ch.val
    let others (c : Chip) : Prop := (∀ k : ChanNo, k ≠ ch → c.chan k.val = s.chip.chan k.val) ∧ c.med = { s.chip.med with ch := c.med.ch } ∧
      s.chip.keepsBut [.med, .ring, .outs] c
    (CompletesIf (.moduleSeated ch) s (s.chip.chanPresent ch = true) fun c =>
      c.chan n = { s.chip.chan n with prsntN := false } ∧ others c) ∧
    (CompletesIf (.presenceStable ch) s (s.chip.chanPresent ch = true ∧ (s.chip.chan n).prsntN = false ∧ (s.chip.chan n).state = .absent) fun c =>
      c.chan n = { s.chip.chan n with state := .powering, pwren := true, rstN := false, led := 2, refuseBlink := false } ∧ others c) ∧
    (CompletesIf (.pwrgdStable ch) s ((s.chip.chan n).state = .powering) fun c =>
      c.chan n = { s.chip.chan n with pwrgd := true, state := .training, pwren := true, rstN := true, led := 2, refuseBlink := false, tag := (c.chan n).tag } ∧
      (∀ k ∈ [1, 2, 3, 4, 5], s.chip.framed c n (.train k)) ∧ others c) ∧
    (CompletesIf (.pwrgdTimeout ch) s ((s.chip.chan n).state = .powering ∧ (s.chip.chan n).pwrgd = false) fun c =>
      c.chan n = { s.chip.chan n with state := .failed, pwren := false, rstN := false, led := 1, refuseBlink := false } ∧ others c) ∧
    Completes (.moduleUnseated ch) s fun c =>
      (s.chip.chanPresent ch = true → (c.chan n).prsntN = true ∧ (c.chan n).pwrgd = false) ∧
      (if (s.chip.chan n).state ∈ [ChState.safe, .missing, .failed, .powering, .training, .ready]
        then (c.chan n).state = .absent ∧ (c.chan n).pwren = false ∧ (c.chan n).rstN = false
        else (c.chan n).state = (s.chip.chan n).state) ∧ others c) ∧
  (∀ (s : State) (ch : ChanNo),
    let x := s.chip.chan ch.val
    let g := s.chip.group (ch.val / 9)
    (CompletesIf (.attnHold ch) s (s.chip.chanPresent ch = true) fun c =>
      (s.chip.removable ch.val = true → (c.chan ch.val).state = .removing ∧ c.med.removeState = 1 ∧
        (x.state = .member → g.state = .healthy → (c.group (ch.val / 9)).state = .degraded ∧ (c.group (ch.val / 9)).missing = some (ch.val % 9) ∧
          (c.group (ch.val / 9)).epoch = g.epoch + 1)) ∧
      (s.chip.removable ch.val = false → c.chan ch.val = { x with refuseBlink := true, led := 2, attnN := false } ∧ c.med.removeState = 3 ∧ c.med.sg = s.chip.med.sg ∧
        c.cache = s.chip.cache) ∧
      (c.chan ch.val).attnN = false ∧ s.chip.keepsBut [.heads, .cache, .med, .integ, .ledger, .ring, .outs] c) ∧
    (CompletesIf (.removalSafe ch) s (x.state = .removing ∧ x.tokensDue = 0) fun c =>
      (c.chan ch.val).state = .safe ∧ (c.chan ch.val).pwren = false ∧ (c.chan ch.val).led = 1 ∧ c.med.removeState = 2 ∧
      c.med.sg = s.chip.med.sg ∧ s.chip.keepsBut [.med, .ring, .outs] c) ∧
    CompletesIf (.removeRefusedBlinkEnd ch) s (x.refuseBlink = true) fun c =>
      (c.chan ch.val).refuseBlink = false ∧ (c.chan ch.val).state = x.state ∧ (x.state = .member ∨ x.state = .absent → (c.chan ch.val).led = 0) ∧
      c.med = { s.chip.med with ch := c.med.ch } ∧ s.chip.keepsBut [.med] c)

/-- A member is lost, and its rebuild or the initialisation ends. A member becomes MISSING when no token comes,
when its PROGRAM fails the second time, at its sixteenth CA parity error, at its fourth read without a header,
when its retrain does not pass, when PWRGD falls and when its presence is lost (which leaves the channel
ABSENT). Its busy partitions end; a HEALTHY group becomes DEGRADED without it, a DEGRADED or REBUILDING one
FAILED, whether or not the group shows RETRAINING; the group epoch rises; no other channel changes its state
and no other group changes. A rebuild whose rows have all reached their last unit writes the member's stamp,
makes the channel a MEMBER and its group HEALTHY with no member missing. An initialisation whose last slot is
done makes its group HEALTHY on nine members; on eight, or fewer (the model's choice, log entry 108), it is
DEGRADED or FAILED. Sanitize ends with the last initialising group, and the partner that waits for it hears of
it. In other states they have no effect. (06 R182, 06 R185, 06 R187, 06 R188, 06 R189, 06 Table 06-6, 06 Table
06-13, 06 R178, 06 R180, 16 R405, 12 R328, 12 R329.) -/
def Obligations.Members : Prop :=
  (∀ (s : State) (ch : ChanNo) (part line : Nat) (st : StatusIn) (cmd : GmiOp) (i : Instr),
    let x := s.chip.chan ch.val
    let g := s.chip.group (ch.val / 9)
    (i = .tokenMissing ch part ∧ (s.chip.busyAt ch.val part).isSome = true) ∨
    (i = .programFailed ch part ∧ ∃ b, s.chip.busyAt ch.val part = some b ∧ b.retried = true ∧ b.cause ≠ .relocation) ∨
    (i = .moduleAlert ch st cmd ∧ s.chip.gmiUp ch = true ∧ st.err.getLsbD 0 = true ∧ 15 ≤ (s.chip.recentParErrs ch.val).length) ∨
    (i = .readHeaderMissing ch line ∧ 3 ≤ x.noHeader ∧ ∃ q ∈ x.reads, q.line = line ∧ q.issued = true) ∨
    (i = .retrainTimeout ch ∧ x.retraining = true) ∨ i = .pwrgdFall ch ∨ (i = .presenceLostTimeout ch ∧ x.prsntN = true) →
    x.state = .member →
    Completes i s fun c =>
      (c.chan ch.val).state = (if i = .presenceLostTimeout ch then .absent else .missing) ∧ (c.chan ch.val).busy = [] ∧ (c.chan ch.val).pwren = false ∧
      (g.base = .healthy → (c.group (ch.val / 9)).base = .degraded ∧ (c.group (ch.val / 9)).missing = some (ch.val % 9) ∧
        (c.group (ch.val / 9)).epoch = g.epoch + 1) ∧
      (g.base = .degraded ∨ g.base = .rebuilding → (c.group (ch.val / 9)).state = .failed ∧ (c.group (ch.val / 9)).epoch = g.epoch + 1) ∧
      (∀ k : ChanNo, k ≠ ch → (c.chan k.val).state = (s.chip.chan k.val).state) ∧
      (∀ g : GroupNo, g.val ≠ ch.val / 9 → c.med.sg.get g = s.chip.med.sg.get g) ∧
      s.chip.keepsBut [.heads, .cache, .med, .integ, .ledger, .ring, .outs] c) ∧
  (∀ (s : State) (group : GroupNo),
    let g := s.chip.group group.val
    let away := (List.range 9).filter (fun m => decide ((s.chip.chan (memberChan group.val m)).state ≠ .member))
    (∀ m, m < 9 → g.missing = some m →
      CompletesIf (.rebuildDone group) s (g.state = .rebuilding ∧ (s.chip.chan (memberChan group.val m)).state = .rebuilding ∧ g.rebuilt = true) fun c =>
        (c.group group.val).state = .healthy ∧ (c.group group.val).missing = none ∧
        (c.chan (memberChan group.val m)).state = .member ∧
        (c.chan (memberChan group.val m)).module.stamp = s.chip.stampFor group.val m ∧
        (∀ k : GroupNo, k ≠ group → c.med.sg.get k = s.chip.med.sg.get k) ∧
        (∀ o ∈ c.cache.wb, o.group = group.val → o.cause ≠ .rebuild) ∧ s.chip.keepsBut [.cache, .med, .ring, .outs] c) ∧
    CompletesIf (.groupInitDone group) s (g.state = .initialising ∧ g.cursor = 2 ^ 25) fun c =>
      (away = [] → (c.group group.val).state = .healthy) ∧
      (∀ m, away = [m] → (c.group group.val).state = .degraded ∧ (c.group group.val).missing = some m) ∧
      (2 ≤ away.length → (c.group group.val).state = .failed) ∧ (∀ k : GroupNo, k ≠ group → c.med.sg.get k = s.chip.med.sg.get k) ∧
      ((∀ k : GroupNo, k ≠ group → (s.chip.med.sg.get k).state ≠ .initialising) → c.sec.sanitizing = false ∧
        (s.chip.sec.sanitizing = true → s.chip.paired = true → s.chip.linkReady = true → s.chip.told c (.tableUpdate .erased))) ∧
      ((∃ k : GroupNo, k ≠ group ∧ (s.chip.med.sg.get k).state = .initialising) → c.sec.sanitizing = s.chip.sec.sanitizing) ∧
      c.sec = { s.chip.sec with sanitizing := c.sec.sanitizing } ∧ s.chip.keepsBut [.heads, .cache, .med, .sec, .ledger, .ring, .outs] c)

/-- Errors of a member that it survives. Without the condition that loses the member these rows count: the first
failure of a PROGRAM reissues it and sets ERR_STATUS; an ALERT or a token alert has the device read the
module's STATUS, whose ERR_STATUS it keeps and clears at the module, and a CA parity error is counted and its
command reissued; a read without a header is reissued. A missing token of no busy partition, a retrain timeout
with no retrain, an alert of a channel in reset and a header of no issued read change nothing. No group
changes. (06 R182, 06 R184, 06 R185, 06 R186, 06 R187, 06 R189, 06 R192.) -/
def Obligations.MemberErrorsSurvived : Prop :=
  ∀ (s : State) (ch : ChanNo) (part line : Nat) (st : StatusIn) (cmd : GmiOp),
    let x := s.chip.chan ch.val
    let statusRead (c : Chip) : Prop :=
      (c.chan ch.val).module = { x.module with temp := st.temp, maxWear := st.wear, spares := st.spares, errStatus := 0 } ∧
      (c.chan ch.val).errRead = st.err ∧ (c.chan ch.val).alertN = true ∧ s.chip.framed c ch.val .status ∧
      (st.err ≠ 0 → s.chip.framed c ch.val (.regWrite 0x30 (st.err.setWidth 32))) ∧
      (∀ k : ChanNo, k ≠ ch → c.chan k.val = s.chip.chan k.val) ∧ c.med.sg = s.chip.med.sg ∧ s.chip.keepsBut [.heads, .med, .integ, .ledger, .ring, .outs] c
    (s.chip.busyAt ch.val part = none → Completes (.tokenMissing ch part) s s.chip.untouched ∧ Completes (.programFailed ch part) s s.chip.untouched) ∧
    (∀ b, s.chip.busyAt ch.val part = some b → b.cause = .relocation → Completes (.programFailed ch part) s s.chip.untouched) ∧
    (∀ b, s.chip.busyAt ch.val part = some b → b.retried = false → b.cause ≠ .relocation → Completes (.programFailed ch part) s fun c =>
      (∃ d, c.busyAt ch.val part = some d ∧ d = { b with retried := true }) ∧ (c.chan ch.val).module.errStatus = x.module.errStatus ||| 4 ∧
      s.chip.framed c ch.val (.program part b.unit (match s.chip.op b.op with | some o => s.chip.programMask o (ch.val % 9) | none => 0xFFFF)) ∧
      c.med.sg = s.chip.med.sg ∧ s.chip.keepsBut [.med, .outs] c) ∧
    (CompletesIf (.tokenAlert ch st) s (s.chip.gmiUp ch = true) fun c => statusRead c ∧ (c.chan ch.val).caParErrs = x.caParErrs) ∧
    (s.chip.gmiUp ch = false → Completes (.moduleAlert ch st cmd) s s.chip.untouched) ∧
    (s.chip.gmiUp ch = true → st.err.getLsbD 0 = false ∨ (s.chip.recentParErrs ch.val).length < 15 → Completes (.moduleAlert ch st cmd) s fun c =>
      statusRead c ∧ (c.chan ch.val).caParErrs = (if st.err.getLsbD 0 then s.chip.recentParErrs ch.val ++ [s.chip.now] else x.caParErrs) ∧
      (st.err.getLsbD 0 = true → ∃ t, c.outs.getLast? = some (.gmi ch t cmd))) ∧
    ((∀ q ∈ x.reads, q.line = line → q.issued = false) → Completes (.readHeaderMissing ch line) s s.chip.untouched) ∧
    (∀ q, x.reads.find? (fun q => decide (q.line = line) && q.issued) = some q → x.noHeader < 3 → Completes (.readHeaderMissing ch line) s fun c =>
      (c.chan ch.val).noHeader = x.noHeader + 1 ∧ s.chip.framed c ch.val (.readLine q.part q.unit q.index q.arg) ∧
      c.med.sg = s.chip.med.sg ∧ s.chip.keepsBut [.med, .outs] c) ∧
    (x.retraining = false → Completes (.retrainTimeout ch) s s.chip.untouched)

/-- Training of a channel. Training that passes keeps what the module reports; a module with the stamp of its
place is a MEMBER, any other READY; one whose group is DEGRADED without exactly that member starts its rebuild
at unit 0 of every row under a new group epoch; the ninth READY module with a blank or foreign stamp starts
the initialisation of its EMPTY group in service. A GEOMETRY or UNITS other than the fixed ones, or a step
that fails, makes the channel FAILED with the step recorded. A retrain of a member makes its group RETRAINING,
its queued reads leave the channel, and the group returns to its state with the last retrain that passes. In
other states these have no effect. (06 R178, 06 R180, 06 R186, 06 R187, 06 R188, 06 R189, 06 R193, 16 R405.) -/
def Obligations.ChannelTraining : Prop :=
  ∀ (s : State) (ch : ChanNo),
    let x := s.chip.chan ch.val
    let n := ch.val / 9
    let g := s.chip.group n
    let foreign (t : Stamp) (m : Nat) : Prop := ¬ (t.chip = s.chip.id.serial ∧ t.group = n ∧ t.member = m ∧ t ≠ {})
    (∀ (vendor geometry units : BitVec 32) (serial : BitVec 64) (rev : BitVec 32) (st : StatusIn) (stamp : StampIn) (margin : BitVec 56),
      let fits := geometry = 0x10041001 ∧ units = 9175040
      let read : Stamp := match stamp with | .blank => {} | .stamp a b d e k => { chip := a, group := b, member := d, epoch := e, check := k }
      let mine := stamp ≠ .blank ∧ read = s.chip.stampFor n (ch.val % 9)
      let wanted := g.base = .degraded ∧ g.missing = some (ch.val % 9) ∧ s.chip.groupsFound = true
      CompletesIf (.gmiTrainDone ch vendor geometry units serial rev st stamp margin) s (x.state = .training) fun c =>
        (¬ fits → (c.chan ch.val).state = .failed ∧ (c.chan ch.val).margin = margin.toNat + 6 * 2 ^ 56 ∧ c.med.sg = s.chip.med.sg ∧
          s.chip.keepsBut [.med, .ring, .outs] c) ∧
        (fits →
          ((c.chan ch.val).module.vendor = vendor ∧ (c.chan ch.val).module.serial = serial ∧ (c.chan ch.val).module.rev = rev ∧
            (c.chan ch.val).module.maxWear = st.wear ∧ (c.chan ch.val).module.temp = st.temp ∧ (c.chan ch.val).module.spares = st.spares ∧
            (c.chan ch.val).noHeader = 0 ∧ (c.chan ch.val).caParErrs = [] ∧ (c.chan ch.val).margin = margin.toNat) ∧
          (wanted → (c.chan ch.val).state = .rebuilding ∧ (c.chan ch.val).module.stamp = read ∧ (c.group n).base = .rebuilding ∧ (c.group n).rows = [] ∧
            (c.group n).epoch = g.epoch + 1 ∧
            ∀ r, r < 1024 → ∃ o ∈ c.cache.wb, o.cause = .rebuild ∧ o.group = n ∧ o.stripe = r ∧ o.todo = [ch.val % 9]) ∧
          (¬ wanted → mine → (c.chan ch.val).state = .member ∧ (c.chan ch.val).module.stamp = read ∧ c.cache = s.chip.cache ∧ c.group n = g) ∧
          (¬ wanted → ¬ mine → g.state ≠ .empty ∨ s.chip.inService = false →
            (c.chan ch.val).state = .ready ∧ (c.chan ch.val).module.stamp = read ∧ c.cache = s.chip.cache ∧ c.group n = g) ∧
          (¬ mine → g.state = .empty → s.chip.inService = true → foreign read (ch.val % 9) →
            (∀ m, m < 9 → m ≠ ch.val % 9 → (s.chip.chan (memberChan n m)).state = .ready ∧ foreign (s.chip.chan (memberChan n m)).module.stamp m) →
            (c.chan ch.val).state = .member ∧ (c.group n).state = .initialising ∧ (c.group n).cursor = 0 ∧ (c.group n).epoch = g.epoch + 1) ∧
          s.chip.keepsBut [.heads, .cache, .med, .integ, .ledger, .ring, .outs] c)) ∧
    (∀ step : Nat, CompletesIf (.gmiTrainFailed ch step) s (x.state = .training) fun c =>
      (c.chan ch.val).state = .failed ∧ (c.chan ch.val).margin / 2 ^ 56 = step % 256 ∧ c.med.sg = s.chip.med.sg ∧
      s.chip.keepsBut [.med, .ring, .outs] c) ∧
    (x.state = .member ∨ x.state = .rebuilding → CompletesIf (.retrainStart ch) s (x.retraining = false) fun c =>
      (c.chan ch.val).retrains = x.retrains + 1 ∧ (c.chan ch.val).retraining = true ∧ (c.chan ch.val).reads = [] ∧
      (g.state ≠ .failed → (c.group n).state = .retraining ∧ (c.group n).base = g.base) ∧ (g.state = .failed → c.group n = g) ∧
      s.chip.keepsBut [.cache, .med, .ring, .outs] c) ∧
    (x.state = .ready → Completes (.retrainStart ch) s fun c =>
      (c.chan ch.val).retrains = x.retrains + 1 ∧ (c.chan ch.val).state = .ready ∧ c.med.sg = s.chip.med.sg ∧ s.chip.keepsBut [.med, .outs] c) ∧
    (x.state ≠ .member → x.state ≠ .rebuilding → x.state ≠ .ready → Completes (.retrainStart ch) s s.chip.untouched) ∧
    CompletesIf (.retrainDone ch) s (x.retraining = true) fun c =>
      c.chan ch.val = { x with retraining := false } ∧
      (c.group n).state = (if g.state = .retraining ∧ ∀ m : Fin 9, m.val ≠ ch.val % 9 → (s.chip.chan (memberChan n m.val)).retraining = false then g.before else g.state) ∧
      s.chip.keepsBut [.med, .ring, .outs] c

/-- A program on the medium, from its reservation to its token. An operation that may reserve its row holds it
with what it programs, and reads the old units it needs; its next program starts only while no partition of
the row is busy, the group permits the cause, the channel has room and the reads before it and the recoveries
it waits for are over, and the partition is busy from then on with the command sent; a program that would
break the one-busy rule is refused and counted, and the row check flag is set; a token frees the partition,
stamps the unit and moves the rebuild cursor of its row past it. (06 R165, 06 R166, 06 R168, 06 R178, 06 R184,
06 R191, 07 R211, 14 Table 14-3.) -/
def Obligations.ProgramRun : Prop :=
  ∀ (s : State),
    (∀ (op : Nat) (o : WbOp), s.chip.op op = some o →
      (∀ found, CompletesIf (.stripeUpdateStart { op := op, found := found }) s (o.finished = false ∧ s.chip.mayReserve o = true) fun c =>
        let p := if o.mat then s.chip.matSnapshot o else s.chip.payload o
        let todo := s.chip.opMembers p
        let q := { p with reserved := true, since := s.chip.now, todo := todo }
        (todo = [] → c.op op = some { q with finished := true, reserved := false }) ∧
        (todo ≠ [] → (∃ w, c.op op = some { q with waits := w } ∧ (found = [] → w = p.waits)) ∧
          ∀ m ∈ s.chip.oldUnits q, s.chip.framed c (memberChan o.group m) (.readUnit (stripeRow o.stripe) (stripeUnit o.stripe) 0)) ∧
        c.med.sg = s.chip.med.sg ∧ s.chip.keepsBut [.heads, .cache, .med, .integ, .ledger, .ring, .outs] c) ∧
      ∀ m rest, o.todo = m :: rest → o.group < 4 → m < 9 →
        let row := stripeRow o.stripe
        let n := memberChan o.group m
        (o.reserved = false → Completes (.programStart op) s s.chip.untouched) ∧
        (o.reserved = true → s.chip.rowBusy o.group row = false → ((s.chip.group o.group).state).permits o.cause = true → s.chip.causeRuns o.cause = true →
          s.chip.programRoom n row = true → s.chip.waitsOver o = true → s.chip.readsFirst o m = false → Completes (.programStart op) s fun c =>
            (c.chan n).busy = (s.chip.chan n).busy ++ [{ part := row, unit := stripeUnit o.stripe, cause := o.cause, op := op }] ∧
            s.chip.framed c n (if o.cause = .relocation then .relocate row (stripeUnit o.stripe) else .program row (stripeUnit o.stripe) (s.chip.programMask o m)) ∧
            (∀ k, k ≠ n → k < 36 → (c.chan k).busy = (s.chip.chan k).busy ∧ (c.chan k).state = (s.chip.chan k).state) ∧
            c.med.sg = s.chip.med.sg ∧ s.chip.keepsBut [.cache, .med, .outs] c) ∧
        ((∃ k b, k < 9 ∧ b ∈ (s.chip.chan (memberChan o.group k)).busy ∧ b.part = row ∧ b.op ≠ op) → o.reserved = true →
          Completes (.programStart op) s fun c =>
            c.vol 0x4020 2 = s.chip.vol 0x4020 2 + 1 ∧ c.boot.rowCheck = true ∧ s.chip.keepsBut [.ring, .boot] c)) ∧
    ∀ (ch : ChanNo) (part : Nat), match s.chip.busyAt ch.val part with
      | none => Completes (.relocateDone ch part) s s.chip.untouched ∧ ∀ wear, Completes (.programDone ch part wear) s s.chip.untouched
      | some b =>
          (CompletesIf (.relocateDone ch part) s (b.cause = .relocation) fun c =>
            c.busyAt ch.val part = none ∧ c.op b.op = none ∧ c.vol 0x4100 1 = s.chip.vol 0x4100 1 + 1 ∧ s.chip.keepsBut [.cache, .med, .ring] c) ∧
          ∀ wear, Completes (.programDone ch part wear) s fun c =>
            c.busyAt ch.val part = none ∧
            (c.med.units.getD (unitKey ch.val part b.unit) {}).count = (s.chip.med.units.getD (unitKey ch.val part b.unit) {}).count + 1 ∧
            (c.med.units.getD (unitKey ch.val part b.unit) {}).minute = (s.chip.chan ch.val).module.minute ∧
            (wear = true → (part, b.unit) ∈ (c.chan ch.val).wearDue) ∧
            (b.cause = .rebuild → (s.chip.group (ch.val / 9)).base = .rebuilding →
              (c.group (ch.val / 9)).rows.getD part 0 = b.unit + 1 ∧ (c.group (ch.val / 9)).base = .rebuilding) ∧
            (∀ k : ChanNo, k ≠ ch → c.chan k.val = s.chip.chan k.val) ∧ s.chip.keepsBut [.cache, .med, .integ, .outs] c

/-- At most one partition of a row is busy. In each partition row of a group at most one partition is busy at any
instant: where this holds, with every open operation on members below 9, it still holds after each command
that starts, ends or queues a program. (06 R165, 06 R168.) -/
def Obligations.OneBusyRule : Prop :=
  let rule (c : Chip) : Prop :=
    (∀ g : GroupNo, ∀ row, ((List.range 9).filter (fun m => ((c.chan (memberChan g.val m)).busy.any fun b => decide (b.part = row)))).length ≤ 1) ∧
      ∀ o ∈ c.cache.wb, ∀ m ∈ o.todo, m < 9
  ∀ (s : State) (i : Instr) (op part unit : Nat) (ch : ChanNo) (wear : Bool) (found : List (Fin 9 × Fin 16 × Decode)), rule s.chip →
    i ∈ [Instr.stripeUpdateStart { op := op, found := found }, .programStart op, .programDone ch part wear, .programFailed ch part, .relocateDone ch part,
         .tokenMissing ch part, .wearRelocation ch part unit, .driftRefresh ch part unit, .scrubRewrite ch part unit] →
    Completes i s rule

/-- Rewrites, repairs, materialisation, the minute tick and the poison list. A unit due for relocation, for a
drift refresh or for a scrub rewrite, and the stripe of a line due for repair, becomes one operation of the
write scheduler with its cause; a unit is due no more then, and a stripe has one repair at a time; a drift
refresh is counted. The mixed slot unchanged longest is materialised while more than 90 % of the mixed blocks
are in use: its state is 0b11 and its 256 stripes are queued, with no written bit changed yet. Otherwise
nothing changes. MINUTE_TICK raises the minute count and sends TIMEBEAT to every module out of reset, whose
minute register follows. Every leak lowers each corrected-error bucket by one, not below 0, and nothing else.
A changed poison list is written to the ledger and is then the durable one. (06 R191, 06 R195, 06 R199, 07
R205, 07 R211, 06 R193, 07 R206, 07 R217, 11 R304, 11 R306.) -/
def Obligations.MediumUpkeep : Prop :=
  (∀ (s : State) (ch : ChanNo) (part unit : Nat),
    let queued (c : Chip) (cause : ProgCause) : Prop :=
      c.cache.wb = s.chip.cache.wb ++ [{ id := s.chip.cache.nextOp, group := ch.val / 9, stripe := unit * 1024 + part, cause := cause, todo := [ch.val % 9] }] ∧
      c.cache = { s.chip.cache with wb := c.cache.wb, nextOp := s.chip.cache.nextOp + 1 }
    let due := s.chip.rewriteAllowed (ch.val / 9) = true ∧ (ch.val, part * 2 ^ 24 + unit) ∈ s.chip.integ.rewrites
    (CompletesIf (.wearRelocation ch part unit) s ((part, unit) ∈ (s.chip.chan ch.val).wearDue) fun c =>
      queued c .relocation ∧ (c.chan ch.val).wearDue = (s.chip.chan ch.val).wearDue.erase (part, unit) ∧ s.chip.keepsBut [.cache, .med] c) ∧
    (CompletesIf (.driftRefresh ch part unit) s due fun c =>
      queued c .driftRefresh ∧ c.integ = { s.chip.integ with rewrites := s.chip.integ.rewrites.erase (ch.val, part * 2 ^ 24 + unit) } ∧
      c.vol 0x4122 3 = s.chip.vol 0x4122 3 + 1 ∧ s.chip.keepsBut [.cache, .integ, .ring] c) ∧
    (CompletesIf (.scrubRewrite ch part unit) s due fun c =>
      queued c .scrubRewrite ∧ c.integ = { s.chip.integ with rewrites := s.chip.integ.rewrites.erase (ch.val, part * 2 ^ 24 + unit) } ∧
      s.chip.keepsBut [.cache, .integ] c) ∧
    (∀ line,
      (line ∉ s.chip.integ.repairs → Completes (.stripeRepair line) s s.chip.untouched) ∧
      (line ∈ s.chip.integ.repairs → match s.chip.linePlace line with
        | none => Completes (.stripeRepair line) s fun c =>
            c.integ = { s.chip.integ with repairs := s.chip.integ.repairs.erase line } ∧ s.chip.keepsBut [.integ] c
        | some p =>
            CompletesIf (.stripeRepair line) s
              (∀ o ∈ s.chip.cache.wb, ¬ (o.cause = .repair ∧ o.group = p.group ∧ o.stripe = p.unit * 1024 + p.row ∧ o.finished = false)) fun c =>
                c.cache = { s.chip.cache with nextOp := s.chip.cache.nextOp + 1, wb := s.chip.cache.wb ++
                  [{ id := s.chip.cache.nextOp, group := p.group, stripe := p.unit * 1024 + p.row, cause := .repair }] } ∧ s.chip.keepsBut [.cache] c)) ∧
    ∀ (group : GroupNo) (slot : Nat),
      let k := slotKey { group := group.val, slot := slot }
      CompletesIf (.materialise group slot) s (122368 * 9 < 10 * s.chip.mixedSlots ∧ s.chip.matNext k = true) fun c =>
        c.slotState k = 3 ∧ c.med = { s.chip.med with mixed := c.med.mixed } ∧ (∀ q, q ≠ k → c.med.mixed.find q = s.chip.med.mixed.find q) ∧
        (∀ i, i < 256 → ∃ o ∈ c.cache.wb, o.group = group.val ∧ o.stripe = 256 * slot + i ∧ o.mat = true ∧ o.finished = false) ∧
        s.chip.keepsBut [.cache, .med] c) ∧
  (∀ (s : State),
    (Completes .minuteTick s fun c =>
      c.med.minute = s.chip.med.minute + 1 ∧
      (∀ n : ChanNo, (s.chip.chan n.val).rstN = true → (c.chan n.val).module.minute = (s.chip.med.minute + 1) % 2 ^ 24 ∧
        s.chip.framed c n.val (.timebeat ((s.chip.med.minute + 1) % 2 ^ 24))) ∧
      (∀ n : ChanNo, (s.chip.chan n.val).rstN = false → c.chan n.val = s.chip.chan n.val) ∧
      c.med = { s.chip.med with minute := c.med.minute, ch := c.med.ch } ∧ s.chip.keepsBut [.med, .ledger, .outs] c) ∧
    (Completes .bucketLeak s fun c =>
      (∀ i, i < 36 → c.vol 0x4211 (i + 1) = s.chip.vol 0x4211 (i + 1) - 1) ∧ (∀ i, i < 16 → c.vol 0x4212 (i + 1) = s.chip.vol 0x4212 (i + 1) - 1) ∧
      c.ring = { s.chip.ring with vals := c.ring.vals } ∧ s.chip.keepsBut [.ring] c) ∧
    CompletesIf .poisonListPersist s (s.chip.integ.durable ≠ s.chip.integ.poison) fun c =>
      c.integ = { s.chip.integ with durable := s.chip.integ.poison } ∧ c.ledger.cells = s.chip.ledger.cells ∧
      (s.chip.ledger.failed = false → c.ledger.current ≠ none) ∧ s.chip.keepsBut [.integ, .ledger] c)

/-- Medium reads, the recovery ladder and the patrol scrub. A waiting read whose member serves reads and is not
busy, with room, is queued on its channel, goes out as READ_LINE once no other read of the die is before it,
and is counted; a line of a missing member of a FAILED group returns as poison. A read that decodes returns
the line as the medium holds it; one that does not is counted and enters the recovery ladder. A waiting
recovery goes on while fewer than 256 are in progress. A read that is not in flight is not affected by a
return. While patrol runs in a group, the next unit that its member serves and whose partition is not busy is
read by READ_UNIT, the corrected and the uncorrectable lines of its channel are counted, a module whose STATUS
is read then shows what it returned, and the position advances by one unit; the pass ends with the last. A
unit whose partition is busy is passed over, to be visited again; a unit that no member serves is not read.
Without room nothing is read, nor in squall mode, during a wrap or in a group that takes no reads. (06 R170,
06 R172, 06 R179, 06 R183, 07 R209, 07 R210, 07 R205, 07 R213, 06 R194, 06 R195.) -/
def Obligations.MediumReads : Prop :=
  (∀ (s : State) (line : Nat) (outs : Vector LineOut 9),
    (s.chip.missOf line = none → Completes (.mediumReadDispatch line) s s.chip.untouched ∧ Completes (.recoveryEntryWait line) s s.chip.untouched ∧
      Completes (.mediumLineReturned line outs) s s.chip.untouched) ∧
    ∀ (m : Miss) (p : LinePlace), s.chip.missOf line = some m → s.chip.linePlace line = some p →
      let n := memberChan p.group p.member
      let inFlight := (m.stage = .queued ∨ m.stage = .standin) ∧ s.chip.readsIssued p.group line = true
      (m.stage ≠ .waiting → Completes (.mediumReadDispatch line) s s.chip.untouched) ∧
      (m.stage = .waiting → m.step = 1 → n < 36 → s.chip.memberReads p.group p.member p.row p.unit = true → s.chip.busyAt n p.row = none →
        s.chip.readRoom n p.row 1 = true → Completes (.mediumReadDispatch line) s fun c =>
          c.missOf line = some { m with stage := .queued } ∧
          (∃ q ∈ (c.chan n).reads, q.line = line ∧ q.part = p.row ∧ q.unit = p.unit ∧ q.index = p.line ∧ q.arg = 0) ∧
          ((∀ q ∈ (s.chip.chan n).reads, rowDie q.part ≠ rowDie p.row) → s.chip.framed c n (.readLine p.row p.unit p.line 0)) ∧
          c.vol 0x4030 2 = s.chip.vol 0x4030 2 + 1 ∧ s.chip.keepsBut [.cache, .med, .ring, .outs] c) ∧
      (m.stage = .waiting → m.step = 1 → m.drop = false → m.failed = [] → (s.chip.group p.group).state = .failed →
        s.chip.memberReads p.group p.member p.row p.unit = false → Completes (.mediumReadDispatch line) s fun c =>
          (∃ x, c.missOf line = some x ∧ x.stage = .returned ∧ x.got = some { data := 0, poison := true } ∧ x.readers = m.readers) ∧
          (line < memberBase → c.poisonAt line ≠ none ∨ c.integ.overflow = true) ∧
          c.med = s.chip.med ∧ s.chip.keepsBut [.heads, .cache, .integ, .ledger, .ring, .outs] c) ∧
      (¬ inFlight → Completes (.mediumLineReturned line outs) s s.chip.untouched) ∧
      (inFlight → (∀ k, (outs.get k).out = .ok) → m.stage = .standin ∨ (m.step = 1 ∧ line ∉ s.chip.integ.repairs) →
        Completes (.mediumLineReturned line outs) s fun c =>
          (∃ x, c.missOf line = some x ∧ x.stage = .returned ∧ x.got = some (s.chip.mediumLine line) ∧ x.readers = m.readers) ∧
          s.chip.keepsBut [.cache, .med, .integ, .ring, .outs] c) ∧
      (inFlight → m.stage = .queued → m.step = 1 → s.chip.readMembers p.group line = [p.member] →
        (∃ h : p.member < 9, (outs.get ⟨p.member, h⟩).out = .uncorrectable) → Completes (.mediumLineReturned line outs) s fun c =>
          c.vol 0x4202 (n + 1) = s.chip.vol 0x4202 (n + 1) + 1 ∧ (∃ x, c.missOf line = some x ∧ 2 ≤ x.step ∧ x.readers = m.readers) ∧
          s.chip.keepsBut [.heads, .cache, .med, .integ, .ledger, .ring, .outs] c) ∧
      (m.stage = .waiting → m.step = 2 → m.recovering = false → s.chip.recoveries < 256 → Completes (.recoveryEntryWait line) s fun c =>
        (∃ x, c.missOf line = some x ∧ x.readers = m.readers ∧ (x.recovering = true ∨ x.stage = .returned) ∧
          (s.chip.rowDegraded p.group p.row p.unit = true → 3 ≤ x.step)) ∧
        s.chip.keepsBut [.heads, .cache, .med, .integ, .ledger, .ring, .outs] c) ∧
      (m.stage ≠ .waiting ∨ m.step < 2 ∨ m.recovering = true ∨ 256 ≤ s.chip.recoveries → Completes (.recoveryEntryWait line) s s.chip.untouched)) ∧
  (∀ (s : State) (group : GroupNo) (outs : Vector Decode 16) (sample : Option Sample) (st : Option StatusIn),
    let g := s.chip.group group.val
    let pos := g.scrubNext
    let m := pos % 9
    let unit := pos / 9 % 9175040
    let row := pos / 9 / 9175040
    let n := memberChan group.val m
    let line (l : Nat) : Nat := (s.chip.unitLine group.val m row unit l).getD (memberLine n row unit l)
    let rest := g.skipped.filter (fun x => x != pos)
    (s.chip.scrubRuns group.val = false → Completes (.patrolScrub group outs sample st) s s.chip.untouched) ∧
    (s.chip.scrubRuns group.val = true →
      (s.chip.memberReads group.val m row unit = false → Completes (.patrolScrub group outs sample st) s fun c =>
        c.cache = s.chip.cache ∧ s.chip.keepsBut [.med, .ring] c) ∧
      (s.chip.memberReads group.val m row unit = true → (s.chip.busyAt n row).isSome = true → Completes (.patrolScrub group outs sample st) s fun c =>
        pos ∈ (c.group group.val).skipped ∧ (c.group group.val).scrubPos = (if g.scrubPos < scrubUnits then g.scrubPos + 1 else g.scrubPos) ∧
        s.chip.keepsBut [.med] c) ∧
      (s.chip.memberReads group.val m row unit = true → s.chip.busyAt n row = none →
        CompletesIf (.patrolScrub group outs sample st) s (s.chip.readRoom n row 3 = true) fun c =>
          s.chip.framed c n (.readUnit row unit 0) ∧
          (∀ x, st = some x → n < 36 → s.chip.framed c n .status ∧ (c.chan n).module.temp = x.temp ∧
            (c.chan n).module.maxWear = x.wear ∧ (c.chan n).module.spares = x.spares) ∧
          (g.scrubPos + 1 < scrubUnits → (c.group group.val).scrubPos = g.scrubPos + 1 ∧ (c.group group.val).skipped = rest) ∧
          (g.scrubPos + 1 = scrubUnits → rest = [] → (c.group group.val).scrubPos = 0 ∧ c.vol 0x4220 2 = s.chip.vol 0x4220 2 + 1) ∧
          c.vol 0x4201 (n + 1) = s.chip.vol 0x4201 (n + 1) + (List.finRange 16).countP (fun l => match outs.get l with | .corrected _ => true | _ => false) ∧
          ((∀ l, outs.get l = .uncorrectable → (s.chip.linePlace (line l.val)).map (fun p => memberChan p.group p.member) = some n) →
            c.vol 0x4202 (n + 1) = s.chip.vol 0x4202 (n + 1) + (List.finRange 16).countP (fun l => decide (outs.get l = .uncorrectable))) ∧
          s.chip.keepsBut [.heads, .cache, .med, .integ, .ledger, .ring, .outs] c)))

/-- The checks of an object command come before its effect. Every object command is taken into the list of
commands in flight. While the device is Locked it ends with ACCESS_DENIED; with a field that must be zero or
in range and is not, with INVALID_FIELD and the lowest such byte; from a head outside HEADS with
ACCESS_DENIED; on an object that is free or being destroyed, or of another USER_TAG under MATCH_TAG, with
NO_OBJECT; on one that is unavailable with UNAVAILABLE. A command so refused changes nothing else. (02 R57, 02
R63, 02 R66, 02 Table 02-5, 02 Table 02-8, 12 R345.) -/
def Obligations.CommandChecks : Prop :=
  ∀ (s : State) (path : CmdPath) (entry : CmdEntry) (op : Nat) (i : Instr),
    (i, op) ∈ [(Instr.create path entry, 0x01), (.destroy path entry, 0x02), (.setAttr path entry, 0x03), (.query path entry, 0x04),
      (.resize path entry, 0x05), (.move path entry, 0x10), (.pin path entry, 0x11), (.unpin path entry, 0x12), (.promote path entry, 0x13),
      (.evict path entry, 0x14), (.zero path entry, 0x15), (.reelOpen path entry, 0x20), (.reelJoin path entry, 0x21),
      (.reelAdvance path entry, 0x22), (.reelLeave path entry, 0x23)] →
    let e := asOp op entry
    let faults := lowest (zeroFaults e (viaCue path) ++ s.chip.fieldFaults e)
    let refusal (st detail : Nat) : Prop := Completes i s fun c =>
      c.answered s.chip.obj.nextCmd path e st detail ∧
      c.obj = { s.chip.obj with cmds := c.obj.cmds, nextCmd := s.chip.obj.nextCmd + 1 } ∧ s.chip.keepsBut [.obj] c
    s.chip.cmd s.chip.obj.nextCmd = none →
      (s.chip.sec.locked = true → refusal stDenied 0) ∧
      (∀ b, s.chip.sec.locked = false → faults = some b → refusal stField b) ∧
      (s.chip.sec.locked = false → faults = none → s.chip.cmdDenied path e = true → refusal stDenied 0) ∧
      (s.chip.admits path e → op ≠ 0x01 → op ≠ 0x04 →
        (s.chip.obj.table.find (objOf e) = none → refusal stNoObject 0) ∧
        ∀ o, s.chip.obj.table.find (objOf e) = some o →
          (o.state = .destroying → refusal stNoObject 0) ∧ (o.state = .unavailable → refusal stUnavailable 0) ∧
          (o.state = .active → bit (flagsOf e) 31 = true → o.userTag ≠ BitVec.ofNat 32 (fieldAt e 56 4) → refusal stNoObject 0))

/-- CREATE. A CREATE that this chip may run, of an object of its own half, ends with NOT_PAIRED if it asks for a
mirror outside PAIRED, with RETRY while a Sanitize or a Secure Erase runs, with OVERLAP where its range
overlaps or none is free, with NO_CAPACITY or NO_OBJECT_ID where those lack, and with RETRY where its key tag
is being erased. In position 1 of a pair it waits for the key of an EMPTY tag and asks for it. Otherwise the
object is ACTIVE under the identifier chosen (the lowest free one, log entry 104) with the attributes of the
entry, its tag is LOADED, no other object changes, and the result gives OK, the identifier and the base. (02
R48, 02 R50, 02 R52, 02 R59, 12 R325, 12 R337.) -/
def Obligations.CreateObject : Prop :=
  ∀ (s : State) (path : CmdPath) (entry : CmdEntry),
    let e := asOp 0x01 entry
    let id := s.chip.obj.nextCmd
    let half := boolNat (bit (objOf e) 20)
    let mirror := bit (flagsOf e) 0
    let n := fieldAt e 24 4
    let tag : Tag := BitVec.ofNat 8 (fieldAt e 28 1)
    let base := if bit (flagsOf e) 2 then s.chip.autoBase half n else some (fieldAt e 16 8 / 2 ^ 21)
    let ends (st : Nat) : Prop := Completes (.create path entry) s fun c => c.answered id path e st ∧ s.chip.keepsBut [.obj] c
    s.chip.admits path e → half = s.chip.pos → s.chip.pairWaits e = false →
      (mirror = true → s.chip.paired = false → ends stNotPaired) ∧
      ((mirror = true → s.chip.paired = true) →
        (s.chip.sec.sanitizing = true ∨ s.chip.sec.peerErasing = true → ends stRetry) ∧
        (s.chip.sec.sanitizing = false → s.chip.sec.peerErasing = false →
          (base = none → ends stOverlap) ∧
          ∀ b, base = some b →
            (s.chip.overlaps b n none = true → ends stOverlap) ∧
            (s.chip.overlaps b n none = false →
              (s.chip.capacity (fieldAt e 29 1) n mirror = false → ends stNoCapacity) ∧
              (s.chip.capacity (fieldAt e 29 1) n mirror = true →
                (s.chip.freeId half = none → ends stNoId) ∧
                ∀ i, s.chip.freeId half = some i →
                  (s.chip.tagState tag = .erasing → ends stRetry) ∧
                  (s.chip.tagState tag = .empty → s.chip.twin.state = .paired → s.chip.twin.position = true → Completes (.create path entry) s fun c =>
                    (∃ r, c.cmd id = some r ∧ r.entry = e ∧ r.waits = true ∧ r.result = none) ∧ s.chip.told c (.tableUpdate (.wantKey tag)) ∧
                    s.chip.keepsBut [.obj, .outs] c) ∧
                  (s.chip.keyAtHand tag → Completes (.create path entry) s fun c =>
                    c.obj.table.find i = some { base := b, granules := n, mirror := mirror, bypass := bit (flagsOf e) 1, keyTag := tag, sgroup := BitVec.ofNat 8 (fieldAt e 29 1), heads := BitVec.ofNat 12 (fieldAt e 30 2) &&& s.chip.headMask, userTag := BitVec.ofNat 32 (fieldAt e 32 4) } ∧
                    (∀ k, k ≠ i → c.obj.table.find k = s.chip.obj.table.find k) ∧ c.tagState tag = .loaded ∧
                    c.answered id path e stOk 0 [(16, 8, b * 2 ^ 21)] i ∧ s.chip.keepsBut [.obj, .cache, .med, .sec, .outs] c)))))

/-- DESTROY, ZERO and RESIZE. A DESTROY that runs makes its object DESTROYING and, with no write waiting inside
the chip, leaves no frame of it; the command goes on until the release. A ZERO whose granules this chip can
reach leaves, with no write waiting, no line of its range written or listed as poisoned and ends with OK; one
that needs the unreachable partner ends with RETRY. A RESIZE sets the granules and ends with OK; one past the
end of the half, a mirrored growth outside PAIRED, a growth that overlaps or finds no room changes nothing and
says so. (02 R56, 02 R60, 02 R61, 02 R74, 02 R435, 04 R132, 06 R198.) -/
def Obligations.ReleaseAndResize : Prop :=
  ∀ (s : State) (path : CmdPath) (entry : CmdEntry) (o : Obj),
    let id := s.chip.obj.nextCmd
    (let e := asOp 0x02 entry
     s.chip.runsOn path e o → Completes (.destroy path entry) s fun c =>
       c.obj.table.find (objOf e) = some { o with state := .destroying, scrub := bit (flagsOf e) 0 } ∧
       (∀ k, k ≠ objOf e → c.obj.table.find k = s.chip.obj.table.find k) ∧ c.working id path e (objFirst o) (objSegs o) ∧
       (∀ r ∈ c.obj.reels, r.obj ≠ objOf e) ∧
       (s.chip.storesWf → s.chip.nonePending →
         ∀ p ∈ c.cache.frames, p.2.kind = .free ∨ p.2.kind = .scratch ∨ p.2.seg < objFirst o ∨ objFirst o + objSegs o ≤ p.2.seg) ∧
       s.chip.keepsBut settleGrps c) ∧
    (let e := asOp 0x15 entry
     let first := (spanOf e o).1; let n := (spanOf e o).2
     let reached := s.chip.paired = true ∨ ∀ p ∈ s.chip.med.peerSlots, o.base ≤ p.1 → p.1 < o.base + o.granules → 512 * p.1 < first + n →
       first < 512 * p.1 + 512 → s.chip.med.slots.has p.1 = true
     s.chip.runsOn path e o →
       (¬ reached → Completes (.zero path entry) s fun c => c.answered id path e stRetry ∧ s.chip.keepsBut [.obj] c) ∧
       (reached → Completes (.zero path entry) s fun c =>
         c.answered id path e stOk ∧ c.obj.table = s.chip.obj.table ∧
         (s.chip.nonePending → ∀ l, first ≤ lineSeg l → lineSeg l < first + n → c.lineWritten l = false ∧ c.poisonAt l = none) ∧
         (s.chip.paired = true → s.chip.peerHas o = true → s.chip.told c (.tableUpdate (.zero first n o.keyTag (bit (flagsOf e) 0)))) ∧
         s.chip.keepsBut settleGrps c)) ∧
    (let e := asOp 0x05 entry
     let n := fieldAt e 24 4
     let same (st detail : Nat) (vals : List (Nat × Nat × Nat)) : Prop := Completes (.resize path entry) s fun c =>
       c.answered id path e st detail vals ∧ c.obj.table = s.chip.obj.table ∧ s.chip.keepsBut [.obj] c
     s.chip.runsOn path e o →
       ((o.base / halfGranules + 1) * halfGranules < o.base + n → same stField 24 []) ∧
       (o.base + n ≤ (o.base / halfGranules + 1) * halfGranules →
         (n = o.granules → same stOk 0 [(24, 4, n)]) ∧
         (n < o.granules → Completes (.resize path entry) s fun c =>
           c.obj.table.find (objOf e) = some { o with granules := n, scrub := bit (flagsOf e) 0 } ∧
           c.obj.tails = s.chip.obj.tails ++ [{ cmd := id, first := o.base + n, granules := o.granules - n }] ∧
           c.answered id path e stOk 0 [(24, 4, n)] ∧ s.chip.keepsBut settleGrps c) ∧
         (o.granules < n →
           (o.mirror = true → s.chip.paired = false → same stNotPaired 0 []) ∧
           ((o.mirror = true → s.chip.paired = true) →
             (s.chip.overlaps (o.base + o.granules) (n - o.granules) (some (objOf e)) = true → same stOverlap 0 []) ∧
             (s.chip.overlaps (o.base + o.granules) (n - o.granules) (some (objOf e)) = false →
               (s.chip.capacity o.sgroup.toNat (n - o.granules) o.mirror = false → same stNoCapacity 0 []) ∧
               (s.chip.capacity o.sgroup.toNat (n - o.granules) o.mirror = true → Completes (.resize path entry) s fun c =>
                 c.obj.table.find (objOf e) = some { o with granules := n } ∧ c.answered id path e stOk 0 [(24, 4, n)] ∧
                 s.chip.keepsBut [.obj, .cache, .med, .outs] c))))))

/-- QUERY and SET_ATTR. QUERY by identifier answers OK with the object's values, or NO_OBJECT, and changes nothing
but the list of commands. SET_ATTR sets BYPASS, the HEADS of present heads and USER_TAG as its flags select,
leaves every other attribute, and ends with OK. MIRROR to 0 joins them at once. MIRROR to 1 outside PAIRED
ends with NOT_PAIRED; in PAIRED with room at both chips the object is mirrored, the dolly takes its granules,
and the command goes on. A new KEY_TAG that is LOADED becomes the object's, the old one stays recorded, and
the dolly takes its granules too. (02 R53, 02 R55, 02 R58, 02 R76, 02 Table 02-7, 12 R325.) -/
def Obligations.QueryAndAttributes : Prop :=
  ∀ (s : State) (path : CmdPath) (entry : CmdEntry),
    let id := s.chip.obj.nextCmd
    (let e := asOp 0x04 entry
     s.chip.admits path e → bit (flagsOf e) 0 = false →
       (s.chip.obj.table.find (objOf e) = none → Completes (.query path entry) s fun c =>
         c.answered id path e stNoObject ∧ s.chip.keepsBut [.obj] c) ∧
       ∀ o, s.chip.obj.table.find (objOf e) = some o → (bit (flagsOf e) 31 = true → o.userTag = BitVec.ofNat 32 (fieldAt e 56 4)) →
         Completes (.query path entry) s fun c =>
           c.answered id path e stOk 0 (s.chip.queryValues (objOf e) o) ∧
           c.obj = { s.chip.obj with cmds := c.obj.cmds, nextCmd := id + 1 } ∧ s.chip.keepsBut [.obj] c) ∧
    ∀ o : Obj,
      let e := asOp 0x03 entry
      let fl := flagsOf e
      let tag : Tag := BitVec.ofNat 8 (fieldAt e 28 1)
      let newMirror := bit (fieldAt e 16 1) 0
      let now (x : Obj) : Obj :=
        { x with bypass := if bit fl 0 then bit (fieldAt e 16 1) 1 else o.bypass
                 heads := if bit fl 2 then BitVec.ofNat 12 (fieldAt e 30 2) &&& s.chip.headMask else o.heads
                 userTag := if bit fl 3 then BitVec.ofNat 32 (fieldAt e 32 4) else o.userTag }
      let becomes (c : Chip) (x : Obj) : Prop :=
        c.obj.table.find (objOf e) = some (now x) ∧ ∀ k, k ≠ objOf e → c.obj.table.find k = s.chip.obj.table.find k
      let queued (c : Chip) (kind : MoveKind) : Prop :=
        c.working id path e (objFirst o) (objSegs o) ∧ s.chip.keepsBut [.obj, .cache, .med, .dolly, .outs] c ∧
        c.dolly = { s.chip.dolly with queue := s.chip.dolly.queue ++ (s.chip.objGrans o).map fun g => { cmd := some id, obj := objOf e, gran := g, kind := kind, group := 0xFF } }
      s.chip.runsOn path e o →
        (bit fl 1 = false ∨ (tag = o.keyTag ∧ o.oldKeyTag = none) →
          (bit fl 4 = false → Completes (.setAttr path entry) s fun c =>
            becomes c o ∧ c.answered id path e stOk ∧ s.chip.keepsBut [.obj, .cache, .med, .outs] c) ∧
          (bit fl 4 = true → newMirror = false → o.mirror = true → Completes (.setAttr path entry) s fun c =>
            becomes c { o with mirror := false, mirrorBuild := false } ∧ c.answered id path e stOk ∧ s.chip.keepsBut [.obj, .cache, .med, .outs] c) ∧
          (bit fl 4 = true → newMirror = true → o.mirror = false →
            (s.chip.paired = false → Completes (.setAttr path entry) s fun c => c.answered id path e stNotPaired ∧ s.chip.keepsBut [.obj] c) ∧
            (s.chip.paired = true → o.granules ≤ (if o.sgroup = 0xFF then (s.chip.groupNos.map s.chip.peerFree).sum else s.chip.peerFree o.sgroup.toNat) →
              Completes (.setAttr path entry) s fun c => becomes c { o with mirror := true, mirrorBuild := true } ∧ queued c .mirrorBuild ∧
                ∀ g ∈ s.chip.objGrans o, g ∈ c.med.stale))) ∧
        (bit fl 1 = true → bit fl 4 = false → tag ≠ o.keyTag → s.chip.tagState tag = .loaded → Completes (.setAttr path entry) s fun c =>
          becomes c { o with keyTag := tag, oldKeyTag := some o.keyTag, olderTags := o.oldKeyTag.toList ++ o.olderTags } ∧ queued c .rekey)

/-- MOVE, PIN, UNPIN, PROMOTE and EVICT start their work. A command on a range that runs covers that range, MOVE
widened to whole granules, and its result comes later. MOVE to the other chip outside PAIRED ends with
NOT_PAIRED; else the dolly is given exactly the granules of the range that are not at the target. PIN gives
every segment of the range a frame of the pin ways or, where a set has none, ends with NO_PIN_SPACE with no
frame reserved. UNPIN hands each pinned frame of the range to the dolly. PROMOTE reaches the whole range at
once outside squall mode and a wrap, and otherwise waits. The start of EVICT changes nothing but the list of
commands. (02 R438, 04 R111, 04 R131, 04 R132, 08 R223, 08 R234, 08 R235.) -/
def Obligations.RangeCommandsStart : Prop :=
  ∀ (s : State) (path : CmdPath) (entry : CmdEntry) (o : Obj),
    let id := s.chip.obj.nextCmd
    (let e := asOp 0x10 entry
     let t := fieldAt e 32 1
     let away (g : Nat) : Prop := if t < 16 then s.chip.homeHere (512 * g) = false ∨ (s.chip.med.slots.find g).map (·.group) ≠ some t
       else s.chip.homeHere (512 * g) = true ∨ (t ≠ 0x1F ∧ (s.chip.med.peerSlots.find g).map (·.group) ≠ some (t - 16))
     s.chip.runsOn path e o →
       (16 ≤ t → s.chip.paired = false → Completes (.move path entry) s fun c =>
         c.answered id path e stNotPaired ∧ s.chip.keepsBut [.obj] c) ∧
       ((16 ≤ t → s.chip.paired = true) → Completes (.move path entry) s fun c =>
         c.working id path e (spanOf e o).1 (spanOf e o).2 ∧
         (∃ qs, c.dolly.queue = s.chip.dolly.queue ++ qs ∧ (∀ q ∈ qs, q.cmd = some id ∧ q.obj = objOf e ∧ q.group = t) ∧
           ∀ g, (∃ q ∈ qs, q.gran = g) ↔ ((spanOf e o).1 ≤ 512 * g ∧ 512 * g < (spanOf e o).1 + (spanOf e o).2 ∧ away g)) ∧
         c.dolly = { s.chip.dolly with queue := c.dolly.queue } ∧ s.chip.keepsBut [.obj, .dolly] c)) ∧
    (let e := asOp 0x11 entry
     let first := (spanOf e o).1; let n := (spanOf e o).2
     s.chip.runsOn path e o → match s.chip.reservePins id first n with
       | none => Completes (.pin path entry) s fun c => c.answered id path e stNoPin ∧ s.chip.keepsBut [.obj] c
       | some d => Completes (.pin path entry) s fun c =>
           c.working id path e first n ∧ c.dolly = d.dolly ∧ c.cache.frames = d.cache.frames ∧ c.cache.lines = s.chip.cache.lines ∧
           (∀ k, k < n → s.chip.pinned (first + k) = true ∨ ∃ p ∈ c.dolly.pins, p.seg = first + k ∧ p.into = true) ∧
           s.chip.keepsBut [.obj, .cache, .dolly, .outs] c) ∧
    (let e := asOp 0x12 entry
     s.chip.runsOn path e o → Completes (.unpin path entry) s fun c =>
       c.working id path e (spanOf e o).1 (spanOf e o).2 ∧ c.cache.frames = s.chip.cache.frames ∧
       (∀ p ∈ s.chip.cache.frames, p.2.kind = .pin → (spanOf e o).1 ≤ p.2.seg → p.2.seg < (spanOf e o).1 + (spanOf e o).2 →
         { cmd := id, seg := p.2.seg, frame := p.1, into := false } ∈ c.dolly.pins) ∧ s.chip.keepsBut [.obj, .cache, .dolly, .outs] c) ∧
    (let e := asOp 0x13 entry
     s.chip.runsOn path e o →
       (s.chip.dollyFree = true → Completes (.promote path entry) s fun c =>
         c.working id path e (spanOf e o).1 (spanOf e o).2 ∧ (∃ r, c.cmd id = some r ∧ r.next = r.count ∧ r.done ≤ r.next) ∧
         s.chip.keepsBut [.obj, .cache, .ring] c) ∧
       (s.chip.dollyFree = false → Completes (.promote path entry) s fun c =>
         c.working id path e (spanOf e o).1 (spanOf e o).2 ∧ s.chip.keepsBut [.obj] c)) ∧
    (let e := asOp 0x14 entry
     s.chip.runsOn path e o → Completes (.evict path entry) s fun c =>
       c.working id path e (spanOf e o).1 (spanOf e o).2 ∧ c.obj = { s.chip.obj with cmds := c.obj.cmds, nextCmd := id + 1 } ∧ s.chip.keepsBut [.obj] c)

/-- Reels and the cue ring. REEL_OPEN takes a free reel with reader 0 at position 0, or ends with INVALID_FIELD,
NO_REEL or REEL_LIMIT; REEL_JOIN adds a reader at the slowest cursor; REEL_ADVANCE moves one reader's cursor
forward only; REEL_LEAVE and a stalled reader's removal take the reader off, and the last one closes the reel;
a command that names no reel of its object ends with NO_REEL; a prefetched position is held once. Which free
identifier and reader number are taken is the model's choice (log entry 104). With the window of a head
reached, CUE_TAIL with the ring disabled or a reset busy only sets TAIL_ERR, and a reset makes RESET_BUSY read
1; once no command of the ring is in flight a busy reset leaves HEAD and TAIL 0 and EXP_PHASE 1. The end of
the coalescing delay signals vector 2 once. With an enabled ring whose HEAD equals TAIL the doorbell reads no
entry and raises no error. (02 R69, 02 R70, 02 R71, 02 R72, 02 R65, 02 R66, 02 R68, 02 Table 02-9, 03 R96, 03
R103.) -/
def Obligations.Rings : Prop :=
  (∀ (s : State) (path : CmdPath) (entry : CmdEntry) (o : Obj),
    let id := s.chip.obj.nextCmd
    (let e := asOp 0x20 entry
     let start := fieldAt e 16 8
     let stride := fieldAt e 32 2
     let count := if fieldAt e 24 8 = 0 then (objSegs o - 1 - start) / stride + 1 else fieldAt e 24 8
     let rid := lowestFree (s.chip.obj.reels.map (·.id)) 0 s.chip.obj.reels.length
     let ends (st detail : Nat) : Prop := Completes (.reelOpen path entry) s fun c => c.answered id path e st detail ∧ s.chip.keepsBut [.obj] c
     s.chip.runsOn path e o →
       (objSegs o ≤ start → ends stField 16) ∧
       (start < objSegs o → objSegs o ≤ start + (count - 1) * stride → ends stField 24) ∧
       (start < objSegs o → start + (count - 1) * stride < objSegs o →
         (256 ≤ rid → ends stNoReel 0) ∧
         (rid < 256 → s.chip.reelLimit < s.chip.reelFrames + fieldAt e 34 2 → ends stReelLimit 0) ∧
         (rid < 256 → s.chip.reelFrames + fieldAt e 34 2 ≤ s.chip.reelLimit → Completes (.reelOpen path entry) s fun c =>
           c.obj.reels = s.chip.obj.reels ++ [{ id := rid, obj := objOf e, start := start, count := count, stride := stride, window := fieldAt e 34 2, readers := [{ no := 0, cursor := 0 }] }] ∧
           c.answered id path e stOk 0 [(16, 2, rid), (18, 1, 0)] ∧ s.chip.keepsBut [.obj] c))) ∧
    (∀ op i, (op, i) ∈ [(0x21, Instr.reelJoin path entry), (0x22, .reelAdvance path entry), (0x23, .reelLeave path entry)] →
      let e := asOp op entry
      s.chip.runsOn path e o → (∀ r, s.chip.reel (fieldAt e 16 2) = some r → r.obj ≠ objOf e) →
        Completes i s fun c => c.answered id path e stNoReel ∧ s.chip.keepsBut [.obj] c) ∧
    (let e := asOp 0x21 entry
     ∀ r, s.chip.runsOn path e o → s.chip.reel (fieldAt e 16 2) = some r → r.obj = objOf e → lowestFree (r.readers.map (·.no)) 0 r.readers.length < 32 →
       let no := lowestFree (r.readers.map (·.no)) 0 r.readers.length
       Completes (.reelJoin path entry) s fun c =>
         (∃ q, c.reel r.id = some q ∧ q = { r with readers := r.readers ++ [{ no := no, cursor := r.minCursor }] }) ∧
         c.answered id path e stOk 0 [(18, 1, no), (24, 8, r.minCursor)] ∧ s.chip.keepsBut [.obj] c) ∧
    (let e := asOp 0x22 entry
     ∀ r x, s.chip.runsOn path e o → s.chip.reel (fieldAt e 16 2) = some r → r.obj = objOf e →
       r.readers.find? (fun y => decide (y.no = fieldAt e 18 1)) = some x →
         (fieldAt e 24 8 < x.cursor ∨ r.count ≤ fieldAt e 24 8 → Completes (.reelAdvance path entry) s fun c =>
           c.answered id path e stField 24 ∧ s.chip.keepsBut [.obj] c) ∧
         (x.cursor ≤ fieldAt e 24 8 → fieldAt e 24 8 < r.count → Completes (.reelAdvance path entry) s fun c =>
           (∃ q, c.reel r.id = some q ∧ q.readers = r.readers.map (fun y => if y.no = x.no then { y with cursor := fieldAt e 24 8 } else y) ∧
             c.answered id path e stOk 0 [(32, 8, q.minCursor)]) ∧ s.chip.keepsBut [.obj, .cache, .outs] c)) ∧
    (let e := asOp 0x23 entry
     ∀ r, s.chip.runsOn path e o → s.chip.reel (fieldAt e 16 2) = some r → r.obj = objOf e → (∃ x ∈ r.readers, x.no = fieldAt e 18 1) →
       Completes (.reelLeave path entry) s fun c => c.answered id path e stOk ∧
         (∀ q, c.reel r.id = some q → ∀ x ∈ q.readers, x.no ≠ fieldAt e 18 1) ∧
         ((∀ x ∈ r.readers, x.no = fieldAt e 18 1) → c.reel r.id = none) ∧ s.chip.keepsBut [.obj, .cache, .outs] c) ∧
    (∀ reel reader, Completes (.reelStallTimeout reel reader) s fun c =>
      (∀ q, c.reel reel = some q → ∀ x ∈ q.readers, x.no ≠ reader) ∧ c.obj = { s.chip.obj with reels := c.obj.reels } ∧
      s.chip.keepsBut [.obj, .cache, .outs] c) ∧
    ∀ reel pos,
      (s.chip.reel reel = none → Completes (.reelPrefetch reel pos) s s.chip.untouched) ∧
      ∀ r, s.chip.reel reel = some r →
        let seg := s.chip.reelSeg r pos
        (pos ∈ r.held ∨ pos < r.minCursor ∨ r.minCursor + r.window ≤ pos ∨ r.count ≤ pos ∨ s.chip.dolly.paused = true →
          Completes (.reelPrefetch reel pos) s s.chip.untouched) ∧
        (pos ∉ r.held → r.minCursor ≤ pos → pos < r.minCursor + r.window → pos < r.count → s.chip.dolly.paused = false →
          (s.chip.homeHere seg = false → Completes (.reelPrefetch reel pos) s fun c =>
            (s.chip.paired = true → s.chip.linkReady = true → s.chip.told c (.tableUpdate (.reelHold seg true))) ∧ s.chip.keepsBut [.outs] c) ∧
          (s.chip.homeHere seg = true → Completes (.reelPrefetch reel pos) s fun c =>
            (∀ q, c.reel reel = some q → q.held = r.held ∨ q.held = insertNat r.held pos) ∧
            (∀ f, s.chip.lookup seg = some f → (s.chip.frame f).kind ≠ .pin →
              (c.frame f).holds = (s.chip.frame f).holds + 1 ∧ ∃ q, c.reel reel = some q ∧ q.held = insertNat r.held pos) ∧
            s.chip.keepsBut [.obj, .cache, .ring] c))) ∧
  (∀ (s : State) (h : HeadNo) (tail : BitVec 8),
    let q := (s.chip.head h).cue
    let only (c : Chip) (q' : Cue) : Prop := c.head h = { s.chip.head h with cue := q' } ∧ ∀ k, k ≠ h → c.head k = s.chip.head k
    (s.chip.windowOpen h = false → Completes (.cueTail h tail) s s.chip.untouched ∧ Completes (.cueReset h) s s.chip.untouched) ∧
    (s.chip.windowOpen h = true →
      (Completes (.cueReset h) s fun c => only c { q with resetBusy := true } ∧ s.chip.keepsBut [.heads] c) ∧
      (q.enable = false ∨ q.resetBusy = true → Completes (.cueTail h tail) s fun c => only c { q with tailErr := true } ∧ s.chip.keepsBut [.heads] c) ∧
      (q.enable = true → q.resetBusy = false → tail = q.head → (∀ r ∈ s.chip.obj.cmds, r.waits = false) → Completes (.cueTail h tail) s fun c =>
        only c { q with tail := tail } ∧ s.chip.keepsBut [.heads] c)) ∧
    (CompletesIf (.cueResetDone h) s (q.resetBusy = true ∧ s.chip.ringCmds h = []) fun c =>
      only c { q with head := 0, tail := 0, expPhase := true, resetBusy := false } ∧ s.chip.keepsBut [.heads] c) ∧
    CompletesIf (.cueCoalesceExpired h) s (q.delaying = true) fun c =>
      only c { q with delaying := false } ∧ c.outs = s.chip.outs ++ [.msix h 2] ∧ s.chip.keepsBut [.heads, .outs] c)

/-- Results of object commands. A result waits for the programs that its changes have queued; then it goes to its
cue ring entry with byte 63, or to its mailbox, and the command leaves the list. A PIN or UNPIN with no move
of its range left ends OK and its result is written. A command whose owner is not reached in 1 ms gets RETRY;
the end of a release frees the object's identifier and completes its DESTROY. (02 R56, 02 R57, 02 R58, 02 R60,
02 R64, 02 R67, 08 R242, 15 R391.) -/
def Obligations.CommandResults : Prop :=
  ∀ (s : State) (cmd : Nat),
    (s.chip.cmd cmd = none → Completes (.commandResultWritten cmd) s s.chip.untouched ∧ Completes (.commandUnreachableTimeout cmd) s s.chip.untouched) ∧
    (∀ r res, s.chip.cmd cmd = some r → r.result = some res →
      (s.chip.mediumPending r.durable = true → Completes (.commandResultWritten cmd) s s.chip.untouched) ∧
      (s.chip.obj.cmds = [r] → s.chip.mediumPending r.durable = false → Completes (.commandResultWritten cmd) s fun c =>
        c.obj.cmds = [] ∧
        (∀ h slot, r.path = .cue h slot → (c.head h).cue.entries = (s.chip.head h).cue.entries.write (64 * slot.toNat) (entryBytes res) ∧
          (∀ k, k ≠ h → c.head k = s.chip.head k)) ∧
        (∀ h, r.path = .mailbox h → (c.head h).cue = (s.chip.head h).cue ∧
          ∀ x, (s.chip.head h).objResult = some x → x.cmd = cmd → ∃ y, (c.head h).objResult = some y ∧ y.result = some res) ∧
        s.chip.keepsBut [.heads, .obj, .cache, .med, .ring, .outs] c)) ∧
    (∀ r h slot, s.chip.cmd cmd = some r → s.chip.obj.cmds = [r] → r.path = .cue h slot → opcodeOf r.entry = 0x11 ∨ opcodeOf r.entry = 0x12 →
      r.result = none → r.waits = false → s.chip.cmdHere r.entry = true → s.chip.dolly.queue = [] → s.chip.dolly.opened = [] → s.chip.dolly.pins = [] →
      (∀ f ∈ s.chip.twin.fwdCmds, f.cmd ≠ cmd) → Completes (.commandResultWritten cmd) s fun c =>
        c.obj.cmds = [] ∧ (c.head h).cue.entries = (s.chip.head h).cue.entries.write (64 * slot.toNat)
          (entryBytes (mkResult r.entry (objOf r.entry) stOk 0 (s.chip.userTag (objOf r.entry)) [(32, 8, r.done)])) ∧
        s.chip.keepsBut [.heads, .obj, .cache, .med, .ring, .outs] c) ∧
    (∀ r, s.chip.cmd cmd = some r → (∀ tag, r.path ≠ .fwd tag) →
      CompletesIf (.commandUnreachableTimeout cmd) s (r.result = none ∧ s.chip.cmdHere r.entry = false ∧
          ((∃ f ∈ s.chip.twin.fwdCmds, f.cmd = cmd ∧ f.lost = true) ∨ s.chip.paired = false ∨ s.chip.linkReady = false)) fun c =>
        c.answered cmd r.path r.entry stRetry ∧ (∀ f ∈ c.twin.fwdCmds, f.cmd ≠ cmd) ∧ s.chip.keepsBut [.obj, .twin] c) ∧
    ∀ obj o, s.chip.obj.table.find obj = some o →
      CompletesIf (.destroyReleaseDone obj) s (o.state = .destroying) fun c =>
        c.obj.table = s.chip.obj.table.del obj ∧
        (∀ r ∈ s.chip.obj.cmds, objOf r.entry = obj → opcodeOf r.entry = 0x02 → r.waits = false →
          ∃ q ∈ c.obj.cmds, q.id = r.id ∧ q.result ≠ none) ∧ s.chip.keepsBut settleGrps c

/-- A granule moves, within a chip and across chips. A granule opens only while the dolly runs with fewer than 64
open; a medium move needs a slot at the target, a cross-chip move room there and frames for what is pinned;
its record names source and target and stands in the journal. A claim waits for suspect lines: those that
decode uncorrectable start a recovery. A claimed segment is CLAIMED with no line of the cache changed, COPIED
once its programs are confirmed, and switched with its written bitmap. A commit waits for all 512 segments,
makes the target slot the granule's, and ends once the maps and tables are programmed; a FAILED target rolls
the granule back onto its own slot. T answers MOVE_PREP with MOVE_ABORT where it is no target, is in squall
mode or has no room beside what it keeps for other switches, else parks the segment and answers MOVE_PARKED
with its count of forwarded requests. S hands over when its counted requests are done: MOVE_HANDOVER goes out
and the segment is switched. T takes the handover as its home, serves what it parked and answers MOVE_DONE.
MOVE_ABORT takes the segment out of the switch, and the retry sends MOVE_PREP again. (08 R224, 08 R225, 08
R226, 08 R227, 08 R228, 08 R237, 08 R239, 08 R229, 08 R234, 08 R235, 08 R236.) -/
def Obligations.Moves : Prop :=
  (∀ (s : State),
    (∀ (gran : Nat) (pinRoom : Bool),
      (64 ≤ s.chip.dolly.opened.length ∨ s.chip.openGran gran ≠ none ∨ s.chip.dollyRuns = false ∨ s.chip.nextMove gran = none ∨
        s.chip.med.slots.find gran = none → Completes (.granuleOpen gran pinRoom) s s.chip.untouched) ∧
      ∀ q src, s.chip.dolly.opened.length < 64 → s.chip.openGran gran = none → s.chip.dollyRuns = true → s.chip.nextMove gran = some q →
        s.chip.med.slots.find gran = some src → (∀ x ∈ s.chip.dolly.opened, x.poisoned = true → x.cmd = q.cmd → q.cmd = none) →
          let opens (c : Chip) (dst : Option Slot) : Prop := ∃ o, c.dolly.opened = s.chip.dolly.opened ++ [o] ∧ o.gran = gran ∧ o.src = src ∧
            o.dst = dst ∧ o.kind = q.kind ∧ o.segs = [] ∧ o.isTarget = false ∧ ∃ e, c.dolly.journal.find e = some o
          let refused (st : Nat) : Prop := Completes (.granuleOpen gran pinRoom) s fun c => c.dolly.opened = s.chip.dolly.opened ∧
            (∀ id r, q.cmd = some id → s.chip.cmd id = some r → c.answered id r.path r.entry st 0 [(32, 8, r.done)]) ∧ s.chip.keepsBut [.obj, .dolly] c
          (q.kind = .medium ∨ q.kind = .rekey → let g := if q.kind = .rekey then src.group else q.group
            (∀ n, s.chip.freeSlot g = some n → Completes (.granuleOpen gran pinRoom) s fun c =>
              opens c (some { group := g, slot := n }) ∧ s.chip.keepsBut [.cache, .med, .dolly, .ledger, .outs] c) ∧
            (s.chip.freeSlot g = none → refused stNoCapacity)) ∧
          (q.kind = .mirrorBuild → Completes (.granuleOpen gran pinRoom) s fun c => opens c none ∧ s.chip.keepsBut [.cache, .dolly, .ledger, .outs] c) ∧
          (q.kind = .swap ∨ q.kind = .cross →
            let room := q.kind = .swap ∨ 0 < (if q.group % 16 = 15 then (s.chip.groupNos.map s.chip.peerFree).sum else s.chip.peerFree (q.group % 16))
            (¬ room → refused stNoCapacity) ∧
            (room → s.chip.pinnedIn gran ≠ [] → pinRoom = false → refused stNoPin) ∧
            (room → s.chip.pinnedIn gran = [] ∨ pinRoom = true → Completes (.granuleOpen gran pinRoom) s fun c =>
              opens c none ∧ s.chip.keepsBut [.cache, .dolly, .ledger, .outs] c ∧
              (s.chip.linkReady = true → ∃ g key, s.chip.told c (.tableUpdate (.openMove gran q.obj g key (decide (q.kind = .swap)) (s.chip.pinnedIn gran))))))) ∧
    (∀ (seg : Nat) (o : OpenGran), s.chip.openGran (segGran seg) = some o →
      (∀ (pair : Bool) (bad : List Nat),
        let segs := if pair then [seg / 2 * 2, seg / 2 * 2 + 1] else [seg]
        let lines := segs.flatMap s.chip.copyLines
        let may := o.isTarget = false ∧ s.chip.dollyRuns = true ∧ s.chip.stagedCount + segs.length ≤ 256 ∧
            ∀ x ∈ segs, o.stage x = none ∧ s.chip.noSnapshot x = true ∧ (o.kind = .swap ∨ s.chip.dollyRoom x = true)
        (¬ may → Completes (.segmentClaim seg pair bad) s s.chip.untouched) ∧
        (may → o.kind = .swap → Completes (.segmentClaim seg pair bad) s fun c =>
          (∃ p, c.openGran (segGran seg) = some p ∧ ∀ x ∈ segs, p.stage x = some .claimed) ∧ s.chip.keepsBut [.dolly] c) ∧
        (may → o.kind ≠ .swap → o.suspect = [] → (∀ l ∈ lines, s.chip.copyLost l = false ∧ (l ∈ bad → (s.chip.held l).isSome = true ∨ (s.chip.poisonAt l).isSome = true)) →
          Completes (.segmentClaim seg pair bad) s fun c =>
            (∃ p, c.openGran (segGran seg) = some p ∧ ∀ x ∈ segs, p.stage x = some .claimed) ∧ c.cache.lines = s.chip.cache.lines ∧
            c.cache.frames = s.chip.cache.frames ∧ c.med = { s.chip.med with ch := c.med.ch } ∧ c.vol 0x2040 5 = s.chip.vol 0x2040 5 + 64 * lines.length ∧
            s.chip.keepsBut [.cache, .med, .dolly, .ring, .outs] c)) ∧
      (CompletesIf (.segmentCopied seg) s (o.stage seg = some .claimed ∧ s.chip.stagedDone o seg = true) fun c =>
        (∃ p, c.openGran (segGran seg) = some p ∧ p.stage seg = some .copied) ∧ s.chip.keepsBut [.dolly] c) ∧
      CompletesIf (.segmentSwitch seg) s (o.isTarget = false ∧ o.stage seg = some .copied ∧ seg % 512 ∉ o.prep) fun c =>
        ∃ p, c.openGran (segGran seg) = some p ∧
          (o.kind = .cross ∨ o.kind = .swap → seg % 512 ∈ p.prep ∧ p.stage seg = some .copied ∧ (s.chip.linkReady = true → s.chip.told c .movePrep (64 * seg))) ∧
          (o.kind ≠ .cross → o.kind ≠ .swap → p.stage seg = some .switched ∧ c.vol 0x2040 6 = s.chip.vol 0x2040 6 + 1) ∧
          (o.kind = .medium ∨ o.kind = .rekey → s.chip.written seg ≠ 0 → c.written seg = s.chip.written seg) ∧
          s.chip.keepsBut [.med, .dolly, .ring, .outs] c) ∧
    ∀ (gran : Nat) (o : OpenGran), s.chip.openGran gran = some o →
      (o.isTarget = true ∨ (s.chip.targetFailed o = false ∧ ∃ n, n < 512 ∧ o.switched n = false) → Completes (.granuleCommit gran) s s.chip.untouched) ∧
      (o.isTarget = false → s.chip.targetFailed o = true → Completes (.granuleCommit gran) s fun c =>
        c.openGran gran = none ∧ (o.commitAt = none → c.med.slots = s.chip.med.slots) ∧ (o.commitAt ≠ none → c.med.slots.find gran = some o.src) ∧
        s.chip.keepsBut [.obj, .cache, .med, .dolly, .ledger, .ring, .outs] c) ∧
      (o.isTarget = false → s.chip.targetFailed o = false → (∀ n, n < 512 → o.switched n = true) →
        (∀ d, o.dst = some d → o.commitAt = none → Completes (.granuleCommit gran) s fun c =>
          (∃ p, c.openGran gran = some p ∧ p.commitAt ≠ none) ∧ c.med.slots.find gran = some d ∧
          (∀ g, g ≠ gran → c.med.slots.find g = s.chip.med.slots.find g) ∧ s.chip.keepsBut [.cache, .med, .dolly] c) ∧
        (∀ n, o.commitAt = some n → s.chip.mediumPending n = true → Completes (.granuleCommit gran) s s.chip.untouched) ∧
        (∀ n d, o.dst = some d → o.commitAt = some n → s.chip.mediumPending n = false → o.kind = .medium ∨ o.kind = .rekey → Completes (.granuleCommit gran) s fun c =>
          c.openGran gran = none ∧ c.med.slots = s.chip.med.slots ∧ (s.chip.linkReady = true → s.chip.told c (.tableUpdate (.granule gran (some (d.group, d.slot))))) ∧
          s.chip.keepsBut [.obj, .cache, .med, .dolly, .twin, .ledger, .ring, .outs] c) ∧
        (o.dst = none → o.commitAt = none → o.kind = .cross ∨ o.kind = .swap → Completes (.granuleCommit gran) s fun c =>
          c.openGran gran = none ∧ (s.chip.linkReady = true → s.chip.told c (.tableUpdate (.closeMove gran true))) ∧
          s.chip.keepsBut [.obj, .cache, .med, .dolly, .twin, .ledger, .ring, .outs] c))) ∧
  (∀ (s : State) (hdr : TwinHdr), s.chip.hears hdr →
    let seg := lineSeg hdr.line
    (Completes (.movePrep hdr) s fun c =>
      (if s.chip.targetOf seg ≠ none ∧ s.chip.cache.squall = 0 ∧ s.chip.dirtyTotal + 4096 * (s.chip.reservedSegs + 1) ≤ s.chip.cache.budget ∧ s.chip.windowUse + 2 * (s.chip.reservedSegs + 1) ≤ s.chip.windowCap then
        s.chip.told c (.moveParked (s.chip.twin.fwd.countP (fun p => decide (lineSeg p.req.line = seg)))) (64 * seg) ∧
          ∃ p, c.openGran (segGran seg) = some p ∧ seg % 512 ∈ p.prep
      else s.chip.told c .moveAbort (64 * seg) ∧ c.dolly = s.chip.dolly) ∧ s.chip.keepsBut [.dolly, .ring, .outs] c) ∧
    (∀ (count : Nat) (o : OpenGran), s.chip.openGran (segGran seg) = some o → o.isTarget = false → seg % 512 ∈ o.prep →
      Completes (.moveParked hdr count) s fun c => ∃ p, c.openGran (segGran seg) = some p ∧
        (s.chip.forwardedIn seg = 0 → p.stage seg = some .switched ∧ ∃ a b d l, s.chip.told c (.moveHandover a b d l) (64 * seg)) ∧
        (s.chip.forwardedIn seg ≠ 0 → (seg % 512, count) ∈ p.waiting) ∧ s.chip.keepsBut [.dolly, .ring, .outs] c) ∧
    (∀ (bitmap dirty poison : BitVec 64) (lines : List (Nat × Line)) (o : OpenGran), s.chip.targetOf seg = some o → SMap.sorted o.segs = true →
      Completes (.moveHandover hdr bitmap dirty poison lines) s fun c =>
        c.homeHere seg = true ∧ s.chip.told c .moveDone (64 * seg) ∧ (∀ r ∈ c.dolly.parked, lineSeg r.line ≠ seg) ∧
        s.chip.keepsBut settleGrps c) ∧
    (∀ (bitmap dirty poison : BitVec 64) (lines : List (Nat × Line)), s.chip.targetOf seg = none →
      Completes (.moveHandover hdr bitmap dirty poison lines) s fun c => s.chip.keepsBut [.ring] c) ∧
    (∀ (o : OpenGran), s.chip.openGran (segGran seg) = some o →
      (o.isTarget = true ∨ o.switched seg = false → Completes (.moveDone hdr) s fun c => s.chip.keepsBut [.ring] c) ∧
      (o.isTarget = false → o.switched seg = true → o.kind ≠ .swap → s.chip.storesWf → s.chip.nonePending → Completes (.moveDone hdr) s fun c =>
        (∀ p ∈ c.cache.frames, p.2.seg = seg → p.2.kind = .scratch ∨ p.2.role = .mirrorHeld) ∧
        s.chip.keepsBut settleGrps c) ∧
      (o.isTarget = false → Completes (.moveAbort hdr) s fun c =>
        (∃ p, c.openGran (segGran seg) = some p ∧ p = { o with prep := o.prep.erase (seg % 512), waiting := o.waiting.filter (fun w => w.1 != seg % 512) }) ∧
        s.chip.keepsBut [.dolly, .ring] c)) ∧
    (∀ (seg : Nat) (o : OpenGran), s.chip.openGran (segGran seg) = some o →
      CompletesIf (.movePrepRetry seg) s (o.crosses = true ∧ o.isTarget = false ∧ o.stage seg = some .copied ∧ seg % 512 ∉ o.prep) fun c =>
        (∃ p, c.openGran (segGran seg) = some p ∧ seg % 512 ∈ p.prep) ∧ s.chip.told c .movePrep (64 * seg) ∧ s.chip.keepsBut [.dolly, .outs] c) ∧
    ∀ (seg : Nat), match s.chip.dolly.pins.find? (fun p => decide (p.seg = seg)) with
      | none => Completes (.pinMoveSwitch seg) s s.chip.untouched
      | some p => CompletesIf (.pinMoveSwitch seg) s (s.chip.dollyFree = true) fun c =>
          (∀ x ∈ c.dolly.pins, x.seg ≠ seg) ∧ c.vol 0x2040 6 = s.chip.vol 0x2040 6 + 1 ∧
          (p.into = true → s.chip.nonePending → (c.frame p.frame).kind = .pin ∧ (c.frame p.frame).seg = seg) ∧
          s.chip.keepsBut settleGrps c)

/-- What the twin link does not take. While the link carries no messages none of these has any effect. A CTL
message with an older pair epoch is discarded and counted in 5001:04; a REQ or MIR message outside PAIRED and
ALONE, or with another epoch, is discarded; nothing else changes. (09 R248, 09 R250, 09 Table 09-3.) -/
def Obligations.TwinEpochGate : Prop :=
  ∀ (s : State) (hdr : TwinHdr) (n m : Nat) (ns : List Nat) (b : Bool) (d : Line) (w : BitVec 64) (l : List (Nat × Line)) (e : CmdEntry) (u : TableUpd)
    (v : Int) (f : WitFrame) (r : Option Nat) (ev : HbmEvent) (i : Instr),
    (i ∈ [Instr.movePrep hdr, .moveParked hdr n, .moveHandover hdr w w w l, .moveDone hdr, .moveAbort hdr, .mirrorResend hdr, .heartbeat hdr n m m,
        .tableUpdate hdr u, .descInval hdr n, .poisonShadow hdr n m m b, .timestamp hdr v, .squallNote hdr n, .handoverBegin hdr, .handoverParked hdr n,
        .handoverState hdr n, .handoverDone hdr, .renewRelay hdr f r] →
      (s.chip.linkReady = false → Completes i s s.chip.untouched) ∧
      (s.chip.linkReady = true → s.chip.olderEpoch hdr.epoch = true → Completes i s fun c =>
        c.vol 0x5001 4 = s.chip.vol 0x5001 4 + 1 ∧ c.vol 0x5001 3 = s.chip.vol 0x5001 3 + 1 ∧ s.chip.keepsBut [.ring] c)) ∧
    (i ∈ [Instr.fwdRead hdr ev, .fwdWrite hdr d w ev, .fwdCmd hdr e, .mirrorWrite hdr d w, .mirrorFetch hdr ns, .auditReq hdr n] →
      (s.chip.linkReady = false → Completes i s s.chip.untouched) ∧
      (s.chip.linkReady = true → ¬ s.chip.hearsReq hdr → Completes i s fun c =>
        c.vol 0x5001 3 = s.chip.vol 0x5001 3 + 1 ∧ s.chip.keepsBut [.ring] c))

/-- Every forwarded request is answered or waits. With no request of the partner under the same tag inside the
chip, a forwarded read that the chip takes is answered over the link by FWD_DATA, and a forwarded write by
FWD_ACK, or it is recorded as a forwarded request that waits here; a mirror write that it takes is committed
to the partner, waits for credits, or is held behind a fenced frame; a forwarded command is in flight under
its tag. (01 R31, 02 R57, 09 R250, 09 R252.) -/
def Obligations.ForwardedAnsweredOrWaits : Prop :=
  ∀ (s : State) (hdr : TwinHdr), s.chip.hearsReq hdr → ¬ s.chip.waits (fun r => r.src = .fwd hdr.tag) →
    (Completes (.fwdRead hdr .ok) s fun c =>
      (∃ d, s.chip.told c (.fwdData d) hdr.line hdr.tag) ∨ (hdr.tag, fwdReq hdr false 0 0) ∈ c.twin.fwdIn) ∧
    (∀ (data : Line) (mask : Mask), Completes (.fwdWrite hdr data mask .ok) s fun c =>
      s.chip.told c .fwdAck hdr.line hdr.tag ∨ (hdr.tag, fwdReq hdr true data mask) ∈ c.twin.fwdIn) ∧
    (∀ (data : Line) (mask : Mask), Completes (.mirrorWrite hdr data mask) s fun c =>
      s.chip.told c .mirrorCommit hdr.line hdr.tag ∨
        Waiter.mirror { tag := hdr.tag, line := hdr.line, data := data, mask := mask, poison := hdr.poison, head := hdr.head } ∈ c.cache.creditQ ∨
        { tag := hdr.tag, line := hdr.line, data := data, mask := mask, poison := hdr.poison, head := hdr.head } ∈ c.hbm.heldMirror) ∧
    ∀ (entry : CmdEntry), s.chip.cmd s.chip.obj.nextCmd = none → Completes (.fwdCmd hdr entry) s fun c =>
      ∃ r, c.cmd s.chip.obj.nextCmd = some r ∧ r.path = .fwd hdr.tag ∧ r.entry = entry

/-- Answers over the twin link. FWD_DATA, FWD_ACK, FWD_CMD_RESULT and MIRROR_COMMIT end the request, command or
mirrored write that their tag names: the read or write completes at its arrival head, the result is the
command's, and the record is gone. One with an unknown tag is only counted. (01 R28, 01 R31, 02 R57, 09 R251,
09 R252.) -/
def Obligations.TwinAnswers : Prop :=
  ∀ (s : State) (hdr : TwinHdr) (data : Line) (res : CmdResult), s.chip.linkReady = true →
    (match s.chip.twin.fwd.find? (fun f => decide (f.tag = hdr.tag)) with
      | some f =>
          (Completes (.fwdData hdr data) s fun c =>
            (∀ h, f.req.src = .head h → (s.chip.head h).link = .up →
              (∃ l, Output.readDone h f.req.tag (if hdr.poison then 0 else data) hdr.poison l ∈ s.chip.sent c)) ∧
            (∀ x ∈ c.twin.fwd, x.tag ≠ hdr.tag) ∧ s.chip.keepsBut [.heads, .twin, .ledger, .ring, .outs] c) ∧
          (Completes (.fwdAck hdr) s fun c =>
            (∀ h, f.req.src = .head h → (s.chip.head h).link = .up → ∃ l, Output.writeDone h f.req.tag l ∈ s.chip.sent c) ∧
            (∀ x ∈ c.twin.fwd, x.tag ≠ hdr.tag) ∧ (hdr.poison = false → s.chip.keepsBut [.twin, .ring, .outs] c) ∧
            s.chip.keepsBut [.heads, .twin, .ledger, .ring, .outs] c)
      | none => ∀ i, i = .fwdData hdr data ∨ i = .fwdAck hdr → Completes i s fun c => s.chip.keepsBut [.ring] c) ∧
    (match s.chip.twin.mirror.find? (fun m => decide (m.tag = hdr.tag)) with
      | some m => Completes (.mirrorCommit hdr) s fun c =>
          (∀ h, m.req.src = .head h → (s.chip.head h).link = .up → (∃ l, Output.writeDone h m.req.tag l ∈ s.chip.sent c)) ∧
          (∀ x ∈ c.twin.mirror, x.tag ≠ hdr.tag) ∧ s.chip.keepsBut [.obj, .cache, .med, .integ, .dolly, .twin, .ledger, .ring, .outs] c
      | none => Completes (.mirrorCommit hdr) s fun c => s.chip.keepsBut [.ring] c) ∧
    match s.chip.twin.fwdCmds.find? (fun f => decide (f.tag = hdr.tag)) with
      | some f => Completes (.fwdCmdResult hdr res) s fun c =>
          (∀ r, s.chip.cmd f.cmd = some r → ∃ q, c.cmd f.cmd = some q ∧ q.result = some res ∧ q.path = r.path ∧ q.entry = r.entry) ∧
          (∀ x ∈ c.twin.fwdCmds, x.cmd ≠ f.cmd) ∧ s.chip.keepsBut [.obj, .twin, .ring] c
      | none => Completes (.fwdCmdResult hdr res) s fun c => s.chip.keepsBut [.ring] c

/-- Lines asked for and sent between the copies. MIRROR_RESEND of a dirty line of this home sends the line again;
MIRROR_FETCH of a line answers with this chip's copy, which does not change; MIRROR_DATA ends a read that
waits for the partner's copy, with poison where the copy is poisoned; a segment of a copy being built here
takes its written bitmap. (05 Table 05-8, 07 R208, 07 R209, 08 R226.) -/
def Obligations.MirrorCopies : Prop :=
  ∀ (s : State) (hdr : TwinHdr),
    (s.chip.hears hdr →
      (s.chip.lineDirty hdr.line = true → s.chip.homeHere (lineSeg hdr.line) = true → Completes (.mirrorResend hdr) s fun c =>
        s.chip.told c (.mirrorWrite (s.chip.ownCopy hdr.line).data fullMask) hdr.line s.chip.twin.nextTag ∧ s.chip.keepsBut [.twin, .ring, .outs] c) ∧
      (s.chip.lineDirty hdr.line = false ∨ s.chip.homeHere (lineSeg hdr.line) = false → Completes (.mirrorResend hdr) s fun c => s.chip.keepsBut [.ring] c)) ∧
    (s.chip.hearsReq hdr → hdr.segment = false → Completes (.mirrorFetch hdr []) s fun c =>
      s.chip.told c (.mirrorData [(lineSector hdr.line, (s.chip.ownCopy hdr.line).data)] 0 0) hdr.line hdr.tag ∧ s.chip.keepsBut [.ring, .outs] c) ∧
    ∀ (lines : List (Nat × Line)) (bitmap poison : BitVec 64), s.chip.linkReady = true →
      (∀ m l ls, hdr.segment = false → s.chip.missOf hdr.line = some m → m.stage = .fetching → lines = l :: ls →
        hdr.poison = false ∨ (m.failed = [] ∧ m.drop = false) →
        Completes (.mirrorData hdr lines bitmap poison) s fun c =>
          (∃ x, c.missOf hdr.line = some x ∧ x.stage = .returned ∧ x.readers = m.readers ∧
            x.got = some (if hdr.poison then { data := 0, poison := true } else { data := l.2 })) ∧
          c.med = s.chip.med ∧ s.chip.keepsBut [.heads, .cache, .integ, .ledger, .ring, .outs] c) ∧
      ∀ d, hdr.segment = true → (∀ p ∈ s.chip.cache.frames, p.2.unbuilt = false) → s.chip.openGran (segGran (lineSeg hdr.line)) = none →
        s.chip.med.slots.find (segGran (lineSeg hdr.line)) = some d → bitmap ≠ 0 →
        Completes (.mirrorData hdr lines bitmap poison) s fun c =>
          c.written (lineSeg hdr.line) = bitmap ∧ c.med = { s.chip.med with map := c.med.map, mixed := c.med.mixed } ∧ s.chip.keepsBut [.cache, .med, .ring] c

/-- The twin link, the pulse wire and heartbeats. A link that trains, with the main domain running and no wrap, is
up without keys. A link declared lost, by its signal, by 100 us of silence or by an unanswered PROBE, is down
with no request recorded as forwarded; a paired chip sends CLAIM, but one in WITNESS_LOST fences with every
present head Disabled; in rejoin it fences. With the link down already, or with no PROBE out, nothing happens.
Every 10 us the pulse output toggles; its loss is latched once and counted, and with a link that carries
messages a PROBE goes out; its return clears the latch. A HEARTBEAT keeps the partner's states and its lease
and ends the probe; HEARTBEAT_SEND and the answer to a PROBE send this chip's pair state, lease state,
remaining lease and epoch. (09 R248, 09 R251, 09 R254, 09 R257, 09 R260, 09 Table 09-4.) -/
def Obligations.TwinLink : Prop :=
  (∀ (s : State),
    (CompletesIf .twinLinkUp s (s.chip.twin.link ≠ .up ∧ s.chip.boot.mainOut = true ∧ s.chip.wrapping = false) fun c =>
      c.twin = { s.chip.twin with link := .up, keyed := false, auth := false, helloSent := false, peerHello := none } ∧ s.chip.keepsBut [.twin] c) ∧
    (s.chip.twin.probing = false → Completes .probeTimeout s s.chip.untouched) ∧
    ∀ i, i = .twinLinkDown ∨ i = .linkSilenceTimeout ∨ (i = .probeTimeout ∧ s.chip.twin.probing = true) →
      CompletesIf i s (s.chip.twin.link ≠ .down) fun c =>
        c.twin.link = .down ∧ c.twin.fwd = [] ∧ c.twin.keyed = false ∧
        (s.chip.twin.state = .paired → s.chip.wit.state ≠ .witnessLost → c.twin.state = .paired ∧ c.wit.claim ≠ none) ∧
        (s.chip.twin.state = .paired → s.chip.wit.state = .witnessLost → c.twin.state = .fenced ∧ c.wit.state = .expired ∧
          ∀ h, h.val < s.chip.id.part.heads → (c.head h).link = .disabled) ∧
        (s.chip.twin.state = .rejoining → c.twin.state = .fenced) ∧
        (∀ st, s.chip.twin.state = st → st ≠ .paired → st ≠ .rejoining → c.twin.state = st) ∧
        s.chip.keepsBut [.heads, .obj, .cache, .hbm, .med, .integ, .dolly, .twin, .wit, .ledger, .sec, .ring, .boot, .deferred, .outs] c) ∧
  (∀ (s : State),
    let beat := TwinBody.heartbeat s.chip.twin.state.code s.chip.wit.state.code ((s.chip.wit.leaseEnd - s.chip.now) % 2 ^ 32) s.chip.twin.epoch
    (Completes .pulseToggle s fun c => c.twin = { s.chip.twin with pulseOut := !s.chip.twin.pulseOut } ∧ s.chip.keepsBut [.twin] c) ∧
    (CompletesIf .pulseLoss s (s.chip.twin.pulseLost = false) fun c =>
      c.twin = { s.chip.twin with pulseLost := true, probing := s.chip.linkReady || s.chip.twin.probing } ∧ c.vol 0x5002 2 = s.chip.vol 0x5002 2 + 1 ∧
      (s.chip.linkReady = true → s.chip.told c .probe) ∧ s.chip.keepsBut [.heads, .twin, .ledger, .ring, .outs] c) ∧
    (Completes .pulseRestored s fun c => c.twin = { s.chip.twin with pulseLost := false } ∧ s.chip.keepsBut [.twin] c) ∧
    (∀ (hdr : TwinHdr) (pair lease remaining : Nat), s.chip.hears hdr → Completes (.heartbeat hdr pair lease remaining) s fun c =>
      c.twin = { s.chip.twin with peerState := pair, peerLease := lease, peerRemain := remaining, probing := false } ∧ s.chip.keepsBut [.twin, .ring] c) ∧
    (CompletesIf .heartbeatSend s (s.chip.linkReady = true) fun c => s.chip.told c beat ∧ s.chip.keepsBut [.outs] c) ∧
    CompletesIf .probe s (s.chip.linkReady = true) fun c => s.chip.told c beat ∧ s.chip.keepsBut [.ring, .outs] c)

/-- The pair forms, and its tables are kept alike. Two chips known to each other by HELLO on an authenticated
link, registered and with no cause of Table 09-1 between them, form the pair: the accepting chip sends
PAIR_ACCEPT with a higher epoch, both are PAIRED with the other as twin. A cause refuses: PAIR_REFUSE goes out
and the chip shows REFUSED with it. A chip that is PAIRED or FENCED is not refused, and takes no PAIR_ACCEPT.
A table message with a current epoch changes what it names and only that: an object's entry, the partner's
slot of a granule, a home, a media key, a zeroed range, the partner's boot state; DESC_INVAL drops a
descriptor; POISON_SHADOW adds to or clears the shadow list; TIMESTAMP sets the clock's offset; SQUALL_NOTE
keeps the partner's squall state; a piece of the stale set is merged unless the chip is PAIRED or FENCED. (09
R245, 09 R246, 09 R247, 09 R250, 09 Table 09-1, 01 R20, 04 R123, 04 R134, 07 R216, 09 R264, 09 R270, 12 R325.) -/
def Obligations.PairTables : Prop :=
  (∀ (s : State), s.chip.linkReady = true →
    (∀ (h : Hello), s.chip.twin.auth = true → s.chip.twin.state = .unpaired → s.chip.mutual h = false →
      (s.chip.refusalCause h ≠ 0 → s.chip.inPairStage = false → s.chip.twin.helloSent = true ∨ s.chip.wit.registered = true → Completes (.hello h) s fun c =>
        c.twin.state = .refused ∧ c.twin.refuseCause = s.chip.refusalCause h ∧ s.chip.told c (.pairRefuse (s.chip.refusalCause h)) ∧
        s.chip.keepsBut [.heads, .twin, .ledger, .ring, .boot, .outs] c) ∧
      (s.chip.refusalCause h = 0 → s.chip.wit.registered = true → s.chip.accepts h = true → Completes (.hello h) s fun c =>
        c.twin.state = .paired ∧ c.twin.twinSerial = h.serial ∧ c.twin.epoch = max s.chip.twin.epoch h.epoch + 1 ∧
        c.twin.position = s.chip.newPosition h ∧ s.chip.told c (.pairAccept (!s.chip.newPosition h) (max s.chip.twin.epoch h.epoch + 1)) ∧
        c.id = s.chip.id ∧ c.clk = s.chip.clk ∧ c.pwr = s.chip.pwr ∧ c.res = s.chip.res ∧ c.cores = s.chip.cores)) ∧
    (∀ (position : Bool) (epoch : Nat),
      (s.chip.twin.state = .paired ∨ s.chip.twin.state = .fenced ∨ s.chip.twin.state = .rejoining → Completes (.pairAccept position epoch) s fun c =>
        c.twin = { s.chip.twin with accept := none } ∧ s.chip.keepsBut [.twin, .ring] c) ∧
      ∀ h, s.chip.twin.state = .unpaired → s.chip.twin.staleDone = false → s.chip.twin.auth = true → s.chip.twin.helloSent = true →
        s.chip.twin.peerHello = some h → s.chip.mutual h = false → s.chip.refusalCause h = 0 → s.chip.wit.registered = true → s.chip.accepts h = false →
        Completes (.pairAccept position epoch) s fun c =>
          c.twin.state = .paired ∧ c.twin.position = position ∧ c.twin.twinSerial = h.serial ∧ c.twin.epoch = max s.chip.twin.epoch epoch) ∧
    ∀ (cause : Nat),
      (s.chip.twin.state = .paired ∨ s.chip.twin.state = .fenced → Completes (.pairRefuse cause) s fun c => s.chip.keepsBut [.ring] c) ∧
      (s.chip.twin.state = .unpaired → s.chip.inPairStage = false → Completes (.pairRefuse cause) s fun c =>
        c.twin.state = .refused ∧ c.twin.refuseCause = cause ∧ s.chip.keepsBut [.heads, .twin, .ledger, .ring, .boot, .outs] c) ∧
      (s.chip.twin.state = .alone ∨ s.chip.twin.state = .split → Completes (.pairRefuse cause) s fun c =>
        c.twin = { s.chip.twin with refuseCause := cause } ∧ s.chip.keepsBut [.heads, .twin, .ledger, .ring, .outs] c)) ∧
  (∀ (s : State) (hdr : TwinHdr), s.chip.hears hdr →
    (∀ g p, Completes (.tableUpdate hdr (.granule g (some p))) s fun c =>
      c.med.peerSlots.find g = some { group := p.1, slot := p.2 } ∧ c.med = { s.chip.med with peerSlots := c.med.peerSlots } ∧ s.chip.keepsBut [.med, .ring] c) ∧
    (∀ g home, home ≠ granHalf g → Completes (.tableUpdate hdr (.route g home)) s fun c =>
      c.med.routeMap.find g = some home ∧ c.med = { s.chip.med with routeMap := c.med.routeMap, tableGen := c.med.tableGen } ∧ s.chip.keepsBut [.cache, .med, .ring] c) ∧
    (∀ g slots, Completes (.tableUpdate hdr (.room g slots)) s fun c =>
      c.med.peerRoom.find g = some slots ∧ c.med = { s.chip.med with peerRoom := c.med.peerRoom } ∧ s.chip.keepsBut [.med, .ring] c) ∧
    (∀ v, Completes (.tableUpdate hdr (.bootState v)) s fun c => c.twin = { s.chip.twin with partnerBoot := v } ∧ s.chip.keepsBut [.twin, .ring] c) ∧
    (∀ id o, s.chip.obj.table.find id = none → o.state = .active → o.mirror = false → o.oldKeyTag = none → Completes (.tableUpdate hdr (.object id (some o))) s fun c =>
      c.obj.table.find id = some (flipObj o) ∧ (∀ k, k ≠ id → c.obj.table.find k = s.chip.obj.table.find k) ∧ s.chip.keepsBut [.obj, .cache, .med, .dolly, .ring] c) ∧
    (∀ t k, k ≠ 0 → s.chip.obj.cmds = [] → Completes (.tableUpdate hdr (.key t k)) s fun c =>
      c.tagState t = .loaded ∧ c.keyOf t = k ∧ s.chip.keepsBut [.sec, .ring] c) ∧
    (∀ t, Completes (.tableUpdate hdr (.eraseKey t)) s fun c =>
      c.tagState t = .erasing ∧ c.sec.eraseTag = some t ∧ c.sec.eraseState = 1 ∧ s.chip.keepsBut [.sec, .ring] c) ∧
    (∀ t, s.chip.paired = true → s.chip.twin.position = false → s.chip.tagState t = .loaded → Completes (.tableUpdate hdr (.wantKey t)) s fun c =>
      s.chip.told c (.tableUpdate (.key t (s.chip.keyOf t))) ∧ s.chip.keepsBut [.ring, .outs] c) ∧
    (∀ first count tag scrub, Completes (.tableUpdate hdr (.zero first count tag scrub)) s fun c =>
      (s.chip.nonePending → ∀ l, first ≤ lineSeg l → lineSeg l < first + count → c.lineWritten l = false ∧ c.poisonAt l = none) ∧
      s.chip.keepsBut settleGrps c) ∧
    (∀ obj, Completes (.descInval hdr obj) s fun c =>
      (∀ d ∈ c.cache.descs, d.obj ≠ obj) ∧ c.cache = { s.chip.cache with descs := c.cache.descs } ∧ s.chip.keepsBut [.cache, .ring] c) ∧
    (∀ line len src, Completes (.poisonShadow hdr line len src true) s fun c =>
      (∀ q ∈ c.integ.shadow, q.line + q.len ≤ line ∨ line + len ≤ q.line ∨ q.len = 0 ∨ len = 0) ∧
      c.integ = { s.chip.integ with shadow := c.integ.shadow } ∧ s.chip.keepsBut [.integ, .ring] c) ∧
    (∀ line len src, Completes (.poisonShadow hdr line len src false) s fun c =>
      { line := line, len := len, src := src } ∈ c.integ.shadow ∧ c.integ = { s.chip.integ with shadow := c.integ.shadow } ∧
      s.chip.keepsBut [.integ, .ring] c) ∧
    (∀ value, Completes (.timestamp hdr value) s fun c =>
      c.stamp = value ∧ c.clk = { s.chip.clk with offset := c.clk.offset, hostSet := true } ∧ s.chip.keepsBut [.clk, .med, .ledger, .ring] c) ∧
    (∀ v, Completes (.squallNote hdr v) s fun c =>
      c.cache.partnerSquall = v ∧ s.chip.keepsBut settleGrps c) ∧
    ∀ (granules : List Nat),
      (s.chip.twin.state = .paired ∨ s.chip.twin.state = .fenced → ∀ final, Completes (.staleSet granules final) s fun c => s.chip.keepsBut [.ring] c) ∧
      (s.chip.twin.state ≠ .paired → s.chip.twin.state ≠ .fenced → Completes (.staleSet granules false) s fun c =>
        (∀ g ∈ granules, g ∈ c.med.stale) ∧ (∀ g ∈ s.chip.med.stale, g ∈ c.med.stale) ∧ c.med = { s.chip.med with stale := c.med.stale } ∧
        s.chip.keepsBut [.med, .ring] c))

/-- A planned handover, message by message. Y parks and answers HANDOVER_PARKED with its count of forwarded
requests for X's mirrored homes. X, once Y parks and nothing mirrored, forwarded or queued is open, hands its
homes over, raises the epoch and sends HANDOVER_STATE. Y takes at least that epoch, stops parking and sends
HANDOVER_DONE. X then ends: with the option to leave it releases its lease and fences, without it sends NOTE.
(09 R267, 09 R268, 09 Table 09-9.) -/
def Obligations.PlannedHandover : Prop :=
  ∀ (s : State) (hdr : TwinHdr), s.chip.hears hdr →
    (Completes (.handoverBegin hdr) s fun c =>
      c.twin = { s.chip.twin with handY := true, handIn := [] } ∧ (∃ n, s.chip.told c (.handoverParked n)) ∧ s.chip.keepsBut [.twin, .ring, .outs] c) ∧
    (∀ count,
      (s.chip.twin.hand ≠ .begun → Completes (.handoverParked hdr count) s fun c => s.chip.keepsBut [.ring] c) ∧
      (s.chip.twin.hand = .begun → Completes (.handoverParked hdr count) s fun c =>
        c.twin.handCount = count ∧ (c.twin.hand = .parked ∨ c.twin.hand = .installing) ∧
        (s.chip.twin.mirror = [] → s.chip.twin.fwdIn = [] → s.chip.cache.creditQ = [] → s.chip.cache.mergeQ = [] → s.chip.hbm.heldForFence = [] →
          c.twin.hand = .installing ∧ c.twin.epoch = s.chip.twin.epoch + 1 ∧ s.chip.told c (.handoverState (s.chip.twin.epoch + 1))) ∧
        s.chip.keepsBut [.obj, .cache, .med, .integ, .dolly, .twin, .ledger, .ring, .outs] c)) ∧
    (∀ epoch,
      (s.chip.twin.handY = false → Completes (.handoverState hdr epoch) s fun c => s.chip.keepsBut [.ring] c) ∧
      (s.chip.twin.handY = true → Completes (.handoverState hdr epoch) s fun c =>
        c.twin.handY = false ∧ c.twin.epoch = max s.chip.twin.epoch epoch ∧ s.chip.told c .handoverDone ∧
        c.id = s.chip.id ∧ c.clk = s.chip.clk ∧ c.pwr = s.chip.pwr ∧ c.res = s.chip.res ∧ c.wrap = s.chip.wrap ∧ c.sec = s.chip.sec)) ∧
    (s.chip.twin.hand ≠ .installing → Completes (.handoverDone hdr) s fun c => s.chip.keepsBut [.ring] c) ∧
    (s.chip.twin.hand = .installing → s.chip.twin.handQ = [] → s.chip.wit.rehearsalDue = false →
      (s.chip.vol 0x5030 2 = 1 → s.chip.twin.state = .paired → Completes (.handoverDone hdr) s fun c =>
        c.twin.hand = .idle ∧ c.twin.handState = 2 ∧ c.twin.state = .fenced ∧ c.wit.state = .released) ∧
      (s.chip.vol 0x5030 2 ≠ 1 → s.chip.wit.seqLow ≠ BitVec.allOnes 32 → Completes (.handoverDone hdr) s fun c =>
        c.twin.hand = .idle ∧ c.twin.handState = 2 ∧ c.twin.state = s.chip.twin.state ∧ (∃ f, Output.witness f ∈ s.chip.sent c ∧ f.type = 7) ∧
        s.chip.keepsBut [.cache, .twin, .wit, .ring, .outs] c))

/-- The lease and the witness frames. An unregistered chip, and a fenced one every 10 ms, sends REGISTER; a
registered one that is neither fenced nor in a wrap sends RENEW and keeps it until it is acknowledged; one
whose sequence is spent fences. An acknowledged RENEW moves the lease's end to 200 us after its send time,
never back, and makes the lease CURRENT or RELAYED; the answer to REGISTER registers the chip, which then
sends HELLO where it may. An answer for the partner goes back over the link. A RENEW unacknowledged for 50 us
is counted and the next is relayed too. A partner's RENEW is passed on marked as relayed. Each frame takes the
next SEQ. (09 R245, 09 R255, 09 R256, 09 R258, 09 R260, 09 Table 09-5.) -/
def Obligations.LeaseFrames : Prop :=
  ∀ (s : State),
    let frame (c : Chip) (t : Nat) : Prop := (∃ f, Output.witness f ∈ s.chip.sent c ∧ f.type = t ∧ f.chip = s.chip.id.serial ∧ f.seq = s.chip.witSeq) ∧
      c.wit.seqLow = s.chip.wit.seqLow + 1
    let mayRenew := s.chip.wit.registered = true ∧ s.chip.twin.state ≠ .fenced ∧ s.chip.wrapping = false
    (s.chip.wit.seqLow ≠ BitVec.allOnes 32 →
      (CompletesIf .register s (s.chip.wit.registered = false) fun c => frame c 1 ∧ s.chip.keepsBut [.wit, .ring, .outs] c) ∧
      (CompletesIf .registerResend s (s.chip.twin.state = .fenced) fun c => frame c 1 ∧ s.chip.keepsBut [.wit, .ring, .outs] c) ∧
      (s.chip.wit.relayNext = false → CompletesIf .renewSend s mayRenew fun c =>
        frame c 2 ∧ (s.chip.witSeq, s.chip.now) ∈ c.wit.renews ∧ s.chip.keepsBut [.wit, .ring, .outs] c)) ∧
    (mayRenew → s.chip.seqSpent = true → Completes .renewSend s fun c =>
      c.twin.state = .fenced ∧ (∀ h, h.val < s.chip.id.part.heads → (c.head h).link = .disabled) ∧ s.chip.keepsBut fenceGrps c) ∧
    (∀ f seq p, f.chip = s.chip.id.serial → s.chip.wit.renews.find? (fun q => decide (q.1 = seq)) = some p → s.chip.twin.state ≠ .fenced →
      s.chip.twin.state ≠ .split → s.chip.wrapping = false → s.chip.twin.peerHello = none → Completes (.renewAck f (some seq)) s fun c =>
        c.wit.leaseEnd = max s.chip.wit.leaseEnd (p.2 + 200000) ∧ c.wit.state = (if f.relayed then .relayed else .current) ∧
        (∀ q ∈ c.wit.renews, seq < q.1) ∧ c.wit.reachLost = false ∧ c.wit.relayNext = false ∧ s.chip.keepsBut [.wit, .ring, .outs] c) ∧
    (∀ f, f.chip = s.chip.id.serial → s.chip.twin.peerHello = none → Completes (.renewAck f none) s fun c =>
      c.wit = { s.chip.wit with registered := true } ∧
      (s.chip.mayHello = true → s.chip.linkReady = true → s.chip.twin.helloSent = false → s.chip.told c (.hello s.chip.helloMsg) ∧ c.twin.helloSent = true) ∧
      s.chip.keepsBut [.twin, .wit, .outs] c) ∧
    (∀ f renew, f.chip ≠ s.chip.id.serial → f.chip = s.chip.twin.twinSerial → s.chip.linkReady = true → Completes (.renewAck f renew) s fun c =>
      s.chip.told c (.renewRelay f) ∧ s.chip.keepsBut [.outs] c) ∧
    (∀ seq, CompletesIf (.renewAckTimeout seq) s (∃ p ∈ s.chip.wit.renews, p.1 = seq) fun c =>
      c.wit = { s.chip.wit with relayNext := true, reachLost := true } ∧ c.vol 0x5020 4 = s.chip.vol 0x5020 4 + 1 ∧ s.chip.keepsBut [.wit, .ring] c) ∧
    ∀ hdr f renew, s.chip.hears hdr → f.type ≠ 3 → Completes (.renewRelay hdr f renew) s fun c =>
      c.outs = s.chip.outs ++ [.witness { f with relayed := true }] ∧ s.chip.keepsBut [.ring, .outs] c

/-- Fence, takeover and split. Before a current lease ends a serving chip fences: FENCED, its lease EXPIRED, its
link down and every present head Disabled; it goes to WITNESS_LOST instead where neither chip reaches the
witness. GRANT to an open CLAIM makes the chip ALONE with the higher epoch, serving every home; SPLIT makes a
paired chip SPLIT with mirroring suspended; DENY ends the CLAIM. An exhausted witness sequence fences a
registered chip. The route map rewrite ends the lost-chip rule. (09 R257, 09 R259, 09 R260, 09 R262, 09 R264,
15 R392, 12 R338.) -/
def Obligations.FenceTakeoverSplit : Prop :=
  ∀ (s : State),
    let fenced (c : Chip) : Prop := c.twin.state = .fenced ∧ c.twin.link = .down ∧ c.dolly.paused = true ∧ c.wit.claim = none ∧
      (s.chip.wit.state ≠ .released → c.wit.state = .expired) ∧ ∀ h, h.val < s.chip.id.part.heads → (c.head h).link = .disabled
    let serving := s.chip.twin.state = .paired ∨ s.chip.twin.state = .split ∨ s.chip.twin.state = .alone
    (s.chip.leased = false ∨ ¬ serving → Completes .leaseFenceDeadline s s.chip.untouched) ∧
    (s.chip.leased = true → serving →
      (s.chip.bothLost = true → Completes .leaseFenceDeadline s fun c =>
        c.wit = { s.chip.wit with state := .witnessLost } ∧ s.chip.keepsBut [.wit, .ring, .outs] c) ∧
      (s.chip.bothLost = false → Completes .leaseFenceDeadline s fun c =>
        fenced c ∧ s.chip.keepsBut fenceGrps c)) ∧
    (s.chip.wit.registered = true → s.chip.twin.state ≠ .fenced → Completes .witnessSeqExhausted s fun c =>
      fenced c ∧ s.chip.keepsBut fenceGrps c) ∧
    (∀ epoch, CompletesIf (.verdictGrant epoch) s (s.chip.wit.claim ≠ none ∧ s.chip.mayClaim = true) fun c =>
      c.twin.state = .alone ∧ c.twin.epoch = max s.chip.twin.epoch epoch ∧ c.wit.claim = none ∧ c.twin.link = .down ∧ c.twin.suspended = false ∧
      c.id = s.chip.id ∧ c.clk = s.chip.clk ∧ c.pwr = s.chip.pwr ∧ c.res = s.chip.res ∧ c.wrap = s.chip.wrap ∧ c.cores = s.chip.cores) ∧
    (s.chip.inPairStage = true ∨ s.chip.paired = true → Completes .verdictSplit s fun c =>
      c.twin.state = .split ∧ c.twin.suspended = true ∧ c.wit.claim = none ∧ c.twin.link = .down ∧ c.twin.mirror = [] ∧
      c.id = s.chip.id ∧ c.clk = s.chip.clk ∧ c.pwr = s.chip.pwr ∧ c.res = s.chip.res ∧ c.wrap = s.chip.wrap ∧ c.cores = s.chip.cores) ∧
    (s.chip.inPairStage = false → s.chip.paired = false → Completes .verdictSplit s fun c =>
      c.wit = { s.chip.wit with claim := none } ∧ s.chip.keepsBut [.wit] c) ∧
    (Completes (.verdictDeny false) s fun c =>
      c.wit = { s.chip.wit with claim := none } ∧ c.boot.stage = (if s.chip.inPairStage = true ∧ s.chip.inService = false then 10 else s.chip.boot.stage) ∧
      s.chip.keepsBut [.wit, .boot] c) ∧
    CompletesIf .routeMapRewriteDone s (s.chip.twin.lostChip = true) fun c =>
      c.twin = { s.chip.twin with lostChip := false } ∧ c.med = { s.chip.med with routeMap := c.med.routeMap, tableGen := c.med.tableGen } ∧
        s.chip.keepsBut [.cache, .med, .twin] c

/-- The takeover rehearsal. A rehearsal that is due sends a CLAIM with DRILL, or waits while a handover, a rejoin
or a wrap runs; with period 0, or one running, nothing happens. It ends with DRILL_OK, DENY or a timeout: no
drill runs any more, it has failed unless DRILL_OK found every check good. These verdicts without a drill
change nothing. (09 R259, 09 R272, 16 R410.) -/
def Obligations.Rehearsal : Prop :=
  ∀ (s : State),
    (∀ (holdOk replicaOk : Bool),
      (s.chip.par 0x5040 3 86400000000000 = 0 ∨ s.chip.wit.drill = true → Completes (.rehearsalDue holdOk replicaOk) s s.chip.untouched) ∧
      (s.chip.par 0x5040 3 86400000000000 ≠ 0 → s.chip.wit.drill = false →
        (s.chip.rehearsalWaits = true → Completes (.rehearsalDue holdOk replicaOk) s fun c =>
          c.wit = { s.chip.wit with rehearsalDue := true } ∧ s.chip.keepsBut [.wit] c) ∧
        (s.chip.rehearsalWaits = false → s.chip.wit.seqLow ≠ BitVec.allOnes 32 → Completes (.rehearsalDue holdOk replicaOk) s fun c =>
          c.wit.drill = true ∧ c.wit.rehearsalDue = false ∧ (∃ f, Output.witness f ∈ s.chip.sent c ∧ f.type = 4 ∧ f.drill = true) ∧
          s.chip.keepsBut [.wit, .ring, .outs] c))) ∧
    ∀ i ok, (i = .verdictDrillOk ∧ ok = decide (s.chip.wit.rehearsalChecks = 0)) ∨ (i = .verdictDeny true ∧ ok = false) ∨ (i = .rehearsalTimeout ∧ ok = false) →
      CompletesIf i s (s.chip.wit.drill = true) fun c =>
        c.wit.drill = false ∧ c.wit.rehearsalFailed = !ok ∧ c.wit.rehearsalPassed = (s.chip.wit.rehearsalPassed || ok) ∧
        c.obj = s.chip.obj ∧ c.twin = s.chip.twin ∧ s.chip.keepsBut [.heads, .cache, .wit, .ledger, .ring, .outs] c

/-- Held requests that expire, poison across a split, and the mirror audit. A request held 1 ms, or a mirrored
write that waits 1 ms with the link down, leaves its queue: a read completes with zeros and poison, a write is
acknowledged. POISON_NOTE is always acknowledged. POISON_ACK acknowledges at their heads the writes its note
spoke for; without it for 200 us their heads' links go down instead; either way they wait no longer. An audit
starts only in PAIRED with the option on, a link that carries messages and mirroring not suspended; the next
mirrored granule without dirty lines and not stale is asked for. AUDIT_REQ is answered with this chip's
digest, unless the granule has dirty lines. A digest that differs makes the granule stale, counts a mismatch
and ends the audit; one that agrees only ends it. (01 R41, 01 R42, 01 Table 01-7, 09 R253, 09 R263, 09 R273.) -/
def Obligations.HeldAndAudited : Prop :=
  (∀ (s : State),
    (∀ (mirror : Bool) (n : Nat),
      (mirror = true ∧ s.chip.linkReady = true ∨ (mirror = true ∧ s.chip.twin.mirror[n]? = none) ∨ (mirror = false ∧ s.chip.twin.holdQ[n]? = none) →
        Completes (.holdExpired mirror n) s s.chip.untouched) ∧
      ∀ r h, (mirror = true → s.chip.linkReady = false) → (if mirror then (s.chip.twin.mirror[n]?).map (fun m => m.req) else s.chip.twin.holdQ[n]?) = some r →
        r.src = .head h → (s.chip.head h).link = .up → Completes (.holdExpired mirror n) s fun c =>
          (r.write = false → (∃ l, Output.readDone h r.tag 0 true l ∈ s.chip.sent c)) ∧ (r.write = true → (∃ l, Output.writeDone h r.tag l ∈ s.chip.sent c)) ∧
          c.vol 0x5050 2 = s.chip.vol 0x5050 2 + 1 ∧ s.chip.keepsBut [.heads, .cache, .integ, .twin, .ledger, .ring, .outs] c) ∧
    (∀ seq lines, Completes (.poisonNote seq lines) s fun c => Output.poisonRing false seq [] ∈ s.chip.sent c) ∧
    ∀ seq,
      (Completes (.poisonAck seq) s fun c =>
        (∀ p ∈ c.wit.poisonNotes, p.1 ≠ seq) ∧
        (∀ p ∈ s.chip.wit.poisonNotes, p.1 = seq → p.2.write = true → ∀ h, p.2.src = .head h → (s.chip.head h).link = .up →
          (∃ l, Output.writeDone h p.2.tag l ∈ s.chip.sent c)) ∧ s.chip.keepsBut [.heads, .twin, .wit, .ledger, .ring, .outs] c) ∧
      Completes (.poisonAckTimeout seq) s fun c =>
        (∀ p ∈ c.wit.poisonNotes, p.1 ≠ seq) ∧
        (∀ p ∈ s.chip.wit.poisonNotes, p.1 = seq → ∀ h, p.2.src = .head h → (s.chip.head h).link = .up → (c.head h).link = .training) ∧
        s.chip.keepsBut [.heads, .cache, .hbm, .dolly, .twin, .wit, .sec, .ring, .deferred, .outs] c) ∧
  (∀ (s : State),
    (s.chip.par 0x5041 1 1 = 0 ∨ s.chip.paired = false ∨ s.chip.linkReady = false ∨ s.chip.twin.suspended = true ∨ s.chip.auditGrans = [] →
      Completes .mirrorAuditStart s s.chip.untouched) ∧
    (∀ g, s.chip.par 0x5041 1 1 ≠ 0 → s.chip.paired = true → s.chip.linkReady = true → s.chip.twin.suspended = false →
      s.chip.auditGrans.find? (fun g => decide (s.chip.twin.auditPos ≤ g)) = some g → Completes .mirrorAuditStart s fun c =>
        c.twin.auditPos = g + 1 ∧
        (s.chip.granDirty g = false → g ∉ s.chip.med.stale → c.twin.audit = some { gran := g, tag := s.chip.twin.nextTag } ∧
          s.chip.told c (.auditReq g) 0 s.chip.twin.nextTag) ∧
        (s.chip.granDirty g = true ∨ g ∈ s.chip.med.stale → c.twin.audit = s.chip.twin.audit ∧ c.outs = s.chip.outs) ∧
        s.chip.keepsBut [.med, .twin, .ring, .outs] c) ∧
    (∀ hdr gran, s.chip.hearsReq hdr → Completes (.auditReq hdr gran) s fun c =>
      (s.chip.granDirty gran = false → s.chip.told c (.auditSum (s.chip.granDigest gran)) 0 hdr.tag) ∧
      (s.chip.granDirty gran = true → c.outs = s.chip.outs) ∧ s.chip.keepsBut [.med, .ring, .outs] c) ∧
    ∀ hdr digest, s.chip.linkReady = true →
      (s.chip.twin.audit = none → Completes (.auditSum hdr digest) s fun c => s.chip.keepsBut [.ring] c) ∧
      ∀ a, s.chip.twin.audit = some a →
        (a.tag ≠ hdr.tag → Completes (.auditSum hdr digest) s fun c => s.chip.keepsBut [.ring] c) ∧
        (a.tag = hdr.tag → s.chip.granDirty a.gran = true ∨ digest = s.chip.granDigest a.gran → Completes (.auditSum hdr digest) s fun c =>
          c.twin = { s.chip.twin with audit := none } ∧ s.chip.keepsBut [.twin, .ring] c) ∧
        (a.tag = hdr.tag → s.chip.granDirty a.gran = false → digest ≠ s.chip.granDigest a.gran → Completes (.auditSum hdr digest) s fun c =>
          c.twin.audit = none ∧ a.gran ∈ c.med.stale ∧ c.vol 0x5041 3 = s.chip.vol 0x5041 3 + 1 ∧
          s.chip.keepsBut [.heads, .med, .dolly, .twin, .ledger, .ring, .outs] c))

/-- Every row that writes a dictionary entry is answered with the outcome of the write. For a requester on the
ring, at a mailbox or at the control window whose write is carried out at once: an absent entry is refused
with NO_SUCH_ENTRY; a write that its entry's checks refuse (level, length, locked bits, range, state) is
refused with that code and changes nothing but the access; any other has exactly the effect of the entry's
write, and the requester is told that it is done, or the code of its action. An accepted CRYPTO_ERASE is
answered later. (13 R365, 13 R368, 13 R358, 13 R361, 13 R375, 03 R91, 12 R327, 13 Table 13-8.) -/
def Obligations.DictionaryWriteRows : Prop :=
  ∀ (s : State) (i : Instr) (a : Access) (index sub : Nat) (bytes : List Byte) (ok : Bool),
    asWrite i = some (a, index, sub, bytes, ok) → s.chip.asks a index sub bytes →
    match s.chip.entry index sub with
    | none => Completes i s fun c => s.chip.turnedAway c a index sub abNoEntry
    | some r =>
      let e := s.chip.writeFault a r sub bytes
      let x := (s.chip.useContext a.req).applyWrite (knownAccess a) r sub bytes (signedFor a ok)
      (e ≠ 0 → Completes i s fun c => s.chip.turnedAway c a index sub e) ∧
      (e = 0 → Completes i s fun c =>
        (x.1 ≠ 0 → s.chip.denied c a index sub x.1) ∧ (x.1 = 0 → index ≠ 0x8011 → s.chip.granted c a index sub) ∧
        x.2.keepsBut [.heads, .ring, .outs] c)

/-- The actions on HBM, medium, placement and pair. WAYS_SCRATCH and WAYS_PIN store the value and start the way
change, or conflict. RETIRE_CMD fails a spare or starts a retirement where a spare stands by. MED_REMOVE and
SG_INIT set the module REMOVING or the group INITIALISING where it may be. EVAC_CMD starts an evacuation that
fits; EVAC_STOP stops one. HANDOVER_CMD begins a handover where one may run. PAIR_REPLACE keeps the serial.
REHEARSE_CMD starts a rehearsal, or it waits. HEAD_DC_REGIONS withdraws offers and starts releases. OBJ_CMD
runs the entry for its requester. Elsewhere each is refused with STATE_CONFLICT. (04 R130, 05 R154, 06 R180,
06 R190, 08 R243, 09 R246, 09 R267, 09 R272, 03 R85, 02 R63, 13 R370.) -/
def Obligations.PlacementActions : Prop :=
  ∀ (s : State) (a : Access) (v : BitVec 8),
    (s.chip.ledger.failed = false →
      Acts (.waysScratch a v) s a 0x3000 2 [v] (s.chip.wayConflict v.toNat (s.chip.par 0x3000 3 0) = false) abConflict (fun c =>
        c.par 0x3000 2 0 = v.toNat ∧ c.cache.wayChange = some { scratch := v.toNat, pin := s.chip.par 0x3000 3 0 } ∧ c.cache.frames = s.chip.cache.frames ∧ c.cache.lines = s.chip.cache.lines ∧
        (s.chip.cache.squall = 0 → c.cache.squall = 0 → c.cache = { s.chip.cache with wayChange := c.cache.wayChange }) ∧ s.chip.only c [.cache, .dolly, .ledger, .boot]) ∧
      Acts (.waysPin a v) s a 0x3000 3 [v] (s.chip.wayConflict (s.chip.par 0x3000 2 0) v.toNat = false) abConflict (fun c =>
        c.par 0x3000 3 0 = v.toNat ∧ c.cache.wayChange = some { scratch := s.chip.par 0x3000 2 0, pin := v.toNat } ∧ c.cache.frames = s.chip.cache.frames ∧ c.cache.lines = s.chip.cache.lines ∧
        (s.chip.cache.squall = 0 → c.cache.squall = 0 → c.cache = { s.chip.cache with wayChange := c.cache.wayChange }) ∧ s.chip.only c [.cache, .dolly, .ledger, .boot]) ∧
      ∀ h : HeadNo, Acts (.headDcRegions a h v) s a 0x1401 (h.val + 1) [v] True abConflict fun c =>
        c.dcRegions h = v.toNat ∧ (c.head h).hostReleased = 0 ∧ (c.head h).offered &&& ~~~ v = 0 ∧ (c.head h).accepted = (s.chip.head h).accepted ∧
        (c.head h).releasing = (s.chip.head h).releasing ||| ((s.chip.head h).accepted &&& ~~~ v) ∧
        (∀ k, k ≠ h → (c.head k).offered = (s.chip.head k).offered ∧ (c.head k).releasing = (s.chip.head k).releasing) ∧
        s.chip.only c [.ledger, .boot]) ∧
    (∀ p : PcNo, v = BitVec.ofNat 8 p.val →
      Acts (.retireCmd a v) s a 0x3813 1 [v]
        (s.chip.hbm.pcs.get p = .spare ∨ (s.chip.hbm.pcs.get p = .inService ∧ s.chip.hbm.retire = none ∧ s.chip.sparePc.isSome = true)) abConflict fun c =>
        (s.chip.hbm.pcs.get p = .spare → c.hbm.pcs.get p = .spareFailed ∧ c.hbm.retire = s.chip.hbm.retire) ∧
        (s.chip.hbm.pcs.get p = .inService → c.hbm.pcs.get p = .retiring ∧
          c.hbm.retire = some { pc := p.val, index := (s.chip.hbm.index.get p).getD 15, trigger := 5, fencedAt := s.chip.now }) ∧
        (∀ k, k ≠ p → c.hbm.pcs.get k = s.chip.hbm.pcs.get k) ∧ s.chip.only c [.hbm, .cache, .ledger]) ∧
    (16 ≤ v.toNat → s.chip.writes a 0x3813 1 [v] → Completes (.retireCmd a v) s fun c => s.chip.turnedAway c a 0x3813 1 abRange) ∧
    (v.toNat < 9 * s.chip.id.part.groups →
      Acts (.medRemove a v) s a 0x4004 1 [v] (s.chip.removable v.toNat = true) abConflict (fun c =>
        (c.chan v.toNat).state = .removing ∧ c.med.removeState = 1 ∧ s.chip.only c [.med, .cache, .integ, .ledger]) [.med] fun c =>
          (c.chan v.toNat).state = (s.chip.chan v.toNat).state ∧ (c.chan v.toNat).refuseBlink = true ∧ c.med.removeState = 3) ∧
    (v.toNat < s.chip.id.part.groups →
      Acts (.sgInit a v) s a 0x4013 1 [v] ((s.chip.group v.toNat).state = .empty ∨ (s.chip.group v.toNat).state = .failed) abConflict fun c =>
        (c.group v.toNat).state = .initialising ∧ (c.group v.toNat).cursor = 0 ∧ (c.group v.toNat).missing = none ∧
        (∀ p ∈ c.med.lines, keyGroup p.1 ≠ v.toNat) ∧ c.med.slots = s.chip.med.slots ∧
        (∃ o ∈ c.cache.wb, o.group = v.toNat ∧ o.stripe = 0 ∧ o.cause = .initialisation) ∧ s.chip.only c [.cache, .med, .integ]) ∧
    Acts (.handoverCmd a v) s a 0x5030 1 [v] (s.chip.handoverReady = true) abConflict (fun c =>
      c.twin = { s.chip.twin with hand := .begun, handState := 1, handBack := false } ∧
      (s.chip.linkReady = true → s.chip.told c .handoverBegin) ∧ s.chip.only c [.twin]) [.twin] (fun c =>
        c.twin = { s.chip.twin with handState := if s.chip.twin.hand = .idle then 3 else s.chip.twin.handState }) ∧
    Acts (.rehearseCmd a v) s a 0x5040 1 [v] True abConflict (fun c =>
      (s.chip.wit.drill = true → c.wit = s.chip.wit) ∧
      (s.chip.wit.drill = false → s.chip.rehearsalWaits = true → c.wit = { s.chip.wit with rehearsalDue := true }) ∧
      (s.chip.wit.drill = false → s.chip.rehearsalWaits = false → c.wit.drill = true ∧ c.wit.rehearsalDue = false ∧
        (s.chip.seqSpent = false → ∃ f, Output.witness f ∈ s.chip.sent c ∧ f.type = 4 ∧ f.drill = true ∧ f.chip = s.chip.id.serial ∧ f.peer = s.chip.twin.twinSerial)) ∧
      s.chip.only c [.wit, .ledger]) ∧
    (∀ w : BitVec 64, s.chip.twin.peerHello = none → Acts (.pairReplace a w) s a 0x5000 6 (toBytes 8 w.toNat) True abConflict fun c =>
      c.twin = { s.chip.twin with replace := w } ∧ s.chip.only c [.twin]) ∧
    (∀ w : BitVec 32, ∀ i : Instr, i = .evacCmd a w ∨ i = .evacStop a w →
      let src := w.toNat % 256
      let own := (List.range 4).filter fun g => bit (w.toNat / 256) g
      let other := (List.range 4).filter fun g => bit (w.toNat / 256) (4 + g)
      let occupied := (s.chip.med.slots.filter fun p => decide (p.2.group = src)).map Prod.fst
      let fits := s.chip.dolly.evac = none ∧ src ∈ s.chip.groupNos ∧ src ∉ own ∧
        (∀ g ∈ own, g ∈ s.chip.groupNos ∧ ((s.chip.group g).state = .healthy ∨ (s.chip.group g).state = .degraded ∨ (s.chip.group g).state = .rebuilding)) ∧
        (∀ g ∈ other, g ∈ s.chip.groupNos ∧ s.chip.med.peerRoom.getD g 0 ≠ 0) ∧ (other ≠ [] → s.chip.paired = true) ∧
        occupied.length ≤ (own.map s.chip.freeGranules).sum + (other.map s.chip.peerFree).sum
      (bit w.toNat 16 = false → occupied ≠ [] → Acts i s a 0x2041 1 (toBytes 4 w.toNat) fits abConflict (fun c =>
        c.dolly.evac = some { src := src, mask := BitVec.ofNat 8 (w.toNat / 256 % 256), total := occupied.length, left := occupied } ∧
        c.dolly.evacState = 1 ∧ (c.group src).evacuating = true ∧ s.chip.only c [.med, .dolly]) [.dolly] fun c =>
          s.chip.dolly.evac = none → c.dolly.evacState = 3) ∧
      (bit w.toNat 16 = true → Acts i s a 0x2041 1 (toBytes 4 w.toNat) (s.chip.dolly.evac.isSome = true) abConflict fun c =>
        (∀ e, s.chip.dolly.evac = some e →
          (s.chip.dolly.opened.any (fun o => decide (o.cmd = none ∧ o.src.group = e.src ∧ o.kind ≠ .mirrorBuild)) = true →
            c.dolly.evac = some { e with stopping := true }) ∧
          (s.chip.dolly.opened.any (fun o => decide (o.cmd = none ∧ o.src.group = e.src ∧ o.kind ≠ .mirrorBuild)) = false →
            c.dolly.evac = none ∧ c.dolly.evacState = 4)) ∧ s.chip.only c [.med, .dolly])) ∧
    ∀ entry : CmdEntry, s.chip.writes a 0x2070 1 (entryBytes entry) →
      let id := s.chip.obj.nextCmd
      let busy := s.chip.obj.dictRes.any fun x => decide (x.req = a.req ∧ x.entry = 0x2070 ∧ x.result = none)
      let scrub := ([0x02, 0x05, 0x15].contains (opcodeOf entry) && bit (flagsOf entry) 0) = true ∧ s.chip.levelOf a < 2
      let started (c : Chip) : Prop := s.chip.granted c a 0x2070 1 ∧ { req := a.req, entry := 0x2070, cmd := id } ∈ c.obj.dictRes ∧
        c.obj.table = s.chip.obj.table ∧ s.chip.only c []
      (busy = true → Completes (.objCmd a entry) s fun c => s.chip.turnedAway c a 0x2070 1 abConflict) ∧
      (busy = false → s.chip.cmd id = none →
        (scrub → Completes (.objCmd a entry) s fun c => c.answered id (.dict a.req) entry stDenied ∧ started c) ∧
        ∀ o, opcodeOf entry = 0x04 → bit (flagsOf entry) 0 = false → s.chip.admits (.dict a.req) entry →
          s.chip.obj.table.find (objOf entry) = some o → (bit (flagsOf entry) 31 = true → o.userTag = BitVec.ofNat 32 (fieldAt entry 56 4)) →
          Completes (.objCmd a entry) s fun c =>
            c.answered id (.dict a.req) entry stOk 0 (s.chip.queryValues (objOf entry) o) ∧ started c)

/-- The actions on rails, reserve, wrap and ledger. SEQ_GROUP_ON raises every rail that its group's reaction
switched off. SQ_CONFIG is stored, its CHIP_RAIL bit as before, and takes effect at once on SQ00 to SQ07 and
for thresholds. PROBE_CMD starts a probe where one may start; WRAP_CMD starts a wrap of cause 8 in ON with no
wrap running. REFRESH_CMD starts a refresh pass at page 0. RAW_WRITE writes its bytes within their page of the
die, and no other byte, where level and area permit; USER_PASSWORD, USER_LOCK and USER_UNLOCK set, lock and
unlock an area, eight wrong passwords refusing every further unlock; COUNTER_INC writes the counter's next
entry. RAW_READ, RTV_CHALLENGE, EVENT_RECORD and STORE_EXPORT give their bytes. (10 R276, 10 R294, 10 R298, 10
Table 10-4, 11 R307, 11 R315, 11 R316, 11 R318, 12 R346, 14 R383, 15 R395.) -/
def Obligations.PowerAndLedgerActions : Prop :=
  ∀ (s : State) (a : Access) (v : BitVec 8),
    Acts (.seqGroupOn a v) s a 0x6004 4 [v] True abConflict (fun c =>
      (∀ n : RailNo, c.rail n = if n ∈ s.chip.groupRails v.toNat ∧ (s.chip.rail n).state = .offByGroup then (s.chip.rail n).raise else s.chip.rail n) ∧
      c.pwr = { s.chip.pwr with rails := c.pwr.rails } ∧ s.chip.only c [.pwr]) ∧
    (∀ (n : RailNo) (x : BitVec 256), s.chip.ledger.failed = false →
      let x' := BitVec.ofNat 256 (x.toNat - bits x.toNat 51 51 * 2 ^ 51 + bits (s.chip.par 0x6001 (n.val + 1) (sqDefault n.val)) 51 51 * 2 ^ 51)
      Acts (.sqConfig a n x) s a 0x6001 (n.val + 1) (toBytes 32 x.toNat) (s.chip.sqCheck n x'.toNat = 0) abRange fun c =>
        c.sqStored n = x' ∧
        (let m := BitVec.ofNat 256 sqMarkMask
         c.rail n = if n.val < 8 then { s.chip.rail n with cfg := x' }
          else if (s.chip.sqStored n ^^^ x') &&& ~~~ m = 0 then { s.chip.rail n with cfg := ((s.chip.rail n).cfg &&& ~~~ m) ||| (x' &&& m) }
          else s.chip.rail n) ∧
        (∀ k, k ≠ n → c.rail k = s.chip.rail k) ∧ s.chip.only c [.pwr, .ledger, .boot]) ∧
    Acts (.probeCmd a v) s a 0x6012 4 [v] (s.chip.wrapping = false) abConflict (fun c =>
      (s.chip.res.probe = 0 → s.chip.pwr.state = .on → s.chip.probeLoad ≠ 0 →
        c.res = { s.chip.res with probe := 1, probeV0 := s.chip.res.bankMv, probeBudget := budgetOf s.chip.id.part (s.chip.usableAt (s.chip.res.bankMv * (100 - s.chip.par 0x6012 2 2))) }) ∧
      (¬ (s.chip.res.probe = 0 ∧ s.chip.pwr.state = .on ∧ s.chip.probeLoad ≠ 0) → c.res = s.chip.res) ∧ s.chip.only c [.res]) ∧
    (∀ p ∈ [(Instr.wrapAndStayOff a, 1), (Instr.wrapAndPowerUp a, 2)],
      Acts p.1 s a 0x6020 2 [BitVec.ofNat 8 p.2] (s.chip.pwr.state = .on ∧ s.chip.wrapping = false ∧ s.chip.boot.mainOut = true) abConflict fun c =>
        c.wrap.state = 1 ∧ c.wrap.cause = 8 ∧ c.wrap.stay = p.2 ∧ c.pwr.state = .wrap ∧ c.res.frozen = true ∧
        ∀ h ∈ s.chip.presentHeads, (c.head h).link = .disabled) ∧
    Acts (.refreshCmd a v) s a 0x7040 5 [v] (s.chip.ledger.failed = false) abHardware (fun c =>
      c.ledger = { s.chip.ledger with refreshRun := true, refreshPage := 0, refreshStart := s.chip.stamp.toNat, refreshMinute := s.chip.med.minute } ∧
      s.chip.only c [.ledger]) ∧
    (∀ x : BitVec 2048, s.chip.ledger.failed = false → s.chip.storesWf →
      let addr := s.chip.sel a.req 0x7010 1
      let n := min 256 (s.chip.sel a.req 0x7010 3 256)
      let page := addr / 256 * 256
      Acts (.rawWrite a x) s a 0x7010 4 (toBytes 256 x.toNat)
        (partsIn addr 1 ≠ [] ∧ (∀ p ∈ partsIn addr 1, p.2.2.2 ≤ s.chip.levelOf a) ∧ s.chip.areaLocked page 256 = false) abAccessDenied fun c =>
        (∀ i, i < n → c.ledger.cells.byte (page + (addr % 256 + i) % 256) = (toBytes 256 x.toNat).getD i 0) ∧
        (∀ b, (∀ i, i < n → b ≠ page + (addr % 256 + i) % 256) → c.ledger.cells.byte b = s.chip.ledger.cells.byte b) ∧ s.chip.only c [.ledger]) ∧
    (∀ (k : Fin 4) (w : BitVec 64), Acts (.userPassword a k w) s a 0x7020 (k.val + 1) (toBytes 8 w.toNat) (s.chip.ledger.failed = false) abHardware fun c =>
      c.ledger = { s.chip.ledger with passwords := s.chip.ledger.passwords.set k.val (if w = 0 then none else some w) k.isLt } ∧ s.chip.only c [.ledger]) ∧
    (∀ k : Fin 4, v = BitVec.ofNat 8 k.val → Acts (.userLock a v) s a 0x7020 6 [v] True abRange fun c =>
      c.ledger = { s.chip.ledger with unlocked := s.chip.ledger.unlocked &&& ~~~ (1#4 <<< k.val) } ∧ s.chip.only c [.ledger]) ∧
    (∀ (k : Fin 4) (pw : BitVec 64) (x : BitVec 96), x.toNat = k.val + 2 ^ 32 * pw.toNat → s.chip.writes a 0x7020 5 (toBytes 12 x.toNat) →
      (8 ≤ s.chip.vol 0x7020 7 → Completes (.userUnlock a x) s fun c => s.chip.turnedAway c a 0x7020 5 abConflict) ∧
      (s.chip.vol 0x7020 7 < 8 →
        (s.chip.ledger.passwords.get k = none → Completes (.userUnlock a x) s fun c => s.chip.granted c a 0x7020 5 ∧ s.chip.only c []) ∧
        (s.chip.ledger.passwords.get k = some pw → Completes (.userUnlock a x) s fun c =>
          s.chip.granted c a 0x7020 5 ∧ c.ledger = { s.chip.ledger with unlocked := s.chip.ledger.unlocked ||| (1#4 <<< k.val) } ∧
          c.vol 0x7020 7 = 0 ∧ s.chip.only c [.ledger]) ∧
        ∀ q, s.chip.ledger.passwords.get k = some q → q ≠ pw → Completes (.userUnlock a x) s fun c =>
          s.chip.turnedAway c a 0x7020 5 abAccessDenied ∧ c.vol 0x7020 7 = s.chip.vol 0x7020 7 + 1)) ∧
    (s.chip.ledger.failed = false → s.chip.storesWf →
      Acts (.counterInc a v) s a 0x7031 1 [v] (s.chip.counter v.toNat < counterLimit) abConflict fun c =>
        let w := counterWrite v.toNat (s.chip.counter v.toNat + 1)
        c.ledger.cells.read w.1 8 = w.2 ∧ s.chip.only c [.ledger]) ∧
    (s.chip.asksRead a →
      (s.chip.ledger.failed = false → ∀ b, s.chip.rawRead (s.chip.levelOf a) (s.chip.sel a.req 0x7010 1) = (0, b) →
        Completes (.rawRead a) s fun c => s.chip.given c a 0x7010 2 b ∧ s.chip.only c []) ∧
      (2 ≤ s.chip.levelOf a → s.chip.sec.drbgStopped = false → Completes (.rtvChallenge a) s fun c =>
        c.sec.rtvNonce = BitVec.ofNat 256 (Config.random s.chip.sec.draws) ∧
        s.chip.given c a 0x8050 1 (toBytes 8 s.chip.id.serial.toNat ++ toBytes 32 c.sec.rtvNonce.toNat) ∧ s.chip.only c [.sec]) ∧
      (∀ b, s.chip.eventRecord (s.chip.sel a.req 0xA030 1) = some b → Completes (.eventRecordRead a) s fun c =>
        s.chip.given c a 0xA030 2 b ∧ s.chip.only c []) ∧
      (2 ≤ s.chip.levelOf a → s.chip.storeExport.length ≤ 65528 → Completes (.storeExport a 0) s fun c =>
        s.chip.given c a 0x9040 4 s.chip.storeExport true ∧ s.chip.only c []))

/-- The actions on keys, dictionary defaults and firmware. CRYPTO_ERASE puts an unused tag into ERASING and is
answered later. A wrong RTV_RESPONSE draws a new nonce; a right one erases keys, passphrases, objects and
pair, and opens the device. DICT_DEFAULTS returns every Operator entry to its default. BAROMETER_SEEN clears
the bits written of flags that are not set. UPD_BLOCK stores its bytes in order; UPD_END ends or abandons the
transfer. FW_ACTIVATE makes a verified slot PENDING, FW_CONFIRM confirms an image in probation, FW_REVERT asks
for a fall-back, RECOVERY_CMD for recovery mode. STORE_IMPORT and STORE_RESTORE take the entries that exist
here; these three are refused where they change locked ways that may not change. Where they may not, they are
refused. (12 R327, 12 R346, 12 R347, 13 R367, 14 R382, 15 R390, 15 R395, 15 R398, 15 R399, 15 R400.) -/
def Obligations.SecurityAndUpdateActions : Prop :=
  ∀ (s : State) (a : Access) (v : BitVec 8),
    (∀ t : Tag, s.chip.ledger.failed = false → s.chip.writes a 0x8011 1 [t] →
      (s.chip.tagInUse t = false → s.chip.mayErase = true → s.chip.sec.eraseTag = none → Completes (.cryptoErase a t) s fun c =>
        c.tagState t = .erasing ∧ c.sec.eraseTag = some t ∧ c.sec.erasePeer = false ∧ c.sec.eraseReq = some (knownAccess a) ∧
        (s.chip.paired = true → s.chip.linkReady = true → s.chip.told c (.tableUpdate (.eraseKey t))) ∧ s.chip.only c [.sec]) ∧
      (s.chip.tagInUse t = true ∨ s.chip.mayErase = false ∨ s.chip.sec.eraseTag.isSome = true → Completes (.cryptoErase a t) s fun c =>
        s.chip.turnedAway c a 0x8011 1 abConflict [.sec] ∧ c.sec.tags = s.chip.sec.tags ∧ c.sec.eraseTag = s.chip.sec.eraseTag)) ∧
    Acts (.rtvResponse a false) s a 0x8050 2 (List.replicate 64 0) False abAccessDenied (fun _ => True) [.sec] (fun c =>
      c.sec = { s.chip.sec with rtvNonce := BitVec.ofNat 256 (Config.random s.chip.sec.draws), draws := c.sec.draws, sinceSeed := c.sec.sinceSeed }) ∧
    Acts (.rtvResponse a true) s a 0x8050 2 (List.replicate 64 0) True abAccessDenied (fun c =>
      c.sec.rtvState = 2 ∧ c.sec.jtagOpen = true ∧ c.sec.tags = [] ∧ c.sec.durableTags = [] ∧ c.sec.userPass = none ∧ c.sec.masterPass = none ∧
      c.sec.slots = 0 ∧ (∀ k, c.ledger.passwords.get k = none) ∧
      c.obj.table = [] ∧ c.twin.twinSerial = 0 ∧ c.ring.keyOp = none ∧ c.ring.keyCust = none) ∧
    (s.chip.ledger.failed = false →
      Acts (.dictDefaults a v) s a 0x1140 1 [v]
        (s.chip.inService = false ∨ (s.chip.par 0x3000 2 0 = 0 ∧ s.chip.par 0x3000 3 0 = 0) ∨ s.chip.wayConflict 0 0 = false) abConflict fun c =>
        (∀ k r, dictRow (k / 256) (k % 256) = some r →
          (r.level = 1 → c.ring.stored.find k = none) ∧ (r.level ≠ 1 → c.ring.stored.find k = s.chip.ring.stored.find k)) ∧
        (s.chip.inService = true → ¬ (s.chip.par 0x3000 2 0 = 0 ∧ s.chip.par 0x3000 3 0 = 0) → c.cache.wayChange = some { scratch := 0, pin := 0 }) ∧
        s.chip.only c storeGrps) ∧
    (∀ w : BitVec 64, Acts (.barometerSeen a w) s a 0xA000 2 (toBytes 8 w.toNat) True abConflict fun c =>
      c.boot.seen = (s.chip.boot.seen &&& ~~~ (w &&& ~~~ s.chip.boot.barometer)) ||| c.flags ∧ c.boot = { s.chip.boot with seen := c.boot.seen } ∧
      s.chip.only c [.boot]) ∧
    (∀ (data : List Byte) (sigOk slot : Bool), s.chip.writes a 0x9010 2 data → s.chip.ledger.failed = false → s.chip.storesWf →
      s.chip.sel a.req 0x9010 1 0xFF = boolNat slot →
      let off := ofBytes (data.take 4)
      let len := ofBytes ((data.drop 4).take 4)
      let body := ((data.drop 16).take 4096).take len
      let started := if s.chip.boot.upload.isSome then s.chip else s.chip.beginUpload slot .dict
      let u : Upload := { slot := slot, via := .dict, next := off }
      (len = 0 ∨ 4096 < len ∨ off % 4096 ≠ 0 ∨ crc32 body ≠ ofBytes ((data.drop 8).take 4) → Completes (.updBlock a data sigOk) s fun c =>
        s.chip.turnedAway c a 0x9010 2 abRange) ∧
      (0 < len → len ≤ 4096 → off % 4096 = 0 → crc32 body = ofBytes ((data.drop 8).take 4) →
        s.chip.boot.upload = some u ∨ (s.chip.boot.upload = none ∧ off = 0 ∧ s.chip.slotRefused slot = false) →
        (started.loadPiece u body sigOk).1 = 0 → Completes (.updBlock a data sigOk) s fun c =>
          s.chip.granted c a 0x9010 2 ∧ c.boot.upload = some { u with next := off + len } ∧
          c.ledger.cells.read (slotBase slot + off) len = body ∧ s.chip.only c [.ledger, .boot])) ∧
    (∀ sigOk : Bool,
      Acts (.updEndVerify a sigOk) s a 0x9010 3 [1] (∃ u, s.chip.boot.upload = some u ∧ u.via = .dict ∧ s.chip.imageFault u.slot (signedFor a sigOk) = 0) abConflict (fun c =>
        ∀ u, s.chip.boot.upload = some u → c.boot.upload = none ∧ c.boot.updState = 3 ∧ c.boot.updError = 0 ∧
          c.imageOf u.slot = s.chip.headerImage u.slot ∧ c.imageOf (!u.slot) = s.chip.imageOf (!u.slot) ∧ s.chip.only c [.boot]) [.boot] fun c =>
            ∀ u, s.chip.boot.upload = some u → u.via = .dict → c.boot.upload = none ∧ c.boot.updState = 4 ∧
              c.boot.updError = s.chip.imageFault u.slot (signedFor a sigOk) ∧ c.boot.images = s.chip.boot.images) ∧
    Acts (.updAbandon a) s a 0x9010 3 [2] (∃ u, s.chip.boot.upload = some u ∧ u.via = .dict) abConflict (fun c =>
      c.boot.upload = none ∧ c.boot.updState = 0 ∧ c.boot.images = s.chip.boot.images ∧ s.chip.only c [.boot]) ∧
    (s.chip.ledger.failed = false →
      (∀ slot : Bool, v = BitVec.ofNat 8 (boolNat slot) → Acts (.fwActivate a v) s a 0x9030 1 [v] (s.chip.activateFault (boolNat slot) = 0) abConflict fun c =>
        c.boot.record = { s.chip.boot.record with previous := some s.chip.boot.record.active, active := slot, state := .pending, activated := s.chip.stamp.toNat } ∧
        s.chip.only c [.ledger, .boot]) ∧
      Acts (.fwConfirm a v) s a 0x9000 6 [v] (s.chip.inService = true ∧ s.chip.boot.record.state = .probation) abConflict (fun c =>
        c.boot.record = { s.chip.boot.record with state := .confirmed, previous := none, oldRegion := none, unclean := false, fellBack := false } ∧
        s.chip.only c [.ledger, .boot]) ∧
      (∀ data : List Byte, 32 ≤ data.length → ∀ f es, storeParse data = some (f, es) →
        let onto (m : SMap Nat) : SMap Nat := (es.filter s.chip.takesEntry).foldl (fun (m : SMap Nat) e => m.put e.1 e.2.2.2) m
        let reads := s.chip.image.formatMin ≤ f ∧ f ≤ s.chip.image.format
        (s.chip.waysFit (onto s.chip.ring.stored) → Acts (.storeImport a data) s a 0x9040 3 data (f = 3 ∨ f = 4) abRange (fun c =>
          c.ring.stored = onto s.chip.ring.stored ∧ c.vol 0x9040 7 = es.countP (fun e => !s.chip.takesEntry e) ∧ s.chip.only c storeGrps)) ∧
        (¬ s.chip.waysFit (onto s.chip.ring.stored) → f = 3 ∨ f = 4 → Acts (.storeImport a data) s a 0x9040 3 data False abConflict fun _ => True) ∧
        (s.chip.waysFit (onto []) → Acts (.storeRestore a data) s a 0x9040 5 data reads abRange (fun c =>
          c.ring.stored = onto [] ∧ c.boot.storeDefaults = false ∧ s.chip.only c storeGrps)) ∧
        (¬ s.chip.waysFit (onto []) → reads → Acts (.storeRestore a data) s a 0x9040 5 data False abConflict fun _ => True))) ∧
    Acts (.fwRevert a v) s a 0x9000 7 [v] (s.chip.boot.record.previous.isSome = true) abConflict (fun c =>
      c.boot.revert = true ∧ c.boot.record = s.chip.boot.record ∧ s.chip.only c [.boot]) ∧
    Acts (.recoveryCmd a v) s a 0x9050 1 [v] (s.chip.ledger.failed = false) abHardware fun c =>
      c.boot.record = { s.chip.boot.record with recovery := true } ∧ s.chip.only c [.ledger, .boot]

/-- Cores, isolation of heads, built-in tests and the barometer. A core that runs and stops is RESTARTING;
restarted, it runs again, MG without open transfers, remembered outcomes or results; a restart that fails
short of the third time leaves it. CORE_RETIRE retires a core where the rest suffices and records it.
HEAD_ISOLATE disables another head's link or releases it. A test starts for its requester where its column of
Table 16-3 permits and none runs; its end writes the verdict, and a failed spare, core or member has its
consequence. BAROMETER follows its conditions. (01 R17, 01 Table 01-3, 13 R360, 14 R381, 14 R382, 16 R407, 16
R408, 16 R409, 16 R411, 16 R412.) -/
def Obligations.CoresAndTests : Prop :=
  ∀ (s : State) (a : Access) (k : CoreNo),
    CompletesIf (.coreStopped k) s (s.chip.coreRuns k = true) (fun c =>
      c.cores.get k = .restarting ∧ (8 ≤ k.val → (∀ j, j ≠ k → c.cores.get j = s.chip.cores.get j) ∧ s.chip.keepsBut [.cache, .cores] c) ∧
      s.chip.keepsBut [.obj, .cache, .dolly, .cores] c) ∧
    CompletesIf (.coreRestarted k true) s (s.chip.cores.get k = .restarting) (fun c =>
      c.coreRuns k = true ∧ c.boot.coreRestarted = true ∧
      (k.val = 10 → c.ring.transfers = [] ∧ c.ring.closed = [] ∧ c.obj.dictRes = [] ∧ c.ring.contexts = s.chip.ring.contexts) ∧
      (k.val ≠ 10 → s.chip.keepsBut [.cache, .cores, .boot] c) ∧ s.chip.keepsBut [.obj, .cache, .cores, .ring, .boot] c) ∧
    (((s.chip.boot.coreFails.getD k.val []).filter (fun t => decide (s.chip.now < t + 86400000000000))).length < 2 →
      CompletesIf (.coreRestarted k false) s (s.chip.cores.get k = .restarting) fun c =>
        c.boot.coreFails.find k.val = some (s.chip.now :: (s.chip.boot.coreFails.getD k.val []).filter (fun t => decide (s.chip.now < t + 86400000000000))) ∧
        s.chip.keepsBut [.boot] c) ∧
    Acts (.coreRetire a (BitVec.ofNat 8 k.val)) s a 0xA110 1 [BitVec.ofNat 8 k.val] (s.chip.retireDenied k = false) abConflict (fun c =>
      c.cores.get k = .retired ∧
      (s.chip.cores.get k ≠ .retired → s.chip.ledger.failed = false → c.par 0xA110 2 0 = s.chip.par 0xA110 2 0 ||| 2 ^ k.val) ∧
      s.chip.only c [.cache, .dolly, .cores, .ledger, .boot]) ∧
    (∀ (h : HeadNo) (v : BitVec 8), Acts (.headIsolate a h v) s a 0xA120 (h.val + 1) [v] (a.req ≠ .mailbox h ∧ a.req ≠ .window h) abConflict fun c =>
      c.vol 0xA120 (h.val + 1) = v.toNat ∧
      (v = 1 → s.chip.isolated h = false → (c.head h).link = .disabled) ∧ (v = 1 → s.chip.isolated h = true → c.head h = s.chip.head h) ∧
      (v = 0 → s.chip.isolated h = true → (s.chip.setVol 0xA120 (h.val + 1) 0).mayTrain h = true →
        (c.head h).link = if (s.chip.head h).perst then .detect else .training) ∧
      (v = 0 → s.chip.isolated h = false → c.head h = s.chip.head h) ∧ ∀ j, j ≠ h → (c.head j).link = (s.chip.head j).link) ∧
    (∀ (t : BitVec 8) (p : Instr × BitVec 8 × BitVec 8),
      p ∈ [(Instr.bistHbmSpare a, 1, 0), (.bistHbmPatrol a, 2, 0), (.bistGmiRetrain a t, 3, t), (.bistParityCheck a t, 4, t), (.bistCipherKat a t, 5, t),
        (.bistSealKat a, 6, 0), (.bistCoreSelftest a t, 7, t), (.bistPhyLoopback a t, 8, t)] →
      let test := p.2.1.toNat
      let target := p.2.2.toNat
      let bytes := [p.2.1, p.2.2, 0, 0]
      (s.chip.bistTarget test target = false → Acts p.1 s a 0xA100 1 bytes False abRange fun _ => True) ∧
      (s.chip.bistTarget test target = true →
        Acts p.1 s a 0xA100 1 bytes
          (s.chip.boot.bist = none ∧ ¬ (1 ≤ s.chip.wrap.state ∧ s.chip.wrap.state ≤ 4) ∧ s.chip.bistDenied test target = false ∧
            ∀ x ∈ s.chip.obj.dictRes, x.req = a.req → x.entry = 0xA100 → x.result ≠ none) abConflict fun c =>
          c.boot.bist = some { test := test, target := target, req := a.req, startedAt := s.chip.clk.ticks } ∧
          { req := a.req, entry := 0xA100 } ∈ c.obj.dictRes ∧
          (test = 3 → (s.chip.chan target).retraining = false → (c.chan target).retraining = true ∧ (c.group (target / 9)).state = .retraining) ∧
          (∀ j : CoreNo, test = 7 → target = j.val → c.cores.get j = .restarting) ∧ s.chip.only c [.cache, .med, .dolly, .cores, .boot])) ∧
    (∀ (verdict : Bool) (errors detail : BitVec 32), match s.chip.boot.bist with
      | none => Completes (.bistDone verdict errors detail) s s.chip.untouched
      | some b => ¬ (verdict = true ∧ b.test = 3 ∧ (s.chip.chan b.target).retraining = true) → (b.test = 7 → b.target < 10) → s.chip.wit.rehearsalDue = false →
        Completes (.bistDone verdict errors detail) s fun c =>
          c.boot.bist = none ∧
          (∀ x ∈ s.chip.obj.dictRes, x.req = b.req → x.entry = 0xA100 → x.result = none → ∃ y ∈ c.obj.dictRes, y.req = b.req ∧ y.entry = 0xA100 ∧
            ∃ r, y.result = some r ∧ r.take 3 = [BitVec.ofNat 8 b.test, BitVec.ofNat 8 b.target, if verdict then 0 else 1] ∧ (r.drop 8).take 8 = toBytes 4 errors.toNat ++ toBytes 4 detail.toNat) ∧
          (verdict = true → b.test ≠ 7 → s.chip.keepsBut [.obj, .ring, .boot] c) ∧
          (verdict = false → b.test = 1 → ∀ q, s.chip.sparePc = some q → c.hbm.pcs.get q = .spareFailed) ∧
          (∀ j : CoreNo, b.test = 7 → b.target = j.val → (verdict = true ∨ s.chip.retireDenied j = true → c.coreRuns j = true) ∧
            (verdict = false → s.chip.retireDenied j = false → c.cores.get j = .retired))) ∧
    CompletesIf .barometerUpdate s (s.chip.barometerNow ≠ s.chip.boot.barometer ∧ s.chip.boot.romDone = true) fun c =>
      c.boot.barometer = s.chip.barometerNow ∧
      (levelOfFlags s.chip.barometerNow = levelOfFlags s.chip.boot.barometer → c.heads = s.chip.heads) ∧
      s.chip.keepsBut [.heads, .ledger, .ring, .boot, .outs] c

/-- When a mailbox takes a command, and what its reading commands return. A mailbox command has no effect at an
absent head, with the link not up, before the main domain is out of reset or with the doorbell set; in ROM
recovery mode one that the ROM does not serve answers Unsupported; while MG is stopped it waits; out of
service all but the early ones answer Busy; a Custodian's command at a lower level answers Invalid Security
State. In service the reading commands answer Success with the values of the state and change nothing; the
unsupported ones answer Unsupported. (03 R88, 03 R89, 03 R90, 03 R94, 03 R98, 03 Table 03-6, 07 R207, 07 R216,
01 R20, 12 R343, 15 R387, 15 R396.) -/
def Obligations.MailboxReads : Prop :=
  ∀ (s : State) (h : HeadNo),
    (∀ (x v : Nat) (l : MboxLog) (op : BitVec 16) (i : Instr) (early rom custodian : Bool),
      (i, early, rom, custodian) ∈ [(Instr.identify h, true, true, false), (.backgroundOperationStatus h, false, false, false),
        (.requestAbortBackgroundOperation h, false, false, false), (.getEventRecords h x, true, false, false), (.getFwInfo h, true, true, false),
        (.getTimestamp h, false, false, false), (.getLog h l x v, false, false, false), (.getLsa h x v, false, false, false),
        (.getHealthInfo h, true, false, false), (.mailboxUnsupportedOpcode h op, true, false, false), (.sanitize h, false, false, true),
        (.secureErase h, false, false, true), (.freezeSecurityState h, false, false, true), (.activateFw h false x, true, true, true)] →
      (s.chip.id.part.heads ≤ h.val ∨ (s.chip.head h).link ≠ .up ∨ s.chip.boot.mainOut = false ∨ s.chip.doorbell h = true → Completes i s s.chip.untouched) ∧
      (h.val < s.chip.id.part.heads → (s.chip.head h).link = .up → s.chip.boot.mainOut = true → s.chip.doorbell h = false →
        (s.chip.boot.rom = true → rom = false → BoxOnly i s h .unsupported) ∧
        (s.chip.boot.rom = false → s.chip.boot.romDone = false → Completes i s s.chip.untouched) ∧
        (s.chip.boot.rom = false → s.chip.boot.romDone = true →
          (s.chip.mgRuns = false → Completes i s fun c => c.deferred = s.chip.deferred ++ [(h, i)] ∧ s.chip.keepsBut [.deferred] c) ∧
          (s.chip.mgRuns = true →
            (s.chip.inService = false → early = false → BoxOnly i s h .busy) ∧
            (s.chip.inService = true ∨ early = true → custodian = true → s.chip.mboxLevel h < 2 → BoxOnly i s h .invalidSecurityState))))) ∧
    (s.chip.boxOpen h →
      BoxOnly (.identify h) s h .success (.fields [s.chip.id.vendor.toNat, s.chip.id.device.toNat, s.chip.id.serial.toNat, 65536]) ∧
      BoxOnly (.backgroundOperationStatus h) s h .success (match (s.chip.head h).bg with
        | none => .status 0 false .success
        | some b => .status (s.chip.bgPercent b) (!b.done) (if b.done then b.code else .success)) ∧
      BoxOnly (.getResponseMessageLimit h) s h .success (.fields [(s.chip.head h).respLimit.toNat]) ∧
      BoxOnly (.requestAbortBackgroundOperation h) s h .unsupported ∧
      (∀ log : Fin 5, BoxOnly (.getEventRecords h log.val) s h .success (.events ((s.chip.head h).logs.get log).recs false ((s.chip.head h).logs.get log).overflow ((s.chip.head h).logs.get log).overCount)) ∧
      (∀ log, 5 ≤ log → BoxOnly (.getEventRecords h log) s h .invalidInput) ∧
      BoxOnly (.getEventInterruptPolicy h) s h .success (.fields ((List.range 5).map fun i => boolNat ((s.chip.head h).irqPolicy.getLsbD i))) ∧
      BoxOnly (.getFwInfo h) s h .success (.fields [2, 1 + boolNat s.chip.runSlot, if s.chip.boot.record.state = .pending then 1 + boolNat s.chip.boot.record.active else 0, 0, (s.chip.imageOf false).version.toNat, (s.chip.imageOf true).version.toNat]) ∧
      BoxOnly (.getTimestamp h) s h .success (.fields [s.chip.stamp.toNat]) ∧
      BoxOnly (.getSupportedLogs h) s h .success (.fields [2, 0, Config.effectsLog.length, 1, (Config.vendorLog s.chip.ledger.evtSeq).length]) ∧
      (∀ log off len, BoxOnly (.getLog h log off len) s h
        (match s.chip.logBytes log with | some b => if b.length < off + len ∨ 65536 < len then .invalidInput else .success | none => .invalidInput)
        (match s.chip.logBytes log with | some b => if b.length < off + len ∨ 65536 < len then .empty else .bytes ((b.drop off).take len) | none => .empty)) ∧
      BoxOnly (.identifyMemoryDevice h) s h .success (.fields [s.chip.image.version.toNat, s.chip.boot.cdatScratch * scratchWayLines * 64, 0, 131072, poisonMax]) ∧
      BoxOnly (.getPartitionInfo h) s h .success (.fields [s.chip.boot.cdatScratch * scratchWayLines * 64, 0]) ∧
      BoxOnly (.setPartitionInfo h) s h .unsupported ∧
      (∀ off len, BoxOnly (.getLsa h off len) s h (if 131072 < off + len ∨ 65536 < len then .invalidInput else if s.chip.ledger.failed || wordBad s.chip.ledger.bad (lsaBase h + off) len then .internalError else .success)
        (if 131072 < off + len ∨ 65536 < len then .empty else if s.chip.ledger.failed || wordBad s.chip.ledger.bad (lsaBase h + off) len then .empty else .bytes (s.chip.ledger.cells.read (0x400000 + 0x20000 * h.val + off) len))) ∧
      (∃ life, BoxOnly (.getHealthInfo h) s h .success (.fields [s.chip.integ.alertsSet.toNat, life, (BitVec.ofInt 16 s.chip.pwr.dieC).toNat, s.chip.counter 0, s.chip.volSum 0x3810 16, s.chip.volSum 0x4201 36]) ∧
        (∀ x ∈ s.chip.med.ch.toList, x.prsntN = false → x.module.lifeUsed ≤ life)) ∧
      BoxOnly (.getAlertConfiguration h) s h .success (.fields [s.chip.integ.alertsOn.toNat, s.chip.integ.lifeWarn, (BitVec.ofInt 16 s.chip.integ.tempWarn).toNat, s.chip.integ.ceVolWarn, s.chip.integ.cePerWarn]) ∧
      BoxOnly (.getShutdownState h) s h .success (.fields [s.chip.boot.shutdown.toNat]) ∧
      (∀ dpa len, let all := (s.chip.integ.poison.filter fun q => decide (q.line < dpa / 64 + len ∧ dpa / 64 < q.line + q.len)).map fun q => (64 * q.line, q.len, q.src)
        let at_ := (s.chip.head h).poisonAt
        let from_ := if at_.1 = dpa ∧ at_.2.1 = len then at_.2.2 else 0
        Completes (.getPoisonList h dpa len) s fun c => s.chip.boxAnswered c h .success (.poison ((all.drop from_).take poisonPage) (decide (from_ + poisonPage < all.length)) s.chip.integ.overflow s.chip.integ.overflowAt) ∧
          c.head h = { s.chip.head h with poisonAt := (c.head h).poisonAt } ∧ (∀ k, k ≠ h → c.head k = s.chip.head k) ∧ s.chip.keepsBut [.heads, .outs] c) ∧
      (∀ dpa len, ∃ ms, BoxOnly (.getScanMediaCapabilities h dpa len) s h .success (.fields [ms]) ∧
        ∀ g ∈ s.chip.groupNos, s.chip.scanBytes (dpa / 64) len g / 1000000 ≤ ms) ∧
      BoxOnly (.getScanMediaResults h) s h .success (.fields (match s.chip.integ.scan with | some x => x.found.map (64 * ·) | none => [])) ∧
      BoxOnly (.getSecurityState h) s h .success (.fields [s.chip.secState]) ∧
      BoxOnly (.getDynamicCapacityConfiguration h) s h .success (.fields ((List.range 8).flatMap fun r => [r * 2 ^ 46, 2 ^ 46, 2097152, r])) ∧
      BoxOnly (.getDynamicCapacityExtentList h) s h .success (.fields (((List.range 8).filter fun r => (s.chip.head h).accepted.getLsbD r).flatMap fun r => [r * 2 ^ 46, 2 ^ 46])) ∧
      (∀ input, BoxOnly (.getOlienoInfo h input) s h (if input = [] then .success else .invalidInput) (if input = [] then .bytes (s.chip.olienoInfo h) else .empty)) ∧
      BoxOnly (.getObjectCommandResult h []) s h
        (match (s.chip.head h).objResult with | some x => if x.result.isSome then .success else .busy | none => .invalidInput)
        (match (s.chip.head h).objResult with | some { result := some r, .. } => .bytes (entryBytes r) | _ => .empty) ∧
      ∀ op, BoxOnly (.mailboxUnsupportedOpcode h op) s h .unsupported)

/-- Mailbox commands that set or change. In service, Set Response Message Limit, Set Event Interrupt Policy, Set
Timestamp, Set Alert Configuration and Set Shutdown State set exactly their values; Clear Event Records clears
the records named, or all of a log that has overflowed; Set LSA writes its bytes of the head's area; the
answers to dynamic capacity accept the extents offered or release those accepted; Inject and Clear Poison of
an address they may not name change nothing; Scan Media starts one scan, which reads every unit of its range
outside squall mode and wrap, and ends with the marked lines once the recoveries have; a background operation
whose work has ended completes with an interrupt; dictionary and object commands of the wrong length answer
Invalid Input, others give the entry or the result. (03 R85, 03 R88, 03 R91, 03 R92, 03 R94, 03 R96, 03 R98,
01 R20, 07 R207, 07 R214, 07 R215, 07 R219.) -/
def Obligations.MailboxChanges : Prop :=
  ∀ (s : State) (h : HeadNo),
    (s.chip.boxOpen h →
      (∀ v, Completes (.setResponseMessageLimit h v) s fun c => s.chip.boxAnswered c h .success (.fields [v.toNat]) ∧
        c.head h = { s.chip.head h with respLimit := v } ∧ (∀ k, k ≠ h → c.head k = s.chip.head k) ∧ s.chip.keepsBut [.heads, .outs] c) ∧
      (∀ (log : Fin 5) (all : Bool) (handles : List Nat),
        let l := (s.chip.head h).logs.get log
        (all = true → l.overflow = false → BoxOnly (.clearEventRecords h log.val all handles) s h .invalidInput) ∧
        (all = false → (∃ x ∈ handles, ∀ r ∈ l.recs, r.handle ≠ x) → BoxOnly (.clearEventRecords h log.val all handles) s h .invalidHandle) ∧
        ((all = true ∧ l.overflow = true) ∨ (all = false ∧ ∀ x ∈ handles, ∃ r ∈ l.recs, r.handle = x) →
          Completes (.clearEventRecords h log.val all handles) s fun c => s.chip.boxAnswered c h .success ∧
            (c.head h).logs.get log = { l with recs := if all then [] else l.recs.filter (fun r => !handles.contains r.handle), overflow := false, overCount := 0 } ∧
            (∀ k : Fin 5, k ≠ log → (c.head h).logs.get k = (s.chip.head h).logs.get k) ∧ (∀ k, k ≠ h → c.head k = s.chip.head k) ∧ s.chip.keepsBut [.heads, .outs] c)) ∧
      (∀ modes : Vector (Fin 4) 5,
        ((∃ k : Fin 5, 2 ≤ (modes.get k).val) → BoxOnly (.setEventInterruptPolicy h modes) s h .invalidInput) ∧
        ((∀ k : Fin 5, (modes.get k).val < 2) → Completes (.setEventInterruptPolicy h modes) s fun c => s.chip.boxAnswered c h .success ∧
          (∀ k : Fin 5, (c.head h).irqPolicy.getLsbD k.val = decide (modes.get k = 1)) ∧ c.head h = { s.chip.head h with irqPolicy := (c.head h).irqPolicy } ∧
          (∀ k, k ≠ h → c.head k = s.chip.head k) ∧ s.chip.keepsBut [.heads, .outs] c)) ∧
      (∀ v : BitVec 64, Completes (.setTimestamp h v) s fun c => s.chip.boxAnswered c h .success ∧ c.stamp = v.toNat ∧ c.clk.ticks = s.chip.clk.ticks ∧
        (s.chip.clk.hostSet = true → c.med = s.chip.med) ∧
        (s.chip.clk.hostSet = false → ∀ t, s.chip.boot.shutdownAt = some t → c.med.minute = s.chip.med.minute + ((v.toNat - t : Int) / 60000000000).toNat) ∧
        (s.chip.paired = true → s.chip.linkReady = true → s.chip.told c (.timestamp v.toNat)) ∧ s.chip.keepsBut [.clk, .med, .ledger, .ring, .outs] c) ∧
      (∀ off data, s.chip.storesWf →
        (131072 < off + data.length ∨ 65536 < 8 + data.length → BoxOnly (.setLsa h off data) s h .invalidInput) ∧
        (off + data.length ≤ 131072 → 8 + data.length ≤ 65536 → s.chip.ledger.failed = true → BoxOnly (.setLsa h off data) s h .internalError) ∧
        (off + data.length ≤ 131072 → 8 + data.length ≤ 65536 → s.chip.ledger.failed = false → Completes (.setLsa h off data) s fun c => s.chip.boxAnswered c h .success ∧
          c.ledger.cells.read (0x400000 + 0x20000 * h.val + off) data.length = data ∧
          (∀ b, (b < 0x400000 + 0x20000 * h.val + off ∨ 0x400000 + 0x20000 * h.val + off + data.length ≤ b) → c.ledger.cells.byte b = s.chip.ledger.cells.byte b) ∧
          s.chip.keepsBut [.ledger, .ring, .outs] c)) ∧
      (∀ valid enable life temp vce pce,
        (valid.getLsbD 0 = true → 100 < life → BoxOnly (.setAlertConfiguration h valid enable life temp vce pce) s h .invalidInput) ∧
        ((valid.getLsbD 0 = true → life ≤ 100) → Completes (.setAlertConfiguration h valid enable life temp vce pce) s fun c => s.chip.boxAnswered c h .success ∧
          (∀ k, k < 5 → c.integ.alertsOn.getLsbD k = if valid.getLsbD k then enable.getLsbD k else s.chip.integ.alertsOn.getLsbD k) ∧
          c.integ.lifeWarn = (if valid.getLsbD 0 then life else s.chip.integ.lifeWarn) ∧ c.integ.tempWarn = (if valid.getLsbD 1 then temp else s.chip.integ.tempWarn) ∧
          c.integ.ceVolWarn = (if valid.getLsbD 3 then vce else s.chip.integ.ceVolWarn) ∧ c.integ.cePerWarn = (if valid.getLsbD 4 then pce else s.chip.integ.cePerWarn) ∧
          s.chip.keepsBut [.integ, .outs] c)) ∧
      (∀ v, (s.chip.ledger.failed = true → BoxOnly (.setShutdownState h v) s h .internalError) ∧
        (s.chip.ledger.failed = false → Completes (.setShutdownState h v) s fun c => s.chip.boxAnswered c h .success ∧
          c.boot = { s.chip.boot with shutdown := v, seen := c.boot.seen } ∧ c.ledger.cells = s.chip.ledger.cells ∧ s.chip.keepsBut [.boot, .ledger, .outs] c)) ∧
      (∀ m : BitVec 8,
        (m &&& ~~~ (s.chip.head h).offered ≠ 0 → BoxOnly (.addDynamicCapacityResponse h m) s h .invalidInput) ∧
        (m &&& ~~~ (s.chip.head h).offered = 0 → Completes (.addDynamicCapacityResponse h m) s fun c => s.chip.boxAnswered c h .success ∧
          c.head h = { s.chip.head h with accepted := (s.chip.head h).accepted ||| m, hostReleased := (s.chip.head h).hostReleased ||| ((s.chip.head h).offered &&& ~~~ m), offered := 0 } ∧
          (∀ k, k ≠ h → c.head k = s.chip.head k) ∧ s.chip.keepsBut [.heads, .outs] c) ∧
        (m &&& ~~~ (s.chip.head h).accepted ≠ 0 → BoxOnly (.releaseDynamicCapacity h m) s h .invalidInput) ∧
        (m &&& ~~~ (s.chip.head h).accepted = 0 → Completes (.releaseDynamicCapacity h m) s fun c => s.chip.boxAnswered c h .success ∧
          c.head h = { s.chip.head h with accepted := (s.chip.head h).accepted &&& ~~~ m, releasing := (s.chip.head h).releasing &&& ~~~ m, hostReleased := (s.chip.head h).hostReleased ||| (m &&& ~~~ (s.chip.head h).releasing) } ∧
          (∀ k, k ≠ h → c.head k = s.chip.head k) ∧ s.chip.keepsBut [.heads, .outs] c)) ∧
      (∀ (dpa : Nat) (data : Line),
        (dpa % 64 ≠ 0 ∨ twinLines ≤ dpa / 64 ∨ s.chip.objAt (dpa / 64) = none → BoxOnly (.injectPoison h dpa) s h .invalidPhysicalAddress) ∧
        (dpa % 64 ≠ 0 ∨ (dpa / 64 < scratchBase ∧ s.chip.objAt (dpa / 64) = none) ∨ scratchBase + s.chip.cache.waysScratch * scratchWayLines ≤ dpa / 64 →
          BoxOnly (.clearPoison h dpa data) s h .invalidPhysicalAddress) ∧
        (dpa % 64 = 0 → dpa / 64 < twinLines → (s.chip.objAt (dpa / 64)).isSome = true → Completes (.injectPoison h dpa) s fun c =>
          s.chip.boxAnswered c h .success ∧ c.obj.table = s.chip.obj.table ∧
          (s.chip.homeHere (lineSeg (dpa / 64)) = true → (c.poisonAt (dpa / 64)).isSome = true ∨ c.integ.overflow = true)) ∧
        (scratchBase ≤ dpa / 64 → dpa / 64 < scratchBase + s.chip.cache.waysScratch * scratchWayLines → dpa % 64 = 0 → s.chip.storesWf →
          Completes (.clearPoison h dpa data) s fun c => s.chip.boxAnswered c h .success ∧
            c.sector (scratchPlace (dpa / 64 - scratchBase)).1 (scratchPlace (dpa / 64 - scratchBase)).2 = { data := data, poison := false } ∧
            s.chip.keepsBut [.cache, .outs] c) ∧
        (dpa % 64 = 0 → dpa / 64 < scratchBase → (s.chip.objAt (dpa / 64)).isSome = true → Completes (.clearPoison h dpa data) s fun c =>
          s.chip.boxAnswered c h .success ∧ c.obj.table = s.chip.obj.table)) ∧
      (∀ dpa len, let busy := (match s.chip.integ.scan with | some x => !x.done | none => false) || s.chip.bgRuns h
        (busy = true → BoxOnly (.scanMedia h dpa len) s h .busy) ∧
        (busy = false → Completes (.scanMedia h dpa len) s fun c => s.chip.boxAnswered c h .backgroundStarted ∧
          c.integ = { s.chip.integ with scan := some { head := h, first := dpa / 64, count := len } } ∧
          c.head h = { s.chip.head h with bg := some { kind := .scanMedia } } ∧ s.chip.keepsBut [.heads, .integ, .outs] c)) ∧
      (∀ input, input.length ≠ 64 → BoxOnly (.objectCommand h input) s h .invalidInput) ∧
      (s.chip.bgRuns h = true → ∀ e : CmdEntry, (s.chip.objectRun h e).2.1 = none → BoxOnly (.objectCommand h (entryBytes e)) s h .busy) ∧
      ∀ (e : CmdEntry) (o : Obj), s.chip.cmd s.chip.obj.nextCmd = none → opcodeOf e = 0x04 → bit (flagsOf e) 0 = false →
        s.chip.admits (.mailbox h) e → s.chip.obj.table.find (objOf e) = some o → (bit (flagsOf e) 31 = true → o.userTag = BitVec.ofNat 32 (fieldAt e 56 4)) →
        Completes (.objectCommand h (entryBytes e)) s fun c =>
          s.chip.boxAnswered c h .success (.bytes (entryBytes (mkResult e (objOf e) stOk 0 (s.chip.userTag (objOf e)) (s.chip.queryValues (objOf e) o)))) ∧ c.obj.table = s.chip.obj.table) ∧
    (s.chip.boxServed h → ∀ (input : List Byte) (ok : Bool),
      (dictIn input false = none → BoxOnly (.dictionaryRead h input) s h .invalidInput) ∧
      (dictIn input true = none → BoxOnly (.dictionaryWrite h input ok) s h .invalidInput) ∧
      (∀ d r, dictIn input false = some d → s.chip.entry d.index d.sub = some r → s.chip.readSpecial { req := .mailbox h } d.index d.sub = none → d.off = 0 → d.len = r.type.size →
        r.type ≠ .domain → r.acc = .rw → Completes (.dictionaryRead h input) s fun c =>
          s.chip.boxAnswered c h .success (.bytes (toBytes 4 0 ++ (toBytes 4 r.type.size ++ toBytes r.type.size (s.chip.readOpen (dictKey d.index d.sub) (rsvMask r d.sub) (s.chip.dictValue (.mailbox h) r d.sub)).1))) ∧ s.chip.keepsBut [.ring, .outs, .cache] c) ∧
      (∀ d r, dictIn input true = some d → s.chip.entry d.index d.sub = some r → d.off = 0 → r.type ≠ .domain → s.chip.asks { req := .mailbox h } d.index d.sub (input.drop 12) →
        let e := s.chip.writeFault { req := .mailbox h } r d.sub (input.drop 12)
        let x := (s.chip.useContext (.mailbox h)).applyWrite { req := .mailbox h } r d.sub (input.drop 12) ok
        (r.acc ≠ .ro → e ≠ 0 → Completes (.dictionaryWrite h input ok) s fun c => s.chip.turnedAway c { req := .mailbox h } d.index d.sub e) ∧
        (r.acc ≠ .ro → e = 0 → d.index ≠ 0x8011 → Completes (.dictionaryWrite h input ok) s fun c =>
          Output.mbox h .success (.bytes (toBytes 4 x.1 ++ toBytes 4 0)) ∈ s.chip.sent c ∧ x.2.keepsBut [.ring, .outs] c))) ∧
    ∀ bad : List Nat, match (s.chip.head h).bg with
    | none => Completes (.backgroundOpComplete { head := h, bad := bad }) s s.chip.untouched
    | some b =>
      let ended (c : Chip) : Prop := (c.head h).bg = some { b with done := true } ∧ ((s.chip.head h).link = .up → Output.msix h 0 ∈ s.chip.sent c)
      (b.done = true → Completes (.backgroundOpComplete { head := h, bad := bad }) s s.chip.untouched) ∧
      (b.kind ≠ .scanMedia → b.done = false →
        (s.chip.bgEnded h b = false → Completes (.backgroundOpComplete { head := h, bad := bad }) s s.chip.untouched) ∧
        (s.chip.bgEnded h b = true → Completes (.backgroundOpComplete { head := h, bad := bad }) s fun c => ended c ∧
          c.head h = { s.chip.head h with bg := some { b with done := true } } ∧ s.chip.keepsBut [.heads, .outs] c)) ∧
      ∀ x, s.chip.integ.scan = some x → b.kind = .scanMedia → b.done = false → x.done = false →
        let healed := ∀ m ∈ s.chip.cache.misses, 2 ≤ m.step → x.first ≤ m.line → x.first + x.count ≤ m.line
        (x.read = false → s.chip.cache.squall ≠ 0 ∨ s.chip.wrapping = true → Completes (.backgroundOpComplete { head := h, bad := bad }) s s.chip.untouched) ∧
        (x.read = false → s.chip.cache.squall = 0 → s.chip.wrapping = false → Completes (.backgroundOpComplete { head := h, bad := bad }) s fun c =>
          (∃ y, c.integ.scan = some y ∧ y.read = true ∧ y.first = x.first ∧ y.count = x.count ∧ (y.done = true → ended c)) ∧
          (∀ u ∈ s.chip.unitsOf (s.chip.scanLines x.first x.count), s.chip.framed c u.1 (.readUnit u.2.1 u.2.2 0)) ∧
          s.chip.keepsBut [.heads, .cache, .med, .integ, .ring, .outs] c) ∧
        (x.read = true → ¬ healed → Completes (.backgroundOpComplete { head := h, bad := bad }) s s.chip.untouched) ∧
        (x.read = true → healed → Completes (.backgroundOpComplete { head := h, bad := bad }) s fun c => ended c ∧
          c.integ.scan = some { x with done := true, found := s.chip.markedLines x.first x.count } ∧
          (∀ l ∈ s.chip.markedLines x.first x.count, (c.poisonAt l).isSome = true ∨ c.integ.overflow = true) ∧
          s.chip.keepsBut [.heads, .integ, .outs] c)

/-- Passphrases, erasure and firmware at a mailbox. For a Custodian's head in service: five wrong passphrases or a
frozen state refuse a passphrase command, a wrong passphrase counts and changes nothing else, the right one
sets, disables or unlocks; Freeze lasts. Secure Erase and Sanitize are refused with a passphrase set or
frozen, Busy in SPLIT, REJOINING and FENCED, and otherwise leave no object and every tag EMPTY, Sanitize in
the background, and a Secure Erase of a pair answered once the partner has erased too. Activate FW of a
verified slot makes it PENDING. Transfer FW takes a first piece into a free slot, in order, in the background;
a piece out of order, a wrong slot and a second transfer are refused. (12 R328, 12 R329, 12 R343, 12 R344, 12
R345, 15 R398, 15 R399, 03 R88, 03 R89.) -/
def Obligations.MailboxSecurity : Prop :=
  ∀ (s : State) (h : HeadNo), s.chip.boxOpen h → 2 ≤ s.chip.mboxLevel h →
    (Completes (.freezeSecurityState h) s fun c => s.chip.boxAnswered c h .success ∧ c.sec = { s.chip.sec with frozen := true } ∧ s.chip.keepsBut [.sec, .outs] c) ∧
    (s.chip.ledger.failed = false → s.chip.sec.sealState ≠ .disabled → ∀ (master : Bool) (cur new : BitVec 256),
      let stored := if master then s.chip.sec.masterPass else s.chip.sec.userPass
      let tries := if master then s.chip.sec.masterTries else s.chip.sec.userTries
      let wrong (i : Instr) : Prop := Completes i s fun c => s.chip.boxAnswered c h .invalidSecurityState ∧
        c.sec = (if master then { s.chip.sec with masterTries := tries + 1 } else { s.chip.sec with userTries := tries + 1 }) ∧ s.chip.keepsBut [.sec, .outs] c
      (s.chip.sec.locked = false →
        (s.chip.sec.frozen = true ∨ 5 ≤ tries → BoxOnly (.setPassphrase h master cur new) s h .invalidSecurityState ∧ BoxOnly (.disablePassphrase h master cur) s h .invalidSecurityState) ∧
        (s.chip.sec.frozen = false → tries < 5 →
          (∀ p, stored = some p → p ≠ cur → wrong (.setPassphrase h master cur new) ∧ wrong (.disablePassphrase h master cur)) ∧
          (stored = none ∨ stored = some cur → Completes (.setPassphrase h master cur new) s fun c => s.chip.boxAnswered c h .success ∧
            (master = true → c.sec = { s.chip.sec with masterPass := some new }) ∧
            (master = false → c.sec = { s.chip.sec with userPass := some new, slots := s.chip.sec.slots ||| 2 }) ∧ s.chip.keepsBut [.sec, .outs] c) ∧
          (stored = some cur → Completes (.disablePassphrase h master cur) s fun c => s.chip.boxAnswered c h .success ∧
            (master = true → c.sec = { s.chip.sec with masterPass := none }) ∧
            (master = false → c.sec = { s.chip.sec with userPass := none, slots := s.chip.sec.slots &&& ~~~ 2 }) ∧ s.chip.keepsBut [.sec, .outs] c)) ∧
        (stored = none → BoxOnly (.disablePassphrase h master cur) s h .invalidSecurityState)) ∧
      (s.chip.sec.locked = true → s.chip.sec.frozen = false → s.chip.sec.userTries < 5 → ∀ p, s.chip.sec.userPass = some p →
        (p ≠ cur → Completes (.unlock h cur) s fun c => s.chip.boxAnswered c h .invalidSecurityState ∧
          c.sec = { s.chip.sec with userTries := s.chip.sec.userTries + 1 } ∧ s.chip.keepsBut [.sec, .outs] c) ∧
        (p = cur → Completes (.unlock h cur) s fun c => s.chip.boxAnswered c h .success ∧ c.sec.locked = false ∧ c.sec.userPass = some p))) ∧
    (let busy := s.chip.twin.state = .split ∨ s.chip.twin.state = .rejoining ∨ s.chip.twin.state = .fenced
     (s.chip.sec.userPass.isSome = true ∨ s.chip.sec.frozen = true → BoxOnly (.secureErase h) s h .invalidSecurityState) ∧
     (s.chip.sec.userPass = none → s.chip.sec.frozen = false →
       (busy ∨ s.chip.sec.sanitizing = true ∨ s.chip.sec.peerErasing = true → BoxOnly (.secureErase h) s h .busy) ∧
       (¬ busy → s.chip.sec.sanitizing = false → s.chip.sec.peerErasing = false → s.chip.sec.drbgStopped = false → s.chip.ledger.failed = false →
         (Completes (.secureErase h) s fun c => c.obj.table = [] ∧ c.med.slots = [] ∧ c.integ.poison = [] ∧ (∀ t : Tag, c.tagState t = .empty) ∧
           (s.chip.paired = false → s.chip.boxAnswered c h .success) ∧
           (s.chip.paired = true → c.sec.eraseHead = some h ∧ c.sec.peerErasing = true ∧ (∀ code d, Output.mbox h code d ∉ s.chip.sent c) ∧
             (s.chip.linkReady = true → s.chip.told c (.tableUpdate (.secureErase false)))) ∧
           (s.chip.twin.state = .alone → c.twin.twinSerial = 0 ∧ c.twin.state = .unpaired)) ∧
         (s.chip.bgRuns h = true → BoxOnly (.sanitize h) s h .busy) ∧
         (s.chip.bgRuns h = false → Completes (.sanitize h) s fun c => s.chip.boxAnswered c h .backgroundStarted ∧ c.obj.table = [] ∧ c.med.slots = [] ∧
           (∀ t : Tag, c.tagState t = .empty) ∧ (c.head h).bg = some { kind := .sanitize } ∧
           (s.chip.paired = true → s.chip.linkReady = true → s.chip.told c (.tableUpdate (.secureErase true)))))) ∧
     (∀ (master : Bool) (cur : BitVec 256), ¬ busy → s.chip.sec.sanitizing = false → s.chip.sec.peerErasing = false → s.chip.bgRuns h = false → s.chip.sec.drbgStopped = false → s.chip.ledger.failed = false →
       s.chip.sec.frozen = false → (if master then s.chip.sec.masterTries else s.chip.sec.userTries) < 5 →
       (if master then s.chip.sec.masterPass else s.chip.sec.userPass) = some cur →
       Completes (.passphraseSecureErase h master cur) s fun c => s.chip.boxAnswered c h .backgroundStarted ∧
         (s.chip.sec.locked = false ∨ s.chip.twin.peerHello = none → c.obj.table = [] ∧ ∀ t : Tag, c.tagState t = .empty) ∧
         c.sec.userPass = none ∧ c.sec.locked = false ∧ (c.head h).bg = some { kind := .passphraseSecureErase })) ∧
    BoxOnly (.activateFw h true 1) s h .unsupported ∧
    (s.chip.ledger.failed = false → ∀ slot : Bool,
      (s.chip.activateFault (boolNat slot) = 0 → Completes (.activateFw h false (1 + boolNat slot)) s fun c => s.chip.boxAnswered c h .success ∧
        c.boot.record = { s.chip.boot.record with previous := some s.chip.boot.record.active, active := slot, state := .pending, activated := s.chip.stamp.toNat } ∧
        s.chip.keepsBut [.heads, .ledger, .ring, .boot, .outs] c) ∧
      (s.chip.activateFault (boolNat slot) = 1 → BoxOnly (.activateFw h false (1 + boolNat slot)) s h .invalidSlot) ∧
      (s.chip.activateFault (boolNat slot) = 2 → BoxOnly (.activateFw h false (1 + boolNat slot)) s h .busy) ∧
      ∀ (off : Nat) (data : List Byte) (ok : Bool), data.length % 128 = 0 → s.chip.bgRuns h = false →
        (s.chip.boot.upload.isSome = true → BoxOnly (.transferFw h .initiate (1 + boolNat slot) off data ok) s h .busy) ∧
        (s.chip.boot.upload = none →
          BoxOnly (.transferFw h .continue (1 + boolNat slot) off data ok) s h .fwTransferOutOfOrder ∧
          (s.chip.slotRefused slot = true → BoxOnly (.transferFw h .initiate (1 + boolNat slot) off data ok) s h .invalidSlot) ∧
          (s.chip.slotRefused slot = false → off ≠ 0 → BoxOnly (.transferFw h .initiate (1 + boolNat slot) off data ok) s h .fwTransferOutOfOrder) ∧
          (s.chip.slotRefused slot = false → 0 < data.length → data.length < 4096 → s.chip.storesWf → Completes (.transferFw h .initiate (1 + boolNat slot) 0 data ok) s fun c =>
            s.chip.boxAnswered c h .backgroundStarted ∧ c.boot.upload = some { slot := slot, via := .mailbox, next := data.length } ∧
            c.boot.updState = 1 ∧ (c.imageOf slot).present = false ∧ c.ledger.cells.read (slotBase slot) data.length = data ∧
            (c.head h).bg = some { kind := .transferFw } ∧ s.chip.keepsBut [.heads, .ledger, .ring, .boot, .outs] c)))

/-- Stream keys, IDE, the CMA and SPDM connection, and lockdown. Over a secured session with SC running and the
engine enabled, KEY_PROG programs a key set with a fresh counter, KEY_SET_GO makes a programmed set active
with its counter at 0, the set it leaves no longer programmed (log entry 108), and the stream on once both
directions have one, KEY_SET_STOP takes it; a query tells their states. A counter that nears its end is
reported; one that is exhausted, or an uncertain nonce, ends the stream: the head's link trains again, the
twin link goes down. A due rekey of the twin link asks for it until it is answered, and the counter starts
anew; a verified mutual session keys the link. While the link is up, SC runs and the ROM does not, requests in
the order of a connection are answered and requests out of it get ERROR UnexpectedRequest: GET_VERSION starts
the connection, CAPABILITIES and ALGORITHMS follow, then digests, certificate portions, challenges and
measurements of slot 0 are given, signed with fresh values. Two sessions open at most, a third gets ERROR
Busy; FINISH secures one or ends it; a heartbeat clears what was missed, the second missed one ends the
session, END_SESSION too. At a head with no link they have no effect. (12 R330, 12 R331, 12 R332, 12 R333, 12
R337, 03 R99, 03 R100, 09 R245, 01 R17, 12 R341, 12 R342, 12 Table 12-6.) -/
def Obligations.Security : Prop :=
  (∀ (s : State) (h : HeadNo),
    (∀ (tx k1 skid : Bool) (i : Instr), i = .keyProg h tx k1 ∨ i = .keySetGo h tx k1 skid ∨ i = .keySetStop h tx k1 →
      (s.chip.secured h = false ∨ s.chip.scRuns = false ∨ s.chip.sec.sealState = .disabled → Completes i s s.chip.untouched)) ∧
    CompletesIf (.ideKmQuery h) s (s.chip.secured h = true ∧ s.chip.scRuns = true) (fun c =>
      let d := s.chip.head h
      let st (x : IdeDir) : List Nat := [boolNat x.prog0, boolNat x.prog1, match x.active with | none => 2 | some k => boolNat k]
      c.outs = s.chip.outs ++ [.spdm (some h) "QUERY_RESP" (st d.ideRx ++ st d.ideTx), .msix h 3] ∧ s.chip.keepsBut [.outs] c) ∧
    (s.chip.secured h = true → s.chip.scRuns = true → s.chip.sec.sealState ≠ .disabled → ∀ tx k1 skid : Bool,
      let d := s.chip.head h
      let dir (x : Head) : IdeDir := if tx then x.ideTx else x.ideRx
      let other (x : Head) : IdeDir := if tx then x.ideRx else x.ideTx
      let rest (c : Chip) : Prop := (∀ k, k ≠ h → c.head k = s.chip.head k) ∧ other (c.head h) = other d ∧ s.chip.keepsBut [.heads, .outs] c
      (Completes (.keyProg h tx k1) s fun c => 
        dir (c.head h) = { dir d with prog0 := (dir d).prog0 || !k1, prog1 := (dir d).prog1 || k1, count := if (dir d).active = some k1 then 0 else (dir d).count } ∧
        c.outs = s.chip.outs ++ [.spdm (some h) "KP_ACK" [boolNat tx, boolNat k1, 0], .msix h 3] ∧ rest c) ∧
      CompletesIf (.keySetGo h tx k1 skid) s ((if k1 then (dir d).prog1 else (dir d).prog0) = true) (fun c =>
        ((dir d).active = some k1 → dir (c.head h) = dir d) ∧
        ((dir d).active = some (!k1) → dir (c.head h) = { prog0 := (dir d).prog0 && !k1, prog1 := (dir d).prog1 && k1, active := some k1, count := 0 }) ∧
        ((dir d).active = none → dir (c.head h) = { dir d with active := some k1, count := 0 }) ∧ (c.head h).ideOn = (other d).active.isSome ∧ (c.head h).ideSkid = skid ∧
        c.outs = s.chip.outs ++ [.spdm (some h) "K_GOSTOP_ACK" [boolNat tx, boolNat k1], .msix h 3] ∧ rest c) ∧
      Completes (.keySetStop h tx k1) s fun c =>
        dir (c.head h) = (if (dir d).active = some k1 then { prog0 := (dir d).prog0 && k1, prog1 := (dir d).prog1 && !k1, active := none, count := 0 } else dir d) ∧
        (c.head h).ideOn = (d.ideOn && (dir (c.head h)).active.isSome && (other d).active.isSome) ∧
        c.outs = s.chip.outs ++ [.spdm (some h) "K_GOSTOP_ACK" [boolNat tx, boolNat k1], .msix h 3] ∧ rest c) ∧
    (∀ tx : Bool, CompletesIf (.ideRekeyDue h tx) s ((s.chip.head h).ideOn = true) fun c =>
      (let n := 2 ^ 48 - 2 ^ 40
       (tx = true → (c.head h).ideTx = { (s.chip.head h).ideTx with count := max n (s.chip.head h).ideTx.count } ∧ (c.head h).ideRx = (s.chip.head h).ideRx) ∧
       (tx = false → (c.head h).ideRx = { (s.chip.head h).ideRx with count := max n (s.chip.head h).ideRx.count } ∧ (c.head h).ideTx = (s.chip.head h).ideTx)) ∧
      (c.head h).ideOn = true ∧ (∀ k, k ≠ h → c.head k = s.chip.head k) ∧ s.chip.keepsBut [.heads, .ledger, .ring, .outs] c) ∧
    (∀ (tx : Bool) (i : Instr), i = .ideCounterExhausted h tx ∨ i = .nonceUncertain (some h) → (s.chip.head h).ideOn = true → (s.chip.head h).link = .up →
      Completes i s fun c => (c.head h).ideOn = false ∧ (c.head h).link = .training ∧ c.vol 0x8031 2 = s.chip.vol 0x8031 2 + 1 ∧
        (c.head h).evt = (s.chip.head h).evt ||| 0b000101 ∧ (∀ k, k ≠ h → c.head k = s.chip.head k) ∧
        s.chip.keepsBut [.heads, .cache, .hbm, .dolly, .twin, .wit, .ring, .sec, .deferred, .outs] c) ∧
    ((s.chip.head h).ideOn = false → Completes (.nonceUncertain (some h)) s s.chip.untouched ∧ ∀ tx, Completes (.ideCounterExhausted h tx) s s.chip.untouched) ∧
    (∀ i : Instr, i = .twinCounterExhausted ∨ i = .nonceUncertain none →
      CompletesIf i s (s.chip.linkReady = true) fun c => c.twin.link = .down ∧ c.linkReady = false ∧ c.sec.twinSession = false) ∧
    CompletesIf .twinRekeyDue s (s.chip.linkReady = true ∧ s.chip.sec.twinRekeying = false) (fun c =>
      c.sec = { s.chip.sec with twinRekeying := true, twinTx := max (2 ^ 47) s.chip.sec.twinTx } ∧
      c.outs = s.chip.outs ++ [.spdm none "KEY_UPDATE" []] ∧ s.chip.keepsBut [.sec, .outs] c) ∧
    CompletesIf .twinRekeyRetry s (s.chip.linkReady = true ∧ s.chip.sec.twinRekeying = true) (fun c =>
      c.outs = s.chip.outs ++ [.spdm none "KEY_UPDATE" []] ∧ s.chip.keepsBut [.outs] c) ∧
    (∀ (session : Nat) (ack : Bool), CompletesIf (.keyUpdate none session ack) s (s.chip.linkReady = true ∧ (ack = true → s.chip.sec.twinRekeying = true)) fun c =>
      c.sec = { s.chip.sec with twinTx := 0, twinRekeying := false } ∧ c.vol 0x8031 1 = s.chip.vol 0x8031 1 + 1 ∧
      (ack = true → c.outs = s.chip.outs) ∧ (ack = false → c.outs = s.chip.outs ++ [.spdm none "KEY_UPDATE_ACK" []]) ∧ s.chip.keepsBut [.sec, .ring, .outs] c) ∧
    (s.chip.twin.link ≠ .up ∨ s.chip.sec.sealState = .disabled → ∀ ok, Completes (.twinSpdmSession ok) s s.chip.untouched) ∧
    (s.chip.twin.link = .up → s.chip.sec.sealState ≠ .disabled →
      (Completes (.twinSpdmSession false) s fun c => c.twin.refuseCause = 5 ∧ c.twin.keyed = s.chip.twin.keyed ∧ c.sec = s.chip.sec ∧
        s.chip.keepsBut [.heads, .twin, .ledger, .ring, .boot, .outs] c) ∧
      (s.chip.mayHello = false ∨ (s.chip.wit.registered = false ∧ s.chip.twin.peerHello = none) → Completes (.twinSpdmSession true) s fun c => c.twin = { s.chip.twin with keyed := true, auth := true } ∧
        c.sec = { s.chip.sec with twinSession := true, twinTx := 0, twinRekeying := false, slots := s.chip.sec.slots ||| 4 } ∧ s.chip.keepsBut [.twin, .sec] c) ∧
      (s.chip.mayHello = true → s.chip.wit.registered = true → s.chip.twin.helloSent = false → s.chip.twin.peerHello = none → Completes (.twinSpdmSession true) s fun c =>
        c.twin = { s.chip.twin with keyed := true, auth := true, helloSent := true } ∧ (∃ m, s.chip.told c (.hello m) ∧ m.serial = s.chip.id.serial ∧ m.epoch = s.chip.twin.epoch) ∧
        s.chip.keepsBut [.twin, .sec, .outs] c))) ∧
  (∀ (s : State) (h : HeadNo),
    let d := s.chip.head h
    let open_ := d.link = .up ∧ s.chip.scRuns = true ∧ s.chip.boot.rom = false
    let replies (i : Instr) (msg : String) (f : List Nat) : Prop := Completes i s fun c => c.outs = s.chip.outs ++ [.spdm (some h) msg f, .msix h 3] ∧ s.chip.keepsBut [.outs] c
    let moves (i : Instr) (d' : Head) (msg : String) (f : List Nat) : Prop := Completes i s fun c =>
      c.head h = d' ∧ (∀ k, k ≠ h → c.head k = s.chip.head k) ∧ c.outs = s.chip.outs ++ [.spdm (some h) msg f, .msix h 3] ∧ s.chip.keepsBut [.heads, .outs] c
    (∀ (a b n : Nat) (ok : Bool) (i : Instr) (rank : Nat),
      (i, rank) ∈ [(Instr.getVersion h, 0), (.getCapabilities h, 1), (.negotiateAlgorithms h, 2), (.getDigests h, 3), (.getCertificate h a b n, 3), (.challenge h a, 3),
        (.getMeasurements h a, 3), (.keyExchange h, 3), (.finish h a ok, 3), (.spdmHeartbeat h a, 3), (.keyUpdate (some h) a ok, 3), (.endSession h a, 3)] →
      (¬ open_ → Completes i s s.chip.untouched) ∧ (open_ → d.spdm.rank < rank → replies i "ERROR" [0x04])) ∧
    (open_ →
      moves (.getVersion h) { d with spdm := .version } "VERSION" [0x12] ∧
      (1 ≤ d.spdm.rank → moves (.getCapabilities h) { d with spdm := .caps } "CAPABILITIES" (List.replicate 10 1 ++ [20])) ∧
      (2 ≤ d.spdm.rank → moves (.negotiateAlgorithms h) { d with spdm := .algorithms } "ALGORITHMS: ECDSA P-256, SHA-256, secp256r1, AES-256-GCM" []) ∧
      (d.spdm = .algorithms →
        replies (.getDigests h) "DIGESTS" [1, (sha256 s.chip.certChain).toNat] ∧
        (∀ slot off len, (slot ≠ 0 ∨ s.chip.certChain.length ≤ off → replies (.getCertificate h slot off len) "ERROR" [0x01]) ∧
          (slot = 0 → off < s.chip.certChain.length →
            let part := (s.chip.certChain.drop off).take len
            replies (.getCertificate h slot off len) "CERTIFICATE" ([slot, part.length, s.chip.certChain.length - off - part.length] ++ part.map (·.toNat)))) ∧
        (∀ slot, (slot ≠ 0 → replies (.challenge h slot) "ERROR" [0x01]) ∧
          (slot = 0 → Completes (.challenge h slot) s fun c => c.sec = { s.chip.sec with draws := s.chip.sec.draws + 2, sinceSeed := s.chip.sec.sinceSeed + 2 } ∧
            c.outs = s.chip.outs ++ [.spdm (some h) "CHALLENGE_AUTH" [0, (sha256 s.chip.certChain).toNat, Config.random s.chip.sec.draws, Config.signature (s.chip.sec.draws + 1)], .msix h 3] ∧
            s.chip.keepsBut [.sec, .outs] c)) ∧
        (∀ index, (index ≠ 0xFF → (index = 0 ∨ 6 < index) → replies (.getMeasurements h index) "ERROR" [0x01]) ∧
          (1 ≤ index → index ≤ 6 → Completes (.getMeasurements h index) s fun c =>
            c.outs = s.chip.outs ++ [.spdm (some h) "MEASUREMENTS" ((index :: (s.chip.measureBlock index).map (·.toNat)) ++ [Config.signature s.chip.sec.draws]), .msix h 3] ∧
            s.chip.keepsBut [.sec, .outs] c)) ∧
        (s.chip.sec.sealState = .disabled ∨ s.chip.sec.drbgStopped = true → replies (.keyExchange h) "ERROR" [0x05]) ∧
        (s.chip.sec.sealState ≠ .disabled → s.chip.sec.drbgStopped = false →
          (2 ≤ d.sessions.length → replies (.keyExchange h) "ERROR" [0x03]) ∧
          (d.sessions.length < 2 → let id := if d.sessions.any (fun x => decide (x.id = 0)) then 1 else 0
            moves (.keyExchange h) { d with sessions := d.sessions ++ [{ id := id }] } "KEY_EXCHANGE_RSP" [id, 60])) ∧
        (∀ id, (s.chip.hasSession h id = false →
            replies (.finish h id true) "ERROR" [0x02] ∧ Completes (.spdmHeartbeat h id) s s.chip.untouched ∧ Completes (.endSession h id) s s.chip.untouched) ∧
          (s.chip.hasSession h id = true →
            moves (.finish h id true) { d with sessions := d.sessions.map fun x => if x.id = id then { x with finished := true } else x } "FINISH_RSP" [id] ∧
            moves (.finish h id false) { d with sessions := d.sessions.filter fun x => x.id != id } "ERROR" [0x06] ∧
            moves (.spdmHeartbeat h id) { d with sessions := d.sessions.map fun x => if x.id = id then { x with missed := 0 } else x } "HEARTBEAT_ACK" [id] ∧
            (∀ ack, replies (.keyUpdate (some h) id ack) "KEY_UPDATE_ACK" [id]) ∧
            moves (.endSession h id) { d with sessions := d.sessions.filter fun x => x.id != id } "END_SESSION_ACK" [id])))) ∧
    ∀ id, Completes (.spdmSessionTimeout h id) s fun c =>
      (c.head h).sessions = (if ∃ x ∈ d.sessions, x.id = id ∧ 1 ≤ x.missed then d.sessions.filter (fun x => x.id != id)
        else d.sessions.map fun x => if x.id = id then { x with missed := x.missed + 1 } else x) ∧
      c.head h = { d with sessions := (c.head h).sessions } ∧ (∀ k, k ≠ h → c.head k = s.chip.head k) ∧ s.chip.keepsBut [.heads] c)

/-- The DRBG, the sealing engine and the end of a crypto-erase. A failed health test stops the DRBG; a reseed
after 2^20 requests starts the count anew. A sealing request enters the queue of 64 or is answered FULL, or
ALARM while the engine is not ready. An alarm empties slots and queue, each waiting request ending with ALARM,
and leaves the engine recovering, or at the third within 24 h disabled; a parity error in compatibility mode
ends one request with FAULT and erases nothing. Recovery derives slot 0 again. A crypto-erase completes once
nothing under the tag is in flight, on the chip that took it in PAIRED once the partner has told that it
erased too: the tag is EMPTY with a new generation, and the requester is answered. (12 R322, 12 R327, 12 R334,
12 R337, 12 R338.) -/
def Obligations.SealingEngine : Prop :=
  ∀ (s : State),
    (Completes .drbgHealthFail s fun c => c.sec = { s.chip.sec with drbgStopped := true } ∧ s.chip.keepsBut [.sec] c) ∧
    CompletesIf .drbgReseed s (2 ^ 20 ≤ s.chip.sec.sinceSeed ∧ s.chip.sec.drbgStopped = false) (fun c =>
      c.sec = { s.chip.sec with sinceSeed := 0 } ∧ s.chip.keepsBut [.sec] c) ∧
    (∀ (op : SealOp) (slot : Fin 32) (pr tagOk : Bool),
      let i : Instr := .sealRequest op slot pr tagOk
      (s.chip.sec.sealState ≠ .ready → Completes i s fun c => c.outs = s.chip.outs ++ [.seal "ALARM"] ∧ s.chip.keepsBut [.outs] c) ∧
      (s.chip.sec.sealState = .ready →
        (64 ≤ s.chip.sec.sealQ.length → Completes i s fun c => c.outs = s.chip.outs ++ [.seal "FULL"] ∧ s.chip.keepsBut [.outs] c) ∧
        (s.chip.sec.sealQ.length < 64 → Completes i s fun c =>
          c.sec = { s.chip.sec with sealQ := s.chip.sec.sealQ ++ [{ op := op, slot := slot.val, priority := pr, tagOk := tagOk }] } ∧ s.chip.keepsBut [.sec] c))) ∧
    (let alarm (i : Instr) : Prop := Completes i s fun c =>
      let recent := s.chip.sec.alarms.filter fun t => decide (s.chip.now < t + 86400000000000)
      c.sec.slots = 0 ∧ c.sec.sealQ = [] ∧ c.sec.alarms = s.chip.now :: recent ∧
      c.sec.sealState = (if 2 ≤ recent.length ∨ s.chip.sec.sealState = .disabled then .disabled else .recovering) ∧
      (s.chip.sent c).countP (fun o => decide (o = .seal "ALARM")) = s.chip.sec.sealQ.length ∧ c.sec.tags = s.chip.sec.tags ∧
      c.vol 0x8020 3 = s.chip.vol 0x8020 3 + 1 ∧ s.chip.keepsBut [.heads, .sec, .ledger, .ring, .outs] c
     let fault (i : Instr) : Prop := Completes i s fun c =>
      c.sec.slots = s.chip.sec.slots ∧ c.sec.tags = s.chip.sec.tags ∧ c.sec.sealState = s.chip.sec.sealState ∧
      (∀ r, s.chip.sec.sealNext = some r → c.sec.sealQ = s.chip.sec.sealQ.erase r ∧ Output.seal "FAULT" ∈ s.chip.sent c) ∧
      c.vol 0x8020 5 = s.chip.vol 0x8020 5 + 1 ∧ s.chip.keepsBut [.heads, .sec, .ledger, .ring, .outs] c
     (∀ e : SealEvent, (s.chip.sec.sealMode = true → e = .parity → fault (.sealAlarm e)) ∧ (¬ (s.chip.sec.sealMode = true ∧ e = .parity) → alarm (.sealAlarm e))) ∧
     (s.chip.sec.sealMode = true → fault .sealParityFault) ∧ (s.chip.sec.sealMode = false → alarm .sealParityFault)) ∧
    CompletesIf .sealRecover s (s.chip.sec.sealState = .recovering) (fun c =>
      c.sec = { s.chip.sec with sealState := .ready, slots := s.chip.sec.slots ||| 1 } ∧
      (s.chip.linkReady = true → s.chip.id.serial.toNat < s.chip.twin.twinSerial.toNat → c.outs = s.chip.outs ++ [.spdm none "KEY_EXCHANGE" []]) ∧
      (s.chip.linkReady = false ∨ s.chip.twin.twinSerial.toNat ≤ s.chip.id.serial.toNat → c.outs = s.chip.outs) ∧ s.chip.keepsBut [.sec, .outs] c) ∧
    match s.chip.sec.eraseTag with
    | none => Completes .cryptoEraseComplete s s.chip.untouched
    | some t =>
      let waits := s.chip.tagBusy t = true ∨ (s.chip.sec.eraseReq.isSome = true ∧ s.chip.paired = true ∧ s.chip.sec.erasePeer = false)
      (waits → Completes .cryptoEraseComplete s s.chip.untouched) ∧
      (¬ waits → (∀ r ∈ s.chip.obj.cmds, r.waits = false) → Completes .cryptoEraseComplete s fun c =>
        c.tagState t = .empty ∧ c.sec.durableTags.find t.toNat = some { state := .empty, key := 0, gen := (s.chip.sec.durableTags.getD t.toNat {}).gen + 1 } ∧
        c.sec.eraseTag = none ∧ c.sec.eraseReq = none ∧ c.sec.eraseState = 2 ∧
        (∀ k, k ≠ t.toNat → c.sec.tags.find k = s.chip.sec.tags.find k) ∧
        (s.chip.sec.eraseReq = none → s.chip.paired = true → s.chip.linkReady = true → s.chip.told c (.tableUpdate (.key t 0))) ∧
        (∀ a m, s.chip.sec.eraseReq = some a → a.req = .ring m → Output.dict m a.tid 7 0x8011 1 0 0 0 [] (authed a) ∈ s.chip.sent c) ∧
        (∀ a k, s.chip.sec.eraseReq = some a → a.req = .mailbox k → s.chip.boxAnswered c k .success (.bytes (toBytes 8 0))) ∧
        s.chip.keepsBut [.med, .sec, .ring, .outs] c)

/-- The sequencer. A rise of RESET_N starts the power-up from OFF or a released LOCKOUT once every rail reads off;
up steps follow in rising order, each once the one before is done, and the last releases the main domain. A
rail that is not good in time, chatters, loses PG or leaves its window has a fault and its reaction. Samples
are judged only in their states. In DOWN the steps follow as rails read off or time out. RESET_N low wraps in
ON, SEQ_FAULT_N acts as SEQ_FAULT_ACTION says, retries are counted to LOCKOUT, and a collapse of VAUX takes
every EN low and the time away. (10 R277, 10 R278, 10 R279, 10 R280, 10 R281, 10 R282, 10 R283, 10 R284, 10
R285, 10 R287, 10 R276, 10 Table 10-4.) -/
def Obligations.Sequencer : Prop :=
  ∀ (s : State) (n : RailNo),
    let p := s.chip.pwr
    let r := s.chip.rail n
    let live := p.state = .up ∨ p.state = .on ∨ p.state = .wrap
    let pulsed := p.resetN = false ∨ p.vauxOk = false
    let released := p.afterDown = 0 ∨ (pulsed ∧ (p.afterDown = 3 ∨ p.afterDown = 4))
    let domain : List Grp := [.pwr, .boot, .res, .cache, .wrap, .clk, .heads]
    let others (c : Chip) : Prop := ∀ k, k ≠ n → c.rail k = s.chip.rail k
    let onlyRail (c : Chip) (x : Rail) : Prop := c.rail n = x ∧ others c ∧ s.chip.keepsBut [.pwr] c
    ((p.state = .off ∨ p.state = .lockout) → released → s.chip.allOff = true → Completes .powerUpStart s fun c =>
      s.chip.powersUp c ∧ c.pwr.resetN = true ∧ c.pwr.vauxOk = true ∧ s.chip.keepsBut [.pwr, .wrap, .boot, .res] c) ∧
    ((p.state = .off ∨ p.state = .lockout) → ¬ (released ∧ s.chip.allOff = true) → Completes .powerUpStart s fun c =>
      c.pwr = { p with resetN := true, vauxOk := true, hiZ := false, afterDown := c.pwr.afterDown } ∧ s.chip.keepsBut [.pwr] c) ∧
    (p.state = .on → pulsed → s.chip.boot.mainOut = false → s.chip.clk.refclkOk = true → Completes .powerUpStart s fun c =>
      s.chip.starts c ∧ c.pwr.state = .on ∧ s.chip.keepsBut domain c) ∧
    CompletesIf .upStepDone s (p.state = .up ∧ ∀ k, (s.chip.rail k).isRail = true → (s.chip.rail k).upStep + 1 = p.step → (s.chip.rail k).done = true) (fun c =>
      (∀ k, p.step < k → k ≤ 16 → (∃ x, (s.chip.rail x).isRail = true ∧ (s.chip.rail x).upStep + 1 = k) →
        (∀ x, (s.chip.rail x).isRail = true → p.step < (s.chip.rail x).upStep + 1 → k ≤ (s.chip.rail x).upStep + 1) →
        c.pwr.step = k ∧ c.pwr.state = .up ∧ s.chip.keepsBut [.pwr] c ∧ ∀ x, (s.chip.rail x).isRail = true → (s.chip.rail x).upStep + 1 = k →
          (s.chip.rail x).done = false → (c.rail x).en = true ∧ (c.rail x).state = .ramping) ∧
      ((∀ x, (s.chip.rail x).isRail = true → (s.chip.rail x).upStep + 1 ≤ p.step ∨ 16 ≤ (s.chip.rail x).upStep) → c.pwr.state = .on ∧ c.pwr.step = 0 ∧
        (s.chip.clk.refclkOk = true → s.chip.starts c) ∧ (s.chip.clk.refclkOk = false → s.chip.keepsBut [.pwr] c)) ∧ s.chip.keepsBut domain c) ∧
    (¬ (r.isRail = true ∧ r.en = true ∧ r.state = .ramping) → Completes (.rampTimeout n) s s.chip.untouched) ∧
    (r.isRail = true → r.en = true → r.state = .ramping →
      (r.pgUsed = false → r.senseUsed = false → Completes (.rampTimeout n) s fun c => onlyRail c { r with state := .good, everGood := true, done := true }) ∧
      ((r.pgUsed = true ∨ r.senseUsed = true) → live → Completes (.rampTimeout n) s fun c => s.chip.reacted c n)) ∧
    (∀ (level : Bool) (edges : Nat),
      let i : Instr := .pgChange n level edges
      let base : Rail := { r with pg := level, pgRaw := level, edges := if r.everGood then edges else 0 }
      (¬ (r.isRail = true ∧ r.pgUsed = true ∧ live) → Completes i s fun c => onlyRail c base) ∧
      (r.isRail = true → r.pgUsed = true → live →
        (r.everGood = true → r.en = true → r.state ≠ .chatter → 16 ≤ edges → Completes i s fun c => s.chip.reacted c n) ∧
        (r.everGood = true → r.en = true → edges < 16 → r.pg = true → level = false → Completes i s fun c => s.chip.reacted c n) ∧
        (r.everGood = false → r.en = true → r.state = .ramping → (base.isGood = true → Completes i s fun c => onlyRail c { base with state := .good, everGood := true, done := true, edges := 0 }) ∧
          (base.isGood = false → Completes i s fun c => onlyRail c base)))) ∧
    (∀ code : BitVec 12,
      let mv := code.toNat * 1600 * r.ratio / 4096000
      let i : Instr := .adcSample (.sense n code)
      let base : Rail := { r with mv := mv }
      let judged := r.isMonitor = true ∨ (r.isRail = true ∧ r.senseUsed = true ∧ r.en = true ∧ r.everGood = true)
      let far := if r.chipRail = true ∧ 100 * mv < 90 * r.nominal then 1 else if r.chipRail = true ∧ 110 * r.nominal < 100 * mv then 2 else 0
      ((p.state = .off ∨ p.state = .lockout ∨ p.state = .retryWait) → Completes i s fun c => onlyRail c base) ∧
      (p.state = .down →
        let low := r.en && r.everGood && decide (mv < r.faultLo)
        let out := r.isRail = true ∧ r.senseUsed = true ∧ (low = true ∨ r.faultHi < mv)
        (out → r.outLo + r.outHi ≠ 0 → Completes i s fun c =>
          (∀ k, (c.rail k).en = false) ∧ c.pwr.step = 17 ∧ c.vol 0x6003 (n.val + 1) = s.chip.vol 0x6003 (n.val + 1) + 1 ∧ s.chip.keepsBut [.pwr, .ring] c) ∧
        (out → r.outLo + r.outHi = 0 → Completes i s fun c => onlyRail c { base with outLo := boolNat low, outHi := boolNat (decide (r.faultHi < mv)) }) ∧
        (¬ out → Completes i s fun c => onlyRail c { base with outLo := 0, outHi := 0 })) ∧
      (live → ¬ judged →
        let above := r.chipRail = true ∧ r.en = true ∧ 110 * r.nominal < 100 * mv
        let base' : Rail := { base with collapse := if above then 2 else 0 }
        let good := r.en = true ∧ r.state = .ramping ∧ (r.pgUsed = true ∨ r.senseUsed = true) ∧ base.isGood = true
        (above → r.collapse = 2 → Completes i s fun c => c.pwr.state = .retryWait ∧ (∀ k, (c.rail k).en = false) ∧ c.boot.mainOut = false ∧ c.wrap = s.chip.wrap) ∧
        (¬ (above ∧ r.collapse = 2) → ¬ good → Completes i s fun c => onlyRail c base') ∧
        (¬ (above ∧ r.collapse = 2) → good → Completes i s fun c => onlyRail c { base' with state := .good, everGood := true, done := true, edges := 0 })) ∧
      (live → judged →
        (far ≠ 0 → r.collapse = far → Completes i s fun c => c.pwr.state = .retryWait ∧ (∀ k, (c.rail k).en = false) ∧ c.boot.mainOut = false ∧ c.wrap = s.chip.wrap) ∧
        (far = 0 ∨ r.collapse ≠ far → mv < r.faultLo ∨ r.faultHi < mv → r.outLo + r.outHi = 1 → r.warnOut + 1 ≠ 16 ∨ r.warned = true → mv < r.warnLo ∨ r.warnHi < mv →
          Completes i s fun c => s.chip.reacted c n) ∧
        (r.warnLo ≤ mv → mv ≤ r.warnHi → r.faultLo ≤ mv → mv ≤ r.faultHi → far = 0 → r.warned = false → Completes i s fun c => others c ∧ s.chip.keepsBut [.pwr] c ∧
          c.rail n = { base with collapse := 0, outLo := 0, outHi := 0, warnOut := 0, warnIn := (c.rail n).warnIn } ∧ (c.rail n).warnIn ≤ r.warnIn + 1) ∧
        (far = 0 → mv < r.warnLo ∨ r.warnHi < mv → r.faultLo ≤ mv → mv ≤ r.faultHi → r.warnOut = 15 → r.warned = false → Completes i s fun c =>
          (c.rail n).warned = true ∧ (r.state = .good → (c.rail n).state = .warning) ∧ others c ∧ s.chip.keepsBut [.pwr, .heads, .ring, .ledger, .outs] c))) ∧
    (∀ code : BitVec 12, let mv := s.chip.bankOf code
      let low := mv < s.chip.holdupWrapMv ∧ s.chip.res.probe ≠ 3
      (¬ (low ∧ p.bankLowN = 1) → Completes (.adcSample (.holdup code)) s fun c =>
        c.pwr = { p with bankLowN := if low then p.bankLowN + 1 else 0 } ∧ c.res = { s.chip.res with bankMv := mv, bankMin := min s.chip.res.bankMin mv } ∧ s.chip.keepsBut [.pwr, .res] c) ∧
      (low → p.bankLowN = 1 → s.chip.mayWrap → Completes (.adcSample (.holdup code)) s fun c => c.wraps 2)) ∧
    (∀ t : Int, (¬ (115 < t ∧ p.dieHot = 1) → Completes (.adcSample (.die t)) s fun c =>
        c.pwr = { p with dieC := t, diePeak := max p.diePeak t, dieHot := if 115 < t then p.dieHot + 1 else 0 } ∧ s.chip.keepsBut [.pwr] c) ∧
      (115 < t → p.dieHot = 1 → s.chip.mayWrap → Completes (.adcSample (.die t)) s fun c => c.wraps 10)) ∧
    (let waits := s.chip.downWaits
     let lower (c : Chip) : Prop :=
       (∀ k, p.step < k → k ≤ 16 → (∃ x, (s.chip.rail x).isRail = true ∧ (s.chip.rail x).downStep + 1 = k) →
         (∀ x, (s.chip.rail x).isRail = true → p.step < (s.chip.rail x).downStep + 1 → k ≤ (s.chip.rail x).downStep + 1) →
         c.pwr.step = k ∧ c.pwr.state = .down ∧ ∀ x, (s.chip.rail x).isRail = true → (s.chip.rail x).downStep + 1 = k → (c.rail x).en = false) ∧
       ((∀ x, (s.chip.rail x).isRail = true → (s.chip.rail x).downStep + 1 ≤ p.step ∨ 16 ≤ (s.chip.rail x).downStep) → (∀ x, (c.rail x).en = false) ∧
         c.pwr.seqFaultOut = false ∧ c.pwr.state = (if p.afterDown = 1 then .retryWait else if p.afterDown = 3 then .lockout else .off))
     CompletesIf .downStepDone s (p.state = .down ∧ ∀ k ∈ waits, (s.chip.rail k).readsOff = true) (fun c => lower c ∧ s.chip.keepsBut [.pwr, .ring] c) ∧
     CompletesIf (.offTimeout n) s (p.state = .down ∧ n ∈ waits) fun c =>
       ((r.senseUsed = true ∨ r.pgUsed = true) → r.readsOff = false → c.vol 0x6003 (n.val + 1) = s.chip.vol 0x6003 (n.val + 1) + 1 ∧ (c.rail n).state = .fault) ∧
       (c.rail n).done = true ∧ ((∀ k ∈ waits, k ≠ n → (s.chip.rail k).readsOff = true) → lower c) ∧
       ((∃ k ∈ waits, k ≠ n ∧ (s.chip.rail k).readsOff = false) → c.pwr.step = p.step ∧ c.pwr.state = .down) ∧ s.chip.keepsBut [.pwr, .ring] c) ∧
    (¬ ((p.state = .off ∨ p.state = .retryWait) ∧ s.chip.allOff = false) → Completes .powerDownStuck s s.chip.untouched) ∧
    ((p.state = .off ∨ p.state = .retryWait) → s.chip.allOff = false → Completes .powerDownStuck s fun c =>
      (p.retriesUsed < s.chip.seqRetries → c.pwr.retriesUsed = p.retriesUsed + 1 ∧ c.pwr.stuck = true ∧ c.pwr.state = p.state) ∧
      (s.chip.seqRetries ≤ p.retriesUsed → c.pwr.state = .lockout) ∧ c.pwr.rails = p.rails ∧ s.chip.keepsBut [.pwr, .ring] c) ∧
    CompletesIf (.railRetryTimer n) s (r.retrying = true ∧ r.en = false ∧ r.readsOff = true) (fun c =>
      others c ∧ (c.rail n).en = true ∧ (c.rail n).state = .ramping ∧ (c.rail n).retrying = false ∧ (c.rail n).faults = r.faults ∧ (c.rail n).cfg = r.cfg ∧ s.chip.keepsBut [.pwr] c) ∧
    CompletesIf .retryWaitDone s (p.state = .retryWait ∧ s.chip.allOff = true) (fun c => c.pwr.seqFaultIn = false ∧
      (p.retriesUsed < s.chip.seqRetries → s.chip.powersUp c ∧ c.pwr.retriesUsed = p.retriesUsed + 1) ∧
      (s.chip.seqRetries ≤ p.retriesUsed → c.pwr.state = .lockout ∧ c.pwr.rails = p.rails) ∧ s.chip.keepsBut [.pwr, .wrap, .boot, .res, .ring] c) ∧
    CompletesIf .retryCountReset s (p.state = .on) (fun c => c.pwr = { p with retriesUsed := 0 } ∧ s.chip.keepsBut [.pwr] c) ∧
    (s.chip.mayWrap → Completes .resetNLow s fun c => c.wraps 9 ∧ c.pwr.resetN = false ∧ c.pwr.bypHold = false) ∧
    ((p.state ≠ .on ∨ s.chip.boot.mainOut = false) → Completes .resetNLow s fun c => c.pwr = { p with resetN := false, bypHold := false } ∧ s.chip.keepsBut [.pwr] c) ∧
    (let act := s.chip.par 0x6005 1 1
     ((p.state ≠ .on ∧ p.state ≠ .wrap) ∨ act = 0 → Completes .seqFaultSeen s fun c => c.pwr = { p with seqFaultIn := true } ∧ s.chip.keepsBut [.pwr] c) ∧
     (act = 1 → s.chip.mayWrap → Completes .seqFaultSeen s fun c => c.wraps 3 ∧ c.pwr.seqFaultIn = true ∧ c.pwr.seqFaultOut = true) ∧
     (2 ≤ act → p.state = .on ∨ p.state = .wrap → Completes .seqFaultSeen s fun c => c.pwr.seqFaultIn = true ∧ c.pwr.state = p.state ∧
       (∀ k, (s.chip.rail k).isRail = true → (s.chip.rail k).chipRail = false → (s.chip.rail k).group < 8 → (c.rail k).en = false ∧ (c.rail k).state = .offByGroup) ∧
       (∀ k, (s.chip.rail k).isRail = false ∨ (s.chip.rail k).chipRail = true → c.rail k = s.chip.rail k) ∧ s.chip.keepsBut [.pwr, .ring] c)) ∧
    ∀ k : Nat, Completes (.vauxCollapse k) s fun c => c.pwr.state = .off ∧ c.pwr.vauxOk = false ∧ c.pwr.hiZ = true ∧ c.pwr.snaps = [] ∧ (∀ x, (c.rail x).en = false) ∧
      c.clk.ticks = 0 ∧ c.boot.mainOut = false ∧ c.res = {} ∧ c.wrap = {} ∧ c.ledger.queue = [] ∧ c.ledger.current = none ∧
      c.ledger.cells = (match s.chip.ledger.current with | some w => s.chip.ledger.cells.write w.addr (w.bytes.take k) | none => s.chip.ledger.cells) ∧
      c.med.lines = s.chip.med.lines ∧ c.sec.durableTags = s.chip.sec.durableTags ∧ c.id = s.chip.id

/-- The reserve, its probe and the dirty budget. Each result of the computation publishes a lower budget at once
and a higher one on its tenth consecutive result, none before the first probe or while it is frozen; between a
probe's budget and its step only a lower result counts, and ends the probe; in a drain a short energy ends the
drain. A budget below 64 MiB for 1 s in service wraps. A probe publishes the budget of the deepest point its
step can reach, takes SQ08 high, and from the drop, the current, the charge and the fall gives the ESR and the
capacitance, which the ledger keeps; the published budget follows with the next results. (10 R290, 10 R291, 10
R292, 10 R294, 10 R296, 10 R302.) -/
def Obligations.ReserveProbe : Prop :=
  ∀ (s : State),
    let r := s.chip.res
    let e := s.chip.usable r.bankMin
    let b := budgetOf s.chip.id.part e
    let tick (c : Chip) : Prop := c.res.energyUj = e / (2 * 10 ^ 24) ∧ c.res.bankMin = r.bankMv
    let published (c : Chip) (n : Nat) : Prop := c.res.published = n ∧ c.cache.budget = n ∧ s.chip.keepsBut (.pwr :: .res :: settleGrps) c
    (r.probe = 3 → Completes .budgetCompute s fun c => c.res = r ∧ s.chip.keepsBut [.pwr] c) ∧
    (r.probe ≠ 3 → s.chip.wrap.state = 2 →
      (energyShort e s.chip.dirtyTotal = true → Completes .budgetCompute s fun c => tick c ∧ c.wrap.state = 3 ∧ c.wrap.undrained = s.chip.dirtyTotal / 64) ∧
      (energyShort e s.chip.dirtyTotal = false → Completes .budgetCompute s fun c => tick c ∧ c.wrap = s.chip.wrap ∧ s.chip.keepsBut [.pwr, .res, .hbm, .cache] c)) ∧
    (r.probe ≠ 3 → s.chip.wrap.state ≠ 2 →
      (r.frozen = true ∨ r.probed = false → Completes .budgetCompute s fun c => tick c ∧ c.res.published = r.published ∧ s.chip.keepsBut [.pwr, .res] c) ∧
      (r.frozen = false → r.probed = true →
        (r.probe = 2 → b < r.probeBudget → Completes .budgetCompute s fun c => tick c ∧ published c b ∧ c.res.probe = 0) ∧
        (r.probe = 2 → r.probeBudget ≤ b → Completes .budgetCompute s fun c => tick c ∧ c.res.published = r.published ∧ c.res.probe = 2 ∧ s.chip.keepsBut [.pwr, .res] c) ∧
        (r.probe ≠ 2 → b < r.published ∨ (r.published < b ∧ 9 ≤ r.above) → Completes .budgetCompute s fun c => tick c ∧ published c b ∧ c.res.above = 0) ∧
        (r.probe ≠ 2 → r.published < b → r.above < 9 → Completes .budgetCompute s fun c => tick c ∧ c.res.published = r.published ∧ c.res.above = r.above + 1 ∧ s.chip.keepsBut [.pwr, .res] c) ∧
        (r.probe ≠ 2 → b = r.published → Completes .budgetCompute s fun c => tick c ∧ c.res.published = r.published ∧ c.res.above = 0 ∧ s.chip.keepsBut [.pwr, .res] c))) ∧
    (s.chip.inService = false ∨ 67108864 ≤ r.published ∨ s.chip.pwr.state ≠ .on → Completes .reserveLostTimeout s s.chip.untouched) ∧
    (s.chip.inService = true → r.published < 67108864 → s.chip.mayWrap → Completes .reserveLostTimeout s fun c => c.wraps 7) ∧
    CompletesIf .probeStart s (r.probe = 0 ∧ s.chip.pwr.state = .on ∧ s.chip.wrapping = false ∧ s.chip.probeLoad ≠ 0) (fun c =>
      c.res = { r with probe := 1, probeV0 := r.bankMv, probeBudget := budgetOf s.chip.id.part (s.chip.usableAt (r.bankMv * (100 - s.chip.par 0x6012 2 2))) } ∧
      s.chip.keepsBut [.res] c) ∧
    (∀ late : Bool, CompletesIf (.probeBudgetReady late) s (r.probe = 1 ∧ (late = true ∨ s.chip.dirtyTotal ≤ r.probeBudget)) fun c => c.res.probe = 2 ∧
      (r.probed = true → published c r.probeBudget) ∧ (r.probed = false → c.res = { r with probe := 2 } ∧ s.chip.keepsBut [.res] c)) ∧
    (∀ dropMv loadMa : Nat, CompletesIf (.probeDischarge dropMv loadMa) s (r.probe = 2 ∧ s.chip.dirtyTotal ≤ r.probeBudget) fun c =>
      c.res.probe = 3 ∧ c.res.probeDrop = dropMv ∧ (loadMa ≠ 0 → c.res.probeEsr = dropMv * 1000000 / loadMa ∧ s.chip.keepsBut [.pwr, .res] c) ∧
      (c.rail 8).en = true ∧ (∀ n : RailNo, n ≠ 8 → c.rail n = s.chip.rail n) ∧ s.chip.keepsBut [.pwr, .res, .cache] c) ∧
    ∀ fallMv us chargeUc : Nat, CompletesIf (.probeStepEnd fallMv us chargeUc) s (r.probe = 3) fun c =>
      c.res.probe = 0 ∧ c.res.probed = true ∧ (c.rail 8).en = false ∧ (∀ n : RailNo, n ≠ 8 → c.rail n = s.chip.rail n) ∧
      (fallMv ≠ 0 → c.res.capUf = chargeUc * 1000 / fallMv) ∧ c.res.esrUohm = r.probeEsr ∧ c.vol 0x6012 6 = s.chip.vol 0x6012 6 + 1 ∧
      (s.chip.ledger.failed = false → c.par 0x6010 4 0 = c.res.capUf % 2 ^ 32 ∧ c.par 0x6010 5 0 = c.res.esrUohm % 2 ^ 32) ∧
      c.res.published = r.published ∧ c.res.bankMv = r.bankMv ∧ c.res.frozen = r.frozen ∧ s.chip.keepsBut [.pwr, .res, .cache, .heads, .ledger, .ring, .boot, .outs] c

/-- Wraps, their end, and the clock monitor. Loss of power, of REFCLK or of the gaffer's firmware starts a wrap
with its cause; REFCLK back releases a main domain held for it. Once everything issued is done the drain
starts, after the outstanding dirty map is on its way to the medium, or step 5 where no line was dirty; when
no dirty line is left but in a FAILED group the drain ends with the count of lines left, and when its ledger
writes are done the rails go down, or the domain is held in reset after cause 9, with what follows by the
cause. A wrap of cause 1 or 2 whose input has returned resumes when all is drained, its scratch empty, a
member of a pair FENCED; a finished one restarts. In service the dirty map is checkpointed and the RUNNING
record is given to the ledger again; pending snapshots are copied, the oldest first. (01 R21, 10 R437, 10
R289, 10 R295, 10 R296, 10 R297, 10 R298, 10 R300, 10 Table 10-7, 10 Table 10-11.) -/
def Obligations.WrapAndClocks : Prop :=
  ∀ (s : State),
    let p := s.chip.pwr
    let w := s.chip.wrap
    let mapped (c : Chip) : Prop := (s.chip.checkpointing = true → c.cache = s.chip.cache) ∧
      (s.chip.checkpointing = false → ∀ g ∈ s.chip.mapGroups, ∃ o ∈ c.cache.wb, o.group = g ∧ o.cause = .dirtyMap ∧ o.dirty = s.chip.dirtySegs)
    (s.chip.mayWrap → (Completes .powerLoss s fun c => c.wraps 1 ∧ c.pwr.pwrLoss = true) ∧
      (Completes .gafferWatchdog s fun c => c.wraps 5 ∧ ∀ n : RailNo, (c.rail n).cfg = p.hwCfg.get n) ∧
      Completes .refclkLost s fun c => c.wraps 4 ∧ c.clk = { s.chip.clk with refclkOk := false, holdover := true }) ∧
    (p.state ≠ .on → (Completes .powerLoss s fun c => c.pwr = { p with pwrLoss := true } ∧ s.chip.keepsBut [.pwr] c) ∧
      (Completes .gafferWatchdog s fun c => c.pwr.state = p.state ∧ (∀ n : RailNo, c.rail n = { s.chip.rail n with cfg := p.hwCfg.get n }) ∧ s.chip.keepsBut [.pwr] c) ∧
      Completes .refclkLost s fun c => c.clk = { s.chip.clk with refclkOk := false, holdover := true } ∧ c.twin.link = .down ∧ c.pwr = p ∧ c.wrap = w ∧
        ∀ h ∈ s.chip.presentHeads, (c.head h).link = (if (s.chip.head h).link = .up then .training else (s.chip.head h).link)) ∧
    (p.state = .on → s.chip.boot.mainOut = false → p.resetN = true → Completes .refclkRestored s fun c =>
      s.chip.starts c ∧ c.clk.refclkOk = true ∧ c.clk.holdover = false ∧ s.chip.keepsBut [.clk, .boot, .res, .cache, .wrap, .heads] c) ∧
    (p.state ≠ .on ∨ s.chip.boot.mainOut = true ∨ p.resetN = false → Completes .refclkRestored s fun c =>
      c.clk = { s.chip.clk with refclkOk := true, holdover := false } ∧ s.chip.keepsBut [.clk] c) ∧
    (let still := s.chip.cache.merges ≠ [] ∨ ∃ x ∈ s.chip.med.ch.toList, x.busy ≠ []
     let due := s.chip.med.dirtyMap ≠ s.chip.dirtySegs ∧ s.chip.mapGroups ≠ []
     (w.state ≠ 1 ∨ (w.dirtyAt ≠ 0 ∧ still) → Completes .wrapSettled s s.chip.untouched) ∧
     (w.state = 1 → w.dirtyAt = 0 → Completes .wrapSettled s fun c => c.wrap.state = 3 ∧ c.wrap.drainedAt = s.chip.clk.ticks ∧
       c.wrap.undrained = s.chip.dirtyTotal / 64 ∧ s.chip.keepsBut [.wrap, .hbm, .pwr, .cache, .integ, .heads, .ledger, .ring, .boot, .outs] c) ∧
     (w.state = 1 → w.dirtyAt ≠ 0 → ¬ still → (∀ n < 36, (s.chip.chan n).retraining = false) →
       (due → Completes .wrapSettled s fun c => mapped c ∧ s.chip.keepsBut [.cache] c) ∧
       (¬ due → Completes .wrapSettled s fun c => c.wrap.state = 2 ∧ s.chip.keepsBut [.cache, .hbm, .wrap, .ring, .outs] c))) ∧
    CompletesIf .wrapDrained s (w.state = 2 ∧ s.chip.onlyFailedLeft = true) (fun c => c.wrap.state = 3 ∧ c.wrap.cause = w.cause ∧
      c.wrap.drainedAt = s.chip.clk.ticks ∧ c.wrap.undrained = s.chip.dirtyTotal / 64 ∧ (c.wrap.short = true ↔ s.chip.dirtyTotal / 64 ≠ 0) ∧
      (s.chip.dirtyTotal / 64 = 0 → w.beforeService = false → w.cause = 1 ∨ w.cause = 8 ∨ w.cause = 9 → c.boot.record.unclean = false) ∧
      s.chip.keepsBut [.wrap, .hbm, .pwr, .cache, .integ, .heads, .ledger, .ring, .boot, .outs] c) ∧
    CompletesIf .wrapPersisted s (w.state = 3 ∧ (s.chip.ledger.failed = true ∨ (s.chip.ledger.current = none ∧ ∀ q ∈ s.chip.ledger.queue, 3 < q.cls.rank))) (fun c =>
      c.boot.mainOut = false ∧
      (w.cause = 9 → c.pwr.state = .on ∧ c.wrap.state = 0 ∧ c.pwr.rails = p.rails) ∧
      (w.cause ≠ 9 → c.wrap.state = 4 ∧ c.pwr.afterDown = (if w.cause = 3 then 1 else if w.cause = 5 ∨ w.cause = 6 then 3 else if w.cause = 8 ∧ w.stay = 1 then 4 else 2) ∧
        ((∃ n, (s.chip.rail n).isRail = true ∧ (s.chip.rail n).downStep < 16) → c.pwr.state = .down))) ∧
    CompletesIf .wrapResume s (w.state = 2 ∧ (w.cause = 1 ∨ w.cause = 2) ∧ s.chip.dirtyTotal = 0) (fun c =>
      c.pwr.state = .on ∧ c.pwr.pwrLoss = false ∧ c.hbm.selfRefresh = 0 ∧ c.res.frozen = false ∧ c.dolly.paused = false ∧ c.wrap.resumed = true ∧
      (∀ x ∈ c.cache.frames, s.chip.lockedScratch (frameWay x.1) = false) ∧
      (s.chip.twin.state = .unpaired ∨ s.chip.twin.state = .refused ∨ s.chip.twin.state = .alone → c.wrap.state = 0 ∧ c.twin = s.chip.twin ∧
        ∀ h ∈ s.chip.presentHeads, (s.chip.head h).link = .disabled → s.chip.isolated h = false → (s.chip.head h).perst = false → (c.head h).link = .training) ∧
      (s.chip.twin.state = .paired ∨ s.chip.twin.state = .split ∨ s.chip.twin.state = .fenced ∨ s.chip.twin.state = .rejoining →
        c.wrap.state = 5 ∧ c.twin.state = .fenced ∧ c.heads = s.chip.heads) ∧
      s.chip.keepsBut [.pwr, .wrap, .hbm, .res, .cache, .dolly, .twin, .wit, .heads, .ledger, .ring, .outs] c) ∧
    CompletesIf .wrapRestart s (p.state = .off ∧ p.afterDown = 2 ∧ s.chip.allOff = true) (fun c =>
      (w.cause ≠ 10 → s.chip.powersUp c ∧ c.pwr.pwrLoss = false ∧ c.pwr.retriesUsed = p.retriesUsed) ∧
      (w.cause = 10 → p.retriesUsed < s.chip.seqRetries → s.chip.powersUp c ∧ c.pwr.retriesUsed = p.retriesUsed + 1) ∧
      (w.cause = 10 → s.chip.seqRetries ≤ p.retriesUsed → c.pwr.state = .lockout) ∧ s.chip.keepsBut [.pwr, .wrap, .boot, .res, .ring] c) ∧
    CompletesIf .dirtyMapCheckpoint s (s.chip.inService = true ∧ s.chip.wrapping = false) (fun c => mapped c ∧ s.chip.keepsBut [.cache] c) ∧
    CompletesIf .wrapRecordHourly s (s.chip.inService = true ∧ s.chip.wrapping = false) (fun c =>
      c.wrap = { w with resumed := false } ∧ c.ledger.cells = s.chip.ledger.cells ∧ s.chip.keepsBut [.wrap, .ledger] c ∧
      (s.chip.ledger.failed = false → s.chip.ledger.current = none → s.chip.ledger.queue = [] →
        ∃ q, c.ledger.current = some q ∧ q.cls = .system ∧ (q.addr = 0x80000 ∨ q.addr = 0x80100) ∧ q.bytes.take 3 = [1, 0, 1])) ∧
    (s.chip.boot.mainOut = false ∨ p.snaps = [] → Completes .snapshotCopy s s.chip.untouched) ∧
    (s.chip.boot.mainOut = true → ∀ x rest, p.snaps = x :: rest → Completes .snapshotCopy s fun c =>
      c.pwr = { p with snaps := rest } ∧ c.ledger.snapNext = (s.chip.ledger.snapNext + 1) % 16384 ∧ s.chip.keepsBut [.pwr, .ledger] c ∧
      (s.chip.ledger.failed = false → s.chip.ledger.current = none → s.chip.ledger.queue = [] →
        c.ledger.current = some { cls := .log, addr := 0x5C0000 + 64 * s.chip.ledger.snapNext, bytes := x.image }))

/-- The ledger's page writes and its refresh. When the die is done, the bytes of the write in progress stand, its
page is counted, the longest time is kept and the write of the highest class is issued, in step 5 of a wrap
after 0.8 ms no more of the poison list and the snapshots; at the end of its life a page is retired to a spare
one. A die that does not answer fails, and every write ends. A refresh pass goes page by page, counts what it
corrects and cannot read, writes back where it must, and ends after the last page with its time. (11 R307, 11
R309, 11 R317, 11 R318, 11 R320.) -/
def Obligations.LedgerRows : Prop :=
  ∀ (s : State), s.chip.storesWf →
    let l := s.chip.ledger
    (l.current = none → ∀ ns, Completes (.ledgerPageWriteDone ns) s s.chip.untouched) ∧
    (∀ (w : PageWrite) (ns : Nat), l.current = some w → Completes (.ledgerPageWriteDone ns) s fun c =>
      let page := w.addr / 256
      let n := l.counts.getD page 0 + 1
      (∀ a, c.ledger.cells.byte a = if w.addr ≤ a ∧ a < w.addr + w.bytes.length then w.bytes.getD (a - w.addr) 0 else l.cells.byte a) ∧
      c.vol 0x7050 1 = s.chip.vol 0x7050 1 + 1 ∧ c.vol 0x7050 4 = max (s.chip.vol 0x7050 4) ns ∧
      (n ≠ 9000000000 ∨ remappable page = false ∨ 1024 ≤ l.remap.length → c.ledger.counts.find page = some n ∧ c.ledger.remap = l.remap ∧
        (l.failed = false → c.ledger.current = nextPage (if s.chip.wrap.state = 3 ∧ 40 * s.chip.wrap.drainedAt + 800000 ≤ s.chip.now
          then l.queue.filter (fun q => !decide (q.cls = .wrap ∧ 0x4C0000 ≤ q.addr)) else l.queue)) ∧ (l.failed = true → c.ledger.current = none)) ∧
      (n = 9000000000 → remappable page = true → l.remap.length < 1024 → c.ledger.counts.find page = some 0 ∧
        c.ledger.remap = l.remap ++ [(page, 0x7C00 + l.remap.length)]) ∧ s.chip.keepsBut [.ledger, .ring] c) ∧
    (Completes .ledgerTimeout s fun c => c.ledger = { l with failed := true, queue := [], current := none, refreshRun := false } ∧ s.chip.keepsBut [.ledger] c) ∧
    CompletesIf .refreshPassDue s (l.refreshRun = false ∧ l.failed = false ∧ s.chip.inService = true) (fun c =>
      c.ledger = { l with refreshRun := true, refreshStart := s.chip.stamp.toNat, refreshMinute := s.chip.med.minute } ∧ s.chip.keepsBut [.ledger] c) ∧
    ∀ (rewrite : Bool) (ce : Nat) (ue : List (Fin 32)), CompletesIf (.refreshPage rewrite ce ue) s (l.refreshRun = true ∧ l.failed = false) fun c =>
      c.vol 0x7050 5 = s.chip.vol 0x7050 5 + ce ∧ c.vol 0x7050 6 = s.chip.vol 0x7050 6 + ue.length ∧ (∀ w ∈ ue, 32 * l.refreshPage + w.val ∈ c.ledger.bad) ∧
      (rewrite = true → c.vol 0x7040 4 = s.chip.vol 0x7040 4 + 1) ∧ (rewrite = false → c.vol 0x7040 4 = s.chip.vol 0x7040 4) ∧
      (l.refreshPage + 1 < 131072 → c.ledger.refreshPage = l.refreshPage + 1 ∧ c.ledger.refreshRun = true) ∧
      (131072 ≤ l.refreshPage + 1 → c.ledger.refreshPage = 0 ∧ c.ledger.refreshRun = false ∧ c.vol 0x7040 3 = s.chip.stamp.toNat) ∧
      c.ledger.cells = l.cells ∧ s.chip.keepsBut [.ledger, .ring] c

/-- Frames on the ring, the ports and the merging of notifications. A frame taken on a port is counted; one of
this node's own address is dropped, one with no hops left too and counted; otherwise a frame for another node
goes out of the other port if it is up, with one hop less, cut and counted if over-long. A bad FCS is counted;
a frame for this node enters its source's record, and a repeated SEQ is counted as a duplicate. Ports change
as told, BYP_HOLD rises after the SerDes lock, a source record ends, and the 10 ms of a notification code send
what was merged. (13 R349, 13 R351, 13 R352, 13 R354, 13 R355, 13 R362, 01 R17.) -/
def Obligations.RingFrames : Prop :=
  ∀ (s : State),
    (∀ (p : PortNo) (f : RingFrame),
      let i : Instr := .ringFrameRx p f
      let q := otherPort p
      let me := s.chip.id.ringMac
      (s.chip.boot.mainOut = false ∨ s.chip.portUp p = false ∨ f.yelori = false → Completes i s s.chip.untouched) ∧
      (s.chip.boot.mainOut = true → s.chip.portUp p = true → f.yelori = true →
        (f.src = me → Completes i s fun c => c.vol 0x1101 (p.val + 1) = s.chip.vol 0x1101 (p.val + 1) + 1 ∧ c.ring.sources = s.chip.ring.sources ∧ s.chip.keepsBut [.ring] c) ∧
        (f.src ≠ me → f.hops = 0 → Completes i s fun c => c.vol 0x1101 (p.val + 1) = s.chip.vol 0x1101 (p.val + 1) + 1 ∧
          c.vol 0x1102 3 = s.chip.vol 0x1102 3 + 1 ∧ c.ring.sources = s.chip.ring.sources ∧ s.chip.keepsBut [.ring] c) ∧
        (f.src ≠ me → f.hops ≠ 0 → Completes i s fun c =>
          let mine := f.fcsOk = true ∧ (f.dst = me ∨ f.dst = broadcastAddr) ∧ f.overlong = false
          let old := s.chip.ring.sources.find? (fun r => decide (r.src = f.src))
          c.vol 0x1101 (p.val + 1) = s.chip.vol 0x1101 (p.val + 1) + 1 ∧
          (f.dst ≠ me → s.chip.portUp q = true → c.outs = s.chip.outs ++ [.ringForward q { f with hops := f.hops - 1, fcsOk := f.fcsOk && !f.overlong }] ∧ c.vol 0x1101 (q.val + 3) = s.chip.vol 0x1101 (q.val + 3) + 1 ∧
            c.vol 0x1102 4 = s.chip.vol 0x1102 4 + (if f.overlong = true then 1 else 0)) ∧
          (f.dst = me ∨ s.chip.portUp q = false → c.outs = s.chip.outs ∧ c.vol 0x1102 4 = s.chip.vol 0x1102 4) ∧
          c.vol 0x1102 2 = s.chip.vol 0x1102 2 + (if f.fcsOk = true then 0 else 1) ∧
          (¬ mine → c.ring.sources = s.chip.ring.sources ∧ c.vol 0x1102 1 = s.chip.vol 0x1102 1) ∧
          (mine → (∃ r, c.ring.sources.head? = some r ∧ r.src = f.src ∧ (if p = 0 then r.lastA else r.lastB) = s.chip.now ∧
              (old = none → r.boot = f.boot ∧ r.top = f.seq) ∧
              (∀ x, old = some x → x.boot = f.boot → 0 < (f.seq - x.top).toNat → (f.seq - x.top).toNat < 2 ^ 31 → r.boot = f.boot ∧ r.top = f.seq) ∧
              (∀ x, old = some x → x.boot ≠ f.boot → r.boot = f.boot ∧ r.top = f.seq)) ∧ c.ring.sources.length ≤ 64 ∧
            (∀ x, old = some x → x.boot = f.boot → x.top = f.seq → c.vol 0x1102 1 = s.chip.vol 0x1102 1 + 1) ∧
            (old = none → c.vol 0x1102 1 = s.chip.vol 0x1102 1)) ∧ s.chip.keepsBut [.ring, .outs] c))) ∧
    (∀ (p : PortNo) (v : Fin 3), CompletesIf (.ringPortStateChange p v) s (s.chip.boot.mainOut = true) fun c =>
      c.ring.ports.get p = (if v = 0 then .down else if v = 1 then .negotiating else .up) ∧ c.ring.ports.get (otherPort p) = s.chip.ring.ports.get (otherPort p) ∧
      sameRing { s.chip.ring with ports := c.ring.ports } c.ring ∧ s.chip.keepsBut [.ring] c) ∧
    CompletesIf .ringSerdesLock s (s.chip.boot.mainOut = true ∧ s.chip.pwr.bypHold = false) (fun c =>
      sameRing { s.chip.ring with lockWait := true } c.ring ∧ s.chip.keepsBut [.ring] c) ∧
    CompletesIf .bypHoldRaise s (s.chip.ring.lockWait = true ∧ s.chip.boot.mainOut = true) (fun c => c.pwr = { s.chip.pwr with bypHold := true } ∧
      sameRing { s.chip.ring with lockWait := false } c.ring ∧ s.chip.keepsBut [.ring, .pwr] c) ∧
    (∀ src : BitVec 48, Completes (.sourceRecordExpired src) s fun c =>
      sameRing { s.chip.ring with sources := s.chip.ring.sources.filter fun x => decide (x.src ≠ src) } c.ring ∧ s.chip.keepsBut [.ring] c) ∧
    ∀ code : Nat, let i : Instr := .notifyMergeExpired code
      let rest := s.chip.ring.merging.filter (· != code)
      (code ∉ s.chip.ring.merging → Completes i s s.chip.untouched) ∧
      (code ∈ s.chip.ring.merging →
        (s.chip.ring.merged.find code = none → Completes i s fun c => sameRing { s.chip.ring with merging := rest } c.ring ∧ s.chip.keepsBut [.ring] c) ∧
        ∀ key data, s.chip.ring.merged.find code = some (key, data) →
          (s.chip.mgRuns = true → Completes i s fun c => c.ring.merged = s.chip.ring.merged.del code ∧ c.ring.merging = s.chip.ring.merging ∧
            c.outs = s.chip.outs ++ [.notify (s.chip.ring.noteSeq + 1) code (key / 256) (key % 256) s.chip.stamp data] ∧
            c.vol 0x1120 2 = s.chip.vol 0x1120 2 + 1 ∧ s.chip.keepsBut [.ring, .outs] c) ∧
          (s.chip.mgRuns = false → Completes i s fun c => c.ring.merged = s.chip.ring.merged.del code ∧ c.ring.merging = rest ∧ s.chip.keepsBut [.ring] c))

/-- Dictionary transfers over the ring. Frames have no effect while the ring is not served, and one whose tag does
not verify is aborted AUTH_FAILED. A fresh READ gives the descriptor, the value in one segment or its first
segments, or aborts; a fresh WRITE carries out its whole value or aborts with the code of its check;
WRITE_INIT opens a transfer; beyond the limits requests are aborted. Segments are taken in order and
acknowledged, ACKs move the window of a read and end it, an ABORT or 100 ms ends a transfer, 5 ms send its
window again, and outcomes are forgotten after 1 s. (13 R357, 13 R358, 13 R359, 13 R360, 13 R361, 13 R364, 13
R366, 13 R368, 01 R17.) -/
def Obligations.DictTransfers : Prop :=
  ∀ (s : State) (m : BitVec 48) (a : Access) (index : BitVec 16) (sub : BitVec 8), a.req = .ring m →
    let ix := index.toNat
    let sb := sub.toNat
    let abort (code : Nat) : Output := .dict m a.tid 6 index sub 0 0 (BitVec.ofNat 32 code) [] (authed a)
    let aborts (i : Instr) (cmd : BitVec 8) (code : Nat) : Prop := Completes i s fun c => abort code ∈ s.chip.sent c ∧
      c.ring.closed.head? = some { req := a.req, tid := a.tid, index := index, sub := sub, cmd := cmd, answer := .abort (BitVec.ofNat 32 code) } ∧
      c.vol 0x1130 2 = s.chip.vol 0x1130 2 + 1 ∧ s.chip.only c []
    let starts (i : Instr) : Prop := ∃ describe off size data ok, i = .dictRead a index sub describe off ∨ i = .dictWrite a index sub size data ok ∨ i = .writeInit a index sub size data
    let goesOn (i : Instr) : Prop := ∃ seg final data ok next gap code, i = .dictSegment a index sub seg final data ok ∨ i = .dictAck a index sub next gap ∨ i = .dictAbort a index sub code
    (∀ i, starts i ∨ goesOn i → (s.chip.ringServed = false → Completes i s s.chip.untouched) ∧
      (s.chip.ringServed = true → s.chip.authBad a = true → Completes i s fun c => .dict m a.tid 6 index sub 0 0 (BitVec.ofNat 32 abAuth) [] false ∈ s.chip.sent c ∧
        c.vol 0x1110 3 = s.chip.vol 0x1110 3 + 1 ∧ c.ring.transfers = s.chip.ring.transfers ∧ c.ring.closed = s.chip.ring.closed ∧ s.chip.keepsBut [.ring, .outs] c)) ∧
    (∀ i, starts i → s.chip.ringServed = true → s.chip.authBad a = false → (∀ k ∈ s.chip.ring.closed, k.req = a.req → k.tid ≠ a.tid) →
      s.chip.openXfer a.req a.tid = none → s.chip.sec.eraseReq.map (fun (x : Access) => (x.req, x.tid)) ≠ some (a.req, a.tid) →
      4 ≤ s.chip.ring.transfers.countP (fun t => decide (t.req = a.req)) ∨ 64 ≤ s.chip.ring.transfers.length →
      Completes i s fun c => abort abLimit ∈ s.chip.sent c ∧ c.ring.transfers = s.chip.ring.transfers ∧ s.chip.keepsBut [.ring, .outs] c) ∧
    (s.chip.ringFresh a →
      (s.chip.entry ix sb = none → (∀ d off, aborts (.dictRead a index sub d off) 1 abNoEntry) ∧
        (∀ data ok, data.length ≤ 64 → aborts (.dictWrite a index sub data.length data ok) 2 abNoEntry) ∧ ∀ size data, aborts (.writeInit a index sub size data) 3 abNoEntry) ∧
      (∀ size data ok, size ≠ data.length ∨ 64 < size ∨ (∃ r, s.chip.entry ix sb = some r ∧ r.type = .domain) → aborts (.dictWrite a index sub size data ok) 2 abLength) ∧
      ∀ r, s.chip.entry ix sb = some r →
        (∀ off, Completes (.dictRead a index sub true off) s fun c => s.chip.given c a ix sb (s.chip.descriptor r sb) ∧ s.chip.only c []) ∧
        (∀ off, off ≠ 0 → r.type ≠ .domain → aborts (.dictRead a index sub false off) 1 abLength) ∧
        (r.acc = .ro → s.chip.levelOf a < r.level → aborts (.dictRead a index sub false 0) 1 abAccessDenied) ∧
        (r.acc = .wo → r.type ≠ .domain → Completes (.dictRead a index sub false 0) s fun c => s.chip.given c a ix sb (List.replicate r.type.size 0) ∧ s.chip.only c []) ∧
        (r.acc ≠ .wo → (r.acc = .ro → r.level ≤ s.chip.levelOf a) → s.chip.readSpecial a ix sb = none → r.type ≠ .domain → ix ≠ 0x1130 →
          Completes (.dictRead a index sub false 0) s fun c =>
            s.chip.given c a ix sb (toBytes r.type.size (s.chip.readOpen (dictKey ix sb) (rsvMask r sb) (s.chip.dictValue a.req r sb)).1) ∧ s.chip.only c [.cache]) ∧
        (∀ (data : List Byte) (ok : Bool), r.type ≠ .domain → data.length ≤ 64 →
          let i : Instr := .dictWrite a index sub data.length data ok
          let done (p : Chip → Prop) : Prop := Completes i s fun c => .dict m a.tid 7 index sub 0 0 0 [] (authed a) ∈ s.chip.sent c ∧ p c
          (r.acc = .ro → s.chip.id.part.full = true → aborts i 2 abWriteLocked) ∧
          (r.acc = .ro → s.chip.id.part.full = false → done fun c => s.chip.only c []) ∧
          (r.acc ≠ .ro → s.chip.writeFault a r sb data ≠ 0 → aborts i 2 (s.chip.writeFault a r sb data)) ∧
          (r.acc ≠ .ro → s.chip.writeFault a r sb data = 0 →
            (ix = 0x1120 ∨ ix = 0x6005 ∨ ix = 0x6011 →
              (s.chip.ledger.failed = true → aborts i 2 abHardware) ∧
              (s.chip.ledger.failed = false → done fun c => (∀ d, c.par ix sb d = ofBytes data) ∧ s.chip.only c [.ledger, .boot])) ∧
            (ix = 0xA030 → done fun c => c.sel a.req ix sb = ofBytes data ∧ s.chip.only c []) ∧
            (ix = 0x9030 → sb = 3 → done fun c => c.vol ix sb = ofBytes data ∧ s.chip.only c []))) ∧
        (∀ (size : Nat) (data : List Byte), let i : Instr := .writeInit a index sub size data
          (r.acc ≠ .ro → s.chip.levelOf a < r.level → aborts i 3 abAccessDenied) ∧
          (r.acc ≠ .ro → r.level ≤ s.chip.levelOf a → size < 65 ∨ data.length ≠ 64 → aborts i 3 abLength) ∧
          (r.acc ≠ .ro → r.level ≤ s.chip.levelOf a → 65 ≤ size → data.length = 64 → r.type = .domain ∨ size = r.type.size → Completes i s fun c =>
            c.openXfer a.req a.tid = some { req := a.req, tid := a.tid, index := index, sub := sub, write := true, size := size, next := 1, data := data, auth := authed a } ∧
            .dict m a.tid 5 index sub 0 0 1 [] (authed a) ∈ s.chip.sent c ∧ s.chip.only c []))) ∧
    (s.chip.ringServed = true → s.chip.authBad a = false →
      (∀ i, goesOn i → s.chip.openXfer a.req a.tid = none → (∀ k ∈ s.chip.ring.closed, k.req = a.req → k.tid ≠ a.tid) → Completes i s fun c =>
        c.outs = s.chip.outs ++ [abort abUnknown] ∧ c.ring.transfers = s.chip.ring.transfers ∧ s.chip.keepsBut [.ring, .outs] c) ∧
      ∀ t, s.chip.openXfer a.req a.tid = some t → t.index = index → t.sub = sub →
        let ended (i : Instr) (code : Nat) : Prop := Completes i s fun c => c.openXfer a.req a.tid = none ∧
          c.outs = s.chip.outs ++ [.dict m a.tid 6 index sub 0 0 (BitVec.ofNat 32 code) [] t.auth] ∧ s.chip.keepsBut [.ring, .outs] c
        let acked (i : Instr) (flag : BitVec 8) : Prop := Completes i s fun c =>
          c.outs = s.chip.outs ++ [.dict m a.tid 5 index sub flag 0 (BitVec.ofNat 32 t.next) [] t.auth] ∧ c.ring.transfers = s.chip.ring.transfers ∧ s.chip.keepsBut [.ring, .outs] c
        (t.write = true → ∀ (seg : Nat) (final : Bool) (data : List Byte) (ok : Bool), let i : Instr := .dictSegment a index sub seg final data ok
          let got := t.data.length + data.length
          let ack : Output := .dict m a.tid 5 index sub 0 0 (BitVec.ofNat 32 (t.next + 1)) [] t.auth
          (t.next + 16 ≤ seg → ended i abSequence) ∧ (t.next < seg → seg < t.next + 16 → acked i 4) ∧ (seg < t.next → acked i 0) ∧
          (seg = t.next → (final = true → got ≠ t.size → ended i abLength) ∧ (final = false → data.length ≠ 64 ∨ t.size ≤ got → ended i abLength) ∧
            (final = false → data.length = 64 → got < t.size → Completes i s fun c => c.openXfer a.req a.tid = some { t with next := t.next + 1, data := t.data ++ data } ∧
              c.outs = s.chip.outs ++ [ack] ∧ s.chip.keepsBut [.ring, .outs] c) ∧
            (final = true → got = t.size → ∀ r, s.chip.entry ix sb = some r → r.acc ≠ .ro → s.chip.writeFault a r sb (t.data ++ data) ≠ 0 → Completes i s fun c =>
              c.openXfer a.req a.tid = none ∧ ack ∈ s.chip.sent c ∧ abort (s.chip.writeFault a r sb (t.data ++ data)) ∈ s.chip.sent c ∧ s.chip.keepsBut [.ring, .outs] c))) ∧
        (t.write = false → ∀ (next : Nat) (gap : Bool), let i : Instr := .dictAck a index sub next gap
          (t.sent < next → ended i abSequence) ∧ (next ≤ t.sent → next < t.next → Completes i s s.chip.untouched) ∧
          (next ≤ t.sent → t.next ≤ next →
            (next = segCount t.data → Completes i s fun c => c.openXfer a.req a.tid = none ∧ s.chip.keepsBut [.ring] c ∧
              c.ring.closed.head? = some { req := a.req, tid := a.tid, index := index, sub := sub, cmd := 1, answer := .value t.data }) ∧
            (next ≠ segCount t.data → Completes i s fun c => s.chip.keepsBut [.ring, .outs] c ∧
              let start := if gap = true then next else t.sent
              let stop := min (segCount t.data) (next + 16)
              c.openXfer a.req a.tid = some { t with next := next, sent := max start stop } ∧
              ∀ k, start ≤ k → k < stop → Output.dict m a.tid 4 index sub (if k + 1 = segCount t.data then 1 else 0) k (BitVec.ofNat 32 (if k = 0 then t.size else 0)) ((t.data.drop (64 * k)).take 64) t.auth ∈ s.chip.sent c))) ∧
        (∀ code, Completes (.dictAbort a index sub code) s fun c => c.openXfer a.req a.tid = none ∧ s.chip.keepsBut [.ring] c ∧
          c.ring.closed.head? = some { req := a.req, tid := a.tid, index := index, sub := sub, cmd := if t.write = true then 3 else 1, answer := .abort code }) ∧
        (s.chip.mgRuns = true → ended (.transferTimeout a.req a.tid) abTimeout) ∧
        (t.write = true → Completes (.segmentResendTimeout a.req a.tid) s s.chip.untouched) ∧
        (t.write = false → Completes (.segmentResendTimeout a.req a.tid) s fun c => s.chip.keepsBut [.ring, .outs] c ∧
          let stop := min (segCount t.data) (t.next + 16)
          c.openXfer a.req a.tid = some { t with sent := max t.next stop } ∧
          ∀ k, t.next ≤ k → k < stop → Output.dict m a.tid 4 index sub (if k + 1 = segCount t.data then 1 else 0) k (BitVec.ofNat 32 (if k = 0 then t.size else 0)) ((t.data.drop (64 * k)).take 64) t.auth ∈ s.chip.sent c)) ∧
    (s.chip.openXfer a.req a.tid = none → Completes (.transferTimeout a.req a.tid) s s.chip.untouched ∧ Completes (.segmentResendTimeout a.req a.tid) s s.chip.untouched) ∧
    Completes (.transferCacheExpired a.req a.tid) s fun c => s.chip.keepsBut [.ring] c ∧
      sameRing { s.chip.ring with closed := s.chip.ring.closed.filter fun k => !decide (k.req = a.req ∧ k.tid = a.tid) } c.ring

/-- Accesses of the control window and of a head's configuration space. A write of a mapped entry, or of its
aliases, is posted while fewer than 64 wait, and taken in order once firmware and MG run: the value goes
through the checks of its entry, the low half of a pair waits for the high half, an alias sets, clears or
toggles bits; a refused one is dropped and latched. A register of the head's own blocks takes the effect of
its bits. What is not implemented, and in the full configuration a write that changes a bit it may not, ends
in a completer abort there and in nothing in the small configurations. A read gives the register or entry, its
reserved bits unspecified in the small configurations; a read of what is not implemented gives all ones with a
completer abort, or an unspecified value there. Cue ring entries take writes of 4 to 64 bytes and give 64 in
one read. A BAR is written and read at its own head. (00 R12, 00 R13, 02 R64, 03 R79, 13 R371, 13 R372, 13
R374, 13 R375, 13 R376, 13 R377, 02 Table 02-9, 03 Table 03-12.) -/
def Obligations.WindowWrites : Prop :=
  ∀ (s : State) (h : HeadNo) (index : BitVec 16) (sub : BitVec 8) (part : WinPart) (x : BitVec 32) (v : BitVec 64),
    let d := s.chip.head h
    let dropped (i : Instr) : Prop := Completes i s fun c => c.outs = s.chip.outs ++ (if s.chip.id.part.full = true then [.completerAbort h] else []) ∧ s.chip.keepsBut [.outs] c
    let onHead (i : Instr) (e : Head) : Prop := Completes i s fun c => c.head h = e ∧ (∀ k, k ≠ h → c.head k = s.chip.head k) ∧ s.chip.keepsBut [.heads] c
    let alias_ (k : AliasKind) (r : WinReg) : Instr := match k with | .set => .setAlias h r x | .clear => .clearAlias h r x | .toggle => .toggleAlias h r x
    let post (i : Instr) (w : WinWrite) : Prop :=
      (s.chip.windowOpen h = false ∨ s.chip.boot.romDone = false ∨ s.chip.boot.rom = true ∨ 64 ≤ d.pendingWin.length → Completes i s s.chip.untouched) ∧
      (s.chip.windowOpen h = true → s.chip.boot.romDone = true → s.chip.boot.rom = false → d.pendingWin.length < 64 →
        (s.chip.winEntry w.index w.sub w.part = none → dropped i) ∧
        ((s.chip.winEntry w.index w.sub w.part).isSome = true → onHead i { d with pendingWin := d.pendingWin ++ [w] }))
    post (.windowWrite h index sub part v) { index := index.toNat, sub := sub.toNat, part := part, value := v } ∧
    (part ≠ .pair → post (.registerWrite h (.write (.entry index sub part)) x) { index := index.toNat, sub := sub.toNat, part := part, value := x.setWidth 64 } ∧
      ∀ k, post (alias_ k (.entry index sub part)) { index := index.toNat, sub := sub.toNat, part := part, value := x.setWidth 64, kind := some k }) ∧
    (s.chip.windowOpen h = true → (dropped (.registerWrite h (.write (.entry index sub .pair)) x)) ∧ ∀ k, dropped (alias_ k (.entry index sub .pair))) ∧
    (d.pendingWin = [] ∨ s.chip.boot.mainOut = false ∨ s.chip.boot.romDone = false ∨ s.chip.boot.rom = true ∨ s.chip.mgRuns = false → Completes (.windowWriteApply h) s s.chip.untouched) ∧
    (∀ (w : WinWrite) (rest : List WinWrite) (r : DictRow), d.pendingWin = w :: rest → s.chip.boot.mainOut = true → s.chip.boot.romDone = true → s.chip.boot.rom = false →
      s.chip.mgRuns = true → s.chip.winEntry w.index w.sub w.part = some r →
      let a : Access := { req := .window h }
      let key := dictKey w.index w.sub
      let old := s.chip.dictValue (.window h) r w.sub
      let wide := 2 ^ (8 * r.type.size)
      let refused (code : Nat) : Prop := Completes (.windowWriteApply h) s fun c => (c.head h).pendingWin = rest ∧ Output.completerAbort h ∈ s.chip.sent c ∧ (c.head h).winErr = true ∧
        (d.winErr = false → (c.head h).winErrCode = BitVec.ofNat 32 code ∧ (c.head h).winErrOffset = s.chip.windowOffset w.index w.sub + (if w.part = .high then 4 else 0)) ∧ s.chip.only c []
      let stores (n : Nat) : Prop :=
        (r.acc = .ro → s.chip.id.part.full = true → refused abWriteLocked) ∧
        (r.acc ≠ .ro → s.chip.writeFault a r w.sub (toBytes r.type.size n) ≠ 0 → refused (s.chip.writeFault a r w.sub (toBytes r.type.size n))) ∧
        (r.acc ≠ .ro → s.chip.writeFault a r w.sub (toBytes r.type.size n) = 0 → w.index = 0x1120 ∨ w.index = 0x6005 ∨ w.index = 0x6011 → s.chip.ledger.failed = false →
          Completes (.windowWriteApply h) s fun c => (c.head h).pendingWin = rest ∧ (c.head h).winErr = d.winErr ∧ (∀ z, c.par w.index w.sub z = n % wide) ∧ s.chip.only c [.ledger, .boot])
      (w.part = .word → w.kind = none → (s.chip.id.part.full = true → wide ≤ w.value.toNat → refused abWriteLocked) ∧
        (s.chip.id.part.full = false ∨ w.value.toNat < wide → stores (w.value.toNat % wide))) ∧
      (w.part = .low → w.kind = none → Completes (.windowWriteApply h) s fun c => (key, w.value.setWidth 32) ∈ (c.head h).heldLow ∧ (c.head h).pendingWin = rest ∧ s.chip.only c []) ∧
      (w.part = .high → w.kind = none → ∀ low, d.heldLow.find? (fun p => decide (p.1 = key)) = some (key, low) → stores (w.value.toNat % 2 ^ 32 * 2 ^ 32 + low.toNat)) ∧
      (∀ k, w.part = .word → w.kind = some k →
        let rw := if r.acc = .rw then wide - 1 - rsvMask r w.sub else 0
        let bits := w.value.toNat % 2 ^ 32
        (s.chip.id.part.full = true → bits &&& rw ≠ bits → refused abWriteLocked) ∧
        (s.chip.id.part.full = false ∨ bits &&& rw = bits → r.acc = .rw → stores (k.apply old (bits % 2 ^ (8 * min 4 r.type.size)))))) ∧
    (s.chip.windowOpen h = false → ∀ r, Completes (.registerWrite h (.write r) x) s s.chip.untouched ∧ ∀ k, Completes (alias_ k r) s s.chip.untouched) ∧
    (s.chip.windowOpen h = true → ∀ (off : BitVec 20) (b : List Byte) (n : Nat) (k : Fin 3) (high : Bool),
      let o := off.toNat
      let cue := 0x80000 ≤ o ∧ o < 0x84000
      let read (w : WinAccess) (n : Nat) (loc : Nat) (known : Option (Nat × Nat)) : Prop := Completes (.registerWrite h w x) s fun c => s.chip.keepsBut [.outs, .cache] c ∧
        (match known with
        | none => c.outs = s.chip.outs ++ (if s.chip.id.part.full = true then [.completerAbort h, .windowRead h (List.replicate n 0xFF)]
            else [.windowRead h (toBytes n (Config.unspecified loc s.chip.cache.choice))])
        | some (v, mask) => ∃ x, c.outs = s.chip.outs ++ [.windowRead h (toBytes n x)] ∧ (s.chip.id.part.full = true → x = v) ∧
            ∀ i, mask.testBit i = false → x.testBit i = v.testBit i)
      (cue → (n = 4 ∨ n = 8 ∨ n = 16 ∨ n = 32 ∨ n = 64) → o % n = 0 → b.length = n →
        onHead (.registerWrite h (.writeBytes off b) x) { d with cue := { d.cue with entries := d.cue.entries.write (o - 0x80000) b } } ∧
        Completes (.registerWrite h (.readBytes off n) x) s fun c => c.outs = s.chip.outs ++ [.windowRead h (d.cue.entries.read (o - 0x80000) n)] ∧ s.chip.keepsBut [.outs] c) ∧
      (¬ cue → b.length ≠ 4 → dropped (.registerWrite h (.writeBytes off b) x)) ∧
      (¬ cue → n ≠ 4 → read (.readBytes off n) n o none) ∧
      read (.read (.reg off)) 4 (if s.chip.winRegister h (unalias o) = none then o else unalias o) ((s.chip.winRegister h (unalias o)).map fun r => (r.value, r.rsv)) ∧
      read (.read (.entry index sub part)) (if part = .pair then 8 else 4) (dictKey index.toNat sub.toNat)
        ((s.chip.winEntry index.toNat sub.toNat part).map fun r =>
          let v := if r.acc = .wo then 0 else s.chip.dictValue (.window h) r sub.toNat
          (partOf part v, partOf part ((if r.type.size < 4 then 2 ^ 32 - 2 ^ (8 * r.type.size) else 0) + (if r.acc = .wo then 0 else rsvMask r sub.toNat)))) ∧
      (Completes (.registerWrite h (.configWrite (.bar k high)) x) s fun c => c.head h = { d with bars := (c.head h).bars } ∧
        ((c.head h).bars.get k).toNat = (if high then x.toNat * 2 ^ 32 + (d.bars.get k).toNat % 2 ^ 32 else (d.bars.get k).toNat / 2 ^ 32 * 2 ^ 32 + x.toNat) ∧
        (∀ j, j ≠ k → (c.head h).bars.get j = d.bars.get j) ∧ (∀ j, j ≠ h → c.head j = s.chip.head j) ∧ s.chip.keepsBut [.heads] c) ∧
      (∀ r, Completes (.registerWrite h (.configRead r) x) s fun c => c.outs = s.chip.outs ++ [.configRead h (match r with
        | .ids => [s.chip.id.vendor.toNat, s.chip.id.device.toNat]
        | .serial hi => [if hi then s.chip.id.serial.toNat / 2 ^ 32 else s.chip.id.serial.toNat % 2 ^ 32]
        | .bar k hi => [if hi then d.barValue k / 2 ^ 32 else d.barValue k % 2 ^ 32]
        | .gpf => [1, 0])] ∧ s.chip.keepsBut [.outs] c)) ∧
    (s.chip.windowOpen h = true → ∀ off : BitVec 20,
      let o := off.toNat
      let i : Instr := .registerWrite h (.write (.reg off)) x
      (s.chip.winRegister h o = none → dropped i ∧ ∀ k, dropped (alias_ k (.reg off))) ∧
      ∀ r, s.chip.winRegister h o = some r →
        let mayNot := (x.toNat ^^^ r.value) &&& (r.rw ||| r.w1c ||| r.wo) ≠ x.toNat ^^^ r.value
        (s.chip.id.part.full = true → mayNot → dropped i) ∧
        (s.chip.id.part.full = false ∨ ¬ mayNot →
          (o = 0x10008 → onHead i { d with evt := d.evt &&& ~~~ BitVec.ofNat 6 x.toNat }) ∧
          (o = 0x23F80 → onHead i { d with winErr := d.winErr && !bit x.toNat 8 }) ∧
          (o = 0x90000 → exec i s = exec (.cueTail h (BitVec.ofNat 8 x.toNat)) s) ∧
          (o = 0x90008 → onHead i { d with cue := { d.cue with enable := bit x.toNat 0, irqEn := bit x.toNat 3, coalesce := BitVec.ofNat 8 (x.toNat / 16), resetBusy := d.cue.resetBusy || bit x.toNat 1 } }) ∧
          (o = 0x9000C → onHead i { d with cue := { d.cue with phaseErr := d.cue.phaseErr && !bit x.toNat 8, tailErr := d.cue.tailErr && !bit x.toNat 9 } }) ∧
          (0x80000 ≤ o → o < 0x84000 → onHead i { d with cue := { d.cue with entries := d.cue.entries.write (o - 0x80000) (toBytes 4 x.toNat) } }) ∧
          (o < 24 ∨ o = 0x10000 ∨ o = 0x10004 ∨ o = 0x1000C ∨ o = 0x23F84 ∨ o = 0x23F88 ∨ o = 0x90004 → Completes i s s.chip.untouched)) ∧
        ∀ k, let act : Instr := alias_ k (.reg off)
          (s.chip.id.part.full = true → x.toNat &&& r.rw ≠ x.toNat → dropped act) ∧
          (o = 0x10008 → s.chip.id.part.full = false → Completes act s s.chip.untouched) ∧
          (o = 0x90008 → s.chip.id.part.full = false ∨ x.toNat &&& 0xFF9 = x.toNat →
            let now (old : Bool) (n : Nat) : Bool := match k with | .set => old || bit x.toNat n | .clear => old && !bit x.toNat n | .toggle => old != bit x.toNat n
            onHead act { d with cue := { d.cue with enable := now d.cue.enable 0, irqEn := now d.cue.irqEn 3, coalesce := (match k with | .set => d.cue.coalesce ||| BitVec.ofNat 8 (x.toNat / 16) | .clear => d.cue.coalesce &&& ~~~ BitVec.ofNat 8 (x.toNat / 16) | .toggle => d.cue.coalesce ^^^ BitVec.ofNat 8 (x.toNat / 16)) } }))

/-- The stages of a start. The boot ROM enters recovery mode when asked, with no valid slot or with a failed
ledger, and otherwise loads the slot that the boot record and its probation give, or the slot it falls back
to. Training ends with each group's state by its members; the load waits for the budget; the load stage reads
store, poison list, counters and wrap record, poisons the dirty map after an unclean end, and stops on a lost
table. The pair stage sends REGISTER, then on time RENEW and CLAIM, again each second after a DENY; at service
the heads report Ready, the ways are locked and blank groups start. (15 R386, 15 R387, 15 R390, 15 R391, 15
R392, 15 R393, 15 R394, 15 R396, 15 R400, 15 R401, 01 R44, 10 R292.) -/
def Obligations.StartStages : Prop :=
  ∀ (s : State),
    let b := s.chip.boot
    let r0 := s.chip.bootRecord
    let r1 : BootRec := if r0.state = .pending then { r0 with state := .probation, attempts := 0, unclean := false } else r0
    let loads (r : BootRec) : Prop := Completes .bootRomSelect s fun c =>
      (s.chip.remapOk = true → s.chip.sec.rtvStep = 0 ∨ 7 ≤ s.chip.sec.rtvStep → c.boot.record = r ∧ c.boot.romDone = true ∧ c.boot.rom = false ∧ c.boot.stage = 3) ∧
      (s.chip.remapOk = false → c.boot.record = r ∧ c.boot.romDone = true ∧ c.boot.rom = false ∧ c.boot.stage = 15 ∧ c.boot.stopCause = 3)
    let recovers (cause : Nat) : Prop := Completes .bootRomSelect s fun c => c.boot.rom = true ∧ c.boot.stopCause = cause ∧ c.boot.stage = 2 ∧
      ∀ h ∈ s.chip.presentHeads, (s.chip.head h).perst = false → (s.chip.head h).link = .detect → (c.head h).link = .training
    let runs := b.stage = 2 ∧ b.mainOut = true ∧ b.rom = false ∧ b.romDone = false ∧ s.chip.pwr.state = .on
    (¬ runs → Completes .bootRomSelect s s.chip.untouched) ∧
    (runs → (s.chip.ledger.failed = true → recovers 2) ∧ (s.chip.ledger.failed = false → b.record.oldRegion = none →
      (r0.recovery = true ∨ (s.chip.slotValid false = false ∧ s.chip.slotValid true = false) → recovers 1) ∧
      (r0.recovery = false → s.chip.slotValid false = true ∨ s.chip.slotValid true = true →
        let tries := if r1.unclean = true then r1.attempts + 1 else r1.attempts
        let gone := s.chip.par 0x9000 4 3 ≤ tries ∨ s.chip.slotValid r1.active = false ∨ b.revert = true
        (r1.state = .confirmed → s.chip.slotValid r1.active = true → loads r1) ∧
        (r1.state = .confirmed → s.chip.slotValid r1.active = false → loads { r1 with active := !r1.active, fellBack := true }) ∧
        (r1.state = .probation → ¬ gone → loads { r1 with attempts := tries, unclean := true }) ∧
        (r1.state = .probation → gone → ∀ p, r1.previous = some p → s.chip.slotValid p = true → r1.oldRegion = none →
          loads { r1 with attempts := tries, active := p, previous := none, state := .confirmed, fellBack := true, unclean := false }) ∧
        (r1.state = .probation → gone → (∀ p, r1.previous = some p → s.chip.slotValid p = false) → recovers 1)))) ∧
    (let ready := b.stage = 3 ∧ b.hbmDone = true ∧ ∀ x ∈ s.chip.med.ch.toList, x.state ≠ .powering ∧ x.state ≠ .training
     let next (c : Chip) : Prop := c.boot.stage = if s.chip.squallExitBytes ≤ s.chip.res.published then 4 else 7
     (¬ ready → b.stage ≠ 7 → Completes .trainStageDone s s.chip.untouched) ∧
     (b.stage = 7 → Completes .trainStageDone s fun c => next c ∧ s.chip.keepsBut [.boot] c) ∧
     (ready → Completes .trainStageDone s fun c => next c ∧ s.chip.keepsBut [.med, .boot, .heads, .ledger, .ring, .outs] c ∧ (∀ n, (c.chan n).state = (s.chip.chan n).state) ∧
       ∀ g ∈ s.chip.groupNos, if (s.chip.group g).state = .initialising ∨ (s.chip.group g).evacuated = true then c.group g = s.chip.group g else
         let n := (List.range 9).countP fun m => decide ((s.chip.chan (memberChan g m)).state = .member)
         (c.group g).state = (if n = 9 then .healthy else if n = 8 then .degraded else if n = 0 then .empty else .failed) ∧
         ((c.group g).missing.isSome = true ↔ n = 8) ∧ (n = 8 → (s.chip.group g).state ≠ .degraded → (c.group g).epoch = (s.chip.group g).epoch + 1) ∧ (∀ m, (c.group g).missing = some m → (s.chip.chan (memberChan g m)).state ≠ .member))) ∧
    (∀ (ok : Bool) (ue : List (BitVec 22)), let i : Instr := .loadStage ok ue
      let d := s.chip.unreadable (ue.map BitVec.toNat)
      (b.stage ≠ 4 → b.stage ≠ 8 → Completes i s s.chip.untouched) ∧
      (b.stage = 8 → s.chip.sec.sanitizing = true → Completes i s s.chip.untouched) ∧
      (b.stage = 8 → s.chip.sec.sanitizing = false → Completes i s fun c => c.boot.stage = 5 ∧ s.chip.keepsBut [.boot] c) ∧
      (b.stage = 4 → b.unread = false → b.storeValid = false ∨ (s.chip.image.formatMin ≤ b.storeFormat ∧ b.storeFormat = s.chip.image.format) →
        let clean := ∃ n, d.wrapStored = some (2, n)
        (ok = false → Completes i s fun c => c.boot.stage = 15 ∧ c.boot.stopCause = 5 ∧ ∀ h : HeadNo, (c.head h).media = .error) ∧
        (ok = true → s.chip.sec.sanitizing = true → Completes i s fun c => c.boot.stage = 8 ∧ c.obj.table = []) ∧
        (ok = true → s.chip.sec.sanitizing = false → Completes i s fun c => c.boot.stage = 5 ∧ c.wit.seqHigh = d.counter 2 ∧
          c.ring.stored = (if b.storeValid = true then s.chip.ring.stored else []) ∧ (c.boot.storeDefaults = true ↔ b.storeValid = false) ∧
          (clean → c.twin.noWrap = false ∧ (∀ q ∈ c.integ.poison, ∃ p ∈ s.chip.integ.durable, p.line ≤ q.line ∧ q.line + q.len ≤ p.line + p.len) ∧
            s.chip.keepsBut [.twin, .wit, .integ, .ledger, .ring, .boot] c) ∧
          (¬ clean → c.twin.noWrap = true ∧ ∀ g ∈ s.chip.med.dirtyMap, ∀ p, s.chip.med.slots.find (segGran g) = some p →
            ∀ n < 64, (c.med.lines.find (medKey p g n)).map (·.poison) = some true)))) ∧
    (let leaves (i : Instr) (gs : List Grp) : Prop := Completes i s fun c => c.boot.stage = 6 ∧ s.chip.keepsBut gs c ∧
       ∀ h : HeadNo, (c.head h).link = if h ∈ s.chip.presentHeads ∧ (s.chip.head h).perst = false ∧ (s.chip.head h).link = .detect then .training else (s.chip.head h).link
     let frame (c : Chip) (type : Nat) : Prop := ∃ f, Output.witness f ∈ s.chip.sent c ∧ f.type = type ∧ f.drill = false ∧ f.chip = s.chip.id.serial ∧
       f.peer = s.chip.twin.twinSerial ∧ f.epoch = s.chip.twin.epoch
     let claims (c : Chip) : Prop := frame c 2 ∧ c.wit.renews = s.chip.wit.renews ++ [(s.chip.witSeq, s.chip.now)] ∧
       (s.chip.wit.claim = none → frame c 4 ∧ c.wit.claim = some s.chip.now ∧ c.wit.claimReason = 2) ∧ (s.chip.wit.claim.isSome = true → c.wit.claim = s.chip.wit.claim)
     (b.stage ≠ 5 ∨ b.romDone = false → Completes .pairStage s s.chip.untouched) ∧
     (b.stage = 5 → b.romDone = true →
       (s.chip.sec.locked = true → leaves .pairStage [.boot, .heads]) ∧
       (s.chip.sec.locked = false → s.chip.twin.twinSerial = 0 → s.chip.dolly.journal = [] → leaves .pairStage [.boot, .heads, .wit, .ledger, .ring]) ∧
       (s.chip.sec.locked = false → s.chip.twin.twinSerial ≠ 0 → s.chip.twin.peerHello = none → Completes .pairStage s fun c => frame c 1 ∧ c.boot.stage = 5 ∧ c.wit.seqLow = 1 ∧
         (s.chip.linkReady = true → s.chip.twin.helloSent = false → s.chip.wit.registered = true → s.chip.wrapping = false → ∃ m, s.chip.told c (.hello m) ∧ m.serial = s.chip.id.serial ∧ m.twin = s.chip.twin.twinSerial) ∧
         s.chip.keepsBut [.wit, .twin, .ledger, .ring, .outs] c)) ∧
     CompletesIf .pairStageTimeout s (s.chip.inPairStage = true ∧ b.stage ≠ 10 ∧ s.chip.twin.twinSerial ≠ 0 ∧ s.chip.sec.locked = false) (fun c =>
       (s.chip.wit.seqLow.toNat + 2 < 2 ^ 32 → claims c) ∧ s.chip.keepsBut [.wit, .ledger, .ring, .outs] c) ∧
     (b.stage ≠ 10 → Completes .claimDeniedRetry s s.chip.untouched) ∧
     (b.stage = 10 → s.chip.twin.peerHello = none → Completes .claimDeniedRetry s fun c =>
       (s.chip.wit.seqLow.toNat + 2 < 2 ^ 32 → claims c) ∧ s.chip.keepsBut [.wit, .twin, .ledger, .ring, .outs] c ∧
       (s.chip.linkReady = true → s.chip.mayHello = true → s.chip.wit.registered = true → ∃ m, s.chip.told c (.hello m) ∧ m.serial = s.chip.id.serial))) ∧
    (b.stage ≠ 6 ∨ s.chip.wrapping = true → Completes .entryIntoService s s.chip.untouched) ∧
    (b.stage = 6 → s.chip.wrapping = false → s.chip.twin.peerHello = none → Completes .entryIntoService s fun c => c.boot.stage = 0 ∧
      (∀ h : HeadNo, (c.head h).media = .ready ∧ (c.head h).memActive = true) ∧ c.cache.waysScratch = s.chip.par 0x3000 2 0 ∧ c.cache.waysPin = s.chip.par 0x3000 3 0 ∧
      c.boot.cdatSeq = b.cdatSeq + 1 ∧ c.boot.inServiceAt = s.chip.clk.ticks ∧ c.boot.bootTime = s.chip.now - 40 * b.startAt ∧
      (∀ g ∈ s.chip.groupNos, g ∈ s.chip.blankGroups ∨ (s.chip.group g).state = .initialising →
        (c.group g).state = .initialising ∧ ∃ o ∈ c.cache.wb, o.group = g ∧ o.cause = .initialisation)) ∧
    CompletesIf .probationElapsed s (s.chip.maySelfConfirm = true ∧ s.chip.ledger.failed = false ∧ s.chip.par 0x9000 5 600000000000 ≤ 40 * (s.chip.clk.ticks - b.inServiceAt)) (fun c =>
      c.boot.record = { b.record with state := .confirmed, previous := none, oldRegion := none, unclean := false, fellBack := false } ∧
      s.chip.keepsBut [.boot, .ledger, .ring, .outs] c) ∧
    CompletesIf .probationStartTimeout s (b.record.state = .probation ∧ b.romDone = true ∧ b.mainOut = true ∧ s.chip.inService = false ∧ ¬ (7 ≤ b.stage ∧ b.stage ≤ 10) ∧ s.chip.pwr.state = .on) fun c =>
      c.boot.mainOut = true ∧ c.boot.stage = 2 ∧ c.boot.romDone = false ∧ c.boot.record = b.record ∧ c.boot.images = b.images ∧ c.med.lines = s.chip.med.lines

/-- ROM recovery mode and the end of an idle transfer. In ROM recovery mode a query is answered with the state;
data in order is stored at its place in the slot and acknowledged with the next offset, data out of order is
answered with the offset expected, a wrong slot, a refused slot and a failed ledger with their STATUS. The end
of a download answers STATUS 4 with a faulty image, and otherwise STATUS 2, names the slot in the boot record
and starts anew. Outside ROM mode they have no effect. A transfer idle too long is dropped. (15 R389, 15 R396,
15 R397, 15 R398, 15 Table 15-7.) -/
def Obligations.RomRecovery : Prop :=
  ∀ (s : State) (slot ok : Bool),
    let b := s.chip.boot
    let serial := s.chip.id.serial.toNat
    let replies (i : Instr) (f : List Nat) : Prop := Completes i s fun c => c.outs = s.chip.outs ++ [.recoveryStatus f] ∧ s.chip.keepsBut [.outs] c
    let idle := if s.chip.ledger.failed = true then 7 else 0
    (∀ (off : Nat) (data : Line) (i : Instr), i = .recoveryQuery ∨ i = .recoveryData slot off data ok ∨ i = .recoveryEnd slot ok ∨ i = .recoveryDownloadTimeout →
      b.rom = false → Completes i s s.chip.untouched) ∧
    (b.rom = true →
      (b.upload = none → replies .recoveryQuery [5, 0, idle, 0, serial] ∧ replies (.recoveryEnd slot ok) [5, boolNat slot, idle, 0, serial] ∧
        Completes .recoveryDownloadTimeout s s.chip.untouched) ∧
      (∀ u, b.upload = some u → replies .recoveryQuery [5, boolNat u.slot, 1, 0, serial] ∧
        (u.via ≠ .recovery ∨ u.slot ≠ slot → replies (.recoveryEnd slot ok) [5, boolNat slot, 6, 0, serial]) ∧
        (u.via = .recovery → Completes .recoveryDownloadTimeout s fun c => c.boot = { b with upload := none, updState := 0, updError := 9, seen := c.boot.seen } ∧ s.chip.keepsBut [.boot] c) ∧
        (u.via = .recovery → u.slot = slot → s.chip.imageFault slot ok ≠ 0 → Completes (.recoveryEnd slot ok) s fun c =>
          c.outs = s.chip.outs ++ [.recoveryStatus [5, boolNat slot, 4, 0, serial]] ∧ c.boot.upload = none ∧ c.boot.updState = 4 ∧ c.boot.updError = s.chip.imageFault slot ok ∧
          s.chip.keepsBut [.boot, .outs] c) ∧
        (u.via = .recovery → u.slot = slot → s.chip.imageFault slot ok = 0 → Completes (.recoveryEnd slot ok) s fun c =>
          Output.recoveryStatus [5, boolNat slot, 2, 0, serial] ∈ s.chip.sent c ∧ c.boot.mainOut = true ∧ c.boot.stage = 2 ∧ c.boot.rom = false ∧ c.boot.upload = none ∧
          c.imageOf slot = s.chip.headerImage slot ∧
          (s.chip.slotValid (!slot) = true → c.boot.record = { b.record with previous := some b.record.active, active := slot, state := .pending }) ∧
          (s.chip.slotValid (!slot) = false → c.boot.record = { b.record with active := slot, state := .confirmed }))) ∧
      (∀ (off : Nat) (data : Line), let i : Instr := .recoveryData slot off data ok
        (s.chip.ledger.failed = true → replies i [5, boolNat slot, 7, 0, serial]) ∧
        (s.chip.ledger.failed = false → s.chip.storesWf →
          let stored (c : Chip) (at_ : Nat) : Prop := (∀ k < 64, c.ledger.cells.byte (slotBase slot + at_ + k) = (entryBytes data).getD k 0) ∧
            (∀ a, a < slotBase slot + at_ ∨ slotBase slot + at_ + 64 ≤ a → c.ledger.cells.byte a = s.chip.ledger.cells.byte a) ∧
            c.boot.upload = some { slot := slot, via := .recovery, next := at_ + 64 } ∧ Output.recoveryStatus [4, boolNat slot, 0, at_ + 64, 0] ∈ s.chip.sent c ∧
            s.chip.keepsBut [.boot, .ledger, .ring, .outs] c
          (b.upload = none → s.chip.recRefused slot = true → replies i [5, boolNat slot, 5, 0, serial]) ∧
          (b.upload = none → s.chip.recRefused slot = false → off ≠ 0 → replies i [4, boolNat slot, 0, 0, 0]) ∧
          (b.upload = none → s.chip.recRefused slot = false → off = 0 → Completes i s fun c => stored c 0 ∧ c.imageOf slot = {} ∧ c.boot.updState = 1) ∧
          ∀ u, b.upload = some u →
            (u.via ≠ .recovery ∨ u.slot ≠ slot → replies i [5, boolNat slot, 6, 0, serial]) ∧
            (u.via = .recovery → u.slot = slot → off ≠ u.next → replies i [4, boolNat slot, 0, u.next, 0]) ∧
            (u.via = .recovery → u.slot = slot → off = u.next → u.next + 64 < 4096 → Completes i s fun c => stored c u.next)))) ∧
    (b.upload = none → Completes .updIdleTimeout s s.chip.untouched) ∧
    ∀ u, b.upload = some u → (u.via = .recovery → Completes .updIdleTimeout s s.chip.untouched) ∧
      (u.via ≠ .recovery → Completes .updIdleTimeout s fun c => c.boot = { b with upload := none, updState := 0, updError := 9, seen := c.boot.seen } ∧ s.chip.keepsBut [.boot] c)
end

