-- ==== Sys2Proof/Laws/Memory.lean ====
section
/-! SUPPORT. Laws of the sorted tables and of the byte store: what a put, a delete and a write leave, and that
each keeps the canonical form. -/

namespace Sys2Proof

/-- Every key of the table is above `k`. -/
def SMap.above {α : Type} (k : Nat) (m : SMap α) : Prop := ∀ p ∈ m, k < p.1

theorem SMap.sorted_cons {α : Type} (k : Nat) (v : α) (m : SMap α) :
    SMap.sorted ((k, v) :: m) = true ↔ SMap.above k m ∧ SMap.sorted m = true := by
  induction m generalizing k v with
  | nil => simp [SMap.sorted, SMap.above]
  | cons p r ih =>
    obtain ⟨q, w⟩ := p
    simp only [SMap.sorted, Bool.and_eq_true, decide_eq_true_eq]
    constructor
    · rintro ⟨hk, hs⟩
      refine ⟨?_, hs⟩
      intro p hp
      rcases List.mem_cons.1 hp with rfl | hp
      · exact hk
      · exact Nat.lt_trans hk (((ih q w).1 hs).1 p hp)
    · rintro ⟨ha, hs⟩
      exact ⟨ha (q, w) (by simp), hs⟩

theorem SMap.find_none_of_above {α : Type} {k q : Nat} {m : SMap α} (h : SMap.above k m) (hq : q ≤ k) : SMap.find m q = none := by
  induction m with
  | nil => rfl
  | cons p r ih =>
    obtain ⟨j, w⟩ := p
    have hj : k < j := h (j, w) (by simp)
    simp only [SMap.find]
    rw [if_neg (by omega)]
    exact ih (fun p hp => h p (by simp [hp]))

@[simp] theorem SMap.find_put_self {α : Type} (m : SMap α) (q : Nat) (a : α) : (m.put q a).find q = some a := by
  induction m with
  | nil => simp [SMap.put, SMap.find]
  | cons p r ih =>
    obtain ⟨k, v⟩ := p
    simp only [SMap.put]
    split
    · simp [SMap.find]
    · split
      · simp [SMap.find]
      · rename_i _ h
        simp [SMap.find, h, ih]

theorem SMap.find_put_of_ne {α : Type} (m : SMap α) {q x : Nat} (a : α) (hx : x ≠ q) : (m.put q a).find x = m.find x := by
  induction m with
  | nil => simp [SMap.put, SMap.find, hx]
  | cons p r ih =>
    obtain ⟨k, v⟩ := p
    simp only [SMap.put]
    split
    · simp [SMap.find, hx]
    · split
      · rename_i _ h; subst h; simp [SMap.find, hx]
      · simp only [SMap.find, ih]

theorem SMap.above_put {α : Type} {k q : Nat} {m : SMap α} (a : α) (h : SMap.above k m) (hq : k < q) : SMap.above k (m.put q a) := by
  induction m with
  | nil => intro p hp; simp [SMap.put] at hp; subst hp; exact hq
  | cons p r ih =>
    obtain ⟨j, v⟩ := p
    have hr : SMap.above k r := fun p hp => h p (by simp [hp])
    simp only [SMap.put]
    split
    · intro p hp
      rcases List.mem_cons.1 hp with rfl | hp
      · exact hq
      · exact h p hp
    · split
      · intro p hp
        rcases List.mem_cons.1 hp with rfl | hp
        · exact hq
        · exact hr p hp
      · intro p hp
        rcases List.mem_cons.1 hp with rfl | hp
        · exact h (j, v) (by simp)
        · exact ih hr p hp

theorem SMap.sorted_put {α : Type} (m : SMap α) (q : Nat) (a : α) (h : SMap.sorted m = true) : SMap.sorted (m.put q a) = true := by
  induction m with
  | nil => rfl
  | cons p r ih =>
    obtain ⟨k, v⟩ := p
    have hs := (SMap.sorted_cons k v r).1 h
    simp only [SMap.put]
    split
    · rename_i hq
      refine (SMap.sorted_cons _ _ _).2 ⟨?_, h⟩
      intro p hp
      rcases List.mem_cons.1 hp with rfl | hp
      · exact hq
      · exact Nat.lt_trans hq (hs.1 p hp)
    · split
      · rename_i hq; subst hq; exact (SMap.sorted_cons _ _ _).2 hs
      · exact (SMap.sorted_cons _ _ _).2 ⟨SMap.above_put a hs.1 (by omega), ih hs.2⟩

theorem SMap.above_del {α : Type} {k : Nat} {m : SMap α} (q : Nat) (h : SMap.above k m) : SMap.above k (m.del q) := by
  induction m with
  | nil => exact h
  | cons p r ih =>
    obtain ⟨j, v⟩ := p
    have hr : SMap.above k r := fun p hp => h p (by simp [hp])
    simp only [SMap.del]
    split
    · exact hr
    · intro p hp
      rcases List.mem_cons.1 hp with rfl | hp
      · exact h (j, v) (by simp)
      · exact ih hr p hp

theorem SMap.sorted_del {α : Type} (m : SMap α) (q : Nat) (h : SMap.sorted m = true) : SMap.sorted (m.del q) = true := by
  induction m with
  | nil => rfl
  | cons p r ih =>
    obtain ⟨k, v⟩ := p
    have hs := (SMap.sorted_cons k v r).1 h
    simp only [SMap.del]
    split
    · exact hs.2
    · exact (SMap.sorted_cons _ _ _).2 ⟨SMap.above_del q hs.1, ih hs.2⟩

theorem SMap.find_del_self {α : Type} (m : SMap α) (q : Nat) (h : SMap.sorted m = true) : (m.del q).find q = none := by
  induction m with
  | nil => rfl
  | cons p r ih =>
    obtain ⟨k, v⟩ := p
    have hs := (SMap.sorted_cons k v r).1 h
    simp only [SMap.del]
    split
    · rename_i hq; subst hq; exact SMap.find_none_of_above hs.1 (Nat.le_refl _)
    · rename_i hq; simp [SMap.find, hq, ih hs.2]

theorem SMap.find_del_of_ne {α : Type} (m : SMap α) {q x : Nat} (hx : x ≠ q) : (m.del q).find x = m.find x := by
  induction m with
  | nil => rfl
  | cons p r ih =>
    obtain ⟨k, v⟩ := p
    simp only [SMap.del]
    split
    · rename_i hq; subst hq; simp [SMap.find, hx]
    · simp only [SMap.find, ih]

theorem SMap.mem_put {α : Type} {m : SMap α} {q : Nat} {a : α} {p : Nat × α} (h : p ∈ m.put q a) : p = (q, a) ∨ p ∈ m := by
  induction m with
  | nil => simp [SMap.put] at h; exact .inl h
  | cons x r ih =>
    obtain ⟨k, v⟩ := x
    simp only [SMap.put] at h
    split at h
    · rcases List.mem_cons.1 h with h | h
      · exact .inl h
      · exact .inr h
    · split at h
      · rcases List.mem_cons.1 h with h | h
        · exact .inl h
        · exact .inr (by simp [h])
      · rcases List.mem_cons.1 h with h | h
        · exact .inr (by simp [h])
        · rcases ih h with h | h
          · exact .inl h
          · exact .inr (by simp [h])

theorem SMap.mem_del {α : Type} {m : SMap α} {q : Nat} {p : Nat × α} (h : p ∈ m.del q) : p ∈ m := by
  induction m with
  | nil => exact h
  | cons x r ih =>
    obtain ⟨k, v⟩ := x
    simp only [SMap.del] at h
    split at h
    · simp [h]
    · rcases List.mem_cons.1 h with h | h
      · simp [h]
      · simp [ih h]

namespace Machine

/-- A byte written reads as written. -/
@[simp] theorem Memory.byte_setByte (m : Memory) (a : Nat) (b : Byte) (h : Memory.wf m = true) : (m.setByte a b).byte a = b := by
  simp only [Memory.wf, Bool.and_eq_true] at h
  unfold Memory.setByte Memory.byte SMap.putD
  split
  · rename_i hb; rw [SMap.find_del_self m a h.1, hb]; rfl
  · rw [SMap.find_put_self]; rfl

/-- A byte written leaves every other byte. -/
theorem Memory.byte_setByte_of_ne (m : Memory) {a x : Nat} (b : Byte) (hx : x ≠ a) : (m.setByte a b).byte x = m.byte x := by
  unfold Memory.setByte Memory.byte SMap.putD
  split
  · rw [SMap.find_del_of_ne m hx]
  · rw [SMap.find_put_of_ne m b hx]

/-- Writing a byte keeps the canonical form. -/
theorem Memory.wf_setByte (m : Memory) (a : Nat) (b : Byte) (h : Memory.wf m = true) : Memory.wf (m.setByte a b) = true := by
  simp only [Memory.wf, Bool.and_eq_true, List.all_eq_true] at h ⊢
  unfold Memory.setByte SMap.putD
  split
  · exact ⟨SMap.sorted_del m a h.1, fun p hp => h.2 p (SMap.mem_del hp)⟩
  · rename_i hb
    refine ⟨SMap.sorted_put m a b h.1, fun p hp => ?_⟩
    rcases SMap.mem_put hp with rfl | hp
    · simpa using hb
    · exact h.2 p hp

/-- Writing bytes keeps the canonical form. -/
theorem Memory.wf_write (m : Memory) (a : Nat) (b : List Byte) (h : Memory.wf m = true) : Memory.wf (m.write a b) = true := by
  induction b generalizing m a with
  | nil => exact h
  | cons x r ih => exact ih _ _ (Memory.wf_setByte m a x h)

/-- Bytes written leave every byte outside them. -/
theorem Memory.byte_write_outside (m : Memory) (a : Nat) (b : List Byte) {x : Nat} (hx : x < a ∨ a + b.length ≤ x) :
    (m.write a b).byte x = m.byte x := by
  induction b generalizing m a with
  | nil => rfl
  | cons y r ih =>
    simp only [List.length_cons] at hx
    rw [Memory.write, ih _ _ (by omega), Memory.byte_setByte_of_ne m y (by omega)]

/-- Bytes written read as written. -/
theorem Memory.byte_write_inside (m : Memory) (a : Nat) (b : List Byte) {i : Nat} (hi : i < b.length) (h : Memory.wf m = true) :
    (m.write a b).byte (a + i) = b[i] := by
  induction b generalizing m a i with
  | nil => simp at hi
  | cons y r ih =>
    rw [Memory.write]
    cases i with
    | zero => rw [Nat.add_zero, Memory.byte_write_outside _ _ _ (by omega)]; simpa using Memory.byte_setByte m a y h
    | succ j =>
      have := ih (m.setByte a y) (a + 1) (i := j) (by simpa using hi) (Memory.wf_setByte m a y h)
      simpa [Nat.add_assoc, Nat.add_comm 1 j] using this

/-- A read gives as many bytes as it asks for. -/
@[simp] theorem Memory.length_read (m : Memory) (a n : Nat) : (m.read a n).length = n := by
  induction n generalizing a with
  | zero => rfl
  | succ k ih => simp [Memory.read, ih]

end Machine

end Sys2Proof
end

