-- ==== Sys2Proof/Laws/State.lean ====
section
/-! SUPPORT. One lemma per field per update of a chip: what each updater changes and what it
leaves as it was. -/

namespace Sys2Proof.Machine

@[simp] theorem Chip.onId_id (c : Chip) (g : Ident → Ident) : (c.onId g).id = g c.id := rfl
@[simp] theorem Chip.onId_clk (c : Chip) (g : Ident → Ident) : (c.onId g).clk = c.clk := rfl
@[simp] theorem Chip.onId_obj (c : Chip) (g : Ident → Ident) : (c.onId g).obj = c.obj := rfl
@[simp] theorem Chip.onId_cache (c : Chip) (g : Ident → Ident) : (c.onId g).cache = c.cache := rfl
@[simp] theorem Chip.onId_hbm (c : Chip) (g : Ident → Ident) : (c.onId g).hbm = c.hbm := rfl
@[simp] theorem Chip.onId_med (c : Chip) (g : Ident → Ident) : (c.onId g).med = c.med := rfl
@[simp] theorem Chip.onId_integ (c : Chip) (g : Ident → Ident) : (c.onId g).integ = c.integ := rfl
@[simp] theorem Chip.onId_dolly (c : Chip) (g : Ident → Ident) : (c.onId g).dolly = c.dolly := rfl
@[simp] theorem Chip.onId_twin (c : Chip) (g : Ident → Ident) : (c.onId g).twin = c.twin := rfl
@[simp] theorem Chip.onId_wit (c : Chip) (g : Ident → Ident) : (c.onId g).wit = c.wit := rfl
@[simp] theorem Chip.onId_pwr (c : Chip) (g : Ident → Ident) : (c.onId g).pwr = c.pwr := rfl
@[simp] theorem Chip.onId_res (c : Chip) (g : Ident → Ident) : (c.onId g).res = c.res := rfl
@[simp] theorem Chip.onId_wrap (c : Chip) (g : Ident → Ident) : (c.onId g).wrap = c.wrap := rfl
@[simp] theorem Chip.onId_ledger (c : Chip) (g : Ident → Ident) : (c.onId g).ledger = c.ledger := rfl
@[simp] theorem Chip.onId_sec (c : Chip) (g : Ident → Ident) : (c.onId g).sec = c.sec := rfl
@[simp] theorem Chip.onId_ring (c : Chip) (g : Ident → Ident) : (c.onId g).ring = c.ring := rfl
@[simp] theorem Chip.onId_boot (c : Chip) (g : Ident → Ident) : (c.onId g).boot = c.boot := rfl
@[simp] theorem Chip.onId_heads (c : Chip) (g : Ident → Ident) : (c.onId g).heads = c.heads := rfl
@[simp] theorem Chip.onId_cores (c : Chip) (g : Ident → Ident) : (c.onId g).cores = c.cores := rfl
@[simp] theorem Chip.onId_deferred (c : Chip) (g : Ident → Ident) : (c.onId g).deferred = c.deferred := rfl
@[simp] theorem Chip.onId_outs (c : Chip) (g : Ident → Ident) : (c.onId g).outs = c.outs := rfl
@[simp] theorem Chip.onClk_id (c : Chip) (g : Clock → Clock) : (c.onClk g).id = c.id := rfl
@[simp] theorem Chip.onClk_clk (c : Chip) (g : Clock → Clock) : (c.onClk g).clk = g c.clk := rfl
@[simp] theorem Chip.onClk_obj (c : Chip) (g : Clock → Clock) : (c.onClk g).obj = c.obj := rfl
@[simp] theorem Chip.onClk_cache (c : Chip) (g : Clock → Clock) : (c.onClk g).cache = c.cache := rfl
@[simp] theorem Chip.onClk_hbm (c : Chip) (g : Clock → Clock) : (c.onClk g).hbm = c.hbm := rfl
@[simp] theorem Chip.onClk_med (c : Chip) (g : Clock → Clock) : (c.onClk g).med = c.med := rfl
@[simp] theorem Chip.onClk_integ (c : Chip) (g : Clock → Clock) : (c.onClk g).integ = c.integ := rfl
@[simp] theorem Chip.onClk_dolly (c : Chip) (g : Clock → Clock) : (c.onClk g).dolly = c.dolly := rfl
@[simp] theorem Chip.onClk_twin (c : Chip) (g : Clock → Clock) : (c.onClk g).twin = c.twin := rfl
@[simp] theorem Chip.onClk_wit (c : Chip) (g : Clock → Clock) : (c.onClk g).wit = c.wit := rfl
@[simp] theorem Chip.onClk_pwr (c : Chip) (g : Clock → Clock) : (c.onClk g).pwr = c.pwr := rfl
@[simp] theorem Chip.onClk_res (c : Chip) (g : Clock → Clock) : (c.onClk g).res = c.res := rfl
@[simp] theorem Chip.onClk_wrap (c : Chip) (g : Clock → Clock) : (c.onClk g).wrap = c.wrap := rfl
@[simp] theorem Chip.onClk_ledger (c : Chip) (g : Clock → Clock) : (c.onClk g).ledger = c.ledger := rfl
@[simp] theorem Chip.onClk_sec (c : Chip) (g : Clock → Clock) : (c.onClk g).sec = c.sec := rfl
@[simp] theorem Chip.onClk_ring (c : Chip) (g : Clock → Clock) : (c.onClk g).ring = c.ring := rfl
@[simp] theorem Chip.onClk_boot (c : Chip) (g : Clock → Clock) : (c.onClk g).boot = c.boot := rfl
@[simp] theorem Chip.onClk_heads (c : Chip) (g : Clock → Clock) : (c.onClk g).heads = c.heads := rfl
@[simp] theorem Chip.onClk_cores (c : Chip) (g : Clock → Clock) : (c.onClk g).cores = c.cores := rfl
@[simp] theorem Chip.onClk_deferred (c : Chip) (g : Clock → Clock) : (c.onClk g).deferred = c.deferred := rfl
@[simp] theorem Chip.onClk_outs (c : Chip) (g : Clock → Clock) : (c.onClk g).outs = c.outs := rfl
@[simp] theorem Chip.onObj_id (c : Chip) (g : Objects → Objects) : (c.onObj g).id = c.id := rfl
@[simp] theorem Chip.onObj_clk (c : Chip) (g : Objects → Objects) : (c.onObj g).clk = c.clk := rfl
@[simp] theorem Chip.onObj_obj (c : Chip) (g : Objects → Objects) : (c.onObj g).obj = g c.obj := rfl
@[simp] theorem Chip.onObj_cache (c : Chip) (g : Objects → Objects) : (c.onObj g).cache = c.cache := rfl
@[simp] theorem Chip.onObj_hbm (c : Chip) (g : Objects → Objects) : (c.onObj g).hbm = c.hbm := rfl
@[simp] theorem Chip.onObj_med (c : Chip) (g : Objects → Objects) : (c.onObj g).med = c.med := rfl
@[simp] theorem Chip.onObj_integ (c : Chip) (g : Objects → Objects) : (c.onObj g).integ = c.integ := rfl
@[simp] theorem Chip.onObj_dolly (c : Chip) (g : Objects → Objects) : (c.onObj g).dolly = c.dolly := rfl
@[simp] theorem Chip.onObj_twin (c : Chip) (g : Objects → Objects) : (c.onObj g).twin = c.twin := rfl
@[simp] theorem Chip.onObj_wit (c : Chip) (g : Objects → Objects) : (c.onObj g).wit = c.wit := rfl
@[simp] theorem Chip.onObj_pwr (c : Chip) (g : Objects → Objects) : (c.onObj g).pwr = c.pwr := rfl
@[simp] theorem Chip.onObj_res (c : Chip) (g : Objects → Objects) : (c.onObj g).res = c.res := rfl
@[simp] theorem Chip.onObj_wrap (c : Chip) (g : Objects → Objects) : (c.onObj g).wrap = c.wrap := rfl
@[simp] theorem Chip.onObj_ledger (c : Chip) (g : Objects → Objects) : (c.onObj g).ledger = c.ledger := rfl
@[simp] theorem Chip.onObj_sec (c : Chip) (g : Objects → Objects) : (c.onObj g).sec = c.sec := rfl
@[simp] theorem Chip.onObj_ring (c : Chip) (g : Objects → Objects) : (c.onObj g).ring = c.ring := rfl
@[simp] theorem Chip.onObj_boot (c : Chip) (g : Objects → Objects) : (c.onObj g).boot = c.boot := rfl
@[simp] theorem Chip.onObj_heads (c : Chip) (g : Objects → Objects) : (c.onObj g).heads = c.heads := rfl
@[simp] theorem Chip.onObj_cores (c : Chip) (g : Objects → Objects) : (c.onObj g).cores = c.cores := rfl
@[simp] theorem Chip.onObj_deferred (c : Chip) (g : Objects → Objects) : (c.onObj g).deferred = c.deferred := rfl
@[simp] theorem Chip.onObj_outs (c : Chip) (g : Objects → Objects) : (c.onObj g).outs = c.outs := rfl
@[simp] theorem Chip.onCache_id (c : Chip) (g : Cache → Cache) : (c.onCache g).id = c.id := rfl
@[simp] theorem Chip.onCache_clk (c : Chip) (g : Cache → Cache) : (c.onCache g).clk = c.clk := rfl
@[simp] theorem Chip.onCache_obj (c : Chip) (g : Cache → Cache) : (c.onCache g).obj = c.obj := rfl
@[simp] theorem Chip.onCache_cache (c : Chip) (g : Cache → Cache) : (c.onCache g).cache = g c.cache := rfl
@[simp] theorem Chip.onCache_hbm (c : Chip) (g : Cache → Cache) : (c.onCache g).hbm = c.hbm := rfl
@[simp] theorem Chip.onCache_med (c : Chip) (g : Cache → Cache) : (c.onCache g).med = c.med := rfl
@[simp] theorem Chip.onCache_integ (c : Chip) (g : Cache → Cache) : (c.onCache g).integ = c.integ := rfl
@[simp] theorem Chip.onCache_dolly (c : Chip) (g : Cache → Cache) : (c.onCache g).dolly = c.dolly := rfl
@[simp] theorem Chip.onCache_twin (c : Chip) (g : Cache → Cache) : (c.onCache g).twin = c.twin := rfl
@[simp] theorem Chip.onCache_wit (c : Chip) (g : Cache → Cache) : (c.onCache g).wit = c.wit := rfl
@[simp] theorem Chip.onCache_pwr (c : Chip) (g : Cache → Cache) : (c.onCache g).pwr = c.pwr := rfl
@[simp] theorem Chip.onCache_res (c : Chip) (g : Cache → Cache) : (c.onCache g).res = c.res := rfl
@[simp] theorem Chip.onCache_wrap (c : Chip) (g : Cache → Cache) : (c.onCache g).wrap = c.wrap := rfl
@[simp] theorem Chip.onCache_ledger (c : Chip) (g : Cache → Cache) : (c.onCache g).ledger = c.ledger := rfl
@[simp] theorem Chip.onCache_sec (c : Chip) (g : Cache → Cache) : (c.onCache g).sec = c.sec := rfl
@[simp] theorem Chip.onCache_ring (c : Chip) (g : Cache → Cache) : (c.onCache g).ring = c.ring := rfl
@[simp] theorem Chip.onCache_boot (c : Chip) (g : Cache → Cache) : (c.onCache g).boot = c.boot := rfl
@[simp] theorem Chip.onCache_heads (c : Chip) (g : Cache → Cache) : (c.onCache g).heads = c.heads := rfl
@[simp] theorem Chip.onCache_cores (c : Chip) (g : Cache → Cache) : (c.onCache g).cores = c.cores := rfl
@[simp] theorem Chip.onCache_deferred (c : Chip) (g : Cache → Cache) : (c.onCache g).deferred = c.deferred := rfl
@[simp] theorem Chip.onCache_outs (c : Chip) (g : Cache → Cache) : (c.onCache g).outs = c.outs := rfl
@[simp] theorem Chip.onHbm_id (c : Chip) (g : Hbm → Hbm) : (c.onHbm g).id = c.id := rfl
@[simp] theorem Chip.onHbm_clk (c : Chip) (g : Hbm → Hbm) : (c.onHbm g).clk = c.clk := rfl
@[simp] theorem Chip.onHbm_obj (c : Chip) (g : Hbm → Hbm) : (c.onHbm g).obj = c.obj := rfl
@[simp] theorem Chip.onHbm_cache (c : Chip) (g : Hbm → Hbm) : (c.onHbm g).cache = c.cache := rfl
@[simp] theorem Chip.onHbm_hbm (c : Chip) (g : Hbm → Hbm) : (c.onHbm g).hbm = g c.hbm := rfl
@[simp] theorem Chip.onHbm_med (c : Chip) (g : Hbm → Hbm) : (c.onHbm g).med = c.med := rfl
@[simp] theorem Chip.onHbm_integ (c : Chip) (g : Hbm → Hbm) : (c.onHbm g).integ = c.integ := rfl
@[simp] theorem Chip.onHbm_dolly (c : Chip) (g : Hbm → Hbm) : (c.onHbm g).dolly = c.dolly := rfl
@[simp] theorem Chip.onHbm_twin (c : Chip) (g : Hbm → Hbm) : (c.onHbm g).twin = c.twin := rfl
@[simp] theorem Chip.onHbm_wit (c : Chip) (g : Hbm → Hbm) : (c.onHbm g).wit = c.wit := rfl
@[simp] theorem Chip.onHbm_pwr (c : Chip) (g : Hbm → Hbm) : (c.onHbm g).pwr = c.pwr := rfl
@[simp] theorem Chip.onHbm_res (c : Chip) (g : Hbm → Hbm) : (c.onHbm g).res = c.res := rfl
@[simp] theorem Chip.onHbm_wrap (c : Chip) (g : Hbm → Hbm) : (c.onHbm g).wrap = c.wrap := rfl
@[simp] theorem Chip.onHbm_ledger (c : Chip) (g : Hbm → Hbm) : (c.onHbm g).ledger = c.ledger := rfl
@[simp] theorem Chip.onHbm_sec (c : Chip) (g : Hbm → Hbm) : (c.onHbm g).sec = c.sec := rfl
@[simp] theorem Chip.onHbm_ring (c : Chip) (g : Hbm → Hbm) : (c.onHbm g).ring = c.ring := rfl
@[simp] theorem Chip.onHbm_boot (c : Chip) (g : Hbm → Hbm) : (c.onHbm g).boot = c.boot := rfl
@[simp] theorem Chip.onHbm_heads (c : Chip) (g : Hbm → Hbm) : (c.onHbm g).heads = c.heads := rfl
@[simp] theorem Chip.onHbm_cores (c : Chip) (g : Hbm → Hbm) : (c.onHbm g).cores = c.cores := rfl
@[simp] theorem Chip.onHbm_deferred (c : Chip) (g : Hbm → Hbm) : (c.onHbm g).deferred = c.deferred := rfl
@[simp] theorem Chip.onHbm_outs (c : Chip) (g : Hbm → Hbm) : (c.onHbm g).outs = c.outs := rfl
@[simp] theorem Chip.onMed_id (c : Chip) (g : Medium → Medium) : (c.onMed g).id = c.id := rfl
@[simp] theorem Chip.onMed_clk (c : Chip) (g : Medium → Medium) : (c.onMed g).clk = c.clk := rfl
@[simp] theorem Chip.onMed_obj (c : Chip) (g : Medium → Medium) : (c.onMed g).obj = c.obj := rfl
@[simp] theorem Chip.onMed_cache (c : Chip) (g : Medium → Medium) : (c.onMed g).cache = c.cache := rfl
@[simp] theorem Chip.onMed_hbm (c : Chip) (g : Medium → Medium) : (c.onMed g).hbm = c.hbm := rfl
@[simp] theorem Chip.onMed_med (c : Chip) (g : Medium → Medium) : (c.onMed g).med = g c.med := rfl
@[simp] theorem Chip.onMed_integ (c : Chip) (g : Medium → Medium) : (c.onMed g).integ = c.integ := rfl
@[simp] theorem Chip.onMed_dolly (c : Chip) (g : Medium → Medium) : (c.onMed g).dolly = c.dolly := rfl
@[simp] theorem Chip.onMed_twin (c : Chip) (g : Medium → Medium) : (c.onMed g).twin = c.twin := rfl
@[simp] theorem Chip.onMed_wit (c : Chip) (g : Medium → Medium) : (c.onMed g).wit = c.wit := rfl
@[simp] theorem Chip.onMed_pwr (c : Chip) (g : Medium → Medium) : (c.onMed g).pwr = c.pwr := rfl
@[simp] theorem Chip.onMed_res (c : Chip) (g : Medium → Medium) : (c.onMed g).res = c.res := rfl
@[simp] theorem Chip.onMed_wrap (c : Chip) (g : Medium → Medium) : (c.onMed g).wrap = c.wrap := rfl
@[simp] theorem Chip.onMed_ledger (c : Chip) (g : Medium → Medium) : (c.onMed g).ledger = c.ledger := rfl
@[simp] theorem Chip.onMed_sec (c : Chip) (g : Medium → Medium) : (c.onMed g).sec = c.sec := rfl
@[simp] theorem Chip.onMed_ring (c : Chip) (g : Medium → Medium) : (c.onMed g).ring = c.ring := rfl
@[simp] theorem Chip.onMed_boot (c : Chip) (g : Medium → Medium) : (c.onMed g).boot = c.boot := rfl
@[simp] theorem Chip.onMed_heads (c : Chip) (g : Medium → Medium) : (c.onMed g).heads = c.heads := rfl
@[simp] theorem Chip.onMed_cores (c : Chip) (g : Medium → Medium) : (c.onMed g).cores = c.cores := rfl
@[simp] theorem Chip.onMed_deferred (c : Chip) (g : Medium → Medium) : (c.onMed g).deferred = c.deferred := rfl
@[simp] theorem Chip.onMed_outs (c : Chip) (g : Medium → Medium) : (c.onMed g).outs = c.outs := rfl
@[simp] theorem Chip.onInteg_id (c : Chip) (g : Integ → Integ) : (c.onInteg g).id = c.id := rfl
@[simp] theorem Chip.onInteg_clk (c : Chip) (g : Integ → Integ) : (c.onInteg g).clk = c.clk := rfl
@[simp] theorem Chip.onInteg_obj (c : Chip) (g : Integ → Integ) : (c.onInteg g).obj = c.obj := rfl
@[simp] theorem Chip.onInteg_cache (c : Chip) (g : Integ → Integ) : (c.onInteg g).cache = c.cache := rfl
@[simp] theorem Chip.onInteg_hbm (c : Chip) (g : Integ → Integ) : (c.onInteg g).hbm = c.hbm := rfl
@[simp] theorem Chip.onInteg_med (c : Chip) (g : Integ → Integ) : (c.onInteg g).med = c.med := rfl
@[simp] theorem Chip.onInteg_integ (c : Chip) (g : Integ → Integ) : (c.onInteg g).integ = g c.integ := rfl
@[simp] theorem Chip.onInteg_dolly (c : Chip) (g : Integ → Integ) : (c.onInteg g).dolly = c.dolly := rfl
@[simp] theorem Chip.onInteg_twin (c : Chip) (g : Integ → Integ) : (c.onInteg g).twin = c.twin := rfl
@[simp] theorem Chip.onInteg_wit (c : Chip) (g : Integ → Integ) : (c.onInteg g).wit = c.wit := rfl
@[simp] theorem Chip.onInteg_pwr (c : Chip) (g : Integ → Integ) : (c.onInteg g).pwr = c.pwr := rfl
@[simp] theorem Chip.onInteg_res (c : Chip) (g : Integ → Integ) : (c.onInteg g).res = c.res := rfl
@[simp] theorem Chip.onInteg_wrap (c : Chip) (g : Integ → Integ) : (c.onInteg g).wrap = c.wrap := rfl
@[simp] theorem Chip.onInteg_ledger (c : Chip) (g : Integ → Integ) : (c.onInteg g).ledger = c.ledger := rfl
@[simp] theorem Chip.onInteg_sec (c : Chip) (g : Integ → Integ) : (c.onInteg g).sec = c.sec := rfl
@[simp] theorem Chip.onInteg_ring (c : Chip) (g : Integ → Integ) : (c.onInteg g).ring = c.ring := rfl
@[simp] theorem Chip.onInteg_boot (c : Chip) (g : Integ → Integ) : (c.onInteg g).boot = c.boot := rfl
@[simp] theorem Chip.onInteg_heads (c : Chip) (g : Integ → Integ) : (c.onInteg g).heads = c.heads := rfl
@[simp] theorem Chip.onInteg_cores (c : Chip) (g : Integ → Integ) : (c.onInteg g).cores = c.cores := rfl
@[simp] theorem Chip.onInteg_deferred (c : Chip) (g : Integ → Integ) : (c.onInteg g).deferred = c.deferred := rfl
@[simp] theorem Chip.onInteg_outs (c : Chip) (g : Integ → Integ) : (c.onInteg g).outs = c.outs := rfl
@[simp] theorem Chip.onDolly_id (c : Chip) (g : Dolly → Dolly) : (c.onDolly g).id = c.id := rfl
@[simp] theorem Chip.onDolly_clk (c : Chip) (g : Dolly → Dolly) : (c.onDolly g).clk = c.clk := rfl
@[simp] theorem Chip.onDolly_obj (c : Chip) (g : Dolly → Dolly) : (c.onDolly g).obj = c.obj := rfl
@[simp] theorem Chip.onDolly_cache (c : Chip) (g : Dolly → Dolly) : (c.onDolly g).cache = c.cache := rfl
@[simp] theorem Chip.onDolly_hbm (c : Chip) (g : Dolly → Dolly) : (c.onDolly g).hbm = c.hbm := rfl
@[simp] theorem Chip.onDolly_med (c : Chip) (g : Dolly → Dolly) : (c.onDolly g).med = c.med := rfl
@[simp] theorem Chip.onDolly_integ (c : Chip) (g : Dolly → Dolly) : (c.onDolly g).integ = c.integ := rfl
@[simp] theorem Chip.onDolly_dolly (c : Chip) (g : Dolly → Dolly) : (c.onDolly g).dolly = g c.dolly := rfl
@[simp] theorem Chip.onDolly_twin (c : Chip) (g : Dolly → Dolly) : (c.onDolly g).twin = c.twin := rfl
@[simp] theorem Chip.onDolly_wit (c : Chip) (g : Dolly → Dolly) : (c.onDolly g).wit = c.wit := rfl
@[simp] theorem Chip.onDolly_pwr (c : Chip) (g : Dolly → Dolly) : (c.onDolly g).pwr = c.pwr := rfl
@[simp] theorem Chip.onDolly_res (c : Chip) (g : Dolly → Dolly) : (c.onDolly g).res = c.res := rfl
@[simp] theorem Chip.onDolly_wrap (c : Chip) (g : Dolly → Dolly) : (c.onDolly g).wrap = c.wrap := rfl
@[simp] theorem Chip.onDolly_ledger (c : Chip) (g : Dolly → Dolly) : (c.onDolly g).ledger = c.ledger := rfl
@[simp] theorem Chip.onDolly_sec (c : Chip) (g : Dolly → Dolly) : (c.onDolly g).sec = c.sec := rfl
@[simp] theorem Chip.onDolly_ring (c : Chip) (g : Dolly → Dolly) : (c.onDolly g).ring = c.ring := rfl
@[simp] theorem Chip.onDolly_boot (c : Chip) (g : Dolly → Dolly) : (c.onDolly g).boot = c.boot := rfl
@[simp] theorem Chip.onDolly_heads (c : Chip) (g : Dolly → Dolly) : (c.onDolly g).heads = c.heads := rfl
@[simp] theorem Chip.onDolly_cores (c : Chip) (g : Dolly → Dolly) : (c.onDolly g).cores = c.cores := rfl
@[simp] theorem Chip.onDolly_deferred (c : Chip) (g : Dolly → Dolly) : (c.onDolly g).deferred = c.deferred := rfl
@[simp] theorem Chip.onDolly_outs (c : Chip) (g : Dolly → Dolly) : (c.onDolly g).outs = c.outs := rfl
@[simp] theorem Chip.onTwin_id (c : Chip) (g : Twin → Twin) : (c.onTwin g).id = c.id := rfl
@[simp] theorem Chip.onTwin_clk (c : Chip) (g : Twin → Twin) : (c.onTwin g).clk = c.clk := rfl
@[simp] theorem Chip.onTwin_obj (c : Chip) (g : Twin → Twin) : (c.onTwin g).obj = c.obj := rfl
@[simp] theorem Chip.onTwin_cache (c : Chip) (g : Twin → Twin) : (c.onTwin g).cache = c.cache := rfl
@[simp] theorem Chip.onTwin_hbm (c : Chip) (g : Twin → Twin) : (c.onTwin g).hbm = c.hbm := rfl
@[simp] theorem Chip.onTwin_med (c : Chip) (g : Twin → Twin) : (c.onTwin g).med = c.med := rfl
@[simp] theorem Chip.onTwin_integ (c : Chip) (g : Twin → Twin) : (c.onTwin g).integ = c.integ := rfl
@[simp] theorem Chip.onTwin_dolly (c : Chip) (g : Twin → Twin) : (c.onTwin g).dolly = c.dolly := rfl
@[simp] theorem Chip.onTwin_twin (c : Chip) (g : Twin → Twin) : (c.onTwin g).twin = g c.twin := rfl
@[simp] theorem Chip.onTwin_wit (c : Chip) (g : Twin → Twin) : (c.onTwin g).wit = c.wit := rfl
@[simp] theorem Chip.onTwin_pwr (c : Chip) (g : Twin → Twin) : (c.onTwin g).pwr = c.pwr := rfl
@[simp] theorem Chip.onTwin_res (c : Chip) (g : Twin → Twin) : (c.onTwin g).res = c.res := rfl
@[simp] theorem Chip.onTwin_wrap (c : Chip) (g : Twin → Twin) : (c.onTwin g).wrap = c.wrap := rfl
@[simp] theorem Chip.onTwin_ledger (c : Chip) (g : Twin → Twin) : (c.onTwin g).ledger = c.ledger := rfl
@[simp] theorem Chip.onTwin_sec (c : Chip) (g : Twin → Twin) : (c.onTwin g).sec = c.sec := rfl
@[simp] theorem Chip.onTwin_ring (c : Chip) (g : Twin → Twin) : (c.onTwin g).ring = c.ring := rfl
@[simp] theorem Chip.onTwin_boot (c : Chip) (g : Twin → Twin) : (c.onTwin g).boot = c.boot := rfl
@[simp] theorem Chip.onTwin_heads (c : Chip) (g : Twin → Twin) : (c.onTwin g).heads = c.heads := rfl
@[simp] theorem Chip.onTwin_cores (c : Chip) (g : Twin → Twin) : (c.onTwin g).cores = c.cores := rfl
@[simp] theorem Chip.onTwin_deferred (c : Chip) (g : Twin → Twin) : (c.onTwin g).deferred = c.deferred := rfl
@[simp] theorem Chip.onTwin_outs (c : Chip) (g : Twin → Twin) : (c.onTwin g).outs = c.outs := rfl
@[simp] theorem Chip.onWit_id (c : Chip) (g : Witness → Witness) : (c.onWit g).id = c.id := rfl
@[simp] theorem Chip.onWit_clk (c : Chip) (g : Witness → Witness) : (c.onWit g).clk = c.clk := rfl
@[simp] theorem Chip.onWit_obj (c : Chip) (g : Witness → Witness) : (c.onWit g).obj = c.obj := rfl
@[simp] theorem Chip.onWit_cache (c : Chip) (g : Witness → Witness) : (c.onWit g).cache = c.cache := rfl
@[simp] theorem Chip.onWit_hbm (c : Chip) (g : Witness → Witness) : (c.onWit g).hbm = c.hbm := rfl
@[simp] theorem Chip.onWit_med (c : Chip) (g : Witness → Witness) : (c.onWit g).med = c.med := rfl
@[simp] theorem Chip.onWit_integ (c : Chip) (g : Witness → Witness) : (c.onWit g).integ = c.integ := rfl
@[simp] theorem Chip.onWit_dolly (c : Chip) (g : Witness → Witness) : (c.onWit g).dolly = c.dolly := rfl
@[simp] theorem Chip.onWit_twin (c : Chip) (g : Witness → Witness) : (c.onWit g).twin = c.twin := rfl
@[simp] theorem Chip.onWit_wit (c : Chip) (g : Witness → Witness) : (c.onWit g).wit = g c.wit := rfl
@[simp] theorem Chip.onWit_pwr (c : Chip) (g : Witness → Witness) : (c.onWit g).pwr = c.pwr := rfl
@[simp] theorem Chip.onWit_res (c : Chip) (g : Witness → Witness) : (c.onWit g).res = c.res := rfl
@[simp] theorem Chip.onWit_wrap (c : Chip) (g : Witness → Witness) : (c.onWit g).wrap = c.wrap := rfl
@[simp] theorem Chip.onWit_ledger (c : Chip) (g : Witness → Witness) : (c.onWit g).ledger = c.ledger := rfl
@[simp] theorem Chip.onWit_sec (c : Chip) (g : Witness → Witness) : (c.onWit g).sec = c.sec := rfl
@[simp] theorem Chip.onWit_ring (c : Chip) (g : Witness → Witness) : (c.onWit g).ring = c.ring := rfl
@[simp] theorem Chip.onWit_boot (c : Chip) (g : Witness → Witness) : (c.onWit g).boot = c.boot := rfl
@[simp] theorem Chip.onWit_heads (c : Chip) (g : Witness → Witness) : (c.onWit g).heads = c.heads := rfl
@[simp] theorem Chip.onWit_cores (c : Chip) (g : Witness → Witness) : (c.onWit g).cores = c.cores := rfl
@[simp] theorem Chip.onWit_deferred (c : Chip) (g : Witness → Witness) : (c.onWit g).deferred = c.deferred := rfl
@[simp] theorem Chip.onWit_outs (c : Chip) (g : Witness → Witness) : (c.onWit g).outs = c.outs := rfl
@[simp] theorem Chip.onPwr_id (c : Chip) (g : Power → Power) : (c.onPwr g).id = c.id := rfl
@[simp] theorem Chip.onPwr_clk (c : Chip) (g : Power → Power) : (c.onPwr g).clk = c.clk := rfl
@[simp] theorem Chip.onPwr_obj (c : Chip) (g : Power → Power) : (c.onPwr g).obj = c.obj := rfl
@[simp] theorem Chip.onPwr_cache (c : Chip) (g : Power → Power) : (c.onPwr g).cache = c.cache := rfl
@[simp] theorem Chip.onPwr_hbm (c : Chip) (g : Power → Power) : (c.onPwr g).hbm = c.hbm := rfl
@[simp] theorem Chip.onPwr_med (c : Chip) (g : Power → Power) : (c.onPwr g).med = c.med := rfl
@[simp] theorem Chip.onPwr_integ (c : Chip) (g : Power → Power) : (c.onPwr g).integ = c.integ := rfl
@[simp] theorem Chip.onPwr_dolly (c : Chip) (g : Power → Power) : (c.onPwr g).dolly = c.dolly := rfl
@[simp] theorem Chip.onPwr_twin (c : Chip) (g : Power → Power) : (c.onPwr g).twin = c.twin := rfl
@[simp] theorem Chip.onPwr_wit (c : Chip) (g : Power → Power) : (c.onPwr g).wit = c.wit := rfl
@[simp] theorem Chip.onPwr_pwr (c : Chip) (g : Power → Power) : (c.onPwr g).pwr = g c.pwr := rfl
@[simp] theorem Chip.onPwr_res (c : Chip) (g : Power → Power) : (c.onPwr g).res = c.res := rfl
@[simp] theorem Chip.onPwr_wrap (c : Chip) (g : Power → Power) : (c.onPwr g).wrap = c.wrap := rfl
@[simp] theorem Chip.onPwr_ledger (c : Chip) (g : Power → Power) : (c.onPwr g).ledger = c.ledger := rfl
@[simp] theorem Chip.onPwr_sec (c : Chip) (g : Power → Power) : (c.onPwr g).sec = c.sec := rfl
@[simp] theorem Chip.onPwr_ring (c : Chip) (g : Power → Power) : (c.onPwr g).ring = c.ring := rfl
@[simp] theorem Chip.onPwr_boot (c : Chip) (g : Power → Power) : (c.onPwr g).boot = c.boot := rfl
@[simp] theorem Chip.onPwr_heads (c : Chip) (g : Power → Power) : (c.onPwr g).heads = c.heads := rfl
@[simp] theorem Chip.onPwr_cores (c : Chip) (g : Power → Power) : (c.onPwr g).cores = c.cores := rfl
@[simp] theorem Chip.onPwr_deferred (c : Chip) (g : Power → Power) : (c.onPwr g).deferred = c.deferred := rfl
@[simp] theorem Chip.onPwr_outs (c : Chip) (g : Power → Power) : (c.onPwr g).outs = c.outs := rfl
@[simp] theorem Chip.onRes_id (c : Chip) (g : Reserve → Reserve) : (c.onRes g).id = c.id := rfl
@[simp] theorem Chip.onRes_clk (c : Chip) (g : Reserve → Reserve) : (c.onRes g).clk = c.clk := rfl
@[simp] theorem Chip.onRes_obj (c : Chip) (g : Reserve → Reserve) : (c.onRes g).obj = c.obj := rfl
@[simp] theorem Chip.onRes_cache (c : Chip) (g : Reserve → Reserve) : (c.onRes g).cache = c.cache := rfl
@[simp] theorem Chip.onRes_hbm (c : Chip) (g : Reserve → Reserve) : (c.onRes g).hbm = c.hbm := rfl
@[simp] theorem Chip.onRes_med (c : Chip) (g : Reserve → Reserve) : (c.onRes g).med = c.med := rfl
@[simp] theorem Chip.onRes_integ (c : Chip) (g : Reserve → Reserve) : (c.onRes g).integ = c.integ := rfl
@[simp] theorem Chip.onRes_dolly (c : Chip) (g : Reserve → Reserve) : (c.onRes g).dolly = c.dolly := rfl
@[simp] theorem Chip.onRes_twin (c : Chip) (g : Reserve → Reserve) : (c.onRes g).twin = c.twin := rfl
@[simp] theorem Chip.onRes_wit (c : Chip) (g : Reserve → Reserve) : (c.onRes g).wit = c.wit := rfl
@[simp] theorem Chip.onRes_pwr (c : Chip) (g : Reserve → Reserve) : (c.onRes g).pwr = c.pwr := rfl
@[simp] theorem Chip.onRes_res (c : Chip) (g : Reserve → Reserve) : (c.onRes g).res = g c.res := rfl
@[simp] theorem Chip.onRes_wrap (c : Chip) (g : Reserve → Reserve) : (c.onRes g).wrap = c.wrap := rfl
@[simp] theorem Chip.onRes_ledger (c : Chip) (g : Reserve → Reserve) : (c.onRes g).ledger = c.ledger := rfl
@[simp] theorem Chip.onRes_sec (c : Chip) (g : Reserve → Reserve) : (c.onRes g).sec = c.sec := rfl
@[simp] theorem Chip.onRes_ring (c : Chip) (g : Reserve → Reserve) : (c.onRes g).ring = c.ring := rfl
@[simp] theorem Chip.onRes_boot (c : Chip) (g : Reserve → Reserve) : (c.onRes g).boot = c.boot := rfl
@[simp] theorem Chip.onRes_heads (c : Chip) (g : Reserve → Reserve) : (c.onRes g).heads = c.heads := rfl
@[simp] theorem Chip.onRes_cores (c : Chip) (g : Reserve → Reserve) : (c.onRes g).cores = c.cores := rfl
@[simp] theorem Chip.onRes_deferred (c : Chip) (g : Reserve → Reserve) : (c.onRes g).deferred = c.deferred := rfl
@[simp] theorem Chip.onRes_outs (c : Chip) (g : Reserve → Reserve) : (c.onRes g).outs = c.outs := rfl
@[simp] theorem Chip.onWrap_id (c : Chip) (g : Wrap → Wrap) : (c.onWrap g).id = c.id := rfl
@[simp] theorem Chip.onWrap_clk (c : Chip) (g : Wrap → Wrap) : (c.onWrap g).clk = c.clk := rfl
@[simp] theorem Chip.onWrap_obj (c : Chip) (g : Wrap → Wrap) : (c.onWrap g).obj = c.obj := rfl
@[simp] theorem Chip.onWrap_cache (c : Chip) (g : Wrap → Wrap) : (c.onWrap g).cache = c.cache := rfl
@[simp] theorem Chip.onWrap_hbm (c : Chip) (g : Wrap → Wrap) : (c.onWrap g).hbm = c.hbm := rfl
@[simp] theorem Chip.onWrap_med (c : Chip) (g : Wrap → Wrap) : (c.onWrap g).med = c.med := rfl
@[simp] theorem Chip.onWrap_integ (c : Chip) (g : Wrap → Wrap) : (c.onWrap g).integ = c.integ := rfl
@[simp] theorem Chip.onWrap_dolly (c : Chip) (g : Wrap → Wrap) : (c.onWrap g).dolly = c.dolly := rfl
@[simp] theorem Chip.onWrap_twin (c : Chip) (g : Wrap → Wrap) : (c.onWrap g).twin = c.twin := rfl
@[simp] theorem Chip.onWrap_wit (c : Chip) (g : Wrap → Wrap) : (c.onWrap g).wit = c.wit := rfl
@[simp] theorem Chip.onWrap_pwr (c : Chip) (g : Wrap → Wrap) : (c.onWrap g).pwr = c.pwr := rfl
@[simp] theorem Chip.onWrap_res (c : Chip) (g : Wrap → Wrap) : (c.onWrap g).res = c.res := rfl
@[simp] theorem Chip.onWrap_wrap (c : Chip) (g : Wrap → Wrap) : (c.onWrap g).wrap = g c.wrap := rfl
@[simp] theorem Chip.onWrap_ledger (c : Chip) (g : Wrap → Wrap) : (c.onWrap g).ledger = c.ledger := rfl
@[simp] theorem Chip.onWrap_sec (c : Chip) (g : Wrap → Wrap) : (c.onWrap g).sec = c.sec := rfl
@[simp] theorem Chip.onWrap_ring (c : Chip) (g : Wrap → Wrap) : (c.onWrap g).ring = c.ring := rfl
@[simp] theorem Chip.onWrap_boot (c : Chip) (g : Wrap → Wrap) : (c.onWrap g).boot = c.boot := rfl
@[simp] theorem Chip.onWrap_heads (c : Chip) (g : Wrap → Wrap) : (c.onWrap g).heads = c.heads := rfl
@[simp] theorem Chip.onWrap_cores (c : Chip) (g : Wrap → Wrap) : (c.onWrap g).cores = c.cores := rfl
@[simp] theorem Chip.onWrap_deferred (c : Chip) (g : Wrap → Wrap) : (c.onWrap g).deferred = c.deferred := rfl
@[simp] theorem Chip.onWrap_outs (c : Chip) (g : Wrap → Wrap) : (c.onWrap g).outs = c.outs := rfl
@[simp] theorem Chip.onLedger_id (c : Chip) (g : Ledger → Ledger) : (c.onLedger g).id = c.id := rfl
@[simp] theorem Chip.onLedger_clk (c : Chip) (g : Ledger → Ledger) : (c.onLedger g).clk = c.clk := rfl
@[simp] theorem Chip.onLedger_obj (c : Chip) (g : Ledger → Ledger) : (c.onLedger g).obj = c.obj := rfl
@[simp] theorem Chip.onLedger_cache (c : Chip) (g : Ledger → Ledger) : (c.onLedger g).cache = c.cache := rfl
@[simp] theorem Chip.onLedger_hbm (c : Chip) (g : Ledger → Ledger) : (c.onLedger g).hbm = c.hbm := rfl
@[simp] theorem Chip.onLedger_med (c : Chip) (g : Ledger → Ledger) : (c.onLedger g).med = c.med := rfl
@[simp] theorem Chip.onLedger_integ (c : Chip) (g : Ledger → Ledger) : (c.onLedger g).integ = c.integ := rfl
@[simp] theorem Chip.onLedger_dolly (c : Chip) (g : Ledger → Ledger) : (c.onLedger g).dolly = c.dolly := rfl
@[simp] theorem Chip.onLedger_twin (c : Chip) (g : Ledger → Ledger) : (c.onLedger g).twin = c.twin := rfl
@[simp] theorem Chip.onLedger_wit (c : Chip) (g : Ledger → Ledger) : (c.onLedger g).wit = c.wit := rfl
@[simp] theorem Chip.onLedger_pwr (c : Chip) (g : Ledger → Ledger) : (c.onLedger g).pwr = c.pwr := rfl
@[simp] theorem Chip.onLedger_res (c : Chip) (g : Ledger → Ledger) : (c.onLedger g).res = c.res := rfl
@[simp] theorem Chip.onLedger_wrap (c : Chip) (g : Ledger → Ledger) : (c.onLedger g).wrap = c.wrap := rfl
@[simp] theorem Chip.onLedger_ledger (c : Chip) (g : Ledger → Ledger) : (c.onLedger g).ledger = g c.ledger := rfl
@[simp] theorem Chip.onLedger_sec (c : Chip) (g : Ledger → Ledger) : (c.onLedger g).sec = c.sec := rfl
@[simp] theorem Chip.onLedger_ring (c : Chip) (g : Ledger → Ledger) : (c.onLedger g).ring = c.ring := rfl
@[simp] theorem Chip.onLedger_boot (c : Chip) (g : Ledger → Ledger) : (c.onLedger g).boot = c.boot := rfl
@[simp] theorem Chip.onLedger_heads (c : Chip) (g : Ledger → Ledger) : (c.onLedger g).heads = c.heads := rfl
@[simp] theorem Chip.onLedger_cores (c : Chip) (g : Ledger → Ledger) : (c.onLedger g).cores = c.cores := rfl
@[simp] theorem Chip.onLedger_deferred (c : Chip) (g : Ledger → Ledger) : (c.onLedger g).deferred = c.deferred := rfl
@[simp] theorem Chip.onLedger_outs (c : Chip) (g : Ledger → Ledger) : (c.onLedger g).outs = c.outs := rfl
@[simp] theorem Chip.onSec_id (c : Chip) (g : Security → Security) : (c.onSec g).id = c.id := rfl
@[simp] theorem Chip.onSec_clk (c : Chip) (g : Security → Security) : (c.onSec g).clk = c.clk := rfl
@[simp] theorem Chip.onSec_obj (c : Chip) (g : Security → Security) : (c.onSec g).obj = c.obj := rfl
@[simp] theorem Chip.onSec_cache (c : Chip) (g : Security → Security) : (c.onSec g).cache = c.cache := rfl
@[simp] theorem Chip.onSec_hbm (c : Chip) (g : Security → Security) : (c.onSec g).hbm = c.hbm := rfl
@[simp] theorem Chip.onSec_med (c : Chip) (g : Security → Security) : (c.onSec g).med = c.med := rfl
@[simp] theorem Chip.onSec_integ (c : Chip) (g : Security → Security) : (c.onSec g).integ = c.integ := rfl
@[simp] theorem Chip.onSec_dolly (c : Chip) (g : Security → Security) : (c.onSec g).dolly = c.dolly := rfl
@[simp] theorem Chip.onSec_twin (c : Chip) (g : Security → Security) : (c.onSec g).twin = c.twin := rfl
@[simp] theorem Chip.onSec_wit (c : Chip) (g : Security → Security) : (c.onSec g).wit = c.wit := rfl
@[simp] theorem Chip.onSec_pwr (c : Chip) (g : Security → Security) : (c.onSec g).pwr = c.pwr := rfl
@[simp] theorem Chip.onSec_res (c : Chip) (g : Security → Security) : (c.onSec g).res = c.res := rfl
@[simp] theorem Chip.onSec_wrap (c : Chip) (g : Security → Security) : (c.onSec g).wrap = c.wrap := rfl
@[simp] theorem Chip.onSec_ledger (c : Chip) (g : Security → Security) : (c.onSec g).ledger = c.ledger := rfl
@[simp] theorem Chip.onSec_sec (c : Chip) (g : Security → Security) : (c.onSec g).sec = g c.sec := rfl
@[simp] theorem Chip.onSec_ring (c : Chip) (g : Security → Security) : (c.onSec g).ring = c.ring := rfl
@[simp] theorem Chip.onSec_boot (c : Chip) (g : Security → Security) : (c.onSec g).boot = c.boot := rfl
@[simp] theorem Chip.onSec_heads (c : Chip) (g : Security → Security) : (c.onSec g).heads = c.heads := rfl
@[simp] theorem Chip.onSec_cores (c : Chip) (g : Security → Security) : (c.onSec g).cores = c.cores := rfl
@[simp] theorem Chip.onSec_deferred (c : Chip) (g : Security → Security) : (c.onSec g).deferred = c.deferred := rfl
@[simp] theorem Chip.onSec_outs (c : Chip) (g : Security → Security) : (c.onSec g).outs = c.outs := rfl
@[simp] theorem Chip.onRing_id (c : Chip) (g : Ring → Ring) : (c.onRing g).id = c.id := rfl
@[simp] theorem Chip.onRing_clk (c : Chip) (g : Ring → Ring) : (c.onRing g).clk = c.clk := rfl
@[simp] theorem Chip.onRing_obj (c : Chip) (g : Ring → Ring) : (c.onRing g).obj = c.obj := rfl
@[simp] theorem Chip.onRing_cache (c : Chip) (g : Ring → Ring) : (c.onRing g).cache = c.cache := rfl
@[simp] theorem Chip.onRing_hbm (c : Chip) (g : Ring → Ring) : (c.onRing g).hbm = c.hbm := rfl
@[simp] theorem Chip.onRing_med (c : Chip) (g : Ring → Ring) : (c.onRing g).med = c.med := rfl
@[simp] theorem Chip.onRing_integ (c : Chip) (g : Ring → Ring) : (c.onRing g).integ = c.integ := rfl
@[simp] theorem Chip.onRing_dolly (c : Chip) (g : Ring → Ring) : (c.onRing g).dolly = c.dolly := rfl
@[simp] theorem Chip.onRing_twin (c : Chip) (g : Ring → Ring) : (c.onRing g).twin = c.twin := rfl
@[simp] theorem Chip.onRing_wit (c : Chip) (g : Ring → Ring) : (c.onRing g).wit = c.wit := rfl
@[simp] theorem Chip.onRing_pwr (c : Chip) (g : Ring → Ring) : (c.onRing g).pwr = c.pwr := rfl
@[simp] theorem Chip.onRing_res (c : Chip) (g : Ring → Ring) : (c.onRing g).res = c.res := rfl
@[simp] theorem Chip.onRing_wrap (c : Chip) (g : Ring → Ring) : (c.onRing g).wrap = c.wrap := rfl
@[simp] theorem Chip.onRing_ledger (c : Chip) (g : Ring → Ring) : (c.onRing g).ledger = c.ledger := rfl
@[simp] theorem Chip.onRing_sec (c : Chip) (g : Ring → Ring) : (c.onRing g).sec = c.sec := rfl
@[simp] theorem Chip.onRing_ring (c : Chip) (g : Ring → Ring) : (c.onRing g).ring = g c.ring := rfl
@[simp] theorem Chip.onRing_boot (c : Chip) (g : Ring → Ring) : (c.onRing g).boot = c.boot := rfl
@[simp] theorem Chip.onRing_heads (c : Chip) (g : Ring → Ring) : (c.onRing g).heads = c.heads := rfl
@[simp] theorem Chip.onRing_cores (c : Chip) (g : Ring → Ring) : (c.onRing g).cores = c.cores := rfl
@[simp] theorem Chip.onRing_deferred (c : Chip) (g : Ring → Ring) : (c.onRing g).deferred = c.deferred := rfl
@[simp] theorem Chip.onRing_outs (c : Chip) (g : Ring → Ring) : (c.onRing g).outs = c.outs := rfl
@[simp] theorem Chip.onBoot_id (c : Chip) (g : Boot → Boot) : (c.onBoot g).id = c.id := rfl
@[simp] theorem Chip.onBoot_clk (c : Chip) (g : Boot → Boot) : (c.onBoot g).clk = c.clk := rfl
@[simp] theorem Chip.onBoot_obj (c : Chip) (g : Boot → Boot) : (c.onBoot g).obj = c.obj := rfl
@[simp] theorem Chip.onBoot_cache (c : Chip) (g : Boot → Boot) : (c.onBoot g).cache = c.cache := rfl
@[simp] theorem Chip.onBoot_hbm (c : Chip) (g : Boot → Boot) : (c.onBoot g).hbm = c.hbm := rfl
@[simp] theorem Chip.onBoot_med (c : Chip) (g : Boot → Boot) : (c.onBoot g).med = c.med := rfl
@[simp] theorem Chip.onBoot_integ (c : Chip) (g : Boot → Boot) : (c.onBoot g).integ = c.integ := rfl
@[simp] theorem Chip.onBoot_dolly (c : Chip) (g : Boot → Boot) : (c.onBoot g).dolly = c.dolly := rfl
@[simp] theorem Chip.onBoot_twin (c : Chip) (g : Boot → Boot) : (c.onBoot g).twin = c.twin := rfl
@[simp] theorem Chip.onBoot_wit (c : Chip) (g : Boot → Boot) : (c.onBoot g).wit = c.wit := rfl
@[simp] theorem Chip.onBoot_pwr (c : Chip) (g : Boot → Boot) : (c.onBoot g).pwr = c.pwr := rfl
@[simp] theorem Chip.onBoot_res (c : Chip) (g : Boot → Boot) : (c.onBoot g).res = c.res := rfl
@[simp] theorem Chip.onBoot_wrap (c : Chip) (g : Boot → Boot) : (c.onBoot g).wrap = c.wrap := rfl
@[simp] theorem Chip.onBoot_ledger (c : Chip) (g : Boot → Boot) : (c.onBoot g).ledger = c.ledger := rfl
@[simp] theorem Chip.onBoot_sec (c : Chip) (g : Boot → Boot) : (c.onBoot g).sec = c.sec := rfl
@[simp] theorem Chip.onBoot_ring (c : Chip) (g : Boot → Boot) : (c.onBoot g).ring = c.ring := rfl
@[simp] theorem Chip.onBoot_boot (c : Chip) (g : Boot → Boot) : (c.onBoot g).boot = g c.boot := rfl
@[simp] theorem Chip.onBoot_heads (c : Chip) (g : Boot → Boot) : (c.onBoot g).heads = c.heads := rfl
@[simp] theorem Chip.onBoot_cores (c : Chip) (g : Boot → Boot) : (c.onBoot g).cores = c.cores := rfl
@[simp] theorem Chip.onBoot_deferred (c : Chip) (g : Boot → Boot) : (c.onBoot g).deferred = c.deferred := rfl
@[simp] theorem Chip.onBoot_outs (c : Chip) (g : Boot → Boot) : (c.onBoot g).outs = c.outs := rfl
@[simp] theorem Chip.emit_id (c : Chip) (o : Output) : (c.emit o).id = c.id := rfl
@[simp] theorem Chip.onHead_id (c : Chip) (h : HeadNo) (f : Head → Head) : (c.onHead h f).id = c.id := rfl
@[simp] theorem Chip.emit_clk (c : Chip) (o : Output) : (c.emit o).clk = c.clk := rfl
@[simp] theorem Chip.onHead_clk (c : Chip) (h : HeadNo) (f : Head → Head) : (c.onHead h f).clk = c.clk := rfl
@[simp] theorem Chip.emit_obj (c : Chip) (o : Output) : (c.emit o).obj = c.obj := rfl
@[simp] theorem Chip.onHead_obj (c : Chip) (h : HeadNo) (f : Head → Head) : (c.onHead h f).obj = c.obj := rfl
@[simp] theorem Chip.emit_cache (c : Chip) (o : Output) : (c.emit o).cache = c.cache := rfl
@[simp] theorem Chip.onHead_cache (c : Chip) (h : HeadNo) (f : Head → Head) : (c.onHead h f).cache = c.cache := rfl
@[simp] theorem Chip.emit_hbm (c : Chip) (o : Output) : (c.emit o).hbm = c.hbm := rfl
@[simp] theorem Chip.onHead_hbm (c : Chip) (h : HeadNo) (f : Head → Head) : (c.onHead h f).hbm = c.hbm := rfl
@[simp] theorem Chip.emit_med (c : Chip) (o : Output) : (c.emit o).med = c.med := rfl
@[simp] theorem Chip.onHead_med (c : Chip) (h : HeadNo) (f : Head → Head) : (c.onHead h f).med = c.med := rfl
@[simp] theorem Chip.emit_integ (c : Chip) (o : Output) : (c.emit o).integ = c.integ := rfl
@[simp] theorem Chip.onHead_integ (c : Chip) (h : HeadNo) (f : Head → Head) : (c.onHead h f).integ = c.integ := rfl
@[simp] theorem Chip.emit_dolly (c : Chip) (o : Output) : (c.emit o).dolly = c.dolly := rfl
@[simp] theorem Chip.onHead_dolly (c : Chip) (h : HeadNo) (f : Head → Head) : (c.onHead h f).dolly = c.dolly := rfl
@[simp] theorem Chip.emit_twin (c : Chip) (o : Output) : (c.emit o).twin = c.twin := rfl
@[simp] theorem Chip.onHead_twin (c : Chip) (h : HeadNo) (f : Head → Head) : (c.onHead h f).twin = c.twin := rfl
@[simp] theorem Chip.emit_wit (c : Chip) (o : Output) : (c.emit o).wit = c.wit := rfl
@[simp] theorem Chip.onHead_wit (c : Chip) (h : HeadNo) (f : Head → Head) : (c.onHead h f).wit = c.wit := rfl
@[simp] theorem Chip.emit_pwr (c : Chip) (o : Output) : (c.emit o).pwr = c.pwr := rfl
@[simp] theorem Chip.onHead_pwr (c : Chip) (h : HeadNo) (f : Head → Head) : (c.onHead h f).pwr = c.pwr := rfl
@[simp] theorem Chip.emit_res (c : Chip) (o : Output) : (c.emit o).res = c.res := rfl
@[simp] theorem Chip.onHead_res (c : Chip) (h : HeadNo) (f : Head → Head) : (c.onHead h f).res = c.res := rfl
@[simp] theorem Chip.emit_wrap (c : Chip) (o : Output) : (c.emit o).wrap = c.wrap := rfl
@[simp] theorem Chip.onHead_wrap (c : Chip) (h : HeadNo) (f : Head → Head) : (c.onHead h f).wrap = c.wrap := rfl
@[simp] theorem Chip.emit_ledger (c : Chip) (o : Output) : (c.emit o).ledger = c.ledger := rfl
@[simp] theorem Chip.onHead_ledger (c : Chip) (h : HeadNo) (f : Head → Head) : (c.onHead h f).ledger = c.ledger := rfl
@[simp] theorem Chip.emit_sec (c : Chip) (o : Output) : (c.emit o).sec = c.sec := rfl
@[simp] theorem Chip.onHead_sec (c : Chip) (h : HeadNo) (f : Head → Head) : (c.onHead h f).sec = c.sec := rfl
@[simp] theorem Chip.emit_ring (c : Chip) (o : Output) : (c.emit o).ring = c.ring := rfl
@[simp] theorem Chip.onHead_ring (c : Chip) (h : HeadNo) (f : Head → Head) : (c.onHead h f).ring = c.ring := rfl
@[simp] theorem Chip.emit_boot (c : Chip) (o : Output) : (c.emit o).boot = c.boot := rfl
@[simp] theorem Chip.onHead_boot (c : Chip) (h : HeadNo) (f : Head → Head) : (c.onHead h f).boot = c.boot := rfl
@[simp] theorem Chip.emit_heads (c : Chip) (o : Output) : (c.emit o).heads = c.heads := rfl
@[simp] theorem Chip.emit_cores (c : Chip) (o : Output) : (c.emit o).cores = c.cores := rfl
@[simp] theorem Chip.onHead_cores (c : Chip) (h : HeadNo) (f : Head → Head) : (c.onHead h f).cores = c.cores := rfl
@[simp] theorem Chip.emit_deferred (c : Chip) (o : Output) : (c.emit o).deferred = c.deferred := rfl
@[simp] theorem Chip.onHead_deferred (c : Chip) (h : HeadNo) (f : Head → Head) : (c.onHead h f).deferred = c.deferred := rfl
@[simp] theorem Chip.onHead_outs (c : Chip) (h : HeadNo) (f : Head → Head) : (c.onHead h f).outs = c.outs := rfl
@[simp] theorem Chip.emit_outs (c : Chip) (o : Output) : (c.emit o).outs = c.outs ++ [o] := rfl
@[simp] theorem Chip.latch_id (c : Chip) : c.latch.id = c.id := by unfold Chip.latch; split <;> rfl
@[simp] theorem Chip.latch_clk (c : Chip) : c.latch.clk = c.clk := by unfold Chip.latch; split <;> rfl
@[simp] theorem Chip.latch_obj (c : Chip) : c.latch.obj = c.obj := by unfold Chip.latch; split <;> rfl
@[simp] theorem Chip.latch_cache (c : Chip) : c.latch.cache = c.cache := by unfold Chip.latch; split <;> rfl
@[simp] theorem Chip.latch_hbm (c : Chip) : c.latch.hbm = c.hbm := by unfold Chip.latch; split <;> rfl
@[simp] theorem Chip.latch_med (c : Chip) : c.latch.med = c.med := by unfold Chip.latch; split <;> rfl
@[simp] theorem Chip.latch_integ (c : Chip) : c.latch.integ = c.integ := by unfold Chip.latch; split <;> rfl
@[simp] theorem Chip.latch_dolly (c : Chip) : c.latch.dolly = c.dolly := by unfold Chip.latch; split <;> rfl
@[simp] theorem Chip.latch_twin (c : Chip) : c.latch.twin = c.twin := by unfold Chip.latch; split <;> rfl
@[simp] theorem Chip.latch_wit (c : Chip) : c.latch.wit = c.wit := by unfold Chip.latch; split <;> rfl
@[simp] theorem Chip.latch_pwr (c : Chip) : c.latch.pwr = c.pwr := by unfold Chip.latch; split <;> rfl
@[simp] theorem Chip.latch_res (c : Chip) : c.latch.res = c.res := by unfold Chip.latch; split <;> rfl
@[simp] theorem Chip.latch_wrap (c : Chip) : c.latch.wrap = c.wrap := by unfold Chip.latch; split <;> rfl
@[simp] theorem Chip.latch_ledger (c : Chip) : c.latch.ledger = c.ledger := by unfold Chip.latch; split <;> rfl
@[simp] theorem Chip.latch_sec (c : Chip) : c.latch.sec = c.sec := by unfold Chip.latch; split <;> rfl
@[simp] theorem Chip.latch_ring (c : Chip) : c.latch.ring = c.ring := by unfold Chip.latch; split <;> rfl
@[simp] theorem Chip.latch_heads (c : Chip) : c.latch.heads = c.heads := by unfold Chip.latch; split <;> rfl
@[simp] theorem Chip.latch_cores (c : Chip) : c.latch.cores = c.cores := by unfold Chip.latch; split <;> rfl
@[simp] theorem Chip.latch_deferred (c : Chip) : c.latch.deferred = c.deferred := by unfold Chip.latch; split <;> rfl
@[simp] theorem Chip.latch_outs (c : Chip) : c.latch.outs = c.outs := by unfold Chip.latch; split <;> rfl
@[simp] theorem Chip.countSent_id (c : Chip) (n : Nat) : (c.countSent n).id = c.id := by unfold Chip.countSent; split <;> rfl
@[simp] theorem Chip.ended_id (was c : Chip) : (Chip.ended was c).id = c.id := by simp [Chip.ended]
@[simp] theorem Chip.countSent_clk (c : Chip) (n : Nat) : (c.countSent n).clk = c.clk := by unfold Chip.countSent; split <;> rfl
@[simp] theorem Chip.ended_clk (was c : Chip) : (Chip.ended was c).clk = c.clk := by simp [Chip.ended]
@[simp] theorem Chip.countSent_obj (c : Chip) (n : Nat) : (c.countSent n).obj = c.obj := by unfold Chip.countSent; split <;> rfl
@[simp] theorem Chip.ended_obj (was c : Chip) : (Chip.ended was c).obj = c.obj := by simp [Chip.ended]
@[simp] theorem Chip.countSent_cache (c : Chip) (n : Nat) : (c.countSent n).cache = c.cache := by unfold Chip.countSent; split <;> rfl
@[simp] theorem Chip.ended_cache (was c : Chip) : (Chip.ended was c).cache = c.cache := by simp [Chip.ended]
@[simp] theorem Chip.countSent_hbm (c : Chip) (n : Nat) : (c.countSent n).hbm = c.hbm := by unfold Chip.countSent; split <;> rfl
@[simp] theorem Chip.ended_hbm (was c : Chip) : (Chip.ended was c).hbm = c.hbm := by simp [Chip.ended]
@[simp] theorem Chip.countSent_med (c : Chip) (n : Nat) : (c.countSent n).med = c.med := by unfold Chip.countSent; split <;> rfl
@[simp] theorem Chip.ended_med (was c : Chip) : (Chip.ended was c).med = c.med := by simp [Chip.ended]
@[simp] theorem Chip.countSent_integ (c : Chip) (n : Nat) : (c.countSent n).integ = c.integ := by unfold Chip.countSent; split <;> rfl
@[simp] theorem Chip.ended_integ (was c : Chip) : (Chip.ended was c).integ = c.integ := by simp [Chip.ended]
@[simp] theorem Chip.countSent_dolly (c : Chip) (n : Nat) : (c.countSent n).dolly = c.dolly := by unfold Chip.countSent; split <;> rfl
@[simp] theorem Chip.ended_dolly (was c : Chip) : (Chip.ended was c).dolly = c.dolly := by simp [Chip.ended]
@[simp] theorem Chip.countSent_twin (c : Chip) (n : Nat) : (c.countSent n).twin = c.twin := by unfold Chip.countSent; split <;> rfl
@[simp] theorem Chip.ended_twin (was c : Chip) : (Chip.ended was c).twin = c.twin := by simp [Chip.ended]
@[simp] theorem Chip.countSent_wit (c : Chip) (n : Nat) : (c.countSent n).wit = c.wit := by unfold Chip.countSent; split <;> rfl
@[simp] theorem Chip.ended_wit (was c : Chip) : (Chip.ended was c).wit = c.wit := by simp [Chip.ended]
@[simp] theorem Chip.countSent_pwr (c : Chip) (n : Nat) : (c.countSent n).pwr = c.pwr := by unfold Chip.countSent; split <;> rfl
@[simp] theorem Chip.ended_pwr (was c : Chip) : (Chip.ended was c).pwr = c.pwr := by simp [Chip.ended]
@[simp] theorem Chip.countSent_res (c : Chip) (n : Nat) : (c.countSent n).res = c.res := by unfold Chip.countSent; split <;> rfl
@[simp] theorem Chip.ended_res (was c : Chip) : (Chip.ended was c).res = c.res := by simp [Chip.ended]
@[simp] theorem Chip.countSent_wrap (c : Chip) (n : Nat) : (c.countSent n).wrap = c.wrap := by unfold Chip.countSent; split <;> rfl
@[simp] theorem Chip.ended_wrap (was c : Chip) : (Chip.ended was c).wrap = c.wrap := by simp [Chip.ended]
@[simp] theorem Chip.countSent_ledger (c : Chip) (n : Nat) : (c.countSent n).ledger = c.ledger := by unfold Chip.countSent; split <;> rfl
@[simp] theorem Chip.ended_ledger (was c : Chip) : (Chip.ended was c).ledger = c.ledger := by simp [Chip.ended]
@[simp] theorem Chip.countSent_sec (c : Chip) (n : Nat) : (c.countSent n).sec = c.sec := by unfold Chip.countSent; split <;> rfl
@[simp] theorem Chip.ended_sec (was c : Chip) : (Chip.ended was c).sec = c.sec := by simp [Chip.ended]
@[simp] theorem Chip.countSent_heads (c : Chip) (n : Nat) : (c.countSent n).heads = c.heads := by unfold Chip.countSent; split <;> rfl
@[simp] theorem Chip.ended_heads (was c : Chip) : (Chip.ended was c).heads = c.heads := by simp [Chip.ended]
@[simp] theorem Chip.countSent_cores (c : Chip) (n : Nat) : (c.countSent n).cores = c.cores := by unfold Chip.countSent; split <;> rfl
@[simp] theorem Chip.ended_cores (was c : Chip) : (Chip.ended was c).cores = c.cores := by simp [Chip.ended]
@[simp] theorem Chip.countSent_deferred (c : Chip) (n : Nat) : (c.countSent n).deferred = c.deferred := by unfold Chip.countSent; split <;> rfl
@[simp] theorem Chip.ended_deferred (was c : Chip) : (Chip.ended was c).deferred = c.deferred := by simp [Chip.ended]
@[simp] theorem Chip.countSent_outs (c : Chip) (n : Nat) : (c.countSent n).outs = c.outs := by unfold Chip.countSent; split <;> rfl
@[simp] theorem Chip.ended_outs (was c : Chip) : (Chip.ended was c).outs = c.outs := by simp [Chip.ended]
@[simp] theorem Chip.countSent_boot (c : Chip) (n : Nat) : (c.countSent n).boot = c.boot := by unfold Chip.countSent; split <;> rfl
theorem State.onChip_next (s : State) (f : Chip → Chip) :
    s.onChip f = .next { s with chip := Chip.ended s.chip (f s.chip) } := rfl
@[simp] theorem State.onChip_chip (s : State) (f : Chip → Chip) : ∀ t, s.onChip f = .next t → t.chip = Chip.ended s.chip (f s.chip) := by
  intro t h; cases h; rfl
@[simp] theorem State.onChip_pending (s : State) (f : Chip → Chip) : ∀ t, s.onChip f = .next t → t.pending = s.pending := by
  intro t h; cases h; rfl

end Sys2Proof.Machine
end

