-- ==== Sys2Proof/Laws/Frame.lean ====
section
/-! SUPPORT. The calculus of frames: what each updater and each shared operation leaves as it was, and what the end
of a command adds. -/

namespace Sys2Proof.Machine

theorem sameRing.refl (a : Ring) : sameRing a a := ⟨rfl, fun _ _ _ => rfl⟩

theorem sameRing.trans {a b c : Ring} (h : sameRing a b) (k : sameRing b c) : sameRing a c := by
  refine ⟨?_, fun x h1 h2 => (k.2 x h1 h2).trans (h.2 x h1 h2)⟩
  have e : ({ c with txSeq := a.txSeq, vals := a.vals } : Ring) =
      { ({ c with txSeq := b.txSeq, vals := b.vals } : Ring) with txSeq := a.txSeq, vals := a.vals } := rfl
  rw [e, k.1]; exact h.1

theorem Grp.same.refl (g : Grp) (a : Chip) : g.same a a := by
  cases g <;> first | rfl | exact sameRing.refl _

theorem Grp.same.trans (g : Grp) {a b c : Chip} (h : g.same a b) (k : g.same b c) : g.same a c := by
  cases g <;> simp only [Grp.same] at h k ⊢
  case ring => exact sameRing.trans h k
  case boot =>
    have e : ({ c.boot with seen := a.boot.seen } : Boot) =
        { ({ c.boot with seen := b.boot.seen } : Boot) with seen := a.boot.seen } := rfl
    rw [e, k]; exact h
  all_goals exact k.trans h

@[simp] theorem Chip.keepsBut_refl (a : Chip) (l : List Grp) : a.keepsBut l a := fun g _ => Grp.same.refl g a

theorem Chip.keepsBut_trans {a b c : Chip} {l : List Grp} (h : a.keepsBut l b) (k : b.keepsBut l c) : a.keepsBut l c :=
  fun g hg => Grp.same.trans g (h g hg) (k g hg)

theorem Chip.keepsBut_mono {a b : Chip} {l m : List Grp} (h : a.keepsBut l b) (hs : ∀ g ∈ l, g ∈ m) : a.keepsBut m b :=
  fun g hg => h g (fun hl => hg (hs g hl))

theorem Chip.countSent_ring (c : Chip) (n : Nat) : sameRing c.ring (c.countSent n).ring := by
  unfold Chip.countSent
  split
  · exact sameRing.refl _
  · refine ⟨?_, fun k h1 h2 => ?_⟩
    · rfl
    · simp only [Chip.bump, Chip.setVol, Chip.onRing]
      rw [SMap.find_put_of_ne _ _ h2, SMap.find_put_of_ne _ _ h1]

theorem Chip.latch_ring' (c : Chip) : c.latch.ring = c.ring := by simp

/-- The end of a command adds to what the command changes only the numbering of frames and the latched flags. -/
theorem Chip.keepsBut_ended {a was c : Chip} {l : List Grp} (h : a.keepsBut l c) : a.keepsBut l (Chip.ended was c) := by
  intro g hg
  refine Grp.same.trans g (h g hg) ?_
  cases g
  case ring => show sameRing _ _; simp only [Chip.ended, Chip.latch_ring']; exact Chip.countSent_ring _ _
  case boot =>
    simp only [Grp.same, Chip.ended]
    have : ∀ d : Chip, { d.latch.boot with seen := d.boot.seen } = d.boot := by
      intro d; unfold Chip.latch; split <;> rfl
    simpa using this (c.countSent _)
  all_goals simp [Grp.same]

/-! Each updater keeps every part but its own: from a frame so far to a frame that lists that part. -/

theorem Chip.keepsBut.onId {a b : Chip} {l : List Grp} (h : a.keepsBut l b) (f : Ident → Ident) (hl : Grp.id ∈ l) : a.keepsBut l (b.onId f) := by
  refine Chip.keepsBut_trans h (fun g hg => ?_)
  cases g
  case id => exact absurd hl hg
  all_goals first | rfl | exact sameRing.refl _

theorem Chip.keepsBut.onClk {a b : Chip} {l : List Grp} (h : a.keepsBut l b) (f : Clock → Clock) (hl : Grp.clk ∈ l) : a.keepsBut l (b.onClk f) := by
  refine Chip.keepsBut_trans h (fun g hg => ?_)
  cases g
  case clk => exact absurd hl hg
  all_goals first | rfl | exact sameRing.refl _

theorem Chip.keepsBut.onObj {a b : Chip} {l : List Grp} (h : a.keepsBut l b) (f : Objects → Objects) (hl : Grp.obj ∈ l) : a.keepsBut l (b.onObj f) := by
  refine Chip.keepsBut_trans h (fun g hg => ?_)
  cases g
  case obj => exact absurd hl hg
  all_goals first | rfl | exact sameRing.refl _

theorem Chip.keepsBut.onCache {a b : Chip} {l : List Grp} (h : a.keepsBut l b) (f : Cache → Cache) (hl : Grp.cache ∈ l) : a.keepsBut l (b.onCache f) := by
  refine Chip.keepsBut_trans h (fun g hg => ?_)
  cases g
  case cache => exact absurd hl hg
  all_goals first | rfl | exact sameRing.refl _

theorem Chip.keepsBut.onHbm {a b : Chip} {l : List Grp} (h : a.keepsBut l b) (f : Hbm → Hbm) (hl : Grp.hbm ∈ l) : a.keepsBut l (b.onHbm f) := by
  refine Chip.keepsBut_trans h (fun g hg => ?_)
  cases g
  case hbm => exact absurd hl hg
  all_goals first | rfl | exact sameRing.refl _

theorem Chip.keepsBut.onMed {a b : Chip} {l : List Grp} (h : a.keepsBut l b) (f : Medium → Medium) (hl : Grp.med ∈ l) : a.keepsBut l (b.onMed f) := by
  refine Chip.keepsBut_trans h (fun g hg => ?_)
  cases g
  case med => exact absurd hl hg
  all_goals first | rfl | exact sameRing.refl _

theorem Chip.keepsBut.onInteg {a b : Chip} {l : List Grp} (h : a.keepsBut l b) (f : Integ → Integ) (hl : Grp.integ ∈ l) : a.keepsBut l (b.onInteg f) := by
  refine Chip.keepsBut_trans h (fun g hg => ?_)
  cases g
  case integ => exact absurd hl hg
  all_goals first | rfl | exact sameRing.refl _

theorem Chip.keepsBut.onDolly {a b : Chip} {l : List Grp} (h : a.keepsBut l b) (f : Dolly → Dolly) (hl : Grp.dolly ∈ l) : a.keepsBut l (b.onDolly f) := by
  refine Chip.keepsBut_trans h (fun g hg => ?_)
  cases g
  case dolly => exact absurd hl hg
  all_goals first | rfl | exact sameRing.refl _

theorem Chip.keepsBut.onTwin {a b : Chip} {l : List Grp} (h : a.keepsBut l b) (f : Twin → Twin) (hl : Grp.twin ∈ l) : a.keepsBut l (b.onTwin f) := by
  refine Chip.keepsBut_trans h (fun g hg => ?_)
  cases g
  case twin => exact absurd hl hg
  all_goals first | rfl | exact sameRing.refl _

theorem Chip.keepsBut.onWit {a b : Chip} {l : List Grp} (h : a.keepsBut l b) (f : Witness → Witness) (hl : Grp.wit ∈ l) : a.keepsBut l (b.onWit f) := by
  refine Chip.keepsBut_trans h (fun g hg => ?_)
  cases g
  case wit => exact absurd hl hg
  all_goals first | rfl | exact sameRing.refl _

theorem Chip.keepsBut.onPwr {a b : Chip} {l : List Grp} (h : a.keepsBut l b) (f : Power → Power) (hl : Grp.pwr ∈ l) : a.keepsBut l (b.onPwr f) := by
  refine Chip.keepsBut_trans h (fun g hg => ?_)
  cases g
  case pwr => exact absurd hl hg
  all_goals first | rfl | exact sameRing.refl _

theorem Chip.keepsBut.onRes {a b : Chip} {l : List Grp} (h : a.keepsBut l b) (f : Reserve → Reserve) (hl : Grp.res ∈ l) : a.keepsBut l (b.onRes f) := by
  refine Chip.keepsBut_trans h (fun g hg => ?_)
  cases g
  case res => exact absurd hl hg
  all_goals first | rfl | exact sameRing.refl _

theorem Chip.keepsBut.onWrap {a b : Chip} {l : List Grp} (h : a.keepsBut l b) (f : Wrap → Wrap) (hl : Grp.wrap ∈ l) : a.keepsBut l (b.onWrap f) := by
  refine Chip.keepsBut_trans h (fun g hg => ?_)
  cases g
  case wrap => exact absurd hl hg
  all_goals first | rfl | exact sameRing.refl _

theorem Chip.keepsBut.onLedger {a b : Chip} {l : List Grp} (h : a.keepsBut l b) (f : Ledger → Ledger) (hl : Grp.ledger ∈ l) : a.keepsBut l (b.onLedger f) := by
  refine Chip.keepsBut_trans h (fun g hg => ?_)
  cases g
  case ledger => exact absurd hl hg
  all_goals first | rfl | exact sameRing.refl _

theorem Chip.keepsBut.onSec {a b : Chip} {l : List Grp} (h : a.keepsBut l b) (f : Security → Security) (hl : Grp.sec ∈ l) : a.keepsBut l (b.onSec f) := by
  refine Chip.keepsBut_trans h (fun g hg => ?_)
  cases g
  case sec => exact absurd hl hg
  all_goals first | rfl | exact sameRing.refl _

theorem Chip.keepsBut.onRing {a b : Chip} {l : List Grp} (h : a.keepsBut l b) (f : Ring → Ring) (hl : Grp.ring ∈ l) : a.keepsBut l (b.onRing f) := by
  refine Chip.keepsBut_trans h (fun g hg => ?_)
  cases g
  case ring => exact absurd hl hg
  all_goals rfl

theorem Chip.keepsBut.onBoot {a b : Chip} {l : List Grp} (h : a.keepsBut l b) (f : Boot → Boot) (hl : Grp.boot ∈ l) : a.keepsBut l (b.onBoot f) := by
  refine Chip.keepsBut_trans h (fun g hg => ?_)
  cases g
  case boot => exact absurd hl hg
  all_goals first | rfl | exact sameRing.refl _

theorem Chip.keepsBut.onHead {a b : Chip} {l : List Grp} (k : a.keepsBut l b) (h : HeadNo) (f : Head → Head) (hl : Grp.heads ∈ l) : a.keepsBut l (b.onHead h f) := by
  refine Chip.keepsBut_trans k (fun g hg => ?_)
  cases g
  case heads => exact absurd hl hg
  all_goals first | rfl | exact sameRing.refl _

theorem Chip.keepsBut.emit {a b : Chip} {l : List Grp} (k : a.keepsBut l b) (o : Output) (hl : Grp.outs ∈ l) : a.keepsBut l (b.emit o) := by
  refine Chip.keepsBut_trans k (fun g hg => ?_)
  cases g
  case outs => exact absurd hl hg
  all_goals first | rfl | exact sameRing.refl _

theorem Chip.keepsBut.setVol {a b : Chip} {l : List Grp} (h : a.keepsBut l b) (i j v : Nat) (hl : Grp.ring ∈ l) : a.keepsBut l (b.setVol i j v) :=
  h.onRing _ hl
theorem Chip.keepsBut.bump {a b : Chip} {l : List Grp} (h : a.keepsBut l b) (i j n : Nat) (hl : Grp.ring ∈ l) : a.keepsBut l (b.bump i j n) :=
  h.setVol i j _ hl
theorem Chip.keepsBut.peak {a b : Chip} {l : List Grp} (h : a.keepsBut l b) (i j n : Nat) (hl : Grp.ring ∈ l) : a.keepsBut l (b.peak i j n) :=
  h.setVol i j _ hl
theorem Chip.keepsBut.headEvent {a b : Chip} {l : List Grp} (k : a.keepsBut l b) (h : HeadNo) (i : Nat) (hl : Grp.heads ∈ l) :
    a.keepsBut l (b.headEvent h i) := k.onHead h _ hl

/-- A fold of steps that each keep the frame keeps it. -/
theorem Chip.keepsBut.foldl {α : Type} {a : Chip} {l : List Grp} (f : Chip → α → Chip) (xs : List α) {b : Chip} (h : a.keepsBut l b)
    (hf : ∀ (c : Chip) (x : α), a.keepsBut l c → a.keepsBut l (f c x)) : a.keepsBut l (xs.foldl f b) := by
  induction xs generalizing b with
  | nil => exact h
  | cons x r ih => exact ih (hf b x h)

/-- A twin message is sent, or nothing changes. -/
theorem Chip.keepsBut.sendTwin {a c : Chip} {l : List Grp} (k : a.keepsBut l c) (b : TwinBody) (line tag : Nat) (head : PairHead)
    (p q r : Bool) (hl : Grp.outs ∈ l) : a.keepsBut l (c.sendTwin b line tag head p q r) := by
  unfold Chip.sendTwin; split
  · exact k.emit _ hl
  · exact k

/-- A page write is queued in the ledger part only. -/
theorem Chip.keepsBut.pageWrite {a c : Chip} {l : List Grp} (k : a.keepsBut l c) (cls : PageClass) (addr : Nat) (b : List Byte)
    (hl : Grp.ledger ∈ l) : a.keepsBut l (c.pageWrite cls addr b) := by
  unfold Chip.pageWrite; split
  · exact k
  · exact k.onLedger _ hl

theorem Chip.keepsBut.sendNote {a c : Chip} {l : List Grp} (k : a.keepsBut l c) (code i j : Nat) (d : List Byte)
    (hr : Grp.ring ∈ l) (ho : Grp.outs ∈ l) : a.keepsBut l (c.sendNote code i j d) :=
  ((k.onRing _ hr).bump _ _ _ hr).emit _ ho

/-- A notification changes the ring part and is sent. -/
theorem Chip.keepsBut.notify {a c : Chip} {l : List Grp} (k : a.keepsBut l c) (code i j : Nat) (d : List Byte)
    (hr : Grp.ring ∈ l) (ho : Grp.outs ∈ l) : a.keepsBut l (c.notify code i j d) := by
  unfold Chip.notify
  split
  · exact k
  split
  · dsimp only
    generalize (if c.ring.noteSecond = c.now / 1000000000 then c.ring.noteCount else 0) = n
    split
    · exact (k.sendNote _ _ _ _ hr ho).onRing _ hr
    · exact k.bump _ _ _ hr
  split
  · exact k.onRing _ hr
  · exact (k.sendNote _ _ _ _ hr ho).onRing _ hr

/-- A record in the ledger's event log changes the ledger part only. -/
theorem Chip.keepsBut.ledgerEvent {a c : Chip} {l : List Grp} (k : a.keepsBut l c) (b : EventBody) (hl : Grp.ledger ∈ l) :
    a.keepsBut l (c.ledgerEvent b) := (k.onLedger _ hl).pageWrite _ _ _ hl

/-- A record in the log of one head, with its interrupt. -/
theorem Chip.keepsBut.headRecord {a c : Chip} {l : List Grp} (k : a.keepsBut l c) (log : LogNo) (b : EventBody) (h : HeadNo)
    (hh : Grp.heads ∈ l) (ho : Grp.outs ∈ l) : a.keepsBut l (c.headRecord log b h) := by
  unfold Chip.headRecord
  dsimp only
  split
  · exact (k.onHead _ _ hh).emit _ ho
  · exact k.onHead _ _ hh

/-- A record at heads changes their logs, the ledger's event log and the ring's counts, and what is sent. -/
theorem Chip.keepsBut.recordAt {a c : Chip} {l : List Grp} (k : a.keepsBut l c) (hs : List HeadNo) (log : LogNo) (b : EventBody)
    (hh : Grp.heads ∈ l) (hl : Grp.ledger ∈ l) (hr : Grp.ring ∈ l) (ho : Grp.outs ∈ l) : a.keepsBut l (c.recordAt hs log b) := by
  have h2 := (Chip.keepsBut.foldl (fun (c : Chip) (h : HeadNo) => c.headRecord log b h) hs k
    (fun c x kc => kc.headRecord log b x hh ho)).ledgerEvent b hl
  unfold Chip.recordAt
  dsimp only
  split
  · exact h2
  · exact h2.notify _ _ _ _ hr ho

theorem Chip.keepsBut.record {a c : Chip} {l : List Grp} (k : a.keepsBut l c) (log : LogNo) (b : EventBody)
    (hh : Grp.heads ∈ l) (hl : Grp.ledger ∈ l) (hr : Grp.ring ∈ l) (ho : Grp.outs ∈ l) : a.keepsBut l (c.record log b) :=
  k.recordAt _ log b hh hl hr ho

theorem Chip.keepsBut.vendorRecord {a c : Chip} {l : List Grp} (k : a.keepsBut l c) (log : LogNo) (code i j : Nat) (d : List Byte)
    (hh : Grp.heads ∈ l) (hl : Grp.ledger ∈ l) (hr : Grp.ring ∈ l) (ho : Grp.outs ∈ l) : a.keepsBut l (c.vendorRecord log code i j d) :=
  k.record log _ hh hl hr ho

theorem Chip.keepsBut.vendorRecordAt {a c : Chip} {l : List Grp} (k : a.keepsBut l c) (h : HeadNo) (log : LogNo) (code : Nat)
    (hh : Grp.heads ∈ l) (hl : Grp.ledger ∈ l) (hr : Grp.ring ∈ l) (ho : Grp.outs ∈ l) : a.keepsBut l (c.vendorRecordAt h log code) :=
  k.recordAt _ log _ hh hl hr ho

end Sys2Proof.Machine
end

