-- ==== Sys2Proof/WellFormed.lean ====
section
/-! DEFINITION. Which commands are well formed: each operand in the range its message or register can carry.
The model answers every command, well formed or not; the range checks the device itself makes are in the meanings. -/

namespace Sys2Proof

/-- A mailbox payload is at most 64 KiB (03 R88). -/
def okPayload (b : List Byte) : Bool := decide (b.length ≤ 65536)
/-- A DPA and a length in units of 64 B, as mailbox commands carry them. -/
def okRange (dpa len : Nat) : Bool := decide (dpa < 2 ^ 64 ∧ len < 2 ^ 64)
/-- A window access carries 1 to 64 bytes (02 R64). -/
def okWin : WinAccess → Bool
  | .writeBytes _ b => decide (1 ≤ b.length ∧ b.length ≤ 64)
  | .readBytes _ n => decide (1 ≤ n ∧ n ≤ 64)
  | _ => true
/-- A twin line number: twin addresses have 49 bits (02 R46). -/
def okTwin (line : Nat) : Bool := decide (line < 2 ^ 43)
/-- A line of a read: a twin line, or the number the model gives a member line of no twin line. -/
def okLine (line : Nat) : Bool := okTwin line || decide (2 ^ 44 ≤ line ∧ line < 2 ^ 44 + 36 * 2 ^ 38)
/-- A twin segment number (02 R48). -/
def okSeg (seg : Nat) : Bool := decide (seg < 2 ^ 37)
/-- A twin granule number (02 R48). -/
def okGran (gran : Nat) : Bool := decide (gran < 2 ^ 28)
/-- An HBM frame number: 16 ways of 196,608 sets (Table 04-1). -/
def okHbmFrame (f : Nat) : Bool := decide (f < 3145728)
/-- A place of the stack: a frame below the last set's, or a block of a segment (Table 04-1). -/
def okPlace : HbmPlace → Bool
  | .lines f | .stateWord f => decide (f < 3145728)
  | .writtenMap s | .staging s => okSeg s
  | .twice _ | .lists _ | .assembly _ | .coreMemory _ => true
/-- A partition row of a module (06 R162). -/
def okPart (p : Nat) : Bool := decide (p < 1024)
/-- An object identifier (02 R48). -/
def okObj (id : Nat) : Bool := decide (id < 2 ^ 32)
/-- A twin message header (Table 09-3). -/
def okHdr (h : TwinHdr) : Bool := okTwin h.line
/-- Lines of one segment, each once at most in ascending order (Table 09-4). -/
def okLines (l : List (Nat × Line)) : Bool :=
  l.all (fun p => decide (p.1 < 64)) && decide ((l.map Prod.fst).Pairwise (· < ·))
/-- The payload of HELLO (Table 09-4). -/
def okHello (h : Hello) : Bool := decide (h.part < 256 ∧ h.proto < 2 ^ 32 ∧ h.epoch < 2 ^ 64 ∧ h.staleLen < 2 ^ 64)
/-- A witness frame (Table 09-6). -/
def okWit (f : WitFrame) : Bool := decide (f.type < 256 ∧ f.result < 256 ∧ f.seq < 2 ^ 64 ∧ f.epoch < 2 ^ 64 ∧ f.sentNs < 2 ^ 64)

/-- The command is well formed. -/
def Instr.wf : Instr → Bool
  | .hostRead .. => true
  | .hostWrite .. => true
  | .holdExpired .. => true
  | .refclkLost => true
  | .coreStopped .. => true
  | .coreRestarted .. => true
  | .gafferWatchdog => true
  | .create .. => true
  | .destroy .. => true
  | .destroyReleaseDone obj => okObj obj
  | .setAttr .. => true
  | .query .. => true
  | .resize .. => true
  | .move .. => true
  | .pin .. => true
  | .unpin .. => true
  | .promote .. => true
  | .evict .. => true
  | .zero .. => true
  | .reelOpen .. => true
  | .reelJoin .. => true
  | .reelAdvance .. => true
  | .reelLeave .. => true
  | .reelStallTimeout .. => true
  | .reelPrefetch .. => true
  | .commandUnreachableTimeout .. => true
  | .commandResultWritten .. => true
  | .cueTail .. => true
  | .cueReset .. => true
  | .cueResetDone .. => true
  | .cueCoalesceExpired .. => true
  | .objCmd .. => true
  | .perstAssert .. => true
  | .perstDeassert .. => true
  | .headLinkUp .. => true
  | .headLinkDown .. => true
  | .recoveryTimeout .. => true
  | .l0StabilityTimeout .. => true
  | .hdmCommit .. => true
  | .cdatRead .. => true
  | .gpfPhase1 => true
  | .gpfPhase2 => true
  | .identify .. => true
  | .backgroundOperationStatus .. => true
  | .getResponseMessageLimit .. => true
  | .setResponseMessageLimit .. => true
  | .requestAbortBackgroundOperation .. => true
  | .getEventRecords _ log => decide (log < 256)
  | .clearEventRecords _ log _ handles => decide (log < 256) && handles.all (fun x => decide (x < 65536))
  | .getEventInterruptPolicy .. => true
  | .setEventInterruptPolicy .. => true
  | .getFwInfo .. => true
  | .transferFw _ _ slot off data _ => decide (slot < 256 ∧ off < 2 ^ 32) && okPayload data
  | .activateFw _ _ slot => decide (slot < 256)
  | .getTimestamp .. => true
  | .setTimestamp .. => true
  | .getSupportedLogs .. => true
  | .getLog _ _ off len => decide (off < 2 ^ 32 ∧ len < 2 ^ 32)
  | .identifyMemoryDevice .. => true
  | .getPartitionInfo .. => true
  | .setPartitionInfo .. => true
  | .getLsa _ off len => decide (off < 2 ^ 32 ∧ len < 2 ^ 32)
  | .setLsa _ off data => decide (off < 2 ^ 32) && okPayload data
  | .getHealthInfo .. => true
  | .getAlertConfiguration .. => true
  | .setAlertConfiguration _ _ _ life temp v p => decide (life < 256 ∧ -32768 ≤ temp ∧ temp < 32768 ∧ v < 65536 ∧ p < 65536)
  | .getShutdownState .. => true
  | .setShutdownState .. => true
  | .getPoisonList _ dpa len => okRange dpa len
  | .injectPoison _ dpa => decide (dpa < 2 ^ 64)
  | .clearPoison _ dpa _ => decide (dpa < 2 ^ 64)
  | .getScanMediaCapabilities _ dpa len => okRange dpa len
  | .scanMedia _ dpa len => okRange dpa len
  | .getScanMediaResults .. => true
  | .sanitize .. => true
  | .secureErase .. => true
  | .getSecurityState .. => true
  | .setPassphrase .. => true
  | .disablePassphrase .. => true
  | .unlock .. => true
  | .freezeSecurityState .. => true
  | .passphraseSecureErase .. => true
  | .getDynamicCapacityConfiguration .. => true
  | .getDynamicCapacityExtentList .. => true
  | .addDynamicCapacityResponse .. => true
  | .releaseDynamicCapacity .. => true
  | .getOlienoInfo _ input => okPayload input
  | .dictionaryRead _ input => okPayload input
  | .dictionaryWrite _ input _ => okPayload input
  | .objectCommand _ input => okPayload input
  | .getObjectCommandResult _ input => okPayload input
  | .mailboxUnsupportedOpcode .. => true
  | .backgroundOpComplete e => e.bad.all okTwin
  | .ideKmQuery .. => true
  | .keyProg .. => true
  | .keySetGo .. => true
  | .keySetStop .. => true
  | .ideRekeyDue .. => true
  | .ideCounterExhausted .. => true
  | .nonceUncertain .. => true
  | .fillComplete line => okLine line
  | .descriptorMissDone obj => okObj obj
  | .backgroundEvict frame => okHbmFrame frame
  | .evictCommit frame => okHbmFrame frame
  | .writeBackStart _ stripe _ => decide (stripe < 2 ^ 33)
  | .writeBackRelease .. => true
  | .waysScratch .. => true
  | .waysPin .. => true
  | .wayChangeDone => true
  | .hbmTrainDone _ found => found.margins.toList.all (fun n => decide (n < 256))
  | .retireCmd .. => true
  | .retireSettled => true
  | .retireRebuildDone => true
  | .spareTest .. => true
  | .refreshDue .. => true
  | .stackTempRead .. => true
  | .hbmScrub place _ _ => okPlace place
  | .mediumReadDispatch line => okLine line
  | .mediumLineReturned line _ => okLine line
  | .recoveryEntryWait line => okLine line
  | .stripeUpdateStart .. => true
  | .programStart .. => true
  | .programDone _ part _ => okPart part
  | .programFailed _ part => okPart part
  | .relocateDone _ part => okPart part
  | .tokenAlert .. => true
  | .tokenMissing _ part => okPart part
  | .moduleAlert .. => true
  | .readHeaderMissing _ line => okLine line
  | .moduleSeated .. => true
  | .presenceStable .. => true
  | .moduleUnseated .. => true
  | .presenceLostTimeout .. => true
  | .pwrgdStable .. => true
  | .pwrgdTimeout .. => true
  | .pwrgdFall .. => true
  | .gmiTrainDone .. => true
  | .gmiTrainFailed .. => true
  | .retrainStart .. => true
  | .retrainDone .. => true
  | .retrainTimeout .. => true
  | .attnHold .. => true
  | .medRemove .. => true
  | .removalSafe .. => true
  | .removeRefusedBlinkEnd .. => true
  | .rebuildDone .. => true
  | .sgInit .. => true
  | .groupInitDone .. => true
  | .wearRelocation _ part unit => okPart part && decide (unit < 9175040)
  | .minuteTick => true
  | .driftRefresh _ part unit => okPart part && decide (unit < 9175040)
  | .materialise _ slot => decide (slot < 2 ^ 25)
  | .patrolScrub .. => true
  | .scrubRewrite _ part unit => okPart part && decide (unit < 9175040)
  | .stripeRepair line => okLine line
  | .bucketLeak => true
  | .poisonListPersist => true
  | .granuleOpen gran _ => okGran gran
  | .segmentClaim seg _ bad => okSeg seg && bad.all okTwin
  | .segmentCopied seg => okSeg seg
  | .segmentSwitch seg => okSeg seg
  | .granuleCommit gran => okGran gran
  | .pinMoveSwitch seg => okSeg seg
  | .movePrep hdr => okHdr hdr
  | .moveParked hdr _ => okHdr hdr
  | .moveHandover hdr _ _ _ lines => okHdr hdr && okLines lines
  | .moveDone hdr => okHdr hdr
  | .moveAbort hdr => okHdr hdr
  | .movePrepRetry seg => okSeg seg
  | .evacCmd .. => true
  | .evacStop .. => true
  | .twinLinkUp => true
  | .twinLinkDown => true
  | .fwdRead hdr _ => okHdr hdr
  | .fwdWrite hdr _ _ _ => okHdr hdr
  | .fwdData hdr _ => okHdr hdr
  | .fwdAck hdr => okHdr hdr
  | .fwdCmd hdr _ => okHdr hdr
  | .fwdCmdResult hdr _ => okHdr hdr
  | .mirrorWrite hdr _ _ => okHdr hdr
  | .mirrorCommit hdr => okHdr hdr
  | .mirrorResend hdr => okHdr hdr
  | .mirrorFetch hdr bad => okHdr hdr && bad.all okTwin
  | .mirrorData hdr lines _ _ => okHdr hdr && okLines lines
  | .heartbeat hdr pair lease remaining => okHdr hdr && decide (pair < 256 ∧ lease < 256 ∧ remaining < 2 ^ 32)
  | .heartbeatSend => true
  | .probe => true
  | .hello h => okHello h
  | .pairAccept _ epoch => decide (epoch < 2 ^ 64)
  | .pairRefuse cause => decide (cause < 256)
  | .renewRelay hdr f _ => okHdr hdr && okWit f
  | .tableUpdate hdr _ => okHdr hdr
  | .descInval hdr obj => okHdr hdr && okObj obj
  | .poisonShadow hdr line len src _ => okHdr hdr && okTwin line && decide (1 ≤ len ∧ len ≤ 64 ∧ src < 8)
  | .timestamp hdr _ => okHdr hdr
  | .squallNote hdr state => okHdr hdr && decide (state < 256)
  | .handoverBegin hdr => okHdr hdr
  | .handoverParked hdr _ => okHdr hdr
  | .handoverState hdr epoch => okHdr hdr && decide (epoch < 2 ^ 64)
  | .handoverDone hdr => okHdr hdr
  | .staleSet granules _ => granules.all okGran
  | .auditReq hdr gran => okHdr hdr && okGran gran
  | .auditSum hdr _ => okHdr hdr
  | .mirrorAuditStart => true
  | .pulseToggle => true
  | .pulseLoss => true
  | .pulseRestored => true
  | .linkSilenceTimeout => true
  | .probeTimeout => true
  | .register => true
  | .registerResend => true
  | .renewSend => true
  | .renewAck f _ => okWit f
  | .renewAckTimeout .. => true
  | .leaseFenceDeadline => true
  | .verdictGrant epoch => decide (epoch < 2 ^ 64)
  | .verdictSplit => true
  | .verdictDeny .. => true
  | .verdictDrillOk => true
  | .poisonNote _ lines => lines.all okTwin
  | .poisonAck .. => true
  | .poisonAckTimeout .. => true
  | .routeMapRewriteDone => true
  | .handoverCmd .. => true
  | .pairReplace .. => true
  | .rehearseCmd .. => true
  | .rehearsalDue .. => true
  | .rehearsalTimeout => true
  | .powerUpStart => true
  | .upStepDone => true
  | .rampTimeout .. => true
  | .downStepDone => true
  | .offTimeout .. => true
  | .powerDownStuck => true
  | .adcSample .. => true
  | .pgChange .. => true
  | .railRetryTimer .. => true
  | .seqGroupOn .. => true
  | .retryWaitDone => true
  | .retryCountReset => true
  | .resetNLow => true
  | .seqFaultSeen => true
  | .vauxCollapse .. => true
  | .sqConfig .. => true
  | .budgetCompute => true
  | .reserveLostTimeout => true
  | .probeStart => true
  | .probeCmd .. => true
  | .probeBudgetReady .. => true
  | .probeDischarge .. => true
  | .probeStepEnd .. => true
  | .powerLoss => true
  | .wrapAndStayOff .. => true
  | .wrapAndPowerUp .. => true
  | .wrapSettled => true
  | .wrapDrained => true
  | .wrapPersisted => true
  | .wrapResume => true
  | .wrapRestart => true
  | .dirtyMapCheckpoint => true
  | .wrapRecordHourly => true
  | .snapshotCopy => true
  | .ledgerPageWriteDone .. => true
  | .ledgerTimeout => true
  | .refreshPage .. => true
  | .refreshPassDue => true
  | .refreshCmd .. => true
  | .rawWrite .. => true
  | .rawRead .. => true
  | .userPassword .. => true
  | .userUnlock .. => true
  | .userLock .. => true
  | .counterInc .. => true
  | .cryptoErase .. => true
  | .cryptoEraseComplete => true
  | .drbgHealthFail => true
  | .drbgReseed => true
  | .sealRequest .. => true
  | .sealAlarm .. => true
  | .sealRecover => true
  | .sealParityFault => true
  | .twinRekeyDue => true
  | .twinRekeyRetry => true
  | .twinCounterExhausted => true
  | .witnessSeqExhausted => true
  | .getVersion .. => true
  | .getCapabilities .. => true
  | .negotiateAlgorithms .. => true
  | .getDigests .. => true
  | .getCertificate _ slot off len => decide (slot < 8 ∧ off < 65536 ∧ len < 65536)
  | .challenge _ slot => decide (slot < 8)
  | .getMeasurements _ index => decide (index < 256)
  | .keyExchange .. => true
  | .finish .. => true
  | .spdmHeartbeat .. => true
  | .spdmSessionTimeout .. => true
  | .keyUpdate .. => true
  | .endSession .. => true
  | .twinSpdmSession .. => true
  | .rtvChallenge .. => true
  | .rtvResponse .. => true
  | .ringFrameRx .. => true
  | .ringPortStateChange .. => true
  | .ringSerdesLock => true
  | .bypHoldRaise => true
  | .sourceRecordExpired .. => true
  | .dictRead _ _ _ _ off => decide (off < 2 ^ 32)
  | .dictWrite _ _ _ size data _ => decide (size < 2 ^ 32 ∧ data.length ≤ 64)
  | .writeInit _ _ _ size data => decide (size < 2 ^ 32 ∧ data.length ≤ 64)
  | .dictSegment _ _ _ seg _ data _ => decide (seg < 65536 ∧ data.length ≤ 64)
  | .dictAck _ _ _ next _ => decide (next < 2 ^ 32)
  | .dictAbort .. => true
  | .segmentResendTimeout .. => true
  | .transferTimeout .. => true
  | .transferCacheExpired .. => true
  | .notifyMergeExpired code => decide (1 ≤ code ∧ code ≤ 8)
  | .windowWrite .. => true
  | .windowWriteApply .. => true
  | .setAlias .. => true
  | .clearAlias .. => true
  | .toggleAlias .. => true
  | .registerWrite _ w _ => okWin w
  | .dictDefaults .. => true
  | .barometerUpdate => true
  | .barometerSeen .. => true
  | .eventRecordRead .. => true
  | .bootRomSelect => true
  | .trainStageDone => true
  | .loadStage .. => true
  | .pairStage => true
  | .pairStageTimeout => true
  | .claimDeniedRetry => true
  | .entryIntoService => true
  | .recoveryQuery => true
  | .recoveryData _ off _ _ => decide (off < 2 ^ 32)
  | .recoveryEnd .. => true
  | .recoveryDownloadTimeout => true
  | .updBlock _ data _ => decide (data.length = 4112)
  | .updEndVerify .. => true
  | .updAbandon .. => true
  | .updIdleTimeout => true
  | .fwActivate .. => true
  | .fwConfirm .. => true
  | .probationElapsed => true
  | .fwRevert .. => true
  | .probationStartTimeout => true
  | .storeImport _ data => decide (data.length < 2 ^ 32)
  | .storeRestore _ data => decide (data.length < 2 ^ 32)
  | .storeExport _ off => decide (off < 2 ^ 32)
  | .recoveryCmd .. => true
  | .coreRetire .. => true
  | .headIsolate .. => true
  | .headDcRegions .. => true
  | .bistHbmSpare .. => true
  | .bistHbmPatrol .. => true
  | .bistGmiRetrain .. => true
  | .bistParityCheck .. => true
  | .bistCipherKat .. => true
  | .bistSealKat .. => true
  | .bistCoreSelftest .. => true
  | .bistPhyLoopback .. => true
  | .bistDone .. => true
  | .refclkRestored => true

end Sys2Proof
end

