-- ==== Sys2Proof/Tests/Slice0.lean ====
section
/-! SUPPORT. Tests of the model, and for every statement with hypotheses a state and operands that meet them. -/

namespace Sys2Proof.Tests

open Sys2Proof Sys2Proof.Machine

set_option Elab.async false

/-! ## Small states -/

/-- The chip at reset. -/
def chip0 : Chip := State.reset.chip
/-- A state of one chip with no command waiting. -/
def at' (c : Chip) : State := { chip := c }
/-- A head whose link is up and whose memory is active. -/
def withHead (h : HeadNo) (c : Chip) : Chip := c.onHead h fun x => { x with link := .up, memActive := true, perst := false }
/-- The device in service: firmware runs and the start is over. -/
def inService (c : Chip) : Chip := c.onBoot fun b => { b with stage := 0, mainOut := true, romDone := true }
/-- Head 0 has a committed decoder: 4 TiB from 0. -/
def withDecoder (c : Chip) : Chip :=
  c.onHead 0 fun x => { x with hdm := x.hdm.set 0 { size := 0x40000000000, committed := true }, accepted := 1 }
/-- An object on granule 0. -/
def withObj (o : Obj) (c : Chip) : Chip := c.onObj fun x => { x with table := [(1, { o with granules := 1, heads := 1 })] }
/-- In service with head 0 up, its decoder and an object. -/
def served : Chip := withObj {} (withDecoder (withHead 0 (inService chip0)))
/-- A frame of segment 0. -/
def frame0 : Nat := frameNo (cacheSet 0) 0
/-- The twin link carries messages. -/
def linked (c : Chip) : Chip := c.onTwin fun t => { t with link := .up, keyed := true }
/-- The chip is PAIRED and the link carries messages. -/
def paired (c : Chip) : Chip := linked (c.onTwin fun t => { t with state := .paired })

/-! ## The queue, and ill-formed operands -/

theorem test_idle_step_counts_a_tick : (match step State.reset with | .next t => t.chip.clk.ticks | _ => 7) = 1 := by rfl
theorem test_front_command_runs_first : (match step { chip := chip0, pending := [.perstDeassert 0, .perstAssert 0] } with
    | .next t => decide (t.pending = [.perstAssert 0] ∧ (t.chip.head 0).perst = false) | _ => false) = true := by decide +kernel
theorem test_ill_formed_payload : (Instr.dictionaryRead 0 (List.replicate 65537 0)).wf = false := by
  show okPayload (List.replicate 65537 0) = false
  unfold okPayload; rw [List.length_replicate]; decide
theorem test_ill_formed_range : (Instr.getPoisonList 0 (2 ^ 64) 1).wf = false := by decide +kernel
theorem test_ill_formed_twin_line : (Instr.fillComplete (2 ^ 43)).wf = false := by decide +kernel
theorem test_ill_formed_segment : (Instr.segmentCopied (2 ^ 37)).wf = false := by decide +kernel
theorem test_ill_formed_granule : (Instr.granuleCommit (2 ^ 28)).wf = false := by decide +kernel
theorem test_ill_formed_frame : (Instr.evictCommit 3145728).wf = false := by decide +kernel
theorem test_ill_formed_row : (Instr.programFailed 0 1024).wf = false := by decide +kernel
theorem test_ill_formed_object : (Instr.descInval {} (2 ^ 32)).wf = false := by decide +kernel
theorem test_ill_formed_header : (Instr.fwdAck { line := 2 ^ 43 }).wf = false := by decide +kernel
theorem test_ill_formed_lines : (Instr.mirrorData {} [(64, 0)] 0 0).wf = false ∧ (Instr.mirrorData {} [(2, 0), (1, 0)] 0 0).wf = false := by
  decide +kernel
theorem test_ill_formed_hello : (Instr.hello { part := 256 }).wf = false := by decide +kernel
theorem test_ill_formed_witness_frame : (Instr.renewAck { seq := 2 ^ 64 } none).wf = false := by decide +kernel
theorem test_ill_formed_block : (Instr.updBlock {} (List.replicate 4111 0) true).wf = false := by decide +kernel
theorem test_well_formed : (Instr.fillComplete (2 ^ 43 - 1)).wf = true ∧ (Instr.evictCommit 3145727).wf = true := by decide +kernel

/-! ## Host requests -/

/-- EveryRequestAnsweredOrWaits, UnmappedRequests, HostRequestsHere: a head takes a request; an address in no object, one
that this chip serves (the last of the object's granule), one in no decoder. -/
theorem wit_host_requests :
    let c := served
    c.takes 0 true ∧ (c.head 0).decode 0x200000 = some 0x200000 ∧ 0x200000 / 64 < scratchBase ∧ c.objAt (0x200000 / 64) = none ∧
    (c.head 0).decode 0x1FFFFF = some 0x1FFFFF ∧ (c.head 0).decode 0x40000000000 = none ∧ c.poisonAt 32767 = none ∧
    c.lineWritten 32767 = false ∧ (c.held 32767).isSome = false := by
  refine ⟨⟨rfl, rfl, fun _ => rfl⟩, ?_⟩
  decide +kernel
/-- HostRequestsHere: a request that waits outside behind an earlier one. -/
theorem wit_stays_outside : (served.onCache fun k => { k with outside := [{ src := .head 0, tag := 1 }] }).staysOutside 0 ∧
    (served.onCache fun k => { k with outside := [{ src := .head 0, tag := 1 }] }).takes 0 true := by
  refine ⟨Or.inr ⟨_, List.mem_singleton.mpr rfl, rfl⟩, rfl, rfl, fun _ => rfl⟩
theorem wit_serves : served.serves 0 32767 := by
  refine ⟨by decide, by decide +kernel, ⟨1, { granules := 1, heads := 1 }, ?_⟩, ?_⟩ <;> decide +kernel
/-- HostRequestsHere, second part: a line that is dirty in the two frames of its segment. -/
def dirty0 : Chip := served.onCache fun k =>
  { k with frames := [(frame0, { seg := 0, kind := .dirty, dirty := 1, peer := some (frame0 + 1) }),
                      (frame0 + 1, { seg := 0, kind := .outside, dirty := 1, peer := some frame0 })],
           lines := [(64 * frame0, { data := 5 }), (64 * (frame0 + 1), { data := 5 })] }
theorem wit_takes_now : served.takesNow 0 true ∧ ¬ dirty0.staysOutside 0 := by
  unfold Chip.takesNow Chip.staysOutside Chip.takes; decide +kernel
theorem wit_host_write : dirty0.storesWf ∧ dirty0.takes 0 true ∧ dirty0.mirrorsLine 0 = false ∧ dirty0.lookup 0 = some frame0 ∧
    (dirty0.frame frame0).kind = .dirty ∧ (dirty0.frame frame0).dirty.getLsbD 0 = true ∧ (dirty0.frame frame0).peer = some (frame0 + 1) ∧
    dirty0.dolly.pins = [] ∧ (∀ p ∈ dirty0.cache.frames, p.2.unbuilt = false) ∧ dirty0.held 0 = some (frame0, { data := 5 }) := by
  refine ⟨by unfold Chip.storesWf; decide +kernel, ⟨rfl, rfl, fun _ => rfl⟩, ?_⟩
  decide +kernel
theorem wit_host_write_serves : dirty0.serves 0 0 := by
  refine ⟨by decide, by decide +kernel, ⟨1, { granules := 1, heads := 1 }, ?_⟩, ?_⟩ <;> decide +kernel
/-- HostRequestsHere, third part: a head that takes none, and a stream that is on. -/
theorem wit_host_not_taken : ¬ ((chip0.head 0).link = .up ∧ (chip0.head 0).memActive = true) ∧
    ((served.onHead 0 fun x => { x with ideOn := true }).head 0).ideOn = true := by decide +kernel
/-- StoresKept: the reset state is canonical and idles. -/
theorem wit_stores_kept : State.reset.chip.storesWf ∧ (match step State.reset with | .next _ => true | _ => false) = true := by
  unfold Chip.storesWf; decide +kernel
theorem test_unwritten_line_reads_zero : (match exec (.hostRead 0 0x40 9 true .ok) (at' served) with
    | .next t => decide (t.chip.outs = [.readDone 0 9 0 false .light]) | _ => false) = true := by decide +kernel
theorem test_unmapped_read_is_poison : (match exec (.hostRead 0 0x200000 9 true .ok) (at' served) with
    | .next t => t.chip.outs.contains (.readDone 0 9 0 true .light) | _ => false) = true := by decide +kernel
theorem test_read_in_squall_mode_is_overload :
    (match exec (.hostRead 0 0x40 9 true .ok) (at' (served.onCache fun k => { k with squall := 1 })) with
    | .next t => decide (t.chip.outs = [.readDone 0 9 0 false .severe]) | _ => false) = true := by decide +kernel
theorem test_partial_write_merges : (match exec (.hostWrite 0 0 9 0xFF00 2 false true .ok) (at' dirty0) with
    | .next t => decide ((t.chip.sector frame0 0).data = 0xFF05 ∧ (t.chip.sector (frame0 + 1) 0).data = 0xFF05) | _ => false) = true := by
  decide +kernel

/-! ## Heads -/

/-- HeadLinks, DecodersCdatFlush: a link that is up, a present head, one that trains. -/
theorem wit_head_links : (served.head 0).link = .up ∧ (0 : HeadNo).val < chip0.id.part.heads ∧
    ((chip0.onHead 0 fun x => { x with link := .training }).head 0).link = .training ∧ (2 : Fin 4).val ≤ chip0.par 0x1404 1 3 := by decide +kernel
theorem wit_decoders : ¬ (((served.head 0).hdm.get 3).committed = true ∧ ((served.head 0).hdm.get 3).lockOnCommit = true) ∧
    (served.head 0).link = .up := by decide +kernel
theorem test_decoder_with_ways_not_committed : (match exec (.hdmCommit 0 1 0 64 0 1 0 false) (at' served) with
    | .next t => ((t.chip.head 0).hdm.get 1).errNotCommitted | _ => false) = true := by decide +kernel
theorem test_link_loss_resets_decoders : (match exec (.headLinkDown 0) (at' served) with
    | .next t => decide (((t.chip.head 0).hdm.get 0).committed = false ∧ (t.chip.head 0).evt = 1) | _ => false) = true := by decide +kernel

/-! ## HBM and cache -/

/-- A retirement of pseudo-channel 3 that runs. -/
def retiring (settled : Bool) : Chip :=
  inService chip0 |>.onHbm fun x => { x with pcs := x.pcs.set 3 .retiring, retire := some { pc := 3, index := 3, settled := settled } }
/-- HbmChannels: no result yet, every pseudo-channel passing, one failing beside a good spare, two failing; a spare in place; a
retirement before and after its settling; the spare absent; a channel that is not in self-refresh, with a read of the bank
waiting and without; the tiers; in service with nothing waiting, a pseudo-channel in service, a clean and a dirty frame. -/
theorem wit_hbm : chip0.boot.hbmDone = false ∧ chip0.sparePc = some 15 ∧ (retiring false).sparePc = some 15 ∧
    (retiring true).hbm.retire = some { pc := 3, index := 3, settled := true } ∧
    (chip0.onHbm fun x => { x with pcs := x.pcs.set 15 .retired }).sparePc = none ∧
    SMap.sorted chip0.hbm.owed = true ∧ chip0.resting 0 = false ∧ chip0.hostReadFor 0 3 = false ∧
    (chip0.onCache fun k => { k with sched := [(0, { reads := [{ addr := 0, traffic := .hostRead }] })] }).hostReadFor 0 (bankNo 0) = true ∧
    0 < chip0.ceRate ∧ ((dirty0.onFrame frame0 fun x => { x with kind := .clean, dirty := 0 }).frame frame0).kind = .clean ∧
    chip0.hbm.tier < tempTier 90 ∧ tempTier 60 ≤ chip0.hbm.tier ∧
    chip0.hbm.pcs.get (chip0.pcOf (frameIndex frame0)) = .inService ∧ chip0.hbm.retire = none := by
  decide +kernel
theorem wit_hbm_calm : ((dirty0.onRes fun r => { r with published := 2 ^ 33 }).onCache fun k => { k with budget := 2 ^ 33 }).calm := by
  unfold Chip.calm; decide +kernel
theorem wit_hbm_training :
    (List.finRange 16).filter (fun p => decide (chip0.hbm.pcs.get p = .inService) && decide (((Vector.replicate 16 (0 : Fin 9)).set 2 1).get p ≠ 0)) = [2] ∧
    2 ≤ ((List.finRange 16).filter (fun p => decide (chip0.hbm.pcs.get p = .inService) &&
      decide (((Vector.replicate 16 (0 : Fin 9)).set 2 1 |>.set 5 3).get p ≠ 0))).length := by decide +kernel
theorem test_training_passes : (match exec (.hbmTrainDone (Vector.replicate 16 0) { margins := Vector.replicate 16 7 }) (at' chip0) with
    | .next t => decide (t.chip.boot.hbmDone = true ∧ t.chip.hbm.margins.get 15 = 7) | _ => false) = true := by decide +kernel
theorem test_compare_counts_a_lane :
    let r : PatRun := { pattern := .fixed 5, addr := 64, got := [patBurst { pattern := .fixed 5 } 0, patBurst { pattern := .fixed 5 } 1 ^^^ 8] }
    (patCheck r).firstFail = some 96 ∧ (patCheck r).errors.get 3 = 1 ∧ (patCheck r).errors.get 2 = 0 := by decide +kernel
theorem test_tier_falls_at_the_second_low_reading :
    (match exec (.stackTempRead 80) (at' (chip0.onHbm fun x => { x with tier := 1 })) with
    | .next t => (match exec (.stackTempRead 80) t with
      | .next u => decide (t.chip.hbm.tier = 1 ∧ u.chip.hbm.tier = 0) | _ => false) | _ => false) = true := by decide +kernel
theorem test_refresh_postponed_for_a_read :
    (match exec (.refreshDue 0 0 0) (at' (chip0.onCache fun k => { k with sched := [(0, { reads := [{ addr := 0, traffic := .hostRead }] })] })) with
    | .next t => decide (t.chip.owedBy 0 (bankNo 0) = 1) | _ => false) = true := by decide +kernel

/-- A fill whose data is back for a head's read. -/
def filling : Chip := served.onCache fun k =>
  { k with misses := [{ line := 0, stage := .returned, got := some { data := 7 }, readers := [{ src := .head 0, tag := 3 }] }] }
theorem wit_fill : (filling.missOf 0).map Miss.stage = some .returned ∧ (filling.missOf 0).map Miss.drop = some false ∧
    filling.merging 0 = false ∧ (filling.head 0).link = .up := by decide +kernel
theorem test_fill_answers : (match exec (.fillComplete 0) (at' filling) with
    | .next t => t.chip.outs.any (fun o => match o with | .readDone 0 3 7 false _ => true | _ => false) | _ => false) = true := by decide +kernel

/-- A frame of segment 0 of the kind given. -/
def framed (k : Kind) : Chip := served.onCache fun x => { x with frames := [(frame0, { seg := 0, kind := k })], descMiss := [1] }
/-- CacheUpkeep: the first descriptor asked for, a clean frame, an evicting one that no fill refers to, a way change that fits. -/
theorem wit_cache : (framed .clean).cache.descMiss.head? = some 1 ∧ ((framed .clean).obj.table.find 1).isSome = true ∧
    ((framed .clean).frame frame0).kind = .clean ∧ ((framed .clean).frame frame0).holds = 0 ∧
    ((framed .clean).onCache fun x => { x with waysScratch := 16 }).freeAt (frameIndex frame0) < 8192 ∧
    ((framed .evicting).frame frame0).kind = .evicting ∧ ((framed .evicting).frame frame0).pending = 0 ∧ (framed .evicting).cache.misses = [] ∧
    served.windowUse ≤ (16 - 4 - 2) * 196608 - served.reelLimit := by decide +kernel
/-- WriteBack: the one dirty stripe is the first in the order. -/
def dirtyStripe : Chip :=
  (dirty0.onMed fun m => { m with slots := [(0, {})], sg := m.sg.set 0 { state := .healthy } })
theorem wit_write_back : dirtyStripe.wbFirst 0 (stripeOf 0 0) = true ∧ ((dirtyStripe.group 0).state).permits .partialStripe = true ∧
    ((dirtyStripe.onCache fun k => { k with wb := [{ id := 4, finished := true, release := [0] }] }).op 4).isSome = true ∧
    dirtyStripe.bitsOnMedium { id := 4, finished := true, release := [0] } = true ∧ dirtyStripe.storesWf := by
  unfold Chip.storesWf; decide +kernel
theorem test_write_back_snapshots : (match exec (.writeBackStart 0 (stripeOf 0 0) true) (at' dirtyStripe) with
    | .next t => decide ((t.chip.frame frame0).wb = 1 ∧ t.chip.cache.wb.length = 1) | _ => false) = true := by decide +kernel

/-! ## The medium -/

/-- Channel 0 in a state, its group in another. -/
def chan0 (x : ChState) (g : SgState) : Chip :=
  (inService chip0).onMed fun m => { m with ch := (m.ch.set 0 { state := x, prsntN := false, busy := [{ part := 5, unit := 2, op := 1 }] }),
                                            sg := m.sg.set 0 { state := g } }
/-- Channel 0 changed. -/
def onChan0 (f : Channel → Channel) (c : Chip) : Chip := c.onMed fun m => { m with ch := m.ch.set 0 (f (m.ch.get 0)) }
/-- Modules: a present channel absent, powering without PWRGD, one to remove, one refused, one removing. -/
theorem wit_modules : chip0.chanPresent 35 = true ∧ ((chan0 .absent .empty).chan 0).prsntN = false ∧
    ((chan0 .powering .empty).chan 0).state = .powering ∧ ((chan0 .powering .empty).chan 0).pwrgd = false ∧
    (chan0 .member .healthy).removable 0 = true ∧ (chan0 .member .degraded).removable 0 = false ∧
    ((chan0 .removing .healthy).chan 0).tokensDue = 0 ∧ chip0.groupsFound = false ∧ (chan0 .training .degraded).groupsFound = true ∧
    (chip0.stampFor 0 0).epoch = 0 ∧ ((onChan0 (fun x => { x with refuseBlink := true }) chip0).chan 0).refuseBlink = true := by
  decide +kernel
theorem test_training_of_a_blank_module :
    (match exec (.gmiTrainDone 0 1 0x10041001 9175040 7 2 {} .blank 30) (at' { chan0 .training .failed with id := { chip0.id with serial := 5 } }) with
    | .next t => decide ((t.chip.chan 0).state = .ready ∧ (t.chip.chan 0).margin = 30 ∧ (t.chip.chan 0).module.serial = 7) | _ => false) = true := by decide +kernel
theorem test_other_geometry_fails_in_step_6 :
    (match exec (.gmiTrainDone 0 1 0x10041000 9175040 7 2 {} .blank 30) (at' (chan0 .training .empty)) with
    | .next t => decide ((t.chip.chan 0).state = .failed ∧ (t.chip.chan 0).margin = 30 + 6 * 2 ^ 56) | _ => false) = true := by decide +kernel
theorem test_powering_without_pwrgd_fails : (match exec (.pwrgdTimeout 0) (at' (chan0 .powering .empty)) with
    | .next t => decide ((t.chip.chan 0).state = .failed ∧ (t.chip.chan 0).led = 1) | _ => false) = true := by decide +kernel
theorem find_of_listed (l : List Nat) (q a : Nat) (h : q ∈ l) : SMap.find (l.map fun r => (r, a)) q = some a := by
  induction l with
  | nil => simp at h
  | cons k l ih =>
    by_cases e : q = k
    · simp [SMap.find, e]
    · simpa [SMap.find, e] using ih (by simpa [e] using h)
/-- Members: a rebuild that has reached the last unit of every row. -/
theorem wit_rebuilt : (Group.rebuilt { state := .rebuilding, rows := (List.range 1024).map fun r => (r, 9175040) }) = true := by
  simp only [Group.rebuilt, List.all_eq_true, decide_eq_true_eq]
  intro r hr
  simp [SMap.getD, find_of_listed _ _ _ hr]
/-- Members, MemberErrorsSurvived, OneBusyRule: a member with a busy partition; one whose PROGRAM was retried; the
fifteenth CA parity error; the third read without a header; a retrain that runs; a rebuild; an initialisation. -/
theorem wit_members : (((chan0 .member .healthy).busyAt 0 5).map Busy.retried = some false) ∧ (chan0 .member .healthy).busyAt 0 6 = none ∧
    ((onChan0 (fun x => { x with busy := [{ part := 5, retried := true }] }) chip0).busyAt 0 5).map Busy.retried = some true ∧
    15 ≤ ((onChan0 (fun x => { x with caParErrs := List.replicate 15 0 }) chip0).recentParErrs 0).length ∧ (1 : BitVec 5).getLsbD 0 = true ∧ (onChan0 (fun x => { x with rstN := true }) chip0).gmiUp 0 = true ∧
    (∃ q ∈ ((onChan0 (fun x => { x with reads := [{ line := 3, issued := true }] }) chip0).chan 0).reads, q.line = 3 ∧ q.issued = true) ∧
    (chip0.chan 0).noHeader < 3 ∧ 3 ≤ ((onChan0 (fun x => { x with noHeader := 3 }) chip0).chan 0).noHeader ∧
    ((onChan0 (fun x => { x with retraining := true }) (chan0 .member .retraining)).chan 0).retraining = true ∧
    (((chan0 .rebuilding .rebuilding).onMed fun m => { m with sg := m.sg.set 0 { state := .rebuilding, missing := some 0 } }).group 0).missing = some 0 ∧
    ((chan0 .member .initialising).group 0).state = .initialising ∧ ((chan0 .training .degraded).chan 0).state = .training := by
  decide +kernel
theorem wit_one_busy_rule : (∀ g : GroupNo, ∀ row, ((List.range 9).filter (fun m =>
    ((chip0.chan (memberChan g.val m)).busy.any fun b => decide (b.part = row)))).length ≤ 1) ∧ chip0.cache.wb = [] := by
  have h : ∀ g : GroupNo, ∀ m, m < 9 → (chip0.chan (memberChan g.val m)).busy = [] := by decide +kernel
  refine ⟨fun g row => ?_, rfl⟩
  have e : (List.range 9).filter (fun m => ((chip0.chan (memberChan g.val m)).busy.any fun b => decide (b.part = row))) = [] := by
    rw [List.filter_eq_nil_iff]
    intro m hm
    simp [h g m (List.mem_range.mp hm)]
  rw [e]; decide
theorem test_missing_token_degrades : (match exec (.tokenMissing 0 5) (at' (chan0 .member .healthy)) with
    | .next t => decide ((t.chip.chan 0).state = .missing ∧ (t.chip.group 0).state = .degraded) | _ => false) = true := by decide +kernel

/-- A stripe operation that waits for member 0. -/
def withOp (reserved : Bool) (g : SgState) : Chip :=
  (chan0 .member g).onCache fun k => { k with wb := [{ id := 1, todo := [0], reserved := reserved, cause := .fullStripe }] }
/-- ProgramRun: an operation to reserve, one reserved with room, a busy partition of a relocation, and one of another
operation in the same row. -/
theorem wit_program : (withOp false .healthy).mayReserve { id := 1, todo := [0] } = true ∧ ((withOp true .healthy).op 1).map WbOp.reserved = some true ∧
    (withOp true .healthy).rowBusy 0 (stripeRow 0) = false ∧ (withOp true .healthy).programRoom 0 (stripeRow 0) = true ∧
    (withOp true .healthy).causeRuns .fullStripe = true ∧ (withOp true .healthy).waitsOver { id := 1, todo := [0] } = true ∧
    (withOp true .healthy).readsFirst { id := 1, todo := [0] } 0 = false ∧
    ((onChan0 (fun x => { x with busy := [{ part := 5, cause := .relocation }] }) chip0).busyAt 0 5).map Busy.cause = some .relocation ∧
    ((onChan0 (fun x => { x with busy := [{ part := stripeRow 0, op := 2 }] }) (withOp true .healthy)).rowBusy 0 (stripeRow 0)) = true := by decide +kernel
/-- A rebuild of member 0 whose program of unit 3 in row 5 runs. -/
def rebuildRuns : Chip := onChan0 (fun x => { x with busy := [{ part := 5, unit := 3, cause := .rebuild, op := 1 }] }) (chan0 .rebuilding .rebuilding)
/-- ProgramRun: members to program, and a busy partition of a rebuild. -/
theorem wit_program_members : (withOp false .healthy).opMembers { id := 1, todo := [0] } ≠ [] ∧
    (rebuildRuns.busyAt 0 5).map Busy.cause = some .rebuild ∧ (rebuildRuns.group 0).state = .rebuilding := by decide +kernel
theorem test_rebuild_moves_cursor : (match exec (.programDone 0 5 false) (at' rebuildRuns) with
    | .next t => decide ((t.chip.group 0).rows = [(5, 4)] ∧ t.chip.cache.wb.map WbOp.stripe = [4 * 1024 + 5]) | _ => false) = true := by decide +kernel
theorem test_program_makes_partition_busy : (match exec (.programStart 1) (at' (withOp true .healthy)) with
    | .next t => decide ((t.chip.busyAt 0 (stripeRow 0)).isSome = true ∧ t.chip.outs.length = 1) | _ => false) = true := by decide +kernel

/-- MediumUpkeep: each kind of due work in a HEALTHY group; more than nine tenths of the slots MIXED; a poison list that
changed. -/
theorem wit_medium_upkeep :
    let c := ((chan0 .member .healthy).onInteg fun i => { i with rewrites := [(0, 5 * 2 ^ 24 + 2)], repairs := [0], poison := [{ line := 3 }] })
    c.rewriteAllowed 0 = true ∧ (0, 5 * 2 ^ 24 + 2) ∈ c.integ.rewrites ∧ 0 ∈ c.integ.repairs ∧ c.integ.durable ≠ c.integ.poison ∧
    ((5, 2) ∈ ((onChan0 (fun x => { x with wearDue := [(5, 2)] }) c).chan 0).wearDue) := by decide +kernel
/-- A chip with many MIXED slots. -/
def mixed (n : Nat) : Chip := (chan0 .member .healthy).onMed fun m => { m with mixed := List.replicate n (0, {}) }
theorem mixed_count (n : Nat) : (mixed n).mixedSlots = n := by
  simp [Chip.mixedSlots, mixed, Chip.onMed]
theorem mixed_next (n : Nat) : (mixed (n + 1)).matNext 0 = true := by
  have f : (mixed (n + 1)).med.mixed.find 0 = some {} := rfl
  have m : (mixed (n + 1)).med.mixed = List.replicate (n + 1) (0, {}) := rfl
  have g : ((mixed (n + 1)).group 0).state.permits .mapUpdate = true := by
    have e : (mixed (n + 1)).group 0 = (chan0 .member .healthy).group 0 := rfl
    rw [e]; decide +kernel
  unfold Chip.matNext
  rw [f]
  simp [g, m]
theorem wit_materialise : 122368 * 9 < 10 * (mixed 110132).mixedSlots ∧ (mixed 110132).matNext (slotKey { group := 0, slot := 0 }) = true := by
  rw [mixed_count]; exact ⟨by decide, mixed_next 110131⟩
theorem test_minute_tick : (match exec .minuteTick (at' (onChan0 (fun x => { x with rstN := true }) chip0)) with
    | .next t => decide ((t.chip.chan 0).module.minute = 1 ∧ t.chip.med.minute = 1) | _ => false) = true := by
  decide +kernel

/-- A read of line 0 that waits for the medium. -/
def missing (stage : MissStage) (step : Nat) (x : ChState) (g : SgState) : Chip :=
  ((withObj {} (chan0 x g)).onMed fun m => { m with slots := [(0, {})], ch := m.ch.map fun y => { y with state := x } }).onCache fun k =>
    { k with misses := [{ line := 0, stage := stage, step := step }] }
/-- Where line 0 lies. -/
def place0 : LinePlace :=
  { group := 0, member := dataMember (stripeUnit (stripeOf 0 0)) (dataUnit 0 0), row := stripeRow (stripeOf 0 0),
    unit := stripeUnit (stripeOf 0 0), line := 0 }
/-- MediumReads: no miss; a line to read directly; a missing member of a FAILED group; a read that was sent; the entry of
the ladder. -/
theorem wit_medium_place : (missing .waiting 1 .member .healthy).linePlace 0 = some place0 := by rfl
theorem wit_medium_reads : chip0.missOf 0 = none ∧ memberChan place0.group place0.member < 36 ∧
    ((missing .waiting 1 .member .healthy).missOf 0).map Miss.stage = some .waiting ∧
    (missing .waiting 1 .member .healthy).memberReads 0 place0.member place0.row place0.unit = true ∧
    (missing .waiting 1 .member .healthy).busyAt (memberChan 0 place0.member) place0.row = none ∧
    (missing .waiting 1 .member .healthy).readRoom (memberChan 0 place0.member) place0.row 1 = true ∧
    ((missing .waiting 1 .missing .failed).group 0).state = .failed ∧
    (missing .waiting 1 .missing .failed).memberReads 0 place0.member place0.row place0.unit = false ∧
    ((missing .queued 1 .member .healthy).missOf 0).map Miss.stage = some .queued ∧ (missing .queued 1 .member .healthy).readsIssued 0 0 = true ∧
    ((missing .queued 1 .member .healthy).onMed fun m => { m with ch := m.ch.set place0.member { state := .member, reads := [{ line := 0, issued := true }] } }).readMembers 0 0
      = [place0.member] ∧ (missing .queued 1 .member .healthy).integ.repairs = [] ∧ (missing .waiting 2 .member .healthy).recoveries < 256 := by
  decide +kernel
theorem test_read_of_failed_member_is_poison : (match exec (.mediumReadDispatch 0) (at' (missing .waiting 1 .missing .failed)) with
    | .next t => (t.chip.missOf 0).map Miss.got == some (some { data := 0, poison := true }) | _ => false) = true := by decide +kernel
/-- MediumReads, the patrol scrub: a group whose scrub runs, at a unit that its member serves, with room, busy, and at one that no
member serves; and squall. -/
theorem wit_patrol : (chan0 .member .healthy).scrubRuns 0 = true ∧ (chan0 .member .healthy).memberReads 0 0 0 0 = true ∧
    (chan0 .member .healthy).busyAt 0 0 = none ∧ (chan0 .member .healthy).readRoom 0 0 3 = true ∧
    ((onChan0 (fun x => { x with busy := [{ part := 0 }] }) (chan0 .member .healthy)).busyAt 0 0).isSome = true ∧
    (chan0 .missing .degraded).memberReads 0 0 0 0 = false ∧ (chip0.onCache fun k => { k with squall := 1 }).scrubRuns 0 = false := by decide +kernel
theorem test_patrol_counts_lines :
    (match exec (.patrolScrub 0 ((Vector.replicate 16 .ok).set 3 (.corrected 2) |>.set 9 (.corrected 1)) none (some { wear := 9 })) (at' (chan0 .member .healthy)) with
    | .next t => decide (t.chip.vol 0x4201 1 = 2 ∧ (t.chip.group 0).scrubPos = 1 ∧ (t.chip.chan 0).module.maxWear = 9) | _ => false) = true := by decide +kernel
/-! ## Object commands -/

/-- A command entry from its fields: byte, width, value. -/
def ent (l : List (Nat × Nat × Nat)) : CmdEntry := l.foldl (fun e p => setField e p.1 p.2.1 p.2.2) 0
/-- The conditions of Chip.admits at a mailbox, as a test. -/
def admitsB (c : Chip) (e : CmdEntry) : Bool :=
  !c.sec.locked && (lowest (zeroFaults e false ++ c.fieldFaults e)).isNone && !c.cmdDenied (.mailbox 0) e && c.cmdHere e && (c.cmd c.obj.nextCmd).isNone
theorem admits_of {c : Chip} {e : CmdEntry} (h : admitsB c e = true) : c.admits (.mailbox 0) e := by
  simp only [admitsB, Bool.and_eq_true, Bool.not_eq_true', Option.isNone_iff_eq_none] at h
  exact ⟨h.1.1.1.1, h.1.1.1.2, h.1.1.2, Or.inr h.1.2, h.2⟩
/-- The conditions of Chip.runsOn at a mailbox, as a test. -/
def runsB (c : Chip) (e : CmdEntry) (o : Obj) : Bool :=
  admitsB c e && decide (c.obj.table.find (objOf e) = some o ∧ o.state = .active ∧ bit (flagsOf e) 31 = false ∧ rangeFault e o = none ∧
    c.rivals c.obj.nextCmd e (spanOf e o).1 (spanOf e o).2 = [] ∧ c.pairWaits e = false)
theorem runsOn_of {c : Chip} {e : CmdEntry} {o : Obj} (h : runsB c e o = true) : c.runsOn (.mailbox 0) e o := by
  simp only [runsB, Bool.and_eq_true, decide_eq_true_eq] at h
  obtain ⟨ha, h1, h2, h3, h4, h5, h6⟩ := h
  exact ⟨admits_of ha, h1, h2, fun k => by simp [h3] at k, fun _ _ => h4, h5, h6⟩

/-- In service with object 1 on granule 0 and space on group 0. -/
def store (c : Chip) : Chip := c.onMed fun m => { m with sg := m.sg.set 0 { state := .healthy }, slots := [(0, {})] }
def objs : Chip := store served
def obj1 : Obj := { granules := 1, heads := 1 }
/-- CommandChecks: a locked device, a reserved field, a cue command of a head without access, an unknown object, one in each
state. -/
theorem wit_command_checks : (objs.onSec fun x => { x with locked := true }).sec.locked = true ∧
    lowest (zeroFaults (ent [(2, 1, 0x15), (12, 4, 1)]) false ++ objs.fieldFaults (ent [(2, 1, 0x15), (12, 4, 1)])) = some 12 ∧
    objs.cmdDenied (.cue 1 0) (ent [(2, 1, 0x15), (4, 4, 1)]) = true ∧ objs.cmd objs.obj.nextCmd = none ∧
    admitsB objs (ent [(2, 1, 0x02), (4, 4, 7)]) = true ∧ objs.obj.table.find 7 = none ∧
    admitsB (withObj { state := .destroying } objs) (ent [(2, 1, 0x02), (4, 4, 1)]) = true ∧
    admitsB (withObj { state := .unavailable } objs) (ent [(2, 1, 0x02), (4, 4, 1)]) = true ∧
    admitsB objs (ent [(2, 1, 0x02), (4, 4, 1), (8, 4, 2 ^ 31), (56, 4, 9)]) = true := by decide +kernel
theorem wit_admits : objs.admits (.mailbox 0) (ent [(2, 1, 0x02), (4, 4, 7)]) := admits_of (by decide +kernel)
theorem test_destroy_of_unknown_object : (match exec (.destroy (.mailbox 0) (ent [(4, 4, 7)])) (at' objs) with
    | .next t => ((t.chip.cmd 0).bind RunCmd.result).map (fun r => fieldAt r 8 1) == some stNoObject | _ => false) = true := by decide +kernel

/-- CREATE of one granule at granule 1, of a mirrored one, over granule 0, and without room. -/
def create1 : CmdEntry := ent [(2, 1, 0x01), (16, 8, 2 ^ 21), (24, 4, 1), (30, 2, 1)]
def createM : CmdEntry := ent [(2, 1, 0x01), (8, 4, 1), (16, 8, 2 ^ 21), (24, 4, 1), (30, 2, 1)]
def create0 : CmdEntry := ent [(2, 1, 0x01), (24, 4, 1), (30, 2, 1)]
theorem wit_create : objs.admits (.mailbox 0) create1 ∧ objs.admits (.mailbox 0) createM ∧ objs.admits (.mailbox 0) create0 ∧
    served.admits (.mailbox 0) create1 :=
  ⟨admits_of (by decide +kernel), admits_of (by decide +kernel), admits_of (by decide +kernel), admits_of (by decide +kernel)⟩
theorem wit_create_cases : boolNat (bit (objOf create1) 20) = objs.pos ∧ objs.sec.sanitizing = false ∧ objs.paired = false ∧
    objs.overlaps 0 1 none = true ∧ objs.overlaps 1 1 none = false ∧ served.capacity 0 1 false = false ∧ objs.capacity 0 1 false = true ∧
    objs.pairWaits create1 = false ∧ objs.sec.peerErasing = false ∧ objs.freeId 0 = some 0 ∧ objs.tagState 0 = .empty ∧ objs.twin.state = .unpaired ∧ objs.sec.drbgStopped = false ∧ objs.sec.userPass = none := by
  decide +kernel
/-- CreateObject: a key to hand, and a chip in position 1 of a pair that asks for one. -/
theorem wit_create_keys : objs.keyAtHand 0 ∧ (let c := (paired objs).onTwin fun t => { t with position := true };
    c.tagState 0 = .empty ∧ c.twin.state = .paired ∧ c.twin.position = true ∧ c.pairWaits create1 = false) := by
  unfold Chip.keyAtHand; decide +kernel
theorem test_create : (match exec (.create (.mailbox 0) create1) (at' objs) with
    | .next t => decide (t.chip.obj.table.find 0 = some { base := 1, granules := 1, heads := 1, sgroup := 0 }) | _ => false) = true := by decide +kernel

/-- ReleaseAndResize, RangeCommandsStart, QueryAndAttributes: the commands on object 1. -/
def on1 (op : Nat) (l : List (Nat × Nat × Nat)) : CmdEntry := ent ([(2, 1, op), (4, 4, 1)] ++ l)
theorem wit_destroy : objs.runsOn (.mailbox 0) (asOp 0x02 (on1 0 [])) obj1 := runsOn_of (by decide +kernel)
theorem wit_zero : objs.runsOn (.mailbox 0) (asOp 0x15 (on1 0 [])) obj1 := runsOn_of (by decide +kernel)
theorem wit_resize : objs.runsOn (.mailbox 0) (asOp 0x05 (on1 0 [(24, 4, 1)])) obj1 ∧ objs.runsOn (.mailbox 0) (asOp 0x05 (on1 0 [(24, 4, 2)])) obj1 ∧
    objs.overlaps 1 1 (some 1) = false ∧ objs.capacity 0xFF 1 false = true ∧ served.runsOn (.mailbox 0) (asOp 0x05 (on1 0 [(24, 4, 2)])) obj1 ∧
    served.capacity 0xFF 1 false = false :=
  ⟨runsOn_of (by decide +kernel), runsOn_of (by decide +kernel), by decide +kernel, by decide +kernel, runsOn_of (by decide +kernel), by decide +kernel⟩
/-- Object 1 on the last granule of the half, and a neighbour of it. -/
def lastGran : Chip := objs.onObj fun x => { x with table := [(1, { obj1 with base := 2 ^ 27 - 1 }), (2, { obj1 with base := 2 ^ 27 - 3, granules := 2 })] }
theorem wit_resize_limits : lastGran.runsOn (.mailbox 0) (asOp 0x05 (on1 0 [(24, 4, 2)])) { obj1 with base := 2 ^ 27 - 1 } ∧
    ((2 ^ 27 - 1) / halfGranules + 1) * halfGranules < 2 ^ 27 - 1 + 2 ∧ lastGran.overlaps (2 ^ 27 - 3) 1 (some 1) = true :=
  ⟨runsOn_of (by decide +kernel), by decide +kernel, by decide +kernel⟩
/-- ReleaseAndResize: nothing waits, and every granule of the object is reached. -/
theorem wit_reached : objs.nonePending ∧ objs.storesWf ∧ objs.med.peerSlots = [] := by
  unfold Chip.nonePending Chip.storesWf; decide +kernel
theorem wit_query : objs.admits (.mailbox 0) (asOp 0x04 (on1 0 [])) ∧ bit (flagsOf (asOp 0x04 (on1 0 []))) 0 = false :=
  ⟨admits_of (by decide +kernel), by decide +kernel⟩
theorem wit_set_attr : objs.runsOn (.mailbox 0) (asOp 0x03 (on1 0 [(8, 4, 8), (32, 4, 5)])) obj1 ∧
    bit (flagsOf (asOp 0x03 (on1 0 [(8, 4, 8)]))) 1 = false ∧ bit (flagsOf (asOp 0x03 (on1 0 [(8, 4, 8)]))) 4 = false :=
  ⟨runsOn_of (by decide +kernel), by decide +kernel, by decide +kernel⟩
theorem wit_ranges : objs.runsOn (.mailbox 0) (asOp 0x10 (on1 0 [(32, 1, 0x03)])) obj1 ∧ objs.runsOn (.mailbox 0) (asOp 0x10 (on1 0 [(32, 1, 0x10)])) obj1 ∧
    objs.runsOn (.mailbox 0) (asOp 0x11 (on1 0 [])) obj1 ∧ objs.runsOn (.mailbox 0) (asOp 0x12 (on1 0 [])) obj1 ∧
    objs.runsOn (.mailbox 0) (asOp 0x13 (on1 0 [])) obj1 ∧ objs.runsOn (.mailbox 0) (asOp 0x14 (on1 0 [])) obj1 :=
  ⟨runsOn_of (by decide +kernel), runsOn_of (by decide +kernel), runsOn_of (by decide +kernel), runsOn_of (by decide +kernel),
    runsOn_of (by decide +kernel), runsOn_of (by decide +kernel)⟩
/-- RangeCommandsStart: the dolly is free; squall mode. QueryAndAttributes: room at the partner for a mirror, no mirror outside
PAIRED, a new key tag that is LOADED. -/
theorem wit_dolly_free : objs.dollyFree = true ∧ (objs.onCache fun k => { k with squall := 1 }).dollyFree = false ∧ objs.paired = false ∧
    (objs.onSec fun x => { x with tags := [(5, { state := .loaded })] }).tagState 5 = .loaded := by decide +kernel
theorem test_set_attr_changes_the_tag : (match exec (.setAttr (.mailbox 0) (on1 0 [(8, 4, 8), (32, 4, 5)])) (at' objs) with
    | .next t => (t.chip.obj.table.find 1).map Obj.userTag == some 5 | _ => false) = true := by decide +kernel

/-- Rings: REEL_OPEN over the object's last segment, a reel with a reader, and one at its reader's position. -/
def reeled : Chip := objs.onObj fun x => { x with reels := [{ id := 0, obj := 1, count := 4, readers := [{ no := 0, cursor := 1 }] }] }
theorem wit_reel_open : objs.runsOn (.mailbox 0) (asOp 0x20 (on1 0 [(16, 8, 511), (32, 2, 1), (34, 2, 4)])) obj1 ∧ 511 < objSegs obj1 ∧
    lowestFree (objs.obj.reels.map (·.id)) 0 0 = 0 ∧ objs.reelFrames + 4 ≤ objs.reelLimit ∧
    (let c := objs.onRing fun r => { r with stored := [(dictKey 0x2030 2, 3)] }
     c.reelLimit < c.reelFrames + 4 ∧ c.runsOn (.mailbox 0) (asOp 0x20 (on1 0 [(16, 8, 511), (32, 2, 1), (34, 2, 4)])) obj1) ∧
    (256 ≤ lowestFree (List.range 256) 0 256) :=
  ⟨runsOn_of (by decide +kernel), by decide +kernel, by decide +kernel, by decide +kernel, ⟨by decide +kernel, runsOn_of (by decide +kernel)⟩, by decide +kernel⟩
theorem wit_reel : (reeled.reel 0).map Reel.obj = some 1 ∧ reeled.runsOn (.mailbox 0) (asOp 0x21 (on1 0 [])) obj1 ∧
    reeled.runsOn (.mailbox 0) (asOp 0x22 (on1 0 [(24, 8, 1)])) obj1 ∧ reeled.runsOn (.mailbox 0) (asOp 0x22 (on1 0 [(24, 8, 3)])) obj1 ∧
    reeled.runsOn (.mailbox 0) (asOp 0x22 (on1 0 [(24, 8, 4)])) obj1 ∧ reeled.runsOn (.mailbox 0) (asOp 0x23 (on1 0 [])) obj1 :=
  ⟨by decide +kernel, runsOn_of (by decide +kernel), runsOn_of (by decide +kernel), runsOn_of (by decide +kernel), runsOn_of (by decide +kernel),
    runsOn_of (by decide +kernel)⟩
theorem test_reel_advance_past_the_end : (match exec (.reelAdvance (.mailbox 0) (on1 0 [(24, 8, 4)])) (at' reeled) with
    | .next t => ((t.chip.cmd 0).bind RunCmd.result).map (fun r => (fieldAt r 8 1, fieldAt r 9 1)) == some (stField, 24) | _ => false) = true := by
  decide +kernel

/-- CommandResults: a result that waits for a cue slot, a command at the partner out of reach, an object being destroyed. -/
def ran (r : RunCmd) : Chip := objs.onObj fun x => { x with cmds := [r], nextCmd := 1 }
theorem wit_results : objs.cmd 0 = none ∧ ((ran { path := .cue 0 3, result := some 1 }).cmd 0).map RunCmd.result = some (some 1) ∧
    (ran { path := .cue 0 3, result := some 1 }).mediumPending 0 = false ∧
    ((objs.onCache fun k => { k with wb := [{ id := 0, cause := .tableRegion, reserved := true }] }).mediumPending 1) = true ∧
    (ran { entry := on1 0x10 [(4, 4, 2 ^ 20)] }).twin.link ≠ .up ∧
    ((ran { entry := on1 0x10 [(4, 4, 2 ^ 20)] }).onTwin fun t => { t with state := .paired }).cmdHere (on1 0x10 [(4, 4, 2 ^ 20)]) = false ∧
    ((withObj { state := .destroying } objs).obj.table.find 1).map Obj.state = some .destroying := by decide +kernel
/-- Rings: the window of a head closed, open, its ring enabled, being reset, delaying. -/
def cued (q : Cue) : Chip := served.onHead 0 fun x => { x with cue := q }
theorem wit_cue : chip0.windowOpen 0 = false ∧ (cued {}).windowOpen 0 = true ∧ ((cued { enable := true }).head 0).cue.enable = true ∧
    (cued { resetBusy := true }).ringCmds 0 = [] ∧ ((cued { delaying := true }).head 0).cue.delaying = true ∧ (cued {}).obj.cmds = [] := by decide +kernel
theorem test_doorbell_without_enable : (match exec (.cueTail 0 5) (at' (cued {})) with
    | .next t => decide ((t.chip.head 0).cue.tailErr = true ∧ (t.chip.head 0).cue.tail = 0) | _ => false) = true := by decide +kernel
/-! ## The dolly -/

/-- The dolly with one queued move of granule 0 to group 0, on a chip with space and budget. -/
def mover : Chip := (objs.onDolly fun d => { d with queue := [{ obj := 1, gran := 0, group := 0 }] }).onCache fun k => { k with budget := 2 ^ 30 }
/-- Granule 0 open, with one segment at a stage. -/
def moving (o : OpenGran) : Chip := (mover.onDolly fun d => { d with opened := [{ o with obj := 1, dst := if o.kind = .cross then none else some { slot := 1 } }] })
/-- Moves, within the chip: a move to open with and without a free slot; a segment to claim, copied, to switch; a granule
whose segments have all switched, one that lacks one, one whose target is FAILED. -/
theorem wit_granule_open : mover.dolly.opened.length < 64 ∧ mover.openGran 0 = none ∧ mover.dollyRuns = true ∧
    mover.nextMove 0 = some { obj := 1, gran := 0, group := 0 } ∧ mover.med.slots.find 0 = some {} ∧ mover.freeSlot 0 = some 1 ∧
    (mover.onMed fun m => { m with sg := m.sg.set 0 { state := .healthy, evacuating := true } }).freeSlot 0 = none := by decide +kernel
theorem wit_segments : (moving {}).dollyRuns = true ∧ (moving {}).stagedCount + 2 ≤ 256 ∧ (moving {}).noSnapshot 511 = true ∧ (moving {}).dollyRoom 511 = true ∧ (moving {}).dollyFree = true ∧
    ((moving {}).openGran 0).map (fun o => (o.isTarget, o.stage 511)) = some (false, none) ∧
    ((moving { segs := [(511, .claimed)] }).openGran (segGran 511)).map (fun o => o.stage 511) = some (some .claimed) ∧
    (moving {}).stagedDone {} 511 = true ∧ ((moving { segs := [(511, .copied)] }).openGran 0).map OpenGran.prep = some [] := by decide +kernel
theorem find_const (v : SegStage) (q : Nat) : ∀ l : List Nat, q ∈ l → SMap.find (l.map fun i => (i, v)) q = some v
  | [], h => by cases h
  | x :: r, h => by
    by_cases e : q = x
    · simp [SMap.find, e]
    · have h' : q ∈ r := (List.mem_cons.mp h).resolve_left e
      simpa [SMap.find, e] using find_const v q r h'
theorem wit_commit : (∀ n, n < 512 → ({ segs := (List.range 512).map fun i => (i, SegStage.switched) } : OpenGran).switched n = true) ∧
    (moving {}).targetFailed { dst := some { slot := 1 } } = false ∧ ({} : OpenGran).switched 511 = false ∧
    ((moving {}).onMed fun m => { m with sg := m.sg.set 0 { state := .failed } }).targetFailed { dst := some { slot := 1 } } = true := by
  refine ⟨fun n h => ?_, by decide +kernel, by decide +kernel, by decide +kernel⟩
  have e : n % 512 = n := Nat.mod_eq_of_lt h
  simp [OpenGran.switched, OpenGran.stage, e, find_const SegStage.switched n (List.range 512) (List.mem_range.mpr h)]
/-- GranuleMove: no suspect line and none lost; a committed granule whose programs are confirmed and one whose are not; a
journal place for a mirror build; room at the partner. -/
theorem wit_move_more : (moving {}).copyLost 5 = false ∧ (moving { commitAt := some 1 }).mediumPending 1 = false ∧
    ((moving { commitAt := some 1 }).onCache fun k => { k with wb := [{ id := 0, cause := .tableRegion, reserved := true }] }).mediumPending 1 = true ∧
    (mover.onMed fun m => { m with peerRoom := [(0, 4)] }).peerFree 0 = 4 ∧ mover.pinnedIn 0 = [] ∧
    mover.dolly.opened.all (fun x => !x.poisoned) = true := by decide +kernel
theorem test_claim : (match exec (.segmentClaim 511 true []) (at' (moving {})) with
    | .next t => (t.chip.openGran 0).map (fun o => (o.stage 510, o.stage 511)) == some (some .claimed, some .claimed) | _ => false) = true := by
  decide +kernel
/-- Moves, across chips: the header is heard; a target with and without room; a segment that S prepared; one that T takes
over; one that S switched. -/
def crossing (target : Bool) (segs : SMap SegStage) (prep : List Nat) : Chip :=
  linked (moving { kind := .cross, isTarget := target, segs := segs, prep := prep })
theorem wit_cross : (crossing true [] []).linkReady = true ∧ (crossing true [] []).olderEpoch 0 = false ∧
    (crossing true [] []).targetOf 0 ≠ none ∧ (crossing true [] []).cache.squall = 0 ∧
    (crossing true [] []).dirtyTotal + 4096 ≤ (crossing true [] []).cache.budget ∧
    (crossing true [] []).windowUse + 2 ≤ (crossing true [] []).windowCap ∧ (crossing false [] [0]).targetOf 0 = none ∧
    (((crossing false [] [0]).openGran 0).map OpenGran.prep) = some [0] ∧ (crossing false [] [0]).forwardedIn 0 = 0 ∧
    SMap.sorted ([] : SMap SegStage) = true ∧ (((crossing false [(0, .switched)] []).openGran 0).map fun o => o.switched 0) = some true ∧
    (crossing false [] []).cache.creditQ = [] ∧ (((crossing false [(0, .copied)] []).openGran 0).map fun o => (o.crosses, o.stage 0)) = some (true, some .copied) := by
  decide +kernel
theorem wit_cross_room : (crossing true [] []).dirtyTotal + 4096 * ((crossing true [] []).reservedSegs + 1) ≤ (crossing true [] []).cache.budget ∧
    (crossing true [] []).windowUse + 2 * ((crossing true [] []).reservedSegs + 1) ≤ (crossing true [] []).windowCap ∧ (crossing true [] []).nonePending := by
  unfold Chip.nonePending; decide +kernel
theorem wit_cross_hears : (crossing true [] []).hears {} ∧ (crossing false [] [0]).hears {} := by
  unfold Chip.hears; decide +kernel
theorem wit_pin_move : ((objs.onDolly fun d => { d with pins := [{ seg := 0, frame := frame0 }] }).dolly.pins.find? (fun p => decide (p.seg = 0))).isSome = true := by
  decide +kernel
theorem test_move_prep_parks : (match exec (.movePrep {}) (at' (crossing true [] [])) with
    | .next t => (t.chip.openGran 0).map OpenGran.prep == some [0] | _ => false) = true := by decide +kernel

/-! ## The pair -/

/-- A chip with a serial number of its own, PAIRED with the chip of serial 9. -/
def twin (p : PairState) (c : Chip) : Chip :=
  linked ((c.onId fun x => { x with serial := 5 }).onTwin fun t => { t with state := p, twinSerial := 9, epoch := 7, auth := true, helloSent := true })
/-- TwinEpochGate, ForwardedAnsweredOrWaits, MirrorCopies: a current epoch, an older one, no link. -/
theorem wit_epochs : (twin .paired objs).hearsReq { epoch := 7 } ∧ (twin .paired objs).hears { epoch := 7 } ∧
    ¬ (twin .unpaired objs).hearsReq { epoch := 7 } ∧ (twin .paired objs).olderEpoch 6 = true ∧ (twin .paired objs).olderEpoch 7 = false ∧
    (twin .paired objs).olderEpoch 8 = false ∧ chip0.linkReady = false ∧ (twin .paired objs).cmd 0 = none := by
  unfold Chip.hearsReq Chip.hears; decide +kernel
theorem test_fwd_read : (match exec (.fwdRead { epoch := 7, tag := 4 } .ok) (at' (twin .paired objs)) with
    | .next t => t.chip.outs.any (fun o => match o with | .twin h (.fwdData d) => h.tag == 4 && d == 0 | _ => false) | _ => false) = true := by
  decide +kernel
/-- TwinAnswers: a forwarded read, a mirrored write and a forwarded command that wait. -/
def asking : Chip := (twin .paired objs).onTwin fun t =>
  { t with fwd := [{ tag := 1, req := { src := .head 0, tag := 8 } }], mirror := [{ tag := 2, req := { src := .head 0, write := true, tag := 9 } }],
           fwdCmds := [{ tag := 3, cmd := 0 }] }
theorem wit_twin_answers : asking.linkReady = true ∧ (asking.twin.fwd.find? (fun f => decide (f.tag = 1))).isSome = true ∧
    (asking.twin.mirror.find? (fun f => decide (f.tag = 2))).isSome = true ∧ (asking.twin.fwdCmds.find? (fun f => decide (f.tag = 3))).isSome = true ∧
    (asking.head 0).link = .up := by decide +kernel
theorem test_mirror_commit_acknowledges : (match exec (.mirrorCommit { tag := 2 }) (at' asking) with
    | .next t => t.chip.outs.all (fun o => match o with | .writeDone 0 9 _ => true | _ => false) && decide (t.chip.outs.length = 1 ∧ t.chip.twin.mirror = []) | _ => false) = true := by decide +kernel
/-- MirrorCopies: a dirty line at its home, a line asked of the partner, a segment copy. -/
theorem wit_mirror_copies : (twin .paired dirty0).lineDirty 0 = true ∧ (twin .paired dirty0).homeHere 0 = true ∧
    (twin .paired objs).lineDirty 0 = false ∧
    (((twin .paired (missing .fetching 1 .member .healthy)).missOf 0).map Miss.stage) = some .fetching ∧
    objs.cache.frames = [] ∧ objs.openGran (segGran 0) = none ∧ objs.med.slots.find (segGran (lineSeg 0)) = some {} := by decide +kernel
/-- TwinLink: a link that is down with the device out of reset; up in PAIRED, with and without a witness, and REJOINING. -/
theorem wit_twin_link : objs.twin.link ≠ .up ∧ objs.boot.mainOut = true ∧ objs.wrap.state = 0 ∧ (twin .paired objs).twin.link ≠ .down ∧
    (twin .paired objs).wit.state ≠ .witnessLost ∧ ((twin .paired objs).onWit fun w => { w with state := .witnessLost }).wit.state = .witnessLost ∧
    (twin .rejoining objs).twin.state = .rejoining ∧ ((twin .alone objs).onTwin fun t => { t with probing := true }).twin.probing = true ∧
    objs.wrapping = false ∧ objs.twin.pulseLost = false := by decide +kernel
theorem test_link_down_without_witness_fences :
    (match exec .twinLinkDown (at' ((twin .paired objs).onWit fun w => { w with state := .witnessLost })) with
      | .next t => decide (t.chip.twin.state = .fenced ∧ (t.chip.head 0).link = .disabled) | _ => false) = true := by decide +kernel
/-- What the partner of serial 9 says of itself. -/
def hello9 : Hello := { serial := 9, epoch := 3, witness := BitVec.ofNat 48 chip0.witnessNode, proto := chip0.twinProto }
/-- A chip that has not been paired and is registered. -/
def alone5 : Chip := ((twin .unpaired objs).onTwin fun t => { t with twinSerial := 0 }).onWit fun w => { w with registered := true }
/-- PairTables: a HELLO that is refused, one accepted; the acceptor's PAIR_ACCEPT; a refusal; a chip already PAIRED. -/
theorem wit_pair_forms : alone5.linkReady = true ∧ alone5.twin.auth = true ∧ alone5.mutual hello9 = false ∧
    alone5.refusalCause hello9 = 0 ∧ alone5.refusalCause { hello9 with part := 200 } ≠ 0 ∧ alone5.inPairStage = false ∧ alone5.accepts hello9 = true ∧
    alone5.accepts { hello9 with serial := 4 } = false ∧ alone5.refusalCause { hello9 with serial := 4 } = 0 ∧ alone5.twin.staleDone = false ∧
    (twin .paired objs).twin.state = .paired := by decide +kernel
/-- PairForms: refused outside the pair stage with HELLO to be sent; ALONE and SPLIT, that are not refused; TablesAlike: nothing
waits, a position 0 that gives its key. -/
theorem wit_pair_more : alone5.twin.peerHello = none ∧ (twin .alone objs).twin.state = .alone ∧ (twin .paired objs).nonePending ∧
    (twin .paired objs).twin.position = false ∧
    ((twin .paired objs).onSec fun x => { x with tags := [(5, { state := .loaded })] }).tagState 5 = .loaded := by
  unfold Chip.nonePending; decide +kernel
theorem test_pair_forms : (match exec (.hello hello9) (at' alone5) with
    | .next t => decide (t.chip.twin.state = .paired ∧ t.chip.twin.epoch = 8 ∧ t.chip.twin.twinSerial = 9) | _ => false) = true := by decide +kernel
/-- PairTables, the tables: an object that is new, a home that is not the granule's half, no commands. -/
theorem wit_tables : (twin .paired objs).obj.table.find 2 = none ∧ true ≠ granHalf 0 ∧ (twin .paired objs).obj.cmds = [] ∧
    (twin .split objs).twin.state ≠ .paired ∧ (twin .split objs).hears { epoch := 7 } := by
  refine ⟨by decide +kernel, by decide +kernel, by decide +kernel, by decide +kernel, ?_⟩
  unfold Chip.hears; decide +kernel
theorem test_zero_clears : (match exec (.tableUpdate { epoch := 7 } (.zero 0 512 0 false)) (at' ((twin .paired objs).onMed fun m => { m with map := [(0, 1)] })) with
    | .next t => decide (t.chip.lineWritten 0 = false) | _ => false) = true := by decide +kernel
/-- PlannedHandover: X begun, X installing, Y parking; the option to leave. -/
theorem wit_handover : ((twin .paired objs).onTwin fun t => { t with hand := .begun }).twin.hand = .begun ∧ (twin .paired objs).twin.mirror = [] ∧
    (twin .paired objs).twin.fwdIn = [] ∧ (twin .paired objs).cache.creditQ = [] ∧ (twin .paired objs).twin.handY = false ∧
    ((twin .paired objs).onTwin fun t => { t with handY := true }).twin.handY = true ∧
    ((twin .paired objs).onTwin fun t => { t with hand := .installing }).twin.hand = .installing ∧ (twin .paired objs).twin.handQ = [] ∧
    (twin .paired objs).wit.rehearsalDue = false ∧ ((twin .paired objs).setVol 0x5030 2 1).vol 0x5030 2 = 1 ∧ objs.vol 0x5030 2 ≠ 1 := by decide +kernel
theorem test_handover_parked : (match exec (.handoverParked { epoch := 7 } 2) (at' ((twin .paired objs).onTwin fun t => { t with hand := .begun })) with
    | .next t => decide (t.chip.twin.hand = .installing ∧ t.chip.twin.epoch = 8) | _ => false) = true := by decide +kernel
/-- HeldAndAudited: the audit on and off, a granule to ask for, an open audit; a held read, a mirrored write, a poison
note that waits. -/
def audited : Chip := (twin .paired (withObj { mirror := true } objs)).onRing fun r => { r with stored := [(dictKey 0x5041 1, 1)] }
def holding : Chip := served.onTwin fun t =>
  { t with holdQ := [{ src := .head 0, tag := 6 }], mirror := [{ tag := 2, req := { src := .head 0, write := true, tag := 9 } }] }
theorem wit_audit : audited.par 0x5041 1 1 ≠ 0 ∧ audited.paired = true ∧ audited.twin.suspended = false ∧ audited.auditGrans = [0] ∧
    audited.granDirty 0 = false ∧ audited.med.stale = [] ∧ (audited.onRing fun r => { r with stored := [(dictKey 0x5041 1, 0)] }).par 0x5041 1 1 = 0 ∧
    ((twin .paired dirty0).granDirty 0) = true := by decide +kernel
/-- HeldAndAudited: an audit that waits for its digest, and one that differs from this chip's. -/
theorem wit_digest : audited.linkReady = true ∧ audited.auditGrans.find? (fun g => decide (audited.twin.auditPos ≤ g)) = some 0 ∧
    (∃ d, d ≠ audited.granDigest 0) ∧ (audited.onTwin fun t => { t with audit := some { gran := 0, tag := 4 } }).twin.audit.map (·.tag) = some 4 :=
  ⟨by decide +kernel, by decide +kernel, ⟨audited.granDigest 0 + 1, by simp⟩, by decide +kernel⟩
theorem wit_held : holding.linkReady = false ∧ holding.twin.holdQ[0]?.map (·.tag) = some 6 ∧
    (holding.twin.mirror[0]?.map (fun m => m.req.write)) = some true ∧ (holding.head 0).link = .up ∧
    ((holding.onWit fun w => { w with poisonNotes := [(3, { src := .head 0, write := true })] }).wit.poisonNotes.length = 1) := by decide +kernel
theorem test_held_read_expires_as_poison : (match exec (.holdExpired false 0) (at' holding) with
    | .next t => t.chip.outs.any (fun o => match o with | .readDone 0 6 0 true _ => true | _ => false) | _ => false) = true := by decide +kernel
/-- LeaseFrames, FenceTakeoverSplit, Rehearsal: registered and not, a RENEW that waits; a lease, the link and the witness
both lost; a claim; the start's pair stage; the lost chip; a drill. -/
def leasing : Chip := (twin .paired objs).onWit fun w => { w with registered := true, state := .current, renews := [(4, 10)] }
theorem wit_lease : chip0.wit.registered = false ∧ leasing.wit.relayNext = false ∧
    leasing.wit.renews.find? (fun q => decide (q.1 = 4)) = some (4, 10) ∧ leasing.id.serial = 5 ∧ leasing.twin.peerHello = none ∧
    leasing.leased = true ∧ leasing.bothLost = false ∧ chip0.leased = false ∧
    ((leasing.onWit fun w => { w with reachLost := true }).onTwin fun t => { t with peerLease := 3 }).bothLost = true ∧
    ((leasing.onWit fun w => { w with claim := some 1 }).mayClaim = true) ∧ (leasing.onBoot fun b => { b with stage := 5 }).inPairStage = true ∧
    leasing.inPairStage = false ∧ leasing.paired = true ∧ objs.paired = false ∧ (leasing.onTwin fun t => { t with lostChip := true }).twin.lostChip = true ∧
    leasing.wrapping = false ∧ leasing.wit.seqLow ≠ BitVec.allOnes 32 ∧ leasing.seqSpent = false ∧ leasing.mayHello = true ∧
    leasing.hears { epoch := 7 } := by
  unfold Chip.hears; decide +kernel
/-- LeaseFrames: a chip whose witness sequence and whose counter 2 are spent. -/
def spent : Chip := (leasing.onWit fun w => { w with seqLow := BitVec.allOnes 32 }).onLedger fun l =>
  { l with cells := l.cells.write (counterBase 2) (toBytes 7 counterLimit ++ [1]) }
theorem wit_seq_spent : spent.seqSpent = true ∧ spent.wit.registered = true ∧ spent.twin.state ≠ .fenced ∧ spent.wrapping = false := by decide +kernel
theorem wit_rehearsal : leasing.par 0x5040 3 86400000000000 ≠ 0 ∧ leasing.wit.drill = false ∧ leasing.rehearsalWaits = false ∧
    (leasing.onTwin fun t => { t with handY := true }).rehearsalWaits = true ∧ (leasing.onWit fun w => { w with drill := true }).wit.drill = true := by
  decide +kernel
theorem test_renew_ack_extends : (match exec (.renewAck { type := 3, chip := 5 } (some 4)) (at' leasing) with
    | .next t => decide (t.chip.wit.leaseEnd = 200010 ∧ t.chip.wit.renews = []) | _ => false) = true := by decide +kernel
theorem test_deny_in_the_pair_stage : (match exec (.verdictDeny false) (at' (leasing.onBoot fun b => { b with stage := 5 })) with
    | .next t => decide (t.chip.boot.stage = 10 ∧ t.chip.wit.claim = none) | _ => false) = true := by decide +kernel
/-! ## Writes of dictionary entries -/

/-- In service on the ring with the Custodian's key, memory on group 0, and nothing in the ledger's way. -/
def acting : Chip := (objs.onRing fun r => { r with ports := Vector.replicate 2 .up, keyCust := some 1, keyOp := some 2 }).onPwr fun p => { p with state := .on }
/-- A requester on the ring that signs as the Custodian. -/
def cust : Access := { req := .ring 0x10, auth := .custodian, tid := 1 }
/-- The conditions of Chip.writes for that requester, as a test. -/
def freshB (c : Chip) : Bool :=
  decide (c.ringServed = true ∧ c.authBad cust = false ∧ c.ring.closed = [] ∧ c.openXfer cust.req cust.tid = none ∧ c.ring.transfers = [] ∧ c.sec.eraseReq = none)
def writesB (c : Chip) (p : Nat × Nat × List Byte) : Bool :=
  freshB c && (match c.entry p.1 p.2.1 with | some r => decide (c.writeFault cust r p.2.1 p.2.2 = 0) | none => false)
theorem fresh_of {c : Chip} (h : freshB c = true) : c.ringFresh cust := by
  simp only [freshB, decide_eq_true_eq] at h
  obtain ⟨h1, h2, h3, h4, h5, h6⟩ := h
  refine ⟨h1, h2, ?_, h4, ?_, ?_, ?_⟩ <;> simp [h3, h5, h6]
theorem writes_of {c : Chip} {p : Nat × Nat × List Byte} (h : writesB c p = true) : c.writes cust p.1 p.2.1 p.2.2 := by
  simp only [writesB, Bool.and_eq_true] at h
  obtain ⟨h1, h2⟩ := h
  refine ⟨fresh_of h1, ?_⟩
  split at h2
  · rename_i r hr; exact ⟨r, hr, by simpa using h2⟩
  · cases h2
/-- PlacementActions, PowerAndLedgerActions, SecurityAndUpdateActions, CoresAndTests, DictionaryWriteRows: every row's write
passes the checks of its entry. -/
theorem wit_writes : [(0x3000, 2, [(1 : Byte)]), (0x3000, 3, [1]), (0x1401, 1, [0]), (0x3813, 1, [3]), (0x3813, 1, [15]), (0x4004, 1, [35]), (0x4013, 1, [3]),
    (0x5030, 1, [1]), (0x5040, 1, [1]), (0x5000, 6, toBytes 8 9), (0x2041, 1, toBytes 4 0x100), (0x2041, 1, toBytes 4 0x10000),
    (0x2070, 1, entryBytes (ent [(2, 1, 4), (4, 4, 1)])), (0x6004, 4, [1]), (0x6012, 4, [1]), (0x6020, 2, [1]), (0x6020, 2, [2]), (0x7040, 5, [1]),
    (0x7010, 4, List.replicate 256 0), (0x7020, 4, toBytes 8 7), (0x7020, 5, toBytes 12 0), (0x7020, 6, [3]), (0x7031, 1, [63]), (0x8011, 1, [255]),
    (0x8050, 2, List.replicate 64 0), (0x1140, 1, [1]), (0xA000, 2, toBytes 8 0x100), (0x9010, 3, [1]), (0x9010, 3, [2]), (0x9030, 1, [1]), (0x9000, 6, [1]),
    (0x9000, 7, [1]), (0x9040, 3, List.replicate 32 0), (0x9040, 5, List.replicate 32 0), (0x9050, 1, [1]), (0xA110, 1, [9]), (0xA120, 6, [1]),
    (0xA100, 1, [1, 0, 0, 0]), (0xA100, 1, [3, 35, 0, 0]), (0xA100, 1, [8, 5, 0, 0])].all (writesB acting) = true := by decide +kernel
theorem wit_write_lands : acting.writes cust 0x3000 2 [1] := writes_of (p := (0x3000, 2, [1])) (by decide +kernel)
/-- DictionaryWriteRows: an absent entry, a requester at a mailbox and one at the control window. -/
theorem wit_write_paths : acting.entry 0x0FFF 1 = none ∧ asWrite (.headDcRegions { req := .mailbox 0, tid := 1 } 3 5) = some ({ req := .mailbox 0, tid := 1 }, 0x1401, 4, [5], true) ∧
    (acting.onHead 0 fun x => { x with bars := x.bars.set 0 0x1000 }).boxServed 0 ∧ acting.openXfer (.mailbox 0) 1 = none ∧ acting.winServed 0 ∧
    (acting.winEntry 0x2030 2 .word).isSome = true ∧ (acting.winEntry 0x1401 4 .pair).isSome = false := by
  unfold Chip.boxServed Chip.winServed; decide +kernel
theorem wit_write_sq : writesB acting (0x6001, 16, toBytes 32 (sqDefault 15)) = true := by decide +kernel
theorem wit_write_block : writesB acting (0x9010, 2, List.replicate 4112 0) = true := by decide +kernel
/-- DictionaryWriteRows: a level too low is turned away. -/
theorem test_level_too_low : (acting.entry 0x8011 1).map (fun r => acting.writeFault { cust with auth := .operator } r 1 [0]) = some abAccessDenied := by
  decide +kernel
/-- ReservedBits: on each configuration a value that changes a reserved bit, at a requester that may write. -/
theorem wit_reserved : acting.id.part = .klx9256 ∧ (acting.onId fun x => { x with part := .klx9064 }).id.part ≠ .klx9256 ∧
    (acting.entry 0x2041 1).map (fun r => (decide (r.acc ≠ .ro ∧ r.type ≠ .domain ∧ r.type.size = 4 ∧ r.level ≤ acting.levelOf cust),
      decide (((0x80000000 : Nat) ^^^ 0) &&& rsvMask r 1 ≠ 0), outOfRange r 0x80000000)) = some (true, true, false) := by decide +kernel
theorem test_reserved_bit_is_write_locked : (acting.entry 0x2041 1).map (fun r => acting.writeFault cust r 1 (toBytes 4 0x80000000)) = some abWriteLocked := by
  decide +kernel
/-- PlacementActions: where each action is granted and where it is refused. -/
theorem wit_placement : acting.wayConflict 1 0 = false ∧ acting.wayConflict 4 1 = true ∧ acting.hbm.pcs.get 15 = .spare ∧
    (acting.hbm.pcs.get 3 = .inService ∧ acting.hbm.retire = none ∧ acting.sparePc.isSome = true) ∧
    (acting.onMed fun m => { m with ch := m.ch.set 35 { state := .ready } }).removable 35 = true ∧ acting.removable 35 = false ∧
    (acting.group 3).state = .empty ∧ (acting.group 0).state = .healthy ∧ (twin .paired acting).handoverReady = true ∧ acting.handoverReady = false ∧
    acting.wit.seqLow ≠ BitVec.allOnes 32 ∧ (acting.onMed fun m => { m with peerRoom := [(1, 100)] }).med.peerRoom.getD 1 0 ≠ 0 ∧
    acting.wit.drill = false ∧ acting.rehearsalWaits = false ∧ acting.twin.peerHello = none ∧ acting.dolly.evac = none ∧ 0 ∈ acting.groupNos ∧
    (acting.med.slots.filter fun p => decide (p.2.group = 0)).map Prod.fst = [0] ∧ acting.cmd acting.obj.nextCmd = none ∧ acting.obj.dictRes = [] := by
  decide +kernel
theorem test_evacuation_starts : (match exec (.evacCmd cust 0x200) (at' (acting.onMed fun m => { m with sg := m.sg.set 1 { state := .healthy } })) with
    | .next t => decide (t.chip.dolly.evacState = 1 ∧ (t.chip.group 0).evacuating = true) | _ => false) = true := by decide +kernel
/-- PowerAndLedgerActions: where each action is granted and where it is refused. -/
theorem wit_power_actions : acting.ledger.failed = false ∧ acting.storesWf ∧ acting.sqCheck 15 (sqDefault 15) = 0 ∧ acting.sqCheck 0 1 ≠ 0 ∧ acting.wrap.state = 0 ∧
    acting.res.probe = 0 ∧ acting.probeLoad = 0 ∧ (acting.onRing fun r => { r with stored := [(dictKey 0x6011 5, 100)] }).probeLoad ≠ 0 ∧
    acting.pwr.state = .on ∧ acting.boot.mainOut = true ∧ acting.vol 0x7020 7 < 8 ∧ acting.ledger.passwords.get 3 = none ∧
    (acting.counter 63 < counterLimit) ∧ acting.areaLocked 0x6C0000 256 = false := by
  refine ⟨by decide +kernel, by unfold Chip.storesWf; decide +kernel, ?_⟩
  decide +kernel
theorem wit_reads : acting.asksRead cust ∧ (acting.rawRead 2 0x6C0000).1 = 0 ∧ 2 ≤ acting.levelOf cust ∧ acting.sec.drbgStopped = false ∧
    ((acting.onLedger fun l => { l with evtRing := [(0, {})] }).eventRecord (acting.sel cust.req 0xA030 1)).isSome = true ∧
    acting.storeExport.length ≤ 65528 := by
  refine ⟨fresh_of (by decide +kernel), ?_⟩
  decide +kernel
theorem test_password_set : (match exec (.userPassword cust 3 7) (at' acting) with
    | .next t => decide (t.chip.ledger.passwords.get 3 = some 7) | _ => false) = true := by decide +kernel
theorem test_wrong_password_counts : (match exec (.userUnlock cust (3 + 2 ^ 32 * 8)) (at' (acting.onLedger fun l => { l with passwords := l.passwords.set 3 (some 7) })) with
    | .next t => decide (t.chip.vol 0x7020 7 = 1 ∧ t.chip.ledger.unlocked = 0) | _ => false) = true := by decide +kernel
/-- SecurityAndUpdateActions: where each action is granted and where it is refused. -/
theorem wit_security_actions : acting.tagInUse 255 = false ∧ acting.tagInUse 0 = true ∧ acting.mayErase = true ∧ acting.sec.eraseTag = none ∧
    acting.waysFit [] ∧ ¬ acting.waysFit [(dictKey 0x3000 2, 4), (dictKey 0x3000 3, 1)] ∧
    acting.par 0x3000 2 0 = 0 ∧ acting.par 0x3000 3 0 = 0 ∧ acting.sel cust.req 0x9010 1 0xFF = 0xFF ∧ acting.boot.upload = none ∧ acting.slotRefused true = false ∧
    acting.activateFault 0 ≠ 0 ∧ (acting.onBoot fun b => { b with record := { b.record with state := .probation } }).boot.record.state = .probation ∧
    acting.inService = true ∧ (acting.onBoot fun b => { b with record := { b.record with previous := some true } }).boot.record.previous.isSome = true ∧
    (acting.onBoot fun b => { b with upload := some { via := .dict } }).boot.upload.map Upload.via = some .dict ∧
    storeParse (toBytes 4 0x3953444B ++ toBytes 2 3 ++ toBytes 2 0 ++ toBytes 4 0 ++ toBytes 4 32 ++ List.replicate 16 0) = some (3, []) := by
  unfold Chip.waysFit; decide +kernel
theorem test_abandoned_upload : (match exec (.updAbandon cust) (at' (acting.onBoot fun b => { b with upload := some { via := .dict } })) with
    | .next t => decide (t.chip.boot.upload = none ∧ t.chip.boot.updState = 0) | _ => false) = true := by decide +kernel
/-- CoresAndTests: a core that runs, restarts, may retire and may not; each test's targets; a test that runs; the barometer. -/
theorem wit_cores : acting.coreRuns 3 = true ∧ ({ acting with cores := acting.cores.set 3 .restarting } : Chip).cores.get 3 = .restarting ∧
    acting.retireDenied 3 = false ∧ acting.retireDenied 11 = true ∧ acting.isolated 0 = false ∧ (acting.setVol 0xA120 1 1).isolated 0 = true ∧
    acting.bistTarget 3 35 = true ∧ acting.bistTarget 3 36 = false ∧ acting.bistTarget 7 9 = true ∧ acting.bistTarget 7 10 = false ∧
    acting.bistTarget 8 5 = true ∧ acting.bistTarget 8 6 = false ∧ acting.boot.bist = none ∧ acting.bistDenied 1 0 = false ∧ acting.bistDenied 4 0 = false ∧
    (acting.onBoot fun b => { b with bist := some { test := 6 } }).boot.bist.map Bist.test = some 6 ∧ acting.wit.rehearsalDue = false ∧
    acting.barometerNow ≠ acting.boot.barometer ∧ acting.boot.romDone = true := by decide +kernel
theorem test_bist_starts : (match exec (.bistHbmSpare cust) (at' acting) with
    | .next t => t.chip.boot.bist.map Bist.test == some 1 | _ => false) = true := by decide +kernel
/-! ## The mailbox, security, power, the ring, the window, the start -/

/-- Head 0's mailbox at the Custodian level. -/
def boxed : Chip := acting.onRing fun r => { r with stored := [(dictKey 0x1402 1, 2)] }
/-- MailboxReads: the mailbox closed, before the firmware runs, in ROM mode, without MG, before service, and open. -/
theorem wit_box : boxed.boxOpen 0 ∧ boxed.mboxLevel 0 = 2 ∧ acting.mboxLevel 0 < 2 ∧ chip0.boot.mainOut = false ∧ chip0.boot.romDone = false ∧
    ({ boxed with cores := boxed.cores.set 10 .restarting } : Chip).mgRuns = false ∧ (boxed.onBoot fun b => { b with stage := 5 }).inService = false := by
  unfold Chip.boxOpen Chip.boxServed; decide +kernel
theorem test_mailbox_needs_custodian : (match exec (.sanitize 0) (at' acting) with
    | .next t => decide (t.chip.outs = [.mbox 0 .invalidSecurityState .empty, .msix 0 0]) | _ => false) = true := by decide +kernel
/-- MailboxChanges: a log that overflowed, one with a record; policies; a label at the area's end and past it; extents
offered and accepted; a twin line with and without an object, the first scratch line; a scan that runs; a background
operation that has ended and one that has not. -/
theorem wit_mailbox_changes : (((boxed.onHead 0 fun x => { x with logs := x.logs.set 0 { recs := [{ handle := 1 }], overflow := true } }).head 0).logs.get 0).overflow = true ∧
    ((boxed.head 0).logs.get 0).overflow = false ∧ 131072 - 8 + 8 ≤ 131072 ∧ 131072 < 131072 - 7 + 8 ∧ boxed.storesWf ∧ boxed.ledger.failed = false ∧
    (boxed.onClk fun k => { k with hostSet := true }).clk.hostSet = true ∧ (1 : BitVec 8) &&& ~~~ (boxed.head 0).offered ≠ 0 ∧
    (1 : BitVec 8) &&& ~~~ (boxed.head 0).accepted = 0 ∧ (boxed.objAt 32767).isSome = true ∧ boxed.objAt 32768 = none ∧ 32767 < twinLines ∧
    scratchBase < scratchBase + (boxed.onCache fun k => { k with waysScratch := 1 }).cache.waysScratch * scratchWayLines ∧
    boxed.integ.scan = none ∧ boxed.bgRuns 0 = false ∧ (boxed.onHead 0 fun x => { x with bg := some {} }).bgRuns 0 = true ∧
    (boxed.onHead 0 fun x => { x with bg := some {} }).bgEnded 0 {} = true := by
  unfold Chip.storesWf; decide +kernel
/-- MailboxChanges: a scan whose units are to be read, one whose recoveries run, one whose have ended; squall mode. -/
def scanning (read : Bool) (step : Nat) : Chip :=
  ((boxed.onHead 0 fun x => { x with bg := some { kind := .scanMedia } }).onInteg fun i =>
    { i with scan := some { head := 0, first := 0, count := 4, read := read } }).onCache fun k => { k with misses := [{ line := 2, step := step }] }
theorem wit_scan : ((scanning false 1).integ.scan.map fun x => (x.read, x.done)) = some (false, false) ∧ (scanning false 1).cache.squall = 0 ∧
    (scanning false 1).wrapping = false ∧ (∀ m ∈ (scanning true 1).cache.misses, 2 ≤ m.step → 0 ≤ m.line → 0 + 4 ≤ m.line) ∧
    ¬ (∀ m ∈ (scanning true 2).cache.misses, 2 ≤ m.step → 0 ≤ m.line → 0 + 4 ≤ m.line) := by decide +kernel
theorem wit_mailbox_command : boxed.admits (.mailbox 0) (on1 0x04 []) := admits_of (by decide +kernel)
theorem wit_mailbox_dictionary : dictIn [] false = none ∧ dictIn [] true = none ∧
    (dictIn (toBytes 2 0x2030 ++ [2, 0] ++ toBytes 4 0 ++ toBytes 4 4) false).map (fun d => (d.index, d.sub, d.off)) = some (0x2030, 2, 0) ∧
    (boxed.entry 0x2030 2).map (fun r => (r.type.size, decide (r.acc = .rw), decide (r.type = .domain))) = some (4, true, false) := by decide +kernel
theorem test_set_policy_refuses_mode_2 : (match exec (.setEventInterruptPolicy 0 (Vector.replicate 5 2)) (at' boxed) with
    | .next t => decide (t.chip.outs = [.mbox 0 .invalidInput .empty, .msix 0 0]) | _ => false) = true := by decide +kernel
/-- MailboxSecurity: passphrases unset, set, the fifth wrong try, Locked, frozen; erasure refused and allowed; a slot to
activate, one being loaded. -/
theorem wit_mailbox_security : boxed.sec.sealState ≠ .disabled ∧ boxed.sec.locked = false ∧ boxed.sec.frozen = false ∧ boxed.sec.userPass = none ∧
    boxed.sec.userTries < 5 ∧ (boxed.onSec fun x => { x with userPass := some 1, locked := true, userTries := 4 }).sec.userTries < 5 ∧
    5 ≤ (boxed.onSec fun x => { x with userTries := 5 }).sec.userTries ∧
    ¬ (boxed.twin.state = .split ∨ boxed.twin.state = .rejoining ∨ boxed.twin.state = .fenced) ∧ boxed.sec.sanitizing = false ∧
    boxed.sec.peerErasing = false ∧ (boxed.onSec fun x => { x with peerErasing := true }).sec.peerErasing = true ∧ boxed.bgRuns 0 = false ∧
    boxed.paired = false ∧ (twin .paired boxed).linkReady = true ∧ (twin .paired boxed).paired = true ∧
    (boxed.onSec fun x => { x with masterPass := some 3 }).sec.masterPass = some 3 ∧ boxed.twin.peerHello = none ∧
    boxed.sec.drbgStopped = false ∧ boxed.activateFault 1 = 1 ∧
    ({ boxed with boot := { boxed.boot with images := Vector.replicate 2 { present := true, parts := 7 } } } : Chip).activateFault 1 = 0 ∧
    boxed.slotRefused true = false ∧ boxed.slotRefused false = true ∧ boxed.boot.upload = none := by decide +kernel
theorem test_wrong_passphrase_counts : (match exec (.unlock 0 2) (at' (boxed.onSec fun x => { x with userPass := some 1, locked := true })) with
    | .next t => decide (t.chip.sec.userTries = 1 ∧ t.chip.sec.locked = true) | _ => false) = true := by decide +kernel

/-- A head with a finished session, its stream on. -/
def secured0 : Chip := boxed.onHead 0 fun x =>
  { x with sessions := [{ id := 1, finished := true, missed := 1 }], spdm := .algorithms, ideOn := true, ideRx := { active := some false, prog0 := true } }
/-- StreamKeys, SpdmConnection: a head secured and not; a key programmed and not; a session; the twin link up. -/
theorem wit_streams : secured0.secured 0 = true ∧ secured0.scRuns = true ∧ secured0.sec.sealState ≠ .disabled ∧ boxed.secured 0 = false ∧
    (secured0.head 0).ideRx.prog0 = true ∧ (secured0.head 0).ideTx.prog1 = false ∧ (secured0.head 0).ideOn = true ∧ (boxed.head 0).ideOn = false ∧
    (secured0.head 0).link = .up ∧ (twin .paired boxed).linkReady = true ∧ (twin .paired boxed).sec.twinRekeying = false ∧
    ((twin .paired boxed).onSec fun x => { x with twinRekeying := true }).sec.twinRekeying = true ∧ (twin .paired boxed).mayHello = true ∧
    ((twin .paired boxed).onSec fun x => { x with locked := true }).mayHello = false ∧ boxed.twin.link ≠ .up ∧
    ((twin .paired boxed).onTwin fun t => { t with helloSent := false }).twin.helloSent = false := by decide +kernel
theorem wit_spdm : (secured0.head 0).spdm = .algorithms ∧ secured0.boot.rom = false ∧ secured0.hasSession 0 1 = true ∧ secured0.hasSession 0 0 = false ∧
    (secured0.head 0).sessions.length < 2 ∧ ((boxed.head 0).spdm).rank < 1 ∧
    ((secured0.onSec fun x => { x with sealState := .disabled }).sec.sealState = .disabled) := by decide +kernel
theorem test_stop_of_the_active_key : (match exec (.keySetStop 0 false false) (at' secured0) with
    | .next t => decide ((t.chip.head 0).ideOn = false ∧ (t.chip.head 0).ideRx.active = none) | _ => false) = true := by decide +kernel
theorem test_version_needed_first : (match exec (.getDigests 0) (at' boxed) with
    | .next t => decide (t.chip.outs = [.spdm (some 0) "ERROR" [0x04], .msix 0 3]) | _ => false) = true := by decide +kernel
/-- SealingEngine: a reseed that is due; the engine ready with and without room, recovering; sealed mode; an erasure. -/
theorem wit_sealing : 2 ^ 20 ≤ (boxed.onSec fun x => { x with sinceSeed := 2 ^ 20 }).sec.sinceSeed ∧ boxed.sec.sealState = .ready ∧ boxed.sec.sealQ.length < 64 ∧
    64 ≤ (boxed.onSec fun x => { x with sealQ := List.replicate 64 {} }).sec.sealQ.length ∧
    (boxed.onSec fun x => { x with sealState := .recovering }).sec.sealState = .recovering ∧ (boxed.onSec fun x => { x with sealMode := true }).sec.sealMode = true ∧
    ((boxed.onSec fun x => { x with eraseTag := some 7 }).tagBusy 7) = false ∧
    ((missing .queued 1 .member .healthy).tagBusy 0) = true ∧ boxed.obj.cmds = [] ∧
    ((twin .paired boxed).onSec fun x => { x with eraseTag := some 7, eraseReq := some cust }).sec.erasePeer = false ∧
    ((twin .paired boxed).onSec fun x => { x with eraseTag := some 7, eraseReq := some cust, erasePeer := true }).tagBusy 7 = false := by
  decide +kernel
theorem test_erase_waits_for_the_partner :
    (match exec .cryptoEraseComplete (at' ((twin .paired boxed).onSec fun x => { x with eraseTag := some 7, eraseReq := some cust })) with
    | .next t => decide (t.chip.sec.eraseTag = some 7) | _ => false) = true := by decide +kernel
theorem test_alarm_loses_slots : (match exec (.sealAlarm .glitch) (at' (boxed.onSec fun x => { x with slots := 7 })) with
    | .next t => decide (t.chip.sec.slots = 0 ∧ t.chip.sec.sealState = .recovering) | _ => false) = true := by decide +kernel

/-- Rail 0 with its default configuration, ramping, in a state of the gaffer. -/
def railed (p : PwrState) (f : Rail → Rail) : Chip := chip0.onPwr fun x =>
  { x with state := p, rails := x.rails.set 0 (f { cfg := BitVec.ofNat 256 (sqDefault 0), en := true, state := .ramping }) }
/-- Sequencer: a gaffer in each state; a rail that ramps, that was good, judged out of range once; the bank low once; die hot
once; all rails off. -/
theorem wit_sequencer : chip0.pwr.state = .off ∧ chip0.pwr.afterDown = 0 ∧ chip0.allOff = true ∧ (railed .up id).allOff = false ∧
    ((railed .up id).rail 0).isRail = true ∧ ((railed .up id).rail 0).pgUsed = true ∧ ((railed .up id).rail 0).senseUsed = true ∧
    ((railed .up id).rail 0).state = .ramping ∧ ((railed .up id).rail 0).everGood = false ∧ ((railed .up id).rail 0).reaction = 3 ∧
    ((railed .on fun r => { r with everGood := true, pg := true, outLo := 1, state := .good }).rail 0).outLo = 1 ∧ ((railed .up id).rail 0).chipRail = true ∧
    ((railed .on fun r => { r with warnOut := 15 }).rail 0).warnOut = 15 ∧ (chip0.onPwr fun x => { x with bankLowN := 1, dieHot := 1 }).pwr.bankLowN = 1 ∧
    (0 : RailNo) ∈ ((railed .down fun r => r).onPwr fun x => { x with step := 17 }).downWaits ∧
    ((railed .retryWait fun r => { r with en := false, retrying := true }).rail 0).retrying = true ∧ chip0.pwr.retriesUsed < chip0.seqRetries := by decide +kernel
theorem wit_may_wrap : boxed.mayWrap := by unfold Chip.mayWrap; decide +kernel
theorem test_power_up_starts_with_the_lowest_step : (match exec .powerUpStart (at' chip0) with
    | .next t => decide (t.chip.pwr.state = .up ∧ (t.chip.rail 5).en = true ∧ (t.chip.rail 0).en = false) | _ => false) = true := by decide +kernel
theorem test_reset_low_wraps : (match exec .resetNLow (at' boxed) with
    | .next t => decide (t.chip.wrap.cause = 9 ∧ t.chip.pwr.state = .wrap ∧ (t.chip.head 0).link = .disabled) | _ => false) = true := by decide +kernel
/-- ReserveProbe: no probe; each stage of one; the budget frozen; a budget to publish. -/
theorem wit_reserve : boxed.res.probe ≠ 3 ∧ boxed.wrap.state ≠ 2 ∧ boxed.res.frozen = false ∧ boxed.res.probed = false ∧
    (boxed.onRes fun r => { r with probed := true, published := 5 }).res.probed = true ∧ budgetOf .klx9256 0 < 5 ∧ boxed.inService = true ∧
    boxed.res.published < 67108864 ∧ (boxed.onRes fun r => { r with probe := 1 }).res.probe = 1 ∧ boxed.dirtyTotal ≤ 0 ∧
    (boxed.onRes fun r => { r with probe := 2 }).res.probe = 2 ∧ (boxed.onRes fun r => { r with probe := 3 }).res.probe = 3 := by decide +kernel
/-- WrapAndClocks: each step of a wrap; a restart; a snapshot to copy. -/
theorem wit_wrap : boxed.cache.merges = [] ∧ boxed.onlyFailedLeft = true ∧ boxed.dirtyTotal = 0 ∧ (boxed.onWrap fun w => { w with state := 2, cause := 1 }).wrap.cause = 1 ∧
    boxed.ledger.current = none ∧ boxed.ledger.queue = [] ∧ (chip0.onPwr fun x => { x with afterDown := 2 }).pwr.afterDown = 2 ∧
    (boxed.onPwr fun x => { x with snaps := [{}] }).pwr.snaps.length = 1 ∧ chip0.boot.mainOut = false ∧ boxed.clk.refclkOk = true := by decide +kernel
/-- WrapAndClocks: nothing under way, no retrain, a dirty map that is due in a group that takes it; merges still to end; no checkpoint
in progress. -/
def wrapping1 : Chip := (dirtyStripe.onWrap fun w => { w with state := 1, dirtyAt := 5 }).onMed fun m => { m with dirtyMap := [9] }
theorem wit_wrap_settled : (∀ x ∈ chip0.med.ch.toList, x.busy = []) ∧ (∀ n < 36, (wrapping1.chan n).retraining = false) ∧ wrapping1.cache.merges = [] ∧
    wrapping1.wrap.dirtyAt ≠ 0 ∧ wrapping1.med.dirtyMap ≠ wrapping1.dirtySegs ∧ wrapping1.mapGroups ≠ [] ∧ wrapping1.checkpointing = false ∧
    (wrapping1.onMed fun m => { m with dirtyMap := wrapping1.dirtySegs }).med.dirtyMap = wrapping1.dirtySegs ∧
    (wrapping1.onCache fun k => { k with merges := [{}] }).cache.merges ≠ [] := by decide +kernel
theorem test_wrap_with_nothing_dirty_skips_the_drain : (match exec .wrapSettled (at' (boxed.onWrap fun w => { w with state := 1 })) with
    | .next t => decide (t.chip.wrap.state = 3) | _ => false) = true := by decide +kernel
/-- LedgerRows: no write under way and one; a pass due, the last page of a pass. -/
theorem wit_ledger : boxed.storesWf ∧ boxed.ledger.current = none ∧ (boxed.onLedger fun l => { l with current := some { addr := 0x6C0000, bytes := [1] } }).ledger.current ≠ none ∧
    boxed.ledger.refreshRun = false ∧ 131072 ≤ (boxed.onLedger fun l => { l with refreshRun := true, refreshPage := 131071 }).ledger.refreshPage + 1 := by
  unfold Chip.storesWf; decide +kernel
theorem test_page_write_lands : (match exec (.ledgerPageWriteDone 7) (at' (boxed.onLedger fun l => { l with current := some { addr := 0x6C0000, bytes := [9] } })) with
    | .next t => decide (t.chip.ledger.cells.byte 0x6C0000 = 9 ∧ t.chip.vol 0x7050 1 = 1) | _ => false) = true := by decide +kernel

/-- The chip under a ring address of its own. -/
def ringed : Chip := boxed.onId fun x => { x with ringMac := 5 }
/-- RingFrames: a frame of this chip's own, one with no hops left, one to pass on, one that is delivered from a new source,
and an echo; a code whose merging runs. -/
theorem wit_ring : ringed.boot.mainOut = true ∧ ringed.portUp 0 = true ∧ (9 : BitVec 48) ≠ ringed.id.ringMac ∧ ringed.portUp (otherPort 0) = true ∧
    ringed.ring.sources = [] ∧ (ringed.onRing fun r => { r with sources := [{ src := 9, boot := 1, top := 4 }] }).ring.sources.length = 1 ∧
    ringed.pwr.bypHold = false ∧ (ringed.onRing fun r => { r with lockWait := true }).ring.lockWait = true ∧
    1 ∈ (ringed.onRing fun r => { r with merging := [1], merged := [(1, (dictKey 0xA000 1, []))] }).ring.merging ∧ ringed.mgRuns = true := by decide +kernel
theorem test_frame_passed_on : (match exec (.ringFrameRx 0 { dst := 7, src := 9 }) (at' ringed) with
    | .next t => decide (t.chip.outs = [.ringForward 1 { dst := 7, src := 9, hops := ({} : RingFrame).hops - 1 }] ∧ t.chip.ring.sources = []) | _ => false) = true := by decide +kernel
/-- DictTransfers: a fresh request; four transfers open; a write and a read that are open; an unknown entry. -/
def open1 (w : Bool) : Chip := boxed.onRing fun r =>
  { r with transfers := [{ req := .ring 0x10, tid := 1, index := 0x9040, sub := 3, write := w, size := 200, next := 1, sent := 4, data := List.replicate (if w then 64 else 200) 0 }] }
theorem wit_transfers : boxed.ringFresh cust ∧ boxed.entry 0x1FFF 1 = none ∧ chip0.ringServed = false ∧ ({ boxed with ring := { boxed.ring with keyCust := none } } : Chip).authBad cust = true ∧
    (boxed.entry 0x9040 3).map DictRow.type = some .domain ∧ (boxed.entry 0x2030 2).map DictRow.acc = some .rw ∧ ((open1 true).openXfer cust.req cust.tid).map (·.next) = some 1 ∧
    ((open1 false).openXfer cust.req cust.tid).map (fun t => segCount t.data) = some 4 ∧
    4 ≤ (List.replicate 4 ({ req := .ring 0x10 } : Transfer)).countP (fun t => decide (t.req = cust.req)) := by
  refine ⟨fresh_of (by decide +kernel), ?_⟩
  decide +kernel
theorem test_gap_in_a_write_is_acknowledged : (match exec (.dictSegment cust 0x9040 3 3 false (List.replicate 64 0) true) (at' (open1 true)) with
    | .next t => decide (t.chip.outs.length = 1 ∧ (t.chip.openXfer cust.req cust.tid).map (·.next) = some 1) | _ => false) = true := by decide +kernel
/-- WindowWrites: the window shut and open; a mapped entry and one that is not; a write that waits; the registers at
each bound. -/
def windowed : Chip := boxed.onHead 0 fun x => { x with pendingWin := [{ index := 0x2030, sub := 2, value := 7 }] }
theorem wit_window : boxed.windowOpen 0 = true ∧ chip0.windowOpen 0 = false ∧ (boxed.winEntry 0x2030 2 .word).isSome = true ∧ boxed.winEntry 0x1FFF 1 .word = none ∧
    (boxed.head 0).pendingWin.length < 64 ∧ (windowed.head 0).pendingWin.length = 1 ∧ (boxed.winRegister 0 0x10008).isSome = true ∧ (boxed.winRegister 0 0x80000).isSome = true ∧
    (boxed.winRegister 0 0x83FFC).isSome = true ∧ (boxed.winRegister 0 0x90000).isSome = true ∧ (boxed.winRegister 0 0x90008).isSome = true ∧
    (boxed.winRegister 0 0x9000C).isSome = true ∧ (boxed.winRegister 0 0x23F80).isSome = true ∧ boxed.winRegister 0 0x30000 = none := by decide +kernel
theorem test_head_evt_is_write_one_clear : (match exec (.registerWrite 0 (.write (.reg 0x10008)) 1) (at' (boxed.onHead 0 fun x => { x with evt := 3 })) with
    | .next t => decide ((t.chip.head 0).evt = 2) | _ => false) = true := by decide +kernel

/-- A start at a stage. -/
def starting (n : Nat) : Chip := boxed.onBoot fun b => { b with stage := n, romDone := decide (n ≠ 2) }
/-- StartStages: each stage's row where it runs; images valid in one slot and in none; a record PENDING and in PROBATION. -/
theorem wit_start : (starting 2).boot.mainOut = true ∧ (starting 2).boot.romDone = false ∧ (starting 2).boot.rom = false ∧ (starting 2).pwr.state = .on ∧
    (starting 2).ledger.failed = false ∧ (starting 2).boot.record.oldRegion = none ∧ (starting 2).slotValid true = false ∧
    ({ starting 2 with boot := { (starting 2).boot with images := Vector.replicate 2 { present := true, parts := 7 } } } : Chip).slotValid true = true ∧
    ((starting 3).onBoot fun b => { b with hbmDone := true }).boot.hbmDone = true ∧ (starting 4).boot.unread = false ∧ (starting 4).boot.storeValid = false ∧
    (starting 5).sec.locked = false ∧ (starting 5).twin.twinSerial = 0 ∧ (starting 5).dolly.journal = [] ∧ (twin .unpaired (starting 5)).twin.twinSerial ≠ 0 ∧
    (twin .unpaired (starting 5)).inPairStage = true ∧ (starting 10).twin.peerHello = none ∧ (starting 6).wrapping = false ∧ 0 ∈ (starting 6).groupNos ∧
    (starting 2).sec.rtvStep = 0 ∧ (starting 2).remapOk = true ∧ (starting 3).squallExitBytes ≠ 0 ∧ (starting 10).wit.seqLow.toNat + 2 < 2 ^ 32 ∧
    ((starting 2).onLedger fun l => { l with bad := [0x90000 / 8, 0x94000 / 8] }).remapOk = false ∧ (starting 4).sec.sanitizing = false ∧
    ((starting 6).onBoot fun b => { b with record := { b.record with state := .probation } }).boot.record.state = .probation := by decide +kernel
theorem wit_start_channels : ∀ x ∈ chip0.med.ch.toList, x.state ≠ .powering ∧ x.state ≠ .training := by decide +kernel
def blank6 : Chip := { starting 6 with
  id := { chip0.id with serial := 5 }
  med := { chip0.med with sg := chip0.med.sg.map (fun g => { g with state := .empty }), ch := chip0.med.ch.map (fun y => { y with state := .ready }) } }
theorem wit_blank_groups : blank6.blankGroups.length = 4 := by decide +kernel
theorem test_no_image_goes_to_recovery : (match exec .bootRomSelect (at' (starting 2)) with
    | .next t => decide (t.chip.boot.rom = true ∧ t.chip.boot.stopCause = 1) | _ => false) = true := by decide +kernel
/-- RomRecovery: ROM mode with no download and with one, in and out of order. -/
def recovering (u : Option Upload) : Chip := boxed.onBoot fun b => { b with rom := true, romDone := false, stage := 2, upload := u }
theorem wit_recovery : (recovering none).boot.rom = true ∧ boxed.boot.rom = false ∧ (recovering none).recRefused true = false ∧
    (recovering (some { slot := true, next := 64 })).boot.upload.map (fun u => (u.slot, decide (u.via = .recovery), u.next)) = some (true, true, 64) ∧
    (recovering none).imageFault true true ≠ 0 ∧ (recovering none).storesWf := by
  unfold Chip.storesWf; decide +kernel
theorem test_recovery_out_of_order : (match exec (.recoveryData true 64 0 true) (at' (recovering none)) with
    | .next t => t.chip.outs.any (fun o => match o with | .recoveryStatus f => f.take 4 == [4, 1, 0, 0] | _ => false) | _ => false) = true := by decide +kernel

end Sys2Proof.Tests
end

section
/-! Every command completes: its meaning is a change of the chip that ends as every command ends. -/

namespace Sys2Proof.Machine

/-- The meaning of a command puts one ended chip in the place of the old one and leaves the queue. -/
theorem exec_next (i : Instr) (s : State) : ∃ c, exec i s = .next { s with chip := Chip.ended s.chip c } := by
  cases i <;> exact ⟨_, rfl⟩

end Sys2Proof.Machine

/-- Settles O2. -/
theorem everyCommandCompletes : Obligations.EveryCommandCompletes := by
  intro i s
  obtain ⟨c, hc⟩ := Sys2Proof.Machine.exec_next i s
  exact ⟨_, hc, rfl⟩
end

section
/-! What a step never changes: the chip's identity, and the canonical form of its stores. The relation between a chip and what
an operation makes of it, and the rule of each part of the chip. -/

namespace Sys2Proof.Machine

/-- Chip `b` has the identity of chip `a`, and the stores of `b` hold their canonical form where those of `a` do. -/
structure Chip.Kept (a b : Chip) : Prop where
  id : b.id = a.id
  stores : a.storesWf → b.storesWf

theorem Chip.Kept.refl (a : Chip) : a.Kept a := ⟨rfl, fun h => h⟩

/-! ### The canonical form of a table under what the block does to it -/

theorem SMap.above_of_subset {α : Type} {k : Nat} {m n : SMap α} (h : SMap.above k m) (hs : ∀ p ∈ n, p ∈ m) : SMap.above k n :=
  fun p hp => h p (hs p hp)

theorem SMap.sorted_filter {α : Type} (m : SMap α) (p : Nat × α → Bool) (h : SMap.sorted m = true) : SMap.sorted (m.filter p) = true := by
  induction m with
  | nil => rfl
  | cons x r ih =>
    obtain ⟨k, v⟩ := x
    obtain ⟨ha, hs⟩ := (SMap.sorted_cons k v r).1 h
    rw [List.filter_cons]
    split
    · exact (SMap.sorted_cons _ _ _).2 ⟨SMap.above_of_subset ha fun q hq => (List.mem_filter.1 hq).1, ih hs⟩
    · exact ih hs

theorem SMap.sorted_map {α : Type} (m : SMap α) (f : Nat × α → Nat × α) (hf : ∀ p, (f p).1 = p.1) (h : SMap.sorted m = true) :
    SMap.sorted (m.map f) = true := by
  induction m with
  | nil => rfl
  | cons x r ih =>
    obtain ⟨k, v⟩ := x
    obtain ⟨ha, hs⟩ := (SMap.sorted_cons k v r).1 h
    rw [List.map_cons, show f (k, v) = (k, (f (k, v)).2) from Prod.ext (hf _) rfl]
    refine (SMap.sorted_cons _ _ _).2 ⟨fun q hq => ?_, ih hs⟩
    obtain ⟨p, hp, rfl⟩ := List.mem_map.1 hq
    rw [hf]
    exact ha p hp

theorem SMap.sorted_putD {α : Type} [DecidableEq α] (m : SMap α) (q : Nat) (a d : α) (h : SMap.sorted m = true) :
    SMap.sorted (m.putD q a d) = true := by
  unfold SMap.putD
  split
  · exact SMap.sorted_del m q h
  · exact SMap.sorted_put m q a h

/-- The chip of a pair. -/
theorem Chip.Kept.snd {c₀ : Chip} {α : Type} {p : α × Chip} {x : α} {d : Chip} (hp : c₀.Kept p.2) (h : p = (x, d)) : c₀.Kept d := by
  subst h; exact hp

/-- The chip of a triple. -/
theorem Chip.Kept.snd₂ {c₀ : Chip} {α β : Type} {p : α × β × Chip} {x : α} {y : β} {d : Chip} (hp : c₀.Kept p.2.2) (h : p = (x, y, d)) :
    c₀.Kept d := by
  subst h; exact hp

/-- A choice between two pairs. -/
theorem Chip.Kept.iteSnd {c₀ : Chip} {α : Type} {p q : α × Chip} {b : Prop} {_ : Decidable b} (hp : c₀.Kept p.2) (hq : c₀.Kept q.2) :
    c₀.Kept (if b then p else q).2 := by
  split
  · exact hp
  · exact hq

theorem Chip.head_onHead_same (c : Chip) (h : HeadNo) (f : Head → Head) : (c.onHead h f).head h = f (c.head h) := Vector.getElem_set_self ..

theorem Chip.head_onHead_ne (c : Chip) (h : HeadNo) (f : Head → Head) {k : HeadNo} (hk : k ≠ h) : (c.onHead h f).head k = c.head k :=
  Vector.getElem_set_ne h.isLt k.isLt fun e => hk (Fin.ext e.symm)

section
variable {c₀ c : Chip} (hc : c₀.Kept c)
include hc

/-- A choice between two chips. -/
theorem Chip.Kept.ite {d : Chip} {p : Prop} {_ : Decidable p} (hd : c₀.Kept d) : c₀.Kept (if p then c else d) := by
  split
  · exact hc
  · exact hd

/-- A fold of steps. -/
theorem Chip.Kept.foldl {α : Type} {l : List α} {f : Chip → α → Chip} (hf : ∀ d x, c₀.Kept d → c₀.Kept (f d x)) : c₀.Kept (l.foldl f c) := by
  induction l generalizing c with
  | nil => exact hc
  | cons x r ih => exact ih (hf c x hc)

/-- A part of the chip that holds no store. -/
theorem Chip.Kept.onClk {f : Clock → Clock} : c₀.Kept (c.onClk f) := ⟨hc.id, hc.stores⟩
theorem Chip.Kept.onObj {f : Objects → Objects} : c₀.Kept (c.onObj f) := ⟨hc.id, hc.stores⟩
theorem Chip.Kept.onHbm {f : Hbm → Hbm} : c₀.Kept (c.onHbm f) := ⟨hc.id, hc.stores⟩
theorem Chip.Kept.onMed {f : Medium → Medium} : c₀.Kept (c.onMed f) := ⟨hc.id, hc.stores⟩
theorem Chip.Kept.onInteg {f : Integ → Integ} : c₀.Kept (c.onInteg f) := ⟨hc.id, hc.stores⟩
theorem Chip.Kept.onDolly {f : Dolly → Dolly} : c₀.Kept (c.onDolly f) := ⟨hc.id, hc.stores⟩
theorem Chip.Kept.onTwin {f : Twin → Twin} : c₀.Kept (c.onTwin f) := ⟨hc.id, hc.stores⟩
theorem Chip.Kept.onWit {f : Witness → Witness} : c₀.Kept (c.onWit f) := ⟨hc.id, hc.stores⟩
theorem Chip.Kept.onPwr {f : Power → Power} : c₀.Kept (c.onPwr f) := ⟨hc.id, hc.stores⟩
theorem Chip.Kept.onRes {f : Reserve → Reserve} : c₀.Kept (c.onRes f) := ⟨hc.id, hc.stores⟩
theorem Chip.Kept.onWrap {f : Wrap → Wrap} : c₀.Kept (c.onWrap f) := ⟨hc.id, hc.stores⟩
theorem Chip.Kept.onSec {f : Security → Security} : c₀.Kept (c.onSec f) := ⟨hc.id, hc.stores⟩
theorem Chip.Kept.onBoot {f : Boot → Boot} : c₀.Kept (c.onBoot f) := ⟨hc.id, hc.stores⟩
theorem Chip.Kept.emit {o : Output} : c₀.Kept (c.emit o) := ⟨hc.id, hc.stores⟩

/-- The latch of the flags. -/
theorem Chip.Kept.latch : c₀.Kept c.latch := by
  unfold Chip.latch
  split
  · exact ⟨hc.id, hc.stores⟩
  · exact hc

/-- The chip an operation gives, or the old one where it gives none. -/
theorem Chip.Kept.getD {o : Option Chip} (ho : ∀ {d}, o = some d → c₀.Kept d) : c₀.Kept (o.getD c) := by
  cases o with
  | none => exact hc
  | some d => exact ho rfl

theorem Chip.Kept.setDeferred {q : List (HeadNo × Instr)} : c₀.Kept { c with deferred := q } := ⟨hc.id, hc.stores⟩

/-- A change of the cache that keeps the order of the frames and of the held lines. -/
theorem Chip.Kept.onCacheStores {f : Cache → Cache}
    (hf : SMap.sorted c.cache.frames = true → SMap.sorted c.cache.lines = true →
      SMap.sorted (f c.cache).frames = true ∧ SMap.sorted (f c.cache).lines = true) : c₀.Kept (c.onCache f) := by
  refine ⟨hc.id, fun h => ?_⟩
  obtain ⟨hcells, hcue, hframes, hlines, hvals⟩ := hc.stores h
  obtain ⟨hframes', hlines'⟩ := hf hframes hlines
  exact ⟨hcells, hcue, hframes', hlines', hvals⟩

/-- A change of the cache beside its two stores. -/
theorem Chip.Kept.onCache {f : Cache → Cache}
    (hf : ∀ k, ((f k).frames, (f k).lines) = (k.frames, k.lines)) : c₀.Kept (c.onCache f) := by
  obtain ⟨hframes, hlines⟩ := Prod.mk.inj (hf c.cache)
  exact hc.onCacheStores fun h1 h2 => ⟨hframes ▸ h1, hlines ▸ h2⟩

/-- A change of the ledger that keeps the form of its cells. -/
theorem Chip.Kept.onLedgerCells {f : Ledger → Ledger} (hf : Memory.wf c.ledger.cells = true → Memory.wf (f c.ledger).cells = true) :
    c₀.Kept (c.onLedger f) := by
  refine ⟨hc.id, fun h => ?_⟩
  obtain ⟨hcells, hrest⟩ := hc.stores h
  exact ⟨hf hcells, hrest⟩

/-- A change of the ledger beside its cells. -/
theorem Chip.Kept.onLedger {f : Ledger → Ledger} (hf : ∀ l, (f l).cells = l.cells) : c₀.Kept (c.onLedger f) :=
  hc.onLedgerCells fun h => (hf c.ledger).symm ▸ h

/-- A change of the ring part beside its volatile entries. -/
theorem Chip.Kept.onRing {f : Ring → Ring} (hf : ∀ r, (f r).vals = r.vals) : c₀.Kept (c.onRing f) := by
  refine ⟨hc.id, fun h => ?_⟩
  obtain ⟨hcells, hcue, hframes, hlines, hvals⟩ := hc.stores h
  exact ⟨hcells, hcue, hframes, hlines, by simpa [Chip.onRing, hf] using hvals⟩

theorem Chip.Kept.setVol {i j v : Nat} : c₀.Kept (c.setVol i j v) := by
  refine ⟨hc.id, fun h => ?_⟩
  obtain ⟨hcells, hcue, hframes, hlines, hvals⟩ := hc.stores h
  exact ⟨hcells, hcue, hframes, hlines, SMap.sorted_put _ _ _ hvals⟩

/-- A change of one head that keeps the form of its cue ring entries. -/
theorem Chip.Kept.onHeadCue {h : HeadNo} {f : Head → Head}
    (hf : Memory.wf (c.head h).cue.entries = true → Memory.wf (f (c.head h)).cue.entries = true) : c₀.Kept (c.onHead h f) := by
  refine ⟨hc.id, fun hs => ?_⟩
  obtain ⟨hcells, hcue, hrest⟩ := hc.stores hs
  refine ⟨hcells, fun k => ?_, hrest⟩
  by_cases hk : k = h
  · subst hk
    rw [Chip.head_onHead_same]
    exact hf (hcue k)
  · rw [Chip.head_onHead_ne _ _ _ hk]
    exact hcue k

/-- A change of one head beside its cue ring entries. -/
theorem Chip.Kept.onHead {h : HeadNo} {f : Head → Head} (hf : ∀ d, (f d).cue.entries = d.cue.entries) :
    c₀.Kept (c.onHead h f) :=
  hc.onHeadCue fun hw => (hf (c.head h)).symm ▸ hw

/-- A change of every head that keeps the form of its cue ring entries. -/
theorem Chip.Kept.mapHeads {f : Head → Head} (hf : ∀ d : Head, Memory.wf d.cue.entries = true → Memory.wf (f d).cue.entries = true) :
    c₀.Kept { c with heads := c.heads.map f } := by
  refine ⟨hc.id, fun hs => ?_⟩
  obtain ⟨hcells, hcue, hrest⟩ := hc.stores hs
  refine ⟨hcells, fun k => ?_, hrest⟩
  rw [show Chip.head { c with heads := c.heads.map f } k = f (c.head k) from Vector.getElem_map ..]
  exact hf _ (hcue k)

end
end Sys2Proof.Machine
end

section
/-! Each operation of the chip gives a chip with the identity and the stores kept: one lemma for an operation, in the order
of the model's files. -/

namespace Sys2Proof.Machine

section
variable {c₀ c : Chip} (hc : c₀.Kept c)
include hc

/-! ### The operations of Ops -/

theorem Chip.Kept.bump {index sub n} : c₀.Kept (c.bump index sub n) := hc.setVol
theorem Chip.Kept.peak {index sub v} : c₀.Kept (c.peak index sub v) := hc.setVol
theorem Chip.Kept.unreadable {ws} : c₀.Kept (c.unreadable ws) := hc.onLedger fun _ => by rfl

omit hc in
theorem Ledger.issue_cells (l : Ledger) : l.issue.cells = l.cells := by
  unfold Ledger.issue
  split
  · rfl
  · split <;> rfl

omit hc in
theorem Ledger.enqueue_cells (l : Ledger) (q : PageWrite) : (l.enqueue q).cells = l.cells := by
  unfold Ledger.enqueue
  split <;> rfl

omit hc in
theorem Ledger.foldl_enqueue_cells (ps : List PageWrite) (l : Ledger) : (ps.foldl Ledger.enqueue l).cells = l.cells := by
  induction ps generalizing l with
  | nil => rfl
  | cons p r ih => exact (ih _).trans (l.enqueue_cells p)

theorem Chip.Kept.pageWrite {cls addr bytes} : c₀.Kept (c.pageWrite cls addr bytes) :=
  hc.ite (hc.onLedger fun _ => (Ledger.issue_cells _).trans (Ledger.foldl_enqueue_cells _ _))

theorem Chip.Kept.sendNote {code index sub data} : c₀.Kept (c.sendNote code index sub data) := (hc.onRing fun _ => by rfl).bump.emit
theorem Chip.Kept.notify {code index sub data} : c₀.Kept (c.notify code index sub data) :=
  hc.ite (((hc.sendNote.onRing fun _ => by rfl).ite hc.bump).ite ((hc.onRing fun _ => by rfl).ite (hc.sendNote.onRing fun _ => by rfl)))

theorem Chip.Kept.ledgerEvent {b} : c₀.Kept (c.ledgerEvent b) := (hc.onLedger fun _ => by rfl).pageWrite
theorem Chip.Kept.headRecord {log b h} : c₀.Kept (c.headRecord log b h) := (hc.onHead fun _ => by rfl).emit.ite (hc.onHead fun _ => by rfl)

theorem Chip.Kept.recordAt {heads log b} : c₀.Kept (c.recordAt heads log b) := by
  unfold Chip.recordAt
  extract_lets c1 c2
  have h1 : c₀.Kept c1 := hc.foldl fun _ _ h => h.headRecord
  have h2 : c₀.Kept c2 := h1.ledgerEvent
  split
  · exact h2
  · exact h2.notify

theorem Chip.Kept.record {log b} : c₀.Kept (c.record log b) := hc.recordAt
theorem Chip.Kept.vendorRecord {log code index sub data} : c₀.Kept (c.vendorRecord log code index sub data) := hc.record
theorem Chip.Kept.vendorRecordAt {h log code} : c₀.Kept (c.vendorRecordAt h log code) := hc.recordAt
theorem Chip.Kept.headEvent {h i} : c₀.Kept (c.headEvent h i) := hc.onHead fun _ => by rfl
theorem Chip.Kept.countSent {n} : c₀.Kept (c.countSent n) := hc.ite (hc.onRing fun _ => by rfl).bump.bump

/-! ### The operations of Records -/

theorem Chip.Kept.writeRecord {cls r body} : c₀.Kept (c.writeRecord cls r body) := hc.pageWrite
theorem Chip.Kept.minuteRecord : c₀.Kept c.minuteRecord := hc.writeRecord
theorem Chip.Kept.pairRecord : c₀.Kept c.pairRecord := hc.writeRecord
theorem Chip.Kept.bindingRecord : c₀.Kept c.bindingRecord := hc.writeRecord
theorem Chip.Kept.shutdownRecord : c₀.Kept c.shutdownRecord := hc.writeRecord
theorem Chip.Kept.refreshRecord : c₀.Kept c.refreshRecord := hc.writeRecord
theorem Chip.Kept.countUp {n} : c₀.Kept (c.countUp n) := hc.ite hc.pageWrite

theorem Chip.Kept.pageDone {p} : c₀.Kept (c.pageDone p) := by
  unfold Chip.pageDone
  extract_lets page n c1 c2 c3
  have h1 : c₀.Kept c1 := hc.onLedgerCells fun h => Memory.wf_write _ _ _ h
  have h2 : c₀.Kept c2 := h1.bump
  exact (h2.onLedger fun _ => by rfl).writeRecord.ite h2

theorem Chip.Kept.pageNow {addr bytes} : c₀.Kept (c.pageNow addr bytes) := hc.foldl fun _ _ h => h.pageDone
theorem Chip.Kept.countNow {n} : c₀.Kept (c.countNow n) := hc.ite hc.pageNow

/-! ### The operations of Requests -/

theorem Chip.Kept.mbox {h code data} : c₀.Kept (c.mbox h code data) := hc.emit.emit

theorem Chip.Kept.peerErased {code} : c₀.Kept (c.peerErased code) := by
  unfold Chip.peerErased
  extract_lets c1
  have h1 : c₀.Kept c1 := by
    unfold c1
    split
    · exact hc.mbox
    · exact hc
  exact h1.onSec

theorem Chip.Kept.sendTwin {b line tag head poison segment final} : c₀.Kept (c.sendTwin b line tag head poison segment final) := hc.emit.ite hc

theorem Chip.Kept.bistEnd {verdict errors detail} : c₀.Kept (c.bistEnd verdict errors detail) := by
  unfold Chip.bistEnd
  split
  · exact hc
  · exact hc.onBoot.onObj.ite hc.onBoot.onObj.bump

theorem Chip.Kept.takeTag : c₀.Kept c.takeTag.2 := by
  dsimp only [Chip.takeTag]
  exact hc.onTwin

theorem Chip.Kept.setMap {key m} : c₀.Kept (c.setMap key m) := hc.onMed

theorem Chip.Kept.setWritten {seg m} : c₀.Kept (c.setWritten seg m) := by
  unfold Chip.setWritten
  split
  · extract_lets c1
    have h1 : c₀.Kept c1 := hc.setMap
    split
    · exact h1.setMap.ite h1
    · exact h1
  · exact hc

theorem Chip.Kept.setLineWritten {line} : c₀.Kept (c.setLineWritten line) := hc.setWritten
theorem Chip.Kept.markStale {gran} : c₀.Kept (c.markStale gran) := hc.onMed

theorem Chip.Kept.completeRead {r data poison txn type} : c₀.Kept (c.completeRead r data poison txn type) := by
  unfold Chip.completeRead
  split
  · exact (hc.emit.headEvent.recordAt.ite hc.emit).ite hc
  · exact hc.onTwin.sendTwin
  · exact hc
  · exact hc

theorem Chip.Kept.ackWrite {r} : c₀.Kept (c.ackWrite r) := by
  unfold Chip.ackWrite
  split
  · exact hc.emit.ite hc
  · exact hc.onTwin.sendTwin
  · exact hc
  · exact hc

theorem Chip.Kept.requestRecord {r log b} : c₀.Kept (c.requestRecord r log b) := by
  unfold Chip.requestRecord
  split
  · exact hc.recordAt
  · exact hc.recordAt
  · exact hc.recordAt
  · exact hc.recordAt

theorem Chip.Kept.denyRequest {r txn type evtBit} : c₀.Kept (c.denyRequest r txn type evtBit) := by
  unfold Chip.denyRequest
  extract_lets c1
  have h1 : c₀.Kept c1 := by
    unfold c1
    split
    · exact hc.headEvent
    · exact hc.headEvent
    · exact hc
    · exact hc
  exact h1.requestRecord.ackWrite.ite h1.completeRead

/-! ### The operations of Poison -/

theorem Chip.Kept.poisonOverflow : c₀.Kept c.poisonOverflow := hc.ite hc.onInteg

theorem Chip.Kept.shadowNote {l len src remove} : c₀.Kept (c.shadowNote l len src remove) := by
  unfold Chip.shadowNote
  split
  · exact hc.sendTwin.ite hc
  · exact hc

theorem Chip.Kept.listPoison {l src} : c₀.Kept (c.listPoison l src) := by
  unfold Chip.listPoison
  split
  · exact hc
  · split
    · exact hc.onInteg
    · exact hc.onInteg.ite hc.poisonOverflow

theorem Chip.Kept.addPoison {l src} : c₀.Kept (c.addPoison l src) := hc.listPoison.shadowNote
theorem Chip.Kept.decodedMark {l} : c₀.Kept (c.decodedMark l) := hc.ite hc.addPoison

theorem Chip.Kept.clearPoison {l} : c₀.Kept (c.clearPoison l) := by
  unfold Chip.clearPoison
  split
  · exact hc
  · exact (hc.poisonOverflow.ite hc).onInteg.shadowNote

theorem Chip.Kept.clearPoisonRange {first count} : c₀.Kept (c.clearPoisonRange first count) := by
  unfold Chip.clearPoisonRange
  exact ((hc.foldl fun _ _ h => h.shadowNote).poisonOverflow.ite (hc.foldl fun _ _ h => h.shadowNote)).onInteg

theorem Chip.Kept.bucket {index sub b} : c₀.Kept (c.bucket index sub b) := hc.setVol.record.ite hc.setVol
theorem Chip.Kept.alert {i log what value} : c₀.Kept (c.alert i log what value) := hc.ite hc.onInteg.record
theorem Chip.Kept.mediumCorrected {ch line} : c₀.Kept (c.mediumCorrected ch line) := hc.bump.bucket.alert.ite hc.bump.bucket
theorem Chip.Kept.hbmCorrected {pc body} : c₀.Kept (c.hbmCorrected pc body) := hc.bump.bucket.alert.ite hc.bump.bucket

/-! ### The operations of Scheduler -/

theorem Chip.Kept.hbmAccess {pc t write addr} : c₀.Kept (c.hbmAccess pc t write addr) := hc.onCache fun _ => by rfl
theorem Chip.Kept.readFrame {f n t} : c₀.Kept (c.readFrame f n t) := hc.hbmAccess
theorem Chip.Kept.writeFrame {f n t} : c₀.Kept (c.writeFrame f n t) := hc.hbmAccess.hbmAccess
theorem Chip.Kept.refreshOne {pc bank} : c₀.Kept (c.refreshOne pc bank) := hc.onHbm

theorem Chip.Kept.schedStep {pc} : c₀.Kept (c.schedStep pc) := by
  unfold Chip.schedStep
  extract_lets banks s
  split
  · exact hc
  · split
    · exact hc.refreshOne
    · split
      · exact hc.onCache fun _ => by rfl
      · split
        · exact hc.refreshOne
        · exact hc

theorem Chip.Kept.schedTick : c₀.Kept c.schedTick := hc.foldl fun _ _ h => h.schedStep
theorem Chip.Kept.dropSched {ps} : c₀.Kept (c.dropSched ps) := hc.onCache fun _ => by rfl
theorem Chip.Kept.allBankRefresh {ps} : c₀.Kept (c.allBankRefresh ps) := hc.onHbm

/-! ### The operations of Cache -/

theorem Chip.Kept.setFrame {f fr} : c₀.Kept (c.setFrame f fr) :=
  hc.onCacheStores fun hf hl => ⟨SMap.sorted_put _ _ _ hf, hl⟩

theorem Chip.Kept.onFrame {f g} : c₀.Kept (c.onFrame f g) := hc.setFrame
theorem Chip.Kept.setSector {f n v} : c₀.Kept (c.setSector f n v) :=
  hc.onCacheStores fun hf hl => ⟨hf, SMap.sorted_put _ _ _ hl⟩

theorem Chip.Kept.buildFrame {f} : c₀.Kept (c.buildFrame f) := by
  unfold Chip.buildFrame
  exact (hc.foldl fun _ _ h => h.setSector).onFrame

theorem Chip.Kept.freeFrame {f} : c₀.Kept (c.freeFrame f) := by
  unfold Chip.freeFrame
  extract_lets c1
  have h1 : c₀.Kept c1 := by
    unfold c1
    split
    · exact hc.buildFrame.ite hc
    · exact hc
  exact h1.onCacheStores fun hf hl => ⟨SMap.sorted_del _ _ hf, SMap.sorted_filter _ _ hl⟩

theorem Chip.Kept.choose : c₀.Kept c.choose := hc.onCache fun _ => by rfl
theorem Chip.Kept.copySectors {src dst m} : c₀.Kept (c.copySectors src dst m) := hc.foldl fun _ _ h => h.setSector.ite h

theorem Chip.Kept.absorb {f seg} : c₀.Kept (c.absorb f seg) := by
  unfold Chip.absorb
  split
  · exact hc
  · exact hc.copySectors.onFrame.freeFrame
  · exact hc.copySectors.onFrame.freeFrame.onFrame

theorem Chip.Kept.ageSet {seg} : c₀.Kept (c.ageSet seg) := hc.foldl fun _ _ h => h.ite h.onFrame
theorem Chip.Kept.evictFrame {f} : c₀.Kept (c.evictFrame f) := hc.onFrame.ite hc.freeFrame

theorem Chip.Kept.allocate {seg kind} : c₀.Kept (c.allocate seg kind).2 := by
  unfold Chip.allocate
  extract_lets place free
  have hplace {d : Chip} {f : Nat} (hd : c₀.Kept d) : c₀.Kept (place d f).2 := hd.setFrame.absorb
  split
  · exact hplace hc.choose
  · next cands c1 _ _ =>
    have h1 : c₀.Kept c1 := hc.ite hc.ageSet
    split
    · exact hc
    · split
      · exact h1
      · split
        · exact h1.evictFrame
        · exact hplace h1.evictFrame

theorem Chip.Kept.useFrame {f} : c₀.Kept (c.useFrame f) := hc.onFrame
theorem Chip.Kept.touch {f} : c₀.Kept (c.touch f) := hc.useFrame.onFrame
theorem Chip.Kept.dirtySector {n v f} : c₀.Kept (c.dirtySector n v f) := hc.setSector.onFrame

theorem Chip.Kept.takeShadow {f seg} {p} (h : c.takeShadow f seg = some p) : c₀.Kept p.2 := by
  obtain ⟨g, -, rfl⟩ := Option.map_eq_some_iff.1 h
  dsimp only
  exact hc.choose.setFrame.onFrame

theorem Chip.Kept.takeDetached {seg two} {p} (h : c.takeDetached seg two = some p) : c₀.Kept p.2 := by
  unfold Chip.takeDetached at h
  split at h
  · cases h
  · next d _ =>
    extract_lets c1 at h
    have h1 : c₀.Kept c1 := hc.choose.setFrame
    split at h
    · obtain ⟨e, -, rfl⟩ := Option.map_eq_some_iff.1 h
      dsimp only
      exact h1.choose.setFrame.onFrame
    · cases h
      exact h1

theorem Chip.Kept.placeFrames {seg two} {p} (h : c.placeFrames seg two = some p) : c₀.Kept p.2 := by
  unfold Chip.placeFrames at h
  extract_lets withSecond at h
  have hsecond {d : Chip} {f : Nat} (hd : c₀.Kept d) (h : withSecond d f = some p) : c₀.Kept p.2 := by
    unfold withSecond at h
    split at h
    · cases h; exact hd
    · split at h
      · obtain ⟨q, hq, rfl⟩ := Option.map_eq_some_iff.1 h
        exact hd.takeShadow hq
      · cases h; exact hd
  split at h
  · extract_lets c1 c2 at h
    have h1 : c₀.Kept c1 := hc.touch
    exact hsecond (h1.ite h1.onFrame) h
  · split at h
    · split at h
      · next f d hd => exact hsecond (hc.allocate.snd hd).useFrame h
      · next d hd => exact (hc.allocate.snd hd).takeDetached h
    · split at h
      · obtain ⟨e, -, rfl⟩ := Option.map_eq_some_iff.1 h
        dsimp only
        exact hc.choose.setFrame.onFrame
      · cases h; exact hc
    · cases h; exact hc

theorem Chip.Kept.moveFrame {f g} : c₀.Kept (c.moveFrame f g) := by
  unfold Chip.moveFrame
  extract_lets fr c1 c2 c3
  have h1 : c₀.Kept c1 := hc.copySectors.setFrame
  have h2 : c₀.Kept c2 := by
    unfold c2
    split
    · exact h1.onFrame
    · exact h1
  have h3 : c₀.Kept c3 := h2.onCache fun _ => by rfl
  exact h3.freeFrame

theorem Chip.Kept.partShadow {f g} : c₀.Kept (c.partShadow f g) := by
  unfold Chip.partShadow
  split
  · exact hc
  · split
    · exact hc
    · split
      · exact hc.choose.moveFrame
      · exact hc

theorem Chip.Kept.copySector {n v f} : c₀.Kept (c.copySector n v f) := hc.setSector.onFrame

theorem Chip.Kept.meetFill {line mask merge f head} : c₀.Kept (c.meetFill line mask merge f head) := by
  unfold Chip.meetFill
  refine hc.onCache fun k => ?_
  split
  · rfl
  · split <;> rfl

theorem Chip.Kept.placeLine {line data mask poison two head} {d : Chip} (h : c.placeLine line data mask poison two head = some d) : c₀.Kept d := by
  unfold Chip.placeLine at h
  extract_lets seg n old merge base v at h
  split at h
  · cases h
  · next fs e he =>
    cases h
    exact Chip.Kept.meetFill (Chip.Kept.foldl (Chip.Kept.foldl (Chip.Kept.foldl (hc.placeFrames he) fun _ _ h => h.dirtySector)
      fun _ _ h => h.copySector) fun _ _ h => h.writeFrame)

theorem Chip.Kept.setSquall {v} : c₀.Kept (c.setSquall v) :=
  hc.ite ((((hc.onCache fun _ => by rfl).sendTwin.bistEnd.ite (hc.onCache fun _ => by rfl).sendTwin).notify).ite ((hc.onCache fun _ => by rfl).sendTwin.bistEnd.ite (hc.onCache fun _ => by rfl).sendTwin))

theorem Chip.Kept.unclaimAll : c₀.Kept c.unclaimAll := by
  unfold Chip.unclaimAll
  exact (hc.ite hc.bump).onDolly.onCache fun _ => by rfl

theorem Chip.Kept.evalSquall : c₀.Kept c.evalSquall :=
  hc.ite ((hc.ite hc.setSquall.bump.vendorRecord.unclaimAll).ite ((hc.setSquall.onCache fun _ => by rfl).ite hc.setSquall))

theorem Chip.Kept.spendCredits {a : Chip} : c₀.Kept (Machine.spendCredits a c) := hc.ite (hc.onCache fun _ => by rfl)
theorem Chip.Kept.dropFailed {r} : c₀.Kept (c.dropFailed r) := hc.addPoison.requestRecord.ackWrite
theorem Chip.Kept.poisonWrite {line poison} : c₀.Kept (c.poisonWrite line poison) := hc.addPoison.ite hc.clearPoison

theorem Chip.Kept.tryHomeWrite {r} {d : Chip} (h : c.tryHomeWrite r = some d) : c₀.Kept d := by
  unfold Chip.tryHomeWrite at h
  extract_lets mir head at h
  split at h
  · cases h
  · split at h
    · cases h
    · next e he =>
      split at h
      · cases h
      · extract_lets c1 c2 c3 at h
        have h1 : c₀.Kept c1 := (hc.placeLine he).spendCredits.setLineWritten.poisonWrite
        have h2 : c₀.Kept c2 := h1.requestRecord.ite h1
        split at h
        · cases h
          exact h2.takeTag.onTwin.bump.sendTwin
        · cases h
          exact (h2.markStale.ite h2).ackWrite

theorem Chip.Kept.tryMirrorWrite {m} {d : Chip} (h : c.tryMirrorWrite m = some d) : c₀.Kept d := by
  unfold Chip.tryMirrorWrite at h
  extract_lets seg n took at h
  have htook {p : Nat × Chip} (h : took = some p) : c₀.Kept p.2 := by
    unfold took at h
    split at h
    · cases h; exact hc
    · obtain ⟨f, -, rfl⟩ := Option.map_eq_some_iff.1 h
      exact hc.choose.setFrame
  cases ht : took with
  | none => rw [ht] at h; cases h
  | some p =>
    obtain ⟨f, e⟩ := p
    have h1 : c₀.Kept e := htook ht
    rw [ht] at h
    dsimp -zeta only at h
    extract_lets held old merge v c1 c2 at h
    split at h
    · cases h
    · split at h
      · cases h
      · cases h
        exact h1.dirtySector.writeFrame.meetFill.spendCredits.setLineWritten.sendTwin

theorem Chip.Kept.tryWaiter {x} {d : Chip} (h : c.tryWaiter x = some d) : c₀.Kept d := by
  unfold Chip.tryWaiter at h
  split at h
  · split at h
    · cases h; exact hc.denyRequest
    · split at h
      · cases h; exact hc.dropFailed
      · exact hc.tryHomeWrite h
  · split at h
    · cases h; exact hc.sendTwin
    · exact hc.tryMirrorWrite h

theorem Chip.Kept.serveWaiters {n} : c₀.Kept (c.serveWaiters n) := by
  induction n generalizing c with
  | zero => exact hc
  | succ n ih =>
    unfold Chip.serveWaiters
    split
    · exact hc
    · split
      · exact hc
      · next d hd => exact ih ((hc.onCache fun _ => by rfl).tryWaiter hd).evalSquall

theorem Chip.Kept.homeWrite {r} : c₀.Kept (c.homeWrite r) := by
  unfold Chip.homeWrite
  split
  · exact hc.dropFailed
  · split
    · exact (hc.onCache fun _ => by rfl).bump
    · extract_lets c1 queue behind
      have h1 : c₀.Kept c1 := by
        unfold c1
        split
        · exact hc.onFrame.ite hc
        · exact hc
      split
      · exact (h1.onCache fun _ => by rfl).evalSquall
      · split
        · next _ heq =>
            exact (h1.tryHomeWrite heq).evalSquall
        · exact (h1.onCache fun _ => by rfl).evalSquall

theorem Chip.Kept.markPoison {line src} : c₀.Kept (c.markPoison line src) := hc.addPoison.homeWrite
theorem Chip.Kept.lateWrite {r} : c₀.Kept (c.lateWrite r) := hc.denyRequest.ite hc.homeWrite

theorem Chip.Kept.serveMerges {n} : c₀.Kept (c.serveMerges n) := by
  induction n generalizing c with
  | zero => exact hc
  | succ n ih =>
    unfold Chip.serveMerges
    split
    · exact hc
    · exact hc.ite (ih (hc.onCache fun _ => by rfl).lateWrite)

theorem Chip.Kept.evalPanic : c₀.Kept c.evalPanic := hc.onHbm.bump.ite (hc.onHbm.ite hc)
theorem Chip.Kept.settle : c₀.Kept c.settle := hc.evalSquall.serveWaiters.serveMerges.evalPanic

theorem Chip.Kept.mirrorIn {m} : c₀.Kept (c.mirrorIn m) := by
  unfold Chip.mirrorIn
  extract_lets queue heldDirty
  split
  · exact (hc.onCache fun _ => by rfl).evalSquall.evalPanic
  · split
    · next _ heq =>
        exact (hc.tryMirrorWrite heq).evalSquall
    · exact (hc.onCache fun _ => by rfl).evalSquall.evalPanic

theorem Chip.Kept.queueMiss {line f? readers cause} : c₀.Kept (c.queueMiss line f? readers cause) := by
  unfold Chip.queueMiss
  extract_lets c1
  have h1 : c₀.Kept c1 := by
    unfold c1
    split
    · exact hc.onFrame
    · exact hc
  exact (h1.onCache fun _ => by rfl).bump

theorem Chip.Kept.startMiss {line readers cause bypass} : c₀.Kept (c.startMiss line readers cause bypass) := by
  unfold Chip.startMiss
  extract_lets seg
  cases c.lookup seg with
  | some f => exact hc.touch.queueMiss
  | none =>
    cases bypass with
    | true => exact hc.queueMiss
    | false =>
      rcases h : c.allocate seg .clean with ⟨_ | f, d⟩
      · simpa [h] using (hc.allocate.snd h).queueMiss
      · simpa [h] using (hc.allocate.snd h).useFrame.queueMiss

theorem Chip.Kept.homeRead {r} : c₀.Kept (c.homeRead r) := by
  unfold Chip.homeRead
  extract_lets wait
  split
  · exact hc.onCache fun _ => by rfl
  · split
    · exact (hc.touch.readFrame.bump.decodedMark.ite hc.touch.readFrame.bump).completeRead
    · exact hc.completeRead.ite (hc.completeRead.ite ((hc.onCache fun _ => by rfl).ite hc.startMiss))

theorem Chip.Kept.lateRequest {r} : c₀.Kept (c.lateRequest r) := hc.lateWrite.ite (hc.denyRequest.ite hc.homeRead)

theorem Chip.Kept.scratchAccess {r} : c₀.Kept (c.scratchAccess r) := by
  unfold Chip.scratchAccess
  split
  extract_lets fr c1 old v c2 c3
  have h1 : c₀.Kept c1 := hc.writeFrame.ite hc.readFrame
  have h2 : c₀.Kept c2 := h1.onCacheStores fun hf hl => ⟨hf, SMap.sorted_putD _ _ _ _ hl⟩
  have h3 : c₀.Kept c3 := h2.ite h2.onFrame
  exact h3.ackWrite.ite (h1.completeRead.ite h1.completeRead)

/-! ### The operations of Medium -/

theorem Chip.Kept.onChan {n f} : c₀.Kept (c.onChan n f) := by
  unfold Chip.onChan
  split
  · exact hc.onMed
  · exact hc

theorem Chip.Kept.onGroup {g f} : c₀.Kept (c.onGroup g f) := by
  unfold Chip.onGroup
  split
  · exact hc.onMed.ite hc.onMed.sendTwin
  · exact hc

theorem Chip.Kept.gmi {n op} : c₀.Kept (c.gmi n op) := by
  unfold Chip.gmi
  split
  · exact hc.emit.onChan.ite hc
  · exact hc

theorem Chip.Kept.setChan {n s} : c₀.Kept (c.setChan n s) := hc.onChan.notify
theorem Chip.Kept.setGroup {g s} : c₀.Kept (c.setGroup g s) := hc.onGroup.notify
theorem Chip.Kept.degrade {g member} : c₀.Kept (c.degrade g member) := hc.onGroup.setGroup.vendorRecord
theorem Chip.Kept.writeStamp {n st} : c₀.Kept (c.writeStamp n st) := (hc.foldl fun _ _ h => h.gmi).onChan
theorem Chip.Kept.newEpoch {g but} : c₀.Kept (c.newEpoch g but) := hc.onGroup.foldl fun _ _ h => h.writeStamp.ite h
theorem Chip.Kept.onMiss {line f} : c₀.Kept (c.onMiss line f) := hc.onCache fun _ => by rfl

theorem Chip.Kept.issueNext {n die} : c₀.Kept (c.issueNext n die) := by
  unfold Chip.issueNext
  extract_lets mine
  refine hc.ite ?_
  cases mine with
  | nil => exact hc
  | cons q r => exact hc.onChan.gmi

theorem Chip.Kept.queueRead {n q} : c₀.Kept (c.queueRead n q) := hc.onChan.issueNext

theorem Chip.Kept.takeReads {g line} : c₀.Kept (c.takeReads g line) := by
  unfold Chip.takeReads
  refine hc.foldl fun _ _ h => ?_
  extract_lets n
  split
  · exact h
  · exact h.onChan.issueNext

theorem Chip.Kept.ask {m p stage l done} (hdone : ∀ d, c₀.Kept d → c₀.Kept (done d)) : c₀.Kept (c.ask m p stage l done) :=
  hc.ite ((hc.ite hc.onMiss.bump).ite (hdone _ (hc.onMiss.foldl fun _ _ h => h.queueRead)))

theorem Chip.Kept.standIn {m p} : c₀.Kept (c.standIn m p) := hc.ask (fun _ h => h.bump)

theorem Chip.Kept.gotLine {line v} : c₀.Kept (c.gotLine line v) := by
  unfold Chip.gotLine
  extract_lets c1
  have h1 : c₀.Kept c1 := by
    unfold c1
    split
    · exact hc.onInteg
    · exact hc
  exact h1.onMiss

theorem Chip.Kept.queueRepairs {m p} : c₀.Kept (c.queueRepairs m p) := by
  unfold Chip.queueRepairs
  exact hc.onInteg

theorem Chip.Kept.loseOnMedium {line} : c₀.Kept (c.loseOnMedium line) := by
  unfold Chip.loseOnMedium
  split
  · exact hc.onMed
  · exact hc

theorem Chip.Kept.declareMember {line} : c₀.Kept (c.declareMember line) := hc.ite hc.loseOnMedium.addPoison

theorem Chip.Kept.declare {line cause} : c₀.Kept (c.declare line cause) := by
  unfold Chip.declare
  extract_lets m lost c1 c2
  have h1 : c₀.Kept c1 := by
    unfold c1
    split
    · exact hc.queueRepairs.foldl fun _ _ h => h.declareMember
    · exact hc
  have h2 : c₀.Kept c2 := h1.loseOnMedium.ite h1
  split
  · exact h2.gotLine
  · split
    · exact h2.gotLine
    · exact ((h2.onMiss.bump.onInteg.ite h2.onMiss.bump.onInteg.addPoison).ite ((h2.onMiss.bump.onInteg.ite h2.onMiss.bump.onInteg.addPoison).record)).gotLine

theorem Chip.Kept.toStep4 {m} : c₀.Kept (c.toStep4 m) := hc.onMiss.sendTwin.ite hc.declare

theorem Chip.Kept.dispatch {line} : c₀.Kept (c.dispatch line) := by
  unfold Chip.dispatch
  split
  · extract_lets n reads
    split
    · exact hc
    · split
      · exact hc.toStep4.ite (hc.ask (fun _ h => h))
      · split
        · exact (hc.onMiss.toStep4.ite (hc.onMiss.ask (fun _ h => h))).ite hc.standIn
        · split
          · exact hc.declare
          · split
            · exact hc.standIn
            · split
              · exact hc.gotLine.ite hc.standIn
              · exact hc.ask (fun _ h => h.bump)
  · exact hc.gotLine.ite hc
  · exact hc

theorem Chip.Kept.corrected {n row u bits line} : c₀.Kept (c.corrected n row u bits line) := hc.mediumCorrected.onInteg.ite hc.mediumCorrected
theorem Chip.Kept.recover {m step} : c₀.Kept (c.recover m step) := hc.onMiss.dispatch.ite hc.onMiss.bump
theorem Chip.Kept.lastUe {line step n u} : c₀.Kept (c.lastUe line step n u) := hc.setVol
theorem Chip.Kept.burstIn {n o} : c₀.Kept (c.burstIn n o) := hc.onChan

theorem Chip.Kept.detect {line cause} : c₀.Kept (c.detect line cause) := by
  unfold Chip.detect
  split
  · exact hc
  · exact hc.bump.lastUe.ite (hc.bump.lastUe.onCache fun _ => by rfl).recover

theorem Chip.Kept.readGood {m p} : c₀.Kept (c.readGood m p) :=
  ((hc.bump.ite hc).queueRepairs.decodedMark.ite ((hc.bump.ite hc).queueRepairs)).gotLine

theorem Chip.Kept.lineReturned {line outs} : c₀.Kept (c.lineReturned line outs) := by
  unfold Chip.lineReturned
  split
  · split
    · exact hc
    · extract_lets mine at' bad failed c1 c2 c3 c4 kept m'
      have h1 : c₀.Kept c1 := hc.takeReads
      have h2 : c₀.Kept c2 := h1.foldl fun _ _ h => h.burstIn
      have h3 : c₀.Kept c3 := by
        unfold c3
        refine h2.foldl fun _ _ h => ?_
        split
        · exact h.corrected
        · exact h
      have h4 : c₀.Kept c4 := h3.foldl fun _ _ h => h.lastUe
      split
      · exact h4.readGood.ite h4.recover
      · exact h4.readGood.ite h4.bump.recover
      · exact h4.readGood.ite h4.onMiss.toStep4
  · exact hc

theorem Chip.Kept.serveReaders {rs v} : c₀.Kept (c.serveReaders rs v) := hc.foldl fun _ _ h => h.completeRead

theorem Chip.Kept.fillDone {line} : c₀.Kept (c.fillDone line) := by
  unfold Chip.fillDone
  split
  · exact hc
  · split
    · extract_lets n c1 old c2 c3 c4
      have h1 : c₀.Kept c1 := hc.onCache fun _ => by rfl
      have h2 : c₀.Kept c2 := by
        unfold c2
        split
        · exact h1
        · exact Chip.Kept.ite (h1.foldl fun _ _ h => h.setSector) (h1.setSector.writeFrame.onFrame.ite h1)
      have h3 : c₀.Kept c3 := h2.ite (h2.markPoison.ite h2.decodedMark)
      unfold c4
      split
      · split
        · exact h1.onCache fun _ => by rfl
        · split
          · exact h1.serveReaders
          · exact h1.foldl fun _ _ h => h.homeRead
      · split
        · extract_lets c5 c6 c7 c8
          have h5 : c₀.Kept c5 := h1.foldl fun _ _ h => h.setSector.writeFrame
          have h6 : c₀.Kept c6 := h5.onCache fun _ => by rfl
          have h8 : c₀.Kept c8 := by
            unfold c8
            split
            · split
              · exact h6.clearPoison.recordAt
              · exact h6.clearPoison.recordAt
            · exact h6
          exact h8.serveReaders
        · exact h3.serveReaders
    · exact hc

theorem Chip.Kept.addOp {o} : c₀.Kept (c.addOp o) := hc.onCache fun _ => by rfl
theorem Chip.Kept.newOp {g stripe cause full lines release} : c₀.Kept (c.newOp g stripe cause full lines release) := hc.addOp
theorem Chip.Kept.unitOp {g stripe member cause} : c₀.Kept (c.unitOp g stripe member cause) := hc.addOp
theorem Chip.Kept.onOp {id f} : c₀.Kept (c.onOp id f) := hc.onCache fun _ => by rfl
theorem Chip.Kept.mapWrite {k} : c₀.Kept (c.mapWrite k) := hc.ite hc.addOp.addOp

theorem Chip.Kept.endMaterialise {p} : c₀.Kept (c.endMaterialise p) := by
  unfold Chip.endMaterialise
  exact hc.onCache fun _ => by rfl

theorem Chip.Kept.zeroSlot {p} : c₀.Kept (c.zeroSlot p) :=
  (hc.endMaterialise.onMed.ite hc.endMaterialise.onMed.addOp).mapWrite.ite (hc.endMaterialise.onMed.ite hc.endMaterialise.onMed.addOp)

theorem Chip.Kept.cleanSlot {p} : c₀.Kept (c.cleanSlot p) := hc.zeroSlot.ite hc

theorem Chip.Kept.applyLines {o member} : c₀.Kept (c.applyLines o member) := by
  unfold Chip.applyLines
  exact hc.onMed

theorem Chip.Kept.stampUnit {g m row u cause} : c₀.Kept (c.stampUnit g m row u cause) := by
  unfold Chip.stampUnit
  exact hc.onMed

theorem Chip.Kept.repairedUnit {g m row u} : c₀.Kept (c.repairedUnit g m row u) := hc.onInteg
theorem Chip.Kept.checkpointed {o} : c₀.Kept (c.checkpointed o) := hc.ite hc.onMed

theorem Chip.Kept.finishOp {o} : c₀.Kept (c.finishOp o) := by
  unfold Chip.finishOp
  extract_lets c1 c2 c3
  have h1 : c₀.Kept c1 := hc.applyLines.onOp
  have h2 : c₀.Kept c2 := h1.onMed.checkpointed
  have h3 : c₀.Kept c3 := h2.onInteg.ite h2
  exact h3.ite (h3.foldl fun _ _ h => h.mapWrite)

theorem Chip.Kept.advanceOp {id member} : c₀.Kept (c.advanceOp id member) := by
  unfold Chip.advanceOp
  split
  · exact hc
  · exact hc.applyLines.finishOp.ite hc.applyLines.onOp

theorem Chip.Kept.dropOp {id} : c₀.Kept (c.dropOp id) := hc.onCache fun _ => by rfl
theorem Chip.Kept.dropOps {g cause} : c₀.Kept (c.dropOps g cause) := hc.onCache fun _ => by rfl
theorem Chip.Kept.queueRebuild {g m} : c₀.Kept (c.queueRebuild g m) := hc.dropOps.onCache fun _ => by rfl
theorem Chip.Kept.queueInit {g stripe} : c₀.Kept (c.queueInit g stripe) := hc.addOp
theorem Chip.Kept.tableChanged : c₀.Kept c.tableChanged := hc.onMed.foldl fun _ _ h => h.ite h.addOp
theorem Chip.Kept.reissueReads {n} : c₀.Kept (c.reissueReads n) := hc.foldl fun _ _ h => h.takeReads.onMiss
theorem Chip.Kept.keepRetraining {g} : c₀.Kept (c.keepRetraining g) := hc.ite hc.onGroup.setGroup
theorem Chip.Kept.endEmptied {g} : c₀.Kept (c.endEmptied g) := hc.foldl fun _ _ h => h.finishOp

theorem Chip.Kept.memberMissing {n} : c₀.Kept (c.memberMissing n) := by
  unfold Chip.memberMissing
  extract_lets g m was c1 c2 c3 c4 c5 c6
  have h3 : c₀.Kept c3 := hc.reissueReads.onChan.setChan.onCache fun _ => by rfl
  have h4 : c₀.Kept c4 := h3.dropOps.ite h3
  have h5 : c₀.Kept c5 := h4.endEmptied
  have h6 : c₀.Kept c6 := by
    unfold c6
    split
    · exact h5.degrade.newEpoch
    · exact h5.degrade.newEpoch.ite h5.setGroup.newEpoch
    · exact h5.setGroup.newEpoch
    · exact h5
  exact hc.ite (h5.ite h6.keepRetraining)

/-! ### The operations of Handover -/

theorem Chip.Kept.dropHolds {segs} : c₀.Kept (c.dropHolds segs) := by
  unfold Chip.dropHolds
  refine hc.foldl fun _ _ h => ?_
  split
  · exact h.sendTwin
  · split
    · exact h.ite h.onFrame
    · exact h

theorem Chip.Kept.onReel {id f} : c₀.Kept (c.onReel id f) := hc.onObj

theorem Chip.Kept.closeReel {id} : c₀.Kept (c.closeReel id) := by
  unfold Chip.closeReel
  split
  · exact hc
  · exact hc.dropHolds.onObj

theorem Chip.Kept.closeReels {p} : c₀.Kept (c.closeReels p) := hc.foldl fun _ _ h => h.closeReel
theorem Chip.Kept.setRoute {gran home} : c₀.Kept (c.setRoute gran home) := hc.onMed.tableChanged

theorem Chip.Kept.becomeLocal {seg} : c₀.Kept (c.becomeLocal seg) := by
  unfold Chip.becomeLocal
  split
  · exact hc.onFrame
  · exact hc

theorem Chip.Kept.becomeHeld {seg} : c₀.Kept (c.becomeHeld seg) := by
  unfold Chip.becomeHeld
  extract_lets fs
  split
  · exact hc.foldl fun _ _ h => h.freeFrame
  · extract_lets c1
    have h1 : c₀.Kept c1 := hc.foldl fun _ _ h => h.freeFrame
    split
    · split
      · exact h1
      · exact h1.choose.copySectors.setFrame.freeFrame
    · exact h1.onFrame

theorem Chip.Kept.onGran {gran f} : c₀.Kept (c.onGran gran f) := hc.onDolly
theorem Chip.Kept.setStage {seg s} : c₀.Kept (c.setStage seg s) := hc.onGran

theorem Chip.Kept.sendHandover {seg} : c₀.Kept (c.sendHandover seg) := by
  unfold Chip.sendHandover
  split
  · exact hc
  · exact hc.onGran.sendTwin.bump

theorem Chip.Kept.settleMoves : c₀.Kept c.settleMoves := hc.foldl fun _ _ h => h.sendHandover
theorem Chip.Kept.giveObj {id} : c₀.Kept (c.giveObj id) := hc.onObj.tableChanged
theorem Chip.Kept.adoptObj {id} : c₀.Kept (c.adoptObj id) := hc.onObj.tableChanged
theorem Chip.Kept.activateShadow {o} : c₀.Kept (c.activateShadow o) := hc.onInteg.foldl fun _ _ h => h.foldl fun _ _ h => h.listPoison
theorem Chip.Kept.shadowOf {o} : c₀.Kept (c.shadowOf o) := hc.onInteg
theorem Chip.Kept.giveHomes : c₀.Kept c.giveHomes :=
  hc.foldl fun _ _ h => ((((h.closeReels.foldl fun _ _ h => h.becomeHeld).foldl fun _ _ h => h.setRoute).giveObj).shadowOf).sendTwin

theorem Chip.Kept.settleHand : c₀.Kept c.settleHand := hc.ite hc.giveHomes.sendTwin.onTwin.pairRecord
theorem Chip.Kept.settleTwin : c₀.Kept c.settleTwin := hc.settleMoves.settleHand

/-! ### The operations of WriteBack -/

theorem Chip.Kept.markWb {line} : c₀.Kept (c.markWb line) := hc.foldl fun _ _ h => h.onFrame

theorem Chip.Kept.readCopy {line t} : c₀.Kept (c.readCopy line t) := by
  unfold Chip.readCopy
  split
  · exact hc.readFrame
  · exact hc

theorem Chip.Kept.releaseLine {line} : c₀.Kept (c.releaseLine line) := hc.foldl fun _ _ h => h.onFrame.ite h

theorem Chip.Kept.releaseFrames {seg} : c₀.Kept (c.releaseFrames seg) := by
  unfold Chip.releaseFrames
  extract_lets mine bypass
  refine hc.foldl fun _ _ h => ?_
  split
  · exact h.freeFrame
  · exact h.freeFrame.ite h.onFrame
  · exact h.onFrame
  · exact h

theorem Chip.Kept.matRelease {o} : c₀.Kept (c.matRelease o) := by
  unfold Chip.matRelease
  extract_lets k zeros keys c1 more c2
  have h1 : c₀.Kept c1 := hc.foldl fun _ _ h => h.setMap
  have h2 : c₀.Kept c2 := h1.mapWrite
  exact h2.ite (h2.bump.ite h2.onMed)

theorem Chip.Kept.vacate {f} : c₀.Kept (c.vacate f) := by
  unfold Chip.vacate
  extract_lets fr
  split
  · exact hc.evictFrame
  · exact hc.evictFrame
  · split
    · exact hc.choose.moveFrame
    · exact hc
  · split
    · next _ _ heq =>
        exact (hc.allocate.snd heq).partShadow.moveFrame
    · next _ heq1 =>
        split
        · extract_lets c1 c2
          have h1 : c₀.Kept c1 := (hc.allocate.snd heq1).choose.moveFrame
          have h2 : c₀.Kept c2 := h1.onFrame
          split
          · exact h2.onFrame
          · exact h2
        · exact hc.allocate.snd heq1
  · exact hc

theorem Chip.Kept.startWays {scratch pin} : c₀.Kept (c.startWays scratch pin) := (hc.onCache fun _ => by rfl).evalSquall

/-! ### The operations of GmiRows -/

theorem Chip.Kept.metOld {o m l out} : c₀.Kept (c.metOld o m l out) := by
  unfold Chip.metOld
  extract_lets row u line
  split
  · exact hc
  · exact hc.corrected
  · exact hc.detect.onOp

theorem Chip.Kept.convertReads {n row} : c₀.Kept (c.convertReads n row) := hc.foldl fun _ _ h => h.takeReads.onMiss
theorem Chip.Kept.startProgram {o member} : c₀.Kept (c.startProgram o member) := hc.convertReads.onChan.gmi
theorem Chip.Kept.endBusy {n row} : c₀.Kept (c.endBusy n row) := hc.onChan

theorem Chip.Kept.advanceCursor {g m part b} : c₀.Kept (c.advanceCursor g m part b) := by
  unfold Chip.advanceCursor
  split
  · exact hc.onGroup.unitOp.ite hc.onGroup
  · exact (hc.onGroup.queueInit.ite hc.onGroup).ite hc
  · exact hc

theorem Chip.Kept.raiseErr {n e} : c₀.Kept (c.raiseErr n e) := hc.onChan

theorem Chip.Kept.statusRead {n st} : c₀.Kept (c.statusRead n st) := by
  unfold Chip.statusRead
  extract_lets low c1 c2 life c3
  have h1 : c₀.Kept c1 := hc.gmi.onChan
  have h2 : c₀.Kept c2 := h1.ite h1.gmi
  have h3 : c₀.Kept c3 := h2.alert.ite h2
  exact h3.vendorRecord.ite h3

theorem Chip.Kept.trainChan {n} : c₀.Kept (c.trainChan n) := hc.foldl fun _ _ h => h.gmi
theorem Chip.Kept.startInit {g} : c₀.Kept (c.startInit g) :=
  (hc.foldl fun _ _ h => h.setChan.ite h).onGroup.newEpoch.setGroup.dropOps.queueInit

theorem Chip.Kept.autoInit {g} : c₀.Kept (c.autoInit g) := hc.startInit.ite hc
theorem Chip.Kept.joinGroup {n} : c₀.Kept (c.joinGroup n) :=
  (hc.newEpoch.onGroup.setChan.onGroup.ite hc.newEpoch.onGroup.setChan.setGroup).queueRebuild.ite hc

theorem Chip.Kept.trainFailed {n step} : c₀.Kept (c.trainFailed n step) := hc.onChan.setChan

theorem Chip.Kept.startRetrain {n} : c₀.Kept (c.startRetrain n) := by
  unfold Chip.startRetrain
  extract_lets go
  split
  · exact hc.ite hc.onChan.trainChan.reissueReads.onChan.keepRetraining
  · exact hc.ite hc.onChan.trainChan.reissueReads.onChan.keepRetraining
  · exact hc.onChan.trainChan
  · exact hc

theorem Chip.Kept.removeState {v} : c₀.Kept (c.removeState v) := hc.onMed

theorem Chip.Kept.removal {n} : c₀.Kept (c.removal n).2 := by
  unfold Chip.removal
  extract_lets g m was c1 c2 c3 due c4
  have h1 : c₀.Kept c1 := hc.reissueReads.setChan.removeState
  have h2 : c₀.Kept c2 := by
    unfold c2
    split
    · exact h1.degrade.newEpoch
    · exact h1.onGroup.degrade.newEpoch
    · exact h1
  have h3 : c₀.Kept c3 := h2.dropOps.ite h2
  split
  · exact (h3.onCache fun _ => by rfl).endEmptied
  · exact hc.onChan.removeState

theorem Chip.Kept.dropGroupOps {g} : c₀.Kept (c.dropGroupOps g) := (hc.onCache fun _ => by rfl).foldl fun _ _ h => h.foldl fun _ _ h => h.onFrame

theorem Chip.Kept.discardGroup {g} : c₀.Kept (c.discardGroup g) := by
  unfold Chip.discardGroup
  exact ((hc.dropGroupOps.foldl fun _ _ h => h.clearPoisonRange).foldl fun _ _ h => h.cleanSlot).onMed

theorem Chip.Kept.initEnd {g} : c₀.Kept (c.initEnd g) := by
  unfold Chip.initEnd
  split
  · exact hc.setGroup
  · exact hc.degrade
  · exact hc.setGroup

theorem Chip.Kept.scrubEnd {g} : c₀.Kept (c.scrubEnd g) := by
  unfold Chip.scrubEnd
  exact (hc.bump.setVol.setVol.foldl fun _ _ h => h.setVol).onMed.onGroup

theorem Chip.Kept.scrubLeave {g x again} : c₀.Kept (c.scrubLeave g x again) := hc.onGroup.scrubEnd.ite hc.onGroup
theorem Chip.Kept.moveRef {n row b up} : c₀.Kept (c.moveRef n row b up) := hc.ite hc.onChan.gmi

theorem Chip.Kept.sampleUnit {n row u x} : c₀.Kept (c.sampleUnit n row u x) := by
  unfold Chip.sampleUnit
  extract_lets b c1
  have h1 : c₀.Kept c1 := hc.foldl fun _ _ h => h.gmi
  split
  · exact h1.moveRef
  · exact h1

theorem Chip.Kept.scrubLine {g m row u l out} : c₀.Kept (c.scrubLine g m row u l out) := by
  unfold Chip.scrubLine
  extract_lets at' line
  cases out with
  | ok =>
    cases at' with
    | some x => exact hc.decodedMark.ite hc
    | none => exact hc
  | corrected b => exact hc.corrected
  | uncorrectable => exact hc.detect

theorem Chip.Kept.persistPoison {cls} : c₀.Kept (c.persistPoison cls) := hc.ite hc.pageWrite.onInteg

/-! ### The operations of Shared -/

theorem Chip.Kept.snapshot {trigger chan} : c₀.Kept (c.snapshot trigger chan) := hc.onPwr.bump

theorem Chip.Kept.mapReqs {f} : c₀.Kept (c.mapReqs f) := by
  unfold Chip.mapReqs
  exact (hc.onCache fun _ => by rfl).onTwin.onHbm.onDolly.onWit

theorem Chip.Kept.headDown {h l} : c₀.Kept (c.headDown h l) := by
  unfold Chip.headDown
  extract_lets c1 c2 c3 c4 c5 was c6
  have h2 : c₀.Kept c2 := (hc.onCache fun _ => by rfl).mapReqs
  have h3 : c₀.Kept c3 := h2.setDeferred
  have h6 : c₀.Kept c6 := (h3.onRing fun _ => by rfl).onSec.onHead fun _ => by rfl
  exact h6.headEvent.emit.ite h6

theorem Chip.Kept.disableHeads : c₀.Kept c.disableHeads := hc.foldl fun _ _ h => h.headDown
theorem Chip.Kept.useSeq : c₀.Kept c.useSeq := hc.countNow.onWit.ite hc.onWit
theorem Chip.Kept.sendWitness {type drill relay} : c₀.Kept (c.sendWitness type drill relay) := hc.ite (hc.useSeq.sendTwin.ite hc.useSeq.emit)
theorem Chip.Kept.sendClaim {reason} : c₀.Kept (c.sendClaim reason) := hc.ite hc.sendWitness.onWit
theorem Chip.Kept.setPair {s} : c₀.Kept (c.setPair s) := hc.ite ((hc.onBoot.ite hc).onTwin.notify)
theorem Chip.Kept.setLease {s} : c₀.Kept (c.setLease s) := hc.ite hc.onWit.notify
theorem Chip.Kept.hold {r} : c₀.Kept (c.hold r) := (hc.onTwin.ite hc.onTwin).peak
theorem Chip.Kept.unprep : c₀.Kept c.unprep := hc.onDolly

theorem Chip.Kept.twinDown : c₀.Kept c.twinDown := by
  unfold Chip.twinDown
  split
  · exact hc
  · extract_lets c1 held c2 c3 c4 c5 fetching c6 c7 c8
    have h1 : c₀.Kept c1 := hc.onTwin.bump
    have h2 : c₀.Kept c2 := h1.onTwin
    have h3 : c₀.Kept c3 := h2.dropHolds.onObj
    have h4 : c₀.Kept c4 := h3.foldl fun _ _ h => h.hold
    have h5 : c₀.Kept c5 := h4.mapReqs
    have h6 : c₀.Kept c6 := h5.foldl fun _ _ h => h.declare
    have h7 : c₀.Kept c7 := h6.peerErased.ite h6
    have h8 : c₀.Kept c8 := h7.onSec
    exact h8.unprep

theorem Chip.Kept.dropMirrored : c₀.Kept c.dropMirrored := by
  unfold Chip.dropMirrored
  exact (hc.foldl fun _ _ h => h.markStale).onTwin.onHbm.onCache fun _ => by rfl

theorem Chip.Kept.dropHeld : c₀.Kept c.dropHeld := hc.onTwin.onDolly

theorem Chip.Kept.fence : c₀.Kept c.fence := by
  unfold Chip.fence
  split
  · exact hc
  · extract_lets c1 c2 c3
    have h1 : c₀.Kept c1 := hc.twinDown.dropMirrored.disableHeads.dropHeld.onDolly
    have h2 : c₀.Kept c2 := h1.setPair.onWit
    have h3 : c₀.Kept c3 := h2.ite h2.setLease
    exact h3.sendWitness

theorem Chip.Kept.setProbeEn {on} : c₀.Kept (c.setProbeEn on) := hc.onPwr
theorem Chip.Kept.setWrap {v} : c₀.Kept (c.setWrap v) := hc.onWrap.notify

theorem Chip.Kept.stopOps : c₀.Kept c.stopOps := by
  unfold Chip.stopOps
  exact hc.onCache fun _ => by rfl

theorem Chip.Kept.startWrap {cause} : c₀.Kept (c.startWrap cause) := by
  unfold Chip.startWrap
  split
  · exact hc
  · extract_lets probing c1 c2 c3 c4 c5 before c6 c7 c8 c9 c10 c11 c12 c13 c14 c15 c16
    have h2 : c₀.Kept c2 := hc.onPwr.onWrap.setWrap.snapshot
    have h3 : c₀.Kept c3 := h2.setProbeEn.ite h2
    have h7 : c₀.Kept c7 := (h3.onRes.onLedger fun _ => by rfl).onWrap.bistEnd.disableHeads
    have h8 : c₀.Kept c8 := h7.mapHeads fun _ _ => rfl
    have h13 : c₀.Kept c13 := (h8.closeReels.onObj.dropMirrored.onCache fun _ => by rfl).onHbm
    have h14 : c₀.Kept c14 := h13.sendWitness.setLease.ite h13
    have h16 : c₀.Kept c16 := h14.twinDown.dropHeld.onDolly
    exact h16.onInteg.unclaimAll.stopOps.evalPanic

theorem Chip.Kept.ctlIn {hdr f} (hf : ∀ d, c₀.Kept d → c₀.Kept (f d)) : c₀.Kept (c.ctlIn hdr f) := hc.ite (hc.bump.bump.ite (hf _ hc.bump))
theorem Chip.Kept.reqIn {hdr f} (hf : ∀ d, c₀.Kept d → c₀.Kept (f d)) : c₀.Kept (c.reqIn hdr f) := hc.ite ((hf _ hc.bump).ite hc.bump)
theorem Chip.Kept.anyIn {f} (hf : ∀ d, c₀.Kept d → c₀.Kept (f d)) : c₀.Kept (c.anyIn f) := (hf _ hc.bump).ite hc

/-! ### The operations of Hbm -/

theorem Chip.Kept.setPc {p s} : c₀.Kept (c.setPc p s) := hc.onHbm
theorem Chip.Kept.rebind {p q} : c₀.Kept (c.rebind p q) := hc.onHbm
theorem Chip.Kept.dramRecord {p} : c₀.Kept (c.dramRecord p) := hc.record

theorem Chip.Kept.pcFail {p trigger} : c₀.Kept (c.pcFail p trigger) := by
  unfold Chip.pcFail
  split
  · exact hc.setPc.hbmAccess.startWrap.ite hc.setPc.hbmAccess.onHbm.setVol
  · exact hc

theorem Chip.Kept.countUe {p} : c₀.Kept (c.countUe p) := hc.bump.onHbm.pcFail.ite hc.bump.onHbm
theorem Chip.Kept.countCe {p body} : c₀.Kept (c.countCe p body) := hc.hbmCorrected.onHbm.pcFail.ite hc.hbmCorrected.onHbm
theorem Chip.Kept.parityRepeated {p} : c₀.Kept (c.parityRepeated p) := hc.onHbm.pcFail.ite hc.onHbm
theorem Chip.Kept.doubleFault {line} : c₀.Kept (c.doubleFault line) := (hc.onHbm.foldl fun _ _ h => h.setSector).addPoison.record

theorem Chip.Kept.hbmBad {f n all} : c₀.Kept (c.hbmBad f n all) := by
  unfold Chip.hbmBad
  extract_lets fr line alone c1
  have dropLine {d : Chip} (hd : c₀.Kept d) : c₀.Kept (d.onCache fun k => { k with lines := k.lines.del (64 * f + n) }) :=
    hd.onCacheStores fun hf hl => ⟨hf, SMap.sorted_del _ _ hl⟩
  have h1 : c₀.Kept c1 := by
    unfold c1
    split
    · exact dropLine hc.onFrame
    · exact hc
    · exact hc
    · exact (dropLine hc.onFrame).ite (hc.setSector.sendTwin.ite (hc.ite ((hc.ite (hc.onCache fun _ => by rfl).sendTwin).ite hc.doubleFault)))
  exact h1.countUe

theorem Chip.Kept.tagMeets {set ev} : c₀.Kept (c.tagMeets set ev) := by
  unfold Chip.tagMeets
  split
  · exact hc.bump
  · exact hc.bump.ite hc.bump.choose.onFrame
  · exact hc

theorem Chip.Kept.sramMeets {ev} : c₀.Kept (c.sramMeets ev) := by
  unfold Chip.sramMeets
  split
  · exact hc.bump
  · exact hc.bump
  · exact hc.bump
  · exact hc

theorem Chip.Kept.hbmMeets {f n ev} : c₀.Kept (c.hbmMeets f n ev) := by
  unfold Chip.hbmMeets
  split
  · exact hc
  · exact hc.tagMeets
  · exact hc.tagMeets
  · exact hc.writeFrame.countCe
  · exact hc.hbmBad
  · exact hc.hbmBad
  · exact hc.bump
  · exact hc.bump.parityRepeated
  · exact hc.pcFail
  · exact hc.sramMeets
  · exact hc.sramMeets
  · exact hc.sramMeets

theorem Chip.Kept.retireCmd {v} : c₀.Kept (c.retireCmd v).2 := by
  unfold Chip.retireCmd
  split
  · extract_lets p
    split
    · exact hc.setPc.vendorRecord.bindingRecord
    · split
      · exact hc
      · exact hc.pcFail
    · exact hc
  · exact hc

theorem Chip.Kept.onlyCopyLost {line} : c₀.Kept (c.onlyCopyLost line) := (hc.ite (hc.onCache fun _ => by rfl).sendTwin).ite hc.doubleFault
theorem Chip.Kept.lostDirty {f n} : c₀.Kept (c.lostDirty f n) := hc.setSector.sendTwin.ite (hc.ite hc.onlyCopyLost)

theorem Chip.Kept.unbuild {f} : c₀.Kept (c.unbuild f) := by
  have empty {d : Chip} (hd : c₀.Kept d) :
      c₀.Kept (d.onCache fun k => { k with lines := k.lines.filter (fun p => p.1 / 64 != f) }) :=
    hd.onCacheStores fun hf hl => ⟨hf, SMap.sorted_filter _ _ hl⟩
  unfold Chip.unbuild
  extract_lets
  split
  · exact hc.freeFrame
  · exact hc.freeFrame
  · exact hc
  · exact hc
  · exact empty hc.onFrame
  · exact empty hc.onFrame

theorem Chip.Kept.releaseFence : c₀.Kept c.releaseFence :=
  (hc.onHbm.foldl fun _ _ h => h.sendTwin.ite h.mirrorIn).foldl fun _ _ h => h.scratchAccess.ite h.lateRequest

theorem Chip.Kept.buildFor {seg n} : c₀.Kept (c.buildFor seg n) := hc.foldl fun _ _ h => h.buildFrame.writeFrame

theorem Chip.Kept.rebuildState {f} : c₀.Kept (c.rebuildState f) := by
  unfold Chip.rebuildState
  split
  · exact hc
  · exact hc
  · exact hc
  · exact hc.onFrame

theorem Chip.Kept.rebuildMap {seg lost} : c₀.Kept (c.rebuildMap seg lost) := by
  unfold Chip.rebuildMap
  split
  · exact hc
  · exact (hc.foldl fun _ _ h => h.markPoison).ite hc.setWritten

theorem Chip.Kept.restage {seg} : c₀.Kept (c.restage seg) := by
  unfold Chip.restage
  split
  · exact hc
  · split
    · exact hc
    · extract_lets c1
      have h1 : c₀.Kept c1 := hc.onGran
      split
      · exact h1
      · exact h1.onCache fun _ => by rfl

theorem Chip.Kept.restartOp {id} : c₀.Kept (c.restartOp id) := by
  unfold Chip.restartOp
  split
  · exact hc
  · exact hc.ite ((hc.foldl fun _ _ h => h.foldl fun _ _ h => h.onFrame).onOp.ite ((hc.foldl fun _ _ h => h.foldl fun _ _ h => h.onFrame).dropOp))

theorem Chip.Kept.restartWork {i} : c₀.Kept (c.restartWork i) := (hc.foldl fun _ _ h => h.restage).foldl fun _ _ h => h.restartOp

theorem Chip.Kept.rebuildStep : c₀.Kept c.rebuildStep := by
  unfold Chip.rebuildStep
  split
  · exact hc
  · split
    · exact hc
    · split
      · exact hc.buildFrame.writeFrame
      · exact hc.onHbm

/-! ### The operations of Objects -/

theorem Chip.Kept.onCmd {id f} : c₀.Kept (c.onCmd id f) := hc.onObj

theorem Chip.Kept.finish {id status detail vals obj} : c₀.Kept (c.finish id status detail vals obj) := by
  unfold Chip.finish
  split
  · exact hc
  · exact hc.onCmd

theorem Chip.Kept.descInval {obj} : c₀.Kept (c.descInval obj) := (hc.onCache fun _ => by rfl).sendTwin
theorem Chip.Kept.putObj {obj o} : c₀.Kept (c.putObj obj o) := hc.onObj.tableChanged.sendTwin.descInval
theorem Chip.Kept.delObj {obj} : c₀.Kept (c.delObj obj) := hc.onObj.tableChanged.sendTwin.descInval

theorem Chip.Kept.takeSlot {gran sgroup} : c₀.Kept (c.takeSlot gran sgroup) := by
  unfold Chip.takeSlot
  split
  · exact hc
  · split
    · exact hc
    · split
      · exact hc
      · exact hc.onMed.zeroSlot.tableChanged.sendTwin

theorem Chip.Kept.freeSlotOf {gran} : c₀.Kept (c.freeSlotOf gran) := by
  unfold Chip.freeSlotOf
  split
  · exact hc
  · exact hc.cleanSlot.onMed.tableChanged.sendTwin

theorem Chip.Kept.takeSlots {first sgroup n} : c₀.Kept (c.takeSlots first sgroup n) := by
  induction n generalizing c first with
  | zero => exact hc
  | succ n ih => exact ih hc.takeSlot

theorem Chip.Kept.freeSlots {first n} : c₀.Kept (c.freeSlots first n) := by
  induction n generalizing c first with
  | zero => exact hc
  | succ n ih => exact ih hc.freeSlotOf

theorem Chip.Kept.drawKey : c₀.Kept c.drawKey.2 := by
  dsimp only [Chip.drawKey]
  exact hc.onSec

theorem Chip.Kept.setTag {t k} : c₀.Kept (c.setTag t k) := hc.onSec

/-- The chip with which a key is at hand. -/
theorem Chip.Kept.needKey {t d} (h : c.needKey t = .ready d) : c₀.Kept d := by
  unfold Chip.needKey at h
  extract_lets gen at h
  have hgen (hg : gen = .ready d) : c₀.Kept d := by
    unfold gen at hg
    split at hg
    · cases hg
    · cases hg
      exact hc.drawKey.setTag.sendTwin.ite hc.drawKey.setTag
  split at h
  · cases h; exact hc
  · cases h
  · split at h
    · split at h
      · cases h
      · exact hgen h
    · exact hgen h
    · exact hgen h
    · exact hgen h
    · cases h
    · cases h

theorem Chip.Kept.giveKey {t} : c₀.Kept (c.giveKey t) := by
  unfold Chip.giveKey
  refine hc.ite (hc.sendTwin.ite ?_)
  split
  · next d h => exact hc.needKey h
  · exact hc

theorem Chip.Kept.discardSegs {first count release} : c₀.Kept (c.discardSegs first count release) := by
  unfold Chip.discardSegs
  extract_lets inR fs c1 c2
  have h1 : c₀.Kept c1 := by
    refine hc.foldl fun d p hd => ?_
    exact Chip.Kept.ite (hd.onFrame.onCacheStores fun hf hl => ⟨hf, SMap.sorted_filter _ _ hl⟩) hd.freeFrame
  exact (h1.onCache fun _ => by rfl).onInteg

theorem Chip.Kept.clearWritten {first count} : c₀.Kept (c.clearWritten first count) :=
  hc.foldl fun _ _ h => h.zeroSlot.ite (h.ite ((h.foldl fun _ _ h => h.setMap).mapWrite))

theorem Chip.Kept.zeroSegs {first count release} : c₀.Kept (c.zeroSegs first count release) := hc.discardSegs.clearWritten.clearPoisonRange
theorem Chip.Kept.scrubBacklog {tag scrub first count} : c₀.Kept (c.scrubBacklog tag scrub first count) := hc.onMed.ite hc
theorem Chip.Kept.dropMoves {first n} : c₀.Kept (c.dropMoves first n) := hc.onDolly.foldl fun _ _ h => h.lateRequest
theorem Chip.Kept.cancelCmds {obj but first count} : c₀.Kept (c.cancelCmds obj but first count) := hc.foldl fun _ _ h => h.finish

/-! ### The operations of Commands -/

theorem Chip.Kept.cmdSpan {id first count} : c₀.Kept (c.cmdSpan id first count) := hc.onCmd

theorem Chip.Kept.runCreate {id e} : c₀.Kept (c.runCreate id e) := by
  unfold Chip.runCreate
  extract_lets half fl mirror n sg tag base
  refine hc.finish.ite (hc.finish.ite ?_)
  cases base with
  | none => exact hc.finish
  | some b =>
    refine hc.finish.ite (hc.finish.ite ?_)
    split
    · exact hc.finish
    · split
      · exact hc.onCmd.sendTwin
      · exact hc.finish
      · next d h => exact (hc.needKey h).putObj.takeSlots.finish

theorem Chip.Kept.runDestroy {id obj o scrub} : c₀.Kept (c.runDestroy id obj o scrub) :=
  hc.cancelCmds.closeReels.putObj.dropMoves.scrubBacklog.zeroSegs.settle

theorem Chip.Kept.enqueue {cmd obj kind group gs} : c₀.Kept (c.enqueue cmd obj kind group gs) := hc.onDolly
theorem Chip.Kept.staleRange {first count} : c₀.Kept (c.staleRange first count) := hc.foldl fun _ _ h => h.markStale
theorem Chip.Kept.rekeyPeer {obj o} : c₀.Kept (c.rekeyPeer obj o) := hc.ite (hc.onObj.ite hc.onObj.staleRange)

theorem Chip.Kept.runSetAttr {id e obj o} : c₀.Kept (c.runSetAttr id e obj o) := by
  unfold Chip.runSetAttr
  extract_lets fl tag newMirror rekey rest build rebuild unmirror go
  have hgo {d : Chip} (hd : c₀.Kept d) : c₀.Kept (go d) := by
    unfold go
    extract_lets o' c1 gs c2 c3 c4 c5
    have h1 : c₀.Kept c1 := hd.putObj
    have h2 : c₀.Kept c2 := (h1.foldl fun _ _ h => h.markStale).ite h1
    have h3 : c₀.Kept c3 := by
      refine Chip.Kept.ite (Chip.Kept.onCacheStores (h2.foldl fun _ _ h => h.onMed) fun hf hl => ⟨SMap.sorted_map _ _ (fun p => ?_) hf, hl⟩) h2
      dsimp only
      split <;> rfl
    have h4 : c₀.Kept c4 := h3.enqueue.rekeyPeer.ite (h3.enqueue.rekeyPeer.ite h3)
    have h5 : c₀.Kept c5 := h4.enqueue.ite (h4.enqueue.ite h4)
    exact h5.ite h5.finish
  refine hc.finish.ite (hc.finish.ite (hc.finish.ite ?_))
  split
  · split
    · exact hc.onCmd.sendTwin
    · exact hc.finish
    · next d h => exact hgo (hc.needKey h)
  · exact hgo hc

theorem Chip.Kept.runQuery {id e} : c₀.Kept (c.runQuery id e) := by
  unfold Chip.runQuery
  extract_lets half found
  cases found with
  | none => exact hc.finish
  | some p => exact hc.finish.ite hc.finish

theorem Chip.Kept.runResize {id e obj o} : c₀.Kept (c.runResize id e obj o) := by
  unfold Chip.runResize
  extract_lets n half vals
  split
  · exact hc.finish
  · split
    · exact hc.finish
    · split
      · exact hc.finish.ite (hc.finish.ite (hc.finish.ite hc.putObj.takeSlots.finish))
      · exact hc.cancelCmds.closeReels.putObj.dropMoves.scrubBacklog.zeroSegs.settle.onObj.finish

theorem Chip.Kept.runMove {id e obj o} : c₀.Kept (c.runMove id e obj o) := hc.finish.ite (hc.cmdSpan.onCmd.foldl fun _ _ h => h.enqueue)

theorem Chip.Kept.reservePin {id seg} {d : Chip} (h : c.reservePin id seg = some d) : c₀.Kept d := by
  unfold Chip.reservePin at h
  split at h
  · cases h; exact hc
  · obtain ⟨f, -, rfl⟩ := Option.map_eq_some_iff.1 h
    exact hc.setFrame.onDolly

theorem Chip.Kept.reservePins {id seg n} {d : Chip} (h : c.reservePins id seg n = some d) : c₀.Kept d := by
  induction n generalizing c seg with
  | zero => cases h; exact hc
  | succ n ih =>
    obtain ⟨e, he, h⟩ := Option.bind_eq_some_iff.1 h
    exact ih (hc.reservePin he) h

theorem Chip.Kept.runPin {id obj first n} : c₀.Kept (c.runPin id obj first n) := by
  unfold Chip.runPin
  split
  · exact hc.finish
  · next _ heq =>
      exact (hc.reservePins heq).descInval

theorem Chip.Kept.runUnpin {id obj first n} : c₀.Kept (c.runUnpin id obj first n) := by
  unfold Chip.runUnpin
  exact hc.descInval.onDolly

theorem Chip.Kept.bringIn {seg cause} : c₀.Kept (c.bringIn seg cause).2 := by
  unfold Chip.bringIn
  cases c.lookup seg with
  | some f => exact hc.onFrame.foldl fun _ _ h => h.queueMiss
  | none =>
    rcases h : c.allocate seg .clean with ⟨_ | f, d⟩
    · exact hc.allocate.snd h
    · exact (hc.allocate.snd h).foldl fun _ _ h => h.queueMiss

theorem Chip.Kept.promoteOn {id seg n} : c₀.Kept (c.promoteOn id seg n) := by
  induction n generalizing c seg with
  | zero => exact hc
  | succ n ih =>
    unfold Chip.promoteOn
    split
    next ok d hd =>
    refine ih (Chip.Kept.onCmd (Chip.Kept.snd ?_ hd))
    exact Chip.Kept.iteSnd hc hc.bringIn

theorem Chip.Kept.runPromote {id} : c₀.Kept (c.runPromote id) := by
  unfold Chip.runPromote
  split
  · exact hc
  · exact hc.promoteOn.ite hc

theorem Chip.Kept.runZero {id e o first n} : c₀.Kept (c.runZero id e o first n) :=
  hc.finish.ite (((hc.scrubBacklog.zeroSegs.settle.sendTwin.ite hc.scrubBacklog.zeroSegs.settle).ite hc.scrubBacklog.zeroSegs.settle.staleRange).finish)

theorem Chip.Kept.runReelOpen {id e obj o} : c₀.Kept (c.runReelOpen id e obj o) :=
  hc.finish.ite (hc.finish.ite (hc.finish.ite (hc.finish.ite hc.onObj.finish)))

theorem Chip.Kept.slideReel {rid} : c₀.Kept (c.slideReel rid) := by
  unfold Chip.slideReel
  split
  · exact hc
  · exact hc.dropHolds.onReel

theorem Chip.Kept.dropReader {rid reader} : c₀.Kept (c.dropReader rid reader) := by
  unfold Chip.dropReader
  extract_lets c1
  have h1 : c₀.Kept c1 := hc.onReel
  split
  · exact h1.closeReel.ite h1.slideReel
  · exact h1

theorem Chip.Kept.runReelJoin {id r} : c₀.Kept (c.runReelJoin id r) := hc.finish.ite hc.onReel.finish

theorem Chip.Kept.runReelAdvance {id e r} : c₀.Kept (c.runReelAdvance id e r) := by
  unfold Chip.runReelAdvance
  extract_lets cur
  split
  · exact hc.finish
  · exact hc.finish.ite hc.onReel.slideReel.finish

theorem Chip.Kept.runReelLeave {id e r} : c₀.Kept (c.runReelLeave id e r) := hc.dropReader.finish.ite hc.finish

theorem Chip.Kept.runOn {id e o} : c₀.Kept (c.runOn id e o) := by
  unfold Chip.runOn
  extract_lets obj op ranged
  split
  · exact hc.finish
  · rcases spanOf e o with ⟨first, n⟩
    dsimp -zeta only
    extract_lets c1 rivals c2 reel
    have h1 : c₀.Kept c1 := hc.cmdSpan
    have h2 : c₀.Kept c2 := h1.foldl fun _ _ h => h.finish
    clear_value op reel
    refine h1.onCmd.ite ?_
    split
    · exact h2.runDestroy
    · exact h2.runSetAttr
    · exact h2.runResize
    · exact h2.runMove
    · exact h2.runPin
    · exact h2.runUnpin
    · exact h2.runPromote
    · exact h2
    · exact h2.runZero
    · exact h2.runReelOpen
    · cases reel with
      | none => exact h2.finish
      | some r => exact h2.runReelJoin.ite (h2.runReelAdvance.ite h2.runReelLeave)

theorem Chip.Kept.forwardCmd {id e} : c₀.Kept (c.forwardCmd id e) := hc.takeTag.onTwin.sendTwin.ite hc.onCmd

theorem Chip.Kept.run {id} : c₀.Kept (c.run id) := by
  unfold Chip.run
  split
  · exact hc
  · extract_lets e cue fwd c1
    have h1 : c₀.Kept c1 := hc.onCmd
    split
    · exact h1.finish
    · split
      · exact h1.finish
      · split
        · exact h1.finish
        · split
          · exact h1.finish
          · split
            · exact h1.forwardCmd
            · split
              · exact h1.onCmd.ite h1.runCreate
              · split
                · exact h1.runQuery
                · split
                  · exact h1.finish
                  · split
                    · exact h1.finish
                    · exact h1.finish
                    · exact h1.finish.ite h1.runOn

theorem Chip.Kept.addCmd {path e} : c₀.Kept (c.addCmd path e).2 := by
  dsimp only [Chip.addCmd]
  exact hc.onObj

theorem Chip.Kept.command {path e} : c₀.Kept (c.command path e) := hc.addCmd.run

theorem Chip.Kept.startWaiting : c₀.Kept c.startWaiting := by
  unfold Chip.startWaiting
  refine hc.foldl fun _ _ h => ?_
  split
  · exact h.run.ite h
  · exact h

theorem Chip.Kept.lastCmdError {r res} : c₀.Kept (c.lastCmdError r res) := hc.setVol

theorem Chip.Kept.cueResult {h slot res} : c₀.Kept (c.cueResult h slot res) := by
  unfold Chip.cueResult
  extract_lets c1 c2 q
  have h1 : c₀.Kept c1 := hc.onHeadCue fun hw => Memory.wf_write _ _ _ hw
  have h2 : c₀.Kept c2 := h1.bump
  exact h2.ite (h2.emit.ite (h2.onHead fun _ => by rfl))

theorem Chip.Kept.deliver {r res} : c₀.Kept (c.deliver r res) := by
  unfold Chip.deliver
  extract_lets err c1 c2 mine c3 c4
  have h1 : c₀.Kept c1 := by
    unfold c1
    split
    · exact hc.cueResult
    · exact hc.onHead fun _ => by rfl
    · exact hc.onObj
    · exact hc.sendTwin
  have h2 : c₀.Kept c2 := by
    unfold c2
    split
    · exact h1
    · exact h1.bump.lastCmdError.ite h1
  have h3 : c₀.Kept c3 := h2.foldl fun _ _ h => h.freeSlots
  have h4 : c₀.Kept c4 := h3.onObj
  exact h4.startWaiting

theorem Chip.Kept.evictRange {first n} : c₀.Kept (c.evictRange first n) := hc.foldl fun _ _ h => h.freeFrame

theorem Chip.Kept.cmdCheck {r} : c₀.Kept (c.cmdCheck r) := by
  unfold Chip.cmdCheck
  extract_lets mine
  refine hc.ite ?_
  split
  · exact hc.ite hc.finish
  · exact hc.ite hc.finish
  · exact hc.ite hc.finish
  · exact hc.runPromote.ite hc.runPromote.finish
  · exact hc.ite hc.evictRange.finish
  · refine hc.ite ?_
    split
    · exact hc
    · exact hc.putObj.finish
  · exact hc

/-! ### The operations of CommandRows -/

theorem Chip.Kept.dropFwdCmd {cmd} : c₀.Kept (c.dropFwdCmd cmd) := hc.onTwin
theorem Chip.Kept.cueReadOne {h} : c₀.Kept (c.cueReadOne h) := (hc.onHead fun _ => by rfl).addCmd.ite ((hc.onHead fun _ => by rfl).onHead fun _ => by rfl).cueResult.bump.lastCmdError

theorem Chip.Kept.cueRead {h n} : c₀.Kept (c.cueRead h n) := by
  induction n generalizing c with
  | zero => exact hc
  | succ n ih => exact hc.ite (ih hc.cueReadOne)

theorem Chip.Kept.cueTail {h tail} : c₀.Kept (c.cueTail h tail) := (hc.onHead fun _ => by rfl).ite (hc.onHead fun _ => by rfl).cueRead.startWaiting
theorem Chip.Kept.cueReset {h} : c₀.Kept (c.cueReset h) := hc.onHead fun _ => by rfl

theorem Chip.Kept.bringInHold {seg} : c₀.Kept (c.bringInHold seg).2 := by
  unfold Chip.bringInHold
  split
  · next f d h =>
    have hd : c₀.Kept d := hc.bringIn.snd h
    split
    · exact hd
    · dsimp only
      exact hd.onFrame
  · next d h => exact hc.bringIn.snd h

theorem Chip.Kept.objCmd {a e} : c₀.Kept (c.objCmd a e).2 := by
  unfold Chip.objCmd
  split
  · exact hc
  · split
    · next _ _ heq =>
        extract_lets c1 scrub
        have h1 : c₀.Kept c1 := (hc.addCmd.snd heq).onObj
        exact h1.finish.ite h1.run

/-! ### The operations of Dolly -/

theorem Chip.Kept.journalPut {o} : c₀.Kept (c.journalPut o) := hc.onDolly.writeRecord

theorem Chip.Kept.journalDel {gran} : c₀.Kept (c.journalDel gran) := by
  unfold Chip.journalDel
  split
  · exact hc
  · exact hc.onDolly.writeRecord

theorem Chip.Kept.openMove {o} : c₀.Kept (c.openMove o) := hc.onDolly.journalPut.descInval
theorem Chip.Kept.closeMove {o} : c₀.Kept (c.closeMove o) := hc.onDolly.journalDel.descInval

theorem Chip.Kept.stopCmd {cmd status} : c₀.Kept (c.stopCmd cmd status) := by
  unfold Chip.stopCmd
  split
  · exact hc
  · exact hc.onDolly.finish

theorem Chip.Kept.fixSgroup {id} : c₀.Kept (c.fixSgroup id) := by
  unfold Chip.fixSgroup
  split
  · exact hc
  · exact hc.ite hc.putObj

theorem Chip.Kept.releaseSlot {p} : c₀.Kept (c.releaseSlot p) := hc.zeroSlot

theorem Chip.Kept.evacCheck : c₀.Kept c.evacCheck := by
  unfold Chip.evacCheck
  split
  · exact hc
  · exact hc.ite (hc.onDolly.onGroup.ite (hc.onDolly.onGroup.setGroup.ite hc))

theorem Chip.Kept.unstale {gran} : c₀.Kept (c.unstale gran) := hc.onMed

theorem Chip.Kept.rollback {o} : c₀.Kept (c.rollback o) := by
  unfold Chip.rollback
  extract_lets back c1 c2
  have h2 : c₀.Kept c2 := by
    unfold c2
    split
    · exact (hc.onMed.tableChanged.ite hc).releaseSlot
    · exact hc.ite (hc.foldl fun _ _ h => h.becomeLocal)
  exact h2.closeMove.bump

theorem Chip.Kept.autoFailback : c₀.Kept c.autoFailback := hc.ite hc.onTwin.sendTwin
theorem Chip.Kept.rekeyDone {o} : c₀.Kept (c.rekeyDone o) := hc.sendTwin.ite hc
theorem Chip.Kept.commitSlot {o d} : c₀.Kept (c.commitSlot o d) := hc.mapWrite.onMed.tableChanged.onGran
theorem Chip.Kept.unholdSeg {seg} : c₀.Kept (c.unholdSeg seg) := hc.onObj

theorem Chip.Kept.pinSwitch {p} : c₀.Kept (c.pinSwitch p) := by
  unfold Chip.pinSwitch
  extract_lets seg f c1 old det dirty m was c2 absent valid pend shadow c3 c4 c5 c6
  have h1 : c₀.Kept c1 := by
    unfold c1
    split
    · exact hc.partShadow
    · exact hc
  have h2 : c₀.Kept c2 := by
    refine h1.foldl fun d n hd => hd.ite ?_
    split
    · exact hd.setSector
    · exact hd.ite hd.setSector
  have h3 : c₀.Kept c3 := by
    unfold c3
    cases old with
    | some g => exact h2.freeFrame
    | none => exact h2.foldl fun _ _ h => h.freeFrame
  have h6 : c₀.Kept c6 := (h3.setFrame.onCache fun _ => by rfl).unholdSeg
  cases shadow with
  | some g => exact h6.onFrame
  | none => exact h6

theorem Chip.Kept.unpinSwitch {p} : c₀.Kept (c.unpinSwitch p) := by
  unfold Chip.unpinSwitch
  extract_lets f
  split
  · next _ _ heq =>
      exact (hc.allocate.snd heq).partShadow.moveFrame.onFrame
  · next _ heq1 =>
      extract_lets c1 fr
      have h1 : c₀.Kept c1 := (hc.allocate.snd heq1).onCache fun _ => by rfl
      split
      · exact h1.freeFrame
      · split
        · exact h1
        · extract_lets c2
          have h2 : c₀.Kept c2 := h1.choose.moveFrame.onFrame
          split
          · exact h2.onFrame
          · exact h2

theorem Chip.Kept.placeHanded {seg dirty poison l} : c₀.Kept (c.placeHanded seg dirty poison l) := by
  unfold Chip.placeHanded
  extract_lets v line c1
  have h1 : c₀.Kept c1 := hc.addPoison.ite hc
  split
  · exact h1.getD fun hd => h1.placeLine hd
  · split
    · exact h1.copySector
    · exact h1

theorem Chip.Kept.serveParked {seg} : c₀.Kept (c.serveParked seg) := hc.onDolly.foldl fun _ _ h => h.lateRequest

theorem Chip.Kept.openTarget {gran obj group key swap pins} : c₀.Kept (c.openTarget gran obj group key swap pins) := by
  unfold Chip.openTarget
  extract_lets slot c1 c2
  have h1 : c₀.Kept c1 := by
    unfold c1
    cases slot with
    | some d => exact hc.cleanSlot
    | none => exact hc
  have h2 : c₀.Kept c2 := by
    refine h1.foldl fun d n hd => ?_
    split
    · exact hd.setFrame
    · exact hd
  exact hc.ite h2.openMove

theorem Chip.Kept.closeTarget {gran commit} : c₀.Kept (c.closeTarget gran commit) := by
  unfold Chip.closeTarget
  split
  · exact hc
  · split
    · extract_lets c1
      have h1 : c₀.Kept c1 := by
        unfold c1
        split
        · exact hc.commitSlot.onMed.sendTwin
        · exact hc
      exact h1.setRoute.closeMove
    · exact hc.rollback

theorem Chip.Kept.takeCopy {seg lines bitmap poison} : c₀.Kept (c.takeCopy seg lines bitmap poison) := by
  unfold Chip.takeCopy
  extract_lets slot
  cases slot with
  | none => exact hc
  | some d => exact (hc.setMap.ite hc.setMap.newOp).mapWrite

theorem Chip.Kept.evacCmd {v} : c₀.Kept (c.evacCmd v).2 := by
  unfold Chip.evacCmd
  extract_lets src mask flags groups own other occupied free okGroup
  split
  · split
    · exact hc
    · exact hc.onDolly.evacCheck
  · split
    · exact hc
    · split
      · dsimp only
        exact hc.onDolly
      · exact hc.onDolly.onGroup.evacCheck

/-! ### The operations of HeadsBase -/

theorem Chip.Kept.offerOne {h r} : c₀.Kept (c.offerOne h r) := (hc.onHead fun _ => by rfl).recordAt.ite hc
theorem Chip.Kept.offerExtents {h} : c₀.Kept (c.offerExtents h) := (hc.foldl fun _ _ h => h.offerOne).ite hc
theorem Chip.Kept.offerAll : c₀.Kept c.offerAll := hc.foldl fun _ _ h => h.offerExtents
theorem Chip.Kept.regionsWritten {h} : c₀.Kept (c.regionsWritten h) := ((hc.onHead fun _ => by rfl).foldl fun _ _ h => h.recordAt).offerExtents
theorem Chip.Kept.setCdatPair {v} : c₀.Kept (c.setCdatPair v) := hc.ite hc.onBoot

theorem Chip.Kept.useDesc {obj} : c₀.Kept (c.useDesc obj) := by
  unfold Chip.useDesc
  split
  · exact (hc.onCache fun _ => by rfl).bump
  · exact (hc.onCache fun _ => by split <;> rfl).bump

theorem Chip.Kept.serveHome {r ev} : c₀.Kept (c.serveHome r ev) := by
  unfold Chip.serveHome
  split
  · exact hc.onHbm
  · extract_lets c1 c2
    have h1 : c₀.Kept c1 := hc.buildFor
    have h2 : c₀.Kept c2 := by
      unfold c2
      split
      · exact h1.hbmMeets
      · exact h1.tagMeets.sramMeets
    exact h2.homeWrite.ite h2.homeRead

theorem Chip.Kept.routeHome {r o ev} : c₀.Kept (c.routeHome r o ev) := by
  unfold Chip.routeHome
  extract_lets seg
  refine hc.onTwin.ite (hc.denyRequest.ite (hc.serveHome.ite (hc.onDolly.ite ?_)))
  split
  · exact hc.takeTag.onTwin.sendTwin.ite hc.hold
  · exact hc.denyRequest
  · exact hc.denyRequest

theorem Chip.Kept.routeObj {r o ev} : c₀.Kept (c.routeObj r o ev) := hc.denyRequest.ite hc.routeHome

theorem Chip.Kept.route {r ev} : c₀.Kept (c.route r ev) := by
  unfold Chip.route
  split
  · exact hc.denyRequest
  · exact hc.useDesc.routeObj

theorem Chip.Kept.routeAll {rs} : c₀.Kept (c.routeAll rs) := hc.foldl fun _ _ h => h.route

theorem Chip.Kept.enter {h r ev} : c₀.Kept (c.enter h r ev) := by
  unfold Chip.enter
  split
  · exact (hc.onHbm.ite hc.hbmMeets.scratchAccess).ite hc.denyRequest
  · split
    · exact hc.denyRequest
    · split
      · exact hc.useDesc.routeObj.ite hc.useDesc.denyRequest
      · exact hc.denyRequest

theorem Chip.Kept.drainHolds : c₀.Kept c.drainHolds := hc.onTwin.routeAll
theorem Chip.Kept.refillHold : c₀.Kept c.refillHold := hc.onTwin
theorem Chip.Kept.markLine {line src} : c₀.Kept (c.markLine line src) := hc.addPoison.serveHome
theorem Chip.Kept.loseLine {line src} : c₀.Kept (c.loseLine line src) := (hc.foldl fun _ _ h => h.setSector).addPoison

/-! ### The operations of Pairing -/

theorem Chip.Kept.sendHello : c₀.Kept c.sendHello := hc.ite hc.sendTwin.onTwin

theorem Chip.Kept.refused {cause} : c₀.Kept (c.refused cause) := by
  unfold Chip.refused
  extract_lets c1 c2
  have h1 : c₀.Kept c1 := hc.onTwin
  have h2 : c₀.Kept c2 := by
    unfold c2
    split
    · exact h1.ite h1.setPair
    · exact h1
  exact h2.vendorRecord

theorem Chip.Kept.refuse {cause} : c₀.Kept (c.refuse cause) := hc.sendTwin.refused

theorem Chip.Kept.sendTables {keys} : c₀.Kept (c.sendTables keys) := by
  unfold Chip.sendTables
  extract_lets mine c1 c2 c3 c4 c5 c6
  have h1 : c₀.Kept c1 := hc.sendTwin.ite hc
  have h2 : c₀.Kept c2 := h1.foldl fun _ _ h => h.sendTwin
  have h3 : c₀.Kept c3 := h2.foldl fun _ _ h => h.sendTwin
  have h4 : c₀.Kept c4 := h3.foldl fun _ _ h => h.sendTwin
  have h5 : c₀.Kept c5 := h4.foldl fun _ _ h => h.sendTwin
  have h6 : c₀.Kept c6 := h5.foldl fun _ _ h => h.shadowNote
  exact h6.foldl fun _ _ h => h.sendTwin

theorem Chip.Kept.setEpoch {e} : c₀.Kept (c.setEpoch e) := hc.onTwin.pairRecord
theorem Chip.Kept.rollbackJournal : c₀.Kept c.rollbackJournal := hc.foldl fun _ _ h => (h.ite h.releaseSlot).closeMove.ite h.rollback
theorem Chip.Kept.endPairStage : c₀.Kept c.endPairStage := hc.ite (hc.onBoot.ite (hc.onBoot.foldl fun _ _ h => (h.onHead fun _ => by rfl).ite h))
theorem Chip.Kept.raiseHeads : c₀.Kept c.raiseHeads := hc.foldl fun _ _ h => (h.onHead fun _ => by rfl).ite h
theorem Chip.Kept.restoreObjs : c₀.Kept c.restoreObjs := hc.onObj

theorem Chip.Kept.resync : c₀.Kept c.resync := by
  unfold Chip.resync
  extract_lets mine c1
  have h1 : c₀.Kept c1 := hc.onTwin
  refine h1.foldl fun _ _ h => ?_
  split
  · exact h.enqueue.ite h
  · exact h

theorem Chip.Kept.startRehearsal {holdOk replicaOk} : c₀.Kept (c.startRehearsal holdOk replicaOk) := by
  unfold Chip.startRehearsal
  exact hc.sendWitness.onWit

theorem Chip.Kept.dueRehearsal : c₀.Kept c.dueRehearsal := hc.startRehearsal.ite hc
theorem Chip.Kept.rewriteRoutes : c₀.Kept c.rewriteRoutes := (hc.foldl fun _ _ h => h.setRoute).onTwin
theorem Chip.Kept.freeGranule {g} : c₀.Kept (c.freeGranule g) := hc.foldl fun _ _ h => h.freeFrame
theorem Chip.Kept.holdGiven : c₀.Kept c.holdGiven := hc.foldl fun _ _ h => h.foldl fun _ _ h => h.ite h.becomeHeld

theorem Chip.Kept.formed {pos serial epoch} : c₀.Kept (c.formed pos serial epoch) := by
  unfold Chip.formed
  extract_lets rejoin source c1 c2 c3 c4 c5 c6 c7 c8 c9 c10 c11
  have h1 : c₀.Kept c1 := hc.rewriteRoutes.ite hc
  have h2 : c₀.Kept c2 := h1.foldl fun _ _ h => h.freeGranule
  have h3 : c₀.Kept c3 := h2.holdGiven.ite h2
  have h4 : c₀.Kept c4 := h3.onTwin
  have h5 : c₀.Kept c5 := h4.onWit
  have h6 : c₀.Kept c6 := h5.setEpoch
  have h7 : c₀.Kept c7 := h6.restoreObjs.setPair.vendorRecord.setCdatPair
  have h8 : c₀.Kept c8 := h7.onDolly
  have h9 : c₀.Kept c9 := h8.setWrap.ite h8
  have h10 : c₀.Kept c10 := h9.raiseHeads.endPairStage.offerAll
  have h11 : c₀.Kept c11 := h10.sendTables.resync.dueRehearsal.startWaiting
  exact (h11.autoFailback.ite h11).drainHolds

theorem Chip.Kept.replaceTwin {h} : c₀.Kept (c.replaceTwin h) :=
  hc.ite ((hc.foldl fun _ _ h => h.onObj).foldl fun _ _ h => h.foldl fun _ _ h => h.markStale)

theorem Chip.Kept.sendStale : c₀.Kept c.sendStale := (hc.foldl fun _ _ h => h.markStale).sendTwin

theorem Chip.Kept.tryRejoin : c₀.Kept c.tryRejoin := by
  unfold Chip.tryRejoin
  split
  · exact hc
  · split
    · exact hc
    · split
      · split
        · exact hc.formed
        · exact hc.formed
        · exact hc.formed
        · exact hc.formed
        · exact hc
      · exact hc.sendTwin.formed.ite hc

theorem Chip.Kept.forgetMirrored : c₀.Kept c.forgetMirrored := hc.onObj
theorem Chip.Kept.dropOrphans : c₀.Kept c.dropOrphans := hc.foldl fun _ _ h => h.freeSlotOf

theorem Chip.Kept.tryForm : c₀.Kept c.tryForm := by
  unfold Chip.tryForm
  split
  · exact hc
  · next h _ =>
    extract_lets fresh returning cause
    have hfresh : c₀.Kept (fresh c) := by
      refine hc.ite (hc.replaceTwin.sendTwin.formed.ite ?_)
      split
      · exact hc.formed
      · exact hc
    have hreturning : c₀.Kept (returning c) :=
      hc.closeReels.setPair.forgetMirrored.ite hc.closeReels.setPair.forgetMirrored.sendWitness
    have htables : c₀.Kept (c.sendTables true).sendStale := hc.sendTables.sendStale
    refine hc.ite ?_
    split
    · exact hc
    · exact hc
    · refine hc.refuse.ite ?_
      split
      · exact (hreturning.ite htables).ite hfresh
      · exact (hreturning.ite htables).ite hfresh
      · exact htables.ite hfresh
      · exact hfresh.ite (hreturning.ite htables)
      · exact hreturning.ite hc
      · exact hc

theorem Chip.Kept.greet : c₀.Kept c.greet := hc.sendHello.tryForm.ite hc
theorem Chip.Kept.dropLink : c₀.Kept c.dropLink := (hc.onTwin.twinDown.setPair.ite hc.onTwin.twinDown).routeAll
theorem Chip.Kept.lostLink : c₀.Kept c.lostLink := hc.ite (hc.fence.ite (hc.dropLink.sendClaim.ite hc.dropLink))

theorem Chip.Kept.logTakeover {kind cause held} : c₀.Kept (c.logTakeover kind cause held) := by
  unfold Chip.logTakeover
  exact hc.choose.onTwin

theorem Chip.Kept.takeObjs : c₀.Kept c.takeObjs := hc.foldl fun _ _ h => h.adoptObj.activateShadow.ite h.onObj

theorem Chip.Kept.localise : c₀.Kept c.localise := by
  unfold Chip.localise
  refine hc.foldl fun _ _ h => ?_
  split
  · exact h.becomeLocal.ite h
  · exact h

theorem Chip.Kept.staleAway : c₀.Kept c.staleAway := (hc.foldl fun _ _ h => h.markStale).ite hc
theorem Chip.Kept.movesOnLoss : c₀.Kept c.movesOnLoss := hc.foldl fun _ _ h => h.rollback.stopCmd

theorem Chip.Kept.markOnce : c₀.Kept c.markOnce := by
  unfold Chip.markOnce
  refine hc.onCacheStores fun hf hl => ⟨SMap.sorted_map _ _ (fun p => ?_) hf, hl⟩
  dsimp only
  split <;> rfl

theorem Chip.Kept.settleMirror : c₀.Kept c.settleMirror := hc.onTwin.foldl fun _ _ h => h.homeWrite

theorem Chip.Kept.peerLost : c₀.Kept c.peerLost := by
  unfold Chip.peerLost
  refine hc.foldl fun _ _ h => ?_
  split
  · exact h.onObj
  · exact h.staleRange.onObj.ite h.staleRange

theorem Chip.Kept.takeover {epoch} : c₀.Kept (c.takeover epoch) := by
  unfold Chip.takeover
  extract_lets held cause c1 c2 c3 c4 c5 c6 c7 crossed c8 c9
  have h1 : c₀.Kept c1 := hc.twinDown.setEpoch
  have h2 : c₀.Kept c2 := h1.staleAway.takeObjs.localise
  have h3 : c₀.Kept c3 := h2.onTwin.onCache fun _ => by rfl
  have h4 : c₀.Kept c4 := h3.movesOnLoss.markOnce.peerLost
  have h5 : c₀.Kept c5 := h4.onWit.setPair.bump
  have h6 : c₀.Kept c6 := h5.vendorRecord.logTakeover
  have h7 : c₀.Kept c7 := h6.settleMirror.drainHolds
  have h8 : c₀.Kept c8 := h7.onTwin.foldl fun _ _ h => h.finish
  have h9 : c₀.Kept c9 := h8.rollbackJournal.endPairStage.ite h8
  exact h9.startWaiting.settle

theorem Chip.Kept.poisonNote {l} : c₀.Kept (c.poisonNote l) := hc.useSeq.onWit.emit

theorem Chip.Kept.poisonNotes {l n} : c₀.Kept (c.poisonNotes l n) := by
  induction n generalizing c l with
  | zero => exact hc
  | succ n ih => exact hc.ite (ih hc.poisonNote)

theorem Chip.Kept.split : c₀.Kept c.split := by
  unfold Chip.split
  extract_lets cause c1 held c2 c3 c4 c5 ws c6 c7
  have h1 : c₀.Kept c1 := hc.dropLink
  have h2 : c₀.Kept c2 := h1.onTwin
  have h3 : c₀.Kept c3 := h2.onWit.setPair.vendorRecord
  have h4 : c₀.Kept c4 := h3.logTakeover.settleMirror.peerLost
  have h5 : c₀.Kept c5 := h4.foldl fun _ _ h => h.completeRead
  have h6 : c₀.Kept c6 := h5.poisonNotes
  have h7 : c₀.Kept c7 := h6.rollbackJournal.endPairStage.ite h6
  exact h7.startWaiting.settle

/-! ### The operations of Erase -/

theorem Chip.Kept.eraseStart {t} : c₀.Kept (c.eraseStart t) := hc.onSec
theorem Chip.Kept.eraseEnd {t} : c₀.Kept (c.eraseEnd t) := hc.onMed.onSec

theorem Chip.Kept.eraseAllKeys : c₀.Kept c.eraseAllKeys := by
  unfold Chip.eraseAllKeys
  exact hc.drawKey.onSec

theorem Chip.Kept.cancelAll : c₀.Kept c.cancelAll := hc.foldl fun _ _ h => h.finish

theorem Chip.Kept.eraseContents : c₀.Kept c.eraseContents := by
  unfold Chip.eraseContents
  extract_lets c1 homes waiting acks c2 c3 c4 c5 c6 c7 c8 c9 c10 c11
  have h1 : c₀.Kept c1 := hc.closeReels.cancelAll
  have h4 : c₀.Kept c4 := h1.onObj.onDolly.foldl fun _ _ h => h.onGroup
  have h5 : c₀.Kept c5 := h4.onTwin
  have h6 : c₀.Kept c6 := by
    unfold c6
    clear_value c5
    exact h5.onCacheStores fun hf _ => ⟨SMap.sorted_filter _ _ hf, rfl⟩
  have h7 : c₀.Kept c7 := h6.foldl fun _ _ h => h.unbuild
  have h8 : c₀.Kept c8 := h7.onInteg.persistPoison
  have h9 : c₀.Kept c9 := h8.foldl fun _ _ h => h.cleanSlot
  have h10 : c₀.Kept c10 := h9.onMed.tableChanged
  have h11 : c₀.Kept c11 := h10.foldl fun _ _ h => h.ackWrite
  exact h11.routeAll.settle

theorem Chip.Kept.secureErase : c₀.Kept c.secureErase := hc.eraseContents.eraseAllKeys

theorem Chip.Kept.sanitize : c₀.Kept c.sanitize := by
  unfold Chip.sanitize
  exact ((hc.secureErase.foldl fun _ _ h => h.discardGroup).foldl fun _ _ h => h.startInit).onSec

/-! ### The operations of TwinRows -/

theorem Chip.Kept.serveForward {r tag ev} : c₀.Kept (c.serveForward r tag ev) := by
  unfold Chip.serveForward
  extract_lets c1 c2
  have h1 : c₀.Kept c1 := hc.onTwin
  have h2 : c₀.Kept c2 := by
    unfold c2
    split
    · exact h1.denyRequest
    · exact h1.useDesc.serveHome
  exact h2.settle.settleTwin

theorem Chip.Kept.takeFwd {tag} {p} (h : c.takeFwd tag = some p) : c₀.Kept p.2 := by
  obtain ⟨f, -, rfl⟩ := Option.map_eq_some_iff.1 h
  dsimp only
  exact hc.onTwin

theorem Chip.Kept.mirrorArrives {m} : c₀.Kept (c.mirrorArrives m) := hc.onHbm.ite hc.buildFor.mirrorIn.evalPanic
theorem Chip.Kept.refill {seg lines poison} : c₀.Kept (c.refill seg lines poison) := hc.foldl fun _ _ h => h.foldl fun _ _ h => h.setSector.ite h
theorem Chip.Kept.sendHeartbeat : c₀.Kept c.sendHeartbeat := hc.sendTwin

/-! ### The operations of TableRows -/

theorem Chip.Kept.rekeyHere {id o new} : c₀.Kept (c.rekeyHere id o new) := hc.onDolly.ite (hc.enqueue.ite hc.enqueue.sendTwin)

theorem Chip.Kept.takeObject {id o} : c₀.Kept (c.takeObject id o) := by
  unfold Chip.takeObject
  extract_lets old released c1 c2 c3 first c4 c5
  have h1 : c₀.Kept c1 := by
    unfold c1
    cases released with
    | some p => exact hc.scrubBacklog
    | none => exact hc
  have h3 : c₀.Kept c3 := h1.onObj.tableChanged.onCache fun _ => by rfl
  have h4 : c₀.Kept c4 := by
    unfold c4
    cases old with
    | none => exact h3
    | some p =>
      dsimp -zeta only
      extract_lets n c6 c7
      have h7 : c₀.Kept c7 := h3.dropMoves.scrubBacklog.zeroSegs.freeSlots.settle.ite h3
      exact Chip.Kept.ite (Chip.Kept.settle (h7.foldl fun _ _ h => h.discardSegs.freeSlotOf)) h7
  have h5 : c₀.Kept c5 := h4.takeSlots.ite h4
  exact h3.closeReels.dropMoves.zeroSegs.settle.ite h5.rekeyHere

theorem Chip.Kept.freeObject {id} : c₀.Kept (c.freeObject id) := by
  unfold Chip.freeObject
  split
  · exact hc
  · exact hc.zeroSegs.freeSlots.onObj.tableChanged

theorem Chip.Kept.restoreMove {gran segs} : c₀.Kept (c.restoreMove gran segs) := by
  unfold Chip.restoreMove
  split
  · exact hc
  · exact hc.onDolly

theorem Chip.Kept.tableUpd {u} : c₀.Kept (c.tableUpd u) := by
  unfold Chip.tableUpd
  split
  · exact hc.takeObject
  · exact hc.freeObject
  · exact hc.onMed
  · exact hc.onMed
  · exact hc.setRoute
  · exact hc.onSec.ite hc.setTag.startWaiting
  · exact hc.onSec.startWaiting
  · exact hc.eraseStart
  · exact hc.giveKey
  · exact (hc.sanitize.ite hc.secureErase).ite ((hc.sanitize.ite hc.secureErase).sendTwin)
  · exact hc.peerErased.ite hc
  · exact hc.openTarget
  · exact hc.closeTarget
  · exact hc.ite (hc.onTwin.ite hc.adoptObj)
  · exact hc.restoreMove
  · exact hc.scrubBacklog.zeroSegs.settle
  · exact hc.onMed
  · exact (hc.bringInHold.onObj.sendTwin.ite hc.bringInHold).ite (hc.dropHolds.onObj.ite hc)
  · extract_lets takes
    split
    · exact hc.sendTwin
    · exact hc.onReel
  · exact hc.onObj
  · exact hc.onTwin

theorem Chip.Kept.setStamp {value} : c₀.Kept (c.setStamp value) := hc.onClk.ite hc.onClk.onMed.minuteRecord

theorem Chip.Kept.handoverCmd : c₀.Kept c.handoverCmd.2 := by
  unfold Chip.handoverCmd
  split
  · exact hc.onTwin.sendTwin
  · dsimp only
    exact hc.onTwin

theorem Chip.Kept.installObj {id} : c₀.Kept (c.installObj id) := by
  unfold Chip.installObj
  split
  · exact hc
  · exact (hc.adoptObj.activateShadow.foldl fun _ _ h => h.becomeLocal).foldl fun _ _ h => h.setRoute

theorem Chip.Kept.auditReads {g} : c₀.Kept (c.auditReads g) := hc.foldl fun _ _ h => h.gmi

/-! ### The operations of WitnessRows -/

theorem Chip.Kept.sendRenew {relay} : c₀.Kept (c.sendRenew relay) := by
  unfold Chip.sendRenew
  exact hc.sendWitness.onWit

theorem Chip.Kept.renewAck {f renew relayed} : c₀.Kept (c.renewAck f renew relayed) := by
  unfold Chip.renewAck
  split
  · exact hc.onWit.greet
  · split
    · exact hc
    · exact hc.ite (hc.onWit.setLease.tryRejoin.sendClaim.ite hc.onWit.setLease.tryRejoin)

theorem Chip.Kept.endRehearsal {verdict} : c₀.Kept (c.endRehearsal verdict) := hc.choose.onWit.ite hc.choose.onWit.vendorRecord
theorem Chip.Kept.unnote {seq} : c₀.Kept (c.unnote seq) := hc.onWit
theorem Chip.Kept.expireHeld {r} : c₀.Kept (c.expireHeld r) := (hc.bump.loseLine.ite hc.bump).denyRequest
theorem Chip.Kept.pairReplace {v} : c₀.Kept (c.pairReplace v) := hc.onTwin.tryForm
theorem Chip.Kept.wantRehearsal {holdOk replicaOk} : c₀.Kept (c.wantRehearsal holdOk replicaOk) := hc.ite (hc.onWit.ite hc.startRehearsal)

/-! ### The operations of HeadRows -/

theorem Chip.Kept.ideFail {h} : c₀.Kept (c.ideFail h) := (hc.headEvent.bump.onHead fun _ => by rfl).headDown

theorem Chip.Kept.takeRequest {h hpa r ev} : c₀.Kept (c.takeRequest h hpa r ev) := by
  unfold Chip.takeRequest
  split
  · exact hc.denyRequest
  · exact hc.enter

theorem Chip.Kept.admitOutside {n} : c₀.Kept (c.admitOutside n) := by
  induction n generalizing c with
  | zero => exact hc
  | succ n ih =>
    unfold Chip.admitOutside
    split
    · exact hc
    · exact ih (hc.onCache fun _ => by rfl).takeRequest

theorem Chip.Kept.hostRequest {h hpa ideOk r ev} : c₀.Kept (c.hostRequest h hpa ideOk r ev) := hc.ite (hc.ideFail.ite ((hc.onCache fun _ => by rfl).ite hc.takeRequest))
theorem Chip.Kept.gpf {phase} : c₀.Kept (c.gpf phase) := hc.foldl fun _ _ h => h.emit

/-! ### The operations of LedgerRows -/

theorem Chip.Kept.wrapAbandons : c₀.Kept c.wrapAbandons := (hc.onLedger fun _ => by rfl).ite hc
theorem Chip.Kept.startRefresh {page} : c₀.Kept (c.startRefresh page) := hc.onLedger fun _ => by rfl

theorem Chip.Kept.refreshCmd : c₀.Kept c.refreshCmd.2 := by
  unfold Chip.refreshCmd
  split
  · exact hc
  · exact hc.startRefresh

theorem Chip.Kept.rawWrite {level addr bytes} : c₀.Kept (c.rawWrite level addr bytes).2 := by
  unfold Chip.rawWrite
  extract_lets page room rest c1
  have h1 : c₀.Kept c1 := hc.onLedgerCells fun h => Memory.wf_write _ _ _ h
  split
  · exact hc
  · split
    · exact hc
    · exact h1.pageDone

theorem Chip.Kept.userPassword {area v} : c₀.Kept (c.userPassword area v).2 := by
  unfold Chip.userPassword
  split
  · exact hc
  · split
    · dsimp only
      exact hc.onLedger fun _ => by rfl
    · exact hc

theorem Chip.Kept.userUnlock {v} : c₀.Kept (c.userUnlock v).2 := by
  unfold Chip.userUnlock
  extract_lets area pw
  split
  · split
    · exact hc
    · split
      · exact hc
      · split
        · exact (hc.onLedger fun _ => by rfl).setVol
        · exact hc.bump
  · exact hc

theorem Chip.Kept.userLock {area} : c₀.Kept (c.userLock area).2 := by
  unfold Chip.userLock
  split
  · dsimp only
    exact hc.onLedger fun _ => by rfl
  · exact hc

theorem Chip.Kept.counterInc {n} : c₀.Kept (c.counterInc n).2 := by
  unfold Chip.counterInc
  extract_lets v w
  split
  · exact hc
  · split
    · exact hc
    · split
      · exact hc
      · exact hc.pageNow

/-! ### The operations of Store -/

theorem Chip.Kept.onImage {slot f} : c₀.Kept (c.onImage slot f) := hc.onBoot
theorem Chip.Kept.writeStore {upper body} : c₀.Kept (c.writeStore upper body) := (hc.foldl fun _ _ h => h.pageNow).onBoot.bump
theorem Chip.Kept.storeAll {vals} : c₀.Kept (c.storeAll vals) := hc.writeStore.onRing fun _ => by rfl
theorem Chip.Kept.persist {index sub value} : c₀.Kept (c.persist index sub value) := hc.ite hc.storeAll
theorem Chip.Kept.setBoot {r} : c₀.Kept (c.setBoot r) := hc.ite ((hc.onBoot.ite hc.onBoot.pageNow).sendTwin.ite (hc.onBoot.ite hc.onBoot.pageNow))

/-! ### The operations of Reset -/

theorem Chip.Kept.ledgerReset : c₀.Kept c.ledgerReset := by
  unfold Chip.ledgerReset
  extract_lets c1
  have h1 : c₀.Kept c1 := by
    unfold c1
    split
    · exact hc.pageDone
    · exact hc
  exact h1.onLedger fun _ => by rfl

theorem Chip.Kept.mainReset : c₀.Kept c.mainReset := by
  unfold Chip.mainReset
  extract_lets c1 c2 pair
  have h2 : c₀.Kept c2 := hc.ledgerReset.foldl fun _ _ h => h.emit.ite h
  refine ⟨h2.id, fun hs => ?_⟩
  obtain ⟨hcells, -⟩ := h2.stores hs
  refine ⟨hcells, fun h => ?_, rfl, rfl, rfl⟩
  have he : (c2.heads.map fun (d : Head) => ({ perst := d.perst } : Head)).get h = { perst := (c2.head h).perst } := Vector.getElem_map ..
  exact congrArg (fun d : Head => Memory.wf d.cue.entries) he

theorem Chip.Kept.leaveReset : c₀.Kept c.leaveReset := (hc.onBoot.onRes.onCache fun _ => by rfl).onWrap.onClk.foldl fun _ _ h => (h.onHead fun _ => by rfl).ite h

/-! ### The operations of Power -/

theorem Chip.Kept.onRail {n f} : c₀.Kept (c.onRail n f) := hc.onPwr
theorem Chip.Kept.recordFault {n kind} : c₀.Kept (c.recordFault n kind) := hc.onRail.bump.onPwr.snapshot
theorem Chip.Kept.groupOff {g} : c₀.Kept (c.groupOff g) := hc.foldl fun _ _ h => h.onRail
theorem Chip.Kept.runUp {s} : c₀.Kept (c.runUp s) := hc.onPwr.foldl fun _ _ h => h.onRail
theorem Chip.Kept.beginUp : c₀.Kept c.beginUp := hc.onPwr.onWrap.onBoot.onRes.runUp
theorem Chip.Kept.runDown {s} : c₀.Kept (c.runDown s) := hc.onPwr.foldl fun _ _ h => h.onRail
theorem Chip.Kept.allEnLow : c₀.Kept c.allEnLow := hc.onPwr
theorem Chip.Kept.lockout : c₀.Kept c.lockout := hc.onPwr.snapshot
theorem Chip.Kept.retry : c₀.Kept c.retry := hc.onPwr.snapshot.beginUp.ite hc.lockout
theorem Chip.Kept.endDown : c₀.Kept c.endDown := hc.allEnLow.onPwr.onPwr.ite (hc.allEnLow.onPwr.lockout.ite hc.allEnLow.onPwr.onPwr)

theorem Chip.Kept.powerDown {after} : c₀.Kept (c.powerDown after) := by
  unfold Chip.powerDown
  extract_lets c1 c2
  have h1 : c₀.Kept c1 := hc.mainReset
  have h2 : c₀.Kept c2 := h1.onPwr
  split
  · exact h2.runDown
  · exact h2.endDown

theorem Chip.Kept.triggerWrap {cause} : c₀.Kept (c.triggerWrap cause) := hc.ite (hc.onWrap.powerDown.ite hc.startWrap)

theorem Chip.Kept.systemReset : c₀.Kept c.systemReset := by
  unfold Chip.systemReset
  extract_lets c1
  have h1 : c₀.Kept c1 := hc.onPwr
  split
  · exact h1.triggerWrap
  · exact h1.powerDown
  · exact h1

theorem Chip.Kept.react {n} : c₀.Kept (c.react n) := by
  unfold Chip.react
  split
  · extract_lets r c1 third
    have h1 : c₀.Kept c1 := hc.snapshot
    split
    · exact h1.vendorRecord.onRail
    · exact h1.systemReset.ite h1.onRail
    · exact h1.groupOff
    · exact h1.systemReset
  · extract_lets r c2 third
    have h2 : c₀.Kept c2 := hc.snapshot
    split
    · exact h2.vendorRecord.onRail
    · exact h2.systemReset.ite h2.onRail
    · exact h2.groupOff
    · exact h2.systemReset
  · extract_lets r c3 third
    have h3 : c₀.Kept c3 := hc.snapshot
    split
    · exact h3.vendorRecord.onRail
    · exact h3.systemReset.ite h3.onRail
    · exact h3.groupOff
    · exact h3.systemReset
  · exact hc

theorem Chip.Kept.railFault {n kind} : c₀.Kept (c.railFault n kind) := hc.recordFault.react

theorem Chip.Kept.collapse {n kind} : c₀.Kept (c.collapse n kind) := by
  unfold Chip.collapse
  exact hc.recordFault.allEnLow.mainReset.onPwr

theorem Chip.Kept.takeGood {n} : c₀.Kept (c.takeGood n) := hc.onRail.ite hc
theorem Chip.Kept.judgeDown {n} : c₀.Kept (c.judgeDown n) := (hc.onRail.ite hc.onRail.recordFault.allEnLow.onPwr).ite hc.onRail

theorem Chip.Kept.judge {n} : c₀.Kept (c.judge n) := by
  unfold Chip.judge
  extract_lets r below above far twice low high out warn wout inside win c1
  have h1 : c₀.Kept c1 := hc.onRail
  exact h1.collapse.ite (((h1.onRail.snapshot.vendorRecord.ite (h1.onRail.ite h1)).railFault).ite (h1.onRail.snapshot.vendorRecord.ite (h1.onRail.ite h1)))

theorem Chip.Kept.judgeRamp {n} : c₀.Kept (c.judgeRamp n) := hc.collapse.ite hc.onRail.takeGood

theorem Chip.Kept.railSample {n mv} : c₀.Kept (c.railSample n mv) := by
  unfold Chip.railSample
  extract_lets c1 r
  have h1 : c₀.Kept c1 := hc.onRail
  split
  · exact h1.judgeDown
  · exact h1.judge.ite h1.judgeRamp
  · exact h1.judge.ite h1.judgeRamp
  · exact h1.judge.ite h1.judgeRamp
  · exact h1

/-! ### The operations of Reserve -/

theorem Chip.Kept.publish {b} : c₀.Kept (c.publish b) := (hc.onRes.onCache fun _ => by rfl).settle
theorem Chip.Kept.wrapRecord {cls state cause} : c₀.Kept (c.wrapRecord cls state cause) := hc.onWrap.writeRecord

theorem Chip.Kept.copySnapshot {cls} : c₀.Kept (c.copySnapshot cls) := by
  unfold Chip.copySnapshot
  split
  · exact hc
  · exact hc.onPwr.pageWrite.onLedger fun _ => by rfl

theorem Chip.Kept.copySnapshots {cls} : c₀.Kept (c.copySnapshots cls) := hc.foldl fun _ _ h => h.copySnapshot

theorem Chip.Kept.restChannels {ks} : c₀.Kept (c.restChannels ks) := by
  unfold Chip.restChannels
  exact hc.dropSched.allBankRefresh.onHbm

theorem Chip.Kept.enterSelfRefresh : c₀.Kept c.enterSelfRefresh := hc.restChannels

theorem Chip.Kept.persistWrap : c₀.Kept c.persistWrap := by
  unfold Chip.persistWrap
  extract_lets left c1 c2
  have h1 : c₀.Kept c1 := hc.onWrap
  have h2 : c₀.Kept c2 := h1.enterSelfRefresh.setWrap.snapshot
  exact h2.ite (h2.persistPoison.copySnapshots.wrapRecord.setBoot.ite h2.persistPoison.copySnapshots.wrapRecord)

theorem Chip.Kept.startProbe : c₀.Kept c.startProbe := hc.ite hc.onRes

theorem Chip.Kept.probeCmd : c₀.Kept c.probeCmd.2 := by
  unfold Chip.probeCmd
  split
  · exact hc
  · exact hc.startProbe

/-! ### The operations of PowerRows -/

theorem Chip.Kept.railsUp : c₀.Kept c.railsUp := hc.onPwr.leaveReset.ite hc.onPwr

theorem Chip.Kept.stepDown : c₀.Kept c.stepDown := by
  unfold Chip.stepDown
  split
  · exact hc.runDown
  · exact hc.endDown

theorem Chip.Kept.bankSample {mv} : c₀.Kept (c.bankSample mv) := hc.onPwr.onRes.triggerWrap.ite hc.onPwr.onRes
theorem Chip.Kept.dieSample {t} : c₀.Kept (c.dieSample t) := hc.onPwr.triggerWrap.ite hc.onPwr

theorem Chip.Kept.sqApply {n old v} : c₀.Kept (c.sqApply n old v) := by
  unfold Chip.sqApply
  exact hc.onRail

theorem Chip.Kept.groupOn {g} : c₀.Kept (c.groupOn g) := hc.foldl fun _ _ h => h.onRail

/-! ### The operations of WrapRows -/

theorem Chip.Kept.checkpoint : c₀.Kept c.checkpoint := hc.ite ((hc.onCache fun _ => by rfl).foldl fun _ _ h => h.addOp)

theorem Chip.Kept.emptyScratch : c₀.Kept c.emptyScratch := by
  unfold Chip.emptyScratch
  exact hc.onCacheStores fun hf hl => ⟨SMap.sorted_filter _ _ hf, SMap.sorted_filter _ _ hl⟩

theorem Chip.Kept.wrapCmd {v} : c₀.Kept (c.wrapCmd v).2 := by
  unfold Chip.wrapCmd
  split
  · exact hc
  · dsimp only
    exact hc.startWrap.onWrap

/-! ### The operations of Security -/

theorem Chip.Kept.drawRandom : c₀.Kept c.drawRandom.2 := by
  dsimp only [Chip.drawRandom]
  exact hc.onSec

theorem Chip.Kept.cryptoErase {a t} : c₀.Kept (c.cryptoErase a t).2 := by
  unfold Chip.cryptoErase
  split
  · exact hc
  · split
    · exact hc.ite hc.onSec
    · extract_lets c1
      have h1 : c₀.Kept c1 := hc.eraseStart.onSec
      exact h1.sendTwin.ite h1

theorem Chip.Kept.ideStop {h} : c₀.Kept (c.ideStop h) := hc.bump.ideFail.ite hc
theorem Chip.Kept.twinStop : c₀.Kept c.twinStop := hc.bump.lostLink.ite hc
theorem Chip.Kept.spdm {h msg f} : c₀.Kept (c.spdm h msg f) := hc.emit.emit
theorem Chip.Kept.ideKm {h f} (hf : ∀ d, c₀.Kept d → c₀.Kept (f d)) : c₀.Kept (c.ideKm h f) := hc.ite (hf _ hc)
theorem Chip.Kept.onIde {h tx f} : c₀.Kept (c.onIde h tx f) :=
  hc.onHead fun _ => by split <;> rfl

theorem Chip.Kept.spdmIn {h need f} (hf : ∀ d, c₀.Kept d → c₀.Kept (f d)) : c₀.Kept (c.spdmIn h need f) := hc.ite (hc.spdm.ite (hf _ hc))
theorem Chip.Kept.sign : c₀.Kept c.sign.2 := hc.drawRandom
theorem Chip.Kept.onSession {h id f} : c₀.Kept (c.onSession h id f) := hc.onHead fun _ => by rfl
theorem Chip.Kept.endSession {h id} : c₀.Kept (c.endSession h id) := hc.onHead fun _ => by rfl
theorem Chip.Kept.twinRekeyed : c₀.Kept c.twinRekeyed := hc.onSec.bump

theorem Chip.Kept.sealRun : c₀.Kept c.sealRun := by
  unfold Chip.sealRun
  split
  · exact hc
  · split
    · exact hc
    · extract_lets c1 uses
      have h1 : c₀.Kept c1 := hc.onSec
      split
      · exact h1.emit.choose
      · split
        · exact h1.emit.ite (h1.emit.choose.ite h1.drawRandom.onSec.emit)
        · exact h1.emit
        · exact h1.emit
        · exact h1.emit

theorem Chip.Kept.sealParity : c₀.Kept c.sealParity := by
  unfold Chip.sealParity
  extract_lets c1
  have h1 : c₀.Kept c1 := by
    unfold c1
    split
    · exact hc.onSec.emit
    · exact hc
  exact h1.bump.vendorRecord

theorem Chip.Kept.sealAlarm {e} : c₀.Kept (c.sealAlarm e) := (hc.foldl fun _ _ h => h.emit).onSec.vendorRecord.bump
theorem Chip.Kept.wrongPass {master} : c₀.Kept (c.wrongPass master) := hc.onSec

theorem Chip.Kept.withPass {master given f} (hf : ∀ d, c₀.Kept d → c₀.Kept (f d)) : c₀.Kept (c.withPass master given f).2 := by
  unfold Chip.withPass
  extract_lets stored tries
  split
  · exact hc
  · split
    · exact hf _ hc
    · exact hc.wrongPass

theorem Chip.Kept.setUserPass {p} : c₀.Kept (c.setUserPass p) := hc.onSec

theorem Chip.Kept.setPassphrase {master current new} : c₀.Kept (c.setPassphrase master current new).2 := by
  unfold Chip.setPassphrase
  split
  · exact hc
  · exact hc.withPass (fun _ h => h.onSec.ite h.setUserPass)

theorem Chip.Kept.disablePassphrase {master current} : c₀.Kept (c.disablePassphrase master current).2 := by
  unfold Chip.disablePassphrase
  refine Chip.Kept.iteSnd hc ?_
  exact Chip.Kept.withPass hc fun _ h => Chip.Kept.ite (Chip.Kept.onSec h) h.setUserPass

theorem Chip.Kept.peerErase {san} : c₀.Kept (c.peerErase san) := hc.sendTwin.onSec.ite hc
theorem Chip.Kept.forgetTwin : c₀.Kept c.forgetTwin := hc.onTwin.pairRecord.setPair.ite hc
theorem Chip.Kept.secureEraseAll : c₀.Kept c.secureEraseAll := hc.peerErase.secureErase.forgetTwin

theorem Chip.Kept.passphraseErase {master current} : c₀.Kept (c.passphraseErase master current).2 := by
  unfold Chip.passphraseErase
  refine Chip.Kept.iteSnd hc ?_
  exact Chip.Kept.withPass hc fun _ h => h.secureEraseAll.setUserPass.onSec

theorem Chip.Kept.zeroPages {addr n} : c₀.Kept (c.zeroPages addr n) := hc.foldl fun _ _ h => h.pageDone
theorem Chip.Kept.rtvDone {n} : c₀.Kept (c.rtvDone n) := hc.onSec.ite hc.onSec.pageNow

theorem Chip.Kept.rtvStep {n} : c₀.Kept (c.rtvStep n) := by
  unfold Chip.rtvStep
  split
  · exact (hc.sendWitness.setLease.ite hc).twinDown.disableHeads
  · extract_lets c1 c2 c3
    have h2 : c₀.Kept c2 := hc.onSec.onWit
    have h3 : c₀.Kept c3 := h2.mapHeads fun _ h => h
    exact h3.onTwin
  · extract_lets c1 c2
    have h2 : c₀.Kept c2 := hc.zeroPages.onSec.onRing fun _ => by rfl
    exact h2.onLedger fun _ => by rfl
  · exact hc.eraseContents.onTwin.pairRecord.setPair
  · exact hc.zeroPages.zeroPages
  · exact hc.onCacheStores fun hf _ => ⟨SMap.sorted_filter _ _ hf, rfl⟩
  · exact hc.onSec

theorem Chip.Kept.rtvRun {n} : c₀.Kept (c.rtvRun n) := hc.foldl fun _ _ h => h.rtvStep.rtvDone

theorem Chip.Kept.rtvDraw : c₀.Kept c.rtvDraw := by
  unfold Chip.rtvDraw
  exact hc.drawRandom.onSec

theorem Chip.Kept.rtvChallenge : c₀.Kept c.rtvChallenge.2 := by
  unfold Chip.rtvChallenge
  extract_lets c1
  have h1 : c₀.Kept c1 := hc.rtvDraw
  exact h1

theorem Chip.Kept.rtvResponse {ok} : c₀.Kept (c.rtvResponse ok).2 := by
  unfold Chip.rtvResponse
  split
  · dsimp only
    exact hc.onSec.rtvRun
  · exact hc.rtvDraw

/-! ### The operations of Update -/

theorem Chip.Kept.beginUpload {slot via} : c₀.Kept (c.beginUpload slot via) := hc.onImage.onBoot
theorem Chip.Kept.failUpload {err} : c₀.Kept (c.failUpload err) := hc.onBoot
theorem Chip.Kept.dropUpload {err} : c₀.Kept (c.dropUpload err) := hc.onBoot

theorem Chip.Kept.loadPiece {u data sigOk} : c₀.Kept (c.loadPiece u data sigOk).2 := by
  unfold Chip.loadPiece
  extract_lets next header limit c1 fault full
  have h1 : c₀.Kept c1 := hc.pageNow
  split
  · dsimp only
    exact hc.onBoot
  · split
    · exact h1.failUpload
    · split
      · dsimp only
        exact h1.onBoot
      · dsimp only
        exact h1.onBoot

theorem Chip.Kept.endUpload {u sigOk} : c₀.Kept (c.endUpload u sigOk).2 := by
  unfold Chip.endUpload
  extract_lets fault
  split
  · exact hc.failUpload
  · dsimp only
    exact hc.onImage.onBoot

theorem Chip.Kept.updBlock {slot bytes sigOk} : c₀.Kept (c.updBlock slot bytes sigOk).2 := by
  unfold Chip.updBlock
  extract_lets off len crc data s start
  have hstart {d : Chip} (h : start = some d) : c₀.Kept d := by
    unfold start at h
    split at h
    · split at h
      · cases h; exact hc
      · cases h
    · split at h
      · cases h; exact hc.beginUpload
      · cases h
  split
  · exact hc
  · split
    · exact hc
    · cases h : start with
      | none => exact Chip.Kept.ite (Chip.Kept.onBoot hc) hc
      | some d =>
        have h1 : c₀.Kept d := hstart h
        dsimp only
        split
        · exact h1
        · split
          · dsimp only
            exact h1.onBoot
          · exact h1.loadPiece

theorem Chip.Kept.updEnd {v sigOk} : c₀.Kept (c.updEnd v sigOk).2 := by
  unfold Chip.updEnd
  split
  · split
    · exact hc
    · split
      · exact hc.dropUpload
      · split
        · next _ _ heq =>
            exact hc.endUpload.snd heq
  · exact hc

theorem Chip.Kept.activate {slot} : c₀.Kept (c.activate slot) := hc.setBoot

theorem Chip.Kept.fwActivate {slot} : c₀.Kept (c.fwActivate slot).2 := by
  unfold Chip.fwActivate
  split
  · exact hc
  · split
    · exact hc
    · split
      · exact hc
      · exact hc.activate

theorem Chip.Kept.raiseSec {n} : c₀.Kept (c.raiseSec n) := by
  induction n generalizing c with
  | zero => exact hc
  | succ n ih => exact Chip.Kept.ite (ih hc.countNow) hc

theorem Chip.Kept.raiseCounter3 : c₀.Kept c.raiseCounter3 := hc.raiseSec
theorem Chip.Kept.confirm : c₀.Kept c.confirm := hc.setBoot.onBoot.raiseCounter3

theorem Chip.Kept.fwConfirm : c₀.Kept c.fwConfirm.2 := by
  unfold Chip.fwConfirm
  split
  · exact hc
  · split
    · exact hc
    · exact hc.confirm

theorem Chip.Kept.fwRevert : c₀.Kept c.fwRevert.2 := by
  unfold Chip.fwRevert
  split
  · exact hc
  · dsimp only
    exact hc.onBoot

theorem Chip.Kept.recoveryCmd : c₀.Kept c.recoveryCmd.2 := by
  unfold Chip.recoveryCmd
  split
  · exact hc
  · exact hc.setBoot

/-! ### The operations of BootRows -/

theorem Chip.Kept.stopStart {cause} : c₀.Kept (c.stopStart cause) := hc.onBoot.mapHeads fun _ h => h
theorem Chip.Kept.nextStage {done next} : c₀.Kept (c.nextStage done next) := hc.onBoot
theorem Chip.Kept.enterRom {cause} : c₀.Kept (c.enterRom cause) := hc.onBoot.foldl fun _ _ h => (h.onHead fun _ => by rfl).ite h
theorem Chip.Kept.romLoad : c₀.Kept c.romLoad := hc.onSec.rtvDraw.onMed.onBoot.nextStage.rtvRun.ite hc.onSec.rtvDraw.onMed.onBoot.nextStage

theorem Chip.Kept.groupAtStart {g} : c₀.Kept (c.groupAtStart g) := by
  unfold Chip.groupAtStart
  extract_lets members absent
  split
  · exact hc
  · refine hc.ite (hc.onGroup.ite (Chip.Kept.ite ?_ (hc.onGroup.ite hc.onGroup)))
    cases absent with
    | some m => exact hc.degrade.ite hc.degrade.newEpoch
    | none => exact hc

theorem Chip.Kept.toLoad : c₀.Kept c.toLoad := hc.nextStage.ite hc.onBoot

theorem Chip.Kept.loadStore : c₀.Kept c.loadStore := by
  unfold Chip.loadStore
  extract_lets img b c1 vals
  have h1 : c₀.Kept c1 := (hc.onRing fun _ => by rfl).ite hc
  exact (h1.onRing fun _ => by rfl).onBoot.ite ((h1.onBoot.ite h1.onBoot.writeStore.onBoot.setBoot).ite (h1.onRing fun _ => by rfl).onBoot)

theorem Chip.Kept.dirtyStart : c₀.Kept c.dirtyStart := by
  unfold Chip.dirtyStart
  extract_lets c1 n c2
  have h1 : c₀.Kept c1 := hc.onTwin
  have h2 : c₀.Kept c2 := by
    unfold c2
    split
    · exact h1.wrapRecord
    · exact h1
  exact h2.countUp.record.ite h2

theorem Chip.Kept.poisonSeg {seg} : c₀.Kept (c.poisonSeg seg) := by
  unfold Chip.poisonSeg
  split
  · exact hc
  · exact hc.setMap.onMed.foldl fun _ _ h => h.listPoison

theorem Chip.Kept.checkPoison : c₀.Kept c.checkPoison := by
  unfold Chip.checkPoison
  exact hc.onInteg

theorem Chip.Kept.pairWork : c₀.Kept c.pairWork := hc.countNow.onWit.rollbackJournal.endPairStage.greet.ite hc.countNow.onWit.sendWitness.greet
theorem Chip.Kept.pairClaim : c₀.Kept c.pairClaim := hc.sendRenew.sendClaim
theorem Chip.Kept.unlocked : c₀.Kept c.unlocked := hc.onBoot.pairWork.ite hc

theorem Chip.Kept.serviceOn : c₀.Kept c.serviceOn := by
  unfold Chip.serviceOn
  extract_lets scratch c1 c2
  have h1 : c₀.Kept c1 := hc.onCache fun _ => by rfl
  have h2 : c₀.Kept c2 := h1.nextStage.onBoot
  exact h2.mapHeads fun _ h => h

theorem Chip.Kept.serviceWork : c₀.Kept c.serviceWork :=
  ((hc.foldl fun _ _ h => h.dropOps.queueInit).foldl fun _ _ h => h.startInit).foldl fun _ _ h => h.joinGroup

theorem Chip.Kept.recStatus {slot result} : c₀.Kept (c.recStatus slot result) := hc.emit
theorem Chip.Kept.recAck {slot off} : c₀.Kept (c.recAck slot off) := hc.emit
theorem Chip.Kept.recCommit {slot had} : c₀.Kept (c.recCommit slot had) := hc.setBoot.mainReset.leaveReset

/-! ### The operations of Service -/

theorem Chip.Kept.setCore {k s} : c₀.Kept (c.setCore k s) := ⟨hc.id, hc.stores⟩

theorem Chip.Kept.adoptGroup {held} : c₀.Kept (c.adoptGroup held) := by
  unfold Chip.adoptGroup
  extract_lets can first second from_
  split
  · exact hc
  · exact hc.setCore.choose

theorem Chip.Kept.shareGroups : c₀.Kept c.shareGroups := (hc.foldl fun _ _ h => h.setCore.ite h).foldl fun _ _ h => h.adoptGroup
theorem Chip.Kept.passWork {k s} : c₀.Kept (c.passWork k s) :=
  (hc.setCore.choose.foldl fun _ _ h => h.stopCmd).shareGroups.ite (hc.setCore.choose.foldl fun _ _ h => h.stopCmd)

theorem Chip.Kept.mgRestarted : c₀.Kept c.mgRestarted := (hc.onRing fun _ => by rfl).onObj
theorem Chip.Kept.coreBack {k} : c₀.Kept (c.coreBack k) :=
  (hc.setCore.mgRestarted.ite hc.setCore).shareGroups.ite (hc.setCore.mgRestarted.ite hc.setCore)

theorem Chip.Kept.retireCore {k} : c₀.Kept (c.retireCore k) := hc.ite hc.persist.passWork.onBoot

theorem Chip.Kept.coreRetire {v} : c₀.Kept (c.coreRetire v).2 := by
  unfold Chip.coreRetire
  split
  · split
    · exact hc
    · exact hc.retireCore
  · exact hc

theorem Chip.Kept.retireFailing {k} : c₀.Kept (c.retireFailing k) := hc.coreBack.ite hc.retireCore
theorem Chip.Kept.restartFailed {k} : c₀.Kept (c.restartFailed k) := hc.onBoot.retireFailing.ite hc.onBoot

theorem Chip.Kept.placeLost {p all} : c₀.Kept (c.placeLost p all) := by
  unfold Chip.placeLost
  split
  · exact hc.rebuildState
  · exact hc
  · exact hc
  · exact hc
  · exact hc.rebuildMap
  · exact hc.restage
  · exact hc.restartOp
  · exact hc.passWork.ite hc

theorem Chip.Kept.placeMeets {p ev} : c₀.Kept (c.placeMeets p ev) := by
  unfold Chip.placeMeets
  extract_lets pc
  split
  · exact hc.hbmAccess.countCe
  · exact hc.placeLost.countUe
  · exact hc.placeLost.countUe
  · exact hc.bump
  · exact hc.bump.parityRepeated
  · exact hc.pcFail
  · exact hc.sramMeets
  · exact hc.sramMeets
  · exact hc.sramMeets
  · exact hc
  · exact hc
  · exact hc

theorem Chip.Kept.headIsolate {a h v} : c₀.Kept (c.headIsolate a h v).2 := by
  unfold Chip.headIsolate
  extract_lets was c1
  have h1 : c₀.Kept c1 := hc.setVol
  split
  · exact hc
  · split
    · exact hc
    · split
      · exact h1.ite h1.headDown
      · split
        · dsimp only
          exact h1.onHead fun _ => by rfl
        · exact h1

theorem Chip.Kept.bistBegin {test target} : c₀.Kept (c.bistBegin test target) := by
  unfold Chip.bistBegin
  split
  · exact hc.startRetrain
  · split
    · exact hc.passWork
    · exact hc
  · exact hc

theorem Chip.Kept.bistCmd {q test target} : c₀.Kept (c.bistCmd q test target).2 := by
  unfold Chip.bistCmd
  split
  · exact hc
  · split
    · exact hc
    · extract_lets c1 c2
      have h1 : c₀.Kept c1 := hc.onBoot
      have h2 : c₀.Kept c2 := h1.onObj
      exact h2.bistBegin

theorem Chip.Kept.bistFailed {b detail} : c₀.Kept (c.bistFailed b detail) := by
  unfold Chip.bistFailed
  split
  · split
    · exact hc.setPc.vendorRecord.bindingRecord
    · exact hc
  · exact hc.memberMissing
  · exact hc.unitOp.ite hc
  · exact hc.memberMissing
  · exact hc.sealAlarm
  · split
    · exact hc.retireFailing
    · exact hc
  · exact hc

theorem Chip.Kept.clearSeen {m} : c₀.Kept (c.clearSeen m) := hc.onBoot

/-! ### The operations of DictAccess -/

theorem Chip.Kept.readSpecial {a index sub} {p} (h : c.readSpecial a index sub = some p) : c₀.Kept p.2.2 := by
  unfold Chip.readSpecial at h
  split at h
  · split at h
    · cases h; exact hc
    · split at h
      · cases h; exact hc
      · cases h; exact hc
  · split at h
    · split at h
      · cases h; exact hc
      · cases h; exact hc
    · split at h
      · cases h; exact hc
      · cases h; exact hc
    · split at h
      · cases h; exact hc
      · cases h; exact hc.rtvChallenge
    · cases h

theorem Chip.Kept.readOpen {loc mask v} : c₀.Kept (c.readOpen loc mask v).2 := by
  unfold Chip.readOpen
  split
  · exact hc
  · exact hc.choose

theorem Chip.Kept.readEntry {a index sub} : c₀.Kept (c.readEntry a index sub).2.2 := by
  unfold Chip.readEntry
  split
  · exact hc
  · split
    · exact hc
    · split
      · exact hc
      · split
        · next _ heq =>
            exact hc.readSpecial heq
        · split
          · exact hc
          · split
            · next _ _ heq1 =>
                exact hc.readOpen.snd heq1

theorem Chip.Kept.useContext {q} : c₀.Kept (c.useContext q) := by
  unfold Chip.useContext
  extract_lets mine others isRing full
  split
  · exact (hc.onRing fun _ => by rfl).onObj
  · exact hc.onRing fun _ => by rfl

theorem Chip.Kept.setSel {q index sub v} : c₀.Kept (c.setSel q index sub v) := hc.onRing fun _ => by rfl
theorem Chip.Kept.noteStored {a index sub} : c₀.Kept (c.noteStored a index sub) := hc.notify

theorem Chip.Kept.entryStored {index sub} : c₀.Kept (c.entryStored index sub) := by
  unfold Chip.entryStored
  split
  · exact hc.evalSquall
  · exact hc.evalSquall
  · exact hc.evalPanic
  · split
    · exact hc.regionsWritten
    · exact hc
  · exact hc.startWaiting
  · exact hc

theorem Chip.Kept.storeEntryValue {a index sub v} : c₀.Kept (c.storeEntryValue a index sub v).2 := by
  unfold Chip.storeEntryValue
  split
  · exact hc
  · exact hc.persist.entryStored.noteStored

theorem Chip.Kept.storeSecret {a index sub f} (hf : ∀ d, c₀.Kept d → c₀.Kept (f d)) : c₀.Kept (c.storeSecret a index sub f).2 := by
  unfold Chip.storeSecret
  split
  · exact hc
  · exact (hf _ hc).noteStored

theorem Chip.Kept.adoptStore {vals} : c₀.Kept (c.adoptStore vals).2 := by
  unfold Chip.adoptStore
  extract_lets old new scratch pin ways c1 c2 c3
  have h1 : c₀.Kept c1 := hc.storeAll.foldl fun _ _ h => h.ite h.sqApply
  have h2 : c₀.Kept c2 := h1.startWays.ite h1
  have h3 : c₀.Kept c3 := h2.evalSquall.evalPanic.foldl fun _ _ h => h.regionsWritten
  split
  · exact hc
  · split
    · exact hc
    · exact h3.startWaiting

theorem Chip.Kept.dictDefaults {a} : c₀.Kept (c.dictDefaults a).2 := by
  unfold Chip.dictDefaults
  extract_lets keep
  split
  · next _ _ heq =>
      exact (hc.adoptStore.snd heq).noteStored.ite (hc.adoptStore.snd heq)

theorem Chip.Kept.storeImport {b} : c₀.Kept (c.storeImport b).2 := by
  unfold Chip.storeImport
  split
  · exact hc
  · split
    · split
      · split
        · next _ _ heq =>
            exact (hc.adoptStore.snd heq).setVol.ite (hc.adoptStore.snd heq)
      · exact hc
    · exact hc

theorem Chip.Kept.storeRestore {b} : c₀.Kept (c.storeRestore b).2 := by
  unfold Chip.storeRestore
  split
  · exact hc
  · split
    · split
      · split
        · next _ _ heq =>
            exact (hc.adoptStore.snd heq).onBoot.ite (hc.adoptStore.snd heq)
      · exact hc
    · exact hc

theorem Chip.Kept.actLow {a index sub v} {p} (h : c.actLow a index sub v = some p) : c₀.Kept p.2 := by
  unfold Chip.actLow at h
  split at h
  · cases h
    refine hc.storeSecret fun d hd => Chip.Kept.onRing hd fun r => ?_
    split <;> rfl
  · cases h; exact hc.dictDefaults
  · cases h; exact hc.evacCmd
  · cases h; exact hc.objCmd
  · cases h
    exact Chip.Kept.iteSnd hc (hc.storeEntryValue.startWays.ite hc.storeEntryValue)
  · cases h; exact hc.retireCmd
  · cases h

theorem Chip.Kept.sgInit {g} : c₀.Kept (c.sgInit g).2 := by
  unfold Chip.sgInit
  split
  · exact hc
  · split
    · exact hc
    · exact hc.discardGroup.startInit

theorem Chip.Kept.medRemove {n} : c₀.Kept (c.medRemove n).2 := by
  unfold Chip.medRemove
  split
  · exact hc
  · split
    · next _ _ heq =>
        exact hc.removal.snd heq

theorem Chip.Kept.actMid {a index sub v} {p} (h : c.actMid a index sub v = some p) : c₀.Kept p.2 := by
  unfold Chip.actMid at h
  split at h
  · cases h; exact hc.medRemove
  · cases h; exact hc.sgInit
  · cases h; exact hc.pairReplace
  · split at h
    · cases h; exact hc.storeSecret fun d hd => hd.onWit
    · cases h
  · split at h
    · cases h; exact hc.handoverCmd
    · cases h
  · split at h
    · cases h; exact hc.wantRehearsal
    · cases h
  · split at h
    · cases h
      exact Chip.Kept.iteSnd hc (hc.storeEntryValue.sqApply.ite hc.storeEntryValue)
    · cases h
  · split at h
    · cases h; exact hc.groupOn
    · cases h
  · split at h
    · cases h; exact hc.probeCmd
    · cases h
  · split at h
    · cases h; exact hc.wrapCmd
    · cases h
  · cases h

theorem Chip.Kept.actHigh {a index sub v ok} {p} (h : c.actHigh a index sub v ok = some p) : c₀.Kept p.2 := by
  unfold Chip.actHigh at h
  split at h
  · split at h
    · cases h; exact hc.rawWrite
    · cases h
  · split at h
    · cases h; exact hc.userUnlock
    · cases h; exact hc.userLock
    · cases h; exact hc.userPassword.noteStored.ite hc.userPassword
  · cases h; exact hc.counterInc
  · split at h
    · cases h; exact hc.refreshCmd
    · cases h
  · cases h; exact hc.cryptoErase
  · cases h; exact hc.rtvResponse
  · cases h

theorem Chip.Kept.actTop {a index sub v bytes ok} {p} (h : c.actTop a index sub v bytes ok = some p) : c₀.Kept p.2 := by
  unfold Chip.actTop at h
  split at h
  · cases h; exact hc.fwConfirm
  · cases h; exact hc.fwRevert
  · cases h; exact hc.updBlock
  · cases h; exact hc.updEnd
  · cases h; exact hc.fwActivate
  · cases h; exact hc.storeImport.noteStored.ite hc.storeImport
  · cases h; exact hc.storeRestore.noteStored.ite hc.storeRestore
  · cases h; exact hc.recoveryCmd
  · cases h; exact hc.clearSeen
  · cases h; exact hc.bistCmd
  · cases h; exact hc.coreRetire
  · split at h
    · cases h; exact hc.headIsolate
    · cases h
  · cases h

theorem Chip.Kept.applyWrite {a r sub bytes ok} : c₀.Kept (c.applyWrite a r sub bytes ok).2 := by
  unfold Chip.applyWrite
  extract_lets v act
  have hact {p : Nat × Chip} (h : act = some p) : c₀.Kept p.2 := by
    unfold act at h
    split at h
    · exact hc.actLow h
    · exact hc.actLow h
    · exact hc.actLow h
    · exact hc.actMid h
    · exact hc.actMid h
    · exact hc.actMid h
    · exact hc.actHigh h
    · exact hc.actHigh h
    · exact hc.actTop h
  cases h : act with
  | some p => exact hact h
  | none =>
    dsimp only
    split
    · exact hc.setSel
    · split
      · exact hc.storeEntryValue
      · exact hc.setVol

theorem Chip.Kept.writeEntry {a index sub bytes ok} : c₀.Kept (c.writeEntry a index sub bytes ok).2 := by
  unfold Chip.writeEntry
  split
  · exact hc
  · split
    · exact hc
    · extract_lets e
      split
      · exact hc
      · split
        · exact hc
        · exact hc.applyWrite

theorem Chip.Kept.recordAbort {q index sub code} : c₀.Kept (c.recordAbort q index sub code) := by
  unfold Chip.recordAbort
  exact hc.onRing fun _ => by rfl

/-! ### The operations of Transfers -/

theorem Chip.Kept.dictFrame {req tid auth cmd index sub flags seg value data} : c₀.Kept (c.dictFrame req tid auth cmd index sub flags seg value data) := by
  unfold Chip.dictFrame
  split
  · exact hc.emit
  · exact hc

theorem Chip.Kept.ringAbort {req tid auth index sub code} : c₀.Kept (c.ringAbort req tid auth index sub code) := hc.dictFrame.recordAbort.bump

theorem Chip.Kept.sendAnswer {req tid auth index sub x} : c₀.Kept (c.sendAnswer req tid auth index sub x) := by
  unfold Chip.sendAnswer
  split
  · exact hc.dictFrame
  · exact hc.ringAbort
  · exact hc.dictFrame

theorem Chip.Kept.keepOutcome {k} : c₀.Kept (c.keepOutcome k) := hc.onRing fun _ => by rfl
theorem Chip.Kept.closeWith {req tid auth index sub cmd x} : c₀.Kept (c.closeWith req tid auth index sub cmd x) := hc.sendAnswer.keepOutcome
theorem Chip.Kept.putXfer {t} : c₀.Kept (c.putXfer t) := hc.onRing fun _ => by rfl
theorem Chip.Kept.dropXfer {t} : c₀.Kept (c.dropXfer t) := hc.onRing fun _ => by rfl
theorem Chip.Kept.sendSegs {t} : c₀.Kept (c.sendSegs t) := (hc.foldl fun _ _ h => h.dictFrame).putXfer
theorem Chip.Kept.sendAck {t gap} : c₀.Kept (c.sendAck t gap) := hc.dictFrame

theorem Chip.Kept.answerCached {auth k} : c₀.Kept (c.answerCached auth k) := by
  unfold Chip.answerCached
  split
  · exact hc.sendSegs.ite hc.sendAnswer
  · split
    · exact hc.dictFrame
    · exact hc.sendAnswer

theorem Chip.Kept.ringFrame {a index sub f} (hf : ∀ d, c₀.Kept d → c₀.Kept (f d)) : c₀.Kept (c.ringFrame a index sub f) := by
  unfold Chip.ringFrame
  split
  · exact hc.ite (hc.ringAbort.bump.ite (hf _ hc))
  · exact hc

theorem Chip.Kept.ringRequest {a index sub cmd f} (hf : ∀ d, c₀.Kept d → c₀.Kept (f d)) : c₀.Kept (c.ringRequest a index sub cmd f) := by
  refine hc.ringFrame fun d hd => ?_
  split
  · exact hd.answerCached
  · refine hd.ite ?_
    split
    · exact (hd.sendAck.ite hd.sendSegs).ite hd.ringAbort
    · exact hd.ringAbort.ite (hf _ hd.useContext)

theorem Chip.Kept.ringWritten {a index sub cmd e} : c₀.Kept (c.ringWritten a index sub cmd e) := hc.closeWith.ite (hc.ite hc.closeWith)

theorem Chip.Kept.ringRead {a index sub describe off} : c₀.Kept (c.ringRead a index sub describe off) := by
  refine hc.ringRequest fun d hd => ?_
  split
  · exact hd.closeWith
  · refine hd.closeWith.ite (hd.closeWith.ite ?_)
    exact hd.readEntry.closeWith.ite (hd.readEntry.closeWith.ite (hd.readEntry.sendSegs.ite hd.readEntry.closeWith))

theorem Chip.Kept.abortXfer {t code} : c₀.Kept (c.abortXfer t code) := hc.dropXfer.closeWith
theorem Chip.Kept.unknownTid {a index sub} : c₀.Kept (c.unknownTid a index sub) := hc.ite hc.ringAbort
theorem Chip.Kept.acceptSeg {a t final data sigOk} : c₀.Kept (c.acceptSeg a t final data sigOk) :=
  hc.abortXfer.ite (hc.putXfer.sendAck.ite hc.sendAck.dropXfer.writeEntry.ringWritten)

/-! ### The operations of RingRows -/

theorem Chip.Kept.sourceFrame {p f} : c₀.Kept (c.sourceFrame p f) := (hc.onRing fun _ => by rfl).bump.ite (hc.onRing fun _ => by rfl)
theorem Chip.Kept.forwardFrame {p f} : c₀.Kept (c.forwardFrame p f) := hc.ite (hc.emit.bump.bump.ite hc.emit.bump)

/-! ### The operations of Mailbox -/

theorem Chip.Kept.boxIn {h i early rom custodian f} (hf : ∀ d, c₀.Kept d → c₀.Kept (f d)) : c₀.Kept (c.boxIn h i early rom custodian f) := by
  unfold Chip.boxIn
  split
  · exact hc
  · split
    · exact (hf _ hc).ite hc.mbox
    · split
      · exact hc
      · split
        · exact hc.setDeferred
        · exact hc.mbox.ite (hc.mbox.ite (hf _ hc))

theorem Chip.Kept.startBg {h kind code} : c₀.Kept (c.startBg h kind code) := (hc.onHead fun _ => by rfl).mbox
theorem Chip.Kept.boxRead {h i early rom d} : c₀.Kept (c.boxRead h i early rom d) := hc.boxIn (fun _ h => h.mbox)

theorem Chip.Kept.fwPiece {h u data sigOk last} : c₀.Kept (c.fwPiece h u data sigOk last) := by
  unfold Chip.fwPiece
  extract_lets had
  split
  next e d hd =>
  have hp : c₀.Kept d := hc.loadPiece.snd hd
  split
  · next u' _ =>
    split
    next e' d' hd' =>
    have he : c₀.Kept d' := hp.endUpload.snd hd'
    exact he.startBg.recCommit.ite he.startBg
  · exact hp.startBg

theorem Chip.Kept.fwInitiate {h slot off data sigOk} : c₀.Kept (c.fwInitiate h slot off data sigOk) := by
  unfold Chip.fwInitiate
  extract_lets c1
  have h1 : c₀.Kept c1 := hc.beginUpload
  refine hc.mbox.ite (hc.mbox.ite (hc.mbox.ite ?_))
  split
  · exact h1.fwPiece
  · exact h1

theorem Chip.Kept.fwContinue {h slot off data sigOk last} : c₀.Kept (c.fwContinue h slot off data sigOk last) := by
  unfold Chip.fwContinue
  split
  · exact hc.mbox
  · exact hc.mbox.ite (hc.mbox.ite hc.fwPiece)

theorem Chip.Kept.transferFw {h action slot off data sigOk} : c₀.Kept (c.transferFw h action slot off data sigOk) := by
  unfold Chip.transferFw
  split
  · split
    · exact hc.dropUpload.mbox.ite hc.mbox
    · exact hc.mbox
  · exact hc.mbox.ite (hc.mbox.ite (hc.mbox.ite (hc.mbox.ite (hc.fwInitiate.ite hc.fwContinue))))

theorem Chip.Kept.sanitizeAll : c₀.Kept c.sanitizeAll := by
  unfold Chip.sanitizeAll
  exact hc.peerErase.sanitize.forgetTwin

theorem Chip.Kept.eraseBox {h f} (hf : ∀ d, c₀.Kept d → c₀.Kept (f d)) : c₀.Kept (c.eraseBox h f) := hc.mbox.ite (hc.mbox.ite (hc.mbox.ite (hf _ hc)))
theorem Chip.Kept.passBox {h f done} (hf : ∀ d, c₀.Kept d → c₀.Kept (f d).2) (hdone : ∀ d, c₀.Kept d → c₀.Kept (done d)) : c₀.Kept (c.passBox h f done) :=
  hc.mbox.ite ((hdone _ (hf _ hc)).ite ((hf _ hc).mbox))

theorem Chip.Kept.unlock {current} : c₀.Kept (c.unlock current).2 := by
  unfold Chip.unlock
  split
  · exact hc
  · split
    · exact hc.withPass (fun _ h => h.onSec.unlocked)
    · split
      · exact hc.withPass (fun _ h => h.onSec)
      · exact hc

theorem Chip.Kept.scanRead {x bad} : c₀.Kept (c.scanRead x bad) := hc.ite (((hc.foldl fun _ _ h => h.gmi).foldl fun _ _ h => h.detect).onInteg)

theorem Chip.Kept.endScan {x} : c₀.Kept (c.endScan x) := by
  unfold Chip.endScan
  exact (hc.foldl fun _ _ h => h.decodedMark).onInteg

/-! ### The operations of VendorRows -/

theorem Chip.Kept.boxAbort {h index sub e rest} : c₀.Kept (c.boxAbort h index sub e rest) := (hc.ite hc.recordAbort).mbox

theorem Chip.Kept.boxDictRead {h d} : c₀.Kept (c.boxDictRead h d) := by
  unfold Chip.boxDictRead
  split
  · exact hc.boxAbort
  · exact hc.boxAbort.ite (hc.boxAbort.ite hc.readEntry.boxAbort)

theorem Chip.Kept.boxWritten {h index sub e} : c₀.Kept (c.boxWritten h index sub e) := hc.ite hc.boxAbort
theorem Chip.Kept.boxPiece {h d data ok} : c₀.Kept (c.boxPiece h d data ok) :=
  hc.dropXfer.boxWritten.ite (hc.dropXfer.boxWritten.ite (hc.putXfer.boxWritten.ite hc.dropXfer.writeEntry.boxWritten))

theorem Chip.Kept.boxDictWrite {h d data ok} : c₀.Kept (c.boxDictWrite h d data ok) := by
  unfold Chip.boxDictWrite
  split
  · exact hc.boxWritten
  · exact hc.writeEntry.boxWritten.ite (hc.boxWritten.ite (hc.boxPiece.ite (hc.boxWritten.ite hc.writeEntry.boxWritten)))

theorem Chip.Kept.objectRun {h e} : c₀.Kept (c.objectRun h e).2.2 := by
  unfold Chip.objectRun
  split
  · next _ _ heq =>
      extract_lets c1 c2
      have h1 : c₀.Kept c1 := (hc.addCmd.snd heq).run
      have h2 : c₀.Kept c2 := by
        unfold c2
        split
        · exact h1.cmdCheck
        · exact h1
      split
      · exact h2
      · split
        · exact h2.deliver
        · exact h2

/-! ### The operations of WindowRows -/

theorem Chip.Kept.winDrop {h} : c₀.Kept (c.winDrop h) := hc.emit.ite hc
theorem Chip.Kept.postWindow {h w} : c₀.Kept (c.postWindow h w) := hc.ite (hc.winDrop.ite (hc.onHead fun _ => by rfl))

theorem Chip.Kept.winRefused {h w e} : c₀.Kept (c.winRefused h w e) := by
  unfold Chip.winRefused
  refine hc.recordAbort.emit.onHead fun d => ?_
  split <;> rfl

theorem Chip.Kept.winStore {h w r v} : c₀.Kept (c.winStore h w r v).2 := hc.writeEntry

theorem Chip.Kept.winAlias {h w r k} : c₀.Kept (c.winAlias h w r k).2 := by
  unfold Chip.winAlias
  extract_lets width m old rw
  split
  · exact hc
  · split
    · exact hc
    · exact hc.winStore

theorem Chip.Kept.winPlain {h w r} : c₀.Kept (c.winPlain h w r).2 := by
  unfold Chip.winPlain
  extract_lets key low c1
  have h1 : c₀.Kept c1 := hc.onHead fun _ => by rfl
  split
  · dsimp only
    exact hc.onHead fun _ => by rfl
  · exact h1.winStore
  · exact hc.winStore
  · split
    · exact hc
    · exact hc.winStore

theorem Chip.Kept.applyWindow {h} : c₀.Kept (c.applyWindow h) := by
  unfold Chip.applyWindow
  split
  · exact hc
  · next w rest _ =>
    extract_lets c1
    have h1 : c₀.Kept c1 := (hc.onHead fun _ => by rfl).useContext
    refine hc.ite ?_
    split
    · exact h1
    · next r _ =>
      cases w.kind with
      | some k => exact h1.winAlias.ite h1.winAlias.winRefused
      | none => exact h1.winPlain.ite h1.winPlain.winRefused

theorem Chip.Kept.regApply {h off v} : c₀.Kept (c.regApply h off v) := by
  unfold Chip.regApply
  refine Chip.Kept.ite (hc.onHeadCue fun hw => Memory.wf_write _ _ _ hw) ?_
  split
  · exact hc.onHead fun _ => by rfl
  · exact (hc.onHead fun _ => by rfl).ite hc
  · exact hc.cueTail
  · exact (hc.onHead fun _ => by rfl).cueReset.ite (hc.onHead fun _ => by rfl)
  · exact hc.onHead fun _ => by rfl
  · exact hc

theorem Chip.Kept.regWrite {h off v} : c₀.Kept (c.regWrite h off v) := by
  unfold Chip.regWrite
  split
  · exact hc.winDrop
  · exact hc.winDrop.ite hc.regApply

theorem Chip.Kept.regAlias {h off m k} : c₀.Kept (c.regAlias h off m k) := by
  unfold Chip.regAlias
  split
  · exact hc.winDrop
  · exact hc.winDrop.ite (hc.ite hc.regApply)

theorem Chip.Kept.aliasWrite {h r m k} : c₀.Kept (c.aliasWrite h r m k) := by
  unfold Chip.aliasWrite
  split
  · exact hc
  · split
    · exact hc.winDrop.ite hc.postWindow
    · exact hc.regAlias

theorem Chip.Kept.winSetWord {h r v} : c₀.Kept (c.winSetWord h r v) := by
  unfold Chip.winSetWord
  split
  · exact hc.winDrop.ite hc.postWindow
  · exact hc.regWrite

theorem Chip.Kept.winWriteBytes {h off b} : c₀.Kept (c.winWriteBytes h off b) := by
  unfold Chip.winWriteBytes
  exact Chip.Kept.ite (hc.onHeadCue fun hw => Memory.wf_write _ _ _ hw) (hc.regWrite.ite hc.winDrop)

theorem Chip.Kept.winVoid {h loc n} : c₀.Kept (c.winVoid h loc n) := hc.emit.emit.ite hc.emit.choose

theorem Chip.Kept.winRead {h r} : c₀.Kept (c.winRead h r) := by
  unfold Chip.winRead
  split
  · extract_lets i s n
    split
    · exact hc.winVoid
    · exact hc.readOpen.emit
  · extract_lets o
    split
    · exact hc.winVoid
    · exact hc.readOpen.emit

theorem Chip.Kept.winReadBytes {h off n} : c₀.Kept (c.winReadBytes h off n) := hc.emit.ite (hc.winRead.ite hc.winVoid)

theorem Chip.Kept.configWrite {h r v} : c₀.Kept (c.configWrite h r v) := by
  unfold Chip.configWrite
  split
  · exact hc.onHead fun _ => by rfl
  · exact hc

/-! ### The operations of DictRows -/

theorem Chip.Kept.ringWrite {a index sub bytes ok} : c₀.Kept (c.ringWrite a index sub bytes ok) :=
  hc.ringRequest (fun _ h => h.writeEntry.ringWritten)

theorem Chip.Kept.boxWrite {h index sub bytes ok} : c₀.Kept (c.boxWrite h index sub bytes ok) := hc.boxIn (fun _ h => h.useContext.boxDictWrite)
theorem Chip.Kept.winWrite {h index sub bytes} : c₀.Kept (c.winWrite h index sub bytes) := hc.ite (hc.postWindow.applyWindow.ite hc.postWindow)

theorem Chip.Kept.writeRow {a index sub bytes ok} : c₀.Kept (c.writeRow a index sub bytes ok) := by
  unfold Chip.writeRow
  split
  · exact hc.ringWrite
  · exact hc.boxWrite
  · exact hc.winWrite

theorem Chip.Kept.readRow {a index sub off len} : c₀.Kept (c.readRow a index sub off len) := by
  unfold Chip.readRow
  split
  · exact hc.ringRead
  · exact hc.boxIn (fun _ h => h.useContext.boxDictRead)
  · exact hc

theorem Chip.Kept.answerErase {a} : c₀.Kept (c.answerErase a) := by
  unfold Chip.answerErase
  split
  · exact hc.closeWith
  · exact hc.mbox
  · exact hc

/-! ### The operations of Idle -/

theorem Chip.Kept.scrubOne : c₀.Kept c.scrubOne := by
  unfold Chip.scrubOne
  split
  · exact hc
  · exact hc.ite hc.onMed

theorem Chip.Kept.countTick : c₀.Kept c.countTick := hc.ite (hc.onClk.ite (hc.onClk.onCache fun _ => by rfl))
theorem Chip.Kept.idle : c₀.Kept c.idle := hc.countTick.sealRun.scrubOne.schedTick.rebuildStep.admitOutside

theorem Chip.Kept.nextDeferred {p} (h : c.nextDeferred = some p) : c₀.Kept p.2 := by
  unfold Chip.nextDeferred at h
  split at h
  · cases h
  · split at h
    · cases h; exact ⟨hc.id, hc.stores⟩
    · cases h

end
end Sys2Proof.Machine
end

section
/-! Each command keeps the identity of the chip and its stores: one lemma for a command, in the order of the model's files. -/

namespace Sys2Proof.Machine

/-- A command's outcome is a next state that waits for what `s` waits for, with a chip that keeps what that of `s` keeps. -/
def State.Keeps (s : State) (o : Host.Outcome State Fault Refusal) : Prop :=
  ∃ c, o = .next { s with chip := Chip.ended s.chip c } ∧ s.chip.Kept c

theorem State.onChip_keeps (s : State) {f : Chip → Chip} (h : ∀ {c₀ c : Chip}, c₀.Kept c → c₀.Kept (f c)) : s.Keeps (s.onChip f) :=
  ⟨f s.chip, rfl, h (.refl _)⟩

section
variable {s : State}

/-! ### The commands of WriteBack -/

theorem execFillComplete_keeps {line} : s.Keeps (execFillComplete line s) := s.onChip_keeps fun hc => hc.fillDone.settle.settleTwin

theorem execDescriptorMissDone_keeps {obj} : s.Keeps (execDescriptorMissDone obj s) := by
  unfold execDescriptorMissDone
  refine s.onChip_keeps fun {c₀ c} hc => ?_
  split
  · exact hc
  · extract_lets c1
    have h1 : c₀.Kept c1 := hc.onCache fun _ => by rfl
    split
    · exact h1.onCache fun _ => by rfl
    · exact h1

theorem execBackgroundEvict_keeps {frame} : s.Keeps (execBackgroundEvict frame s) := s.onChip_keeps fun hc => hc.onFrame.ite hc
theorem execEvictCommit_keeps {frame} : s.Keeps (execEvictCommit frame s) := s.onChip_keeps fun hc => hc.freeFrame.ite hc

theorem execWriteBackStart_keeps {group stripe fill} : s.Keeps (execWriteBackStart group stripe fill s) := by
  unfold execWriteBackStart
  refine s.onChip_keeps fun {c₀ c} hc => ?_
  extract_lets g dirty heldN full take lines src c1 c2 rest c3 c4
  have h1 : c₀.Kept c1 := hc.foldl fun _ _ h => h.markWb.readCopy
  have h3 : c₀.Kept c3 := h1.newOp.onOp.ite h1.newOp
  have h4 : c₀.Kept c4 := h3.bump.ite h3.bump
  refine Chip.Kept.ite ?_ hc
  cases src with
  | nil => exact h4
  | cons p r => exact h4.newOp

theorem execWriteBackRelease_keeps {op} : s.Keeps (execWriteBackRelease op s) := by
  unfold execWriteBackRelease
  refine s.onChip_keeps fun {c₀ c} hc => ?_
  split
  · split
    · extract_lets free c1 c2 c3 lines frames c4
      have h1 : c₀.Kept c1 := hc.foldl fun _ _ h => h.releaseLine
      have h2 : c₀.Kept c2 := h1.foldl fun _ _ h => h.releaseFrames
      have h3 : c₀.Kept c3 := (h2.matRelease.ite h2).dropOp
      have h4 : c₀.Kept c4 := h3.ite (h3.onCache fun _ => by rfl)
      exact h4.settle.settleTwin
    · exact hc
  · exact hc

theorem execWayChangeDone_keeps : s.Keeps (execWayChangeDone s) := by
  unfold execWayChangeDone
  refine s.onChip_keeps fun {c₀ c} hc => ?_
  split
  · exact hc
  · extract_lets cap old new goes inUse comes c1 c2 c3 c4
    have h2 : c₀.Kept c2 := (hc.onCache fun _ => by rfl).foldl fun _ _ h => h.foldl fun _ _ h => h.vacate
    have h3 : c₀.Kept c3 := h2.onCacheStores fun hf hl => ⟨SMap.sorted_filter _ _ hf, SMap.sorted_filter _ _ hl⟩
    have h4 : c₀.Kept c4 := h3.ite h3.record.onBoot
    exact hc.ite h4.settle

/-! ### The commands of GmiRows -/

theorem execMediumReadDispatch_keeps {line} : s.Keeps (execMediumReadDispatch line s) := s.onChip_keeps fun hc => hc.dispatch
theorem execMediumLineReturned_keeps {line outs} : s.Keeps (execMediumLineReturned line outs s) := s.onChip_keeps fun hc => hc.lineReturned

theorem execRecoveryEntryWait_keeps {line} : s.Keeps (execRecoveryEntryWait line s) := by
  unfold execRecoveryEntryWait
  refine s.onChip_keeps fun {c₀ c} hc => ?_
  split
  · exact hc.onMiss.dispatch.ite hc
  · exact hc

theorem execStripeUpdateStart_keeps {d} : s.Keeps (execStripeUpdateStart d s) := by
  unfold execStripeUpdateStart
  refine s.onChip_keeps fun {c₀ c} hc => ?_
  split
  · refine Chip.Kept.ite ?_ hc
    extract_lets o o' old c1 c2
    have h2 : c₀.Kept c2 := (hc.onOp.foldl fun _ _ h => h.markWb.readCopy).ite hc.onOp
    exact h2.finishOp.ite ((h2.foldl fun _ _ h => h.gmi).foldl fun _ _ h => h.metOld)
  · exact hc

theorem execProgramStart_keeps {op} : s.Keeps (execProgramStart op s) := by
  unfold execProgramStart
  refine s.onChip_keeps fun {c₀ c} hc => ?_
  split
  · exact hc
  · split
    · exact hc
    · exact hc.ite ((hc.bump.onBoot.ite hc).ite (hc.startProgram.ite hc))

theorem execProgramDone_keeps {ch part wear} : s.Keeps (execProgramDone ch part wear s) := by
  unfold execProgramDone
  refine s.onChip_keeps fun {c₀ c} hc => ?_
  split
  · exact hc
  · extract_lets m g c1 c2 c3 c4
    have h1 : c₀.Kept c1 := hc.endBusy.stampUnit
    have h2 : c₀.Kept c2 := h1.ite h1.repairedUnit
    have h3 : c₀.Kept c3 := h2.onChan.ite h2
    have h4 : c₀.Kept c4 := h3.advanceOp.advanceCursor
    split
    · exact h4.dropOp.ite h4
    · exact h4

theorem execProgramFailed_keeps {ch part} : s.Keeps (execProgramFailed ch part s) := by
  unfold execProgramFailed
  refine s.onChip_keeps fun {c₀ c} hc => ?_
  split
  · exact hc
  · exact hc.ite (hc.raiseErr.endBusy.memberMissing.ite hc.raiseErr.onChan.gmi)

theorem execRelocateDone_keeps {ch part} : s.Keeps (execRelocateDone ch part s) := by
  unfold execRelocateDone
  refine s.onChip_keeps fun {c₀ c} hc => ?_
  split
  · exact hc
  · exact hc.endBusy.onOp.dropOp.bump.ite hc

theorem execTokenAlert_keeps {ch st} : s.Keeps (execTokenAlert ch st s) := s.onChip_keeps fun hc => hc.raiseErr.statusRead.ite hc
theorem execTokenMissing_keeps {ch part} : s.Keeps (execTokenMissing ch part s) := s.onChip_keeps fun hc => hc.memberMissing.ite hc
theorem execModuleAlert_keeps {ch st cmd} : s.Keeps (execModuleAlert ch st cmd s) :=
  s.onChip_keeps fun hc => hc.ite ((hc.raiseErr.statusRead.onChan.memberMissing.ite hc.raiseErr.statusRead.onChan.gmi).ite hc.raiseErr.statusRead)

theorem execReadHeaderMissing_keeps {ch line} : s.Keeps (execReadHeaderMissing ch line s) := by
  unfold execReadHeaderMissing
  refine s.onChip_keeps fun {c₀ c} hc => ?_
  split
  · exact hc
  · exact hc.onChan.memberMissing.ite hc.onChan.gmi

theorem execModuleSeated_keeps {ch} : s.Keeps (execModuleSeated ch s) := s.onChip_keeps fun hc => hc.onChan.ite hc
theorem execPresenceStable_keeps {ch} : s.Keeps (execPresenceStable ch s) := s.onChip_keeps fun hc => hc.setChan.ite hc

theorem execModuleUnseated_keeps {ch} : s.Keeps (execModuleUnseated ch s) := by
  unfold execModuleUnseated
  refine s.onChip_keeps fun {c₀ c} hc => ?_
  extract_lets c1
  have h1 : c₀.Kept c1 := hc.onChan.ite hc
  split
  · exact h1.setChan
  · exact h1.setChan
  · exact h1.setChan
  · exact h1.setChan
  · exact h1.setChan
  · exact h1.setChan
  · exact h1

theorem execPresenceLostTimeout_keeps {ch} : s.Keeps (execPresenceLostTimeout ch s) :=
  s.onChip_keeps fun hc => (hc.memberMissing.setChan.ite hc.memberMissing).ite hc

theorem execPwrgdStable_keeps {ch} : s.Keeps (execPwrgdStable ch s) := s.onChip_keeps fun hc => hc.onChan.setChan.trainChan.ite hc
theorem execPwrgdTimeout_keeps {ch} : s.Keeps (execPwrgdTimeout ch s) := s.onChip_keeps fun hc => hc.setChan.ite hc

theorem execPwrgdFall_keeps {ch} : s.Keeps (execPwrgdFall ch s) := by
  unfold execPwrgdFall
  refine s.onChip_keeps fun {c₀ c} hc => ?_
  extract_lets c1
  have h1 : c₀.Kept c1 := hc.onChan.ite hc
  split
  · exact h1.setChan
  · exact h1.setChan
  · exact h1.memberMissing

theorem execGmiTrainDone_keeps {ch vendor geometry units serial rev st stamp margin} : s.Keeps (execGmiTrainDone ch vendor geometry units serial rev st stamp margin s) := by
  unfold execGmiTrainDone
  refine s.onChip_keeps fun {c₀ c} hc => ?_
  refine Chip.Kept.ite ?_ hc
  extract_lets g m read at' c1 c2 c3 c4 c5 c6
  have hread {l : List Nat} {d : Chip} (hd : c₀.Kept d) : c₀.Kept (read l d) := hd.foldl fun _ _ h => h.gmi
  have h1 : c₀.Kept c1 := hread hc.onChan
  have h4 : c₀.Kept c4 := (hread h1).onChan.gmi.foldl fun _ _ h => h.gmi
  have h6 : c₀.Kept c6 := hread h4.statusRead
  exact h1.trainFailed.ite (h6.setChan.ite h6.setChan.joinGroup.autoInit)

theorem execGmiTrainFailed_keeps {ch step} : s.Keeps (execGmiTrainFailed ch step s) := s.onChip_keeps fun hc => hc.trainFailed.ite hc
theorem execRetrainStart_keeps {ch} : s.Keeps (execRetrainStart ch s) := s.onChip_keeps fun hc => hc.startRetrain
theorem execRetrainDone_keeps {ch} : s.Keeps (execRetrainDone ch s) := s.onChip_keeps fun hc => (hc.onChan.setGroup.ite hc.onChan).ite hc
theorem execRetrainTimeout_keeps {ch} : s.Keeps (execRetrainTimeout ch s) := s.onChip_keeps fun hc => hc.memberMissing.ite hc
theorem execAttnHold_keeps {ch} : s.Keeps (execAttnHold ch s) := s.onChip_keeps fun hc => hc.removal.onChan.ite hc
theorem execRemovalSafe_keeps {ch} : s.Keeps (execRemovalSafe ch s) := s.onChip_keeps fun hc => hc.onChan.setChan.removeState.ite hc
theorem execRemoveRefusedBlinkEnd_keeps {ch} : s.Keeps (execRemoveRefusedBlinkEnd ch s) := s.onChip_keeps fun hc => hc.onChan.ite hc

theorem execRebuildDone_keeps {group} : s.Keeps (execRebuildDone group s) := by
  unfold execRebuildDone
  refine s.onChip_keeps fun {c₀ c} hc => ?_
  extract_lets g
  split
  · exact hc.writeStamp.setChan.onGroup.dropOps.setGroup.ite hc
  · exact hc

theorem execGroupInitDone_keeps {group} : s.Keeps (execGroupInitDone group s) :=
  s.onChip_keeps fun hc => (hc.dropOps.initEnd.tableChanged.ite (hc.dropOps.initEnd.tableChanged.onSec.sendTwin.ite hc.dropOps.initEnd.tableChanged.onSec)).ite hc

theorem execWearRelocation_keeps {ch part unit} : s.Keeps (execWearRelocation ch part unit s) := s.onChip_keeps fun hc => hc.onChan.unitOp.ite hc
theorem execMinuteTick_keeps : s.Keeps (execMinuteTick s) := s.onChip_keeps fun hc => (hc.onMed.foldl fun _ _ h => h.onChan.gmi.ite h).minuteRecord
theorem execDriftRefresh_keeps {ch part unit} : s.Keeps (execDriftRefresh ch part unit s) := s.onChip_keeps fun hc => hc.onInteg.unitOp.bump.ite hc
theorem execScrubRewrite_keeps {ch part unit} : s.Keeps (execScrubRewrite ch part unit s) := s.onChip_keeps fun hc => hc.onInteg.unitOp.ite hc
theorem execMaterialise_keeps {group slot} : s.Keeps (execMaterialise group slot s) := s.onChip_keeps fun hc => (hc.onMed.onCache fun _ => by rfl).ite hc

theorem execPatrolScrub_keeps {group outs sample st} : s.Keeps (execPatrolScrub group outs sample st s) := by
  unfold execPatrolScrub
  refine s.onChip_keeps fun {c₀ c} hc => ?_
  extract_lets g pos m u row n c1 age c2 c3 c4 c5 c6
  have h3 : c₀.Kept c3 := hc.gmi.onMed.foldl fun _ _ h => h.scrubLine
  have h4 : c₀.Kept c4 := h3.onInteg.ite h3
  have h5 : c₀.Kept c5 := by
    unfold c5
    cases sample with
    | some x => exact h4.sampleUnit
    | none => exact h4
  have h6 : c₀.Kept c6 := by
    unfold c6
    cases st with
    | some x => exact h5.statusRead
    | none => exact h5
  exact hc.ite (hc.scrubLeave.ite (hc.scrubLeave.ite (hc.ite h6.scrubLeave)))

theorem execStripeRepair_keeps {line} : s.Keeps (execStripeRepair line s) := by
  unfold execStripeRepair
  refine s.onChip_keeps fun {c₀ c} hc => ?_
  split
  · split
    · exact hc.onInteg
    · exact hc.ite hc.addOp
  · exact hc

theorem execBucketLeak_keeps : s.Keeps (execBucketLeak s) := s.onChip_keeps fun hc => (hc.foldl fun _ _ h => h.setVol).foldl fun _ _ h => h.setVol
theorem execPoisonListPersist_keeps : s.Keeps (execPoisonListPersist s) := s.onChip_keeps fun hc => hc.persistPoison

/-! ### The commands of Hbm -/

theorem execHbmTrainDone_keeps {failed found} : s.Keeps (execHbmTrainDone failed found s) := by
  unfold execHbmTrainDone
  refine s.onChip_keeps fun {c₀ c} hc => ?_
  refine hc.ite ?_
  extract_lets c1 c2 bad badIn spareBad c3
  have h2 : c₀.Kept c2 := hc.onHbm.onCacheStores fun _ _ => ⟨rfl, rfl⟩
  have h3 : c₀.Kept c3 := by
    unfold c3
    split
    · exact h2.setPc.ite h2
    · exact h2
  clear_value badIn spareBad
  split
  · exact h3.bindingRecord.onBoot
  · split
    · exact h3.rebind.setPc.setPc.bindingRecord.dramRecord.vendorRecord.onBoot
    · exact h3.setPc.onBoot
  · exact Chip.Kept.onBoot (h3.foldl fun _ _ h => h.setPc)

theorem execRetireSettled_keeps : s.Keeps (execRetireSettled s) := by
  unfold execRetireSettled
  refine s.onChip_keeps fun {c₀ c} hc => ?_
  split
  · split
    · exact hc
    · extract_lets p c1 listed c2 todo c3 c4 hold c5
      have h1 : c₀.Kept c1 := hc.rebind.setPc.dropSched
      have h2 : c₀.Kept c2 := h1.foldl fun _ _ h => h.unbuild
      have h3 : c₀.Kept c3 := h2.foldl fun _ _ h => h.foldl fun _ _ h => h.lostDirty.ite h
      have h4 : c₀.Kept c4 := h3.restartWork
      have h5 : c₀.Kept c5 := h4.onHbm
      exact h5.vendorRecord.releaseFence
  · exact hc

theorem execRetireRebuildDone_keeps : s.Keeps (execRetireRebuildDone s) := by
  unfold execRetireRebuildDone
  refine s.onChip_keeps fun {c₀ c} hc => ?_
  split
  · exact hc.ite ((hc.foldl fun _ _ h => h.buildFrame).onHbm.setPc.setVol.bindingRecord.dramRecord)
  · exact hc

theorem execSpareTest_keeps {pass} : s.Keeps (execSpareTest pass s) := by
  unfold execSpareTest
  refine s.onChip_keeps fun {c₀ c} hc => ?_
  split
  · exact hc.hbmAccess.ite hc.hbmAccess.setPc.vendorRecord.bindingRecord
  · exact hc

theorem execRefreshDue_keeps {pc stack bank} : s.Keeps (execRefreshDue pc stack bank s) := s.onChip_keeps fun hc => hc.ite hc.onHbm.peak
theorem execStackTempRead_keeps {temp} : s.Keeps (execStackTempRead temp s) := s.onChip_keeps fun hc => hc.onHbm

/-! ### The commands of CommandRows -/

theorem execCreate_keeps {path entry} : s.Keeps (execCreate path entry s) := s.onChip_keeps fun hc => hc.command
theorem execDestroy_keeps {path entry} : s.Keeps (execDestroy path entry s) := s.onChip_keeps fun hc => hc.command
theorem execSetAttr_keeps {path entry} : s.Keeps (execSetAttr path entry s) := s.onChip_keeps fun hc => hc.command
theorem execQuery_keeps {path entry} : s.Keeps (execQuery path entry s) := s.onChip_keeps fun hc => hc.command
theorem execResize_keeps {path entry} : s.Keeps (execResize path entry s) := s.onChip_keeps fun hc => hc.command
theorem execMove_keeps {path entry} : s.Keeps (execMove path entry s) := s.onChip_keeps fun hc => hc.command
theorem execPin_keeps {path entry} : s.Keeps (execPin path entry s) := s.onChip_keeps fun hc => hc.command
theorem execUnpin_keeps {path entry} : s.Keeps (execUnpin path entry s) := s.onChip_keeps fun hc => hc.command
theorem execPromote_keeps {path entry} : s.Keeps (execPromote path entry s) := s.onChip_keeps fun hc => hc.command
theorem execEvict_keeps {path entry} : s.Keeps (execEvict path entry s) := s.onChip_keeps fun hc => hc.command
theorem execZero_keeps {path entry} : s.Keeps (execZero path entry s) := s.onChip_keeps fun hc => hc.command
theorem execReelOpen_keeps {path entry} : s.Keeps (execReelOpen path entry s) := s.onChip_keeps fun hc => hc.command
theorem execReelJoin_keeps {path entry} : s.Keeps (execReelJoin path entry s) := s.onChip_keeps fun hc => hc.command
theorem execReelAdvance_keeps {path entry} : s.Keeps (execReelAdvance path entry s) := s.onChip_keeps fun hc => hc.command
theorem execReelLeave_keeps {path entry} : s.Keeps (execReelLeave path entry s) := s.onChip_keeps fun hc => hc.command

theorem execDestroyReleaseDone_keeps {obj} : s.Keeps (execDestroyReleaseDone obj s) := by
  unfold execDestroyReleaseDone
  refine s.onChip_keeps fun {c₀ c} hc => ?_
  split
  · exact (hc.discardSegs.clearPoisonRange.freeSlots.delObj.foldl fun _ _ h => h.finish).settle.ite hc
  · exact hc

theorem execCommandResultWritten_keeps {cmd} : s.Keeps (execCommandResultWritten cmd s) := by
  unfold execCommandResultWritten
  refine s.onChip_keeps fun {c₀ c} hc => ?_
  split
  · exact hc
  · extract_lets c1
    have h1 : c₀.Kept c1 := hc.cmdCheck
    split
    · exact h1
    · split
      · exact h1
      · exact h1.ite h1.deliver

theorem execCommandUnreachableTimeout_keeps {cmd} : s.Keeps (execCommandUnreachableTimeout cmd s) := by
  unfold execCommandUnreachableTimeout
  refine s.onChip_keeps fun {c₀ c} hc => ?_
  split
  · exact hc
  · exact hc.finish.dropFwdCmd.ite hc

theorem execCueTail_keeps {h tail} : s.Keeps (execCueTail h tail s) := s.onChip_keeps fun hc => hc.cueTail.ite hc
theorem execCueReset_keeps {h} : s.Keeps (execCueReset h s) := s.onChip_keeps fun hc => hc.cueReset.ite hc
theorem execCueResetDone_keeps {h} : s.Keeps (execCueResetDone h s) := s.onChip_keeps fun hc => (hc.onHead fun _ => by rfl).ite hc
theorem execCueCoalesceExpired_keeps {h} : s.Keeps (execCueCoalesceExpired h s) := s.onChip_keeps fun hc => (hc.onHead fun _ => by rfl).emit.ite hc
theorem execReelStallTimeout_keeps {reel reader} : s.Keeps (execReelStallTimeout reel reader s) := s.onChip_keeps fun hc => hc.dropReader

theorem execReelPrefetch_keeps {reel pos} : s.Keeps (execReelPrefetch reel pos s) := by
  unfold execReelPrefetch
  refine s.onChip_keeps fun {c₀ c} hc => ?_
  split
  · exact hc
  · exact hc.ite ((hc.sendTwin.ite hc).ite (hc.bringInHold.onReel.ite hc.bringInHold))

/-! ### The commands of Dolly -/

theorem execGranuleOpen_keeps {gran pinRoom} : s.Keeps (execGranuleOpen gran pinRoom s) := by
  unfold execGranuleOpen
  refine s.onChip_keeps fun {c₀ c} hc => ?_
  split
  · refine hc.ite ?_
    extract_lets key base c1
    have h1 : c₀.Kept c1 := hc.onDolly
    split
    · exact h1.openMove
    · exact h1.stopCmd.ite (h1.stopCmd.ite h1.openMove.sendTwin)
    · exact h1.stopCmd.ite (h1.stopCmd.ite h1.openMove.sendTwin)
    · split
      · exact h1.stopCmd
      · exact h1.cleanSlot.openMove
    · split
      · exact h1.stopCmd
      · exact h1.cleanSlot.openMove
  · exact hc

theorem execSegmentClaim_keeps {seg pair bad} : s.Keeps (execSegmentClaim seg pair bad s) := by
  unfold execSegmentClaim
  refine s.onChip_keeps fun {c₀ c} hc => ?_
  split
  · exact hc
  · next o _ =>
    extract_lets segs lines suspects fresh c1 lost declared c2 c3 c4 c5 c6
    have h1 : c₀.Kept c1 := (hc.foldl fun _ _ h => h.gmi).ite hc
    have h3 : c₀.Kept c3 := (h1.foldl fun _ _ h => h.declare).onGran
    have h4 : c₀.Kept c4 := h3.foldl fun _ _ h => h.setStage
    have h6 : c₀.Kept c6 := (h4.foldl fun _ _ h => h.readCopy).bump
    refine hc.ite ((hc.foldl fun _ _ h => h.setStage).ite ((h1.foldl fun _ _ h => h.detect).onGran.ite (h1.ite ?_)))
    split
    · exact h6.ite h6.newOp.onOp
    · exact h6.foldl fun _ _ h => h.sendTwin

theorem execSegmentCopied_keeps {seg} : s.Keeps (execSegmentCopied seg s) := by
  unfold execSegmentCopied
  refine s.onChip_keeps fun {c₀ c} hc => ?_
  split
  · exact hc.setStage.ite hc
  · exact hc

theorem execSegmentSwitch_keeps {seg} : s.Keeps (execSegmentSwitch seg s) := by
  unfold execSegmentSwitch
  refine s.onChip_keeps fun {c₀ c} hc => ?_
  split
  · exact hc
  · split
    · exact hc
    · split
      · exact hc.onGran.sendTwin
      · exact hc.onGran.sendTwin
      · exact hc.setStage.bump
      · exact hc.setStage.setWritten.bump
      · exact hc.setStage.setWritten.bump

theorem execGranuleCommit_keeps {gran} : s.Keeps (execGranuleCommit gran s) := by
  unfold execGranuleCommit
  refine s.onChip_keeps fun {c₀ c} hc => ?_
  split
  · exact hc
  · next o _ =>
    refine hc.ite (hc.rollback.stopCmd.evacCheck.ite (hc.ite (Chip.Kept.ite ?_ (hc.ite ?_))))
    · split
      · exact hc.commitSlot
      · exact hc
    · extract_lets c1 m s1 s2 r c2 c3 c4 c5
      have h1 : c₀.Kept c1 := by
        unfold c1
        split
        · exact hc.onCmd
        · exact hc
      have h2 : c₀.Kept c2 := by
        unfold c2
        split
        · split
          · exact h1
          · exact h1.releaseSlot.sendTwin
        · split
          · exact h1
          · exact h1.releaseSlot.sendTwin
        · exact h1.onMed.releaseSlot.setRoute.sendTwin.sendTwin
        · exact h1.setRoute.sendTwin.sendTwin
        · exact h1.unstale
      have h3 : c₀.Kept c3 := h2.closeMove.rekeyDone
      have h4 : c₀.Kept c4 := by
        unfold c4
        split
        · exact h3.fixSgroup
        · exact h3.fixSgroup
        · exact h3
      exact (h4.stopCmd.ite h4).evacCheck.autoFailback

theorem execPinMoveSwitch_keeps {seg} : s.Keeps (execPinMoveSwitch seg s) := by
  unfold execPinMoveSwitch
  refine s.onChip_keeps fun {c₀ c} hc => ?_
  split
  · exact hc
  · split
    · exact hc
    · extract_lets c1 c2 c3 c4
      have h1 : c₀.Kept c1 := hc.pinSwitch.ite hc.unpinSwitch
      have h2 : c₀.Kept c2 := h1.onDolly
      have h3 : c₀.Kept c3 := by
        unfold c3
        split
        · exact h2.descInval
        · exact h2
      have h4 : c₀.Kept c4 := h3.bump
      exact h4.onObj.settle

theorem execMovePrep_keeps {hdr} : s.Keeps (execMovePrep hdr s) := by
  unfold execMovePrep
  refine s.onChip_keeps fun {c₀ c} hc => ?_
  refine hc.ctlIn fun d hd => ?_
  extract_lets seg
  split
  · exact hd.sendTwin
  · exact hd.sendTwin.ite hd.onGran.sendTwin

theorem execMoveParked_keeps {hdr count} : s.Keeps (execMoveParked hdr count s) := by
  unfold execMoveParked
  refine s.onChip_keeps fun {c₀ c} hc => ?_
  refine hc.ctlIn fun d hd => ?_
  extract_lets seg
  split
  · exact hd.ite hd.onGran.settleMoves
  · exact hd

theorem execMoveHandover_keeps {hdr bitmap dirty poison lines} : s.Keeps (execMoveHandover hdr bitmap dirty poison lines s) := by
  unfold execMoveHandover
  refine s.onChip_keeps fun {c₀ c} hc => ?_
  refine hc.ctlIn fun d hd => ?_
  extract_lets seg
  split
  · exact hd
  · extract_lets since c1 c2 c3 c4
    have h1 : c₀.Kept c1 := hd.onGran.setWritten
    have h2 : c₀.Kept c2 := by
      unfold c2
      split
      · exact h1.setFrame
      · exact h1
    have h3 : c₀.Kept c3 := h1.becomeLocal.ite (h2.foldl fun _ _ h => h.placeHanded)
    have h4 : c₀.Kept c4 := h3.peak.serveParked.sendTwin
    exact h4.evalSquall

theorem execMoveDone_keeps {hdr} : s.Keeps (execMoveDone hdr s) := by
  unfold execMoveDone
  refine s.onChip_keeps fun {c₀ c} hc => ?_
  refine hc.ctlIn fun d hd => ?_
  extract_lets seg
  split
  · exact hd
  · have h1 : c₀.Kept (d.unholdSeg seg) := hd.unholdSeg
    exact hd.ite (h1.becomeHeld.ite (h1.foldl fun _ _ h => h.freeFrame)).settle

theorem execMoveAbort_keeps {hdr} : s.Keeps (execMoveAbort hdr s) := by
  unfold execMoveAbort
  refine s.onChip_keeps fun {c₀ c} hc => ?_
  refine hc.ctlIn fun d hd => ?_
  extract_lets seg
  split
  · exact hd.ite hd.onGran
  · exact hd

theorem execMovePrepRetry_keeps {seg} : s.Keeps (execMovePrepRetry seg s) := by
  unfold execMovePrepRetry
  refine s.onChip_keeps fun {c₀ c} hc => ?_
  split
  · exact hc.onGran.sendTwin.ite hc
  · exact hc

/-! ### The commands of TwinRows -/

theorem execTwinLinkUp_keeps : s.Keeps (execTwinLinkUp s) := s.onChip_keeps fun hc => hc.ite hc.onTwin
theorem execTwinLinkDown_keeps : s.Keeps (execTwinLinkDown s) := s.onChip_keeps fun hc => hc.lostLink
theorem execFwdRead_keeps {hdr ev} : s.Keeps (execFwdRead hdr ev s) := s.onChip_keeps fun hc => hc.reqIn (fun _ h => h.serveForward)
theorem execFwdWrite_keeps {hdr data mask ev} : s.Keeps (execFwdWrite hdr data mask ev s) :=
  s.onChip_keeps fun hc => hc.reqIn (fun _ h => h.serveForward)

theorem execFwdData_keeps {hdr data} : s.Keeps (execFwdData hdr data s) := by
  unfold execFwdData
  refine s.onChip_keeps fun {c₀ c} hc => ?_
  refine hc.anyIn fun d hd => ?_
  split
  · next r e h => exact (hd.takeFwd h).completeRead
  · exact hd

theorem execFwdAck_keeps {hdr} : s.Keeps (execFwdAck hdr s) := by
  unfold execFwdAck
  refine s.onChip_keeps fun {c₀ c} hc => ?_
  refine hc.anyIn fun d hd => ?_
  split
  · next r e h =>
    have he : c₀.Kept e := hd.takeFwd h
    exact (he.requestRecord.ite he).ackWrite
  · exact hd

theorem execFwdCmd_keeps {hdr entry} : s.Keeps (execFwdCmd hdr entry s) := s.onChip_keeps fun hc => hc.reqIn fun _ hd => hd.command

theorem execFwdCmdResult_keeps {hdr result} : s.Keeps (execFwdCmdResult hdr result s) := by
  unfold execFwdCmdResult
  refine s.onChip_keeps fun {c₀ c} hc => ?_
  refine hc.anyIn fun d hd => ?_
  split
  · exact hd
  · exact hd.onCmd.dropFwdCmd

theorem execMirrorWrite_keeps {hdr data mask} : s.Keeps (execMirrorWrite hdr data mask s) :=
  s.onChip_keeps fun hc => hc.reqIn (fun _ h => h.mirrorArrives)

theorem execMirrorCommit_keeps {hdr} : s.Keeps (execMirrorCommit hdr s) := by
  unfold execMirrorCommit
  refine s.onChip_keeps fun {c₀ c} hc => ?_
  refine hc.anyIn fun d hd => ?_
  split
  · exact hd
  · exact hd.onTwin.ackWrite.settleTwin

theorem execMirrorResend_keeps {hdr} : s.Keeps (execMirrorResend hdr s) := s.onChip_keeps fun hc => hc.ctlIn (fun _ h => h.takeTag.sendTwin.ite h)
theorem execMirrorFetch_keeps {hdr bad} : s.Keeps (execMirrorFetch hdr bad s) :=
  s.onChip_keeps fun hc => hc.reqIn (fun _ h => (h.foldl fun _ _ h => h.addPoison).sendTwin.ite ((h.addPoison.ite h).sendTwin))

theorem execMirrorData_keeps {hdr lines bitmap poison} : s.Keeps (execMirrorData hdr lines bitmap poison s) := by
  unfold execMirrorData
  refine s.onChip_keeps fun {c₀ c} hc => ?_
  refine hc.anyIn fun d hd => ?_
  split
  · exact hd.refill.ite hd.takeCopy
  · split
    · next m _ _ _ _ =>
      refine hd.ite (hd.declare.ite ?_)
      extract_lets c1 c2
      have h1 : c₀.Kept c1 := hd.ite hd.bump
      have h2 : c₀.Kept c2 := by
        unfold c2
        split
        · exact h1.queueRepairs
        · exact h1
      exact h2.gotLine
    · exact hd

theorem execHeartbeat_keeps {hdr pair lease remaining} : s.Keeps (execHeartbeat hdr pair lease remaining s) :=
  s.onChip_keeps fun hc => hc.ctlIn (fun _ h => h.onTwin)

theorem execHeartbeatSend_keeps : s.Keeps (execHeartbeatSend s) := s.onChip_keeps fun hc => hc.sendHeartbeat
theorem execProbe_keeps : s.Keeps (execProbe s) := s.onChip_keeps fun hc => hc.anyIn (fun _ h => h.sendHeartbeat)
theorem execHello_keeps {h} : s.Keeps (execHello h s) := s.onChip_keeps fun hc => hc.anyIn fun _ hd => hd.onTwin.sendHello.tryForm

theorem execPairAccept_keeps {position epoch} : s.Keeps (execPairAccept position epoch s) := by
  unfold execPairAccept
  refine s.onChip_keeps fun {c₀ c} hc => ?_
  refine hc.anyIn fun d hd => ?_
  extract_lets c1
  have h1 : c₀.Kept c1 := hd.onTwin
  split
  · exact h1.tryRejoin.ite h1.tryForm
  · exact h1.tryRejoin.ite h1.tryForm
  · exact h1.tryRejoin
  · exact h1.tryRejoin
  · exact h1.onTwin

theorem execPairRefuse_keeps {cause} : s.Keeps (execPairRefuse cause s) := by
  unfold execPairRefuse
  refine s.onChip_keeps fun {c₀ c} hc => ?_
  refine hc.anyIn fun d hd => ?_
  split
  · exact hd
  · exact hd
  · exact hd.refused

/-! ### The commands of TableRows -/

theorem execTableUpdate_keeps {hdr u} : s.Keeps (execTableUpdate hdr u s) := s.onChip_keeps fun hc => hc.ctlIn (fun _ h => h.tableUpd)
theorem execDescInval_keeps {hdr obj} : s.Keeps (execDescInval hdr obj s) := s.onChip_keeps fun hc => hc.ctlIn (fun _ h => (h.onCache fun _ => by rfl))
theorem execPoisonShadow_keeps {hdr line len src remove} : s.Keeps (execPoisonShadow hdr line len src remove s) :=
  s.onChip_keeps fun hc => hc.ctlIn (fun _ h => h.onInteg)

theorem execTimestamp_keeps {hdr value} : s.Keeps (execTimestamp hdr value s) := s.onChip_keeps fun hc => hc.ctlIn (fun _ h => h.setStamp)
theorem execSquallNote_keeps {hdr state} : s.Keeps (execSquallNote hdr state s) := s.onChip_keeps fun hc => hc.ctlIn (fun _ h => (h.onCache fun _ => by rfl).settle)
theorem execHandoverBegin_keeps {hdr} : s.Keeps (execHandoverBegin hdr s) := s.onChip_keeps fun hc => hc.ctlIn (fun _ h => h.onTwin.sendTwin)
theorem execHandoverParked_keeps {hdr count} : s.Keeps (execHandoverParked hdr count s) :=
  s.onChip_keeps fun hc => hc.ctlIn (fun _ h => h.onTwin.settleHand.ite h)

theorem execHandoverState_keeps {hdr epoch} : s.Keeps (execHandoverState hdr epoch s) :=
  s.onChip_keeps fun hc => hc.ctlIn (fun _ h => h.ite ((((((h.setEpoch.onCache fun _ => by rfl).foldl fun _ _ h => h.installObj).onTwin).routeAll).sendTwin).dueRehearsal))

theorem execHandoverDone_keeps {hdr} : s.Keeps (execHandoverDone hdr s) :=
  s.onChip_keeps fun hc => hc.ctlIn (fun _ h => h.ite (h.onTwin.routeAll.logTakeover.dueRehearsal.sendWitness.setLease.fence.ite h.onTwin.routeAll.logTakeover.dueRehearsal.sendWitness))

theorem execStaleSet_keeps {granules final} : s.Keeps (execStaleSet granules final s) := by
  unfold execStaleSet
  refine s.onChip_keeps fun {c₀ c} hc => ?_
  refine hc.anyIn fun d hd => ?_
  split
  · exact hd
  · exact hd
  · have h1 : c₀.Kept (granules.foldl (fun c g => c.markStale g) d) := hd.foldl fun _ _ h => h.markStale
    exact h1.ite (h1.onTwin.dropOrphans.sendStale.ite h1.onTwin).tryRejoin

theorem execMirrorAuditStart_keeps : s.Keeps (execMirrorAuditStart s) := by
  unfold execMirrorAuditStart
  refine s.onChip_keeps fun {c₀ c} hc => ?_
  split
  · exact hc
  · extract_lets l
    split
    · exact hc
    · exact hc.onTwin.setVol.ite hc.onTwin.setVol.takeTag.onTwin.auditReads.sendTwin

theorem execAuditReq_keeps {hdr gran} : s.Keeps (execAuditReq hdr gran s) :=
  s.onChip_keeps fun hc => hc.reqIn (fun _ h => h.ite h.auditReads.sendTwin)

theorem execAuditSum_keeps {hdr digest} : s.Keeps (execAuditSum hdr digest s) := by
  unfold execAuditSum
  refine s.onChip_keeps fun {c₀ c} hc => ?_
  refine hc.anyIn fun d hd => ?_
  split
  · exact hd
  · refine hd.ite (hd.onTwin.ite ?_)
    extract_lets c1
    have h1 : c₀.Kept c1 := hd.onTwin.markStale.vendorRecord.bump
    split
    · exact h1.enqueue
    · exact h1

/-! ### The commands of WitnessRows -/

theorem execPulseToggle_keeps : s.Keeps (execPulseToggle s) := s.onChip_keeps fun hc => hc.onTwin
theorem execPulseLoss_keeps : s.Keeps (execPulseLoss s) :=
  s.onChip_keeps fun hc => hc.ite (hc.onTwin.bump.onTwin.sendTwin.vendorRecord.ite hc.onTwin.bump)

theorem execPulseRestored_keeps : s.Keeps (execPulseRestored s) := s.onChip_keeps fun hc => hc.onTwin
theorem execLinkSilenceTimeout_keeps : s.Keeps (execLinkSilenceTimeout s) := s.onChip_keeps fun hc => hc.lostLink
theorem execProbeTimeout_keeps : s.Keeps (execProbeTimeout s) := s.onChip_keeps fun hc => hc.lostLink.ite hc
theorem execRegister_keeps : s.Keeps (execRegister s) := s.onChip_keeps fun hc => hc.ite hc.sendWitness
theorem execRegisterResend_keeps : s.Keeps (execRegisterResend s) := s.onChip_keeps fun hc => hc.sendWitness.ite hc
theorem execRenewSend_keeps : s.Keeps (execRenewSend s) := s.onChip_keeps fun hc => hc.ite (hc.fence.ite (hc.sendRenew.sendRenew.ite hc.sendRenew))
theorem execRenewAck_keeps {f renew} : s.Keeps (execRenewAck f renew s) := s.onChip_keeps fun hc => hc.renewAck.ite (hc.sendTwin.ite hc)
theorem execRenewRelay_keeps {hdr f renew} : s.Keeps (execRenewRelay hdr f renew s) :=
  s.onChip_keeps fun hc => hc.ctlIn (fun _ h => h.emit.ite (h.renewAck.ite h))

theorem execRenewAckTimeout_keeps {seq} : s.Keeps (execRenewAckTimeout seq s) := s.onChip_keeps fun hc => hc.onWit.bump.ite hc

theorem execLeaseFenceDeadline_keeps : s.Keeps (execLeaseFenceDeadline s) := by
  unfold execLeaseFenceDeadline
  refine s.onChip_keeps fun {c₀ c} hc => ?_
  split
  · exact hc
  · split
    · exact hc.setLease.ite hc.fence
    · exact hc.setLease.ite hc.fence
    · exact hc.setLease.ite hc.fence
    · exact hc

theorem execVerdictGrant_keeps {epoch} : s.Keeps (execVerdictGrant epoch s) := s.onChip_keeps fun hc => hc.takeover.ite hc
theorem execVerdictSplit_keeps : s.Keeps (execVerdictSplit s) := s.onChip_keeps fun hc => hc.split.ite hc.onWit
theorem execVerdictDeny_keeps {drill} : s.Keeps (execVerdictDeny drill s) :=
  s.onChip_keeps fun hc => (hc.endRehearsal.ite hc).ite (hc.onWit.onBoot.ite hc.onWit)

theorem execVerdictDrillOk_keeps : s.Keeps (execVerdictDrillOk s) := s.onChip_keeps fun hc => hc.endRehearsal.ite hc
theorem execPoisonNote_keeps {seq lines} : s.Keeps (execPoisonNote seq lines s) := s.onChip_keeps fun hc => (hc.foldl fun _ _ h => h.markLine).emit
theorem execPoisonAck_keeps {seq} : s.Keeps (execPoisonAck seq s) := s.onChip_keeps fun hc => hc.unnote.foldl fun _ _ h => h.denyRequest

theorem execPoisonAckTimeout_keeps {seq} : s.Keeps (execPoisonAckTimeout seq s) := by
  unfold execPoisonAckTimeout
  refine s.onChip_keeps fun {c₀ c} hc => ?_
  refine hc.unnote.foldl fun _ _ h => ?_
  split
  · exact h.headDown.ite h
  · exact h

theorem execRouteMapRewriteDone_keeps : s.Keeps (execRouteMapRewriteDone s) := s.onChip_keeps fun hc => hc.rewriteRoutes.ite hc

theorem execHoldExpired_keeps {mirror i} : s.Keeps (execHoldExpired mirror i s) := by
  unfold execHoldExpired
  refine s.onChip_keeps fun {c₀ c} hc => ?_
  split
  · exact hc
  · split
    · split
      · exact hc
      · exact hc.onTwin.expireHeld
    · split
      · exact hc
      · exact hc.onTwin.expireHeld.refillHold

theorem execRehearsalDue_keeps {holdOk replicaOk} : s.Keeps (execRehearsalDue holdOk replicaOk s) := s.onChip_keeps fun hc => hc.ite hc.wantRehearsal
theorem execRehearsalTimeout_keeps : s.Keeps (execRehearsalTimeout s) := s.onChip_keeps fun hc => hc.endRehearsal.ite hc

/-! ### The commands of HeadRows -/

theorem execHostRead_keeps {h hpa tag ideOk ev} : s.Keeps (execHostRead h hpa tag ideOk ev s) := s.onChip_keeps fun hc => hc.hostRequest
theorem execHostWrite_keeps {h hpa tag data mask poison ideOk ev} : s.Keeps (execHostWrite h hpa tag data mask poison ideOk ev s) :=
  s.onChip_keeps fun hc => hc.hostRequest

theorem execPerstAssert_keeps {h} : s.Keeps (execPerstAssert h s) := s.onChip_keeps fun hc => (hc.headEvent.headDown.onHead fun _ => by rfl).ite hc
theorem execPerstDeassert_keeps {h} : s.Keeps (execPerstDeassert h s) := s.onChip_keeps fun hc => hc.ite (((hc.onHead fun _ => by rfl).onHead fun _ => by rfl).ite (hc.onHead fun _ => by rfl))
theorem execHeadLinkUp_keeps {h rate width flit256} : s.Keeps (execHeadLinkUp h rate width flit256 s) :=
  s.onChip_keeps fun hc => hc.ite (hc.onHead fun _ => by rfl).emit.offerExtents

theorem execHeadLinkDown_keeps {h} : s.Keeps (execHeadLinkDown h s) := s.onChip_keeps fun hc => hc.headDown.ite hc
theorem execRecoveryTimeout_keeps {h} : s.Keeps (execRecoveryTimeout h s) := s.onChip_keeps fun hc => hc.headDown.ite hc
theorem execL0StabilityTimeout_keeps {h} : s.Keeps (execL0StabilityTimeout h s) := s.onChip_keeps fun hc => hc.headDown.ite hc
theorem execHdmCommit_keeps {h i base size dpa ways gran lock} : s.Keeps (execHdmCommit h i base size dpa ways gran lock s) :=
  s.onChip_keeps fun hc => hc.ite (hc.onHead fun _ => by rfl)

theorem execCdatRead_keeps {r} : s.Keeps (execCdatRead r s) := s.onChip_keeps fun hc => hc.emit.emit.ite hc
theorem execGpfPhase1_keeps : s.Keeps (execGpfPhase1 s) := s.onChip_keeps fun hc => hc.gpf
theorem execGpfPhase2_keeps : s.Keeps (execGpfPhase2 s) := s.onChip_keeps fun hc => hc.gpf

/-! ### The commands of LedgerRows -/

theorem execLedgerPageWriteDone_keeps {ns} : s.Keeps (execLedgerPageWriteDone ns s) := by
  unfold execLedgerPageWriteDone
  refine s.onChip_keeps fun {c₀ c} hc => ?_
  split
  · exact hc
  · exact (hc.pageDone.peak.onLedger fun _ => by rfl).wrapAbandons.onLedger Ledger.issue_cells

theorem execLedgerTimeout_keeps : s.Keeps (execLedgerTimeout s) := s.onChip_keeps fun hc => hc.onLedger fun _ => by rfl
theorem execRefreshPassDue_keeps : s.Keeps (execRefreshPassDue s) := s.onChip_keeps fun hc => hc.ite hc.startRefresh

theorem execRefreshPage_keeps {rewrite ce ue} : s.Keeps (execRefreshPage rewrite ce ue s) := by
  unfold execRefreshPage
  refine s.onChip_keeps fun {c₀ c} hc => ?_
  split
  · exact hc
  · extract_lets page c1 c2 c3 last c4 c5
    have h1 : c₀.Kept c1 := hc.bump.bump
    have h2 : c₀.Kept c2 := h1.unreadable
    have h3 : c₀.Kept c3 := h2.pageWrite.bump.ite h2
    have h4 : c₀.Kept c4 := h3.onLedger fun _ => by rfl
    have h5 : c₀.Kept c5 := h4.setVol.ite h4
    exact h5.refreshRecord.ite h5

/-! ### The commands of Reserve -/

theorem execBudgetCompute_keeps : s.Keeps (execBudgetCompute s) := by
  unfold execBudgetCompute
  refine s.onChip_keeps fun {c₀ c} hc => ?_
  extract_lets asserted c1 e b c2 c3
  have h1 : c₀.Kept c1 := hc.onPwr.ite hc
  have h2 : c₀.Kept c2 := h1.onRes
  have h3 : c₀.Kept c3 := h2.enterSelfRefresh
  exact h1.ite ((h3.persistWrap.ite h3).ite (h2.ite ((h2.onRes.publish.ite h2).ite (h2.publish.ite ((h2.publish.ite h2.onRes).ite h2.onRes)))))

theorem execReserveLostTimeout_keeps : s.Keeps (execReserveLostTimeout s) := s.onChip_keeps fun hc => hc.triggerWrap.ite hc
theorem execProbeStart_keeps : s.Keeps (execProbeStart s) := s.onChip_keeps fun hc => hc.startProbe
theorem execProbeBudgetReady_keeps {deferOver} : s.Keeps (execProbeBudgetReady deferOver s) :=
  s.onChip_keeps fun hc => (hc.onRes.publish.ite hc.onRes).ite hc

theorem execProbeDischarge_keeps {dropMv loadMa} : s.Keeps (execProbeDischarge dropMv loadMa s) :=
  s.onChip_keeps fun hc => (hc.setProbeEn.choose.ite hc.setProbeEn).onRes.ite hc

theorem execProbeStepEnd_keeps {fallMv us chargeUc} : s.Keeps (execProbeStepEnd fallMv us chargeUc s) :=
  s.onChip_keeps fun hc => hc.ite ((hc.choose.ite hc).setProbeEn.onRes.bump.snapshot.ite ((hc.choose.ite hc).setProbeEn.onRes.bump.snapshot.storeAll))

/-! ### The commands of PowerRows -/

theorem execPowerUpStart_keeps : s.Keeps (execPowerUpStart s) := by
  unfold execPowerUpStart
  refine s.onChip_keeps fun {c₀ c} hc => ?_
  extract_lets pulsed c1
  have h1 : c₀.Kept c1 := hc.onPwr
  split
  · exact h1.beginUp.ite h1
  · exact h1.beginUp.ite h1
  · exact h1.onBoot.leaveReset.ite h1
  · exact h1

theorem execUpStepDone_keeps : s.Keeps (execUpStepDone s) := by
  unfold execUpStepDone
  refine s.onChip_keeps fun {c₀ c} hc => ?_
  split
  · exact hc
  · split
    · exact hc.runUp
    · exact hc.railsUp

theorem execRampTimeout_keeps {n} : s.Keeps (execRampTimeout n s) := s.onChip_keeps fun hc => hc.ite (hc.onRail.ite hc.railFault)
theorem execDownStepDone_keeps : s.Keeps (execDownStepDone s) := s.onChip_keeps fun hc => hc.stepDown.ite hc
theorem execOffTimeout_keeps {n} : s.Keeps (execOffTimeout n s) :=
  s.onChip_keeps fun hc => hc.ite ((hc.recordFault.ite hc).onRail.stepDown.ite ((hc.recordFault.ite hc).onRail))

theorem execPowerDownStuck_keeps : s.Keeps (execPowerDownStuck s) := by
  unfold execPowerDownStuck
  refine s.onChip_keeps fun {c₀ c} hc => ?_
  split
  · exact hc.ite (hc.onPwr.snapshot.ite hc.lockout)
  · exact hc.ite (hc.onPwr.snapshot.ite hc.lockout)
  · exact hc

theorem execAdcSample_keeps {input} : s.Keeps (execAdcSample input s) := by
  unfold execAdcSample
  refine s.onChip_keeps fun {c₀ c} hc => ?_
  split
  · exact hc.railSample
  · exact hc.bankSample
  · exact hc.dieSample

theorem execPgChange_keeps {n level edges} : s.Keeps (execPgChange n level edges s) :=
  s.onChip_keeps fun hc => hc.onRail.ite (hc.onRail.railFault.ite (hc.onRail.railFault.ite hc.onRail.takeGood))

theorem execRailRetryTimer_keeps {n} : s.Keeps (execRailRetryTimer n s) := s.onChip_keeps fun hc => hc.onRail.ite hc
theorem execRetryWaitDone_keeps : s.Keeps (execRetryWaitDone s) := s.onChip_keeps fun hc => hc.onPwr.retry.ite hc
theorem execRetryCountReset_keeps : s.Keeps (execRetryCountReset s) := s.onChip_keeps fun hc => hc.onPwr.ite hc
theorem execResetNLow_keeps : s.Keeps (execResetNLow s) := s.onChip_keeps fun hc => hc.onPwr.triggerWrap.ite hc.onPwr

theorem execSeqFaultSeen_keeps : s.Keeps (execSeqFaultSeen s) := by
  unfold execSeqFaultSeen
  refine s.onChip_keeps fun {c₀ c} hc => ?_
  extract_lets c1
  have h1 : c₀.Kept c1 := hc.onPwr
  split
  · split
    · exact h1
    · exact h1.snapshot.systemReset
    · exact h1.snapshot.foldl fun _ _ h => h.groupOff
  · split
    · exact h1
    · exact h1.snapshot.systemReset
    · exact h1.snapshot.foldl fun _ _ h => h.groupOff
  · exact h1

theorem execVauxCollapse_keeps {k} : s.Keeps (execVauxCollapse k s) := by
  unfold execVauxCollapse
  refine s.onChip_keeps fun {c₀ c} hc => ?_
  extract_lets c1 c2
  have h1 : c₀.Kept c1 := by
    refine hc.onLedgerCells fun h => ?_
    split
    · exact Memory.wf_write _ _ _ h
    · exact h
  have h2 : c₀.Kept c2 := h1.mainReset
  exact ⟨h2.id, h2.stores⟩

/-! ### The commands of WrapRows -/

theorem execPowerLoss_keeps : s.Keeps (execPowerLoss s) := s.onChip_keeps fun hc => hc.onPwr.triggerWrap
theorem execRefclkLost_keeps : s.Keeps (execRefclkLost s) :=
  s.onChip_keeps fun hc => (hc.onClk.triggerWrap.foldl fun _ _ h => h.headDown.ite h).twinDown

theorem execRefclkRestored_keeps : s.Keeps (execRefclkRestored s) := s.onChip_keeps fun hc => hc.onClk.leaveReset.ite hc.onClk
theorem execGafferWatchdog_keeps : s.Keeps (execGafferWatchdog s) := s.onChip_keeps fun hc => hc.onPwr.triggerWrap

theorem execWrapSettled_keeps : s.Keeps (execWrapSettled s) := by
  unfold execWrapSettled
  refine s.onChip_keeps fun {c₀ c} hc => ?_
  split
  · exact hc.persistWrap
  · exact hc.ite ((hc.foldl fun _ _ h => h.memberMissing).checkpoint.ite ((hc.foldl fun _ _ h => h.memberMissing).dropSched.enterSelfRefresh.setWrap))

theorem execWrapDrained_keeps : s.Keeps (execWrapDrained s) := s.onChip_keeps fun hc => hc.persistWrap.ite hc

theorem execWrapPersisted_keeps : s.Keeps (execWrapPersisted s) := by
  unfold execWrapPersisted
  refine s.onChip_keeps fun {c₀ c} hc => ?_
  split
  · exact hc
  · extract_lets c1 c2
    have h1 : c₀.Kept c1 := hc.restChannels.setWrap
    have h2 : c₀.Kept c2 := h1.ite h1.countNow
    exact h2.mainReset.onWrap.onPwr.ite h2.powerDown

theorem execWrapResume_keeps : s.Keeps (execWrapResume s) := by
  unfold execWrapResume
  refine s.onChip_keeps fun {c₀ c} hc => ?_
  split
  · exact hc
  · extract_lets c1 c2 c3 c4
    have h1 : c₀.Kept c1 := hc.onPwr.setWrap
    have h2 : c₀.Kept c2 := h1.restChannels.onRes
    have h3 : c₀.Kept c3 := h2.onWrap.emptyScratch
    have h4 : c₀.Kept c4 := h3.onDolly
    split
    · exact h4.setPair.sendWitness
    · exact h4.setPair.sendWitness
    · exact h4.setPair.sendWitness
    · exact h4.setPair.sendWitness
    · exact h4.raiseHeads.setWrap.sendWitness
    · exact h4.raiseHeads.setWrap
    · exact h4.raiseHeads.setWrap

theorem execWrapRestart_keeps : s.Keeps (execWrapRestart s) := s.onChip_keeps fun hc => hc.ite (hc.retry.ite hc.onPwr.beginUp)
theorem execDirtyMapCheckpoint_keeps : s.Keeps (execDirtyMapCheckpoint s) := s.onChip_keeps fun hc => hc.checkpoint.ite hc
theorem execWrapRecordHourly_keeps : s.Keeps (execWrapRecordHourly s) := s.onChip_keeps fun hc => hc.wrapRecord.ite hc
theorem execSnapshotCopy_keeps : s.Keeps (execSnapshotCopy s) := s.onChip_keeps fun hc => hc.copySnapshot.ite hc

/-! ### The commands of Security -/

theorem execDrbgHealthFail_keeps : s.Keeps (execDrbgHealthFail s) := s.onChip_keeps fun hc => hc.onSec
theorem execDrbgReseed_keeps : s.Keeps (execDrbgReseed s) := s.onChip_keeps fun hc => hc.onSec.ite hc

theorem execIdeCounterExhausted_keeps {h tx} : s.Keeps (execIdeCounterExhausted h tx s) := by
  unfold execIdeCounterExhausted
  refine s.onChip_keeps fun {c₀ c} hc => ?_
  refine hc.ite (Chip.Kept.ideStop (hc.onHead fun _ => ?_))
  split <;> rfl

theorem execIdeRekeyDue_keeps {h tx} : s.Keeps (execIdeRekeyDue h tx s) := by
  unfold execIdeRekeyDue
  refine s.onChip_keeps fun {c₀ c} hc => ?_
  refine hc.ite (Chip.Kept.vendorRecordAt (hc.onHead fun _ => ?_))
  split <;> rfl

theorem execTwinCounterExhausted_keeps : s.Keeps (execTwinCounterExhausted s) := s.onChip_keeps fun hc => hc.twinStop

theorem execNonceUncertain_keeps {h} : s.Keeps (execNonceUncertain h s) := by
  unfold execNonceUncertain
  refine s.onChip_keeps fun {c₀ c} hc => ?_
  split
  · exact hc.ideStop
  · exact hc.twinStop

theorem execWitnessSeqExhausted_keeps : s.Keeps (execWitnessSeqExhausted s) := s.onChip_keeps fun hc => hc.bump.fence.ite hc
theorem execTwinRekeyDue_keeps : s.Keeps (execTwinRekeyDue s) := s.onChip_keeps fun hc => hc.ite hc.onSec.emit
theorem execTwinRekeyRetry_keeps : s.Keeps (execTwinRekeyRetry s) := s.onChip_keeps fun hc => hc.emit.ite hc
theorem execIdeKmQuery_keeps {h} : s.Keeps (execIdeKmQuery h s) := s.onChip_keeps fun hc => hc.ite hc.spdm
theorem execKeyProg_keeps {h tx k1} : s.Keeps (execKeyProg h tx k1 s) := s.onChip_keeps fun hc => hc.ideKm (fun _ h => h.onIde.spdm)
theorem execKeySetGo_keeps {h tx k1 skid} : s.Keeps (execKeySetGo h tx k1 skid s) :=
  s.onChip_keeps fun hc => hc.ideKm (fun _ h => h.ite (h.onIde.onHead fun _ => by rfl).spdm)

theorem execKeySetStop_keeps {h tx k1} : s.Keeps (execKeySetStop h tx k1 s) := s.onChip_keeps fun hc => hc.ideKm (fun _ h => (h.onIde.onHead fun _ => by rfl).spdm)
theorem execGetVersion_keeps {h} : s.Keeps (execGetVersion h s) := s.onChip_keeps fun hc => hc.spdmIn (fun _ h => (h.onHead fun _ => by rfl).spdm)
theorem execGetCapabilities_keeps {h} : s.Keeps (execGetCapabilities h s) := s.onChip_keeps fun hc => hc.spdmIn (fun _ h => (h.onHead fun _ => by rfl).spdm)
theorem execNegotiateAlgorithms_keeps {h} : s.Keeps (execNegotiateAlgorithms h s) := s.onChip_keeps fun hc => hc.spdmIn (fun _ h => (h.onHead fun _ => by rfl).spdm)
theorem execGetDigests_keeps {h} : s.Keeps (execGetDigests h s) := s.onChip_keeps fun hc => hc.spdmIn (fun _ h => h.spdm)
theorem execGetCertificate_keeps {h slot off len} : s.Keeps (execGetCertificate h slot off len s) :=
  s.onChip_keeps fun hc => hc.spdmIn (fun _ h => h.spdm.ite h.spdm)

theorem execChallenge_keeps {h slot} : s.Keeps (execChallenge h slot s) :=
  s.onChip_keeps fun hc => hc.spdmIn (fun _ h => h.spdm.ite h.drawRandom.sign.spdm)

theorem execGetMeasurements_keeps {h index} : s.Keeps (execGetMeasurements h index s) :=
  s.onChip_keeps fun hc => hc.spdmIn (fun _ h => h.spdm.ite h.sign.spdm)

theorem execKeyExchange_keeps {h} : s.Keeps (execKeyExchange h s) :=
  s.onChip_keeps fun hc => hc.spdmIn (fun _ h => h.spdm.ite (h.spdm.ite (h.onHead fun _ => by rfl).spdm))

theorem execFinish_keeps {h session ok} : s.Keeps (execFinish h session ok s) :=
  s.onChip_keeps fun hc => hc.spdmIn (fun _ h => h.spdm.ite (h.onSession.spdm.ite h.endSession.spdm))

theorem execSpdmHeartbeat_keeps {h session} : s.Keeps (execSpdmHeartbeat h session s) :=
  s.onChip_keeps fun hc => hc.spdmIn (fun _ h => h.onSession.spdm.ite h)

theorem execSpdmSessionTimeout_keeps {h session} : s.Keeps (execSpdmSessionTimeout h session s) :=
  s.onChip_keeps fun hc => hc.endSession.ite hc.onSession

theorem execKeyUpdate_keeps {h session ack} : s.Keeps (execKeyUpdate h session ack s) := by
  unfold execKeyUpdate
  refine s.onChip_keeps fun {c₀ c} hc => ?_
  split
  · exact hc.spdmIn (fun _ h => h.spdm.ite h)
  · exact hc.ite ((hc.twinRekeyed.ite hc).ite hc.twinRekeyed.emit)

theorem execEndSession_keeps {h session} : s.Keeps (execEndSession h session s) :=
  s.onChip_keeps fun hc => hc.spdmIn (fun _ h => h.endSession.spdm.ite h)

theorem execTwinSpdmSession_keeps {ok} : s.Keeps (execTwinSpdmSession ok s) := s.onChip_keeps fun hc => hc.ite (hc.onTwin.onSec.greet.ite hc.refused)
theorem execSealRequest_keeps {op slot priority tagOk} : s.Keeps (execSealRequest op slot priority tagOk s) :=
  s.onChip_keeps fun hc => hc.emit.ite (hc.emit.ite hc.onSec)

theorem execSealAlarm_keeps {e} : s.Keeps (execSealAlarm e s) := s.onChip_keeps fun hc => hc.sealParity.ite hc.sealAlarm
theorem execSealParityFault_keeps : s.Keeps (execSealParityFault s) := s.onChip_keeps fun hc => hc.sealParity.ite hc.sealAlarm
theorem execSealRecover_keeps : s.Keeps (execSealRecover s) := s.onChip_keeps fun hc => hc.ite (hc.onSec.emit.ite hc.onSec)

/-! ### The commands of Update -/

theorem execUpdIdleTimeout_keeps : s.Keeps (execUpdIdleTimeout s) := by
  unfold execUpdIdleTimeout
  refine s.onChip_keeps fun {c₀ c} hc => ?_
  split
  · exact hc.ite hc.dropUpload
  · exact hc

theorem execProbationElapsed_keeps : s.Keeps (execProbationElapsed s) := s.onChip_keeps fun hc => hc.confirm.ite hc
theorem execProbationStartTimeout_keeps : s.Keeps (execProbationStartTimeout s) := s.onChip_keeps fun hc => hc.ite hc.mainReset.leaveReset

/-! ### The commands of BootRows -/

theorem execBootRomSelect_keeps : s.Keeps (execBootRomSelect s) := by
  unfold execBootRomSelect
  refine s.onChip_keeps fun {c₀ c} hc => ?_
  split
  · exact hc
  · split
    · exact hc.enterRom
    · split
      · extract_lets back c1 c2
        have h1 : c₀.Kept c1 := (hc.onBoot.onRing fun _ => by rfl).ite hc
        have h2 : c₀.Kept c2 := h1.setBoot
        split
        · exact h2.enterRom
        · exact h2.romLoad.ite h2.onBoot.stopStart

theorem execTrainStageDone_keeps : s.Keeps (execTrainStageDone s) :=
  s.onChip_keeps fun hc => hc.toLoad.ite (hc.ite ((hc.foldl fun _ _ h => h.groupAtStart).toLoad))

theorem execLoadStage_keeps {tableOk ue} : s.Keeps (execLoadStage tableOk ue s) := by
  unfold execLoadStage
  refine s.onChip_keeps fun {c₀ c} hc => ?_
  split
  · exact hc.ite hc.nextStage
  · refine hc.ite ?_
    extract_lets c1 pair c2 c3 c4 c5 c6 clean c7 c8
    have h6 : c₀.Kept c6 := hc.unreadable.bump.loadStore.onTwin.onInteg.onWit.onBoot.onBoot.onLedger fun _ => by rfl
    have h7 : c₀.Kept c7 := h6.onTwin.ite h6.dirtyStart
    have h8 : c₀.Kept c8 := h7.ite (h7.foldl fun _ _ h => h.poisonSeg)
    exact h7.stopStart.ite (h7.sanitize.onBoot.ite h8.checkPoison.nextStage)

theorem execPairStage_keeps : s.Keeps (execPairStage s) := s.onChip_keeps fun hc => hc.ite (hc.endPairStage.ite hc.pairWork)
theorem execPairStageTimeout_keeps : s.Keeps (execPairStageTimeout s) := s.onChip_keeps fun hc => hc.pairClaim.ite hc
theorem execClaimDeniedRetry_keeps : s.Keeps (execClaimDeniedRetry s) := s.onChip_keeps fun hc => hc.onTwin.greet.pairClaim.ite hc
theorem execEntryIntoService_keeps : s.Keeps (execEntryIntoService s) :=
  s.onChip_keeps fun hc => hc.ite ((hc.countNow.wrapRecord.serviceOn.serviceWork.raiseCounter3.ite hc.countNow.wrapRecord.serviceOn.serviceWork).offerAll.greet.evalSquall)

theorem execRecoveryQuery_keeps : s.Keeps (execRecoveryQuery s) := by
  unfold execRecoveryQuery
  refine s.onChip_keeps fun {c₀ c} hc => ?_
  split
  · exact hc
  · split
    · exact hc.recStatus
    · exact hc.recStatus

theorem execRecoveryData_keeps {slot off data sigOk} : s.Keeps (execRecoveryData slot off data sigOk s) := by
  unfold execRecoveryData
  refine s.onChip_keeps fun {c₀ c} hc => ?_
  refine hc.ite (hc.recStatus.ite ?_)
  extract_lets start
  have hstart {d : Chip} (h : start = some d) : c₀.Kept d := by
    unfold start at h
    split at h
    · split at h
      · cases h; exact hc
      · cases h
    · cases h
      exact hc.beginUpload.ite hc
  cases h : start with
  | none => exact hc.recStatus
  | some d =>
    have hd : c₀.Kept d := hstart h
    dsimp -zeta only
    split
    · exact hd.recStatus.ite hd.recAck
    · refine hd.recAck.ite ?_
      extract_lets next
      exact hd.loadPiece.recAck.ite (hd.loadPiece.recStatus.recAck.ite (hd.loadPiece.recAck.ite hd.loadPiece.recStatus))

theorem execRecoveryEnd_keeps {slot sigOk} : s.Keeps (execRecoveryEnd slot sigOk s) := by
  unfold execRecoveryEnd
  refine s.onChip_keeps fun {c₀ c} hc => ?_
  refine hc.ite ?_
  split
  · next u _ =>
    refine hc.recStatus.ite ?_
    have h1 : c₀.Kept (c.endUpload u sigOk).2 := hc.endUpload
    exact h1.recStatus.recCommit.ite h1.recStatus
  · exact hc.recStatus

theorem execRecoveryDownloadTimeout_keeps : s.Keeps (execRecoveryDownloadTimeout s) := by
  unfold execRecoveryDownloadTimeout
  refine s.onChip_keeps fun {c₀ c} hc => ?_
  split
  · exact hc.dropUpload.ite hc
  · exact hc

/-! ### The commands of Service -/

theorem execHbmScrub_keeps {place n ev} : s.Keeps (execHbmScrub place n ev s) := by
  unfold execHbmScrub
  refine s.onChip_keeps fun {c₀ c} hc => ?_
  split
  · exact hc
  · split
    · exact hc.readFrame.hbmMeets.settle
    · exact hc.hbmAccess.placeMeets.settle

theorem execCoreStopped_keeps {k} : s.Keeps (execCoreStopped k s) := s.onChip_keeps fun hc => hc.passWork.ite hc
theorem execCoreRestarted_keeps {k ok} : s.Keeps (execCoreRestarted k ok s) :=
  s.onChip_keeps fun hc => (hc.coreBack.onBoot.ite hc.restartFailed).ite hc

theorem execBistDone_keeps {verdict errors detail} : s.Keeps (execBistDone verdict errors detail s) := by
  unfold execBistDone
  refine s.onChip_keeps fun {c₀ c} hc => ?_
  split
  · exact hc
  · split
    · exact hc
    · extract_lets c1 c2
      have h1 : c₀.Kept c1 := hc.bistEnd
      have h2 : c₀.Kept c2 := by
        unfold c2
        split
        · split
          · split
            · exact h1.coreBack
            · exact h1
          · exact h1
        · exact h1.bistFailed
      exact h2.dueRehearsal

theorem execBarometerUpdate_keeps : s.Keeps (execBarometerUpdate s) :=
  s.onChip_keeps fun hc => hc.ite ((hc.onBoot.ledgerEvent.ite hc.onBoot.record).notify)

/-! ### The commands of Transfers -/

theorem execDictRead_keeps {a index sub describe off} : s.Keeps (execDictRead a index sub describe off s) := s.onChip_keeps fun hc => hc.ringRead
theorem execDictWrite_keeps {a index sub size data sigOk} : s.Keeps (execDictWrite a index sub size data sigOk s) :=
  s.onChip_keeps fun hc => hc.ringRequest (fun _ h => h.ringWritten.ite h.writeEntry.ringWritten)

theorem execWriteInit_keeps {a index sub size data} : s.Keeps (execWriteInit a index sub size data s) :=
  s.onChip_keeps fun hc => hc.ringRequest (fun _ h => h.closeWith.ite h.putXfer.sendAck)

theorem execDictSegment_keeps {a index sub seg final data sigOk} : s.Keeps (execDictSegment a index sub seg final data sigOk s) := by
  unfold execDictSegment
  refine s.onChip_keeps fun {c₀ c} hc => ?_
  refine hc.ringFrame fun d hd => ?_
  split
  · exact hd.abortXfer.ite (hd.sendAck.ite (hd.sendAck.ite hd.acceptSeg))
  · split
    · exact hd.answerCached
    · exact hd.unknownTid

theorem execDictAck_keeps {a index sub next gap} : s.Keeps (execDictAck a index sub next gap s) := by
  unfold execDictAck
  refine s.onChip_keeps fun {c₀ c} hc => ?_
  refine hc.ringFrame fun d hd => ?_
  split
  · exact hd.unknownTid
  · exact hd.abortXfer.ite (hd.ite (hd.dropXfer.keepOutcome.ite hd.sendSegs))

theorem execDictAbort_keeps {a index sub code} : s.Keeps (execDictAbort a index sub code s) := by
  unfold execDictAbort
  refine s.onChip_keeps fun {c₀ c} hc => ?_
  refine hc.ringFrame fun d hd => ?_
  split
  · exact hd.unknownTid
  · exact hd.dropXfer.keepOutcome.recordAbort.bump

theorem execSegmentResendTimeout_keeps {req tid} : s.Keeps (execSegmentResendTimeout req tid s) := by
  unfold execSegmentResendTimeout
  refine s.onChip_keeps fun {c₀ c} hc => ?_
  split
  · exact hc.sendSegs.ite hc
  · exact hc

theorem execTransferTimeout_keeps {req tid} : s.Keeps (execTransferTimeout req tid s) := by
  unfold execTransferTimeout
  refine s.onChip_keeps fun {c₀ c} hc => ?_
  split
  · exact hc.abortXfer.ite hc
  · exact hc

theorem execTransferCacheExpired_keeps {req tid} : s.Keeps (execTransferCacheExpired req tid s) := s.onChip_keeps fun hc => hc.onRing fun _ => by rfl

/-! ### The commands of RingRows -/

theorem execRingFrameRx_keeps {p f} : s.Keeps (execRingFrameRx p f s) :=
  s.onChip_keeps fun hc => hc.ite (hc.bump.ite (hc.bump.bump.ite (hc.bump.forwardFrame.bump.ite (hc.bump.forwardFrame.sourceFrame.ite hc.bump.forwardFrame))))

theorem execRingPortStateChange_keeps {p v} : s.Keeps (execRingPortStateChange p v s) := s.onChip_keeps fun hc => (hc.onRing fun _ => by rfl).ite hc
theorem execRingSerdesLock_keeps : s.Keeps (execRingSerdesLock s) := s.onChip_keeps fun hc => (hc.onRing fun _ => by rfl).ite hc
theorem execBypHoldRaise_keeps : s.Keeps (execBypHoldRaise s) := s.onChip_keeps fun hc => (hc.onRing fun _ => by rfl).onPwr.ite hc
theorem execSourceRecordExpired_keeps {src} : s.Keeps (execSourceRecordExpired src s) := s.onChip_keeps fun hc => hc.onRing fun _ => by rfl

theorem execNotifyMergeExpired_keeps {code} : s.Keeps (execNotifyMergeExpired code s) := by
  unfold execNotifyMergeExpired
  refine s.onChip_keeps fun {c₀ c} hc => ?_
  split
  · exact hc
  · split
    · exact hc.onRing fun _ => by rfl
    · exact (hc.onRing fun _ => by rfl).sendNote.ite ((hc.onRing fun _ => by rfl).onRing fun _ => by rfl)

/-! ### The commands of Mailbox -/

theorem execIdentify_keeps {h} : s.Keeps (execIdentify h s) := s.onChip_keeps fun hc => hc.boxRead
theorem execBackgroundOperationStatus_keeps {h} : s.Keeps (execBackgroundOperationStatus h s) := s.onChip_keeps fun hc => hc.boxRead
theorem execGetResponseMessageLimit_keeps {h} : s.Keeps (execGetResponseMessageLimit h s) := s.onChip_keeps fun hc => hc.boxRead
theorem execSetResponseMessageLimit_keeps {h limit} : s.Keeps (execSetResponseMessageLimit h limit s) :=
  s.onChip_keeps fun hc => hc.boxIn (fun _ h => (h.onHead fun _ => by rfl).mbox)

theorem execRequestAbortBackgroundOperation_keeps {h} : s.Keeps (execRequestAbortBackgroundOperation h s) :=
  s.onChip_keeps fun hc => hc.boxIn (fun _ h => h.mbox)

theorem execGetEventRecords_keeps {h log} : s.Keeps (execGetEventRecords h log s) := by
  unfold execGetEventRecords
  refine s.onChip_keeps fun {c₀ c} hc => ?_
  refine hc.boxIn fun d hd => ?_
  split
  · exact hd.mbox
  · exact hd.mbox

theorem execClearEventRecords_keeps {h log all handles} : s.Keeps (execClearEventRecords h log all handles s) := by
  unfold execClearEventRecords
  refine s.onChip_keeps fun {c₀ c} hc => ?_
  refine hc.boxIn fun d hd => ?_
  split
  · exact hd.mbox.ite (hd.mbox.ite (hd.onHead fun _ => by rfl).mbox)
  · exact hd.mbox

theorem execGetEventInterruptPolicy_keeps {h} : s.Keeps (execGetEventInterruptPolicy h s) := s.onChip_keeps fun hc => hc.boxRead
theorem execSetEventInterruptPolicy_keeps {h modes} : s.Keeps (execSetEventInterruptPolicy h modes s) :=
  s.onChip_keeps fun hc => hc.boxIn (fun _ h => h.mbox.ite (h.onHead fun _ => by rfl).mbox)

theorem execGetFwInfo_keeps {h} : s.Keeps (execGetFwInfo h s) := s.onChip_keeps fun hc => hc.boxRead
theorem execTransferFw_keeps {h action slot off data sigOk} : s.Keeps (execTransferFw h action slot off data sigOk s) :=
  s.onChip_keeps fun hc => hc.boxIn (fun _ h => h.transferFw)

theorem execActivateFw_keeps {h online slot} : s.Keeps (execActivateFw h online slot s) := by
  unfold execActivateFw
  refine s.onChip_keeps fun {c₀ c} hc => ?_
  refine hc.boxIn fun d hd => ?_
  refine hd.mbox.ite (hd.mbox.ite (hd.mbox.ite ?_))
  split
  · exact hd.activate.mbox
  · exact hd.mbox
  · exact hd.mbox
  · exact hd.mbox

theorem execGetTimestamp_keeps {h} : s.Keeps (execGetTimestamp h s) := s.onChip_keeps fun hc => hc.boxRead
theorem execSetTimestamp_keeps {h value} : s.Keeps (execSetTimestamp h value s) :=
  s.onChip_keeps fun hc => hc.boxIn (fun _ h => (h.setStamp.sendTwin.ite h.setStamp).mbox)

theorem execGetSupportedLogs_keeps {h} : s.Keeps (execGetSupportedLogs h s) := s.onChip_keeps fun hc => hc.boxRead

theorem execGetLog_keeps {h log off len} : s.Keeps (execGetLog h log off len s) := by
  unfold execGetLog
  refine s.onChip_keeps fun {c₀ c} hc => ?_
  refine hc.boxIn fun d hd => ?_
  split
  · exact hd.mbox
  · exact hd.mbox.ite hd.mbox

theorem execIdentifyMemoryDevice_keeps {h} : s.Keeps (execIdentifyMemoryDevice h s) := s.onChip_keeps fun hc => hc.boxRead
theorem execGetPartitionInfo_keeps {h} : s.Keeps (execGetPartitionInfo h s) := s.onChip_keeps fun hc => hc.boxRead
theorem execSetPartitionInfo_keeps {h} : s.Keeps (execSetPartitionInfo h s) := s.onChip_keeps fun hc => hc.boxIn (fun _ h => h.mbox)
theorem execGetLsa_keeps {h off len} : s.Keeps (execGetLsa h off len s) :=
  s.onChip_keeps fun hc => hc.boxIn (fun _ h => h.mbox.ite (h.mbox.ite h.mbox))

theorem execSetLsa_keeps {h off data} : s.Keeps (execSetLsa h off data s) :=
  s.onChip_keeps fun hc => hc.boxIn (fun _ h => h.mbox.ite (h.mbox.ite h.pageNow.mbox))

theorem execGetHealthInfo_keeps {h} : s.Keeps (execGetHealthInfo h s) := s.onChip_keeps fun hc => hc.boxRead
theorem execGetAlertConfiguration_keeps {h} : s.Keeps (execGetAlertConfiguration h s) := s.onChip_keeps fun hc => hc.boxRead
theorem execSetAlertConfiguration_keeps {h valid enable life temp volatileCe persistentCe} : s.Keeps (execSetAlertConfiguration h valid enable life temp volatileCe persistentCe s) :=
  s.onChip_keeps fun hc => hc.boxIn (fun _ h => h.mbox.ite h.onInteg.mbox)

theorem execGetShutdownState_keeps {h} : s.Keeps (execGetShutdownState h s) := s.onChip_keeps fun hc => hc.boxRead
theorem execSetShutdownState_keeps {h v} : s.Keeps (execSetShutdownState h v s) :=
  s.onChip_keeps fun hc => hc.boxIn (fun _ h => h.mbox.ite h.onBoot.shutdownRecord.mbox)

theorem execGetPoisonList_keeps {h dpa len} : s.Keeps (execGetPoisonList h dpa len s) := s.onChip_keeps fun hc => hc.boxIn (fun _ h => (h.onHead fun _ => by rfl).mbox)
theorem execInjectPoison_keeps {h dpa} : s.Keeps (execInjectPoison h dpa s) :=
  s.onChip_keeps fun hc => hc.boxIn (fun _ h => h.mbox.ite (h.record.markLine.mbox.ite h.record.route.mbox))

theorem execClearPoison_keeps {h dpa data} : s.Keeps (execClearPoison h dpa data s) :=
  s.onChip_keeps fun hc => hc.boxIn (fun _ h => h.mbox.ite ((h.scratchAccess.mbox.ite h.mbox).ite (h.mbox.ite h.route.mbox)))

theorem execGetScanMediaCapabilities_keeps {h dpa len} : s.Keeps (execGetScanMediaCapabilities h dpa len s) := s.onChip_keeps fun hc => hc.boxRead
theorem execScanMedia_keeps {h dpa len} : s.Keeps (execScanMedia h dpa len s) :=
  s.onChip_keeps fun hc => hc.boxIn (fun _ h => h.mbox.ite h.onInteg.startBg)

theorem execGetScanMediaResults_keeps {h} : s.Keeps (execGetScanMediaResults h s) := s.onChip_keeps fun hc => hc.boxRead
theorem execSanitize_keeps {h} : s.Keeps (execSanitize h s) :=
  s.onChip_keeps fun hc => hc.boxIn (fun _ h => h.mbox.ite (h.eraseBox (fun _ h => h.sanitizeAll.startBg)))

theorem execSecureErase_keeps {h} : s.Keeps (execSecureErase h s) :=
  s.onChip_keeps fun hc => hc.boxIn (fun _ h => h.eraseBox (fun _ h => h.secureEraseAll.onSec.ite h.secureEraseAll.mbox))

theorem execGetSecurityState_keeps {h} : s.Keeps (execGetSecurityState h s) := s.onChip_keeps fun hc => hc.boxRead
theorem execSetPassphrase_keeps {h master current new} : s.Keeps (execSetPassphrase h master current new s) :=
  s.onChip_keeps fun hc => hc.boxIn (fun _ h => h.passBox (fun _ h => h.setPassphrase) (fun _ h => h.mbox))

theorem execDisablePassphrase_keeps {h master current} : s.Keeps (execDisablePassphrase h master current s) :=
  s.onChip_keeps fun hc => hc.boxIn (fun _ h => h.passBox (fun _ h => h.disablePassphrase) (fun _ h => h.mbox))

theorem execUnlock_keeps {h current} : s.Keeps (execUnlock h current s) :=
  s.onChip_keeps fun hc => hc.boxIn (fun _ h => h.passBox (fun _ h => h.unlock) (fun _ h => h.mbox))

theorem execFreezeSecurityState_keeps {h} : s.Keeps (execFreezeSecurityState h s) := s.onChip_keeps fun hc => hc.boxIn (fun _ h => h.onSec.mbox)
theorem execPassphraseSecureErase_keeps {h master current} : s.Keeps (execPassphraseSecureErase h master current s) :=
  s.onChip_keeps fun hc => hc.boxIn (fun _ h => h.mbox.ite (h.mbox.ite (h.passBox (fun _ h => h.passphraseErase) (fun _ h => (h.unlocked.ite h).startBg))))

theorem execGetDynamicCapacityConfiguration_keeps {h} : s.Keeps (execGetDynamicCapacityConfiguration h s) := s.onChip_keeps fun hc => hc.boxRead
theorem execGetDynamicCapacityExtentList_keeps {h} : s.Keeps (execGetDynamicCapacityExtentList h s) := s.onChip_keeps fun hc => hc.boxRead
theorem execAddDynamicCapacityResponse_keeps {h regions} : s.Keeps (execAddDynamicCapacityResponse h regions s) :=
  s.onChip_keeps fun hc => hc.boxIn (fun _ h => h.mbox.ite (h.onHead fun _ => by rfl).mbox)

theorem execReleaseDynamicCapacity_keeps {h regions} : s.Keeps (execReleaseDynamicCapacity h regions s) :=
  s.onChip_keeps fun hc => hc.boxIn (fun _ h => h.mbox.ite (h.onHead fun _ => by rfl).mbox)

theorem execMailboxUnsupportedOpcode_keeps {h opcode} : s.Keeps (execMailboxUnsupportedOpcode h opcode s) :=
  s.onChip_keeps fun hc => hc.boxIn (fun _ h => h.mbox)

theorem execBackgroundOpComplete_keeps {e} : s.Keeps (execBackgroundOpComplete e s) := by
  unfold execBackgroundOpComplete
  refine s.onChip_keeps fun {c₀ c} hc => ?_
  extract_lets h
  split
  · exact hc
  · extract_lets c1 c2 c3
    have h1 : c₀.Kept c1 := by
      unfold c1
      split
      · exact hc.ite hc.scanRead
      · exact hc
    have h2 : c₀.Kept c2 := by
      unfold c2
      split
      · exact h1.ite h1.endScan
      · exact h1
    have h3 : c₀.Kept c3 := h2.onHead fun _ => by rfl
    exact h1.ite (h3.emit.ite h3)

/-! ### The commands of VendorRows -/

theorem execGetOlienoInfo_keeps {h input} : s.Keeps (execGetOlienoInfo h input s) :=
  s.onChip_keeps fun hc => hc.boxIn (fun _ h => h.mbox.ite h.mbox)

theorem execDictionaryRead_keeps {h input} : s.Keeps (execDictionaryRead h input s) := by
  unfold execDictionaryRead
  refine s.onChip_keeps fun {c₀ c} hc => ?_
  refine hc.boxIn fun d hd => ?_
  split
  · exact hd.mbox
  · exact hd.useContext.boxDictRead

theorem execDictionaryWrite_keeps {h input sigOk} : s.Keeps (execDictionaryWrite h input sigOk s) := by
  unfold execDictionaryWrite
  refine s.onChip_keeps fun {c₀ c} hc => ?_
  refine hc.boxIn fun d hd => ?_
  split
  · exact hd.mbox
  · exact hd.useContext.boxDictWrite

theorem execObjectCommand_keeps {h input} : s.Keeps (execObjectCommand h input s) := by
  unfold execObjectCommand
  refine s.onChip_keeps fun {c₀ c} hc => ?_
  refine hc.boxIn fun d hd => ?_
  refine hd.mbox.ite ?_
  split
  · next e h => exact (hd.objectRun.snd₂ h).mbox
  · next e h =>
    exact hd.mbox.ite ((hd.objectRun.snd₂ h).onHead fun _ => by rfl).startBg

theorem execGetObjectCommandResult_keeps {h input} : s.Keeps (execGetObjectCommandResult h input s) := by
  unfold execGetObjectCommandResult
  refine s.onChip_keeps fun {c₀ c} hc => ?_
  refine hc.boxIn fun d hd => ?_
  refine hd.mbox.ite ?_
  split
  · exact hd.mbox
  · split
    · exact hd.mbox
    · exact hd.mbox

/-! ### The commands of WindowRows -/

theorem execWindowWrite_keeps {h index sub part v} : s.Keeps (execWindowWrite h index sub part v s) := s.onChip_keeps fun hc => hc.postWindow
theorem execWindowWriteApply_keeps {h} : s.Keeps (execWindowWriteApply h s) := s.onChip_keeps fun hc => hc.applyWindow
theorem execSetAlias_keeps {h r m} : s.Keeps (execSetAlias h r m s) := s.onChip_keeps fun hc => hc.aliasWrite
theorem execClearAlias_keeps {h r m} : s.Keeps (execClearAlias h r m s) := s.onChip_keeps fun hc => hc.aliasWrite
theorem execToggleAlias_keeps {h r m} : s.Keeps (execToggleAlias h r m s) := s.onChip_keeps fun hc => hc.aliasWrite

theorem execRegisterWrite_keeps {h w v} : s.Keeps (execRegisterWrite h w v s) := by
  unfold execRegisterWrite
  refine s.onChip_keeps fun {c₀ c} hc => ?_
  split
  · exact hc
  · split
    · exact hc.winSetWord
    · exact hc.winWriteBytes
    · exact hc.winRead
    · exact hc.winReadBytes
    · exact hc.configWrite
    · exact hc.emit

/-! ### The commands of DictRows -/

theorem execObjCmd_keeps {a entry} : s.Keeps (execObjCmd a entry s) := s.onChip_keeps fun hc => hc.writeRow
theorem execWaysScratch_keeps {a v} : s.Keeps (execWaysScratch a v s) := s.onChip_keeps fun hc => hc.writeRow
theorem execWaysPin_keeps {a v} : s.Keeps (execWaysPin a v s) := s.onChip_keeps fun hc => hc.writeRow
theorem execRetireCmd_keeps {a v} : s.Keeps (execRetireCmd a v s) := s.onChip_keeps fun hc => hc.writeRow
theorem execMedRemove_keeps {a v} : s.Keeps (execMedRemove a v s) := s.onChip_keeps fun hc => hc.writeRow
theorem execSgInit_keeps {a v} : s.Keeps (execSgInit a v s) := s.onChip_keeps fun hc => hc.writeRow
theorem execEvacCmd_keeps {a v} : s.Keeps (execEvacCmd a v s) := s.onChip_keeps fun hc => hc.writeRow
theorem execEvacStop_keeps {a v} : s.Keeps (execEvacStop a v s) := s.onChip_keeps fun hc => hc.writeRow
theorem execHandoverCmd_keeps {a v} : s.Keeps (execHandoverCmd a v s) := s.onChip_keeps fun hc => hc.writeRow
theorem execPairReplace_keeps {a v} : s.Keeps (execPairReplace a v s) := s.onChip_keeps fun hc => hc.writeRow
theorem execRehearseCmd_keeps {a v} : s.Keeps (execRehearseCmd a v s) := s.onChip_keeps fun hc => hc.writeRow
theorem execSeqGroupOn_keeps {a v} : s.Keeps (execSeqGroupOn a v s) := s.onChip_keeps fun hc => hc.writeRow
theorem execSqConfig_keeps {a n v} : s.Keeps (execSqConfig a n v s) := s.onChip_keeps fun hc => hc.writeRow
theorem execProbeCmd_keeps {a v} : s.Keeps (execProbeCmd a v s) := s.onChip_keeps fun hc => hc.writeRow
theorem execWrapAndStayOff_keeps {a} : s.Keeps (execWrapAndStayOff a s) := s.onChip_keeps fun hc => hc.writeRow
theorem execWrapAndPowerUp_keeps {a} : s.Keeps (execWrapAndPowerUp a s) := s.onChip_keeps fun hc => hc.writeRow
theorem execRefreshCmd_keeps {a v} : s.Keeps (execRefreshCmd a v s) := s.onChip_keeps fun hc => hc.writeRow
theorem execRawWrite_keeps {a v} : s.Keeps (execRawWrite a v s) := s.onChip_keeps fun hc => hc.writeRow
theorem execUserPassword_keeps {a area v} : s.Keeps (execUserPassword a area v s) := s.onChip_keeps fun hc => hc.writeRow
theorem execUserUnlock_keeps {a v} : s.Keeps (execUserUnlock a v s) := s.onChip_keeps fun hc => hc.writeRow
theorem execUserLock_keeps {a v} : s.Keeps (execUserLock a v s) := s.onChip_keeps fun hc => hc.writeRow
theorem execCounterInc_keeps {a v} : s.Keeps (execCounterInc a v s) := s.onChip_keeps fun hc => hc.writeRow
theorem execCryptoErase_keeps {a t} : s.Keeps (execCryptoErase a t s) := s.onChip_keeps fun hc => hc.writeRow
theorem execRtvResponse_keeps {a ok} : s.Keeps (execRtvResponse a ok s) := s.onChip_keeps fun hc => hc.writeRow
theorem execDictDefaults_keeps {a v} : s.Keeps (execDictDefaults a v s) := s.onChip_keeps fun hc => hc.writeRow
theorem execBarometerSeen_keeps {a v} : s.Keeps (execBarometerSeen a v s) := s.onChip_keeps fun hc => hc.writeRow
theorem execUpdBlock_keeps {a data sigOk} : s.Keeps (execUpdBlock a data sigOk s) := s.onChip_keeps fun hc => hc.writeRow
theorem execUpdEndVerify_keeps {a sigOk} : s.Keeps (execUpdEndVerify a sigOk s) := s.onChip_keeps fun hc => hc.writeRow
theorem execUpdAbandon_keeps {a} : s.Keeps (execUpdAbandon a s) := s.onChip_keeps fun hc => hc.writeRow
theorem execFwActivate_keeps {a v} : s.Keeps (execFwActivate a v s) := s.onChip_keeps fun hc => hc.writeRow
theorem execFwConfirm_keeps {a v} : s.Keeps (execFwConfirm a v s) := s.onChip_keeps fun hc => hc.writeRow
theorem execFwRevert_keeps {a v} : s.Keeps (execFwRevert a v s) := s.onChip_keeps fun hc => hc.writeRow
theorem execStoreImport_keeps {a data} : s.Keeps (execStoreImport a data s) := s.onChip_keeps fun hc => hc.writeRow
theorem execStoreRestore_keeps {a data} : s.Keeps (execStoreRestore a data s) := s.onChip_keeps fun hc => hc.writeRow
theorem execRecoveryCmd_keeps {a v} : s.Keeps (execRecoveryCmd a v s) := s.onChip_keeps fun hc => hc.writeRow
theorem execCoreRetire_keeps {a v} : s.Keeps (execCoreRetire a v s) := s.onChip_keeps fun hc => hc.writeRow
theorem execHeadIsolate_keeps {a h v} : s.Keeps (execHeadIsolate a h v s) := s.onChip_keeps fun hc => hc.writeRow
theorem execHeadDcRegions_keeps {a h v} : s.Keeps (execHeadDcRegions a h v s) := s.onChip_keeps fun hc => hc.writeRow
theorem execBistHbmSpare_keeps {a} : s.Keeps (execBistHbmSpare a s) := s.onChip_keeps fun hc => hc.writeRow
theorem execBistHbmPatrol_keeps {a} : s.Keeps (execBistHbmPatrol a s) := s.onChip_keeps fun hc => hc.writeRow
theorem execBistGmiRetrain_keeps {a target} : s.Keeps (execBistGmiRetrain a target s) := s.onChip_keeps fun hc => hc.writeRow
theorem execBistParityCheck_keeps {a target} : s.Keeps (execBistParityCheck a target s) := s.onChip_keeps fun hc => hc.writeRow
theorem execBistCipherKat_keeps {a target} : s.Keeps (execBistCipherKat a target s) := s.onChip_keeps fun hc => hc.writeRow
theorem execBistSealKat_keeps {a} : s.Keeps (execBistSealKat a s) := s.onChip_keeps fun hc => hc.writeRow
theorem execBistCoreSelftest_keeps {a target} : s.Keeps (execBistCoreSelftest a target s) := s.onChip_keeps fun hc => hc.writeRow
theorem execBistPhyLoopback_keeps {a target} : s.Keeps (execBistPhyLoopback a target s) := s.onChip_keeps fun hc => hc.writeRow
theorem execRawRead_keeps {a} : s.Keeps (execRawRead a s) := s.onChip_keeps fun hc => hc.readRow
theorem execRtvChallenge_keeps {a} : s.Keeps (execRtvChallenge a s) := s.onChip_keeps fun hc => hc.readRow
theorem execEventRecordRead_keeps {a} : s.Keeps (execEventRecordRead a s) := s.onChip_keeps fun hc => hc.readRow
theorem execStoreExport_keeps {a off} : s.Keeps (execStoreExport a off s) := s.onChip_keeps fun hc => hc.readRow

theorem execCryptoEraseComplete_keeps : s.Keeps (execCryptoEraseComplete s) := by
  unfold execCryptoEraseComplete
  refine s.onChip_keeps fun {c₀ c} hc => ?_
  split
  · exact hc.ite hc.eraseEnd.onSec.answerErase.startWaiting
  · exact hc.ite ((hc.eraseEnd.sendTwin.ite hc.eraseEnd).startWaiting)
  · exact hc

end

/-- Every command's meaning keeps the identity of the chip and its stores. -/
theorem exec_keeps (i : Instr) (s : State) : s.Keeps (exec i s) := by
  cases i with
  | hostRead => exact execHostRead_keeps
  | hostWrite => exact execHostWrite_keeps
  | holdExpired => exact execHoldExpired_keeps
  | refclkLost => exact execRefclkLost_keeps
  | coreStopped => exact execCoreStopped_keeps
  | coreRestarted => exact execCoreRestarted_keeps
  | gafferWatchdog => exact execGafferWatchdog_keeps
  | create => exact execCreate_keeps
  | destroy => exact execDestroy_keeps
  | destroyReleaseDone => exact execDestroyReleaseDone_keeps
  | setAttr => exact execSetAttr_keeps
  | query => exact execQuery_keeps
  | resize => exact execResize_keeps
  | move => exact execMove_keeps
  | pin => exact execPin_keeps
  | unpin => exact execUnpin_keeps
  | promote => exact execPromote_keeps
  | evict => exact execEvict_keeps
  | zero => exact execZero_keeps
  | reelOpen => exact execReelOpen_keeps
  | reelJoin => exact execReelJoin_keeps
  | reelAdvance => exact execReelAdvance_keeps
  | reelLeave => exact execReelLeave_keeps
  | reelStallTimeout => exact execReelStallTimeout_keeps
  | reelPrefetch => exact execReelPrefetch_keeps
  | commandUnreachableTimeout => exact execCommandUnreachableTimeout_keeps
  | commandResultWritten => exact execCommandResultWritten_keeps
  | cueTail => exact execCueTail_keeps
  | cueReset => exact execCueReset_keeps
  | cueResetDone => exact execCueResetDone_keeps
  | cueCoalesceExpired => exact execCueCoalesceExpired_keeps
  | objCmd => exact execObjCmd_keeps
  | perstAssert => exact execPerstAssert_keeps
  | perstDeassert => exact execPerstDeassert_keeps
  | headLinkUp => exact execHeadLinkUp_keeps
  | headLinkDown => exact execHeadLinkDown_keeps
  | recoveryTimeout => exact execRecoveryTimeout_keeps
  | l0StabilityTimeout => exact execL0StabilityTimeout_keeps
  | hdmCommit => exact execHdmCommit_keeps
  | cdatRead => exact execCdatRead_keeps
  | gpfPhase1 => exact execGpfPhase1_keeps
  | gpfPhase2 => exact execGpfPhase2_keeps
  | identify => exact execIdentify_keeps
  | backgroundOperationStatus => exact execBackgroundOperationStatus_keeps
  | getResponseMessageLimit => exact execGetResponseMessageLimit_keeps
  | setResponseMessageLimit => exact execSetResponseMessageLimit_keeps
  | requestAbortBackgroundOperation => exact execRequestAbortBackgroundOperation_keeps
  | getEventRecords => exact execGetEventRecords_keeps
  | clearEventRecords => exact execClearEventRecords_keeps
  | getEventInterruptPolicy => exact execGetEventInterruptPolicy_keeps
  | setEventInterruptPolicy => exact execSetEventInterruptPolicy_keeps
  | getFwInfo => exact execGetFwInfo_keeps
  | transferFw => exact execTransferFw_keeps
  | activateFw => exact execActivateFw_keeps
  | getTimestamp => exact execGetTimestamp_keeps
  | setTimestamp => exact execSetTimestamp_keeps
  | getSupportedLogs => exact execGetSupportedLogs_keeps
  | getLog => exact execGetLog_keeps
  | identifyMemoryDevice => exact execIdentifyMemoryDevice_keeps
  | getPartitionInfo => exact execGetPartitionInfo_keeps
  | setPartitionInfo => exact execSetPartitionInfo_keeps
  | getLsa => exact execGetLsa_keeps
  | setLsa => exact execSetLsa_keeps
  | getHealthInfo => exact execGetHealthInfo_keeps
  | getAlertConfiguration => exact execGetAlertConfiguration_keeps
  | setAlertConfiguration => exact execSetAlertConfiguration_keeps
  | getShutdownState => exact execGetShutdownState_keeps
  | setShutdownState => exact execSetShutdownState_keeps
  | getPoisonList => exact execGetPoisonList_keeps
  | injectPoison => exact execInjectPoison_keeps
  | clearPoison => exact execClearPoison_keeps
  | getScanMediaCapabilities => exact execGetScanMediaCapabilities_keeps
  | scanMedia => exact execScanMedia_keeps
  | getScanMediaResults => exact execGetScanMediaResults_keeps
  | sanitize => exact execSanitize_keeps
  | secureErase => exact execSecureErase_keeps
  | getSecurityState => exact execGetSecurityState_keeps
  | setPassphrase => exact execSetPassphrase_keeps
  | disablePassphrase => exact execDisablePassphrase_keeps
  | unlock => exact execUnlock_keeps
  | freezeSecurityState => exact execFreezeSecurityState_keeps
  | passphraseSecureErase => exact execPassphraseSecureErase_keeps
  | getDynamicCapacityConfiguration => exact execGetDynamicCapacityConfiguration_keeps
  | getDynamicCapacityExtentList => exact execGetDynamicCapacityExtentList_keeps
  | addDynamicCapacityResponse => exact execAddDynamicCapacityResponse_keeps
  | releaseDynamicCapacity => exact execReleaseDynamicCapacity_keeps
  | getOlienoInfo => exact execGetOlienoInfo_keeps
  | dictionaryRead => exact execDictionaryRead_keeps
  | dictionaryWrite => exact execDictionaryWrite_keeps
  | objectCommand => exact execObjectCommand_keeps
  | getObjectCommandResult => exact execGetObjectCommandResult_keeps
  | mailboxUnsupportedOpcode => exact execMailboxUnsupportedOpcode_keeps
  | backgroundOpComplete => exact execBackgroundOpComplete_keeps
  | ideKmQuery => exact execIdeKmQuery_keeps
  | keyProg => exact execKeyProg_keeps
  | keySetGo => exact execKeySetGo_keeps
  | keySetStop => exact execKeySetStop_keeps
  | ideRekeyDue => exact execIdeRekeyDue_keeps
  | ideCounterExhausted => exact execIdeCounterExhausted_keeps
  | nonceUncertain => exact execNonceUncertain_keeps
  | fillComplete => exact execFillComplete_keeps
  | descriptorMissDone => exact execDescriptorMissDone_keeps
  | backgroundEvict => exact execBackgroundEvict_keeps
  | evictCommit => exact execEvictCommit_keeps
  | writeBackStart => exact execWriteBackStart_keeps
  | writeBackRelease => exact execWriteBackRelease_keeps
  | waysScratch => exact execWaysScratch_keeps
  | waysPin => exact execWaysPin_keeps
  | wayChangeDone => exact execWayChangeDone_keeps
  | hbmTrainDone => exact execHbmTrainDone_keeps
  | retireCmd => exact execRetireCmd_keeps
  | retireSettled => exact execRetireSettled_keeps
  | retireRebuildDone => exact execRetireRebuildDone_keeps
  | spareTest => exact execSpareTest_keeps
  | refreshDue => exact execRefreshDue_keeps
  | stackTempRead => exact execStackTempRead_keeps
  | hbmScrub => exact execHbmScrub_keeps
  | mediumReadDispatch => exact execMediumReadDispatch_keeps
  | mediumLineReturned => exact execMediumLineReturned_keeps
  | recoveryEntryWait => exact execRecoveryEntryWait_keeps
  | stripeUpdateStart => exact execStripeUpdateStart_keeps
  | programStart => exact execProgramStart_keeps
  | programDone => exact execProgramDone_keeps
  | programFailed => exact execProgramFailed_keeps
  | relocateDone => exact execRelocateDone_keeps
  | tokenAlert => exact execTokenAlert_keeps
  | tokenMissing => exact execTokenMissing_keeps
  | moduleAlert => exact execModuleAlert_keeps
  | readHeaderMissing => exact execReadHeaderMissing_keeps
  | moduleSeated => exact execModuleSeated_keeps
  | presenceStable => exact execPresenceStable_keeps
  | moduleUnseated => exact execModuleUnseated_keeps
  | presenceLostTimeout => exact execPresenceLostTimeout_keeps
  | pwrgdStable => exact execPwrgdStable_keeps
  | pwrgdTimeout => exact execPwrgdTimeout_keeps
  | pwrgdFall => exact execPwrgdFall_keeps
  | gmiTrainDone => exact execGmiTrainDone_keeps
  | gmiTrainFailed => exact execGmiTrainFailed_keeps
  | retrainStart => exact execRetrainStart_keeps
  | retrainDone => exact execRetrainDone_keeps
  | retrainTimeout => exact execRetrainTimeout_keeps
  | attnHold => exact execAttnHold_keeps
  | medRemove => exact execMedRemove_keeps
  | removalSafe => exact execRemovalSafe_keeps
  | removeRefusedBlinkEnd => exact execRemoveRefusedBlinkEnd_keeps
  | rebuildDone => exact execRebuildDone_keeps
  | sgInit => exact execSgInit_keeps
  | groupInitDone => exact execGroupInitDone_keeps
  | wearRelocation => exact execWearRelocation_keeps
  | minuteTick => exact execMinuteTick_keeps
  | driftRefresh => exact execDriftRefresh_keeps
  | materialise => exact execMaterialise_keeps
  | patrolScrub => exact execPatrolScrub_keeps
  | scrubRewrite => exact execScrubRewrite_keeps
  | stripeRepair => exact execStripeRepair_keeps
  | bucketLeak => exact execBucketLeak_keeps
  | poisonListPersist => exact execPoisonListPersist_keeps
  | granuleOpen => exact execGranuleOpen_keeps
  | segmentClaim => exact execSegmentClaim_keeps
  | segmentCopied => exact execSegmentCopied_keeps
  | segmentSwitch => exact execSegmentSwitch_keeps
  | granuleCommit => exact execGranuleCommit_keeps
  | pinMoveSwitch => exact execPinMoveSwitch_keeps
  | movePrep => exact execMovePrep_keeps
  | moveParked => exact execMoveParked_keeps
  | moveHandover => exact execMoveHandover_keeps
  | moveDone => exact execMoveDone_keeps
  | moveAbort => exact execMoveAbort_keeps
  | movePrepRetry => exact execMovePrepRetry_keeps
  | evacCmd => exact execEvacCmd_keeps
  | evacStop => exact execEvacStop_keeps
  | twinLinkUp => exact execTwinLinkUp_keeps
  | twinLinkDown => exact execTwinLinkDown_keeps
  | fwdRead => exact execFwdRead_keeps
  | fwdWrite => exact execFwdWrite_keeps
  | fwdData => exact execFwdData_keeps
  | fwdAck => exact execFwdAck_keeps
  | fwdCmd => exact execFwdCmd_keeps
  | fwdCmdResult => exact execFwdCmdResult_keeps
  | mirrorWrite => exact execMirrorWrite_keeps
  | mirrorCommit => exact execMirrorCommit_keeps
  | mirrorResend => exact execMirrorResend_keeps
  | mirrorFetch => exact execMirrorFetch_keeps
  | mirrorData => exact execMirrorData_keeps
  | heartbeat => exact execHeartbeat_keeps
  | heartbeatSend => exact execHeartbeatSend_keeps
  | probe => exact execProbe_keeps
  | hello => exact execHello_keeps
  | pairAccept => exact execPairAccept_keeps
  | pairRefuse => exact execPairRefuse_keeps
  | renewRelay => exact execRenewRelay_keeps
  | tableUpdate => exact execTableUpdate_keeps
  | descInval => exact execDescInval_keeps
  | poisonShadow => exact execPoisonShadow_keeps
  | timestamp => exact execTimestamp_keeps
  | squallNote => exact execSquallNote_keeps
  | handoverBegin => exact execHandoverBegin_keeps
  | handoverParked => exact execHandoverParked_keeps
  | handoverState => exact execHandoverState_keeps
  | handoverDone => exact execHandoverDone_keeps
  | staleSet => exact execStaleSet_keeps
  | auditReq => exact execAuditReq_keeps
  | auditSum => exact execAuditSum_keeps
  | mirrorAuditStart => exact execMirrorAuditStart_keeps
  | pulseToggle => exact execPulseToggle_keeps
  | pulseLoss => exact execPulseLoss_keeps
  | pulseRestored => exact execPulseRestored_keeps
  | linkSilenceTimeout => exact execLinkSilenceTimeout_keeps
  | probeTimeout => exact execProbeTimeout_keeps
  | register => exact execRegister_keeps
  | registerResend => exact execRegisterResend_keeps
  | renewSend => exact execRenewSend_keeps
  | renewAck => exact execRenewAck_keeps
  | renewAckTimeout => exact execRenewAckTimeout_keeps
  | leaseFenceDeadline => exact execLeaseFenceDeadline_keeps
  | verdictGrant => exact execVerdictGrant_keeps
  | verdictSplit => exact execVerdictSplit_keeps
  | verdictDeny => exact execVerdictDeny_keeps
  | verdictDrillOk => exact execVerdictDrillOk_keeps
  | poisonNote => exact execPoisonNote_keeps
  | poisonAck => exact execPoisonAck_keeps
  | poisonAckTimeout => exact execPoisonAckTimeout_keeps
  | routeMapRewriteDone => exact execRouteMapRewriteDone_keeps
  | handoverCmd => exact execHandoverCmd_keeps
  | pairReplace => exact execPairReplace_keeps
  | rehearseCmd => exact execRehearseCmd_keeps
  | rehearsalDue => exact execRehearsalDue_keeps
  | rehearsalTimeout => exact execRehearsalTimeout_keeps
  | powerUpStart => exact execPowerUpStart_keeps
  | upStepDone => exact execUpStepDone_keeps
  | rampTimeout => exact execRampTimeout_keeps
  | downStepDone => exact execDownStepDone_keeps
  | offTimeout => exact execOffTimeout_keeps
  | powerDownStuck => exact execPowerDownStuck_keeps
  | adcSample => exact execAdcSample_keeps
  | pgChange => exact execPgChange_keeps
  | railRetryTimer => exact execRailRetryTimer_keeps
  | seqGroupOn => exact execSeqGroupOn_keeps
  | retryWaitDone => exact execRetryWaitDone_keeps
  | retryCountReset => exact execRetryCountReset_keeps
  | resetNLow => exact execResetNLow_keeps
  | seqFaultSeen => exact execSeqFaultSeen_keeps
  | vauxCollapse => exact execVauxCollapse_keeps
  | sqConfig => exact execSqConfig_keeps
  | budgetCompute => exact execBudgetCompute_keeps
  | reserveLostTimeout => exact execReserveLostTimeout_keeps
  | probeStart => exact execProbeStart_keeps
  | probeCmd => exact execProbeCmd_keeps
  | probeBudgetReady => exact execProbeBudgetReady_keeps
  | probeDischarge => exact execProbeDischarge_keeps
  | probeStepEnd => exact execProbeStepEnd_keeps
  | powerLoss => exact execPowerLoss_keeps
  | wrapAndStayOff => exact execWrapAndStayOff_keeps
  | wrapAndPowerUp => exact execWrapAndPowerUp_keeps
  | wrapSettled => exact execWrapSettled_keeps
  | wrapDrained => exact execWrapDrained_keeps
  | wrapPersisted => exact execWrapPersisted_keeps
  | wrapResume => exact execWrapResume_keeps
  | wrapRestart => exact execWrapRestart_keeps
  | dirtyMapCheckpoint => exact execDirtyMapCheckpoint_keeps
  | wrapRecordHourly => exact execWrapRecordHourly_keeps
  | snapshotCopy => exact execSnapshotCopy_keeps
  | ledgerPageWriteDone => exact execLedgerPageWriteDone_keeps
  | ledgerTimeout => exact execLedgerTimeout_keeps
  | refreshPage => exact execRefreshPage_keeps
  | refreshPassDue => exact execRefreshPassDue_keeps
  | refreshCmd => exact execRefreshCmd_keeps
  | rawWrite => exact execRawWrite_keeps
  | rawRead => exact execRawRead_keeps
  | userPassword => exact execUserPassword_keeps
  | userUnlock => exact execUserUnlock_keeps
  | userLock => exact execUserLock_keeps
  | counterInc => exact execCounterInc_keeps
  | cryptoErase => exact execCryptoErase_keeps
  | cryptoEraseComplete => exact execCryptoEraseComplete_keeps
  | drbgHealthFail => exact execDrbgHealthFail_keeps
  | drbgReseed => exact execDrbgReseed_keeps
  | sealRequest => exact execSealRequest_keeps
  | sealAlarm => exact execSealAlarm_keeps
  | sealRecover => exact execSealRecover_keeps
  | sealParityFault => exact execSealParityFault_keeps
  | twinRekeyDue => exact execTwinRekeyDue_keeps
  | twinRekeyRetry => exact execTwinRekeyRetry_keeps
  | twinCounterExhausted => exact execTwinCounterExhausted_keeps
  | witnessSeqExhausted => exact execWitnessSeqExhausted_keeps
  | getVersion => exact execGetVersion_keeps
  | getCapabilities => exact execGetCapabilities_keeps
  | negotiateAlgorithms => exact execNegotiateAlgorithms_keeps
  | getDigests => exact execGetDigests_keeps
  | getCertificate => exact execGetCertificate_keeps
  | challenge => exact execChallenge_keeps
  | getMeasurements => exact execGetMeasurements_keeps
  | keyExchange => exact execKeyExchange_keeps
  | finish => exact execFinish_keeps
  | spdmHeartbeat => exact execSpdmHeartbeat_keeps
  | spdmSessionTimeout => exact execSpdmSessionTimeout_keeps
  | keyUpdate => exact execKeyUpdate_keeps
  | endSession => exact execEndSession_keeps
  | twinSpdmSession => exact execTwinSpdmSession_keeps
  | rtvChallenge => exact execRtvChallenge_keeps
  | rtvResponse => exact execRtvResponse_keeps
  | ringFrameRx => exact execRingFrameRx_keeps
  | ringPortStateChange => exact execRingPortStateChange_keeps
  | ringSerdesLock => exact execRingSerdesLock_keeps
  | bypHoldRaise => exact execBypHoldRaise_keeps
  | sourceRecordExpired => exact execSourceRecordExpired_keeps
  | dictRead => exact execDictRead_keeps
  | dictWrite => exact execDictWrite_keeps
  | writeInit => exact execWriteInit_keeps
  | dictSegment => exact execDictSegment_keeps
  | dictAck => exact execDictAck_keeps
  | dictAbort => exact execDictAbort_keeps
  | segmentResendTimeout => exact execSegmentResendTimeout_keeps
  | transferTimeout => exact execTransferTimeout_keeps
  | transferCacheExpired => exact execTransferCacheExpired_keeps
  | notifyMergeExpired => exact execNotifyMergeExpired_keeps
  | windowWrite => exact execWindowWrite_keeps
  | windowWriteApply => exact execWindowWriteApply_keeps
  | setAlias => exact execSetAlias_keeps
  | clearAlias => exact execClearAlias_keeps
  | toggleAlias => exact execToggleAlias_keeps
  | registerWrite => exact execRegisterWrite_keeps
  | dictDefaults => exact execDictDefaults_keeps
  | barometerUpdate => exact execBarometerUpdate_keeps
  | barometerSeen => exact execBarometerSeen_keeps
  | eventRecordRead => exact execEventRecordRead_keeps
  | bootRomSelect => exact execBootRomSelect_keeps
  | trainStageDone => exact execTrainStageDone_keeps
  | loadStage => exact execLoadStage_keeps
  | pairStage => exact execPairStage_keeps
  | pairStageTimeout => exact execPairStageTimeout_keeps
  | claimDeniedRetry => exact execClaimDeniedRetry_keeps
  | entryIntoService => exact execEntryIntoService_keeps
  | recoveryQuery => exact execRecoveryQuery_keeps
  | recoveryData => exact execRecoveryData_keeps
  | recoveryEnd => exact execRecoveryEnd_keeps
  | recoveryDownloadTimeout => exact execRecoveryDownloadTimeout_keeps
  | updBlock => exact execUpdBlock_keeps
  | updEndVerify => exact execUpdEndVerify_keeps
  | updAbandon => exact execUpdAbandon_keeps
  | updIdleTimeout => exact execUpdIdleTimeout_keeps
  | fwActivate => exact execFwActivate_keeps
  | fwConfirm => exact execFwConfirm_keeps
  | probationElapsed => exact execProbationElapsed_keeps
  | fwRevert => exact execFwRevert_keeps
  | probationStartTimeout => exact execProbationStartTimeout_keeps
  | storeImport => exact execStoreImport_keeps
  | storeRestore => exact execStoreRestore_keeps
  | storeExport => exact execStoreExport_keeps
  | recoveryCmd => exact execRecoveryCmd_keeps
  | coreRetire => exact execCoreRetire_keeps
  | headIsolate => exact execHeadIsolate_keeps
  | headDcRegions => exact execHeadDcRegions_keeps
  | bistHbmSpare => exact execBistHbmSpare_keeps
  | bistHbmPatrol => exact execBistHbmPatrol_keeps
  | bistGmiRetrain => exact execBistGmiRetrain_keeps
  | bistParityCheck => exact execBistParityCheck_keeps
  | bistCipherKat => exact execBistCipherKat_keeps
  | bistSealKat => exact execBistSealKat_keeps
  | bistCoreSelftest => exact execBistCoreSelftest_keeps
  | bistPhyLoopback => exact execBistPhyLoopback_keeps
  | bistDone => exact execBistDone_keeps
  | refclkRestored => exact execRefclkRestored_keeps

/-- The end of a command: the frames it has sent are numbered and the flags are latched. -/
theorem Chip.Kept.ended {c₀ c was : Chip} (hc : c₀.Kept c) : c₀.Kept (Chip.ended was c) := hc.countSent.latch

/-- A command run on a state leaves its queue, its chip's identity and the canonical form of its stores. -/
theorem State.Keeps.next {s t : State} {o : Host.Outcome State Fault Refusal} (hk : s.Keeps o) (h : o = .next t) :
    s.chip.Kept t.chip ∧ t.pending = s.pending := by
  obtain ⟨c, rfl, hc⟩ := hk
  cases h
  exact ⟨hc.ended, rfl⟩

/-- A step takes at most the front of the queue, and keeps the chip's identity and the form of its stores: the command at
the front, a mailbox command that waited, or one idle tick. -/
theorem step_keeps {s t : State} (h : step s = .next t) : s.chip.Kept t.chip ∧ t.pending = s.pending.tail := by
  unfold step at h
  split at h
  · next i rest hp =>
    obtain ⟨hc, hq⟩ := (exec_keeps i _).next h
    exact ⟨hc, by rw [hq, hp]; rfl⟩
  · next hp =>
    split at h
    · next i c hd =>
      obtain ⟨hc, hq⟩ := (exec_keeps i _).next h
      have h1 : s.chip.Kept c := Chip.Kept.nextDeferred (.refl _) hd
      exact ⟨⟨hc.id.trans h1.id, hc.stores ∘ h1.stores⟩, by rw [hq, hp]; rfl⟩
    · obtain ⟨hc, hq⟩ := (s.onChip_keeps Chip.Kept.idle).next h
      exact ⟨hc, by rw [hq, hp]; rfl⟩

end Sys2Proof.Machine

/-- Settles O4, by one lemma for each operation of the chip: what it gives has the identity of what it was given, and canonical
stores where that had them. -/
theorem storesKept : Obligations.StoresKept := by
  intro s t h hs
  obtain ⟨hc, hq⟩ := Sys2Proof.Machine.step_keeps h
  exact ⟨hc.stores hs, hc.id, hq⟩
end

section
/-! While a window write of a head is carried out, what the entries show and the checks of a write see stays as it was. -/

namespace Sys2Proof.Machine

/-- The chip while it carries out a window write of head `h`: the writes still posted, the halves held, and the contexts. -/
def Chip.takenUp (c : Chip) (h : HeadNo) (pend : List WinWrite) (held : List (Nat × BitVec 32)) (ctx : List Context) : Chip :=
  (c.onHead h fun d => { d with pendingWin := pend, heldLow := held }).onRing fun r => { r with contexts := ctx }

section
variable (c : Chip) (h : HeadNo) (pend : List WinWrite) (held : List (Nat × BitVec 32)) (ctx : List Context)

/-- What does not look at the posted writes and the held halves sees each head as it was. -/
theorem Chip.takenUp_head {α : Type} (f : Head → α) (hf : ∀ d p l, f { d with pendingWin := p, heldLow := l } = f d) (k : HeadNo) :
    f ((c.takenUp h pend held ctx).head k) = f (c.head k) := by
  have hd : (c.takenUp h pend held ctx).head k = (c.onHead h fun d => { d with pendingWin := pend, heldLow := held }).head k := rfl
  rw [hd]
  by_cases hk : k = h
  · subst hk
    rw [Chip.head_onHead_same, hf]
  · rw [Chip.head_onHead_ne _ _ _ hk]

theorem Chip.takenUp_vecAt (f : Head → Nat) (hf : ∀ d p l, f { d with pendingWin := p, heldLow := l } = f d) (i : Nat) :
    vecAt (c.takenUp h pend held ctx).heads i f = vecAt c.heads i f := by
  unfold vecAt
  split
  · next hi => exact c.takenUp_head h pend held ctx f hf ⟨i, hi⟩
  · rfl

theorem Chip.takenUp_map {α : Type} (f : Head → α) (hf : ∀ d p l, f { d with pendingWin := p, heldLow := l } = f d) :
    (c.takenUp h pend held ctx).heads.toList.map f = c.heads.toList.map f := by
  refine List.ext_getElem (by simp) fun i h1 h2 => ?_
  have hi : i < 6 := by simpa using h1
  rw [List.getElem_map, List.getElem_map, Vector.getElem_toList, Vector.getElem_toList]
  exact c.takenUp_head h pend held ctx f hf ⟨i, hi⟩

variable {c h pend held ctx} {q : Requester}

theorem Chip.takenUp_sel (hq : (c.takenUp h pend held ctx).context q = c.context q) (i j d : Nat) :
    (c.takenUp h pend held ctx).sel q i j d = c.sel q i j d := by
  unfold Chip.sel
  rw [hq]

theorem Chip.takenUp_value1000 (hn : (c.takenUp h pend held ctx).ringContexts = c.ringContexts) (i j : Nat) :
    (c.takenUp h pend held ctx).value1000 i j = c.value1000 i j := by
  unfold Chip.value1000
  rw [hn, Chip.takenUp_vecAt _ _ _ _ _ Head.status fun _ _ _ => rfl]
  rfl

theorem Chip.takenUp_cueState (k : HeadNo) : (c.takenUp h pend held ctx).cueState k = c.cueState k := by
  have hq : ((c.takenUp h pend held ctx).head k).cue = (c.head k).cue := c.takenUp_head h pend held ctx (·.cue) (fun _ _ _ => rfl) k
  unfold Chip.cueState
  rw [hq]
  rfl

theorem Chip.takenUp_value2000 (hq : (c.takenUp h pend held ctx).context q = c.context q) (i j : Nat) :
    (c.takenUp h pend held ctx).value2000 q i j = c.value2000 q i j := by
  unfold Chip.value2000
  simp only [Chip.takenUp_sel hq, Chip.takenUp_cueState]
  rfl

theorem Chip.takenUp_value4000 (hq : (c.takenUp h pend held ctx).context q = c.context q) (i j : Nat) :
    (c.takenUp h pend held ctx).value4000 q i j = c.value4000 q i j := by
  unfold Chip.value4000
  simp only [Chip.takenUp_sel hq]
  rfl

theorem Chip.takenUp_value8000 (hq : (c.takenUp h pend held ctx).context q = c.context q) (i j : Nat) :
    (c.takenUp h pend held ctx).value8000 q i j = c.value8000 q i j := by
  have htx (k : HeadNo) : ((c.takenUp h pend held ctx).head k).ideTx = (c.head k).ideTx :=
    c.takenUp_head h pend held ctx (·.ideTx) (fun _ _ _ => rfl) k
  have hrx (k : HeadNo) : ((c.takenUp h pend held ctx).head k).ideRx = (c.head k).ideRx :=
    c.takenUp_head h pend held ctx (·.ideRx) (fun _ _ _ => rfl) k
  unfold Chip.value8000
  rw [Chip.takenUp_map _ _ _ _ _ (fun d : Head => d.sessions.length) fun _ _ _ => rfl,
    Chip.takenUp_vecAt _ _ _ _ _ (fun d => if d.ideTx.active.isSome then max d.ideTx.count (Config.reading (dictKey i j) (c.takenUp h pend held ctx).clk.ticks) else 0)
      fun _ _ _ => rfl]
  simp only [Chip.takenUp_sel hq, htx, hrx]
  rfl

/-- The value an entry shows to a requester does not depend on what stays posted or held, nor on other requesters' contexts. -/
theorem Chip.takenUp_dictValue (hq : (c.takenUp h pend held ctx).context q = c.context q)
    (hn : (c.takenUp h pend held ctx).ringContexts = c.ringContexts) (r : DictRow) (j : Nat) :
    (c.takenUp h pend held ctx).dictValue q r j = c.dictValue q r j := by
  have hshown : (c.takenUp h pend held ctx).shown q r.index j = c.shown q r.index j := by
    unfold Chip.shown
    rw [Chip.takenUp_value1000 hn, Chip.takenUp_value2000 hq, Chip.takenUp_value4000 hq, Chip.takenUp_value8000 hq]
    rfl
  unfold Chip.dictValue
  simp only [hshown, Chip.takenUp_sel hq]
  rfl

theorem Chip.takenUp_writeFault (hq : (c.takenUp h pend held ctx).context (.window h) = c.context (.window h))
    (hn : (c.takenUp h pend held ctx).ringContexts = c.ringContexts) (r : DictRow) (j : Nat) (b : List Byte) :
    (c.takenUp h pend held ctx).writeFault { req := .window h } r j b = c.writeFault { req := .window h } r j b := by
  have hlevel : (c.takenUp h pend held ctx).levelOf { req := .window h } = c.levelOf { req := .window h } := rfl
  unfold Chip.writeFault Chip.rsvChanged
  rw [hlevel]
  simp only [Chip.takenUp_dictValue hq hn]
  rfl

end
end Sys2Proof.Machine
end

section
/-! What ends an access of the control window, how a write is posted, and the chip that the oldest posted write is carried out on
(13 R371, R375). -/

namespace Sys2Proof.Machine

/-- A command whose meaning is a change of the chip completes with the changed chip, ended. -/
theorem Completes.of_onChip {i : Instr} {s : State} {f : Chip → Chip} {d : Chip} {p : Chip → Prop} (hi : exec i s = s.onChip f)
    (hf : f s.chip = d) (hp : p (Chip.ended s.chip d)) : Completes i s p := by
  subst hf
  exact ⟨_, hi, rfl, hp⟩

@[simp] theorem Chip.ended_head (was c : Chip) (k : HeadNo) : (Chip.ended was c).head k = c.head k := by
  unfold Chip.head
  rw [Chip.ended_heads]

theorem Chip.countSent_stored (c : Chip) (n : Nat) : (c.countSent n).ring.stored = c.ring.stored := by
  unfold Chip.countSent
  split <;> rfl

@[simp] theorem Chip.ended_par (was c : Chip) (i j z : Nat) : (Chip.ended was c).par i j z = c.par i j z := by
  unfold Chip.par Chip.ended
  rw [Chip.latch_ring, Chip.countSent_stored]

/-! ### What ends a window write -/

section
variable {s : State} {h : HeadNo} {i : Instr} {f : Chip → Chip}

/-- The write is not implemented, or changes a bit that it may not. -/
def Dropped (s : State) (h : HeadNo) (i : Instr) : Prop :=
  Completes i s fun c => c.outs = s.chip.outs ++ (if s.chip.id.part.full = true then [.completerAbort h] else []) ∧ s.chip.keepsBut [.outs] c

/-- Head `h` becomes `e`, and nothing else changes. -/
def HeadBecomes (s : State) (h : HeadNo) (i : Instr) (e : Head) : Prop :=
  Completes i s fun c => c.head h = e ∧ (∀ k, k ≠ h → c.head k = s.chip.head k) ∧ s.chip.keepsBut [.heads] c

theorem untouched_of (hi : exec i s = s.onChip f) (hf : f s.chip = s.chip) : Completes i s s.chip.untouched :=
  .of_onChip hi hf (Chip.keepsBut_ended (Chip.keepsBut_refl _ _))

theorem dropped_of (hi : exec i s = s.onChip f) (hf : f s.chip = s.chip.winDrop h) : Dropped s h i := by
  refine .of_onChip hi hf ?_
  unfold Chip.winDrop
  split
  · exact ⟨by simp, Chip.keepsBut_ended ((Chip.keepsBut_refl _ _).emit _ (by simp))⟩
  · exact ⟨by simp, Chip.keepsBut_ended (Chip.keepsBut_refl _ _)⟩

theorem headBecomes_of {g : Head → Head} (hi : exec i s = s.onChip f) (hf : f s.chip = s.chip.onHead h g) :
    HeadBecomes s h i (g (s.chip.head h)) := by
  refine .of_onChip hi hf ⟨?_, fun k hk => ?_, ?_⟩
  · rw [Chip.ended_head, Chip.head_onHead_same]
  · rw [Chip.ended_head, Chip.head_onHead_ne _ _ _ hk]
  · exact Chip.keepsBut_ended ((Chip.keepsBut_refl _ _).onHead _ _ (by simp))

/-- A change that leaves head `h` as it was. -/
theorem headBecomes_self (hi : exec i s = s.onChip f) (hf : f s.chip = s.chip) : HeadBecomes s h i (s.chip.head h) :=
  .of_onChip hi hf ⟨by simp, fun _ _ => by simp, Chip.keepsBut_ended (Chip.keepsBut_refl _ _)⟩

end

/-! ### Posting -/

section
variable {s : State} {h : HeadNo} {i : Instr} {w : WinWrite}

/-- A command posts the write `w` at head `h`, where the head takes it and the entry is mapped. -/
def Posts (s : State) (h : HeadNo) (i : Instr) (w : WinWrite) : Prop :=
  (s.chip.windowOpen h = false ∨ s.chip.boot.romDone = false ∨ s.chip.boot.rom = true ∨ 64 ≤ (s.chip.head h).pendingWin.length →
    Completes i s s.chip.untouched) ∧
  (s.chip.windowOpen h = true → s.chip.boot.romDone = true → s.chip.boot.rom = false → (s.chip.head h).pendingWin.length < 64 →
    (s.chip.winEntry w.index w.sub w.part = none → Dropped s h i) ∧
    ((s.chip.winEntry w.index w.sub w.part).isSome = true →
      HeadBecomes s h i { s.chip.head h with pendingWin := (s.chip.head h).pendingWin ++ [w] }))

theorem Chip.postWindow_closed {c : Chip}
    (hc : c.windowOpen h = false ∨ c.boot.romDone = false ∨ c.boot.rom = true ∨ 64 ≤ (c.head h).pendingWin.length) : c.postWindow h w = c := by
  unfold Chip.postWindow
  rw [if_pos (by simpa [or_assoc] using hc)]

theorem Chip.postWindow_open {c : Chip} (ho : c.windowOpen h = true) (hd : c.boot.romDone = true) (hr : c.boot.rom = false)
    (hl : (c.head h).pendingWin.length < 64) :
    c.postWindow h w = if (c.winEntry w.index w.sub w.part).isNone then c.winDrop h
      else c.onHead h fun d => { d with pendingWin := d.pendingWin ++ [w] } := by
  unfold Chip.postWindow
  rw [if_neg (by simp [ho, hd, hr, hl])]

theorem posts_of {f : Chip → Chip} (hi : exec i s = s.onChip f) (hf : f s.chip = s.chip.postWindow h w) : Posts s h i w := by
  refine ⟨fun hc => untouched_of hi (by rw [hf, Chip.postWindow_closed hc]), fun ho hd hr hl => ⟨fun hn => ?_, fun hs => ?_⟩⟩
  · exact dropped_of hi (by rw [hf, Chip.postWindow_open ho hd hr hl, hn]; rfl)
  · refine headBecomes_of hi (g := fun d => { d with pendingWin := d.pendingWin ++ [w] }) ?_
    rw [hf, Chip.postWindow_open ho hd hr hl, if_neg (by simpa [Option.isSome_iff_ne_none] using hs)]

end

/-! ### Taking up the oldest posted write -/

/-- The contexts once head `h` has used its own. -/
def Chip.windowContexts (c : Chip) (h : HeadNo) : List Context :=
  { req := .window h, vals := c.context (.window h) } :: c.ring.contexts.filter fun x => decide (x.req ≠ .window h)

theorem Chip.useContext_window (c : Chip) (h : HeadNo) :
    c.useContext (.window h) = c.onRing fun r => { r with contexts := c.windowContexts h } := by
  unfold Chip.useContext
  dsimp only [Bool.false_and]
  split
  · next heq => cases heq
  · rfl

section
variable {c : Chip} {h : HeadNo} {pend : List WinWrite} {held : List (Nat × BitVec 32)}

theorem Chip.takenUp_context : (c.takenUp h pend held (c.windowContexts h)).context (.window h) = c.context (.window h) := by
  show (((c.windowContexts h).find? fun x => decide (x.req = .window h)).map (·.vals)).getD [] = _
  unfold Chip.windowContexts
  rw [List.find?_cons_of_pos (by simp)]
  rfl

theorem Chip.takenUp_ringContexts : (c.takenUp h pend held (c.windowContexts h)).ringContexts = c.ringContexts := by
  show (c.windowContexts h).countP _ = c.ring.contexts.countP _
  unfold Chip.windowContexts
  rw [List.countP_cons_of_neg (by simp), List.countP_filter]
  refine List.countP_congr fun x _ => ?_
  cases hx : x.req <;> simp

theorem Chip.takenUp_keeps : c.keepsBut [.heads, .ring] (c.takenUp h pend held (c.windowContexts h)) :=
  ((Chip.keepsBut_refl _ _).onHead _ _ (by simp)).onRing _ (by simp)

end
end Sys2Proof.Machine
end

section
/-! Entries that only hold a stored value: writing one changes the store and nothing else (13 R368). -/

namespace Sys2Proof.Machine

/-! ### Bytes of a value -/

theorem ofBytes_toBytes (n v : Nat) : ofBytes (toBytes n v) = v % 2 ^ (8 * n) := by
  induction n generalizing v with
  | zero => simp [toBytes, ofBytes, Nat.mod_one]
  | succ n ih =>
    have hpow : 2 ^ (8 * (n + 1)) = 256 * 2 ^ (8 * n) := by rw [Nat.mul_add, Nat.pow_add]; omega
    rw [toBytes, ofBytes, ih, hpow, Nat.mod_mul, BitVec.toNat_ofNat]

/-! ### The rows that only hold a value -/

theorem Chip.entry_index {c : Chip} {i j : Nat} {r : DictRow} (he : c.entry i j = some r) : r.index = i := by
  unfold Chip.entry at he
  split at he
  · obtain ⟨t, -, rfl⟩ := Option.map_eq_some_iff.1 he
    rfl
  · split at he
    · cases he
      rfl
    · split at he
      · cases he
      · have hp := List.find?_some he
        exact (of_decide_eq_true hp).1

theorem Chip.entry_mem {c : Chip} {i j : Nat} {r : DictRow} (he : c.entry i j = some r) (ha : r.acc ≠ .ro) (hi : i < 0xF000) : r ∈ dictRows := by
  unfold Chip.entry at he
  split at he
  · obtain ⟨t, -, rfl⟩ := Option.map_eq_some_iff.1 he
    exact absurd rfl ha
  · rw [if_neg (by omega)] at he
    split at he
    · cases he
    · exact List.mem_of_find?_eq_some he

/-- The indices of Tables 13-13 and 10-12 whose entries do no more than hold a stored value. -/
def heldIndex (i : Nat) : Prop := i = 0x1120 ∨ i = 0x6005 ∨ i = 0x6011

theorem dictRows_held : ∀ r ∈ dictRows, (r.index == 0x1120 || r.index == 0x6005 || r.index == 0x6011) = true → r.acc ≠ .ro →
    r.perReq = false ∧ r.persistent = true := by
  decide +kernel

theorem held_row {r : DictRow} (hr : r ∈ dictRows) (hi : heldIndex r.index) (ha : r.acc ≠ .ro) : r.perReq = false ∧ r.persistent = true :=
  dictRows_held r hr (by simpa [heldIndex, or_assoc] using hi) ha

/-- Writing such an entry stores its value. -/
theorem Chip.applyWrite_held {c : Chip} {a : Access} {r : DictRow} {j : Nat} {b : List Byte} {ok : Bool} (hr : r ∈ dictRows)
    (hi : heldIndex r.index) (ha : r.acc ≠ .ro) : c.applyWrite a r j b ok = c.storeEntryValue a r.index j (ofBytes b) := by
  obtain ⟨hq, hp⟩ := held_row hr hi ha
  unfold Chip.applyWrite
  rcases hi with h | h | h <;> simp only [h, hq, hp] <;> rfl

theorem Chip.entryStored_held {c : Chip} {i j : Nat} (hi : heldIndex i) : c.entryStored i j = c := by
  rcases hi with h | h | h <;> subst h <;> rfl

/-! ### What a stored value changes -/

section
variable {a c : Chip} {l : List Grp}

theorem Chip.keepsBut.writeRecord (k : a.keepsBut l c) (cls : PageClass) (r : RecordAt) (b : List Byte) (hl : Grp.ledger ∈ l) :
    a.keepsBut l (c.writeRecord cls r b) := k.pageWrite _ _ _ hl

theorem Chip.keepsBut.pageDone (k : a.keepsBut l c) (p : PageWrite) (hl : Grp.ledger ∈ l) (hr : Grp.ring ∈ l) : a.keepsBut l (c.pageDone p) := by
  unfold Chip.pageDone
  extract_lets page n c1 c2 c3
  have h2 : a.keepsBut l c2 := (k.onLedger _ hl).bump _ _ _ hr
  split
  · exact (h2.onLedger _ hl).writeRecord _ _ _ hl
  · exact h2

theorem Chip.keepsBut.writeStore (k : a.keepsBut l c) (upper : Bool) (b : List Byte) (hl : Grp.ledger ∈ l) (hr : Grp.ring ∈ l)
    (hb : Grp.boot ∈ l) : a.keepsBut l (c.writeStore upper b) := by
  unfold Chip.writeStore
  refine Chip.keepsBut.bump (Chip.keepsBut.onBoot ?_ _ hb) _ _ _ hr
  exact Chip.keepsBut.foldl _ _ k fun d i kd => Chip.keepsBut.foldl _ _ kd fun e p ke => ke.pageDone p hl hr

theorem Chip.keepsBut.persist (k : a.keepsBut l c) (i j v : Nat) (hl : Grp.ledger ∈ l) (hr : Grp.ring ∈ l) (hb : Grp.boot ∈ l) :
    a.keepsBut l (c.persist i j v) := by
  unfold Chip.persist
  split
  · exact k
  · exact (k.writeStore _ _ hl hr hb).onRing _ hr

end

theorem Chip.persist_stored {c : Chip} (hf : c.ledger.failed = false) (i j v : Nat) :
    (c.persist i j v).ring.stored = c.ring.stored.put (dictKey i j) v := by
  unfold Chip.persist
  rw [if_neg (by simp [hf])]
  rfl

theorem Chip.notify_stored (c : Chip) (code i j : Nat) (b : List Byte) : (c.notify code i j b).ring.stored = c.ring.stored := by
  unfold Chip.notify
  split
  · rfl
  · split
    · extract_lets sec n
      split <;> rfl
    · split <;> rfl

/-- An entry that only holds a value is stored: nothing else changes but the ledger, the ring part with the notification, and the
validity of the store. -/
theorem Chip.storeEntryValue_held {c : Chip} {a : Access} {i j v : Nat} (hi : heldIndex i) (hf : c.ledger.failed = false) :
    ∃ d, c.storeEntryValue a i j v = (0, d) ∧ (∀ z, d.par i j z = v) ∧ c.keepsBut [.ledger, .ring, .boot, .outs] d := by
  refine ⟨(c.persist i j v).noteStored a i j, ?_, fun z => ?_, ?_⟩
  · unfold Chip.storeEntryValue
    rw [if_neg (by simp [hf]), Chip.entryStored_held hi]
  · unfold Chip.par SMap.getD Chip.noteStored
    rw [Chip.notify_stored, Chip.persist_stored hf, SMap.find_put_self]
    rfl
  · exact ((Chip.keepsBut_refl _ _).persist _ _ _ (by simp) (by simp) (by simp)).notify _ _ _ _ (by simp) (by simp)

end Sys2Proof.Machine
end

section
/-! The oldest posted write is carried out: refused with a code, or its value stored through the checks of the entry (13 R375). -/

namespace Sys2Proof.Machine

/-! ### Carrying out the oldest posted write -/

/-- A write carried out with a code: refused where it is not 0. -/
def Chip.windowEnd (x : Nat × Chip) (h : HeadNo) (w : WinWrite) : Chip := if x.1 = 0 then x.2 else x.2.winRefused h w x.1

/-- The oldest posted write of head `h` is `w`, of entry `r`, and firmware and MG run. -/
structure Chip.TakesUp (c : Chip) (h : HeadNo) (w : WinWrite) (rest : List WinWrite) (r : DictRow) : Prop where
  pending : (c.head h).pendingWin = w :: rest
  mainOut : c.boot.mainOut = true
  romDone : c.boot.romDone = true
  noRom : c.boot.rom = false
  mgRuns : c.mgRuns = true
  entry : c.winEntry w.index w.sub w.part = some r

/-- The chip while it carries out a posted write of head `h`. -/
def Chip.inWrite (c : Chip) (h : HeadNo) (rest : List WinWrite) (held : List (Nat × BitVec 32)) : Chip := c.takenUp h rest held (c.windowContexts h)

theorem Chip.applyWindow_empty {c : Chip} {h : HeadNo}
    (hc : (c.head h).pendingWin = [] ∨ c.boot.mainOut = false ∨ c.boot.romDone = false ∨ c.boot.rom = true ∨ c.mgRuns = false) :
    c.applyWindow h = c := by
  unfold Chip.applyWindow
  split
  · rfl
  · next w rest hw =>
    rw [hw] at hc
    rw [if_pos (by simpa [or_assoc] using hc)]

theorem Chip.TakesUp.applyWindow {c : Chip} {h : HeadNo} {w : WinWrite} {rest : List WinWrite} {r : DictRow} (t : c.TakesUp h w rest r) :
    c.applyWindow h = Chip.windowEnd (match w.kind with
      | some k => (c.inWrite h rest (c.head h).heldLow).winAlias h w r k
      | none => (c.inWrite h rest (c.head h).heldLow).winPlain h w r) h w := by
  obtain ⟨hp, hm, hd, hr, hg, he⟩ := t
  have hc : (c.onHead h fun d => { d with pendingWin := rest }).useContext (.window h) = c.inWrite h rest (c.head h).heldLow := by
    rw [Chip.useContext_window]
    rfl
  have he' : (c.inWrite h rest (c.head h).heldLow).winEntry w.index w.sub w.part = some r := he
  unfold Chip.applyWindow
  rw [hp]
  dsimp only
  rw [if_neg (by simp [hm, hd, hr, hg]), hc, he']
  rfl

section
variable {s : State} {h : HeadNo} {w : WinWrite} {rest : List WinWrite} {r : DictRow} {held : List (Nat × BitVec 32)}

theorem Chip.inWrite_head {c : Chip} : (c.inWrite h rest held).head h = { c.head h with pendingWin := rest, heldLow := held } :=
  Chip.head_onHead_same c h fun d => { d with pendingWin := rest, heldLow := held }

theorem Chip.winRefused_outs {c : Chip} {e : Nat} : (c.winRefused h w e).outs = c.outs ++ [.completerAbort h] := by
  unfold Chip.winRefused Chip.recordAbort
  rw [Chip.onHead_outs, Chip.emit_outs, Chip.onRing_outs]

/-- The first refusal since ERR was cleared is latched. -/
def Head.latchRefusal (d : Head) (off : BitVec 20) (e : Nat) : Head :=
  if d.winErr then d else { d with winErr := true, winErrOffset := off, winErrCode := BitVec.ofNat 32 e }

theorem Chip.winRefused_head {c : Chip} {e : Nat} : (c.winRefused h w e).head h =
    (c.head h).latchRefusal (c.windowOffset w.index w.sub + (if w.part = .high then 4 else 0)) e := by
  unfold Chip.winRefused Chip.recordAbort
  rw [Chip.head_onHead_same, Chip.head, Chip.emit_heads, Chip.onRing_heads]
  rfl

theorem Head.latchRefusal_pendingWin (d : Head) (off : BitVec 20) (e : Nat) : (d.latchRefusal off e).pendingWin = d.pendingWin := by
  unfold Head.latchRefusal
  split <;> rfl

theorem Head.latchRefusal_winErr (d : Head) (off : BitVec 20) (e : Nat) : (d.latchRefusal off e).winErr = true := by
  unfold Head.latchRefusal
  split
  · assumption
  · rfl

theorem Head.latchRefusal_first {d : Head} {off : BitVec 20} {e : Nat} (hd : d.winErr = false) :
    (d.latchRefusal off e).winErrCode = BitVec.ofNat 32 e ∧ (d.latchRefusal off e).winErrOffset = off := by
  unfold Head.latchRefusal
  rw [if_neg (by simp [hd])]
  exact ⟨rfl, rfl⟩

theorem Chip.keepsBut.winRefused {a c : Chip} {l : List Grp} (k : a.keepsBut l c) (e : Nat) (hr : Grp.ring ∈ l) (ho : Grp.outs ∈ l)
    (hh : Grp.heads ∈ l) : a.keepsBut l (c.winRefused h w e) := ((k.onRing _ hr).emit _ ho).onHead _ _ hh

theorem Chip.inWrite_keeps {c : Chip} : c.keepsBut [.heads, .ring] (c.inWrite h rest held) := Chip.takenUp_keeps

theorem Chip.inWrite_outs {c : Chip} : (c.inWrite h rest held).outs = c.outs := rfl

theorem Chip.inWrite_dictValue {c : Chip} (r : DictRow) (j : Nat) : (c.inWrite h rest held).dictValue (.window h) r j = c.dictValue (.window h) r j :=
  Chip.takenUp_dictValue Chip.takenUp_context Chip.takenUp_ringContexts r j

theorem Chip.inWrite_writeFault {c : Chip} (r : DictRow) (j : Nat) (b : List Byte) :
    (c.inWrite h rest held).writeFault { req := .window h } r j b = c.writeFault { req := .window h } r j b :=
  Chip.takenUp_writeFault Chip.takenUp_context Chip.takenUp_ringContexts r j b

/-- The oldest posted write is refused with a code: dropped, reported, and latched where nothing is. -/
def Refuses (s : State) (h : HeadNo) (w : WinWrite) (rest : List WinWrite) (code : Nat) : Prop :=
  Completes (.windowWriteApply h) s fun c => (c.head h).pendingWin = rest ∧ Output.completerAbort h ∈ s.chip.sent c ∧ (c.head h).winErr = true ∧
    ((s.chip.head h).winErr = false → (c.head h).winErrCode = BitVec.ofNat 32 code ∧
      (c.head h).winErrOffset = s.chip.windowOffset w.index w.sub + (if w.part = .high then 4 else 0)) ∧ s.chip.only c []

theorem refuses_of {e : Nat} (hx : s.chip.applyWindow h = Chip.windowEnd (e, s.chip.inWrite h rest held) h w) (he : e ≠ 0) : Refuses s h w rest e := by
  refine .of_onChip (f := fun c => c.applyWindow h) rfl (hx.trans (if_neg he)) ?_
  dsimp only
  rw [Chip.ended_head, Chip.winRefused_head, Chip.inWrite_head]
  refine ⟨Head.latchRefusal_pendingWin .., ?_, Head.latchRefusal_winErr .., fun hw => Head.latchRefusal_first hw, Chip.keepsBut_ended ?_⟩
  · unfold Chip.sent
    rw [Chip.ended_outs, Chip.winRefused_outs, Chip.inWrite_outs, List.drop_left]
    exact List.mem_singleton.2 rfl
  · exact (Chip.keepsBut_mono Chip.inWrite_keeps (by simp [accessGrps])).winRefused e (by simp [accessGrps]) (by simp [accessGrps]) (by simp [accessGrps])

/-- The oldest posted write, of entry `r`, gives it the value `n`, through the checks of the entry. -/
def StoresValue (s : State) (h : HeadNo) (w : WinWrite) (rest : List WinWrite) (r : DictRow) (n : Nat) : Prop :=
  (r.acc = .ro → s.chip.id.part.full = true → Refuses s h w rest abWriteLocked) ∧
  (r.acc ≠ .ro → s.chip.writeFault { req := .window h } r w.sub (toBytes r.type.size n) ≠ 0 →
    Refuses s h w rest (s.chip.writeFault { req := .window h } r w.sub (toBytes r.type.size n))) ∧
  (r.acc ≠ .ro → s.chip.writeFault { req := .window h } r w.sub (toBytes r.type.size n) = 0 →
    w.index = 0x1120 ∨ w.index = 0x6005 ∨ w.index = 0x6011 → s.chip.ledger.failed = false →
    Completes (.windowWriteApply h) s fun c => (c.head h).pendingWin = rest ∧ (c.head h).winErr = (s.chip.head h).winErr ∧
      (∀ z, c.par w.index w.sub z = n % 2 ^ (8 * r.type.size)) ∧ s.chip.only c [.ledger, .boot])

theorem storesValue_of {n : Nat} (t : s.chip.TakesUp h w rest r)
    (hx : s.chip.applyWindow h = Chip.windowEnd ((s.chip.inWrite h rest held).winStore h w r n) h w) : StoresValue s h w rest r n := by
  obtain ⟨he, hmap⟩ := Option.filter_eq_some_iff.1 t.entry
  have hindex : r.index = w.index := Chip.entry_index he
  have hlow : w.index < 0xF000 := by
    simp only [mappedEntry, Bool.and_eq_true, decide_eq_true_eq] at hmap
    omega
  have hwrite : (s.chip.inWrite h rest held).winStore h w r n =
      if r.acc = .ro then (if s.chip.id.part.full then abWriteLocked else 0, s.chip.inWrite h rest held)
      else if s.chip.writeFault { req := .window h } r w.sub (toBytes r.type.size n) ≠ 0 then
        (s.chip.writeFault { req := .window h } r w.sub (toBytes r.type.size n), s.chip.inWrite h rest held)
      else (s.chip.inWrite h rest held).applyWrite { req := .window h } r w.sub (toBytes r.type.size n) true := by
    have he' : (s.chip.inWrite h rest held).entry w.index w.sub = some r := he
    unfold Chip.winStore Chip.writeEntry
    rw [he']
    dsimp only
    rw [Chip.inWrite_writeFault, if_neg (show ¬ 0xF000 ≤ r.index by omega)]
    rfl
  rw [hwrite] at hx
  refine ⟨fun ha hf => refuses_of (by rw [hx, if_pos ha, if_pos hf]) (by decide), fun ha hw => refuses_of (by rw [hx, if_neg ha, if_pos hw]) hw,
    fun ha hw hi hf => ?_⟩
  obtain ⟨d, hd, hpar, hkeep⟩ := Chip.storeEntryValue_held (c := s.chip.inWrite h rest held) (a := { req := .window h }) (i := r.index) (j := w.sub)
    (v := ofBytes (toBytes r.type.size n)) (by rw [hindex]; exact hi) hf
  have hhead : d.head h = { s.chip.head h with pendingWin := rest, heldLow := held } := by
    have hheads : d.heads = (s.chip.inWrite h rest held).heads := hkeep .heads (by simp)
    rw [← Chip.inWrite_head]
    unfold Chip.head
    rw [hheads]
  refine .of_onChip (f := fun c => c.applyWindow h) (d := d) rfl ?_ ⟨?_, ?_, fun z => ?_, ?_⟩
  · rw [hx, if_neg ha, if_neg (by simpa using hw), Chip.applyWrite_held (Chip.entry_mem he ha hlow) (by rw [hindex]; exact hi) ha, hd]
    rfl
  · rw [Chip.ended_head, hhead]
  · rw [Chip.ended_head, hhead]
  · rw [Chip.ended_par, ← hindex, hpar, ofBytes_toBytes]
  · exact Chip.keepsBut_ended (Chip.keepsBut_trans (Chip.keepsBut_mono Chip.inWrite_keeps (by simp [accessGrps])) (Chip.keepsBut_mono hkeep (by simp [accessGrps])))

end
end Sys2Proof.Machine
end

section
/-! The value a posted write gives its entry: a plain write, the halves of a pair, aliases (13 R372, R374, R376, R377). -/

namespace Sys2Proof.Machine

theorem not_and_decide {b : Bool} {p : Prop} {_ : Decidable p} (h : b = false ∨ ¬ p) : ¬ (b && decide p) = true := by
  rcases h with h | h <;> simp [h]

theorem Chip.onHead_onHead (c : Chip) (h : HeadNo) (f g : Head → Head) : (c.onHead h f).onHead h g = c.onHead h fun d => g (f d) := by
  have hget : (c.heads.set h.val (f (c.heads.get h)) h.isLt).get h = f (c.heads.get h) := Vector.getElem_set_self ..
  unfold Chip.onHead
  simp only [hget, Vector.set_set]

section
variable {s : State} {h : HeadNo} {w : WinWrite} {rest : List WinWrite} {r : DictRow}

theorem Chip.inWrite_onHead {c : Chip} {held : List (Nat × BitVec 32)} (f : List (Nat × BitVec 32) → List (Nat × BitVec 32)) :
    (c.inWrite h rest held).onHead h (fun d => { d with heldLow := f d.heldLow }) = c.inWrite h rest (f held) :=
  congrArg (·.onRing fun r => { r with contexts := c.windowContexts h })
    (c.onHead_onHead h (fun d => { d with pendingWin := rest, heldLow := held }) fun d => { d with heldLow := f d.heldLow })

/-! ### A plain write of an entry -/

theorem Chip.TakesUp.plain (t : s.chip.TakesUp h w rest r) (hk : w.kind = none) :
    s.chip.applyWindow h = Chip.windowEnd ((s.chip.inWrite h rest (s.chip.head h).heldLow).winPlain h w r) h w := by
  rw [t.applyWindow, hk]

/-- A value that does not fit is refused in the full configuration. -/
theorem refuses_wide (t : s.chip.TakesUp h w rest r) (hp : w.part = .word) (hk : w.kind = none) (hf : s.chip.id.part.full = true)
    (hv : 2 ^ (8 * r.type.size) ≤ w.value.toNat) : Refuses s h w rest abWriteLocked := by
  refine refuses_of (held := (s.chip.head h).heldLow) ?_ (by decide)
  rw [t.plain hk]
  have hf' : (s.chip.inWrite h rest (s.chip.head h).heldLow).id.part.full = true := hf
  unfold Chip.winPlain
  simp only [hp]
  rw [if_pos (by simp [hf', hv])]

theorem storesValue_word (t : s.chip.TakesUp h w rest r) (hp : w.part = .word) (hk : w.kind = none)
    (hv : s.chip.id.part.full = false ∨ w.value.toNat < 2 ^ (8 * r.type.size)) :
    StoresValue s h w rest r (w.value.toNat % 2 ^ (8 * r.type.size)) := by
  refine storesValue_of (held := (s.chip.head h).heldLow) t ?_
  rw [t.plain hk]
  have hv' : (s.chip.inWrite h rest (s.chip.head h).heldLow).id.part.full = false ∨ w.value.toNat < 2 ^ (8 * r.type.size) := hv
  unfold Chip.winPlain
  simp only [hp]
  rw [if_neg (not_and_decide (hv'.imp_right Nat.not_le_of_lt))]

/-- The low half of a pair is held for its high half. -/
theorem holds_low (t : s.chip.TakesUp h w rest r) (hp : w.part = .low) (hk : w.kind = none) :
    Completes (.windowWriteApply h) s fun c => (dictKey w.index w.sub, w.value.setWidth 32) ∈ (c.head h).heldLow ∧ (c.head h).pendingWin = rest ∧
      s.chip.only c [] := by
  have hx : s.chip.applyWindow h = (s.chip.inWrite h rest (s.chip.head h).heldLow).onHead h fun d =>
      { d with heldLow := d.heldLow.filter (fun p => p.1 != dictKey w.index w.sub) ++ [(dictKey w.index w.sub, w.value.setWidth 32)] } := by
    rw [t.plain hk]
    unfold Chip.winPlain
    simp only [hp]
    rfl
  refine .of_onChip (f := fun c => c.applyWindow h) rfl hx ?_
  rw [Chip.ended_head, Chip.head_onHead_same, Chip.inWrite_head]
  refine ⟨by simp, rfl, Chip.keepsBut_ended ?_⟩
  exact (Chip.keepsBut_mono Chip.inWrite_keeps (by simp [accessGrps])).onHead _ _ (by simp [accessGrps])

theorem storesValue_high (t : s.chip.TakesUp h w rest r) (hp : w.part = .high) (hk : w.kind = none) {low : BitVec 32}
    (hl : (s.chip.head h).heldLow.find? (fun p => decide (p.1 = dictKey w.index w.sub)) = some (dictKey w.index w.sub, low)) :
    StoresValue s h w rest r (w.value.toNat % 2 ^ 32 * 2 ^ 32 + low.toNat) := by
  refine storesValue_of (held := (s.chip.head h).heldLow.filter fun p => p.1 != dictKey w.index w.sub) t ?_
  have hfound : ((s.chip.inWrite h rest (s.chip.head h).heldLow).head h).heldLow.find? (fun p => decide (p.1 = dictKey w.index w.sub)) =
      some (dictKey w.index w.sub, low) := by
    rw [Chip.inWrite_head]
    exact hl
  rw [t.plain hk]
  unfold Chip.winPlain
  simp only [hp, hfound]
  rw [Chip.inWrite_onHead fun l => l.filter fun p => p.1 != dictKey w.index w.sub]

/-! ### A write through an entry's aliases -/

theorem Chip.TakesUp.aliased (t : s.chip.TakesUp h w rest r) {k : AliasKind} (hk : w.kind = some k) :
    s.chip.applyWindow h = Chip.windowEnd ((s.chip.inWrite h rest (s.chip.head h).heldLow).winAlias h w r k) h w := by
  rw [t.applyWindow, hk]

/-- The bits of an entry that its aliases act on. -/
def aliasBits (r : DictRow) (sub : Nat) : Nat := if r.acc = .rw then 2 ^ (8 * r.type.size) - 1 - rsvMask r sub else 0

theorem Chip.winAlias_word {c : Chip} {k : AliasKind} (hp : w.part = .word) : c.winAlias h w r k =
    if c.id.part.full && decide (w.value.toNat % 2 ^ 32 &&& aliasBits r w.sub ≠ w.value.toNat % 2 ^ 32) then (abWriteLocked, c)
    else if r.acc ≠ .rw then (0, c)
    else c.winStore h w r (k.apply (c.dictValue (.window h) r w.sub) (w.value.toNat % 2 ^ 32 % 2 ^ (8 * min 4 r.type.size))) := by
  unfold Chip.winAlias
  rw [hp]
  rfl

theorem refuses_alias (t : s.chip.TakesUp h w rest r) {k : AliasKind} (hp : w.part = .word) (hk : w.kind = some k)
    (hf : s.chip.id.part.full = true) (hb : w.value.toNat % 2 ^ 32 &&& aliasBits r w.sub ≠ w.value.toNat % 2 ^ 32) :
    Refuses s h w rest abWriteLocked := by
  have hf' : (s.chip.inWrite h rest (s.chip.head h).heldLow).id.part.full = true := hf
  refine refuses_of (held := (s.chip.head h).heldLow) ?_ (by decide)
  rw [t.aliased hk, Chip.winAlias_word hp, if_pos (by rw [hf', Bool.true_and]; exact decide_eq_true hb)]

theorem storesValue_alias (t : s.chip.TakesUp h w rest r) {k : AliasKind} (hp : w.part = .word) (hk : w.kind = some k)
    (hb : s.chip.id.part.full = false ∨ w.value.toNat % 2 ^ 32 &&& aliasBits r w.sub = w.value.toNat % 2 ^ 32) (ha : r.acc = .rw) :
    StoresValue s h w rest r (k.apply (s.chip.dictValue (.window h) r w.sub) (w.value.toNat % 2 ^ 32 % 2 ^ (8 * min 4 r.type.size))) := by
  have hb' : (s.chip.inWrite h rest (s.chip.head h).heldLow).id.part.full = false ∨
      ¬ (w.value.toNat % 2 ^ 32 &&& aliasBits r w.sub ≠ w.value.toNat % 2 ^ 32) := hb.imp_right not_not_intro
  refine storesValue_of (held := (s.chip.head h).heldLow) t ?_
  rw [t.aliased hk, Chip.winAlias_word hp, if_neg (not_and_decide hb'), if_neg (not_not_intro ha), Chip.inWrite_dictValue]

end

end Sys2Proof.Machine
end

section
/-! Reads of open bits, and an access without a row of its own (00 R12, R13). -/

namespace Sys2Proof.Machine

/-! ### Reads -/

theorem Chip.readOpen_bits (c : Chip) (loc mask v : Nat) :
    (c.id.part.full = true → (c.readOpen loc mask v).1 = v) ∧ ∀ i, mask.testBit i = false → (c.readOpen loc mask v).1.testBit i = v.testBit i := by
  unfold Chip.readOpen
  split
  · exact ⟨fun _ => rfl, fun _ _ => rfl⟩
  · next hn =>
    refine ⟨fun hf => absurd (by simp [hf]) hn, fun i hi => ?_⟩
    simp [hi]

/-- A read whose bits are open takes at most one of the free choices. -/
theorem Chip.readOpen_chip (c : Chip) (loc mask v : Nat) : (c.readOpen loc mask v).2 = c ∨ (c.readOpen loc mask v).2 = c.choose := by
  unfold Chip.readOpen
  split
  · exact .inl rfl
  · exact .inr rfl

theorem Chip.readOpen_outs (c : Chip) (loc mask v : Nat) : (c.readOpen loc mask v).2.outs = c.outs := by
  rcases c.readOpen_chip loc mask v with h | h <;> rw [h]
  rfl

theorem Chip.keepsBut.readOpen {a c : Chip} {l : List Grp} (k : a.keepsBut l c) (loc mask v : Nat) (hl : Grp.cache ∈ l) :
    a.keepsBut l (c.readOpen loc mask v).2 := by
  rcases c.readOpen_chip loc mask v with h | h <;> rw [h]
  · exact k
  · exact k.onCache _ hl

section
variable {s : State} {h : HeadNo} {x : BitVec 32} {w : WinAccess}

/-- An access of head `h` that has no row of its own, by its access code. -/
def Chip.windowAccess (c : Chip) (h : HeadNo) (v : BitVec 32) : WinAccess → Chip
  | .write r => c.winSetWord h r v
  | .writeBytes off b => c.winWriteBytes h off.toNat b
  | .read r => c.winRead h r
  | .readBytes off n => c.winReadBytes h off.toNat n
  | .configWrite r => c.configWrite h r v
  | .configRead r => c.emit (.configRead h (c.configValue h r))

/-- An access through head `h`: nothing while the head takes none. -/
def Chip.registerAccess (c : Chip) (h : HeadNo) (v : BitVec 32) (w : WinAccess) : Chip :=
  if c.windowOpen h then c.windowAccess h v w else c

theorem exec_registerWrite : exec (.registerWrite h w x) s = s.onChip fun c => c.registerAccess h x w := by
  change execRegisterWrite h w x s = _
  unfold execRegisterWrite
  refine congrArg s.onChip (funext fun c => ?_)
  unfold Chip.registerAccess Chip.windowAccess
  cases ho : c.windowOpen h
  · rfl
  · cases w <;> rfl

theorem Chip.registerAccess_open {c : Chip} (ho : c.windowOpen h = true) : c.registerAccess h x w = c.windowAccess h x w := if_pos ho

theorem Chip.registerAccess_closed {c : Chip} (ho : c.windowOpen h = false) : c.registerAccess h x w = c := if_neg (by simp [ho])

end
end Sys2Proof.Machine
end

section
/-! Reads and byte accesses of the window, the cue ring entries and the configuration space (00 R12, R13; 02 R64; 03 R79). -/

namespace Sys2Proof.Machine

section
variable {s : State} {h : HeadNo} {x : BitVec 32} {w : WinAccess} {n loc : Nat}

/-- What a read of `n` bytes gives: of a value with its open bits, or of nothing that is implemented. -/
def ReadsAs (s : State) (h : HeadNo) (x : BitVec 32) (w : WinAccess) (n loc : Nat) (known : Option (Nat × Nat)) : Prop :=
  Completes (.registerWrite h w x) s fun c => s.chip.keepsBut [.outs, .cache] c ∧
    (match known with
    | none => c.outs = s.chip.outs ++ (if s.chip.id.part.full = true then [.completerAbort h, .windowRead h (List.replicate n 0xFF)]
        else [.windowRead h (toBytes n (Config.unspecified loc s.chip.cache.choice))])
    | some (v, mask) => ∃ x, c.outs = s.chip.outs ++ [.windowRead h (toBytes n x)] ∧ (s.chip.id.part.full = true → x = v) ∧
        ∀ i, mask.testBit i = false → x.testBit i = v.testBit i)

theorem untouched_closed (ho : s.chip.windowOpen h = false) : Completes (.registerWrite h w x) s s.chip.untouched :=
  untouched_of exec_registerWrite (Chip.registerAccess_closed ho)

theorem dropped_access (ho : s.chip.windowOpen h = true) (hw : s.chip.windowAccess h x w = s.chip.winDrop h) : Dropped s h (.registerWrite h w x) :=
  dropped_of exec_registerWrite ((Chip.registerAccess_open ho).trans hw)

theorem headBecomes_access {g : Head → Head} (ho : s.chip.windowOpen h = true) (hw : s.chip.windowAccess h x w = s.chip.onHead h g) :
    HeadBecomes s h (.registerWrite h w x) (g (s.chip.head h)) :=
  headBecomes_of exec_registerWrite ((Chip.registerAccess_open ho).trans hw)

theorem readsAs_void (ho : s.chip.windowOpen h = true) (hw : s.chip.windowAccess h x w = s.chip.winVoid h loc n) : ReadsAs s h x w n loc none := by
  refine .of_onChip exec_registerWrite ((Chip.registerAccess_open ho).trans hw) ?_
  unfold Chip.winVoid
  split
  · exact ⟨Chip.keepsBut_ended (((Chip.keepsBut_refl _ _).emit _ (by simp)).emit _ (by simp)), by simp⟩
  · refine ⟨Chip.keepsBut_ended (((Chip.keepsBut_refl _ _).emit _ (by simp)).onCache _ (by simp)), ?_⟩
    rw [Chip.ended_outs]
    rfl

/-- A read of a value whose open bits are given gives a part of it. -/
theorem readsAs_value {loc' mask v : Nat} (p : WinPart) (ho : s.chip.windowOpen h = true)
    (hw : s.chip.windowAccess h x w =
      (s.chip.readOpen loc' mask v).2.emit (.windowRead h (toBytes n (partOf p (s.chip.readOpen loc' mask v).1)))) :
    ReadsAs s h x w n loc (some (partOf p v, partOf p mask)) := by
  obtain ⟨hfull, hbits⟩ := s.chip.readOpen_bits loc' mask v
  refine .of_onChip exec_registerWrite ((Chip.registerAccess_open ho).trans hw)
    ⟨Chip.keepsBut_ended (((Chip.keepsBut_refl _ _).readOpen _ _ _ (by simp)).emit _ (by simp)), partOf p (s.chip.readOpen loc' mask v).1, ?_,
      fun hf => by rw [hfull hf], fun i hi => ?_⟩
  · rw [Chip.ended_outs, Chip.emit_outs, Chip.readOpen_outs]
  · cases p with
    | word => exact hbits i hi
    | pair => exact hbits i hi
    | low =>
      simp only [partOf, Nat.testBit_mod_two_pow] at hi ⊢
      by_cases h32 : i < 32
      · rw [hbits i (by simpa [h32] using hi)]
      · simp [h32]
    | high =>
      simp only [partOf, Nat.testBit_div_two_pow] at hi ⊢
      exact hbits _ hi

theorem readsAs_register (ho : s.chip.windowOpen h = true) (off : BitVec 20) :
    ReadsAs s h x (.read (.reg off)) 4 (if s.chip.winRegister h (unalias off.toNat) = none then off.toNat else unalias off.toNat)
      ((s.chip.winRegister h (unalias off.toNat)).map fun r => (r.value, r.rsv)) := by
  cases hr : s.chip.winRegister h (unalias off.toNat) with
  | none =>
    refine readsAs_void ho ?_
    show s.chip.winRead h (.reg off) = _
    unfold Chip.winRead
    dsimp only
    rw [hr]
    rfl
  | some r =>
    refine readsAs_value .word (loc' := unalias off.toNat) ho ?_
    show s.chip.winRead h (.reg off) = _
    unfold Chip.winRead
    dsimp only
    rw [hr]
    rfl

theorem readsAs_entry (ho : s.chip.windowOpen h = true) (i : BitVec 16) (j : BitVec 8) (p : WinPart) :
    ReadsAs s h x (.read (.entry i j p)) (if p = .pair then 8 else 4) (dictKey i.toNat j.toNat)
      ((s.chip.winEntry i.toNat j.toNat p).map fun r =>
        (partOf p (if r.acc = .wo then 0 else s.chip.dictValue (.window h) r j.toNat),
          partOf p ((if r.type.size < 4 then 2 ^ 32 - 2 ^ (8 * r.type.size) else 0) + (if r.acc = .wo then 0 else rsvMask r j.toNat)))) := by
  cases hr : s.chip.winEntry i.toNat j.toNat p with
  | none =>
    refine readsAs_void ho ?_
    show s.chip.winRead h (.entry i j p) = _
    unfold Chip.winRead
    dsimp only
    rw [hr]
  | some r =>
    refine readsAs_value p (loc' := dictKey i.toNat j.toNat) ho ?_
    show s.chip.winRead h (.entry i j p) = _
    unfold Chip.winRead
    dsimp only
    rw [hr]

/-! ### Cue ring entries -/

theorem cueAccess_of {off n : Nat} (hc : 0x80000 ≤ off ∧ off < 0x84000) (hn : n = 4 ∨ n = 8 ∨ n = 16 ∨ n = 32 ∨ n = 64) (ha : off % n = 0) :
    cueAccess off n = true := by
  unfold cueAccess
  rcases hn with rfl | rfl | rfl | rfl | rfl <;> simp [hc, ha]

theorem cueAccess_outside {off n : Nat} (hc : ¬ (0x80000 ≤ off ∧ off < 0x84000)) : cueAccess off n = false := by
  unfold cueAccess
  rw [decide_eq_false hc]
  rfl

theorem headBecomes_cueWrite (ho : s.chip.windowOpen h = true) {off : BitVec 20} {b : List Byte} (hc : cueAccess off.toNat b.length = true) :
    HeadBecomes s h (.registerWrite h (.writeBytes off b) x) { s.chip.head h with
      cue := { (s.chip.head h).cue with entries := (s.chip.head h).cue.entries.write (off.toNat - 0x80000) b } } :=
  headBecomes_access (g := fun d => { d with cue := { d.cue with entries := d.cue.entries.write (off.toNat - 0x80000) b } }) ho (if_pos hc)

theorem completes_cueRead (ho : s.chip.windowOpen h = true) {off : BitVec 20} (hc : cueAccess off.toNat n = true) :
    Completes (.registerWrite h (.readBytes off n) x) s fun c =>
      c.outs = s.chip.outs ++ [.windowRead h ((s.chip.head h).cue.entries.read (off.toNat - 0x80000) n)] ∧ s.chip.keepsBut [.outs] c :=
  .of_onChip exec_registerWrite ((Chip.registerAccess_open ho).trans (if_pos hc))
    ⟨by rw [Chip.ended_outs, Chip.emit_outs], Chip.keepsBut_ended ((Chip.keepsBut_refl _ _).emit _ (by simp))⟩

theorem dropped_bytes (ho : s.chip.windowOpen h = true) {off : BitVec 20} {b : List Byte} (hc : ¬ (0x80000 ≤ off.toNat ∧ off.toNat < 0x84000))
    (hb : b.length ≠ 4) : Dropped s h (.registerWrite h (.writeBytes off b) x) :=
  dropped_access ho ((if_neg (by rw [cueAccess_outside hc]; decide)).trans (if_neg hb))

theorem readsAs_bytes (ho : s.chip.windowOpen h = true) {off : BitVec 20} (hc : ¬ (0x80000 ≤ off.toNat ∧ off.toNat < 0x84000)) (hn : n ≠ 4) :
    ReadsAs s h x (.readBytes off n) n off.toNat none :=
  readsAs_void ho ((if_neg (by rw [cueAccess_outside hc]; decide)).trans (if_neg hn))

/-! ### The configuration space -/

theorem withPart_half (high : Bool) (b : BitVec 64) (x : BitVec 32) :
    (BitVec.ofNat 64 (withPart (if high then .high else .low) b.toNat x.toNat)).toNat =
      if high then x.toNat * 2 ^ 32 + b.toNat % 2 ^ 32 else b.toNat / 2 ^ 32 * 2 ^ 32 + x.toNat := by
  have hx := x.isLt
  have hb := b.isLt
  rw [BitVec.toNat_ofNat]
  cases high <;> simp only [withPart, if_true, Bool.false_eq_true, if_false] <;> omega

theorem completes_barWrite (ho : s.chip.windowOpen h = true) (k : Fin 3) (high : Bool) :
    Completes (.registerWrite h (.configWrite (.bar k high)) x) s fun c => c.head h = { s.chip.head h with bars := (c.head h).bars } ∧
      ((c.head h).bars.get k).toNat = (if high then x.toNat * 2 ^ 32 + ((s.chip.head h).bars.get k).toNat % 2 ^ 32
        else ((s.chip.head h).bars.get k).toNat / 2 ^ 32 * 2 ^ 32 + x.toNat) ∧
      (∀ j, j ≠ k → (c.head h).bars.get j = (s.chip.head h).bars.get j) ∧ (∀ j, j ≠ h → c.head j = s.chip.head j) ∧ s.chip.keepsBut [.heads] c := by
  refine .of_onChip exec_registerWrite (Chip.registerAccess_open ho) ?_
  show _ ∧ _
  unfold Chip.windowAccess Chip.configWrite
  dsimp only
  rw [Chip.ended_head, Chip.head_onHead_same]
  refine ⟨rfl, ?_, fun j hj => ?_, fun j hj => ?_, Chip.keepsBut_ended ((Chip.keepsBut_refl _ _).onHead _ _ (by simp))⟩
  · rw [← withPart_half]
    exact congrArg BitVec.toNat (Vector.getElem_set_self ..)
  · exact Vector.getElem_set_ne k.isLt j.isLt fun e => hj (Fin.ext e.symm)
  · rw [Chip.ended_head, Chip.head_onHead_ne _ _ _ hj]

theorem completes_configRead (ho : s.chip.windowOpen h = true) (r : CfgReg) :
    Completes (.registerWrite h (.configRead r) x) s fun c => c.outs = s.chip.outs ++ [.configRead h (s.chip.configValue h r)] ∧ s.chip.keepsBut [.outs] c :=
  .of_onChip exec_registerWrite (Chip.registerAccess_open ho)
    ⟨by rw [Chip.ended_outs]; rfl, Chip.keepsBut_ended ((Chip.keepsBut_refl _ _).emit _ (by simp))⟩

end
end Sys2Proof.Machine
end

section
/-! Registers of a head's own blocks: what a write does, and one through their aliases (00 R12, R13; 13 R376, R377; 02 Table 02-9). -/

namespace Sys2Proof.Machine

section
variable {s : State} {h : HeadNo} {x : BitVec 32} {off : BitVec 20} {r : WinRegister}

/-! ### Registers of a head's own blocks -/

/-- A write of `v` changes a bit of the register that it may not. -/
def WinRegister.MayNot (r : WinRegister) (v : Nat) : Prop := (v ^^^ r.value) &&& (r.rw ||| r.w1c ||| r.wo) ≠ v ^^^ r.value

theorem Chip.regWrite_absent {c : Chip} {o v : Nat} (hn : c.winRegister h o = none) : c.regWrite h o v = c.winDrop h := by
  unfold Chip.regWrite
  rw [hn]

theorem Chip.regWrite_refused {c : Chip} {o v : Nat} (hr : c.winRegister h o = some r) (hf : c.id.part.full = true) (hm : r.MayNot v) :
    c.regWrite h o v = c.winDrop h := by
  unfold Chip.regWrite
  rw [hr]
  exact if_pos (by rw [hf, Bool.true_and]; exact decide_eq_true hm)

theorem Chip.regWrite_applied {c : Chip} {o v : Nat} (hr : c.winRegister h o = some r) (hm : c.id.part.full = false ∨ ¬ r.MayNot v) :
    c.regWrite h o v = c.regApply h o v := by
  unfold Chip.regWrite
  rw [hr]
  exact if_neg (not_and_decide hm)

theorem dropped_regAbsent (ho : s.chip.windowOpen h = true) (hn : s.chip.winRegister h off.toNat = none) :
    Dropped s h (.registerWrite h (.write (.reg off)) x) :=
  dropped_access ho (Chip.regWrite_absent hn)

theorem dropped_regRefused (ho : s.chip.windowOpen h = true) (hr : s.chip.winRegister h off.toNat = some r) (hf : s.chip.id.part.full = true)
    (hm : r.MayNot x.toNat) : Dropped s h (.registerWrite h (.write (.reg off)) x) :=
  dropped_access ho (Chip.regWrite_refused hr hf hm)

/-- A write of a register that is not refused does what the register's bits say. -/
structure RegTaken (s : State) (h : HeadNo) (off : BitVec 20) (x : BitVec 32) : Prop where
  isOpen : s.chip.windowOpen h = true
  applied : s.chip.regWrite h off.toNat x.toNat = s.chip.regApply h off.toNat x.toNat

theorem RegTaken.exec (t : RegTaken s h off x) :
    exec (.registerWrite h (.write (.reg off)) x) s = .next { s with chip := Chip.ended s.chip (s.chip.regApply h off.toNat x.toNat) } := by
  rw [exec_registerWrite, State.onChip_next, Chip.registerAccess_open t.isOpen]
  exact congrArg (fun c => Host.Outcome.next { s with chip := Chip.ended s.chip c }) t.applied

theorem RegTaken.headBecomes (t : RegTaken s h off x) {g : Head → Head} (hg : s.chip.regApply h off.toNat x.toNat = s.chip.onHead h g) :
    HeadBecomes s h (.registerWrite h (.write (.reg off)) x) (g (s.chip.head h)) :=
  headBecomes_access t.isOpen (t.applied.trans hg)

theorem RegTaken.untouched (t : RegTaken s h off x) (hg : s.chip.regApply h off.toNat x.toNat = s.chip) :
    Completes (.registerWrite h (.write (.reg off)) x) s s.chip.untouched :=
  untouched_of exec_registerWrite ((Chip.registerAccess_open t.isOpen).trans (t.applied.trans hg))

theorem RegTaken.evt (t : RegTaken s h off x) (ho : off.toNat = 0x10008) :
    HeadBecomes s h (.registerWrite h (.write (.reg off)) x) { s.chip.head h with evt := (s.chip.head h).evt &&& ~~~ BitVec.ofNat 6 x.toNat } :=
  t.headBecomes (g := fun d => { d with evt := d.evt &&& ~~~ BitVec.ofNat 6 x.toNat }) (by rw [ho]; rfl)

theorem RegTaken.winErr (t : RegTaken s h off x) (ho : off.toNat = 0x23F80) :
    HeadBecomes s h (.registerWrite h (.write (.reg off)) x) { s.chip.head h with winErr := (s.chip.head h).winErr && !bit x.toNat 8 } := by
  have happly : s.chip.regApply h off.toNat x.toNat = if bit x.toNat 8 then s.chip.onHead h fun d => { d with winErr := false } else s.chip := by
    rw [ho]; rfl
  cases hb : bit x.toNat 8 with
  | true =>
    rw [hb, if_pos rfl] at happly
    rw [Bool.not_true, Bool.and_false]
    exact t.headBecomes (g := fun d => { d with winErr := false }) happly
  | false =>
    rw [hb, if_neg Bool.false_ne_true] at happly
    rw [Bool.not_false, Bool.and_true]
    exact headBecomes_self exec_registerWrite ((Chip.registerAccess_open t.isOpen).trans (t.applied.trans happly))

theorem RegTaken.cueTail (t : RegTaken s h off x) (ho : off.toNat = 0x90000) :
    Machine.exec (.registerWrite h (.write (.reg off)) x) s = Machine.exec (.cueTail h (BitVec.ofNat 8 x.toNat)) s := by
  have htail : Machine.exec (.cueTail h (BitVec.ofNat 8 x.toNat)) s =
      s.onChip fun c => if c.windowOpen h then c.cueTail h (BitVec.ofNat 8 x.toNat) else c := rfl
  rw [t.exec, htail, State.onChip_next, if_pos t.isOpen, ho]
  rfl

theorem RegTaken.cueControl (t : RegTaken s h off x) (ho : off.toNat = 0x90008) :
    HeadBecomes s h (.registerWrite h (.write (.reg off)) x) { s.chip.head h with
      cue := { (s.chip.head h).cue with enable := bit x.toNat 0, irqEn := bit x.toNat 3, coalesce := BitVec.ofNat 8 (x.toNat / 16),
                                        resetBusy := (s.chip.head h).cue.resetBusy || bit x.toNat 1 } } := by
  refine t.headBecomes (g := fun d => { d with
      cue := { d.cue with enable := bit x.toNat 0, irqEn := bit x.toNat 3, coalesce := BitVec.ofNat 8 (x.toNat / 16),
                          resetBusy := d.cue.resetBusy || bit x.toNat 1 } }) ?_
  have happly : s.chip.regApply h off.toNat x.toNat =
      (if bit x.toNat 1 then (s.chip.onHead h fun d => { d with
          cue := { d.cue with enable := bit x.toNat 0, irqEn := bit x.toNat 3, coalesce := BitVec.ofNat 8 (x.toNat / 16) } }).cueReset h
        else s.chip.onHead h fun d => { d with
          cue := { d.cue with enable := bit x.toNat 0, irqEn := bit x.toNat 3, coalesce := BitVec.ofNat 8 (x.toNat / 16) } }) := by
    rw [ho]; rfl
  rw [happly]
  cases bit x.toNat 1 with
  | true =>
    rw [if_pos rfl, Chip.cueReset, Chip.onHead_onHead]
    simp only [Bool.or_true]
  | false => simp only [Bool.or_false, Bool.false_eq_true, if_false]

theorem RegTaken.cueErrors (t : RegTaken s h off x) (ho : off.toNat = 0x9000C) :
    HeadBecomes s h (.registerWrite h (.write (.reg off)) x) { s.chip.head h with
      cue := { (s.chip.head h).cue with phaseErr := (s.chip.head h).cue.phaseErr && !bit x.toNat 8,
                                        tailErr := (s.chip.head h).cue.tailErr && !bit x.toNat 9 } } :=
  t.headBecomes (g := fun d => { d with cue := { d.cue with phaseErr := d.cue.phaseErr && !bit x.toNat 8, tailErr := d.cue.tailErr && !bit x.toNat 9 } })
    (by rw [ho]; rfl)

theorem RegTaken.cueEntries (t : RegTaken s h off x) (hl : 0x80000 ≤ off.toNat) (hu : off.toNat < 0x84000) :
    HeadBecomes s h (.registerWrite h (.write (.reg off)) x) { s.chip.head h with
      cue := { (s.chip.head h).cue with entries := (s.chip.head h).cue.entries.write (off.toNat - 0x80000) (toBytes 4 x.toNat) } } :=
  t.headBecomes (g := fun d => { d with cue := { d.cue with entries := d.cue.entries.write (off.toNat - 0x80000) (toBytes 4 x.toNat) } })
    (if_pos ⟨hl, hu⟩)

/-- Registers whose bits are read only. -/
theorem RegTaken.readOnly (t : RegTaken s h off x)
    (ho : off.toNat < 24 ∨ off.toNat = 0x10000 ∨ off.toNat = 0x10004 ∨ off.toNat = 0x1000C ∨ off.toNat = 0x23F84 ∨ off.toNat = 0x23F88 ∨ off.toNat = 0x90004) :
    Completes (.registerWrite h (.write (.reg off)) x) s s.chip.untouched := by
  refine t.untouched ?_
  unfold Chip.regApply
  rw [if_neg (by omega)]
  split
  · omega
  · omega
  · omega
  · omega
  · omega
  · rfl

/-! ### Aliases of registers -/

variable {k : AliasKind} {i : Instr}

theorem Chip.aliasWrite_reg {c : Chip} (ho : c.windowOpen h = true) : c.aliasWrite h (.reg off) x k = c.regAlias h off.toNat x.toNat k := by
  unfold Chip.aliasWrite
  rw [if_neg (by simp [ho])]

theorem Chip.aliasWrite_entry {c : Chip} {index : BitVec 16} {sub : BitVec 8} {part : WinPart} (hp : part ≠ .pair) :
    c.aliasWrite h (.entry index sub part) x k =
      c.postWindow h { index := index.toNat, sub := sub.toNat, part := part, value := x.setWidth 64, kind := some k } := by
  unfold Chip.aliasWrite
  split
  · next ho => exact (Chip.postWindow_closed (.inl (by simpa using ho))).symm
  · exact if_neg hp

theorem Chip.aliasWrite_pair {c : Chip} {index : BitVec 16} {sub : BitVec 8} (ho : c.windowOpen h = true) :
    c.aliasWrite h (.entry index sub .pair) x k = c.winDrop h := by
  unfold Chip.aliasWrite
  rw [if_neg (by simp [ho])]
  rfl

theorem Chip.aliasWrite_closed {c : Chip} {w : WinReg} (ho : c.windowOpen h = false) : c.aliasWrite h w x k = c := by
  unfold Chip.aliasWrite
  rw [if_pos (by simp [ho])]

theorem Chip.regAlias_absent {c : Chip} {o m : Nat} (hn : c.winRegister h o = none) : c.regAlias h o m k = c.winDrop h := by
  unfold Chip.regAlias
  rw [hn]
  rfl

theorem Chip.regAlias_refused {c : Chip} {o m : Nat} (hr : c.winRegister h o = some r) (hf : c.id.part.full = true) (hm : m &&& r.rw ≠ m) :
    c.regAlias h o m k = c.winDrop h := by
  unfold Chip.regAlias
  rw [hr]
  cases ha : aliased o with
  | false => rw [Option.filter_some_neg (by simp)]
  | true =>
    rw [Option.filter_some_pos rfl]
    exact if_pos (by rw [hf, Bool.true_and]; exact decide_eq_true hm)

theorem Chip.regAlias_applied {c : Chip} {o m : Nat} (hr : c.winRegister h o = some r) (ha : aliased o = true)
    (hm : c.id.part.full = false ∨ m &&& r.rw = m) :
    c.regAlias h o m k = if r.rw = 0 then c else c.regApply h o (k.apply (r.value &&& r.rw) (m &&& r.rw)) := by
  unfold Chip.regAlias
  rw [hr, ha, Option.filter_some_pos rfl]
  exact if_neg (not_and_decide (hm.imp_right not_not_intro))

end

/-! ### The aliases of the cue ring's control register -/

/-- What a write through the aliases does to a bit. -/
def AliasKind.onBit (k : AliasKind) (old m : Bool) : Bool :=
  match k with
  | .set => old || m
  | .clear => old && !m
  | .toggle => old != m

theorem AliasKind.testBit_apply (k : AliasKind) (old m i : Nat) : (k.apply old m).testBit i = k.onBit (old.testBit i) (m.testBit i) := by
  cases k with
  | set => exact Nat.testBit_or ..
  | clear =>
    simp only [apply, onBit, Nat.testBit_xor, Nat.testBit_and]
    cases old.testBit i <;> cases m.testBit i <;> rfl
  | toggle => simp only [apply, onBit, Nat.testBit_xor]

/-- The value of CUE_CTRL (Table 02-9). -/
def cueCtrl (q : Cue) : Nat := boolNat q.enable + 4 * boolNat q.resetBusy + 8 * boolNat q.irqEn + 16 * q.coalesce.toNat

/-- The bits of CUE_CTRL that are RW. -/
def cueCtrlRw : Nat := 0xFF9

theorem cueCtrl_eq (q : Cue) : cueCtrl q = 2 ^ 4 * q.coalesce.toNat + (boolNat q.enable + 4 * boolNat q.resetBusy + 8 * boolNat q.irqEn) := by
  unfold cueCtrl
  omega

theorem cueCtrl_low (q : Cue) : boolNat q.enable + 4 * boolNat q.resetBusy + 8 * boolNat q.irqEn < 2 ^ 4 := by
  cases q.enable <;> cases q.resetBusy <;> cases q.irqEn <;> decide

theorem cueCtrl_enable (q : Cue) : (cueCtrl q).testBit 0 = q.enable := by
  rw [cueCtrl_eq, Nat.testBit_two_pow_mul_add _ (cueCtrl_low q), if_pos (by decide)]
  cases q.enable <;> cases q.resetBusy <;> cases q.irqEn <;> decide

theorem cueCtrl_irqEn (q : Cue) : (cueCtrl q).testBit 3 = q.irqEn := by
  rw [cueCtrl_eq, Nat.testBit_two_pow_mul_add _ (cueCtrl_low q), if_pos (by decide)]
  cases q.enable <;> cases q.resetBusy <;> cases q.irqEn <;> decide

theorem cueCtrl_coalesce (q : Cue) (i : Nat) : (cueCtrl q).testBit (4 + i) = q.coalesce.getLsbD i := by
  rw [cueCtrl_eq, Nat.testBit_two_pow_mul_add _ (cueCtrl_low q), if_neg (by omega), Nat.add_sub_cancel_left]
  rfl

theorem cueCtrlRw_coalesce {i : Nat} (hi : i < 8) : cueCtrlRw.testBit (4 + i) = true := by
  interval_cases i <;> decide

/-- What a write of `m` through the aliases leaves in CUE_CTRL's RW bits. -/
def cueCtrlAlias (q : Cue) (k : AliasKind) (m : Nat) : Nat := k.apply (cueCtrl q &&& cueCtrlRw) (m &&& cueCtrlRw)

theorem cueCtrlAlias_testBit (q : Cue) (k : AliasKind) (m i : Nat) :
    (cueCtrlAlias q k m).testBit i = k.onBit ((cueCtrl q).testBit i && cueCtrlRw.testBit i) (m.testBit i && cueCtrlRw.testBit i) := by
  rw [cueCtrlAlias, AliasKind.testBit_apply, Nat.testBit_and, Nat.testBit_and]

theorem cueCtrlAlias_enable (q : Cue) (k : AliasKind) (m : Nat) : bit (cueCtrlAlias q k m) 0 = k.onBit q.enable (bit m 0) := by
  rw [bit, cueCtrlAlias_testBit, cueCtrl_enable, show cueCtrlRw.testBit 0 = true by decide, Bool.and_true, Bool.and_true, bit]

theorem cueCtrlAlias_reset (q : Cue) (k : AliasKind) (m : Nat) : bit (cueCtrlAlias q k m) 1 = false := by
  rw [bit, cueCtrlAlias_testBit, show cueCtrlRw.testBit 1 = false by decide, Bool.and_false, Bool.and_false]
  cases k <;> rfl

theorem cueCtrlAlias_irqEn (q : Cue) (k : AliasKind) (m : Nat) : bit (cueCtrlAlias q k m) 3 = k.onBit q.irqEn (bit m 3) := by
  rw [bit, cueCtrlAlias_testBit, cueCtrl_irqEn, show cueCtrlRw.testBit 3 = true by decide, Bool.and_true, Bool.and_true, bit]

/-- What a write through the aliases does to the coalescing count. -/
def AliasKind.onByte (k : AliasKind) (old m : BitVec 8) : BitVec 8 :=
  match k with
  | .set => old ||| m
  | .clear => old &&& ~~~ m
  | .toggle => old ^^^ m

theorem AliasKind.getLsbD_onByte (k : AliasKind) (old m : BitVec 8) {i : Nat} (hi : i < 8) :
    (k.onByte old m).getLsbD i = k.onBit (old.getLsbD i) (m.getLsbD i) := by
  cases k with
  | set => exact BitVec.getLsbD_or
  | clear => simp [onByte, onBit, hi]
  | toggle => simp only [onByte, onBit, BitVec.getLsbD_xor]

theorem cueCtrlAlias_coalesce (q : Cue) (k : AliasKind) (m : Nat) :
    BitVec.ofNat 8 (cueCtrlAlias q k m / 16) = k.onByte q.coalesce (BitVec.ofNat 8 (m / 16)) := by
  have hdiv (n i : Nat) : (n / 16).testBit i = n.testBit (4 + i) := by
    rw [show 16 = 2 ^ 4 from rfl, Nat.testBit_div_two_pow, Nat.add_comm]
  refine BitVec.eq_of_getLsbD_eq fun i hi => ?_
  rw [AliasKind.getLsbD_onByte _ _ _ hi, BitVec.getLsbD_ofNat, BitVec.getLsbD_ofNat, hdiv, hdiv, cueCtrlAlias_testBit, cueCtrl_coalesce,
    cueCtrlRw_coalesce hi, decide_eq_true hi]
  simp only [Bool.true_and, Bool.and_true]

theorem Chip.winRegister_cueCtrl (c : Chip) (h : HeadNo) :
    c.winRegister h 0x90008 = some { value := cueCtrl (c.head h).cue, rw := cueCtrlRw, wo := 2, rsv := 0xFFFFF000 } := rfl

/-- What a write through the aliases of CUE_CTRL does to a head: ENABLE, IRQ_EN and COALESCE are set, cleared or toggled, and no reset starts. -/
def Head.aliasCue (d : Head) (k : AliasKind) (m : Nat) : Head :=
  { d with cue := { d.cue with enable := k.onBit d.cue.enable (bit m 0), irqEn := k.onBit d.cue.irqEn (bit m 3),
                               coalesce := k.onByte d.cue.coalesce (BitVec.ofNat 8 (m / 16)) } }

theorem Chip.regAlias_cueCtrl {c : Chip} {h : HeadNo} {k : AliasKind} {m : Nat} (hm : c.id.part.full = false ∨ m &&& cueCtrlRw = m) :
    c.regAlias h 0x90008 m k = c.onHead h fun d => d.aliasCue k m := by
  have happly (v : Nat) : c.regApply h 0x90008 v =
      if bit v 1 then (c.onHead h fun d => { d with cue := { d.cue with enable := bit v 0, irqEn := bit v 3, coalesce := BitVec.ofNat 8 (v / 16) } }).cueReset h
      else c.onHead h fun d => { d with cue := { d.cue with enable := bit v 0, irqEn := bit v 3, coalesce := BitVec.ofNat 8 (v / 16) } } := rfl
  rw [Chip.regAlias_applied (c.winRegister_cueCtrl h) (by decide) hm, if_neg (show ¬ cueCtrlRw = 0 by decide)]
  show c.regApply h 0x90008 (cueCtrlAlias (c.head h).cue k m) = _
  rw [happly, cueCtrlAlias_reset, cueCtrlAlias_enable, cueCtrlAlias_irqEn, cueCtrlAlias_coalesce]
  rfl

end Sys2Proof.Machine
end

section
/-! The accesses of the control window, command by command. -/

namespace Sys2Proof.Machine

section
variable {s : State} {h : HeadNo} {x : BitVec 32} {index : BitVec 16} {sub : BitVec 8} {part : WinPart} {off : BitVec 20} {r : WinReg} {k : AliasKind}

/-- The command that writes through the aliases (noncomputable: the compiler has no tag for a constructor of so large a type). -/
noncomputable def aliasInstr (h : HeadNo) (x : BitVec 32) (k : AliasKind) (r : WinReg) : Instr :=
  match k with
  | .set => .setAlias h r x
  | .clear => .clearAlias h r x
  | .toggle => .toggleAlias h r x

theorem exec_aliasInstr : exec (aliasInstr h x k r) s = s.onChip fun c => c.aliasWrite h r x k := by
  cases k <;> rfl

theorem posts_windowWrite (v : BitVec 64) :
    Posts s h (.windowWrite h index sub part v) { index := index.toNat, sub := sub.toNat, part := part, value := v } :=
  posts_of (f := fun c => c.postWindow h { index := index.toNat, sub := sub.toNat, part := part, value := v }) rfl rfl

theorem posts_entry (hp : part ≠ .pair) :
    Posts s h (.registerWrite h (.write (.entry index sub part)) x) { index := index.toNat, sub := sub.toNat, part := part, value := x.setWidth 64 } := by
  refine posts_of exec_registerWrite ?_
  cases ho : s.chip.windowOpen h with
  | false => rw [Chip.registerAccess_closed ho, Chip.postWindow_closed (.inl ho)]
  | true => exact (Chip.registerAccess_open ho).trans (if_neg hp)

theorem posts_alias (hp : part ≠ .pair) :
    Posts s h (aliasInstr h x k (.entry index sub part)) { index := index.toNat, sub := sub.toNat, part := part, value := x.setWidth 64, kind := some k } :=
  posts_of exec_aliasInstr (Chip.aliasWrite_entry hp)

theorem dropped_pair (ho : s.chip.windowOpen h = true) :
    Dropped s h (.registerWrite h (.write (.entry index sub .pair)) x) ∧ ∀ k, Dropped s h (aliasInstr h x k (.entry index sub .pair)) :=
  ⟨dropped_access ho rfl, fun _ => dropped_of exec_aliasInstr (Chip.aliasWrite_pair ho)⟩

theorem untouched_aliasClosed (ho : s.chip.windowOpen h = false) : Completes (aliasInstr h x k r) s s.chip.untouched :=
  untouched_of exec_aliasInstr (Chip.aliasWrite_closed ho)

/-! ### What a write through a register's aliases does -/

theorem dropped_aliasAbsent (ho : s.chip.windowOpen h = true) (hn : s.chip.winRegister h off.toNat = none) :
    Dropped s h (aliasInstr h x k (.reg off)) :=
  dropped_of exec_aliasInstr ((Chip.aliasWrite_reg ho).trans (Chip.regAlias_absent hn))

theorem dropped_aliasRefused {g : WinRegister} (ho : s.chip.windowOpen h = true) (hg : s.chip.winRegister h off.toNat = some g)
    (hf : s.chip.id.part.full = true) (hm : x.toNat &&& g.rw ≠ x.toNat) : Dropped s h (aliasInstr h x k (.reg off)) :=
  dropped_of exec_aliasInstr ((Chip.aliasWrite_reg ho).trans (Chip.regAlias_refused hg hf hm))

/-- HEAD_EVT has no RW bit, so its aliases do nothing. -/
theorem untouched_aliasEvt (ho : s.chip.windowOpen h = true) (hoff : off.toNat = 0x10008) (hf : s.chip.id.part.full = false) :
    Completes (aliasInstr h x k (.reg off)) s s.chip.untouched := by
  refine untouched_of exec_aliasInstr ((Chip.aliasWrite_reg ho).trans ?_)
  have hr : s.chip.winRegister h 0x10008 = some { value := (s.chip.head h).evt.toNat, w1c := 0x3F, rsv := 0xFFFFFFC0 } := rfl
  rw [hoff, Chip.regAlias_applied hr (by decide) (.inl hf)]
  rfl

theorem headBecomes_aliasCue (ho : s.chip.windowOpen h = true) (hoff : off.toNat = 0x90008)
    (hm : s.chip.id.part.full = false ∨ x.toNat &&& cueCtrlRw = x.toNat) :
    HeadBecomes s h (aliasInstr h x k (.reg off)) ((s.chip.head h).aliasCue k x.toNat) := by
  refine headBecomes_of (g := fun d => d.aliasCue k x.toNat) exec_aliasInstr ((Chip.aliasWrite_reg ho).trans ?_)
  rw [hoff, Chip.regAlias_cueCtrl hm]

end
end Sys2Proof.Machine

open Sys2Proof Sys2Proof.Machine

/-- Settles O58: each access is one change of the chip, a posted write is carried out on a chip whose values are those of the
state, and the checks of its entry decide. -/
theorem windowWrites : Obligations.WindowWrites := by
  intro s h index sub part x v
  refine ⟨posts_windowWrite v, fun hp => ⟨posts_entry hp, fun k => posts_alias hp⟩, dropped_pair,
    fun hc => untouched_of (f := fun c => c.applyWindow h) rfl (Chip.applyWindow_empty hc), ?_,
    fun ho r => ⟨untouched_closed ho, fun k => untouched_aliasClosed ho⟩, ?_, ?_⟩
  · intro w rest r hp hm hd hr hg he
    have t : s.chip.TakesUp h w rest r := ⟨hp, hm, hd, hr, hg, he⟩
    exact ⟨fun hw hk => ⟨refuses_wide t hw hk, storesValue_word t hw hk⟩, holds_low t, fun hw hk low hl => storesValue_high t hw hk hl,
      fun k hw hk => ⟨refuses_alias t hw hk, storesValue_alias t hw hk⟩⟩
  · intro ho off b n k high
    refine ⟨fun hc hn ha hb => ⟨headBecomes_cueWrite ho ?_, completes_cueRead ho (cueAccess_of hc hn ha)⟩, dropped_bytes ho, readsAs_bytes ho,
      readsAs_register ho off, readsAs_entry ho index sub part, completes_barWrite ho k high, fun r => ?_⟩
    · exact hb ▸ cueAccess_of hc hn ha
    · cases r <;> exact completes_configRead ho _
  · intro ho off
    refine ⟨fun hn => ⟨dropped_regAbsent ho hn, fun k => dropped_aliasAbsent ho hn⟩, fun r hr => ⟨dropped_regRefused ho hr, fun hm => ?_, fun k => ?_⟩⟩
    · have t : RegTaken s h off x := ⟨ho, Chip.regWrite_applied hr hm⟩
      exact ⟨t.evt, t.winErr, t.cueTail, t.cueControl, t.cueErrors, t.cueEntries, t.readOnly⟩
    · refine ⟨dropped_aliasRefused ho hr, untouched_aliasEvt ho, fun hoff hm => ?_⟩
      cases k with
      | set => exact headBecomes_aliasCue (k := .set) ho hoff hm
      | clear => exact headBecomes_aliasCue (k := .clear) ho hoff hm
      | toggle => exact headBecomes_aliasCue (k := .toggle) ho hoff hm
end

section
/-! What changes only the cache: one lemma for each operation on frames, sectors, schedulers and fills. -/

namespace Sys2Proof.Machine

-- One theorem at a time: elaborated at once, their nested proofs wait for one another, a thread and its stack for each.
set_option Elab.async false

/-- The requests that wait at the cache: outside the device, for a merge entry and for credits. -/
def Cache.queues (k : Cache) : List Req × List Req × List Waiter := (k.outside, k.mergeQ, k.creditQ)

/-- Chip `b` is chip `a` with another cache, at which the same requests wait. -/
def Chip.CacheOnly (a b : Chip) : Prop := ∃ k, b = a.onCache (fun _ => k) ∧ k.queues = a.cache.queues

theorem Chip.CacheOnly.refl (a : Chip) : a.CacheOnly a := ⟨a.cache, rfl, rfl⟩

theorem Chip.CacheOnly.queues {a b : Chip} (h : a.CacheOnly b) : b.cache.queues = a.cache.queues := by
  obtain ⟨k, rfl, hk⟩ := h
  exact hk

/-- The chip of a pair. -/
theorem Chip.CacheOnly.snd {a d : Chip} {α : Type} {p : α × Chip} {x : α} (hp : a.CacheOnly p.2) (h : p = (x, d)) : a.CacheOnly d := by
  subst h; exact hp

section
variable {a c : Chip} (hc : a.CacheOnly c)
include hc

theorem Chip.CacheOnly.onCache {f : Cache → Cache} (hf : ∀ k, (f k).queues = k.queues := by intro; rfl) : a.CacheOnly (c.onCache f) := by
  obtain ⟨k, rfl, hk⟩ := hc
  exact ⟨f k, rfl, (hf k).trans hk⟩

theorem Chip.CacheOnly.ite {d : Chip} {p : Prop} {_ : Decidable p} (hd : a.CacheOnly d) : a.CacheOnly (if p then c else d) := by
  split
  · exact hc
  · exact hd

theorem Chip.CacheOnly.foldl {α : Type} {l : List α} {f : Chip → α → Chip} (hf : ∀ d x, a.CacheOnly d → a.CacheOnly (f d x)) :
    a.CacheOnly (l.foldl f c) := by
  induction l generalizing c with
  | nil => exact hc
  | cons x r ih => exact ih (hf c x hc)

theorem Chip.CacheOnly.hbmAccess {pc t write addr} : a.CacheOnly (c.hbmAccess pc t write addr) := hc.onCache
theorem Chip.CacheOnly.readFrame {f n t} : a.CacheOnly (c.readFrame f n t) := hc.hbmAccess
theorem Chip.CacheOnly.writeFrame {f n t} : a.CacheOnly (c.writeFrame f n t) := hc.hbmAccess.hbmAccess
theorem Chip.CacheOnly.setFrame {f fr} : a.CacheOnly (c.setFrame f fr) := hc.onCache
theorem Chip.CacheOnly.onFrame {f g} : a.CacheOnly (c.onFrame f g) := hc.setFrame
theorem Chip.CacheOnly.setSector {f n v} : a.CacheOnly (c.setSector f n v) := hc.onCache
theorem Chip.CacheOnly.choose : a.CacheOnly c.choose := hc.onCache
theorem Chip.CacheOnly.useFrame {f} : a.CacheOnly (c.useFrame f) := hc.onFrame
theorem Chip.CacheOnly.touch {f} : a.CacheOnly (c.touch f) := hc.useFrame.onFrame
theorem Chip.CacheOnly.dirtySector {n v f} : a.CacheOnly (c.dirtySector n v f) := hc.setSector.onFrame
theorem Chip.CacheOnly.copySector {n v f} : a.CacheOnly (c.copySector n v f) := hc.setSector.onFrame
theorem Chip.CacheOnly.copySectors {src dst m} : a.CacheOnly (c.copySectors src dst m) := hc.foldl fun _ _ h => h.setSector.ite h
theorem Chip.CacheOnly.meetFill {line mask merge f head} : a.CacheOnly (c.meetFill line mask merge f head) := by
  unfold Chip.meetFill
  refine hc.onCache fun k => ?_
  split
  · rfl
  · split <;> rfl
theorem Chip.CacheOnly.spendCredits {b : Chip} : a.CacheOnly (Machine.spendCredits b c) := hc.ite hc.onCache

theorem Chip.CacheOnly.buildFrame {f} : a.CacheOnly (c.buildFrame f) := by
  unfold Chip.buildFrame
  exact (hc.foldl fun _ _ h => h.setSector).onFrame

theorem Chip.CacheOnly.buildFor {seg n} : a.CacheOnly (c.buildFor seg n) := hc.foldl fun _ _ h => h.buildFrame.writeFrame

theorem Chip.CacheOnly.freeFrame {f} : a.CacheOnly (c.freeFrame f) := by
  unfold Chip.freeFrame
  extract_lets c1
  have h1 : a.CacheOnly c1 := by
    unfold c1
    split
    · exact hc.buildFrame.ite hc
    · exact hc
  exact h1.onCache

theorem Chip.CacheOnly.absorb {f seg} : a.CacheOnly (c.absorb f seg) := by
  unfold Chip.absorb
  split
  · exact hc
  · exact hc.copySectors.onFrame.freeFrame
  · exact hc.copySectors.onFrame.freeFrame.onFrame

theorem Chip.CacheOnly.ageSet {seg} : a.CacheOnly (c.ageSet seg) := hc.foldl fun _ _ h => h.ite h.onFrame
theorem Chip.CacheOnly.evictFrame {f} : a.CacheOnly (c.evictFrame f) := hc.onFrame.ite hc.freeFrame

theorem Chip.CacheOnly.allocate {seg kind} : a.CacheOnly (c.allocate seg kind).2 := by
  unfold Chip.allocate
  extract_lets place free
  have hplace {d : Chip} {f : Nat} (hd : a.CacheOnly d) : a.CacheOnly (place d f).2 := hd.setFrame.absorb
  split
  · exact hplace hc.choose
  · next cands c1 _ _ =>
    have h1 : a.CacheOnly c1 := hc.ite hc.ageSet
    split
    · exact hc
    · split
      · exact h1
      · split
        · exact h1.evictFrame
        · exact hplace h1.evictFrame

theorem Chip.CacheOnly.takeShadow {f seg} {p} (h : c.takeShadow f seg = some p) : a.CacheOnly p.2 := by
  obtain ⟨g, -, rfl⟩ := Option.map_eq_some_iff.1 h
  dsimp only
  exact hc.choose.setFrame.onFrame

theorem Chip.CacheOnly.takeDetached {seg two} {p} (h : c.takeDetached seg two = some p) : a.CacheOnly p.2 := by
  unfold Chip.takeDetached at h
  split at h
  · cases h
  · next d _ =>
    extract_lets c1 at h
    have h1 : a.CacheOnly c1 := hc.choose.setFrame
    split at h
    · obtain ⟨e, -, rfl⟩ := Option.map_eq_some_iff.1 h
      dsimp only
      exact h1.choose.setFrame.onFrame
    · cases h
      exact h1

theorem Chip.CacheOnly.placeFrames {seg two} {p} (h : c.placeFrames seg two = some p) : a.CacheOnly p.2 := by
  unfold Chip.placeFrames at h
  extract_lets withSecond at h
  have hsecond {d : Chip} {f : Nat} (hd : a.CacheOnly d) (h : withSecond d f = some p) : a.CacheOnly p.2 := by
    unfold withSecond at h
    split at h
    · cases h; exact hd
    · split at h
      · obtain ⟨q, hq, rfl⟩ := Option.map_eq_some_iff.1 h
        exact hd.takeShadow hq
      · cases h; exact hd
  split at h
  · extract_lets c1 c2 at h
    have h1 : a.CacheOnly c1 := hc.touch
    exact hsecond (h1.ite h1.onFrame) h
  · split at h
    · split at h
      · next f d hd => exact hsecond (hc.allocate.snd hd).useFrame h
      · next d hd => exact (hc.allocate.snd hd).takeDetached h
    · split at h
      · obtain ⟨e, -, rfl⟩ := Option.map_eq_some_iff.1 h
        dsimp only
        exact hc.choose.setFrame.onFrame
      · cases h; exact hc
    · cases h; exact hc

theorem Chip.CacheOnly.placeLine {line data mask poison two head} {d : Chip} (h : c.placeLine line data mask poison two head = some d) :
    a.CacheOnly d := by
  unfold Chip.placeLine at h
  extract_lets seg n old merge base v at h
  split at h
  · cases h
  · next fs e he =>
    cases h
    exact (((hc.placeFrames he).foldl fun _ _ h => h.dirtySector).foldl fun _ _ h => h.copySector).foldl (fun _ _ h => h.writeFrame)
      |>.meetFill

end
end Sys2Proof.Machine
end

section
/-! What a chip becomes on the way of a command: the parts that can change, the messages sent so far, and the links of the heads.
One lemma for each operation that requests, poison, squall mode and the twin link are served with. -/

namespace Sys2Proof.Machine

-- One theorem at a time: elaborated at once, their nested proofs wait for one another, a thread and its stack for each.
set_option Elab.async false

/-- What a command in flight is: its number, its path and its entry. -/
def RunCmd.key (r : RunCmd) : Nat × CmdPath × CmdEntry := (r.id, r.path, r.entry)

/-- On its way from `a` to `b` a chip keeps every part but those listed, takes back nothing that it has sent, leaves every head's
link as it was, and has the same commands in flight. -/
structure Chip.Flows (l : List Grp) (a b : Chip) : Prop where
  keeps : a.keepsBut l b
  sent : a.outs <+: b.outs
  links : ∀ h, (b.head h).link = (a.head h).link
  cmds : b.obj.cmds.map RunCmd.key = a.obj.cmds.map RunCmd.key

theorem Chip.Flows.refl {l : List Grp} (a : Chip) : a.Flows l a := ⟨Chip.keepsBut_refl _ _, List.prefix_rfl, fun _ => rfl, rfl⟩

theorem Chip.head_onHead (c : Chip) (h k : HeadNo) (f : Head → Head) : (c.onHead h f).head k = if k = h then f (c.head k) else c.head k := by
  split
  · next he => rw [he, Chip.head_onHead_same]
  · next he => exact Chip.head_onHead_ne _ _ _ he

section
variable {l : List Grp} {a c : Chip} (k : a.Flows l c)
include k

theorem Chip.Flows.trans {d : Chip} (j : c.Flows l d) : a.Flows l d :=
  ⟨Chip.keepsBut_trans k.keeps j.keeps, k.sent.trans j.sent, fun h => (j.links h).trans (k.links h), j.cmds.trans k.cmds⟩

theorem Chip.Flows.mono {m : List Grp} (hl : ∀ g ∈ l, g ∈ m := by decide) : a.Flows m c := ⟨Chip.keepsBut_mono k.keeps hl, k.sent, k.links, k.cmds⟩

/-- A further operation with a frame of its own. -/
theorem Chip.Flows.andThen {m : List Grp} {d : Chip} (hl : ∀ g ∈ m, g ∈ l) (j : c.Flows m d) : a.Flows l d := k.trans (j.mono hl)

theorem Chip.Flows.ite {d : Chip} {p : Prop} {_ : Decidable p} (j : a.Flows l d) : a.Flows l (if p then c else d) := by
  split
  · exact k
  · exact j

theorem Chip.Flows.foldl {α : Type} {xs : List α} {f : Chip → α → Chip} (hf : ∀ d x, a.Flows l d → a.Flows l (f d x)) :
    a.Flows l (xs.foldl f c) := by
  induction xs generalizing c with
  | nil => exact k
  | cons x r ih => exact ih (hf c x k)

/-! ### The parts -/

theorem Chip.Flows.onObj {f : Objects → Objects} (hf : ∀ o, (f o).cmds.map RunCmd.key = o.cmds.map RunCmd.key := by intro; rfl)
    (hl : Grp.obj ∈ l := by decide) : a.Flows l (c.onObj f) := ⟨k.keeps.onObj _ hl, k.sent, k.links, (hf _).trans k.cmds⟩
theorem Chip.Flows.onCache {f : Cache → Cache} (hl : Grp.cache ∈ l := by decide) : a.Flows l (c.onCache f) :=
  ⟨k.keeps.onCache _ hl, k.sent, k.links, k.cmds⟩
theorem Chip.Flows.onHbm {f : Hbm → Hbm} (hl : Grp.hbm ∈ l := by decide) : a.Flows l (c.onHbm f) := ⟨k.keeps.onHbm _ hl, k.sent, k.links, k.cmds⟩
theorem Chip.Flows.onMed {f : Medium → Medium} (hl : Grp.med ∈ l := by decide) : a.Flows l (c.onMed f) :=
  ⟨k.keeps.onMed _ hl, k.sent, k.links, k.cmds⟩
theorem Chip.Flows.onInteg {f : Integ → Integ} (hl : Grp.integ ∈ l := by decide) : a.Flows l (c.onInteg f) :=
  ⟨k.keeps.onInteg _ hl, k.sent, k.links, k.cmds⟩
theorem Chip.Flows.onDolly {f : Dolly → Dolly} (hl : Grp.dolly ∈ l := by decide) : a.Flows l (c.onDolly f) :=
  ⟨k.keeps.onDolly _ hl, k.sent, k.links, k.cmds⟩
theorem Chip.Flows.onTwin {f : Twin → Twin} (hl : Grp.twin ∈ l := by decide) : a.Flows l (c.onTwin f) :=
  ⟨k.keeps.onTwin _ hl, k.sent, k.links, k.cmds⟩
theorem Chip.Flows.onSec {f : Security → Security} (hl : Grp.sec ∈ l := by decide) : a.Flows l (c.onSec f) :=
  ⟨k.keeps.onSec _ hl, k.sent, k.links, k.cmds⟩
theorem Chip.Flows.onWit {f : Witness → Witness} (hl : Grp.wit ∈ l := by decide) : a.Flows l (c.onWit f) := ⟨k.keeps.onWit _ hl, k.sent, k.links, k.cmds⟩
theorem Chip.Flows.onLedger {f : Ledger → Ledger} (hl : Grp.ledger ∈ l := by decide) : a.Flows l (c.onLedger f) :=
  ⟨k.keeps.onLedger _ hl, k.sent, k.links, k.cmds⟩
theorem Chip.Flows.onRing {f : Ring → Ring} (hl : Grp.ring ∈ l := by decide) : a.Flows l (c.onRing f) :=
  ⟨k.keeps.onRing _ hl, k.sent, k.links, k.cmds⟩
theorem Chip.Flows.onBoot {f : Boot → Boot} (hl : Grp.boot ∈ l := by decide) : a.Flows l (c.onBoot f) :=
  ⟨k.keeps.onBoot _ hl, k.sent, k.links, k.cmds⟩
theorem Chip.Flows.emit {o : Output} (hl : Grp.outs ∈ l := by decide) : a.Flows l (c.emit o) :=
  ⟨k.keeps.emit _ hl, k.sent.trans (List.prefix_append _ _), k.links, k.cmds⟩

theorem Chip.Flows.onHead {h : HeadNo} {f : Head → Head} (hf : (f (c.head h)).link = (c.head h).link) (hl : Grp.heads ∈ l := by decide) :
    a.Flows l (c.onHead h f) := by
  refine ⟨k.keeps.onHead _ _ hl, k.sent, fun j => ?_, k.cmds⟩
  rw [Chip.head_onHead, ← k.links j]
  split
  · next he => rw [he, hf]
  · rfl

theorem Chip.Flows.cacheOnly {d : Chip} (h : c.CacheOnly d) (hl : Grp.cache ∈ l := by decide) : a.Flows l d := by
  obtain ⟨q, rfl, -⟩ := h
  exact k.onCache hl

/-! ### Values, records and messages -/

theorem Chip.Flows.setVol {i j v} (hl : Grp.ring ∈ l := by decide) : a.Flows l (c.setVol i j v) := k.onRing hl
theorem Chip.Flows.bump {i j n} (hl : Grp.ring ∈ l := by decide) : a.Flows l (c.bump i j n) := k.setVol hl
theorem Chip.Flows.peak {i j n} (hl : Grp.ring ∈ l := by decide) : a.Flows l (c.peak i j n) := k.setVol hl
theorem Chip.Flows.headEvent {h i} (hl : Grp.heads ∈ l := by decide) : a.Flows l (c.headEvent h i) := k.onHead rfl hl

theorem Chip.Flows.pageWrite {cls addr b} (hl : Grp.ledger ∈ l := by decide) : a.Flows l (c.pageWrite cls addr b) := by
  unfold Chip.pageWrite
  exact k.ite (k.onLedger hl)

theorem Chip.Flows.writeRecord {cls r b} (hl : Grp.ledger ∈ l := by decide) : a.Flows l (c.writeRecord cls r b) := k.pageWrite hl
theorem Chip.Flows.ledgerEvent {b} (hl : Grp.ledger ∈ l := by decide) : a.Flows l (c.ledgerEvent b) := (k.onLedger hl).pageWrite hl

theorem Chip.Flows.sendNote {code i j d} (hl : ∀ g ∈ [Grp.ring, .outs], g ∈ l := by decide) : a.Flows l (c.sendNote code i j d) :=
  k.andThen hl ((Chip.Flows.refl c).onRing.bump.emit)

theorem Chip.Flows.notify {code i j d} (hl : ∀ g ∈ [Grp.ring, .outs], g ∈ l := by decide) : a.Flows l (c.notify code i j d) := by
  refine k.andThen hl ?_
  have h0 : c.Flows [.ring, .outs] c := .refl c
  unfold Chip.notify
  exact h0.ite ((h0.sendNote.onRing.ite h0.bump).ite (h0.onRing.ite h0.sendNote.onRing))

theorem Chip.Flows.headRecord {log b h} (hl : ∀ g ∈ [Grp.heads, .outs], g ∈ l := by decide) : a.Flows l (c.headRecord log b h) := by
  refine k.andThen hl ?_
  have h1 : c.Flows [.heads, .outs] c := .refl c
  unfold Chip.headRecord
  exact ((h1.onHead rfl).emit).ite (h1.onHead rfl)

/-- What a record at heads changes. -/
abbrev recordGrps : List Grp := [.heads, .ledger, .ring, .outs]

theorem Chip.Flows.recordAt {hs log b} (hl : ∀ g ∈ recordGrps, g ∈ l := by decide) : a.Flows l (c.recordAt hs log b) := by
  refine k.andThen hl ?_
  unfold Chip.recordAt
  extract_lets c1 c2
  have h1 : c.Flows recordGrps c1 := (Chip.Flows.refl c).foldl fun _ _ h => h.headRecord
  have h2 : c.Flows recordGrps c2 := h1.ledgerEvent
  split
  · exact h2
  · exact h2.notify

theorem Chip.Flows.record {log b} (hl : ∀ g ∈ recordGrps, g ∈ l := by decide) : a.Flows l (c.record log b) := k.recordAt hl
theorem Chip.Flows.vendorRecord {log code i j d} (hl : ∀ g ∈ recordGrps, g ∈ l := by decide) : a.Flows l (c.vendorRecord log code i j d) :=
  k.recordAt hl

theorem Chip.Flows.sendTwin {b line tag head p q r} (hl : Grp.outs ∈ l := by decide) : a.Flows l (c.sendTwin b line tag head p q r) := by
  unfold Chip.sendTwin
  exact (k.emit hl).ite k

/-! ### Requests and their completions -/

theorem Chip.Flows.requestRecord {r log b} (hl : ∀ g ∈ recordGrps, g ∈ l := by decide) : a.Flows l (c.requestRecord r log b) := by
  unfold Chip.requestRecord
  split <;> exact k.recordAt hl

/-- What the completion of a request changes. -/
abbrev answerGrps : List Grp := [.heads, .twin, .ledger, .ring, .outs]

theorem Chip.Flows.completeRead {r data p txn type} (hl : ∀ g ∈ answerGrps, g ∈ l := by decide) :
    a.Flows l (c.completeRead r data p txn type) := by
  refine k.andThen hl ?_
  have h0 : c.Flows answerGrps c := .refl c
  unfold Chip.completeRead
  split
  · exact (h0.emit.headEvent.recordAt.ite h0.emit).ite h0
  · exact h0.onTwin.sendTwin
  · exact h0
  · exact h0

theorem Chip.Flows.ackWrite {r} (hl : ∀ g ∈ [Grp.twin, .outs], g ∈ l := by decide) : a.Flows l (c.ackWrite r) := by
  refine k.andThen hl ?_
  have h0 : c.Flows [.twin, .outs] c := .refl c
  unfold Chip.ackWrite
  split
  · exact h0.emit.ite h0
  · exact h0.onTwin.sendTwin
  · exact h0
  · exact h0

theorem Chip.Flows.denyRequest {r txn type bit} (hl : ∀ g ∈ answerGrps, g ∈ l := by decide) : a.Flows l (c.denyRequest r txn type bit) := by
  refine k.andThen hl ?_
  unfold Chip.denyRequest
  extract_lets c1
  have h1 : c.Flows answerGrps c1 := by
    unfold c1
    split
    · exact (Chip.Flows.refl c).headEvent
    · exact (Chip.Flows.refl c).headEvent
    · exact .refl c
    · exact .refl c
  exact h1.requestRecord.ackWrite.ite h1.completeRead

theorem Chip.Flows.serveReaders {rs v} (hl : ∀ g ∈ answerGrps, g ∈ l := by decide) : a.Flows l (c.serveReaders rs v) :=
  k.foldl fun _ _ h => h.completeRead hl

theorem Chip.Flows.hold {r} (hl : ∀ g ∈ [Grp.twin, .ring], g ∈ l := by decide) : a.Flows l (c.hold r) := by
  refine k.andThen hl ?_
  unfold Chip.hold
  exact ((Chip.Flows.refl c).onTwin.ite (Chip.Flows.refl c).onTwin).peak

theorem Chip.Flows.useDesc {n} (hl : ∀ g ∈ [Grp.cache, .ring], g ∈ l := by decide) : a.Flows l (c.useDesc n) := by
  refine k.andThen hl ?_
  unfold Chip.useDesc
  split <;> exact (Chip.Flows.refl c).onCache.bump

/-! ### Poison and the written map -/

theorem Chip.Flows.poisonOverflow (hl : Grp.integ ∈ l := by decide) : a.Flows l c.poisonOverflow := by
  unfold Chip.poisonOverflow
  exact k.ite (k.onInteg hl)

theorem Chip.Flows.shadowNote {x len src remove} (hl : Grp.outs ∈ l := by decide) : a.Flows l (c.shadowNote x len src remove) := by
  unfold Chip.shadowNote
  split
  · exact (k.sendTwin hl).ite k
  · exact k

theorem Chip.Flows.listPoison {x src} (hl : Grp.integ ∈ l := by decide) : a.Flows l (c.listPoison x src) := by
  unfold Chip.listPoison
  split
  · exact k
  · split
    · exact k.onInteg hl
    · exact (k.onInteg hl).ite (k.poisonOverflow hl)

/-- What a poison record that comes or goes changes. -/
abbrev poisonGrps : List Grp := [.integ, .outs]

theorem Chip.Flows.addPoison {x src} (hl : ∀ g ∈ poisonGrps, g ∈ l := by decide) : a.Flows l (c.addPoison x src) :=
  k.andThen hl (Chip.Flows.refl c).listPoison.shadowNote

theorem Chip.Flows.decodedMark {x} (hl : ∀ g ∈ poisonGrps, g ∈ l := by decide) : a.Flows l (c.decodedMark x) := by
  unfold Chip.decodedMark
  exact k.ite (k.addPoison hl)

theorem Chip.Flows.clearPoison {x} (hl : ∀ g ∈ poisonGrps, g ∈ l := by decide) : a.Flows l (c.clearPoison x) := by
  refine k.andThen hl ?_
  unfold Chip.clearPoison
  split
  · exact .refl c
  · exact (((Chip.Flows.refl c).poisonOverflow.ite (.refl c)).onInteg).shadowNote

theorem Chip.Flows.poisonWrite {x p} (hl : ∀ g ∈ poisonGrps, g ∈ l := by decide) : a.Flows l (c.poisonWrite x p) := by
  unfold Chip.poisonWrite
  exact (k.addPoison hl).ite (k.clearPoison hl)

theorem Chip.Flows.setMap {key m} (hl : Grp.med ∈ l := by decide) : a.Flows l (c.setMap key m) := k.onMed hl

theorem Chip.Flows.setWritten {seg m} (hl : Grp.med ∈ l := by decide) : a.Flows l (c.setWritten seg m) := by
  unfold Chip.setWritten
  split
  · extract_lets c1
    have h1 : a.Flows l c1 := k.setMap hl
    split
    · exact (h1.setMap hl).ite h1
    · exact h1
  · exact k

theorem Chip.Flows.setLineWritten {x} (hl : Grp.med ∈ l := by decide) : a.Flows l (c.setLineWritten x) := k.setWritten hl
theorem Chip.Flows.markStale {x} (hl : Grp.med ∈ l := by decide) : a.Flows l (c.markStale x) := k.onMed hl

/-! ### Squall mode -/

theorem Chip.Flows.bistEnd {v e d} (hl : ∀ g ∈ [Grp.obj, .ring, .boot], g ∈ l := by decide) : a.Flows l (c.bistEnd v e d) := by
  refine k.andThen hl ?_
  unfold Chip.bistEnd
  split
  · exact .refl c
  · exact (Chip.Flows.refl c).onBoot.onObj.ite (Chip.Flows.refl c).onBoot.onObj.bump

theorem Chip.Flows.setSquall {v} (hl : ∀ g ∈ [Grp.obj, .cache, .ring, .boot, .outs], g ∈ l := by decide) : a.Flows l (c.setSquall v) := by
  refine k.andThen hl ?_
  unfold Chip.setSquall
  split
  · exact .refl c
  · extract_lets was c1 c2 c3
    have h2 : c.Flows [.obj, .cache, .ring, .boot, .outs] c2 := (Chip.Flows.refl c).onCache.sendTwin
    have h3 : c.Flows [.obj, .cache, .ring, .boot, .outs] c3 := h2.bistEnd.ite h2
    exact h3.notify.ite h3

theorem Chip.Flows.unclaimAll (hl : ∀ g ∈ [Grp.cache, .dolly, .ring], g ∈ l := by decide) : a.Flows l c.unclaimAll := by
  refine k.andThen hl ?_
  unfold Chip.unclaimAll
  exact (((Chip.Flows.refl c).ite (Chip.Flows.refl c).bump).onDolly).onCache

/-- What the evaluation of squall mode can change. -/
abbrev squallGrps : List Grp := [.heads, .obj, .cache, .dolly, .ledger, .ring, .boot, .outs]

theorem Chip.Flows.evalSquall (hl : ∀ g ∈ squallGrps, g ∈ l := by decide) : a.Flows l c.evalSquall := by
  refine k.andThen hl ?_
  have h0 : c.Flows squallGrps c := .refl c
  unfold Chip.evalSquall
  exact h0.ite ((h0.ite h0.setSquall.bump.vendorRecord.unclaimAll).ite (h0.setSquall.onCache.ite h0.setSquall))

end
end Sys2Proof.Machine
end

section
/-! What the requests of a command do to the chip: writes at their home, waiting writes, reads, and what goes on between the chips. -/

namespace Sys2Proof.Machine

-- One theorem at a time: elaborated at once, their nested proofs wait for one another, a thread and its stack for each.
set_option Elab.async false

section
variable {l : List Grp} {a c : Chip} (k : a.Flows l c)
include k

/-! ### Writes at their home -/

theorem Chip.Flows.dropFailed {r} (hl : ∀ g ∈ Grp.integ :: answerGrps, g ∈ l := by decide) : a.Flows l (c.dropFailed r) :=
  k.andThen hl ((Chip.Flows.refl c).addPoison.requestRecord.ackWrite)

/-- What a write at its home can change while it is placed. -/
abbrev writeGrps : List Grp := [.heads, .cache, .med, .integ, .twin, .ledger, .ring, .outs]

theorem Chip.Flows.tryHomeWrite {r} {d : Chip} (h : c.tryHomeWrite r = some d) (hl : ∀ g ∈ writeGrps, g ∈ l := by decide) : a.Flows l d := by
  refine k.andThen hl ?_
  unfold Chip.tryHomeWrite at h
  extract_lets mir head at h
  split at h
  · cases h
  · split at h
    · cases h
    · next e he =>
      split at h
      · cases h
      · extract_lets c1 c2 c3 at h
        have h1 : c.Flows writeGrps c1 :=
          ((Chip.Flows.refl c).cacheOnly ((Chip.CacheOnly.refl c).placeLine he).spendCredits).setLineWritten.poisonWrite
        have h2 : c.Flows writeGrps c2 := h1.requestRecord.ite h1
        split at h
        · cases h
          exact h2.onTwin.onTwin.bump.sendTwin
        · cases h
          exact (h2.markStale.ite h2).ackWrite

theorem Chip.Flows.tryMirrorWrite {m} {d : Chip} (h : c.tryMirrorWrite m = some d)
    (hl : ∀ g ∈ [Grp.cache, .med, .outs], g ∈ l := by decide) : a.Flows l d := by
  refine k.andThen hl ?_
  unfold Chip.tryMirrorWrite at h
  extract_lets seg n took at h
  have htook {p : Nat × Chip} (h : took = some p) : c.CacheOnly p.2 := by
    unfold took at h
    split at h
    · cases h; exact .refl c
    · obtain ⟨f, -, rfl⟩ := Option.map_eq_some_iff.1 h
      exact (Chip.CacheOnly.refl c).choose.setFrame
  cases ht : took with
  | none => rw [ht] at h; cases h
  | some p =>
    obtain ⟨f, e⟩ := p
    have h1 : c.CacheOnly e := htook ht
    rw [ht] at h
    dsimp -zeta only at h
    extract_lets held old merge v c1 c2 at h
    split at h
    · cases h
    · split at h
      · cases h
      · cases h
        exact ((Chip.Flows.refl c).cacheOnly h1.dirtySector.writeFrame.meetFill.spendCredits).setLineWritten.sendTwin

theorem Chip.Flows.tryWaiter {x} {d : Chip} (h : c.tryWaiter x = some d) (hl : ∀ g ∈ writeGrps, g ∈ l := by decide) : a.Flows l d := by
  refine k.andThen hl ?_
  have h0 : c.Flows writeGrps c := .refl c
  unfold Chip.tryWaiter at h
  split at h
  · split at h
    · cases h; exact h0.denyRequest
    · split at h
      · cases h; exact h0.dropFailed
      · exact h0.tryHomeWrite h
  · split at h
    · cases h; exact h0.sendTwin
    · exact h0.tryMirrorWrite h

/-- What a write at its home can change, with the squall mode that follows. -/
abbrev servedGrps : List Grp := [.heads, .obj, .cache, .med, .integ, .dolly, .twin, .ledger, .ring, .boot, .outs]

theorem Chip.Flows.serveWaiters {n} (hl : ∀ g ∈ servedGrps, g ∈ l := by decide) : a.Flows l (c.serveWaiters n) := by
  refine k.andThen hl ?_
  clear k hl
  induction n generalizing c with
  | zero => exact .refl c
  | succ n ih =>
    unfold Chip.serveWaiters
    split
    · exact .refl c
    · split
      · exact .refl c
      · next d hd => exact ((Chip.Flows.refl c).onCache.tryWaiter hd).evalSquall.trans ih

theorem Chip.Flows.homeWrite {r} (hl : ∀ g ∈ servedGrps, g ∈ l := by decide) : a.Flows l (c.homeWrite r) := by
  refine k.andThen hl ?_
  unfold Chip.homeWrite
  split
  · exact (Chip.Flows.refl c).dropFailed
  · split
    · exact (Chip.Flows.refl c).onCache.bump
    · extract_lets c1 queue behind
      have h1 : c.Flows servedGrps c1 := by
        refine (Chip.Flows.refl c).cacheOnly ?_
        unfold c1
        split
        · exact (Chip.CacheOnly.refl c).onFrame.ite (.refl c)
        · exact .refl c
      split
      · exact h1.onCache.evalSquall
      · split
        · next _ heq => exact (h1.tryHomeWrite heq).evalSquall
        · exact h1.onCache.evalSquall

theorem Chip.Flows.markPoison {x src} (hl : ∀ g ∈ servedGrps, g ∈ l := by decide) : a.Flows l (c.markPoison x src) :=
  k.andThen hl (Chip.Flows.refl c).addPoison.homeWrite

theorem Chip.Flows.lateWrite {r} (hl : ∀ g ∈ servedGrps, g ∈ l := by decide) : a.Flows l (c.lateWrite r) := by
  refine k.andThen hl ?_
  unfold Chip.lateWrite
  exact (Chip.Flows.refl c).denyRequest.ite (Chip.Flows.refl c).homeWrite

theorem Chip.Flows.serveMerges {n} (hl : ∀ g ∈ servedGrps, g ∈ l := by decide) : a.Flows l (c.serveMerges n) := by
  refine k.andThen hl ?_
  clear k hl
  induction n generalizing c with
  | zero => exact .refl c
  | succ n ih =>
    unfold Chip.serveMerges
    split
    · exact .refl c
    · exact (Chip.Flows.refl c).ite ((Chip.Flows.refl c).onCache.lateWrite.trans ih)

theorem Chip.Flows.evalPanic (hl : ∀ g ∈ [Grp.hbm, .ring], g ∈ l := by decide) : a.Flows l c.evalPanic := by
  refine k.andThen hl ?_
  unfold Chip.evalPanic
  exact (Chip.Flows.refl c).onHbm.bump.ite ((Chip.Flows.refl c).onHbm.ite (.refl c))

theorem Chip.Flows.settle (hl : ∀ g ∈ settleGrps, g ∈ l := by decide) : a.Flows l c.settle :=
  k.andThen hl (Chip.Flows.refl c).evalSquall.serveWaiters.serveMerges.evalPanic

theorem Chip.Flows.mirrorIn {m} (hl : ∀ g ∈ settleGrps, g ∈ l := by decide) : a.Flows l (c.mirrorIn m) := by
  refine k.andThen hl ?_
  have h0 : c.Flows settleGrps c := .refl c
  unfold Chip.mirrorIn
  extract_lets queue heldDirty
  split
  · exact h0.onCache.evalSquall.evalPanic
  · split
    · next _ heq => exact (h0.tryMirrorWrite heq).evalSquall
    · exact h0.onCache.evalSquall.evalPanic

/-! ### Reads at their home -/

theorem Chip.Flows.queueMiss {x f? readers cause} (hl : ∀ g ∈ [Grp.cache, .ring], g ∈ l := by decide) :
    a.Flows l (c.queueMiss x f? readers cause) := by
  refine k.andThen hl ?_
  unfold Chip.queueMiss
  extract_lets c1
  have h1 : c.Flows [.cache, .ring] c1 := by
    unfold c1
    split
    · exact (Chip.Flows.refl c).cacheOnly (Chip.CacheOnly.refl c).onFrame
    · exact .refl c
  exact h1.onCache.bump

theorem Chip.Flows.startMiss {x readers cause bypass} (hl : ∀ g ∈ [Grp.cache, .ring], g ∈ l := by decide) :
    a.Flows l (c.startMiss x readers cause bypass) := by
  refine k.andThen hl ?_
  have h0 : c.Flows [.cache, .ring] c := .refl c
  have c0 : c.CacheOnly c := .refl c
  unfold Chip.startMiss
  extract_lets seg
  cases c.lookup seg with
  | some f => exact (h0.cacheOnly c0.touch).queueMiss
  | none =>
    cases bypass with
    | true => exact h0.queueMiss
    | false =>
      rcases h : c.allocate seg .clean with ⟨_ | f, d⟩
      · simpa [h] using (h0.cacheOnly (c0.allocate.snd h)).queueMiss
      · simpa [h] using (h0.cacheOnly (c0.allocate.snd h).useFrame).queueMiss

/-- What a read at its home can change. -/
abbrev readGrps : List Grp := [.heads, .cache, .integ, .twin, .ledger, .ring, .outs]

theorem Chip.Flows.homeRead {r} (hl : ∀ g ∈ readGrps, g ∈ l := by decide) : a.Flows l (c.homeRead r) := by
  refine k.andThen hl ?_
  have h0 : c.Flows readGrps c := .refl c
  unfold Chip.homeRead
  extract_lets wait
  split
  · exact h0.onCache
  · split
    · extract_lets c1
      have h1 : c.Flows readGrps c1 := (h0.cacheOnly (Chip.CacheOnly.refl c).touch.readFrame).bump
      exact (h1.decodedMark.ite h1).completeRead
    · exact h0.completeRead.ite (h0.completeRead.ite (h0.onCache.ite h0.startMiss))

/-- A request served at its home, its access meeting nothing beside data. -/
theorem Chip.Flows.serveHome {r} (hl : ∀ g ∈ settleGrps, g ∈ l := by decide) : a.Flows l (c.serveHome r) := by
  refine k.andThen hl ?_
  have h0 : c.Flows settleGrps c := .refl c
  unfold Chip.serveHome
  split
  · exact h0.onHbm
  · extract_lets c1 c2
    have h1 : c.Flows settleGrps c1 := h0.cacheOnly (Chip.CacheOnly.refl c).buildFor
    have h2 : c.Flows settleGrps c2 := by
      unfold c2
      split
      · exact h1
      · exact h1
    exact h2.homeWrite.ite h2.homeRead

theorem Chip.Flows.markLine {x src} (hl : ∀ g ∈ settleGrps, g ∈ l := by decide) : a.Flows l (c.markLine x src) :=
  k.andThen hl (Chip.Flows.refl c).addPoison.serveHome

theorem Chip.Flows.loseLine {x src} (hl : ∀ g ∈ Grp.cache :: poisonGrps, g ∈ l := by decide) : a.Flows l (c.loseLine x src) :=
  k.andThen hl (((Chip.Flows.refl c).cacheOnly ((Chip.CacheOnly.refl c).foldl fun _ _ h => h.setSector)).addPoison)

/-! ### The ends of cross-chip switches and of a planned handover -/

theorem Chip.Flows.sendHandover {seg} (hl : ∀ g ∈ [Grp.dolly, .ring, .outs], g ∈ l := by decide) : a.Flows l (c.sendHandover seg) := by
  refine k.andThen hl ?_
  unfold Chip.sendHandover
  split
  · exact .refl c
  · exact (Chip.Flows.refl c).onDolly.sendTwin.bump

theorem Chip.Flows.settleMoves (hl : ∀ g ∈ [Grp.dolly, .ring, .outs], g ∈ l := by decide) : a.Flows l c.settleMoves :=
  k.foldl fun _ _ h => h.sendHandover hl

theorem Chip.Flows.tableChanged (hl : ∀ g ∈ [Grp.cache, .med], g ∈ l := by decide) : a.Flows l c.tableChanged := by
  refine k.andThen hl ?_
  unfold Chip.tableChanged
  exact (Chip.Flows.refl c).onMed.foldl fun _ _ h => h.ite h.onCache

theorem Chip.Flows.dropHolds {segs} (hl : ∀ g ∈ [Grp.cache, .outs], g ∈ l := by decide) : a.Flows l (c.dropHolds segs) := by
  refine k.andThen hl ((Chip.Flows.refl c).foldl fun d x h => ?_)
  refine h.sendTwin.ite ?_
  split
  · exact h.ite (h.cacheOnly (Chip.CacheOnly.refl d).onFrame)
  · exact h

theorem Chip.Flows.closeReel {id} (hl : ∀ g ∈ [Grp.obj, .cache, .outs], g ∈ l := by decide) : a.Flows l (c.closeReel id) := by
  refine k.andThen hl ?_
  unfold Chip.closeReel
  split
  · exact .refl c
  · exact (Chip.Flows.refl c).dropHolds.onObj

theorem Chip.Flows.closeReels {p} (hl : ∀ g ∈ [Grp.obj, .cache, .outs], g ∈ l := by decide) : a.Flows l (c.closeReels p) :=
  k.foldl fun _ _ h => h.closeReel hl

omit k in
theorem Chip.CacheOnly.becomeHeld {a c : Chip} {seg} (h : a.CacheOnly c) : a.CacheOnly (c.becomeHeld seg) := by
  unfold Chip.becomeHeld
  extract_lets fs
  split
  · exact h.foldl fun _ _ h => h.freeFrame
  · extract_lets c1
    have h1 : a.CacheOnly c1 := h.foldl fun _ _ h => h.freeFrame
    split
    · split
      · exact h1
      · exact h1.choose.copySectors.setFrame.freeFrame
    · exact h1.onFrame

/-- What the homes handed over can change. -/
abbrev homesGrps : List Grp := [.obj, .cache, .med, .integ, .outs]

/-- What a planned handover's installation can change. -/
abbrev handGrps : List Grp := [.obj, .cache, .med, .integ, .twin, .ledger, .outs]

theorem Chip.Flows.giveHomes (hl : ∀ g ∈ homesGrps, g ∈ l := by decide) : a.Flows l c.giveHomes := by
  refine k.andThen hl ((Chip.Flows.refl c).foldl fun d x h => ?_)
  have h1 : c.Flows homesGrps _ := h.closeReels (p := fun r => decide (r.obj = x.1))
  have h2 : c.Flows homesGrps _ := h1.foldl (xs := Chip.framedSegs (d.closeReels fun r => decide (r.obj = x.1)) x.2)
    (f := fun c s => c.becomeHeld s) fun e s h => h.cacheOnly (Chip.CacheOnly.refl e).becomeHeld
  exact ((((h2.foldl fun e g h => h.onMed.tableChanged).onObj.tableChanged).onInteg).sendTwin)

theorem Chip.Flows.settleHand (hl : ∀ g ∈ handGrps, g ∈ l := by decide) : a.Flows l c.settleHand := by
  refine k.andThen hl ?_
  unfold Chip.settleHand
  exact (Chip.Flows.refl c).ite ((Chip.Flows.refl c).giveHomes.sendTwin.onTwin.writeRecord)

/-- What can change as the moves and the handover that wait for requests go on. -/
abbrev movesGrps : List Grp := [.obj, .cache, .med, .integ, .dolly, .twin, .ledger, .ring, .outs]

theorem Chip.Flows.settleTwin (hl : ∀ g ∈ movesGrps, g ∈ l := by decide) : a.Flows l c.settleTwin :=
  k.andThen hl (Chip.Flows.refl c).settleMoves.settleHand

end
end Sys2Proof.Machine
end

section
/-! What is sent: the completions that a request gets, and that nothing sent is taken back. -/

namespace Sys2Proof.Machine

-- One theorem at a time: elaborated at once, their nested proofs wait for one another, a thread and its stack for each.
set_option Elab.async false

section
variable {l : List Grp} {a b : Chip} (k : a.keepsBut l b)
include k

theorem Chip.keepsBut.heads_eq (h : Grp.heads ∉ l := by decide) : b.heads = a.heads := k .heads h
theorem Chip.keepsBut.obj_eq (h : Grp.obj ∉ l := by decide) : b.obj = a.obj := k .obj h
theorem Chip.keepsBut.cache_eq (h : Grp.cache ∉ l := by decide) : b.cache = a.cache := k .cache h
theorem Chip.keepsBut.hbm_eq (h : Grp.hbm ∉ l := by decide) : b.hbm = a.hbm := k .hbm h
theorem Chip.keepsBut.med_eq (h : Grp.med ∉ l := by decide) : b.med = a.med := k .med h
theorem Chip.keepsBut.integ_eq (h : Grp.integ ∉ l := by decide) : b.integ = a.integ := k .integ h
theorem Chip.keepsBut.dolly_eq (h : Grp.dolly ∉ l := by decide) : b.dolly = a.dolly := k .dolly h
theorem Chip.keepsBut.twin_eq (h : Grp.twin ∉ l := by decide) : b.twin = a.twin := k .twin h
theorem Chip.keepsBut.wit_eq (h : Grp.wit ∉ l := by decide) : b.wit = a.wit := k .wit h
theorem Chip.keepsBut.clk_eq (h : Grp.clk ∉ l := by decide) : b.clk = a.clk := k .clk h
theorem Chip.keepsBut.outs_eq (h : Grp.outs ∉ l := by decide) : b.outs = a.outs := k .outs h

end

@[simp] theorem Chip.sent_ended (a was c : Chip) : a.sent (Chip.ended was c) = a.sent c := by
  unfold Chip.sent
  rw [Chip.ended_outs]

theorem Chip.sent_emit {a c : Chip} (h : a.outs <+: c.outs) (o : Output) : o ∈ a.sent (c.emit o) := by
  unfold Chip.sent
  rw [Chip.emit_outs, List.drop_append_of_le_length h.length_le]
  simp

/-- What was sent stays sent. -/
theorem Chip.sent_mono {a c d : Chip} {o : Output} (h : o ∈ a.sent c) (k : c.outs <+: d.outs) : o ∈ a.sent d := by
  obtain ⟨t, ht⟩ := k
  unfold Chip.sent at h ⊢
  rw [← ht, List.drop_append]
  exact List.mem_append_left _ h

/-- A fold of steps sends for each element what its step sends. -/
theorem Chip.foldl_sends {α : Type} {l : List Grp} {a : Chip} {f : Chip → α → Chip} (hf : ∀ (d : Chip) x, d.Flows l (f d x)) {x : α} {q : Output → Prop}
    (hx : ∀ d, a.Flows l d → ∃ o, q o ∧ o ∈ a.sent (f d x)) {xs : List α} (hm : x ∈ xs) {c : Chip} (hc : a.Flows l c) :
    ∃ o, q o ∧ o ∈ a.sent (xs.foldl f c) := by
  induction xs generalizing c with
  | nil => cases hm
  | cons y r ih =>
    rcases List.mem_cons.1 hm with rfl | hm
    · obtain ⟨o, hq, ho⟩ := hx c hc
      have hr : (f c x).Flows l (r.foldl f (f c x)) := (Chip.Flows.refl _).foldl fun d y h => h.trans (hf d y)
      exact ⟨o, hq, Chip.sent_mono ho hr.sent⟩
    · exact ih hm (hc.trans (hf c y))

section
variable {a c : Chip} {h : HeadNo} {r : Req} (ha : a.outs <+: c.outs) (hr : r.src = .head h) (hl : (c.head h).link = .up)
include ha hr hl

/-- A read of a head whose link is up is answered there. -/
theorem Chip.completeRead_sends (data : Line) (p : Bool) (txn type : Nat) :
    ∃ x, Output.readDone h r.tag (if p then 0 else data) p x ∈ a.sent (c.completeRead r data p txn type) := by
  refine ⟨c.devLoad h, ?_⟩
  have hs := Chip.sent_emit ha (.readDone h r.tag (if p then 0 else data) p (c.devLoad h))
  unfold Chip.completeRead
  simp only [hr, if_pos hl]
  exact Chip.sent_mono hs ((Chip.Flows.refl _).headEvent.recordAt.ite (.refl (l := recordGrps) _)).sent

/-- A write of a head whose link is up is acknowledged there. -/
theorem Chip.ackWrite_sends : ∃ x, Output.writeDone h r.tag x ∈ a.sent (c.ackWrite r) := by
  refine ⟨c.devLoad h, ?_⟩
  unfold Chip.ackWrite
  simp only [hr, if_pos hl]
  exact Chip.sent_emit ha _

/-- A request that is denied is completed all the same: a read with zeros and poison, a write by its acknowledgement. -/
theorem Chip.denyRequest_sends (txn type bit : Nat) :
    (r.write = false → ∃ x, Output.readDone h r.tag 0 true x ∈ a.sent (c.denyRequest r txn type bit)) ∧
      (r.write = true → ∃ x, Output.writeDone h r.tag x ∈ a.sent (c.denyRequest r txn type bit)) := by
  have h1 : c.Flows recordGrps (c.headEvent h bit) := (Chip.Flows.refl c).headEvent
  unfold Chip.denyRequest
  simp only [hr]
  refine ⟨fun hw => ?_, fun hw => ?_⟩
  · rw [if_neg (by simp [hw])]
    exact Chip.completeRead_sends (ha.trans h1.sent) hr ((h1.links h).trans hl) 0 true txn type
  · rw [if_pos hw]
    have h2 : c.Flows recordGrps _ := h1.requestRecord (r := r) (log := .failure) (b := (c.headEvent h bit).mediaBody r.line txn type 1)
    exact Chip.ackWrite_sends (ha.trans h2.sent) hr ((h2.links h).trans hl)

end

/-- Each reader of a head whose link is up receives the line. -/
theorem Chip.serveReaders_sends {l : List Grp} {a c : Chip} (hc : a.Flows l c) (hl : ∀ g ∈ answerGrps, g ∈ l) {rs : List Req} {v : Stored} {r : Req}
    (hm : r ∈ rs) {h : HeadNo} (hr : r.src = .head h) (hu : (a.head h).link = .up) :
    ∃ x, Output.readDone h r.tag (if v.poison then 0 else v.data) v.poison x ∈ a.sent (c.serveReaders rs v) := by
  obtain ⟨o, ⟨x, rfl⟩, ho⟩ := Chip.foldl_sends (q := fun o => ∃ x, o = .readDone h r.tag (if v.poison then 0 else v.data) v.poison x)
    (f := fun c r => c.completeRead r v.data v.poison) (fun d y => (Chip.Flows.refl d).completeRead hl)
    (fun d hd => by
      obtain ⟨x, hx⟩ := Chip.completeRead_sends hd.sent hr ((hd.links h).trans hu) v.data v.poison 1 0
      exact ⟨_, ⟨x, rfl⟩, hx⟩) hm hc
  exact ⟨x, ho⟩

end Sys2Proof.Machine
end

section
/-! Squall mode leaves the queues, the frames and the lines of the cache as they are. -/

namespace Sys2Proof.Machine

-- One theorem at a time: elaborated at once, their nested proofs wait for one another, a thread and its stack for each.
set_option Elab.async false

/-- The cache apart from what squall mode sets: its state, its credits and the operations of the scheduler. -/
def Cache.core (k : Cache) : Cache := { k with squall := 0, wb := [], byteHalves := 0, frameHalves := 0 }

theorem Cache.queues_of_core {k j : Cache} (h : k.core = j.core) :
    k.outside = j.outside ∧ k.mergeQ = j.mergeQ ∧ k.creditQ = j.creditQ ∧ k.misses = j.misses :=
  ⟨by simpa [Cache.core] using congrArg Cache.outside h, by simpa [Cache.core] using congrArg Cache.mergeQ h,
    by simpa [Cache.core] using congrArg Cache.creditQ h, by simpa [Cache.core] using congrArg Cache.misses h⟩

theorem Chip.setSquall_core (c : Chip) (v : Nat) : (c.setSquall v).cache.core = c.cache.core := by
  unfold Chip.setSquall
  split
  · rfl
  · extract_lets was c1 c2 c3
    have h2 : c1.Flows [.obj, .ring, .boot, .outs] c2 := (Chip.Flows.refl c1).sendTwin
    have h3 : c1.Flows [.obj, .ring, .boot, .outs] c3 := h2.bistEnd.ite h2
    show _ = c1.cache.core
    exact congrArg Cache.core (h3.notify.ite h3).keeps.cache_eq

theorem Chip.unclaimAll_core (c : Chip) : c.unclaimAll.cache.core = c.cache.core := by
  unfold Chip.unclaimAll
  dsimp only
  split <;> rfl

theorem Chip.evalSquall_core (c : Chip) : c.evalSquall.cache.core = c.cache.core := by
  have hset := c.setSquall_core
  unfold Chip.evalSquall
  split
  · rfl
  · split
    · split
      · rfl
      · extract_lets c1
        have h1 : c1.Flows recordGrps (c1.vendorRecord .warning 0x0101 0x3011 1 [BitVec.ofNat 8 c1.cache.squall]) :=
          (Chip.Flows.refl c1).vendorRecord
        exact (Chip.unclaimAll_core _).trans ((congrArg Cache.core h1.keeps.cache_eq).trans (hset _))
    · split
      · exact hset 0
      · exact hset _

theorem Chip.evalSquall_parked (c : Chip) : c.evalSquall.dolly.parked = c.dolly.parked := by
  have hset (v : Nat) : (c.setSquall v).dolly = c.dolly := ((Chip.Flows.refl c).setSquall (l := [.obj, .cache, .ring, .boot, .outs])).keeps.dolly_eq
  have hclaim (d : Chip) : d.unclaimAll.dolly.parked = d.dolly.parked := by
    unfold Chip.unclaimAll
    dsimp only
    split <;> rfl
  unfold Chip.evalSquall
  split
  · rfl
  · split
    · split
      · rfl
      · extract_lets c1
        have h1 : c1.Flows recordGrps (c1.vendorRecord .warning 0x0101 0x3011 1 [BitVec.ofNat 8 c1.cache.squall]) :=
          (Chip.Flows.refl c1).vendorRecord
        rw [hclaim, h1.keeps.dolly_eq]
        exact congrArg Dolly.parked (hset _)
    · split
      · exact congrArg Dolly.parked (hset 0)
      · exact congrArg Dolly.parked (hset _)

theorem Chip.waits_mono {c : Chip} {p q : Req → Prop} (h : c.waits p) (hpq : ∀ r, p r → q r) : c.waits q :=
  let ⟨r, hp, hr⟩ := h
  ⟨r, hpq r hp, hr⟩

theorem Chip.waits_ended {was c : Chip} {p : Req → Prop} : (Chip.ended was c).waits p ↔ c.waits p := by
  unfold Chip.waits
  simp only [Chip.ended_cache, Chip.ended_twin, Chip.ended_hbm, Chip.ended_dolly]

/-- A request that waits goes on waiting while squall mode is evaluated. -/
theorem Chip.evalSquall_waits {c : Chip} {p : Req → Prop} (h : c.waits p) : c.evalSquall.waits p := by
  obtain ⟨houtside, hmerge, hcredit, hmisses⟩ := Cache.queues_of_core c.evalSquall_core
  have hf : c.Flows squallGrps c.evalSquall := (Chip.Flows.refl c).evalSquall
  unfold Chip.waits at h ⊢
  rw [houtside, hmerge, hcredit, hmisses, c.evalSquall_parked, hf.keeps.twin_eq, hf.keeps.hbm_eq]
  exact h

end Sys2Proof.Machine
end

section
/-! A request that a head takes is answered there or waits. -/

namespace Sys2Proof.Machine

-- One theorem at a time: elaborated at once, their nested proofs wait for one another, a thread and its stack for each.
set_option Elab.async false

/-- Two requests of the same source carry the same. -/
def alike (r q : Req) : Prop :=
  q.src = r.src ∧ q.tag = r.tag ∧ q.write = r.write ∧ q.data = r.data ∧ q.mask = r.mask ∧ q.poison = r.poison

theorem alike_self (r : Req) : alike r r := ⟨rfl, rfl, rfl, rfl, rfl, rfl⟩

/-- Between chip `a` and chip `d` the request of head `h` was answered there, or it waits. -/
def Chip.NotLost (a d : Chip) (h : HeadNo) (r : Req) : Prop :=
  (r.write = false ∧ ∃ x p y, Output.readDone h r.tag x p y ∈ a.sent d) ∨
    (r.write = true ∧ ∃ y, Output.writeDone h r.tag y ∈ a.sent d) ∨ d.waits (alike r)

/-- Chip `c` is on its way from `a`, and the request comes from head `h`, whose link is up. -/
structure Chip.Takes (a c : Chip) (h : HeadNo) (r : Req) : Prop where
  sent : a.outs <+: c.outs
  src : r.src = .head h
  up : (c.head h).link = .up

theorem Chip.NotLost.ite {a d e : Chip} {h : HeadNo} {r : Req} {p : Prop} {_ : Decidable p} (hd : a.NotLost d h r) (he : a.NotLost e h r) :
    a.NotLost (if p then d else e) h r := by
  split
  · exact hd
  · exact he

theorem Chip.NotLost.evalSquall {a d : Chip} {h : HeadNo} {r : Req} (hd : a.NotLost d h r) : a.NotLost d.evalSquall h r := by
  have hf : d.Flows squallGrps d.evalSquall := (Chip.Flows.refl d).evalSquall
  rcases hd with ⟨hw, x, p, y, ho⟩ | ⟨hw, y, ho⟩ | hq
  · exact .inl ⟨hw, x, p, y, Chip.sent_mono ho hf.sent⟩
  · exact .inr (.inl ⟨hw, y, Chip.sent_mono ho hf.sent⟩)
  · exact .inr (.inr (Chip.evalSquall_waits hq))

section
variable {a c : Chip} {h : HeadNo} {r : Req} (t : a.Takes c h r)
include t

theorem Chip.Takes.flows {l : List Grp} {d : Chip} (k : c.Flows l d) : a.Takes d h r := ⟨t.sent.trans k.sent, t.src, (k.links h).trans t.up⟩

theorem Chip.Takes.completeRead (hw : r.write = false) (data : Line) (p : Bool) (txn type : Nat) :
    a.NotLost (c.completeRead r data p txn type) h r := by
  obtain ⟨y, ho⟩ := Chip.completeRead_sends t.sent t.src t.up data p txn type
  exact .inl ⟨hw, _, _, y, ho⟩

theorem Chip.Takes.ackWrite (hw : r.write = true) : a.NotLost (c.ackWrite r) h r :=
  .inr (.inl ⟨hw, Chip.ackWrite_sends t.sent t.src t.up⟩)

theorem Chip.Takes.denyRequest (txn type bit : Nat) : a.NotLost (c.denyRequest r txn type bit) h r := by
  obtain ⟨hread, hwrite⟩ := Chip.denyRequest_sends t.sent t.src t.up txn type bit
  cases hw : r.write with
  | false =>
    obtain ⟨y, ho⟩ := hread hw
    exact .inl ⟨hw, _, _, y, ho⟩
  | true => exact .inr (.inl ⟨hw, hwrite hw⟩)

omit t in
/-- A request in one of the queues waits. -/
theorem Chip.NotLost.of_waits {d : Chip} (hq : d.waits fun q => q = r) : a.NotLost d h r := by
  obtain ⟨q, rfl, hq⟩ := hq
  exact .inr (.inr ⟨q, alike_self q, hq⟩)

omit t in
theorem Chip.hold_notLost : a.NotLost (c.hold r) h r := by
  refine .of_waits ⟨r, rfl, ?_⟩
  unfold Chip.hold
  split
  · exact .inr (.inl (by simp [Chip.peak, Chip.setVol]))
  · exact .inr (.inr (.inl (by simp [Chip.peak, Chip.setVol])))

/-- A write at its home is placed and acknowledged, or placed here and sent to the partner, whose answer it waits for. -/
theorem Chip.Takes.tryHomeWrite (hw : r.write = true) {d : Chip} (hd : c.tryHomeWrite r = some d) : a.NotLost d h r := by
  unfold Chip.tryHomeWrite at hd
  extract_lets mir head at hd
  split at hd
  · cases hd
  · split at hd
    · cases hd
    · next e he =>
      split at hd
      · cases hd
      · extract_lets c1 c2 c3 at hd
        have h1 : c.Flows writeGrps c1 :=
          ((Chip.Flows.refl c).cacheOnly ((Chip.CacheOnly.refl c).placeLine he).spendCredits).setLineWritten.poisonWrite
        have h2 : c.Flows writeGrps c2 := h1.requestRecord.ite h1
        split at hd
        · cases hd
          refine .inr (.inr ⟨{ r with metPoison := c.poisonedOld r.line r.mask && forwarded r }, ⟨rfl, rfl, rfl, rfl, rfl, rfl⟩, ?_⟩)
          refine .inr (.inr (.inr (.inr (.inr (.inr (.inr (.inr (.inr (.inl ⟨{ tag := c2.twin.nextTag, req := _ }, ?_, rfl⟩)))))))))
          rw [((Chip.Flows.refl _).sendTwin (l := [.outs])).keeps.twin_eq]
          exact List.mem_append_right _ (List.mem_singleton_self _)
        · cases hd
          have t3 : a.Takes c3 h r := t.flows (h2.markStale.ite h2)
          exact .inr (.inl ⟨hw, Chip.ackWrite_sends t3.sent t3.src t3.up⟩)

theorem Chip.Takes.homeWrite (hw : r.write = true) : a.NotLost (c.homeWrite r) h r := by
  unfold Chip.homeWrite
  split
  · unfold Chip.dropFailed
    exact (t.flows ((Chip.Flows.refl (l := Grp.integ :: answerGrps) c).addPoison.requestRecord)).ackWrite hw
  · split
    · refine .of_waits ⟨r, rfl, ?_⟩
      exact .inr (.inr (.inr (.inr (.inr (.inr (.inl (List.mem_append_right _ (List.mem_singleton_self _))))))))
    · extract_lets c1 queue behind
      have h1 : c.CacheOnly c1 := by
        unfold c1
        split
        · exact (Chip.CacheOnly.refl c).onFrame.ite (.refl c)
        · exact .refl c
      have t1 : a.Takes c1 h r := t.flows ((Chip.Flows.refl (l := [.cache]) c).cacheOnly h1)
      have hqueue : a.NotLost (queue c1) h r :=
        .of_waits ⟨r, rfl, .inr (.inr (.inr (.inr (.inr (.inr (.inr (.inl (List.mem_append_right _ (List.mem_singleton_self _)))))))))⟩
      split
      · exact hqueue.evalSquall
      · split
        · next d hd => exact (t1.tryHomeWrite hw hd).evalSquall
        · exact hqueue.evalSquall

omit t in
/-- A read for which a medium read is started waits for its fill. -/
theorem Chip.startMiss_reader (c : Chip) (x cause : Nat) (bypass : Bool) (r : Req) :
    ∃ m ∈ (c.startMiss x [r] cause bypass).cache.misses, r ∈ m.readers := by
  have hqueue (d : Chip) (f : Option Nat) : ∃ m ∈ (d.queueMiss x f [r] cause).cache.misses, r ∈ m.readers :=
    ⟨{ line := x, frame := f, readers := [r], cause := cause }, List.mem_append_right _ (List.mem_singleton_self _), List.mem_singleton_self _⟩
  unfold Chip.startMiss
  extract_lets seg
  cases c.lookup seg with
  | some f => exact hqueue _ _
  | none =>
    cases bypass with
    | true => exact hqueue _ _
    | false => rcases h : c.allocate seg .clean with ⟨_ | f, d⟩ <;> simpa [h] using hqueue _ _

theorem Chip.Takes.homeRead (hw : r.write = false) : a.NotLost (c.homeRead r) h r := by
  unfold Chip.homeRead
  extract_lets wait
  have hwait (hm : (c.missOf r.line).isSome = true) : a.NotLost (wait c) h r := by
    obtain ⟨m, hm⟩ := Option.isSome_iff_exists.1 hm
    have hline : m.line = r.line := by simpa using List.find?_some hm
    refine .of_waits ⟨r, rfl, ?_⟩
    refine .inr (.inr (.inr (.inr (.inr (.inr (.inr (.inr (.inr (.inr ⟨{ m with readers := m.readers ++ [r] }, ?_, by simp⟩)))))))))
    exact List.mem_map.2 ⟨m, List.mem_of_find?_eq_some hm, if_pos hline⟩
  split
  · next hc => exact hwait (by simp only [Bool.and_eq_true] at hc; exact hc.2)
  · split
    · extract_lets c1
      have h1 : c.Flows readGrps c1 := ((Chip.Flows.refl c).cacheOnly (Chip.CacheOnly.refl c).touch.readFrame).bump
      exact (t.flows (h1.decodedMark.ite h1)).completeRead hw _ _ _ _
    · split
      · exact t.completeRead hw _ _ _ _
      · split
        · exact t.completeRead hw _ _ _ _
        · split
          · next hm => exact hwait hm
          · exact .of_waits ⟨r, rfl, .inr (.inr (.inr (.inr (.inr (.inr (.inr (.inr (.inr (.inr (c.startMiss_reader _ _ _ r))))))))))⟩

theorem Chip.Takes.scratchAccess : a.NotLost (c.scratchAccess r) h r := by
  unfold Chip.scratchAccess
  split
  next f n _ =>
  extract_lets fr c1 old v c2 c3
  have h1 : c.CacheOnly c1 := (Chip.CacheOnly.refl c).writeFrame.ite (Chip.CacheOnly.refl c).readFrame
  have h3 : c.CacheOnly c3 := h1.onCache.ite h1.onCache.onFrame
  have t1 : a.Takes c1 h r := t.flows ((Chip.Flows.refl (l := [.cache]) c).cacheOnly h1)
  have t3 : a.Takes c3 h r := t.flows ((Chip.Flows.refl (l := [.cache]) c).cacheOnly h3)
  split
  · next hw => exact t3.ackWrite hw
  · next hw =>
    have hw : r.write = false := by simpa using hw
    split
    · exact t1.completeRead hw _ _ _ _
    · exact t1.completeRead hw _ _ _ _

theorem Chip.Takes.serveHome : a.NotLost (c.serveHome r) h r := by
  unfold Chip.serveHome
  split
  · exact .of_waits ⟨r, rfl, .inr (.inr (.inr (.inr (.inl (List.mem_append_right _ (List.mem_singleton_self _))))))⟩
  · extract_lets c1 c2
    have h2 : c.CacheOnly c2 := by
      unfold c2
      split
      · exact (Chip.CacheOnly.refl c).buildFor
      · exact (Chip.CacheOnly.refl c).buildFor
    have t2 : a.Takes c2 h r := t.flows ((Chip.Flows.refl (l := [.cache]) c).cacheOnly h2)
    split
    · next hw => exact t2.homeWrite hw
    · next hw => exact t2.homeRead (by simpa using hw)

theorem Chip.Takes.routeHome {o : Obj} : a.NotLost (c.routeHome r o) h r := by
  unfold Chip.routeHome
  extract_lets seg
  refine .ite (.of_waits ⟨r, rfl, .inr (.inr (.inr (.inl (List.mem_append_right _ (List.mem_singleton_self _)))))⟩) ?_
  refine .ite (t.denyRequest _ _ _) (.ite t.serveHome ?_)
  refine .ite (.of_waits ⟨r, rfl, .inr (.inr (.inr (.inr (.inr (.inl (List.mem_append_right _ (List.mem_singleton_self _)))))))⟩) ?_
  split
  · refine .ite ?_ Chip.hold_notLost
    refine .of_waits ⟨r, rfl, .inr (.inr (.inr (.inr (.inr (.inr (.inr (.inr (.inl ⟨{ tag := c.twin.nextTag, req := r }, ?_, rfl⟩))))))))⟩
    rw [((Chip.Flows.refl _).sendTwin (l := [.outs])).keeps.twin_eq]
    exact List.mem_append_right _ (List.mem_singleton_self _)
  · exact t.denyRequest _ _ _
  · exact t.denyRequest _ _ _

theorem Chip.Takes.routeObj {o : Obj} : a.NotLost (c.routeObj r o) h r := by
  unfold Chip.routeObj
  split
  · exact t.denyRequest _ _ _
  · exact t.routeHome

theorem Chip.Takes.enter : a.NotLost (c.enter h r .ok) h r := by
  unfold Chip.enter
  split
  · split
    · split
      · exact .of_waits ⟨r, rfl, .inr (.inr (.inr (.inr (.inl (List.mem_append_right _ (List.mem_singleton_self _))))))⟩
      · exact t.scratchAccess
    · exact t.denyRequest _ _ _
  · split
    · exact t.denyRequest _ _ _
    · split
      · next id o _ =>
        have t1 : a.Takes (c.useDesc id) h r := t.flows ((Chip.Flows.refl (l := [.cache, .ring]) c).useDesc)
        exact .ite t1.routeObj (t1.denyRequest _ _ _)
      · exact t.denyRequest _ _ _

end

theorem Chip.Takes.takeRequest {a c : Chip} {h : HeadNo} {r : Req} (t : a.Takes c h r) (hpa : Nat) : a.NotLost (c.takeRequest h hpa r .ok) h r := by
  have tl (x : Nat) : a.Takes c h { r with line := x } := ⟨t.sent, t.src, t.up⟩
  unfold Chip.takeRequest
  split
  · exact (tl (hpa / 64)).denyRequest 0x80 1 3
  · next dpa _ => exact (tl (dpa / 64)).enter

/-- A request that a head takes is answered there, or waits with what it carries. -/
theorem Chip.hostRequest_notLost {c : Chip} {h : HeadNo} {ideOk : Bool} (t : c.takes h ideOk) (hpa : Nat) (r : Req) :
    c.NotLost (c.hostRequest h hpa ideOk r .ok) h { r with src := .head h } := by
  obtain ⟨hup, hmem, hide⟩ := t
  have hdown : ((c.head h).link != .up || !(c.head h).memActive) = false := by simp [hup, hmem]
  have hfail : ((c.head h).ideOn && !ideOk) = false := by
    cases hon : (c.head h).ideOn with
    | false => rfl
    | true => simp [hide hon]
  have tr : c.Takes c h { r with src := .head h, arrival := c.pairHead h } := ⟨List.prefix_rfl, rfl, hup⟩
  unfold Chip.hostRequest
  simp only [hdown, hfail, Bool.false_eq_true, if_false]
  refine .ite ?_ (tr.takeRequest hpa)
  exact Chip.NotLost.of_waits (r := { r with src := .head h, arrival := c.pairHead h, line := hpa / 64 })
    ⟨_, rfl, .inl (List.mem_append_right _ (List.mem_singleton_self _))⟩

end Sys2Proof.Machine

open Sys2Proof Sys2Proof.Machine

/-- Settles O7. Every way that a request can take ends in a completion at its head or in a queue: one lemma for each operation on that
way, from the check of the object to the home and its cache. -/
theorem everyRequestAnsweredOrWaits : Obligations.EveryRequestAnsweredOrWaits := by
  intro s h hpa tag ideOk t
  refine ⟨.of_onChip (f := fun c => c.hostRequest h hpa.toNat ideOk { tag := tag } .ok) rfl rfl ?_, fun data mask poison =>
    .of_onChip (f := fun c => c.hostRequest h hpa.toNat ideOk { write := true, data := data, mask := mask, poison := poison, tag := tag } .ok) rfl rfl ?_⟩
  · obtain ⟨-, d, p, l, ho⟩ | ⟨hw, -⟩ | hq := Chip.hostRequest_notLost t hpa.toNat { tag := tag }
    · exact .inl ⟨d, p, l, by rwa [Chip.sent_ended]⟩
    · cases hw
    · exact .inr (Chip.waits_ended.2 (Chip.waits_mono hq fun q ⟨hsrc, htag, hwrite, _⟩ => ⟨hsrc, htag, hwrite⟩))
  · obtain ⟨hw, -⟩ | ⟨-, l, ho⟩ | hq := Chip.hostRequest_notLost t hpa.toNat { write := true, data := data, mask := mask, poison := poison, tag := tag }
    · cases hw
    · exact .inl ⟨l, by rwa [Chip.sent_ended]⟩
    · exact .inr (Chip.waits_ended.2 hq)
end

section
/-! A request forwarded by the partner is answered over the link, or stays on record here. -/

namespace Sys2Proof.Machine

-- One theorem at a time: elaborated at once, their nested proofs wait for one another, a thread and its stack for each.
set_option Elab.async false

theorem Chip.told_mono {a c d : Chip} {b : TwinBody} {x tag : Nat} (h : a.told c b x tag) (k : c.outs <+: d.outs) : a.told d b x tag := by
  obtain ⟨hdr, ho, hx, ht⟩ := h
  exact ⟨hdr, Chip.sent_mono ho k, hx, ht⟩

/-- A message sent while the link carries messages is told. -/
theorem Chip.told_sendTwin {a c : Chip} (ha : a.outs <+: c.outs) (hr : c.linkReady = true) (b : TwinBody) (x tag : Nat) (head : PairHead)
    (p q f : Bool) : a.told (c.sendTwin b x tag head p q f) b x tag := by
  unfold Chip.sendTwin
  rw [if_pos hr]
  exact ⟨_, Chip.sent_emit ha _, rfl, rfl⟩

/-- A mirror write that is admitted changes the cache and the written bit, and is committed over the link. -/
theorem Chip.tryMirrorWrite_eq {c d : Chip} {m : MirReq} (hd : c.tryMirrorWrite m = some d) :
    ∃ e, c.CacheOnly e ∧ d = (e.setLineWritten m.line).sendTwin .mirrorCommit m.line m.tag := by
  unfold Chip.tryMirrorWrite at hd
  extract_lets seg n took at hd
  have htook {p : Nat × Chip} (h : took = some p) : c.CacheOnly p.2 := by
    unfold took at h
    split at h
    · cases h; exact .refl c
    · obtain ⟨f, -, rfl⟩ := Option.map_eq_some_iff.1 h
      exact (Chip.CacheOnly.refl c).choose.setFrame
  cases ht : took with
  | none => rw [ht] at hd; cases hd
  | some p =>
    obtain ⟨f, e⟩ := p
    have h1 : c.CacheOnly e := htook ht
    rw [ht] at hd
    dsimp -zeta only at hd
    extract_lets held old merge v c1 c2 at hd
    split at hd
    · cases hd
    · split at hd
      · cases hd
      · cases hd
        exact ⟨_, h1.dirtySector.writeFrame.meetFill.spendCredits, rfl⟩

/-- Since chip `a` the request forwarded under a tag was answered over the link: a write by FWD_ACK, a read by FWD_DATA. -/
def Chip.Replied (a c : Chip) (tag : Nat) (r : Req) : Prop :=
  if r.write = true then a.told c .fwdAck r.line tag else ∃ d, a.told c (.fwdData d) r.line tag

theorem Chip.Replied.mono {a c d : Chip} {tag : Nat} {r : Req} (h : a.Replied c tag r) (k : c.outs <+: d.outs) : a.Replied d tag r := by
  unfold Chip.Replied at h ⊢
  split at h
  · next hw =>
    rw [if_pos hw]
    exact Chip.told_mono h k
  · next hw =>
    rw [if_neg hw]
    obtain ⟨x, h⟩ := h
    exact ⟨x, Chip.told_mono h k⟩

/-- The records of the requests forwarded under a tag go. -/
def Chip.forget (c : Chip) (tag : Nat) : Chip := c.onTwin fun t => { t with fwdIn := t.fwdIn.filter (fun p => p.1 != tag) }

/-- On the way from chip `a` the request forwarded under a tag is answered or on record; of the writes that wait for a merge entry or
for credits, one under the tag is this request. -/
structure Chip.Owes (a c : Chip) (tag : Nat) (r : Req) : Prop where
  sent : a.outs <+: c.outs
  ready : c.linkReady = true
  owed : (tag, r) ∈ c.twin.fwdIn ∨ a.Replied c tag r
  late : ∀ q, q ∈ c.cache.mergeQ ∨ Waiter.home q ∈ c.cache.creditQ → q.src = .fwd tag → q.line = r.line ∧ q.write = true ∧ r.write = true

section
variable {a c : Chip} {tag : Nat} {r : Req} (o : a.Owes c tag r)
include o

/-- A step that leaves the requests on record, the link and the queues. -/
theorem Chip.Owes.of_same {d : Chip} (hs : c.outs <+: d.outs) (hr : d.linkReady = c.linkReady) (hf : d.twin.fwdIn = c.twin.fwdIn)
    (hq : d.cache.queues = c.cache.queues) : a.Owes d tag r := by
  obtain ⟨-, hq⟩ := Prod.mk.inj hq
  obtain ⟨hmerge, hcredit⟩ := Prod.mk.inj hq
  refine ⟨o.sent.trans hs, hr.trans o.ready, ?_, fun q hm => o.late q (by rwa [hmerge, hcredit] at hm)⟩
  rw [hf]
  exact o.owed.imp_right fun h => h.mono hs

theorem Chip.Owes.flows {l : List Grp} {d : Chip} (k : c.Flows l d) (ht : Grp.twin ∉ l := by decide) (hc : Grp.cache ∉ l := by decide) :
    a.Owes d tag r := by
  refine o.of_same k.sent ?_ (by rw [k.keeps.twin_eq ht]) (by rw [k.keeps.cache_eq hc])
  unfold Chip.linkReady
  rw [k.keeps.twin_eq ht]

theorem Chip.Owes.cacheOnly {d : Chip} (h : c.CacheOnly d) : a.Owes d tag r := by
  refine o.of_same ((Chip.Flows.refl (l := [.cache]) c).cacheOnly h).sent ?_ ?_ h.queues <;>
    obtain ⟨k, rfl, -⟩ := h <;> rfl

/-- A change of the twin part beside the requests on record and the link. -/
theorem Chip.Owes.onTwin {f : Twin → Twin} (hf : ∀ t, ((f t).link, (f t).keyed, (f t).fwdIn) = (t.link, t.keyed, t.fwdIn) := by intro; rfl) :
    a.Owes (c.onTwin f) tag r := by
  obtain ⟨hlink, hrest⟩ := Prod.mk.inj (hf c.twin)
  obtain ⟨hkey, hfwd⟩ := Prod.mk.inj hrest
  refine o.of_same List.prefix_rfl ?_ hfwd rfl
  show (decide ((f c.twin).link = .up) && (f c.twin).keyed) = _
  rw [hlink, hkey]
  rfl

theorem Chip.Owes.ite {d : Chip} {p : Prop} {_ : Decidable p} (h : a.Owes d tag r) : a.Owes (if p then c else d) tag r := by
  split
  · exact o
  · exact h

/-- A forwarded request is answered: its record goes, and the message is sent. -/
theorem Chip.Owes.answer (t : Nat) (b : TwinBody) (x : Nat) (head : PairHead) (p : Bool)
    (hb : t = tag → x = r.line ∧ (if r.write = true then b = .fwdAck else ∃ d, b = .fwdData d)) :
    a.Owes ((c.forget t).sendTwin b x t head p) tag r := by
  have hs : (c.forget t).Flows [.outs] ((c.forget t).sendTwin b x t head p) := (Chip.Flows.refl _).sendTwin
  have htwin := hs.keeps.twin_eq (by decide)
  have hcache := hs.keeps.cache_eq (by decide)
  refine ⟨o.sent.trans hs.sent, ?_, ?_, fun q hm => o.late q (by rwa [hcache] at hm)⟩
  · unfold Chip.linkReady
    rw [htwin]
    exact o.ready
  · by_cases ht : t = tag
    · obtain ⟨rfl, hbody⟩ := hb ht
      have hsend := Chip.told_sendTwin (c := c.forget t) o.sent o.ready b r.line t head p
        false false
      right
      unfold Chip.Replied
      subst ht
      split at hbody
      · next hw => rw [if_pos hw]; exact hbody ▸ hsend
      · next hw => rw [if_neg hw]; obtain ⟨d, rfl⟩ := hbody; exact ⟨d, hsend⟩
    · rcases o.owed with hm | hrep
      · left
        rw [htwin]
        exact List.mem_filter.2 ⟨hm, by simpa using fun h : tag = t => ht h.symm⟩
      · exact .inr (hrep.mono hs.sent)

theorem Chip.Owes.ackWrite {q : Req} (hq : q.src = .fwd tag → q.line = r.line ∧ r.write = true) : a.Owes (c.ackWrite q) tag r := by
  unfold Chip.ackWrite
  split
  · exact (o.flows ((Chip.Flows.refl (l := [.outs]) c).emit)).ite o
  · next t ht =>
    refine o.answer t _ _ _ _ fun h => ?_
    obtain ⟨hl, hw⟩ := hq (by rw [ht, h])
    exact ⟨hl, by rw [if_pos hw]⟩
  · exact o
  · exact o

theorem Chip.Owes.completeRead {q : Req} (hq : q.src = .fwd tag → q.line = r.line ∧ r.write = false) (data : Line) (p : Bool) (txn type : Nat) :
    a.Owes (c.completeRead q data p txn type) tag r := by
  unfold Chip.completeRead
  split
  · exact Chip.Owes.ite (o.flows ((Chip.Flows.refl (l := recordGrps) c).emit.headEvent.recordAt.ite (Chip.Flows.refl c).emit)) o
  · next t ht =>
    refine o.answer t _ _ _ _ fun h => ?_
    obtain ⟨hl, hw⟩ := hq (by rw [ht, h])
    exact ⟨hl, by rw [if_neg (by simp [hw])]; exact ⟨_, rfl⟩⟩
  · exact o
  · exact o

theorem Chip.Owes.requestRecord {q log b} : a.Owes (c.requestRecord q log b) tag r := o.flows ((Chip.Flows.refl (l := recordGrps) c).requestRecord)

theorem Chip.Owes.denyRequest {q : Req} (hq : q.src = .fwd tag → q.line = r.line ∧ q.write = r.write) (txn type bit : Nat) :
    a.Owes (c.denyRequest q txn type bit) tag r := by
  unfold Chip.denyRequest
  extract_lets c1
  have h1 : a.Owes c1 tag r := by
    unfold c1
    split
    · exact o.flows ((Chip.Flows.refl (l := [.heads]) c).headEvent)
    · exact o.flows ((Chip.Flows.refl (l := [.heads]) c).headEvent)
    · exact o
    · exact o
  split
  · next hw => exact h1.requestRecord.ackWrite fun h => ⟨(hq h).1, (hq h).2.symm.trans hw⟩
  · next hw => exact h1.completeRead (fun h => ⟨(hq h).1, (hq h).2.symm.trans (by simpa using hw)⟩) _ _ _ _

theorem Chip.Owes.dropFailed {q : Req} (hq : q.src = .fwd tag → q.line = r.line ∧ r.write = true) : a.Owes (c.dropFailed q) tag r :=
  (o.flows ((Chip.Flows.refl (l := poisonGrps) c).addPoison)).requestRecord.ackWrite hq

theorem Chip.Owes.evalSquall : a.Owes c.evalSquall tag r := by
  have hf : c.Flows squallGrps c.evalSquall := (Chip.Flows.refl c).evalSquall
  have hk := Cache.queues_of_core c.evalSquall_core
  obtain ⟨houtside, hmerge, hcredit, -⟩ := hk
  refine o.of_same hf.sent ?_ (by rw [hf.keeps.twin_eq]) (by simp only [Cache.queues, houtside, hmerge, hcredit])
  unfold Chip.linkReady
  rw [hf.keeps.twin_eq]

theorem Chip.Owes.tryHomeWrite {q : Req} {d : Chip} (hd : c.tryHomeWrite q = some d) (hq : q.src = .fwd tag → q.line = r.line ∧ r.write = true) :
    a.Owes d tag r := by
  unfold Chip.tryHomeWrite at hd
  extract_lets mir head at hd
  split at hd
  · cases hd
  · split at hd
    · cases hd
    · next e he =>
      split at hd
      · cases hd
      · extract_lets c1 c2 c3 at hd
        have h1 : a.Owes c1 tag r := (o.cacheOnly ((Chip.CacheOnly.refl c).placeLine he).spendCredits).flows ((Chip.Flows.refl (l := .med :: poisonGrps) _).setLineWritten.poisonWrite)
        have h2 : a.Owes c2 tag r := h1.requestRecord.ite h1
        split at hd
        · cases hd
          exact (h2.onTwin.onTwin).flows ((Chip.Flows.refl (l := [.ring, .outs]) _).bump.sendTwin)
        · cases hd
          have h3 : a.Owes c3 tag r := (h2.flows ((Chip.Flows.refl (l := [.med]) c2).markStale)).ite h2
          exact h3.ackWrite hq

theorem Chip.Owes.tryMirrorWrite {m : MirReq} {d : Chip} (hd : c.tryMirrorWrite m = some d) : a.Owes d tag r := by
  obtain ⟨e, h, rfl⟩ := Chip.tryMirrorWrite_eq hd
  exact (o.cacheOnly h).flows ((Chip.Flows.refl (l := [.med, .outs]) _).setLineWritten.sendTwin)

/-- The first write that waits for credits is served. -/
theorem Chip.Owes.tryWaiter {w : Waiter} {d : Chip} (hd : c.tryWaiter w = some d)
    (hw : ∀ q, w = .home q → q.src = .fwd tag → q.line = r.line ∧ q.write = true ∧ r.write = true) : a.Owes d tag r := by
  unfold Chip.tryWaiter at hd
  split at hd
  · next q =>
    have hq := hw q rfl
    split at hd
    · cases hd
      exact o.denyRequest (fun h => ⟨(hq h).1, (hq h).2.1.trans (hq h).2.2.symm⟩) _ _ _
    · split at hd
      · cases hd
        exact o.dropFailed fun h => ⟨(hq h).1, (hq h).2.2⟩
      · exact o.tryHomeWrite hd fun h => ⟨(hq h).1, (hq h).2.2⟩
  · split at hd
    · cases hd
      exact o.flows ((Chip.Flows.refl (l := [.outs]) c).sendTwin)
    · exact o.tryMirrorWrite hd

/-- Fewer requests wait, or one more that is not another one under the tag. -/
theorem Chip.Owes.queued {f : Cache → Cache}
    (hf : ∀ q, q ∈ (f c.cache).mergeQ ∨ Waiter.home q ∈ (f c.cache).creditQ →
      (q ∈ c.cache.mergeQ ∨ Waiter.home q ∈ c.cache.creditQ) ∨ (q.src = .fwd tag → q.line = r.line ∧ q.write = true ∧ r.write = true)) :
    a.Owes (c.onCache f) tag r :=
  ⟨o.sent, o.ready, o.owed, fun q hm => (hf q hm).elim (o.late q) fun h => h⟩

theorem Chip.Owes.serveWaiters (n : Nat) : a.Owes (c.serveWaiters n) tag r := by
  induction n generalizing c with
  | zero => exact o
  | succ n ih =>
    unfold Chip.serveWaiters
    split
    · exact o
    · next w rest hq =>
      split
      · exact o
      · next d hd =>
        have h1 : a.Owes (c.onCache fun k => { k with creditQ := rest }) tag r :=
          o.queued fun q hm => .inl (hm.imp_right fun h => by rw [hq]; exact List.mem_cons_of_mem _ h)
        exact ih (h1.tryWaiter hd fun q hw => o.late q (.inr (by rw [hq, ← hw]; exact List.mem_cons_self))).evalSquall

theorem Chip.Owes.homeWrite {q : Req} (hq : q.src = .fwd tag → q.line = r.line ∧ q.write = true ∧ r.write = true) : a.Owes (c.homeWrite q) tag r := by
  have hq' : q.src = .fwd tag → q.line = r.line ∧ r.write = true := fun h => ⟨(hq h).1, (hq h).2.2⟩
  unfold Chip.homeWrite
  split
  · exact o.dropFailed hq'
  · split
    · refine (Chip.Owes.queued o fun x hm => ?_).flows ((Chip.Flows.refl (l := [.ring]) _).bump)
      rcases hm with hm | hm
      · rcases List.mem_append.1 hm with hm | hm
        · exact .inl (.inl hm)
        · exact .inr (List.mem_singleton.1 hm ▸ hq)
      · exact .inl (.inr hm)
    · extract_lets c1 queue behind
      have h1 : a.Owes c1 tag r := by
        refine o.cacheOnly ?_
        unfold c1
        split
        · exact (Chip.CacheOnly.refl c).onFrame.ite (.refl c)
        · exact .refl c
      have hqueue : a.Owes (queue c1) tag r := by
        refine h1.queued fun x hm => ?_
        rcases hm with hm | hm
        · exact .inl (.inl hm)
        · rcases List.mem_append.1 hm with hm | hm
          · exact .inl (.inr hm)
          · obtain rfl : x = q := by simpa using hm
            exact .inr hq
      split
      · exact hqueue.evalSquall
      · split
        · next d hd => exact (h1.tryHomeWrite hd hq').evalSquall
        · exact hqueue.evalSquall

theorem Chip.Owes.serveMerges (n : Nat) : a.Owes (c.serveMerges n) tag r := by
  induction n generalizing c with
  | zero => exact o
  | succ n ih =>
    unfold Chip.serveMerges
    split
    · exact o
    · next q rest hq =>
      refine o.ite (ih ?_)
      have hm := o.late q (.inl (by rw [hq]; exact List.mem_cons_self))
      have h1 : a.Owes (c.onCache fun k => { k with mergeQ := rest }) tag r :=
        o.queued fun x hx => .inl (hx.imp_left fun h => by rw [hq]; exact List.mem_cons_of_mem _ h)
      unfold Chip.lateWrite
      exact (h1.denyRequest (fun h => ⟨(hm h).1, (hm h).2.1.trans (hm h).2.2.symm⟩) _ _ _).ite (h1.homeWrite hm)

theorem Chip.Owes.settle : a.Owes c.settle tag r :=
  ((o.evalSquall.serveWaiters _).serveMerges _).flows ((Chip.Flows.refl (l := [.hbm, .ring]) _).evalPanic)

theorem Chip.Owes.useDesc {n : Nat} : a.Owes (c.useDesc n) tag r := by
  unfold Chip.useDesc
  split
  · exact (o.queued fun q hm => .inl hm).flows ((Chip.Flows.refl (l := [.ring]) _).bump)
  · refine (o.queued fun q hm => .inl ?_).flows ((Chip.Flows.refl (l := [.ring]) _).bump)
    split at hm <;> exact hm

theorem Chip.Owes.queueMiss {x f? readers cause} : a.Owes (c.queueMiss x f? readers cause) tag r := by
  unfold Chip.queueMiss
  extract_lets c1
  have h1 : c.CacheOnly c1 := by
    unfold c1
    split
    · exact (Chip.CacheOnly.refl c).onFrame
    · exact .refl c
  exact (o.cacheOnly h1.onCache).flows ((Chip.Flows.refl (l := [.ring]) _).bump)

theorem Chip.Owes.startMiss {x readers cause bypass} : a.Owes (c.startMiss x readers cause bypass) tag r := by
  have c0 : c.CacheOnly c := .refl c
  unfold Chip.startMiss
  extract_lets seg
  cases c.lookup seg with
  | some f => exact (o.cacheOnly c0.touch).queueMiss
  | none =>
    cases bypass with
    | true => exact o.queueMiss
    | false =>
      rcases h : c.allocate seg .clean with ⟨_ | f, d⟩
      · simpa [h] using (o.cacheOnly (c0.allocate.snd h)).queueMiss
      · simpa [h] using (o.cacheOnly (c0.allocate.snd h).useFrame).queueMiss

theorem Chip.Owes.homeRead {q : Req} (hq : q.src = .fwd tag → q.line = r.line ∧ r.write = false) : a.Owes (c.homeRead q) tag r := by
  have hwait : a.Owes (c.onCache fun k => { k with misses := k.misses.map (fun m => if m.line = q.line then { m with readers := m.readers ++ [q] } else m) })
      tag r := o.cacheOnly (Chip.CacheOnly.refl c).onCache
  unfold Chip.homeRead
  extract_lets wait
  split
  · exact hwait
  · split
    · extract_lets c1
      have h1 : a.Owes c1 tag r := (o.cacheOnly (Chip.CacheOnly.refl c).touch.readFrame).flows ((Chip.Flows.refl (l := [.ring]) _).bump)
      exact ((h1.flows ((Chip.Flows.refl (l := poisonGrps) c1).decodedMark)).ite h1).completeRead hq _ _ _ _
    · refine (o.completeRead hq _ _ _ _).ite ((o.completeRead hq _ _ _ _).ite (hwait.ite o.startMiss))

theorem Chip.Owes.serveHome {q : Req} (hq : q.src = .fwd tag → q.line = r.line ∧ q.write = r.write) : a.Owes (c.serveHome q) tag r := by
  unfold Chip.serveHome
  split
  · exact o.flows ((Chip.Flows.refl (l := [.hbm]) c).onHbm)
  · extract_lets c1 c2
    have h2 : a.Owes c2 tag r := by
      refine o.cacheOnly ?_
      unfold c2
      split
      · exact (Chip.CacheOnly.refl c).buildFor
      · exact (Chip.CacheOnly.refl c).buildFor
    split
    · next hw => exact h2.homeWrite fun h => ⟨(hq h).1, hw, (hq h).2.symm.trans hw⟩
    · next hw => exact h2.homeRead fun h => ⟨(hq h).1, (hq h).2.symm.trans (by simpa using hw)⟩

end

/-- Of the twin part only the handover's state and the epoch change while the moves and the handover that wait go on. -/
theorem Chip.settleTwin_twin (c : Chip) : ∃ h e, c.settleTwin.twin = { c.twin with hand := h, epoch := e } := by
  have hmoves : c.settleMoves.twin = c.twin := ((Chip.Flows.refl (l := [.dolly, .ring, .outs]) c).settleMoves).keeps.twin_eq
  unfold Chip.settleTwin Chip.settleHand
  split
  · exact ⟨_, _, hmoves⟩
  · extract_lets c1 c2
    have h2 : c.settleMoves.Flows homesGrps c2 := ((Chip.Flows.refl c.settleMoves).giveHomes).sendTwin
    have hrec (d : Chip) : d.pairRecord.twin = d.twin := ((Chip.Flows.refl (l := [.ledger]) d).writeRecord).keeps.twin_eq
    refine ⟨.installing, c2.twin.epoch + 1, ?_⟩
    rw [hrec]
    show { c2.twin with hand := .installing, epoch := c2.twin.epoch + 1 } = _
    rw [h2.keeps.twin_eq, hmoves]

/-- The requests on record stay while the moves and the handover that wait for them go on. -/
theorem Chip.settleTwin_fwdIn (c : Chip) : c.settleTwin.twin.fwdIn = c.twin.fwdIn := by
  obtain ⟨h, e, ht⟩ := c.settleTwin_twin
  rw [ht]

/-- A request forwarded to this chip is answered over the link or on record when its service here ends. -/
theorem Chip.Owes.serveForward {a c : Chip} {tag : Nat} {r : Req} (hs : a.outs <+: c.outs) (hl : c.linkReady = true)
    (hlate : ∀ q, q ∈ c.cache.mergeQ ∨ Waiter.home q ∈ c.cache.creditQ → q.src ≠ .fwd tag) :
    (tag, r) ∈ (c.serveForward r tag .ok).twin.fwdIn ∨ a.Replied (c.serveForward r tag .ok) tag r := by
  unfold Chip.serveForward
  extract_lets c1 c2
  have h1 : a.Owes c1 tag r :=
    ⟨hs, hl, .inl (List.mem_append_right _ (List.mem_singleton_self _)), fun q hm hq => absurd hq (hlate q hm)⟩
  have h2 : a.Owes c2 tag r := by
    unfold c2
    split
    · exact h1.denyRequest (fun _ => ⟨rfl, rfl⟩) _ _ _
    · exact Chip.Owes.serveHome (h1.useDesc) fun _ => ⟨rfl, rfl⟩
  rw [Chip.settleTwin_fwdIn]
  exact h2.settle.owed.imp_right fun h => h.mono (Chip.Flows.refl (l := movesGrps) _).settleTwin.sent


end Sys2Proof.Machine
end

section
/-! The commands in flight while one of them runs: each keeps its number, its path and its entry. -/

namespace Sys2Proof.Machine

-- One theorem at a time: elaborated at once, their nested proofs wait for one another, a thread and its stack for each.
set_option Elab.async false

/-- The same commands are in flight, under the same numbers, paths and entries. -/
def Chip.SameCmds (a c : Chip) : Prop := c.obj.cmds.map RunCmd.key = a.obj.cmds.map RunCmd.key

/-- Every part of a chip: a step within these keeps the commands in flight whatever else it changes. -/
abbrev allGrps : List Grp :=
  [.id, .clk, .heads, .obj, .cache, .hbm, .med, .integ, .dolly, .twin, .wit, .pwr, .res, .wrap, .ledger, .sec, .ring, .boot, .cores, .deferred, .outs]

theorem Chip.SameCmds.refl (a : Chip) : a.SameCmds a := rfl

section
variable {a c : Chip} (k : a.SameCmds c)
include k

theorem Chip.SameCmds.flows {d : Chip} (h : c.Flows allGrps d) : a.SameCmds d := h.cmds.trans k

theorem Chip.SameCmds.onObj {f : Objects → Objects} (hf : ∀ o, (f o).cmds = o.cmds := by intro; rfl) : a.SameCmds (c.onObj f) :=
  (congrArg (List.map RunCmd.key) (hf _)).trans k

theorem Chip.SameCmds.onCache {f} : a.SameCmds (c.onCache f) := k
theorem Chip.SameCmds.onMed {f} : a.SameCmds (c.onMed f) := k
theorem Chip.SameCmds.onInteg {f} : a.SameCmds (c.onInteg f) := k
theorem Chip.SameCmds.onDolly {f} : a.SameCmds (c.onDolly f) := k
theorem Chip.SameCmds.onTwin {f} : a.SameCmds (c.onTwin f) := k
theorem Chip.SameCmds.onSec {f} : a.SameCmds (c.onSec f) := k

theorem Chip.SameCmds.ite {d : Chip} {p : Prop} {_ : Decidable p} (h : a.SameCmds d) : a.SameCmds (if p then c else d) := by
  split
  · exact k
  · exact h

theorem Chip.SameCmds.foldl {α : Type} {xs : List α} {f : Chip → α → Chip} (hf : ∀ d x, a.SameCmds d → a.SameCmds (f d x)) :
    a.SameCmds (xs.foldl f c) := by
  induction xs generalizing c with
  | nil => exact k
  | cons x r ih => exact ih (hf c x k)

theorem Chip.SameCmds.sendTwin {b line tag head p q r} : a.SameCmds (c.sendTwin b line tag head p q r) := k.flows (Chip.Flows.refl _).sendTwin
theorem Chip.SameCmds.settle : a.SameCmds c.settle := k.flows (Chip.Flows.refl _).settle
theorem Chip.SameCmds.tableChanged : a.SameCmds c.tableChanged := k.flows (Chip.Flows.refl _).tableChanged
theorem Chip.SameCmds.dropHolds {segs} : a.SameCmds (c.dropHolds segs) := k.flows (Chip.Flows.refl _).dropHolds
theorem Chip.SameCmds.closeReel {id} : a.SameCmds (c.closeReel id) := k.flows (Chip.Flows.refl _).closeReel
theorem Chip.SameCmds.closeReels {p} : a.SameCmds (c.closeReels p) := k.flows (Chip.Flows.refl _).closeReels
theorem Chip.SameCmds.cacheOnly {d : Chip} (h : c.CacheOnly d) : a.SameCmds d := k.flows ((Chip.Flows.refl _).cacheOnly h)

/-! ### Commands in flight -/

theorem Chip.SameCmds.onCmd {id f} (hf : ∀ r, (f r).key = r.key := by intro; rfl) : a.SameCmds (c.onCmd id f) := by
  refine Eq.trans ?_ k
  show (c.obj.cmds.map _).map RunCmd.key = _
  rw [List.map_map]
  refine List.map_congr_left fun r _ => ?_
  show RunCmd.key (if r.id = id then f r else r) = r.key
  split
  · exact hf r
  · rfl

theorem Chip.SameCmds.finish {id status detail vals obj} : a.SameCmds (c.finish id status detail vals obj) := by
  unfold Chip.finish
  split
  · exact k
  · exact k.onCmd

theorem Chip.SameCmds.cmdSpan {id first count} : a.SameCmds (c.cmdSpan id first count) := k.onCmd
theorem Chip.SameCmds.cancelCmds {obj but first count} : a.SameCmds (c.cancelCmds obj but first count) := k.foldl fun _ _ h => h.finish

/-! ### Objects, slots and keys -/

theorem Chip.SameCmds.descInval {obj} : a.SameCmds (c.descInval obj) := k.onCache.sendTwin

theorem Chip.SameCmds.putObj {obj o} : a.SameCmds (c.putObj obj o) := k.onObj.tableChanged.sendTwin.descInval

theorem Chip.SameCmds.addOp {o} : a.SameCmds (c.addOp o) := k.onCache
theorem Chip.SameCmds.mapWrite {n} : a.SameCmds (c.mapWrite n) := k.ite k.addOp.addOp

theorem Chip.SameCmds.zeroSlot {p} : a.SameCmds (c.zeroSlot p) := by
  unfold Chip.zeroSlot
  extract_lets n next c1 c2
  have h1 : a.SameCmds c1 := k.onCache.onMed
  have h2 : a.SameCmds c2 := h1.ite h1.addOp
  exact h2.mapWrite.ite h2

theorem Chip.SameCmds.takeSlot {gran sgroup} : a.SameCmds (c.takeSlot gran sgroup) := by
  unfold Chip.takeSlot
  split
  · exact k
  · split
    · exact k
    · split
      · exact k
      · exact k.onMed.zeroSlot.tableChanged.sendTwin

theorem Chip.SameCmds.takeSlots {first sgroup n} : a.SameCmds (c.takeSlots first sgroup n) := by
  induction n generalizing c first with
  | zero => exact k
  | succ n ih => exact ih k.takeSlot

theorem Chip.SameCmds.drawKey : a.SameCmds c.drawKey.2 := k
theorem Chip.SameCmds.setTag {t v} : a.SameCmds (c.setTag t v) := k.onSec

/-- The chip with which a key is at hand. -/
theorem Chip.SameCmds.needKey {t d} (h : c.needKey t = .ready d) : a.SameCmds d := by
  unfold Chip.needKey at h
  extract_lets gen at h
  have hgen (hg : gen = .ready d) : a.SameCmds d := by
    unfold gen at hg
    split at hg
    · cases hg
    · cases hg
      exact k.drawKey.setTag.sendTwin.ite k.drawKey.setTag
  split at h
  · cases h; exact k
  · cases h
  · split at h
    · split at h
      · cases h
      · exact hgen h
    · exact hgen h
    · exact hgen h
    · exact hgen h
    · cases h
    · cases h

theorem Chip.SameCmds.discardSegs {first count release} : a.SameCmds (c.discardSegs first count release) := by
  unfold Chip.discardSegs
  extract_lets inR fs c1 c2
  have h1 : a.SameCmds c1 := k.foldl fun d p hd => ((hd.cacheOnly (Chip.CacheOnly.refl d).onFrame).onCache).ite (hd.cacheOnly (Chip.CacheOnly.refl d).freeFrame)
  exact h1.onCache.onInteg

theorem Chip.SameCmds.setMap {key m} : a.SameCmds (c.setMap key m) := k.onMed

theorem Chip.SameCmds.clearWritten {first count} : a.SameCmds (c.clearWritten first count) :=
  k.foldl fun _ _ h => h.zeroSlot.ite (h.ite ((h.foldl fun _ _ h => h.setMap).mapWrite))

theorem Chip.SameCmds.clearPoisonRange {first count} : a.SameCmds (c.clearPoisonRange first count) := by
  have h1 : c.Flows allGrps (c.clearPoisonRange first count) := by
    unfold Chip.clearPoisonRange
    exact (((Chip.Flows.refl c).foldl fun _ _ h => h.shadowNote).poisonOverflow.ite ((Chip.Flows.refl c).foldl fun _ _ h => h.shadowNote)).onInteg
  exact k.flows h1

theorem Chip.SameCmds.zeroSegs {first count release} : a.SameCmds (c.zeroSegs first count release) := k.discardSegs.clearWritten.clearPoisonRange
theorem Chip.SameCmds.scrubBacklog {tag scrub first count} : a.SameCmds (c.scrubBacklog tag scrub first count) := k.onMed.ite k

theorem Chip.SameCmds.lateRequest {r} : a.SameCmds (c.lateRequest r) :=
  k.flows ((Chip.Flows.refl _).lateWrite.ite ((Chip.Flows.refl _).denyRequest.ite (Chip.Flows.refl _).homeRead))

theorem Chip.SameCmds.dropMoves {first n} : a.SameCmds (c.dropMoves first n) := k.onDolly.foldl fun _ _ h => h.lateRequest
theorem Chip.SameCmds.markStale {g} : a.SameCmds (c.markStale g) := k.onMed

/-! ### The commands -/

theorem Chip.SameCmds.runCreate {id e} : a.SameCmds (c.runCreate id e) := by
  unfold Chip.runCreate
  extract_lets half fl mirror n sg tag base
  refine k.finish.ite (k.finish.ite ?_)
  cases base with
  | none => exact k.finish
  | some b =>
    refine k.finish.ite (k.finish.ite ?_)
    split
    · exact k.finish
    · split
      · exact k.onCmd.sendTwin
      · exact k.finish
      · next d h => exact (k.needKey h).putObj.takeSlots.finish

theorem Chip.SameCmds.runDestroy {id obj o scrub} : a.SameCmds (c.runDestroy id obj o scrub) :=
  k.cancelCmds.closeReels.putObj.dropMoves.scrubBacklog.zeroSegs.settle

theorem Chip.SameCmds.enqueue {cmd obj kind group gs} : a.SameCmds (c.enqueue cmd obj kind group gs) := k.onDolly
theorem Chip.SameCmds.staleRange {first count} : a.SameCmds (c.staleRange first count) := k.foldl fun _ _ h => h.markStale

theorem Chip.SameCmds.rekeyPeer {obj o} : a.SameCmds (c.rekeyPeer obj o) := k.ite (k.onObj.ite k.onObj.staleRange)

theorem Chip.SameCmds.runSetAttr {id e obj o} : a.SameCmds (c.runSetAttr id e obj o) := by
  unfold Chip.runSetAttr
  extract_lets fl tag newMirror rekey rest build rebuild unmirror go
  have hgo {d : Chip} (hd : a.SameCmds d) : a.SameCmds (go d) := by
    unfold go
    extract_lets o' c1 gs c2 c3 c4 c5
    have h1 : a.SameCmds c1 := hd.putObj
    have h2 : a.SameCmds c2 := (h1.foldl fun _ _ h => h.markStale).ite h1
    have h3 : a.SameCmds c3 := ((h2.foldl fun _ _ h => h.onMed).onCache).ite h2
    have h4 : a.SameCmds c4 := h3.enqueue.rekeyPeer.ite (h3.enqueue.rekeyPeer.ite h3)
    have h5 : a.SameCmds c5 := h4.enqueue.ite (h4.enqueue.ite h4)
    exact h5.ite h5.finish
  refine k.finish.ite (k.finish.ite (k.finish.ite ?_))
  split
  · split
    · exact k.onCmd.sendTwin
    · exact k.finish
    · next d h => exact hgo (k.needKey h)
  · exact hgo k

theorem Chip.SameCmds.runQuery {id e} : a.SameCmds (c.runQuery id e) := by
  unfold Chip.runQuery
  extract_lets half found
  cases found with
  | none => exact k.finish
  | some p => exact k.finish.ite k.finish

theorem Chip.SameCmds.runResize {id e obj o} : a.SameCmds (c.runResize id e obj o) := by
  unfold Chip.runResize
  extract_lets n half vals
  refine k.finish.ite (k.finish.ite (.ite (k.finish.ite (k.finish.ite (k.finish.ite k.putObj.takeSlots.finish))) ?_))
  exact k.cancelCmds.closeReels.putObj.dropMoves.scrubBacklog.zeroSegs.settle.onObj.finish

theorem Chip.SameCmds.runMove {id e obj o} : a.SameCmds (c.runMove id e obj o) := k.finish.ite (k.cmdSpan.onCmd.foldl fun _ _ h => h.enqueue)

theorem Chip.SameCmds.reservePin {id seg} {d : Chip} (h : c.reservePin id seg = some d) : a.SameCmds d := by
  unfold Chip.reservePin at h
  split at h
  · cases h; exact k
  · obtain ⟨f, -, rfl⟩ := Option.map_eq_some_iff.1 h
    exact (k.cacheOnly (Chip.CacheOnly.refl c).setFrame).onDolly

theorem Chip.SameCmds.reservePins {id seg n} {d : Chip} (h : c.reservePins id seg n = some d) : a.SameCmds d := by
  induction n generalizing c seg with
  | zero => cases h; exact k
  | succ n ih =>
    obtain ⟨e, he, h⟩ := Option.bind_eq_some_iff.1 h
    exact ih (k.reservePin he) h

theorem Chip.SameCmds.runPin {id obj first n} : a.SameCmds (c.runPin id obj first n) := by
  unfold Chip.runPin
  split
  · exact k.finish
  · next _ heq => exact (k.reservePins heq).descInval

theorem Chip.SameCmds.runUnpin {id obj first n} : a.SameCmds (c.runUnpin id obj first n) := k.descInval.onDolly

theorem Chip.SameCmds.queueMiss {x f? readers cause} : a.SameCmds (c.queueMiss x f? readers cause) := k.flows (Chip.Flows.refl _).queueMiss

theorem Chip.SameCmds.bringIn {seg cause} : a.SameCmds (c.bringIn seg cause).2 := by
  unfold Chip.bringIn
  cases c.lookup seg with
  | some f => exact Chip.SameCmds.foldl (k.cacheOnly (Chip.CacheOnly.refl c).onFrame) fun _ _ h => h.queueMiss
  | none =>
    rcases h : c.allocate seg .clean with ⟨_ | f, d⟩
    · exact k.cacheOnly ((Chip.CacheOnly.refl c).allocate.snd h)
    · exact Chip.SameCmds.foldl (k.cacheOnly ((Chip.CacheOnly.refl c).allocate.snd h)) fun _ _ h => h.queueMiss

theorem Chip.SameCmds.promoteOn {id seg n} : a.SameCmds (c.promoteOn id seg n) := by
  induction n generalizing c seg with
  | zero => exact k
  | succ n ih =>
    unfold Chip.promoteOn
    split
    next ok d hd =>
    have h1 : a.SameCmds d := by
      split at hd
      · cases hd; exact k
      · cases hd; exact k.bringIn
    exact ih h1.onCmd

theorem Chip.SameCmds.runPromote {id} : a.SameCmds (c.runPromote id) := by
  unfold Chip.runPromote
  split
  · exact k
  · exact k.promoteOn.ite k

theorem Chip.SameCmds.runZero {id e o first n} : a.SameCmds (c.runZero id e o first n) := by
  have h1 : a.SameCmds ((c.scrubBacklog o.keyTag (bit (flagsOf e) 0) first n).zeroSegs first n false).settle := k.scrubBacklog.zeroSegs.settle
  exact k.finish.ite ((h1.sendTwin.ite h1).ite h1.staleRange).finish

theorem Chip.SameCmds.runReelOpen {id e obj o} : a.SameCmds (c.runReelOpen id e obj o) := by
  unfold Chip.runReelOpen
  extract_lets start n stride window count rid
  exact k.finish.ite (k.finish.ite (k.finish.ite (k.finish.ite k.onObj.finish)))

theorem Chip.SameCmds.onReel {rid f} : a.SameCmds (c.onReel rid f) := k.onObj

theorem Chip.SameCmds.slideReel {rid} : a.SameCmds (c.slideReel rid) := by
  unfold Chip.slideReel
  split
  · exact k
  · exact k.dropHolds.onReel

theorem Chip.SameCmds.dropReader {rid reader} : a.SameCmds (c.dropReader rid reader) := by
  unfold Chip.dropReader
  extract_lets c1
  have h1 : a.SameCmds c1 := k.onReel
  split
  · exact h1.closeReel.ite h1.slideReel
  · exact h1

theorem Chip.SameCmds.runReelJoin {id r} : a.SameCmds (c.runReelJoin id r) := k.finish.ite k.onReel.finish

theorem Chip.SameCmds.runReelAdvance {id e r} : a.SameCmds (c.runReelAdvance id e r) := by
  unfold Chip.runReelAdvance
  extract_lets cur
  split
  · exact k.finish
  · exact k.finish.ite k.onReel.slideReel.finish

theorem Chip.SameCmds.runReelLeave {id e r} : a.SameCmds (c.runReelLeave id e r) := k.dropReader.finish.ite k.finish

theorem Chip.SameCmds.runOn {id e o} : a.SameCmds (c.runOn id e o) := by
  unfold Chip.runOn
  extract_lets obj op ranged
  split
  · exact k.finish
  · rcases spanOf e o with ⟨first, n⟩
    dsimp -zeta only
    extract_lets c1 rivals c2 reel
    have h1 : a.SameCmds c1 := k.cmdSpan
    have h2 : a.SameCmds c2 := h1.foldl fun _ _ h => h.finish
    clear_value op reel
    refine h1.onCmd.ite ?_
    split
    · exact h2.runDestroy
    · exact h2.runSetAttr
    · exact h2.runResize
    · exact h2.runMove
    · exact h2.runPin
    · exact h2.runUnpin
    · exact h2.runPromote
    · exact h2
    · exact h2.runZero
    · exact h2.runReelOpen
    · cases reel with
      | none => exact h2.finish
      | some r => exact h2.runReelJoin.ite (h2.runReelAdvance.ite h2.runReelLeave)

theorem Chip.SameCmds.forwardCmd {id e} : a.SameCmds (c.forwardCmd id e) := k.onTwin.onTwin.sendTwin.ite k.onCmd

theorem Chip.SameCmds.run {id} : a.SameCmds (c.run id) := by
  unfold Chip.run
  split
  · exact k
  · extract_lets e cue fwd c1
    have h1 : a.SameCmds c1 := k.onCmd
    refine h1.finish.ite (h1.finish.ite ?_)
    split
    · exact h1.finish
    · refine h1.finish.ite (h1.forwardCmd.ite (.ite (h1.onCmd.ite h1.runCreate) (h1.runQuery.ite ?_)))
      split
      · exact h1.finish
      · split
        · exact h1.finish
        · exact h1.finish
        · exact h1.finish.ite h1.runOn

end

/-- A command in flight under a number, by what each command keeps. -/
theorem Chip.cmd_key (c : Chip) (id : Nat) : (c.cmd id).map RunCmd.key = (c.obj.cmds.map RunCmd.key).find? (fun x => decide (x.1 = id)) := by
  rw [List.find?_map]
  rfl

/-- A command that arrives is in flight under the next number, with its path and its entry. -/
theorem Chip.cmd_command {c : Chip} (h : c.cmd c.obj.nextCmd = none) (path : CmdPath) (e : CmdEntry) :
    ∃ r, (c.command path e).cmd c.obj.nextCmd = some r ∧ r.path = path ∧ r.entry = e := by
  have hrun : (c.addCmd path e).2.SameCmds (c.command path e) := (Chip.SameCmds.refl _).run
  have hkey := (c.command path e).cmd_key c.obj.nextCmd
  have hnone : (c.obj.cmds.map RunCmd.key).find? (fun x => decide (x.1 = c.obj.nextCmd)) = none := by rw [← c.cmd_key, h]; rfl
  have hadd : (c.addCmd path e).2.obj.cmds.map RunCmd.key = c.obj.cmds.map RunCmd.key ++ [(c.obj.nextCmd, path, e)] := by
    simp [Chip.addCmd, Chip.onObj, RunCmd.key]
  rw [hrun, hadd, List.find?_append, hnone] at hkey
  obtain ⟨r, hr, hk⟩ := Option.map_eq_some_iff.1 (hkey.trans (show _ = some (c.obj.nextCmd, path, e) by simp))
  obtain ⟨-, hk⟩ := Prod.mk.inj hk
  obtain ⟨hpath, hentry⟩ := Prod.mk.inj hk
  exact ⟨r, hr, hpath, hentry⟩

end Sys2Proof.Machine
end

section
/-! What the partner forwards: a mirror write, and the answer to every forwarded request. -/

namespace Sys2Proof.Machine

-- One theorem at a time: elaborated at once, their nested proofs wait for one another, a thread and its stack for each.
set_option Elab.async false

/-- A request of the current epoch is taken and counted. -/
theorem Chip.reqIn_of_hears {c : Chip} {hdr : TwinHdr} (h : c.hearsReq hdr) (f : Chip → Chip) : c.reqIn hdr f = f (c.bump 0x5001 3) := by
  obtain ⟨hlink, hstate, hepoch⟩ := h
  unfold Chip.reqIn
  have ht : (c.bump 0x5001 3).twin = c.twin := rfl
  simp only [hlink, Bool.not_true, Bool.false_eq_true, if_false]
  rcases hstate with hs | hs <;> exact if_pos (by simp [ht, hs, hepoch])

/-- A mirror write waits for credits here. -/
theorem Chip.queueMirror_creditQ (c : Chip) (m : MirReq) :
    Waiter.mirror m ∈ ((c.onCache fun k => { k with creditQ := k.creditQ ++ [.mirror m] }).evalSquall.evalPanic).cache.creditQ := by
  rw [((Chip.Flows.refl (l := [.hbm, .ring]) _).evalPanic).keeps.cache_eq]
  obtain ⟨-, -, hcredit, -⟩ := Cache.queues_of_core (Chip.evalSquall_core _)
  rw [hcredit]
  exact List.mem_append_right _ (List.mem_singleton_self _)

/-- A mirror write that arrives is committed over the link, waits for credits, or is held behind a fenced frame. -/
theorem Chip.mirrorArrives_kept {a c : Chip} (hs : a.outs <+: c.outs) (hl : c.linkReady = true) (m : MirReq) :
    a.told (c.mirrorArrives m) .mirrorCommit m.line m.tag ∨ Waiter.mirror m ∈ (c.mirrorArrives m).cache.creditQ ∨
      m ∈ (c.mirrorArrives m).hbm.heldMirror := by
  unfold Chip.mirrorArrives
  split
  · exact .inr (.inr (List.mem_append_right _ (List.mem_singleton_self _)))
  · have hpanic (d : Chip) : d.Flows [.hbm, .ring] d.evalPanic := (Chip.Flows.refl d).evalPanic
    have h1 : c.CacheOnly (c.buildFor (lineSeg m.line) (lineSector m.line)) := (Chip.CacheOnly.refl c).buildFor
    rw [(hpanic _).keeps.cache_eq]
    generalize hb : c.buildFor (lineSeg m.line) (lineSector m.line) = b at h1 ⊢
    unfold Chip.mirrorIn
    extract_lets queue held
    split
    · exact .inr (.inl (Chip.queueMirror_creditQ b m))
    · split
      · next d hd =>
        obtain ⟨e, he, rfl⟩ := Chip.tryMirrorWrite_eq hd
        have hw : c.Flows [.cache, .med] (e.setLineWritten m.line) :=
          (((Chip.Flows.refl c).cacheOnly h1).cacheOnly he).setLineWritten
        have htold := Chip.told_sendTwin (a := a) (c := e.setLineWritten m.line) (hs.trans hw.sent)
          (by unfold Chip.linkReady; rw [hw.keeps.twin_eq]; exact hl) .mirrorCommit m.line m.tag
          (head := 0) (p := false) (q := false) (f := false)
        have hend := (Chip.Flows.refl (l := .hbm :: squallGrps) ((e.setLineWritten m.line).sendTwin .mirrorCommit m.line m.tag)).evalSquall.evalPanic
        exact .inl (Chip.told_mono htold hend.sent)
      · exact .inr (.inl (Chip.queueMirror_creditQ b m))

/-- A forwarded request that the chip takes is answered over the link or on record as the command ends. -/
theorem Chip.serveForward_answers {c : Chip} {hdr : TwinHdr} (h : c.hearsReq hdr) (hw : ¬ c.waits (fun r => r.src = .fwd hdr.tag)) (r : Req) :
    (hdr.tag, r) ∈ (c.reqIn hdr fun c => c.serveForward r hdr.tag .ok).twin.fwdIn ∨
      c.Replied (c.reqIn hdr fun c => c.serveForward r hdr.tag .ok) hdr.tag r := by
  rw [Chip.reqIn_of_hears h]
  refine Chip.Owes.serveForward (c := c.bump 0x5001 3) List.prefix_rfl h.1 fun q hm hq => hw ⟨q, hq, ?_⟩
  exact hm.elim (fun hm => .inr (.inr (.inr (.inr (.inr (.inr (.inl hm)))))))
    (fun hm => .inr (.inr (.inr (.inr (.inr (.inr (.inr (.inl hm))))))))

end Sys2Proof.Machine

open Sys2Proof Sys2Proof.Machine

/-- Settles O32. A read or write stays owed (`Chip.Owes`) while it is served and what waits is settled: on record until its answer is
sent. A mirror write takes one of three ways, and a command keeps its number, path and entry whatever it does. -/
theorem forwardedAnsweredOrWaits : Obligations.ForwardedAnsweredOrWaits := by
  intro s hdr hh hw
  refine ⟨?_, fun data mask => ?_, fun data mask => ?_, fun entry hn => ?_⟩
  · refine .of_onChip (f := fun c => c.reqIn hdr fun c => c.serveForward (fwdReq hdr false 0 0) hdr.tag .ok) rfl rfl ?_
    rw [Chip.ended_twin]
    refine (Chip.serveForward_answers hh hw _).symm.imp_left fun ⟨d, ht⟩ => ⟨d, ?_⟩
    exact Chip.told_mono ht (by rw [Chip.ended_outs])
  · refine .of_onChip (f := fun c => c.reqIn hdr fun c => c.serveForward (fwdReq hdr true data mask) hdr.tag .ok) rfl rfl ?_
    rw [Chip.ended_twin]
    refine (Chip.serveForward_answers hh hw (fwdReq hdr true data mask)).symm.imp_left fun ht => ?_
    exact Chip.told_mono (b := .fwdAck) ht (by rw [Chip.ended_outs])
  · refine .of_onChip (f := fun c => c.reqIn hdr fun c =>
      c.mirrorArrives { tag := hdr.tag, line := hdr.line, data := data, mask := mask, poison := hdr.poison, head := hdr.head }) rfl rfl ?_
    rw [Chip.ended_cache, Chip.ended_hbm, Chip.reqIn_of_hears hh]
    refine (Chip.mirrorArrives_kept (c := s.chip.bump 0x5001 3) List.prefix_rfl hh.1 _).imp_left fun ht => ?_
    exact Chip.told_mono ht (by rw [Chip.ended_outs])
  · refine .of_onChip (f := fun c => c.reqIn hdr fun c => c.command (.fwd hdr.tag) entry) rfl rfl ?_
    rw [Chip.reqIn_of_hears hh]
    obtain ⟨r, hr, hp, he⟩ := Chip.cmd_command (c := s.chip.bump 0x5001 3) hn (.fwd hdr.tag) entry
    exact ⟨r, by unfold Chip.cmd; rw [Chip.ended_obj]; exact hr, hp, he⟩
end

section
/-! The answers of the partner: what each ends, and that it ends nothing else. -/

namespace Sys2Proof.Machine

-- One theorem at a time: elaborated at once, their nested proofs wait for one another, a thread and its stack for each.
set_option Elab.async false

/-- A response is taken while the link carries messages, and counted. -/
theorem Chip.anyIn_of_ready {c : Chip} (h : c.linkReady = true) (f : Chip → Chip) : c.anyIn f = f (c.bump 0x5001 3) := if_pos h

/-- A response whose tag names nothing is only counted. -/
theorem Completes.of_counted {i : Instr} {s : State} {f : Chip → Chip} (hi : exec i s = s.onChip fun c => c.anyIn f) (h : s.chip.linkReady = true)
    (hf : f (s.chip.bump 0x5001 3) = s.chip.bump 0x5001 3) : Completes i s fun c => s.chip.keepsBut [.ring] c := by
  refine .of_onChip hi (Chip.anyIn_of_ready h f) ?_
  rw [hf]
  exact Chip.keepsBut_ended (Chip.Flows.refl s.chip).bump.keeps

/-- A response that is taken: what holds of the chip that it leaves. -/
theorem Completes.of_anyIn {i : Instr} {s : State} {f : Chip → Chip} {d : Chip} {p : Chip → Prop} (hi : exec i s = s.onChip fun c => c.anyIn f)
    (h : s.chip.linkReady = true) (hf : f (s.chip.bump 0x5001 3) = d) (hp : p (Chip.ended s.chip d)) : Completes i s p :=
  .of_onChip hi ((Chip.anyIn_of_ready h f).trans hf) hp

/-- Of the twin part a completed read takes at most a request forwarded to this chip off the record. -/
theorem Chip.completeRead_twin (c : Chip) (r : Req) (data : Line) (p : Bool) (txn type : Nat) :
    ∃ l, (c.completeRead r data p txn type).twin = { c.twin with fwdIn := l } := by
  unfold Chip.completeRead
  split
  · have h0 : c.Flows recordGrps c := .refl c
    exact ⟨_, ((h0.emit.headEvent.recordAt.ite h0.emit).ite h0).keeps.twin_eq⟩
  · exact ⟨_, ((Chip.Flows.refl (l := [.outs]) _).sendTwin).keeps.twin_eq⟩
  · exact ⟨_, rfl⟩
  · exact ⟨_, rfl⟩

/-- Of the twin part an acknowledged write takes at most a request forwarded to this chip off the record. -/
theorem Chip.ackWrite_twin (c : Chip) (r : Req) : ∃ l, (c.ackWrite r).twin = { c.twin with fwdIn := l } := by
  unfold Chip.ackWrite
  split
  · exact ⟨_, ((Chip.Flows.refl (l := [.outs]) c).emit.ite (.refl c)).keeps.twin_eq⟩
  · exact ⟨_, ((Chip.Flows.refl (l := [.outs]) _).sendTwin).keeps.twin_eq⟩
  · exact ⟨_, rfl⟩
  · exact ⟨_, rfl⟩

theorem Chip.completeRead_fwd (c : Chip) (r : Req) (data : Line) (p : Bool) (txn type : Nat) :
    (c.completeRead r data p txn type).twin.fwd = c.twin.fwd := by
  obtain ⟨l, h⟩ := c.completeRead_twin r data p txn type
  rw [h]

theorem Chip.ackWrite_fwd (c : Chip) (r : Req) : (c.ackWrite r).twin.fwd = c.twin.fwd := by
  obtain ⟨l, h⟩ := c.ackWrite_twin r
  rw [h]

theorem Chip.ackWrite_mirror (c : Chip) (r : Req) : (c.ackWrite r).twin.mirror = c.twin.mirror := by
  obtain ⟨l, h⟩ := c.ackWrite_twin r
  rw [h]

theorem Chip.settleTwin_mirror (c : Chip) : c.settleTwin.twin.mirror = c.twin.mirror := by
  obtain ⟨h, e, ht⟩ := c.settleTwin_twin
  rw [ht]

/-- The chip that has counted a response and taken the request under its tag off the record. -/
def Chip.tookFwd (c : Chip) (tag : Nat) : Chip :=
  (c.bump 0x5001 3).onTwin fun t => { t with fwd := t.fwd.filter (fun x => x.tag != tag) }

theorem Chip.tookFwd_flows (c : Chip) (tag : Nat) : c.Flows [.twin, .ring] (c.tookFwd tag) := (Chip.Flows.refl c).bump.onTwin

theorem Chip.tookFwd_gone {c : Chip} {tag : Nat} {x : FwdReq} (h : x ∈ (c.tookFwd tag).twin.fwd) : x.tag ≠ tag := by
  simpa using (List.mem_filter.1 h).2

/-- The forwarded request that a response answers leaves the record. -/
theorem Chip.takeFwd_some {c : Chip} {tag : Nat} {f : FwdReq} (hf : c.twin.fwd.find? (fun f => decide (f.tag = tag)) = some f) :
    (c.bump 0x5001 3).takeFwd tag = some (f.req, c.tookFwd tag) := by
  have ht : (c.bump 0x5001 3).twin = c.twin := rfl
  unfold Chip.takeFwd
  rw [ht, hf]
  rfl

theorem Chip.takeFwd_none {c : Chip} {tag : Nat} (hf : c.twin.fwd.find? (fun f => decide (f.tag = tag)) = none) :
    (c.bump 0x5001 3).takeFwd tag = none := by
  have ht : (c.bump 0x5001 3).twin = c.twin := rfl
  unfold Chip.takeFwd
  rw [ht, hf]
  rfl

/-- A command in flight after a change of it that keeps its number. -/
theorem Chip.cmd_onCmd_same {c : Chip} {id : Nat} {f : RunCmd → RunCmd} (hf : ∀ r, (f r).id = r.id) : (c.onCmd id f).cmd id = (c.cmd id).map f := by
  unfold Chip.cmd Chip.onCmd Chip.onObj
  rw [List.find?_map]
  have hp : (fun r : RunCmd => decide (r.id = id)) ∘ (fun r => if r.id = id then f r else r) = fun r => decide (r.id = id) := by
    funext r
    by_cases h : r.id = id <;> simp [h, hf]
  rw [hp]
  cases hr : c.obj.cmds.find? (fun r => decide (r.id = id)) with
  | none => rfl
  | some r =>
    have hid : r.id = id := by simpa using List.find?_some hr
    rw [Option.map_some, Option.map_some, if_pos hid]

section
variable {s : State} {hdr : TwinHdr} (hl : s.chip.linkReady = true)
include hl

/-- FWD_DATA under the tag of a request that waits. -/
theorem fwdData_ends {f : FwdReq} (hf : s.chip.twin.fwd.find? (fun f => decide (f.tag = hdr.tag)) = some f) (data : Line) :
    Completes (.fwdData hdr data) s fun c =>
      (∀ h, f.req.src = .head h → (s.chip.head h).link = .up →
        ∃ l, Output.readDone h f.req.tag (if hdr.poison then 0 else data) hdr.poison l ∈ s.chip.sent c) ∧
        (∀ x ∈ c.twin.fwd, x.tag ≠ hdr.tag) ∧ s.chip.keepsBut [.heads, .twin, .ledger, .ring, .outs] c := by
  have h1 := (s.chip.tookFwd_flows hdr.tag).mono (m := answerGrps)
  refine .of_anyIn (d := (s.chip.tookFwd hdr.tag).completeRead f.req data hdr.poison) rfl hl (by rw [Chip.takeFwd_some hf]) ⟨?_, ?_, ?_⟩
  · intro h hr hu
    rw [Chip.sent_ended]
    exact Chip.completeRead_sends h1.sent hr ((h1.links h).trans hu) data hdr.poison 1 0
  · intro x hx
    rw [Chip.ended_twin, Chip.completeRead_fwd] at hx
    exact Chip.tookFwd_gone hx
  · exact Chip.keepsBut_ended h1.completeRead.keeps

/-- FWD_ACK under the tag of a request that waits. -/
theorem fwdAck_ends {f : FwdReq} (hf : s.chip.twin.fwd.find? (fun f => decide (f.tag = hdr.tag)) = some f) :
    Completes (.fwdAck hdr) s fun c =>
      (∀ h, f.req.src = .head h → (s.chip.head h).link = .up → ∃ l, Output.writeDone h f.req.tag l ∈ s.chip.sent c) ∧
        (∀ x ∈ c.twin.fwd, x.tag ≠ hdr.tag) ∧ (hdr.poison = false → s.chip.keepsBut [.twin, .ring, .outs] c) ∧
        s.chip.keepsBut [.heads, .twin, .ledger, .ring, .outs] c := by
  have h0 := s.chip.tookFwd_flows hdr.tag
  have h1 := h0.mono (m := answerGrps)
  refine .of_anyIn (d := (if hdr.poison = true then (s.chip.tookFwd hdr.tag).requestRecord f.req .failure ((s.chip.tookFwd hdr.tag).mediaBody f.req.line 2 0 1)
    else s.chip.tookFwd hdr.tag).ackWrite f.req) rfl hl (by rw [Chip.takeFwd_some hf]) ?_
  generalize hd : (if hdr.poison = true then (s.chip.tookFwd hdr.tag).requestRecord f.req .failure ((s.chip.tookFwd hdr.tag).mediaBody f.req.line 2 0 1)
    else s.chip.tookFwd hdr.tag) = d
  have h2 : (s.chip.tookFwd hdr.tag).Flows recordGrps d := hd ▸ (Chip.Flows.refl _).requestRecord.ite (.refl _)
  have h3 : s.chip.Flows answerGrps d := h1.trans h2.mono
  refine ⟨?_, ?_, ?_, ?_⟩
  · intro h hr hu
    rw [Chip.sent_ended]
    exact Chip.ackWrite_sends h3.sent hr ((h3.links h).trans hu)
  · intro x hx
    rw [Chip.ended_twin, Chip.ackWrite_fwd, h2.keeps.twin_eq] at hx
    exact Chip.tookFwd_gone hx
  · intro hp
    subst hd
    rw [if_neg (by simp [hp])]
    exact Chip.keepsBut_ended (h0.mono (m := [.twin, .ring, .outs])).ackWrite.keeps
  · exact Chip.keepsBut_ended h3.ackWrite.keeps

/-- MIRROR_COMMIT under the tag of a mirrored write that waits. -/
theorem mirrorCommit_ends {m : MirWait} (hm : s.chip.twin.mirror.find? (fun m => decide (m.tag = hdr.tag)) = some m) :
    Completes (.mirrorCommit hdr) s fun c =>
      (∀ h, m.req.src = .head h → (s.chip.head h).link = .up → ∃ l, Output.writeDone h m.req.tag l ∈ s.chip.sent c) ∧
        (∀ x ∈ c.twin.mirror, x.tag ≠ hdr.tag) ∧ s.chip.keepsBut [.obj, .cache, .med, .integ, .dolly, .twin, .ledger, .ring, .outs] c := by
  have h1 : s.chip.Flows movesGrps ((s.chip.bump 0x5001 3).onTwin fun t => { t with mirror := t.mirror.filter (fun x => x.tag != hdr.tag) }) :=
    (Chip.Flows.refl s.chip).bump.onTwin
  have ht : (s.chip.bump 0x5001 3).twin = s.chip.twin := rfl
  refine .of_anyIn (d := (((s.chip.bump 0x5001 3).onTwin fun t => { t with mirror := t.mirror.filter (fun x => x.tag != hdr.tag) }).ackWrite m.req).settleTwin)
    rfl hl (by rw [ht, hm]) ⟨?_, ?_, ?_⟩
  · intro h hr hu
    rw [Chip.sent_ended]
    obtain ⟨l, ho⟩ := Chip.ackWrite_sends h1.sent hr ((h1.links h).trans hu)
    exact ⟨l, Chip.sent_mono ho ((Chip.Flows.refl (l := movesGrps) _).settleTwin).sent⟩
  · intro x hx
    rw [Chip.ended_twin, Chip.settleTwin_mirror, Chip.ackWrite_mirror] at hx
    simpa using (List.mem_filter.1 hx).2
  · exact Chip.keepsBut_ended h1.ackWrite.settleTwin.keeps

/-- FWD_CMD_RESULT under the tag of a forwarded command. -/
theorem fwdCmdResult_ends {f : FwdCmd} (hf : s.chip.twin.fwdCmds.find? (fun f => decide (f.tag = hdr.tag)) = some f) (res : CmdResult) :
    Completes (.fwdCmdResult hdr res) s fun c =>
      (∀ r, s.chip.cmd f.cmd = some r → ∃ q, c.cmd f.cmd = some q ∧ q.result = some res ∧ q.path = r.path ∧ q.entry = r.entry) ∧
        (∀ x ∈ c.twin.fwdCmds, x.cmd ≠ f.cmd) ∧ s.chip.keepsBut [.obj, .twin, .ring] c := by
  have ht : (s.chip.bump 0x5001 3).twin = s.chip.twin := rfl
  refine .of_anyIn (d := ((s.chip.bump 0x5001 3).onCmd f.cmd fun x => { x with waits := false, result := some res }).dropFwdCmd f.cmd)
    rfl hl (by rw [ht, hf]) ⟨?_, ?_, ?_⟩
  · intro r hr
    refine ⟨{ r with waits := false, result := some res }, ?_, rfl, rfl, rfl⟩
    have hc : (s.chip.bump 0x5001 3).cmd f.cmd = some r := hr
    have hsame := Chip.cmd_onCmd_same (c := s.chip.bump 0x5001 3) (id := f.cmd) (f := fun x => { x with waits := false, result := some res }) fun _ => rfl
    rw [hc] at hsame
    unfold Chip.cmd
    rw [Chip.ended_obj]
    exact hsame
  · intro x hx
    rw [Chip.ended_twin] at hx
    simpa using (List.mem_filter.1 hx).2
  · exact Chip.keepsBut_ended (((Chip.keepsBut_refl s.chip [.obj, .twin, .ring]).onRing _ (by decide)).onObj _ (by decide) |>.onTwin _ (by decide))

end

end Sys2Proof.Machine

open Sys2Proof Sys2Proof.Machine

/-- Settles O33. -/
theorem twinAnswers : Obligations.TwinAnswers := by
  intro s hdr data res hl
  have ht : (s.chip.bump 0x5001 3).twin = s.chip.twin := rfl
  refine ⟨?_, ?_, ?_⟩
  · split
    · next f hf => exact ⟨fwdData_ends hl hf data, fwdAck_ends hl hf⟩
    · next hf =>
      rintro i (rfl | rfl)
      · exact .of_counted rfl hl (by rw [Chip.takeFwd_none hf])
      · exact .of_counted rfl hl (by rw [Chip.takeFwd_none hf])
  · split
    · next m hm => exact mirrorCommit_ends hl hm
    · next hm => exact .of_counted rfl hl (by rw [ht, hm])
  · split
    · next f hf => exact fwdCmdResult_ends hl hf res
    · next hf => exact .of_counted rfl hl (by rw [ht, hf])
end

section
/-! The end of a medium read: its data is stored, and its readers receive it. -/

namespace Sys2Proof.Machine

-- One theorem at a time: elaborated at once, their nested proofs wait for one another, a thread and its stack for each.
set_option Elab.async false

/-- A fill that no write has discarded and that no write waits to be merged with serves its readers with its data. -/
theorem Chip.fillDone_serves {c : Chip} {line : Nat} {m : Miss} {v : Stored} (hm : c.missOf line = some m) (hs : m.stage = .returned)
    (hg : m.got = some v) (hd : m.drop = false) (hw : c.merging line = false) :
    ∃ d, c.Flows settleGrps d ∧ c.fillDone line = d.serveReaders m.readers v := by
  have hnone : c.cache.merges.find? (fun x => decide (x.line = line)) = none := by
    rw [List.find?_eq_none]
    exact List.any_eq_false.1 hw
  unfold Chip.fillDone
  simp -zeta only [hm, hs, hg]
  extract_lets n c1 old c2 c3 served
  have h1 : c.Flows settleGrps c1 := (Chip.Flows.refl c).onCache
  have hnone1 : c1.cache.merges.find? (fun x => decide (x.line = line)) = none := hnone
  unfold served
  rw [if_neg (by simp [hd])]
  simp -zeta only [hnone1]
  have h2 : c1.CacheOnly c2 := by
    unfold c2
    split
    · exact .refl c1
    · refine .ite ((Chip.CacheOnly.refl c1).foldl fun _ _ h => h.setSector) (.ite ?_ (.refl c1))
      exact (Chip.CacheOnly.refl c1).setSector.writeFrame.onFrame
  have h3 : c.Flows settleGrps c2 := h1.cacheOnly h2
  exact ⟨c3, h3.ite (h3.markPoison.ite h3.decodedMark), rfl⟩

end Sys2Proof.Machine

open Sys2Proof Sys2Proof.Machine

/-- Settles O12. -/
theorem fillAnswersReaders : Obligations.FillAnswersReaders := by
  intro s line m v hm hs hg hd hw
  obtain ⟨d, h1, he⟩ := Chip.fillDone_serves hm hs hg hd hw
  have h2 : (d.serveReaders m.readers v).Flows settleGrps (d.serveReaders m.readers v).settle.settleTwin := (Chip.Flows.refl _).settle.settleTwin
  refine .of_onChip (f := fun c => (c.fillDone line).settle.settleTwin) (d := (d.serveReaders m.readers v).settle.settleTwin) rfl (by rw [he]) ⟨?_, ?_⟩
  · intro r hr h hsrc hu
    obtain ⟨l, ho⟩ := Chip.serveReaders_sends h1 (by decide) (v := v) hr hsrc hu
    refine ⟨l, ?_⟩
    rw [Chip.sent_ended]
    exact Chip.sent_mono ho h2.sent
  · exact Chip.keepsBut_ended (h1.serveReaders.trans h2).keeps
end

section
/-! A request denied at a head: the record that it leaves there, and what it leaves alone. -/

namespace Sys2Proof.Machine

-- One theorem at a time: elaborated at once, their nested proofs wait for one another, a thread and its stack for each.
set_option Elab.async false

theorem Chip.head_headRecord (c : Chip) (log : LogNo) (b : EventBody) (h k : HeadNo) :
    (c.headRecord log b h).head k =
      if k = h then { c.head h with logs := (c.head h).logs.set log.index.val (((c.head h).logs.get log.index).add c.stamp b) log.index.isLt }
      else c.head k := by
  have hc : (c.headRecord log b h).heads =
      (c.onHead h fun d => { d with logs := d.logs.set log.index.val ((d.logs.get log.index).add c.stamp b) log.index.isLt }).heads := by
    unfold Chip.headRecord
    extract_lets t c'
    split <;> rfl
  unfold Chip.head at *
  rw [hc]
  exact (Chip.head_onHead c h k _).trans (by split <;> simp_all [Chip.head])

/-- Beside the head's own log a record there changes the ledger and what is sent. -/
theorem Chip.recordAt_one (c : Chip) (h : HeadNo) (log : LogNo) (b : EventBody) :
    (c.headRecord log b h).Flows [.ledger, .ring, .outs] (c.recordAt [h] log b) := by
  unfold Chip.recordAt
  extract_lets c1 c2
  have h2 : (c.headRecord log b h).Flows [.ledger, .ring, .outs] c2 := (Chip.Flows.refl c1).ledgerEvent
  split
  · exact h2
  · exact h2.notify

theorem Chip.keepsBut.head_eq {l : List Grp} {a b : Chip} (k : a.keepsBut l b) (h : HeadNo) (hl : Grp.heads ∉ l := by decide) : b.head h = a.head h := by
  unfold Chip.head
  rw [k.heads_eq hl]

theorem Chip.head_recordAt_one (c : Chip) (h k : HeadNo) (log : LogNo) (b : EventBody) :
    (c.recordAt [h] log b).head k = (c.headRecord log b h).head k := (c.recordAt_one h log b).keeps.head_eq k

/-- The record of a line that lies in no object names no place. -/
theorem Chip.mediaBody_unmapped {c : Chip} {line : Nat} (h1 : line < scratchBase) (h2 : c.objAt line = none) (txn type descr : Nat) :
    c.mediaBody line txn type descr = .media (64 * line) txn type descr none [] := by
  have hm : ¬ memberBase ≤ line := by unfold memberBase; unfold scratchBase at h1; omega
  unfold Chip.mediaBody mediaAddr
  simp [hm, h2, Nat.not_le.2 h1, boolNat]

/-- A chip after a request was denied at a head with a record: the log of the head has the record, and the other heads are as they were. -/
def Chip.Denied (a c : Chip) (h : HeadNo) (b : EventBody) : Prop :=
  (c.head h).logs.get LogNo.failure.index = ((a.head h).logs.get LogNo.failure.index).add a.stamp b ∧
    (∀ k, k ≠ h → c.head k = a.head k) ∧ a.keepsBut recordGrps c

/-- A record in the failure log of a head, and before it events of that head. -/
theorem Chip.recordAt_denied {a c : Chip} {h : HeadNo} (hlog : (c.head h).logs = (a.head h).logs) (hother : ∀ k, k ≠ h → c.head k = a.head k)
    (hk : a.Flows recordGrps c) (b : EventBody) : a.Denied (c.recordAt [h] .failure b) h b := by
  refine ⟨?_, fun k hne => ?_, hk.recordAt.keeps⟩
  · have hstamp : c.stamp = a.stamp := by
      unfold Chip.stamp Chip.now
      rw [hk.keeps.clk_eq]
    rw [Chip.head_recordAt_one, Chip.head_headRecord, if_pos rfl, hlog, hstamp]
    exact Vector.getElem_set_self _
  · rw [Chip.head_recordAt_one, Chip.head_headRecord, if_neg hne, hother k hne]

theorem Chip.head_headEvent_ne {c : Chip} {h k : HeadNo} (hk : k ≠ h) (i : Nat) : (c.headEvent h i).head k = c.head k := Chip.head_onHead_ne c h _ hk

theorem Chip.logs_headEvent (c : Chip) (h : HeadNo) (i : Nat) : ((c.headEvent h i).head h).logs = (c.head h).logs := by
  unfold Chip.headEvent
  rw [Chip.head_onHead_same]

theorem Chip.ackWrite_head {c : Chip} {r : Req} {h : HeadNo} (hr : r.src = .head h) (hu : (c.head h).link = .up) :
    c.ackWrite r = c.emit (.writeDone h r.tag (c.devLoad h)) := by
  unfold Chip.ackWrite
  simp only [hr, if_pos hu]

theorem Chip.completeRead_head {c : Chip} {r : Req} {h : HeadNo} (hr : r.src = .head h) (hu : (c.head h).link = .up) (data : Line) (p : Bool) (txn type : Nat) :
    c.completeRead r data p txn type =
      let d := c.emit (.readDone h r.tag (if p then 0 else data) p (c.devLoad h))
      if p then (d.headEvent h 5).recordAt [h] .failure (d.mediaBody r.line txn type 1) else d := by
  unfold Chip.completeRead
  simp only [hr, if_pos hu]

/-- A request of a head whose line lies in no object is denied: the head's failure log has its record. -/
theorem Chip.denyRequest_denied {a c : Chip} {h : HeadNo} {r : Req} (hk : a.Flows [.outs] c) (hr : r.src = .head h) (hu : (a.head h).link = .up) (hl : r.line < scratchBase)
    (ho : a.objAt r.line = none) (bit : Nat) :
    a.Denied (c.denyRequest r 0x80 1 bit) h (.media (64 * r.line) 0x80 1 1 none []) := by
  have h1 : a.Flows recordGrps (c.headEvent h bit) := hk.mono.headEvent
  have hup : ((c.headEvent h bit).head h).link = .up := (h1.links h).trans hu
  have hhead (k : HeadNo) : c.head k = a.head k := hk.keeps.head_eq k
  have hlogs : ((c.headEvent h bit).head h).logs = (a.head h).logs := by rw [Chip.logs_headEvent, hhead]
  have hothers (k : HeadNo) (hne : k ≠ h) : (c.headEvent h bit).head k = a.head k := by rw [Chip.head_headEvent_ne hne, hhead]
  have hbody (d : Chip) (hd : d.obj = a.obj) : d.mediaBody r.line 0x80 1 1 = .media (64 * r.line) 0x80 1 1 none [] := by
    refine Chip.mediaBody_unmapped hl ?_ _ _ _
    unfold Chip.objAt Chip.objAtGran
    rw [hd]
    exact ho
  have hobj : (c.headEvent h bit).obj = a.obj := h1.keeps.obj_eq
  unfold Chip.denyRequest
  simp only [hr]
  split
  · have hreq (b : EventBody) : (c.headEvent h bit).requestRecord r .failure b = (c.headEvent h bit).recordAt [h] .failure b := by
      unfold Chip.requestRecord
      simp only [hr]
    have hup2 (b : EventBody) : (((c.headEvent h bit).recordAt [h] .failure b).head h).link = .up :=
      ((Chip.Flows.refl (l := recordGrps) _).recordAt.links h).trans hup
    rw [hreq, Chip.ackWrite_head hr (hup2 _), hbody _ hobj]
    obtain ⟨hlog, hother, hkeep⟩ := Chip.recordAt_denied hlogs hothers h1 (.media (64 * r.line) 0x80 1 1 none [])
    exact ⟨hlog, hother, hkeep.emit _ (by decide)⟩
  · rw [Chip.completeRead_head hr hup]
    dsimp only
    rw [if_pos rfl, hbody ((c.headEvent h bit).emit _) hobj]
    refine Chip.recordAt_denied ?_ (fun k hne => ?_) (h1.emit.headEvent) _
    · rw [Chip.logs_headEvent]
      exact hlogs
    · rw [Chip.head_headEvent_ne hne]
      exact hothers k hne

/-- A request that a head takes at once enters at its device address. -/
theorem Chip.hostRequest_taken {c : Chip} {h : HeadNo} {ideOk : Bool} (ht : c.takesNow h ideOk) (hpa : Nat) (r : Req) (ev : HbmEvent) :
    c.hostRequest h hpa ideOk r ev = c.takeRequest h hpa { r with src := .head h, arrival := c.pairHead h } ev := by
  obtain ⟨⟨hup, hmem, hide⟩, hstay⟩ := ht
  have hdown : ((c.head h).link != .up || !(c.head h).memActive) = false := by simp [hup, hmem]
  have hfail : ((c.head h).ideOn && !ideOk) = false := by
    cases hon : (c.head h).ideOn with
    | false => rfl
    | true => simp [hide hon]
  have hout : (c.withheld h || c.cache.outside.any (fun x => decide (x.src = .head h))) = false := by
    unfold Chip.staysOutside at hstay
    simpa using hstay
  unfold Chip.hostRequest
  simp only [hdown, hfail, hout, Bool.false_eq_true, if_false]

/-- A request that a head takes at once, for a twin address in no object, is denied. -/
theorem Chip.hostRequest_unmapped {c : Chip} {h : HeadNo} {ideOk : Bool} (ht : c.takesNow h ideOk) {hpa dpa : Nat} (hd : (c.head h).decode hpa = some dpa)
    (hl : dpa / 64 < scratchBase) (ho : c.objAt (dpa / 64) = none) (r : Req) (ev : HbmEvent) :
    c.hostRequest h hpa ideOk r ev = c.denyRequest { r with src := .head h, arrival := c.pairHead h, line := dpa / 64 } 0x80 1 3 := by
  rw [Chip.hostRequest_taken ht]
  unfold Chip.takeRequest
  simp only [hd]
  unfold Chip.enter
  rw [if_neg (Nat.not_le.2 hl)]
  split
  · rfl
  · simp only [ho]

end Sys2Proof.Machine

open Sys2Proof Sys2Proof.Machine

/-- Settles O5. -/
theorem unmappedRequests : Obligations.UnmappedRequests := by
  intro s h hpa tag ideOk ev dpa ht hd hl ho log recorded
  have hup := ht.1.1
  have hrec (r : Req) (hr : r.line = dpa / 64) (hsrc : r.src = .head h) : recorded (Chip.ended s.chip (s.chip.denyRequest r 0x80 1 3)) := by
    obtain ⟨hlog, hother, hkeep⟩ := Chip.denyRequest_denied (.refl s.chip) hsrc hup (hr ▸ hl) (hr ▸ ho) 3
    refine ⟨?_, fun k hk => ?_, Chip.keepsBut_ended hkeep⟩
    · rw [Chip.ended_head, hlog, hr]
    · rw [Chip.ended_head, hother k hk]
  have heq := Chip.hostRequest_unmapped ht hd hl ho
  refine ⟨.of_onChip (f := fun c => c.hostRequest h hpa.toNat ideOk { tag := tag } ev) rfl (heq _ _) ⟨?_, hrec _ rfl rfl⟩, fun data mask poison =>
    .of_onChip (f := fun c => c.hostRequest h hpa.toNat ideOk { write := true, data := data, mask := mask, poison := poison, tag := tag } ev) rfl
      (heq _ _) ⟨?_, hrec _ rfl rfl⟩⟩
  · rw [Chip.sent_ended]
    exact (Chip.denyRequest_sends List.prefix_rfl rfl hup 0x80 1 3).1 rfl
  · rw [Chip.sent_ended]
    exact (Chip.denyRequest_sends List.prefix_rfl rfl hup 0x80 1 3).2 rfl
end

section
/-! The values of the dictionary: what a counted value is after a change, and that records, answers and what a command sends count
under 1120 and 1101 alone. -/

namespace Sys2Proof.Machine

-- One theorem at a time: elaborated at once, their nested proofs wait for one another, a thread and its stack for each.
set_option Elab.async false

/-- The value under a key of the dictionary is as it was. -/
def Chip.SameVol (key : Nat) (a c : Chip) : Prop := c.ring.vals.find key = a.ring.vals.find key

theorem Chip.SameVol.vol {i j : Nat} {a c : Chip} (h : Chip.SameVol (dictKey i j) a c) (d : Nat) : c.vol i j d = a.vol i j d := by
  unfold Chip.vol SMap.getD
  rw [h]

@[simp] theorem Chip.vol_setVol_same (c : Chip) (i j v d : Nat) : (c.setVol i j v).vol i j d = v := by
  unfold Chip.vol Chip.setVol Chip.onRing SMap.getD
  rw [SMap.find_put_self]
  rfl

theorem Chip.vol_bump_same (c : Chip) (i j n : Nat) : (c.bump i j n).vol i j = c.vol i j + n := Chip.vol_setVol_same ..

theorem Chip.SameVol.refl (key : Nat) (a : Chip) : Chip.SameVol key a a := rfl

section
variable {key : Nat} {a c : Chip} (k : Chip.SameVol key a c)
include k

theorem Chip.SameVol.trans {d : Chip} (h : Chip.SameVol key c d) : Chip.SameVol key a d := Eq.trans h k

theorem Chip.SameVol.of_ring {d : Chip} (h : d.ring = c.ring) : Chip.SameVol key a d := by
  unfold Chip.SameVol at k ⊢
  rw [h, k]

theorem Chip.SameVol.ite {d : Chip} {p : Prop} {_ : Decidable p} (h : Chip.SameVol key a d) : Chip.SameVol key a (if p then c else d) := by
  split
  · exact k
  · exact h

theorem Chip.SameVol.foldl {α : Type} {xs : List α} {f : Chip → α → Chip} (hf : ∀ d x, Chip.SameVol key a d → Chip.SameVol key a (f d x)) :
    Chip.SameVol key a (xs.foldl f c) := by
  induction xs generalizing c with
  | nil => exact k
  | cons x r ih => exact ih (hf c x k)

theorem Chip.SameVol.onRing {f : Ring → Ring} (hf : (f c.ring).vals = c.ring.vals) : Chip.SameVol key a (c.onRing f) := by
  unfold Chip.SameVol at k ⊢
  show (f c.ring).vals.find key = _
  rw [hf, k]

theorem Chip.SameVol.setVol {i j v : Nat} (h : key ≠ dictKey i j := by decide) : Chip.SameVol key a (c.setVol i j v) :=
  (SMap.find_put_of_ne _ _ h).trans k

theorem Chip.SameVol.bump {i j n : Nat} (h : key ≠ dictKey i j := by decide) : Chip.SameVol key a (c.bump i j n) := k.setVol h

theorem Chip.SameVol.emit {o : Output} : Chip.SameVol key a (c.emit o) := k
theorem Chip.SameVol.onHead {h f} : Chip.SameVol key a (c.onHead h f) := k
theorem Chip.SameVol.headEvent {h i} : Chip.SameVol key a (c.headEvent h i) := k.onHead
theorem Chip.SameVol.onTwin {f} : Chip.SameVol key a (c.onTwin f) := k
theorem Chip.SameVol.onLedger {f} : Chip.SameVol key a (c.onLedger f) := k
theorem Chip.SameVol.onObj {f} : Chip.SameVol key a (c.onObj f) := k
theorem Chip.SameVol.onCache {f} : Chip.SameVol key a (c.onCache f) := k
theorem Chip.SameVol.onMed {f} : Chip.SameVol key a (c.onMed f) := k
theorem Chip.SameVol.onInteg {f} : Chip.SameVol key a (c.onInteg f) := k
theorem Chip.SameVol.onDolly {f} : Chip.SameVol key a (c.onDolly f) := k
theorem Chip.SameVol.onBoot {f} : Chip.SameVol key a (c.onBoot f) := k

theorem Chip.SameVol.sendNote {code i j d} (h : key ≠ dictKey 0x1120 2 := by decide) : Chip.SameVol key a (c.sendNote code i j d) :=
  Chip.SameVol.emit ((k.onRing rfl).bump h)

theorem Chip.SameVol.notify {code i j d} (h2 : key ≠ dictKey 0x1120 2 := by decide) (h3 : key ≠ dictKey 0x1120 3 := by decide) :
    Chip.SameVol key a (c.notify code i j d) := by
  unfold Chip.notify
  exact k.ite (.ite (.ite ((k.sendNote h2).onRing rfl) (k.bump h3)) (.ite (k.onRing rfl) ((k.sendNote h2).onRing rfl)))

theorem Chip.SameVol.pageWrite {cls addr b} : Chip.SameVol key a (c.pageWrite cls addr b) := by
  unfold Chip.pageWrite
  exact k.ite k.onLedger

theorem Chip.SameVol.ledgerEvent {b} : Chip.SameVol key a (c.ledgerEvent b) := k.onLedger.pageWrite

theorem Chip.SameVol.headRecord {log b h} : Chip.SameVol key a (c.headRecord log b h) := by
  unfold Chip.headRecord
  exact k.onHead.emit.ite k.onHead

theorem Chip.SameVol.recordAt {hs log b} (h2 : key ≠ dictKey 0x1120 2 := by decide) (h3 : key ≠ dictKey 0x1120 3 := by decide) :
    Chip.SameVol key a (c.recordAt hs log b) := by
  have h1 : Chip.SameVol key a ((hs.foldl (fun c h => c.headRecord log b h) c).ledgerEvent b) := (k.foldl fun _ _ h => h.headRecord).ledgerEvent
  unfold Chip.recordAt
  dsimp only
  split
  · exact h1
  · exact h1.notify h2 h3

theorem Chip.SameVol.requestRecord {r log b} (h2 : key ≠ dictKey 0x1120 2 := by decide) (h3 : key ≠ dictKey 0x1120 3 := by decide) :
    Chip.SameVol key a (c.requestRecord r log b) := by
  unfold Chip.requestRecord
  split <;> exact k.recordAt h2 h3

theorem Chip.SameVol.sendTwin {b line tag head p q r} : Chip.SameVol key a (c.sendTwin b line tag head p q r) := by
  unfold Chip.sendTwin
  exact k.emit.ite k

theorem Chip.SameVol.ackWrite {r} : Chip.SameVol key a (c.ackWrite r) := by
  unfold Chip.ackWrite
  split
  · exact k.emit.ite k
  · exact k.onTwin.sendTwin
  · exact k
  · exact k

theorem Chip.SameVol.completeRead {r data p txn type} (h2 : key ≠ dictKey 0x1120 2 := by decide) (h3 : key ≠ dictKey 0x1120 3 := by decide) :
    Chip.SameVol key a (c.completeRead r data p txn type) := by
  unfold Chip.completeRead
  split
  · exact ((k.emit.headEvent.recordAt h2 h3).ite k.emit).ite k
  · exact k.onTwin.sendTwin
  · exact k
  · exact k

theorem Chip.SameVol.denyRequest {r txn type bit} (h2 : key ≠ dictKey 0x1120 2 := by decide) (h3 : key ≠ dictKey 0x1120 3 := by decide) :
    Chip.SameVol key a (c.denyRequest r txn type bit) := by
  unfold Chip.denyRequest
  extract_lets c1
  have h1 : Chip.SameVol key a c1 := by
    unfold c1
    split <;> exact k
  exact (h1.requestRecord h2 h3).ackWrite.ite (h1.completeRead h2 h3)

theorem Chip.SameVol.shadowNote {x len src remove} : Chip.SameVol key a (c.shadowNote x len src remove) := by
  unfold Chip.shadowNote
  split
  · exact k.sendTwin.ite k
  · exact k

theorem Chip.SameVol.listPoison {x src} : Chip.SameVol key a (c.listPoison x src) := by
  unfold Chip.listPoison
  split
  · exact k
  · split
    · exact k.onInteg
    · exact k.onInteg.ite (k.ite k.onInteg)

theorem Chip.SameVol.loseLine {x src} : Chip.SameVol key a (c.loseLine x src) :=
  (k.foldl fun _ _ h => h.onCache).listPoison.shadowNote

/-- The end of a command counts the frames it has sent. -/
theorem Chip.SameVol.ended {was : Chip} (h3 : key ≠ dictKey 0x1101 3 := by decide) (h4 : key ≠ dictKey 0x1101 4 := by decide) :
    Chip.SameVol key a (Chip.ended was c) := by
  unfold Chip.ended Chip.countSent
  have hlatch (d : Chip) : d.latch.ring = d.ring := d.latch_ring'
  exact (k.ite ((k.onRing rfl).bump h3 |>.bump h4)).of_ring (hlatch _)

end

end Sys2Proof.Machine
end

section
/-! A head's link goes down: what that changes, and the links of the heads. -/

namespace Sys2Proof.Machine

-- One theorem at a time: elaborated at once, their nested proofs wait for one another, a thread and its stack for each.
set_option Elab.async false

/-- What the loss of a head's link can change. -/
abbrev downGrps : List Grp := [.heads, .cache, .hbm, .dolly, .twin, .wit, .sec, .ring, .deferred, .outs]

theorem Chip.keepsBut.setDeferred {a c : Chip} {l : List Grp} (k : a.keepsBut l c) {x : List (HeadNo × Instr)} (hl : Grp.deferred ∈ l) :
    a.keepsBut l { c with deferred := x } := by
  intro g hg
  have h := k g hg
  cases g
  case deferred => exact absurd hl hg
  all_goals exact h

theorem Chip.keepsBut.mapReqs {a c : Chip} {l : List Grp} (k : a.keepsBut l c) {f : Req → Req}
    (hl : ∀ g ∈ [Grp.cache, .twin, .hbm, .dolly, .wit], g ∈ l) : a.keepsBut l (c.mapReqs f) := by
  unfold Chip.mapReqs
  exact ((((k.onCache _ (hl _ (by decide))).onTwin _ (hl _ (by decide))).onHbm _ (hl _ (by decide))).onDolly _ (hl _ (by decide))).onWit _ (hl _ (by decide))

/-- What the requests inside the chip and the state of the head's requesters can change in. -/
abbrev dropGrps : List Grp := [.cache, .hbm, .dolly, .twin, .wit, .sec, .ring, .deferred]

/-- A head whose link goes down: its configuration space, decoders, IDE stream and mailbox state return to reset (03 R101). -/
def Head.down (x : LinkState) (d : Head) : Head :=
  { d with link := x, hdm := Vector.replicate 4 {}, ideOn := false, ideSkid := false, ideRx := {}, ideTx := {}, irqPolicy := 0, respLimit := 0,
           sessions := [], spdm := .none, heldLow := [], bars := Vector.replicate 3 0, poisonAt := (0, 0, 0) }

/-- The head goes down after its requests and its requesters are dropped; where its link was up, that is an event and is sent. -/
theorem Chip.headDown_eq (c : Chip) (h : HeadNo) (x : LinkState) :
    ∃ d, c.keepsBut dropGrps d ∧ d.wit.poisonNotes.map Prod.fst = c.wit.poisonNotes.map Prod.fst ∧ d.cache.lines = c.cache.lines ∧
      c.headDown h x = if (d.head h).link = .up then ((d.onHead h (Head.down x)).headEvent h 0).emit (.headLink h false) else d.onHead h (Head.down x) := by
  unfold Chip.headDown
  extract_lets c1 c2 c3 c4 c5 was c6
  have h2 : c.keepsBut dropGrps c2 := ((Chip.keepsBut_refl c _).onCache _ (by decide)).mapReqs (by decide)
  have h3 : c.keepsBut dropGrps c3 := h2.setDeferred (by decide)
  have h5 : c.keepsBut dropGrps c5 := (h3.onRing _ (by decide)).onSec _ (by decide)
  have hnotes : c5.wit.poisonNotes.map Prod.fst = c.wit.poisonNotes.map Prod.fst := by
    show (c.wit.poisonNotes.map _).map Prod.fst = _
    rw [List.map_map]
    rfl
  exact ⟨c5, h5, hnotes, rfl, rfl⟩

theorem Chip.keepsBut_headDown (c : Chip) (h : HeadNo) (x : LinkState) : c.keepsBut downGrps (c.headDown h x) := by
  obtain ⟨d, hk, -, -, he⟩ := c.headDown_eq h x
  have h1 : c.keepsBut downGrps (d.onHead h (Head.down x)) := (Chip.keepsBut_mono hk (by decide)).onHead _ _ (by decide)
  rw [he]
  split
  · exact (h1.headEvent _ _ (by decide)).emit _ (by decide)
  · exact h1

theorem Chip.outs_headDown (c : Chip) (h : HeadNo) (x : LinkState) : c.outs <+: (c.headDown h x).outs := by
  obtain ⟨d, hk, -, -, he⟩ := c.headDown_eq h x
  rw [he, ← hk.outs_eq]
  split
  · exact List.prefix_append _ _
  · exact List.prefix_rfl

/-- The notes that wait for their acknowledgement keep their numbers. -/
theorem Chip.notes_headDown (c : Chip) (h : HeadNo) (x : LinkState) :
    (c.headDown h x).wit.poisonNotes.map Prod.fst = c.wit.poisonNotes.map Prod.fst := by
  obtain ⟨d, hk, hn, -, he⟩ := c.headDown_eq h x
  rw [he, ← hn]
  split <;> rfl

theorem Chip.lines_headDown (c : Chip) (h : HeadNo) (x : LinkState) : (c.headDown h x).cache.lines = c.cache.lines := by
  obtain ⟨d, hk, -, hl, he⟩ := c.headDown_eq h x
  rw [he, ← hl]
  split <;> rfl

/-- The head is as `Head.down` says, with LINK_DOWN_SEEN where its link was up; the others are as they were. -/
theorem Chip.head_headDown (c : Chip) (h k : HeadNo) (x : LinkState) :
    (c.headDown h x).head k = if k = h then
        { (c.head h).down x with evt := if (c.head h).link = .up then (c.head h).evt ||| 1 else (c.head h).evt } else c.head k := by
  obtain ⟨d, hk, -, -, he⟩ := c.headDown_eq h x
  have hhead (j : HeadNo) : d.head j = c.head j := hk.head_eq j
  have hemit (b : Chip) (o : Output) : (b.emit o).head k = b.head k := rfl
  rw [he, hhead]
  by_cases heq : k = h
  · subst heq
    rw [if_pos rfl]
    split
    · rw [hemit]
      unfold Chip.headEvent
      rw [Chip.head_onHead_same, Chip.head_onHead_same, hhead]
      rfl
    · rw [Chip.head_onHead_same, hhead]
      rfl
  · split
    · rw [hemit]
      unfold Chip.headEvent
      rw [Chip.head_onHead_ne _ _ _ heq, Chip.head_onHead_ne _ _ _ heq, hhead]
    · rw [Chip.head_onHead_ne _ _ _ heq, hhead]

/-- The link of the head is as set, the others' links are as they were. -/
theorem Chip.link_headDown (c : Chip) (h k : HeadNo) (x : LinkState) : ((c.headDown h x).head k).link = if k = h then x else (c.head k).link := by
  rw [Chip.head_headDown]
  split
  · rfl
  · rfl

end Sys2Proof.Machine
end

section
/-! Held requests that expire, the notes of poison across a split, and the mirror audit. -/

namespace Sys2Proof.Machine

-- One theorem at a time: elaborated at once, their nested proofs wait for one another, a thread and its stack for each.
set_option Elab.async false

/-- A command whose effect on the chip is `d`, and what holds of the chip that it leaves. -/
theorem Completes.of_effect {i : Instr} {s : State} (d : Chip) {p : Chip → Prop} (hi : exec i s = .next { s with chip := Chip.ended s.chip d })
    (hp : p (Chip.ended s.chip d)) : Completes i s p := ⟨_, hi, rfl, hp⟩

/-! ### Held requests -/

/-- A held request of a head that is up ends: it is completed there, and counted. -/
theorem Chip.expireHeld_ends {a c : Chip} (hc : a.Flows [.twin] c) (hring : c.ring = a.ring) {r : Req} {h : HeadNo} (hr : r.src = .head h)
    (hu : (a.head h).link = .up) :
    (r.write = false → ∃ l, Output.readDone h r.tag 0 true l ∈ a.sent (c.expireHeld r)) ∧
      (r.write = true → ∃ l, Output.writeDone h r.tag l ∈ a.sent (c.expireHeld r)) ∧
      (c.expireHeld r).vol 0x5050 2 = a.vol 0x5050 2 + 1 ∧ a.Flows readGrps (c.expireHeld r) := by
  have hb : a.Flows readGrps (c.bump 0x5050 2) := hc.mono.bump
  have h1 : a.Flows readGrps (if r.write = true then (c.bump 0x5050 2).loseLine r.line 7 else c.bump 0x5050 2) := hb.loseLine.ite hb
  have hsends := Chip.denyRequest_sends h1.sent hr ((h1.links h).trans hu) 0x82 2 6
  refine ⟨hsends.1, hsends.2, ?_, h1.denyRequest⟩
  have hsame : Chip.SameVol (dictKey 0x5050 2) (c.bump 0x5050 2) (c.expireHeld r) :=
    Chip.SameVol.denyRequest ((Chip.SameVol.refl _ _).loseLine.ite (.refl _ _))
  have hvol : c.vol 0x5050 2 = a.vol 0x5050 2 := by
    unfold Chip.vol
    rw [hring]
  rw [hsame.vol, Chip.vol_bump_same, hvol]

/-! ### Poison across a split -/

theorem Chip.unnote_gone {c : Chip} {seq : Nat} : ∀ p ∈ (c.unnote seq).wit.poisonNotes, p.1 ≠ seq := by
  intro p hp
  simpa using (List.mem_filter.1 hp).2

theorem Chip.mem_noted {c : Chip} {p : Nat × Req} (hp : p ∈ c.wit.poisonNotes) : p.2 ∈ c.noted p.1 :=
  List.mem_map.2 ⟨p, List.mem_filter.2 ⟨hp, by simp⟩, rfl⟩

/-- Without its acknowledgement the head of a noted write goes down, if it is up. -/
def Chip.unacked (c : Chip) (r : Req) : Chip :=
  match r.src with
  | .head h => if (c.head h).link = .up then c.headDown h .training else c
  | _ => c

theorem Chip.unacked_keeps {a : Chip} (c : Chip) (k : a.keepsBut downGrps c) (r : Req) : a.keepsBut downGrps (c.unacked r) := by
  unfold Chip.unacked
  split
  · split
    · exact Chip.keepsBut_trans k (c.keepsBut_headDown _ _)
    · exact k
  · exact k

theorem Chip.unacked_link (c : Chip) (r : Req) (k : HeadNo) :
    ((c.unacked r).head k).link = if r.src = .head k ∧ (c.head k).link = .up then .training else (c.head k).link := by
  unfold Chip.unacked
  split
  · next h hr =>
    split
    · next hu =>
      rw [Chip.link_headDown, hr]
      by_cases hk : k = h
      · subst hk; simp [hu]
      · simp [hk, Ne.symm hk]
    · next hu =>
      refine (if_neg ?_).symm
      rintro ⟨hs, hup⟩
      rw [hr] at hs
      cases hs
      exact hu hup
  · next hr => exact (if_neg fun hs => hr k hs.1).symm

/-- A link that trains stays so, and one that is up trains once one of its writes has been met. -/
theorem Chip.unacked_fold_link {k : HeadNo} {rs : List Req} {c : Chip}
    (h : (c.head k).link = .training ∨ ((c.head k).link = .up ∧ ∃ r ∈ rs, r.src = .head k)) :
    ((rs.foldl Chip.unacked c).head k).link = .training := by
  induction rs generalizing c with
  | nil => exact h.elim (fun h => h) fun h => by simpa using h.2
  | cons y ys ih =>
    refine ih ?_
    rw [Chip.unacked_link]
    rcases h with ht | ⟨hu, r, hr, hs⟩
    · exact .inl (by simp [ht])
    · by_cases hy : y.src = .head k
      · exact .inl (if_pos ⟨hy, hu⟩)
      · refine .inr ⟨by simp [hy, hu], r, ?_, hs⟩
        rcases List.mem_cons.1 hr with rfl | hr
        · exact absurd hs hy
        · exact hr

/-- The notes keep their numbers while heads go down. -/
theorem Chip.unacked_notes (c : Chip) (r : Req) : (c.unacked r).wit.poisonNotes.map Prod.fst = c.wit.poisonNotes.map Prod.fst := by
  unfold Chip.unacked
  split
  · split
    · exact c.notes_headDown _ _
    · rfl
  · rfl

theorem Chip.unacked_fold {seq : Nat} {a c : Chip} (k : a.keepsBut downGrps c) (hn : ∀ p ∈ c.wit.poisonNotes, p.1 ≠ seq) (rs : List Req) :
    a.keepsBut downGrps (rs.foldl Chip.unacked c) ∧ ∀ p ∈ (rs.foldl Chip.unacked c).wit.poisonNotes, p.1 ≠ seq := by
  induction rs generalizing c with
  | nil => exact ⟨k, hn⟩
  | cons r rs ih =>
    refine ih (Chip.unacked_keeps c k r) fun p hp => ?_
    obtain ⟨q, hq, he⟩ := List.mem_map.1 (c.unacked_notes r ▸ List.mem_map_of_mem hp : p.1 ∈ c.wit.poisonNotes.map Prod.fst)
    exact he ▸ hn q hq

/-! ### The mirror audit -/

theorem Chip.Flows.onChan {l : List Grp} {a c : Chip} (k : a.Flows l c) {n f} (hl : Grp.med ∈ l := by decide) : a.Flows l (c.onChan n f) := by
  unfold Chip.onChan
  split
  · exact k.onMed hl
  · exact k

theorem Chip.Flows.gmi {l : List Grp} {a c : Chip} (k : a.Flows l c) {n op} (hl : ∀ g ∈ [Grp.med, .outs], g ∈ l := by decide) : a.Flows l (c.gmi n op) := by
  refine k.andThen hl ?_
  unfold Chip.gmi
  split
  · exact (Chip.Flows.refl c).emit.onChan.ite (.refl c)
  · exact .refl c

theorem Chip.Flows.takeTag {l : List Grp} {a c : Chip} (k : a.Flows l c) (hl : Grp.twin ∈ l := by decide) : a.Flows l c.takeTag.2 := by
  dsimp only [Chip.takeTag]
  exact k.onTwin hl

theorem Chip.Flows.auditReads {l : List Grp} {a c : Chip} (k : a.Flows l c) {g} (hl : ∀ g ∈ [Grp.med, .outs], g ∈ l := by decide) :
    a.Flows l (c.auditReads g) :=
  k.foldl fun _ _ h => h.gmi hl

theorem Chip.Flows.enqueue {l : List Grp} {a c : Chip} (k : a.Flows l c) {cmd obj kind group gs} (hl : Grp.dolly ∈ l := by decide) :
    a.Flows l (c.enqueue cmd obj kind group gs) := k.onDolly hl

/-- The granule that the audit has come to, with the progress it shows. -/
def Chip.auditAt (c : Chip) (g : Nat) : Chip :=
  (c.onTwin fun t => { t with auditPos := g + 1 }).setVol 0x5041 4 (100 * c.auditGrans.countP (fun x => decide (x ≤ g)) / c.auditGrans.length)

/-- The request for the partner's digest of a granule. -/
def Chip.askSum (c : Chip) (g : Nat) : Chip :=
  ((c.takeTag.2.onTwin fun t => { t with audit := some { gran := g, tag := c.twin.nextTag } }).auditReads g).sendTwin (.auditReq g) 0 c.twin.nextTag

/-- The chip that waits for the digest, before its request goes out. -/
def Chip.readSum (c : Chip) (g : Nat) : Chip := (c.takeTag.2.onTwin fun t => { t with audit := some { gran := g, tag := c.twin.nextTag } }).auditReads g

theorem Chip.readSum_flows (c : Chip) (g : Nat) : c.Flows [.med, .twin, .outs] (c.readSum g) := by
  have h1 : c.Flows [.med, .twin, .outs] c.takeTag.2 := (Chip.Flows.refl c).takeTag
  exact h1.onTwin.auditReads

theorem Chip.readSum_twin (c : Chip) (g : Nat) :
    (c.readSum g).twin = { c.twin with audit := some { gran := g, tag := c.twin.nextTag }, nextTag := (c.twin.nextTag + 1) % 65536 } := by
  have h (d : Chip) : d.Flows [.med, .outs] (d.auditReads g) := (Chip.Flows.refl d).auditReads
  unfold Chip.readSum
  rw [(h _).keeps.twin_eq]
  rfl

theorem Chip.askSum_flows (c : Chip) (g : Nat) : c.Flows [.med, .twin, .ring, .outs] (c.askSum g) := (c.readSum_flows g).mono.sendTwin

theorem Chip.askSum_twin (c : Chip) (g : Nat) : (c.askSum g).twin = (c.readSum g).twin :=
  ((Chip.Flows.refl (l := [.outs]) (c.readSum g)).sendTwin).keeps.twin_eq

theorem Chip.askSum_told {a c : Chip} (hs : a.outs <+: c.outs) (hl : c.linkReady = true) (g : Nat) :
    a.told (c.askSum g) (.auditReq g) 0 c.twin.nextTag := by
  have hr : (c.readSum g).linkReady = true := by
    unfold Chip.linkReady at hl ⊢
    rw [Chip.readSum_twin]
    exact hl
  exact Chip.told_sendTwin (hs.trans (c.readSum_flows g).sent) hr (.auditReq g) 0 c.twin.nextTag 0 false false false

/-- The audit of a granule: one with dirty lines, or stale, is passed over. -/
def Chip.audited (c : Chip) (g : Nat) : Chip :=
  if (c.granDirty g || c.med.stale.contains g) = true then c.auditAt g else (c.auditAt g).askSum g

/-- The chip that has counted a digest and whose audit has ended. -/
def Chip.unaudited (c : Chip) : Chip := (c.bump 0x5001 3).onTwin fun t => { t with audit := none }

theorem Chip.unaudited_flows (c : Chip) : c.Flows [.twin, .ring] c.unaudited := by
  unfold Chip.unaudited
  exact (Chip.Flows.refl c).bump.onTwin

theorem Chip.unaudited_twin (c : Chip) : c.unaudited.twin = { c.twin with audit := none } := rfl

theorem mem_insertNat_self (l : List Nat) (x : Nat) : x ∈ insertNat l x := by
  induction l with
  | nil => exact List.mem_singleton_self x
  | cons y r ih =>
    unfold insertNat
    split
    · exact List.mem_cons_self
    · split
      · next h => exact h ▸ List.mem_cons_self
      · exact List.mem_cons_of_mem _ ih

/-- A granule whose digests differ: stale, counted and recorded, and built again where it lies in an object. -/
def Chip.differs (c : Chip) (g : Nat) : Chip :=
  let d := ((c.markStale g).vendorRecord .warning 0x0207 0x5041 3).bump 0x5041 3
  match d.objAtGran g with
  | some (id, _) => d.enqueue none id .mirrorBuild 0xFF [g]
  | none => d

/-- What a digest of the partner does. -/
def Chip.summed (c : Chip) (hdr : TwinHdr) (digest : BitVec 256) : Chip :=
  match c.twin.audit with
  | none => c.bump 0x5001 3
  | some a =>
    if a.tag ≠ hdr.tag then c.bump 0x5001 3
    else if (c.granDirty a.gran || decide (digest = c.granDigest a.gran)) = true then c.unaudited else c.unaudited.differs a.gran

theorem Chip.differs_keeps (c : Chip) (g : Nat) :
    c.Flows [.heads, .med, .dolly, .ledger, .ring, .outs] (c.differs g) ∧ (c.differs g).vol 0x5041 3 = c.vol 0x5041 3 + 1 := by
  have h1 : c.Flows [.heads, .med, .dolly, .ledger, .ring, .outs] ((c.markStale g).vendorRecord .warning 0x0207 0x5041 3) := (Chip.Flows.refl c).markStale.vendorRecord
  have hv : Chip.SameVol (dictKey 0x5041 3) c ((c.markStale g).vendorRecord .warning 0x0207 0x5041 3) := Chip.SameVol.recordAt (Chip.SameVol.refl _ c).onMed
  unfold Chip.differs
  extract_lets d
  have hd : d.vol 0x5041 3 = c.vol 0x5041 3 + 1 := (Chip.vol_bump_same ..).trans (by rw [hv.vol])
  split
  · exact ⟨h1.bump.enqueue, hd⟩
  · exact ⟨h1.bump, hd⟩

theorem Chip.differs_stale (c : Chip) (g : Nat) : g ∈ (c.differs g).med.stale := by
  have h1 : (c.markStale g).Flows (.dolly :: recordGrps) (((c.markStale g).vendorRecord .warning 0x0207 0x5041 3).bump 0x5041 3) :=
    (Chip.Flows.refl _).vendorRecord.bump
  have h2 : (c.markStale g).Flows (.dolly :: recordGrps) (c.differs g) := by
    unfold Chip.differs
    extract_lets d
    split
    · exact h1.enqueue
    · exact h1
  rw [h2.keeps.med_eq]
  exact mem_insertNat_self _ g

end Sys2Proof.Machine

open Sys2Proof Sys2Proof.Machine

section
variable {s : State}

/-- A request of the hold queue, or of the mirrored writes that wait, that has waited 1 ms. -/
theorem holdExpired_ends {mirror : Bool} {n : Nat} {r : Req} {h : HeadNo} (hl : mirror = true → s.chip.linkReady = false)
    (hr : (if mirror then (s.chip.twin.mirror[n]?).map (fun m => m.req) else s.chip.twin.holdQ[n]?) = some r) (hs : r.src = .head h)
    (hu : (s.chip.head h).link = .up) : Completes (.holdExpired mirror n) s fun c =>
      (r.write = false → (∃ l, Output.readDone h r.tag 0 true l ∈ s.chip.sent c)) ∧ (r.write = true → (∃ l, Output.writeDone h r.tag l ∈ s.chip.sent c)) ∧
        c.vol 0x5050 2 = s.chip.vol 0x5050 2 + 1 ∧ s.chip.keepsBut [.heads, .cache, .integ, .twin, .ledger, .ring, .outs] c := by
  have h1 (f : Twin → Twin) := Chip.expireHeld_ends (c := s.chip.onTwin f) (.onTwin (.refl s.chip)) rfl hs hu
  cases mirror with
  | true =>
    obtain ⟨m, hm, rfl⟩ := Option.map_eq_some_iff.1 hr
    obtain ⟨hrd, hwr, hv, hf⟩ := h1 fun t => { t with mirror := t.mirror.eraseIdx n }
    refine .of_effect ((s.chip.onTwin fun t => { t with mirror := t.mirror.eraseIdx n }).expireHeld m.req) ?_ ⟨?_, ?_, ?_, Chip.keepsBut_ended hf.keeps⟩
    · show execHoldExpired _ n s = _
      unfold execHoldExpired
      simp only [State.onChip_next, hl rfl, hm, Bool.and_false, Bool.false_eq_true, if_false, if_true]
    · rwa [Chip.sent_ended]
    · rwa [Chip.sent_ended]
    · rw [Chip.SameVol.vol (Chip.SameVol.refl _ _).ended, hv]
  | false =>
    have hm : s.chip.twin.holdQ[n]? = some r := hr
    obtain ⟨hrd, hwr, hv, hf⟩ := h1 fun t => { t with holdQ := t.holdQ.eraseIdx n }
    refine .of_effect ((s.chip.onTwin fun t => { t with holdQ := t.holdQ.eraseIdx n }).expireHeld r).refillHold ?_
      ⟨?_, ?_, ?_, Chip.keepsBut_ended hf.onTwin.keeps⟩
    · show execHoldExpired _ n s = _
      unfold execHoldExpired
      simp only [State.onChip_next, hm, Bool.false_and, Bool.false_eq_true, if_false]
    · rwa [Chip.sent_ended]
    · rwa [Chip.sent_ended]
    · rw [Chip.SameVol.vol (Chip.SameVol.refl _ _).ended]
      exact hv

/-- A note of poison is acknowledged. -/
theorem poisonNote_acked (seq : Nat) (lines : List Nat) : Completes (.poisonNote seq lines) s fun c => Output.poisonRing false seq [] ∈ s.chip.sent c := by
  refine .of_effect _ rfl ?_
  rw [Chip.sent_ended]
  have h1 : s.chip.Flows settleGrps (((lines.take 5).filter (fun l => s.chip.homeHere (lineSeg l))).foldl (fun c l => c.markLine l 7) s.chip) :=
    (Chip.Flows.refl _).foldl fun _ _ h => h.markLine
  exact Chip.sent_emit h1.sent _

/-- The writes of an acknowledged note are acknowledged at their heads. -/
theorem poisonAck_ends (seq : Nat) : Completes (.poisonAck seq) s fun c =>
    (∀ p ∈ c.wit.poisonNotes, p.1 ≠ seq) ∧
      (∀ p ∈ s.chip.wit.poisonNotes, p.1 = seq → p.2.write = true → ∀ h, p.2.src = .head h → (s.chip.head h).link = .up →
        (∃ l, Output.writeDone h p.2.tag l ∈ s.chip.sent c)) ∧ s.chip.keepsBut [.heads, .twin, .wit, .ledger, .ring, .outs] c := by
  have h0 : s.chip.Flows [.heads, .twin, .wit, .ledger, .ring, .outs] (s.chip.unnote seq) := (Chip.Flows.refl _).onWit
  have h1 : (s.chip.unnote seq).Flows answerGrps ((s.chip.noted seq).foldl (fun c r => c.denyRequest r 0x82 2 6) (s.chip.unnote seq)) :=
    (Chip.Flows.refl _).foldl fun _ _ h => h.denyRequest
  refine .of_effect _ rfl ⟨fun p hp => ?_, fun p hp hseq hw h hs hu => ?_, Chip.keepsBut_ended (h0.trans h1.mono).keeps⟩
  · rw [Chip.ended_wit, h1.keeps.wit_eq] at hp
    exact Chip.unnote_gone p hp
  · rw [Chip.sent_ended]
    subst hseq
    obtain ⟨o, ⟨l, rfl⟩, ho⟩ := Chip.foldl_sends (q := fun o => ∃ l, o = .writeDone h p.2.tag l) (f := fun c r => c.denyRequest r 0x82 2 6)
      (l := [.heads, .twin, .wit, .ledger, .ring, .outs]) (fun d y => (Chip.Flows.refl d).denyRequest)
      (fun d hd => by
        obtain ⟨l, hx⟩ := (Chip.denyRequest_sends hd.sent hs ((hd.links h).trans hu) 0x82 2 6).2 hw
        exact ⟨_, ⟨l, rfl⟩, hx⟩) (Chip.mem_noted hp) h0
    exact ⟨l, ho⟩

/-- The heads of the writes of a note that is not acknowledged go down. -/
theorem poisonAckTimeout_ends (seq : Nat) : Completes (.poisonAckTimeout seq) s fun c =>
    (∀ p ∈ c.wit.poisonNotes, p.1 ≠ seq) ∧
      (∀ p ∈ s.chip.wit.poisonNotes, p.1 = seq → ∀ h, p.2.src = .head h → (s.chip.head h).link = .up → (c.head h).link = .training) ∧
      s.chip.keepsBut [.heads, .cache, .hbm, .dolly, .twin, .wit, .sec, .ring, .deferred, .outs] c := by
  obtain ⟨hk, hn⟩ := Chip.unacked_fold (a := s.chip) ((Chip.keepsBut_refl s.chip downGrps).onWit _ (by decide)) s.chip.unnote_gone (s.chip.noted seq)
  refine .of_effect ((s.chip.noted seq).foldl Chip.unacked (s.chip.unnote seq)) rfl ⟨?_, fun p hp hseq h hs hu => ?_, Chip.keepsBut_ended hk⟩
  · rw [Chip.ended_wit]
    exact hn
  · subst hseq
    rw [Chip.ended_head]
    exact Chip.unacked_fold_link (.inr ⟨hu, p.2, Chip.mem_noted hp, hs⟩)

/-- The next granule of the audit. -/
theorem mirrorAuditStart_asks {g : Nat} (hp : s.chip.par 0x5041 1 1 ≠ 0) (hpair : s.chip.paired = true) (hl : s.chip.linkReady = true)
    (hs : s.chip.twin.suspended = false) (hg : s.chip.auditGrans.find? (fun g => decide (s.chip.twin.auditPos ≤ g)) = some g) :
    Completes .mirrorAuditStart s fun c =>
      c.twin.auditPos = g + 1 ∧
        (s.chip.granDirty g = false → g ∉ s.chip.med.stale → c.twin.audit = some { gran := g, tag := s.chip.twin.nextTag } ∧
          s.chip.told c (.auditReq g) 0 s.chip.twin.nextTag) ∧
        (s.chip.granDirty g = true ∨ g ∈ s.chip.med.stale → c.twin.audit = s.chip.twin.audit ∧ c.outs = s.chip.outs) ∧
        s.chip.keepsBut [.med, .twin, .ring, .outs] c := by
  have hrow (d : Chip) (h : s.chip.audited g = d) : exec .mirrorAuditStart s = .next { s with chip := Chip.ended s.chip d } := by
    subst h
    show execMirrorAuditStart s = _
    unfold execMirrorAuditStart
    simp only [State.onChip_next, hp, hpair, hl, hs, hg, decide_false, Bool.not_true, Bool.or_false, Bool.false_eq_true, if_false]
    rfl
  have hat : s.chip.Flows [.med, .twin, .ring, .outs] (s.chip.auditAt g) := (Chip.Flows.refl _).onTwin.setVol
  have htwin : (s.chip.auditAt g).twin = { s.chip.twin with auditPos := g + 1 } := rfl
  refine .of_effect _ (hrow _ rfl) ?_
  unfold Chip.audited
  split
  · next hskip =>
    have hskip : s.chip.granDirty g = true ∨ g ∈ s.chip.med.stale := by simpa using hskip
    rw [Chip.ended_twin, Chip.ended_outs, htwin]
    refine ⟨rfl, fun hd hn => ?_, fun _ => ⟨rfl, rfl⟩, Chip.keepsBut_ended hat.keeps⟩
    rcases hskip with h | h
    · rw [hd] at h; cases h
    · exact absurd h hn
  · next hask =>
    have hask : ¬ (s.chip.granDirty g = true ∨ g ∈ s.chip.med.stale) := by simpa using hask
    have htold : s.chip.told ((s.chip.auditAt g).askSum g) (.auditReq g) 0 s.chip.twin.nextTag := Chip.askSum_told hat.sent hl g
    rw [Chip.ended_twin, Chip.ended_outs, Chip.askSum_twin, Chip.readSum_twin, htwin]
    refine ⟨rfl, fun _ _ => ⟨rfl, ?_⟩, fun h => absurd h hask, Chip.keepsBut_ended (hat.trans (Chip.askSum_flows _ _)).keeps⟩
    exact Chip.told_mono htold (by rw [Chip.ended_outs])

/-- No audit starts. -/
theorem mirrorAuditStart_idle (h : s.chip.par 0x5041 1 1 = 0 ∨ s.chip.paired = false ∨ s.chip.linkReady = false ∨ s.chip.twin.suspended = true ∨ s.chip.auditGrans = []) :
    Completes .mirrorAuditStart s s.chip.untouched := by
  refine .of_effect s.chip ?_ (Chip.keepsBut_ended (Chip.keepsBut_refl _ _))
  show execMirrorAuditStart s = _
  unfold execMirrorAuditStart
  simp only [State.onChip_next]
  split
  · rfl
  · next hgo =>
    have hnil : s.chip.auditGrans = [] := by
      simp only [Bool.or_eq_true, decide_eq_true_eq, Bool.not_eq_true', not_or, Bool.not_eq_false, Bool.not_eq_true] at hgo
      obtain ⟨⟨⟨hpar, hpair⟩, hlink⟩, hsus⟩ := hgo
      simpa [hpar, hpair, hlink, hsus] using h
    simp [hnil]

/-- The digest of a granule that is asked for. -/
theorem auditReq_answered {hdr : TwinHdr} {gran : Nat} (hh : s.chip.hearsReq hdr) : Completes (.auditReq hdr gran) s fun c =>
    (s.chip.granDirty gran = false → s.chip.told c (.auditSum (s.chip.granDigest gran)) 0 hdr.tag) ∧
      (s.chip.granDirty gran = true → c.outs = s.chip.outs) ∧ s.chip.keepsBut [.med, .ring, .outs] c := by
  have hb : s.chip.Flows [.med, .ring, .outs] (s.chip.bump 0x5001 3) := (Chip.Flows.refl _).bump
  have hdirty : (s.chip.bump 0x5001 3).granDirty gran = s.chip.granDirty gran := rfl
  have hdig : (s.chip.bump 0x5001 3).granDigest gran = s.chip.granDigest gran := rfl
  have hrow : exec (.auditReq hdr gran) s = .next { s with chip := Chip.ended s.chip (if s.chip.granDirty gran = true then s.chip.bump 0x5001 3
      else ((s.chip.bump 0x5001 3).auditReads gran).sendTwin (.auditSum (s.chip.granDigest gran)) 0 hdr.tag) } := by
    show execAuditReq hdr gran s = _
    unfold execAuditReq
    rw [State.onChip_next, Chip.reqIn_of_hears hh, hdirty, hdig]
  refine .of_effect _ hrow ?_
  cases hd : s.chip.granDirty gran with
  | true =>
    rw [Chip.ended_outs]
    exact ⟨nofun, fun _ => rfl, Chip.keepsBut_ended hb.keeps⟩
  | false =>
    have hr : s.chip.Flows [.med, .ring, .outs] ((s.chip.bump 0x5001 3).auditReads gran) := hb.auditReads
    have hl : ((s.chip.bump 0x5001 3).auditReads gran).linkReady = true := by
      unfold Chip.linkReady
      rw [hr.keeps.twin_eq]
      exact hh.1
    rw [if_neg Bool.false_ne_true]
    refine ⟨fun _ => ?_, nofun, Chip.keepsBut_ended hr.sendTwin.keeps⟩
    exact Chip.told_mono (Chip.told_sendTwin hr.sent hl (.auditSum (s.chip.granDigest gran)) 0 hdr.tag 0 false false false) (by rw [Chip.ended_outs])

/-- The partner's digest of a granule. -/
theorem auditSum_ends {hdr : TwinHdr} {digest : BitVec 256} (hl : s.chip.linkReady = true) :
    (s.chip.twin.audit = none → Completes (.auditSum hdr digest) s fun c => s.chip.keepsBut [.ring] c) ∧
      ∀ a, s.chip.twin.audit = some a →
        (a.tag ≠ hdr.tag → Completes (.auditSum hdr digest) s fun c => s.chip.keepsBut [.ring] c) ∧
        (a.tag = hdr.tag → s.chip.granDirty a.gran = true ∨ digest = s.chip.granDigest a.gran → Completes (.auditSum hdr digest) s fun c =>
          c.twin = { s.chip.twin with audit := none } ∧ s.chip.keepsBut [.twin, .ring] c) ∧
        (a.tag = hdr.tag → s.chip.granDirty a.gran = false → digest ≠ s.chip.granDigest a.gran → Completes (.auditSum hdr digest) s fun c =>
          c.twin.audit = none ∧ a.gran ∈ c.med.stale ∧ c.vol 0x5041 3 = s.chip.vol 0x5041 3 + 1 ∧
          s.chip.keepsBut [.heads, .med, .dolly, .twin, .ledger, .ring, .outs] c) := by
  have hrow (d : Chip) (h : s.chip.summed hdr digest = d) : exec (.auditSum hdr digest) s = .next { s with chip := Chip.ended s.chip d } := by
    subst h
    show execAuditSum hdr digest s = _
    unfold execAuditSum
    rw [State.onChip_next, Chip.anyIn_of_ready hl]
    rfl
  have hcounted (h : s.chip.summed hdr digest = s.chip.bump 0x5001 3) : Completes (.auditSum hdr digest) s fun c => s.chip.keepsBut [.ring] c :=
    .of_effect _ (hrow _ h) (Chip.keepsBut_ended (Chip.Flows.refl s.chip).bump.keeps)
  refine ⟨fun ha => hcounted (by simp [Chip.summed, ha]), fun a ha => ⟨fun ht => hcounted (by simp [Chip.summed, ha, ht]), fun ht hsame => ?_, fun ht hd hne => ?_⟩⟩
  · refine .of_effect (s.chip.unaudited) (hrow _ ?_) ⟨by rw [Chip.ended_twin, Chip.unaudited_twin], Chip.keepsBut_ended s.chip.unaudited_flows.keeps⟩
    simp [Chip.summed, ha, ht, hsame]
  · refine .of_effect (s.chip.unaudited.differs a.gran) (hrow _ (by simp [Chip.summed, ha, ht, hd, hne])) ?_
    have h0 : s.chip.Flows [.heads, .med, .dolly, .twin, .ledger, .ring, .outs] s.chip.unaudited := (Chip.Flows.refl s.chip).bump.onTwin
    obtain ⟨hf, hv⟩ := s.chip.unaudited.differs_keeps a.gran
    have hstale : a.gran ∈ (s.chip.unaudited.differs a.gran).med.stale := s.chip.unaudited.differs_stale a.gran
    have hvol : s.chip.unaudited.vol 0x5041 3 = s.chip.vol 0x5041 3 := Chip.SameVol.vol (Chip.SameVol.bump (.refl _ s.chip)) 0
    refine ⟨?_, ?_, ?_, Chip.keepsBut_ended (h0.trans hf.mono).keeps⟩
    · rw [Chip.ended_twin, hf.keeps.twin_eq, Chip.unaudited_twin]
    · rw [Chip.ended_med]
      exact hstale
    · rw [Chip.SameVol.vol (Chip.SameVol.refl _ _).ended, hv, hvol]

end

/-- Settles O41. -/
theorem heldAndAudited : Obligations.HeldAndAudited := by
  refine ⟨fun s => ⟨fun mirror n => ⟨fun h => ?_, fun r h hl hr hs hu => holdExpired_ends hl hr hs hu⟩, poisonNote_acked, fun seq => ⟨poisonAck_ends seq, poisonAckTimeout_ends seq⟩⟩,
    fun s => ⟨mirrorAuditStart_idle, fun g => mirrorAuditStart_asks, fun hdr gran => auditReq_answered, fun hdr digest hl => auditSum_ends hl⟩⟩
  refine .of_effect s.chip ?_ (Chip.keepsBut_ended (Chip.keepsBut_refl _ _))
  show execHoldExpired _ n s = _
  unfold execHoldExpired
  rw [State.onChip_next]
  rcases h with ⟨rfl, hl⟩ | ⟨rfl, hn⟩ | ⟨rfl, hn⟩
  · simp [hl]
  · simp [hn]
  · simp [hn]
end

section
/-! A request that this chip serves at once: its way to the home, and a read there. -/

namespace Sys2Proof.Machine

set_option Elab.async false

/-- A chip whose descriptor store has been used. -/
def Chip.descUsed (c : Chip) (ds : List DescEntry) (ms : List Nat) (n : Nat) : Chip :=
  (c.onCache fun k => { k with descs := ds, descMiss := ms }).bump 0x3030 n

theorem Chip.descUsed_flows (c : Chip) (ds : List DescEntry) (ms : List Nat) (n : Nat) : c.Flows [.cache, .ring] (c.descUsed ds ms n) := by
  unfold Chip.descUsed
  exact (Chip.Flows.refl c).onCache.bump

/-- The use of a descriptor changes the descriptor store and its count. -/
theorem Chip.useDesc_eq (c : Chip) (id : Nat) : ∃ ds ms n, c.useDesc id = c.descUsed ds ms n := by
  unfold Chip.useDesc
  split
  · exact ⟨_, c.cache.descMiss, 1, rfl⟩
  · refine ⟨c.cache.descs, if c.cache.descMiss.contains id then c.cache.descMiss else c.cache.descMiss ++ [id], 2, ?_⟩
    unfold Chip.descUsed Chip.onCache
    split
    · next h => simp only [h, if_true]
    · next h => simp only [h, Bool.false_eq_true, if_false]

/-- A request at its home that no fence holds, of a segment whose frames are built, its access meeting nothing beside data. -/
theorem Chip.serveHome_open {c : Chip} {r : Req} (hf : c.fenced r.line r.write = false) (hb : c.unbuiltOf (lineSeg r.line) = []) :
    c.serveHome r .ok = if r.write then c.homeWrite r else c.homeRead r := by
  unfold Chip.serveHome
  simp only [hf, Bool.false_eq_true, if_false, Chip.buildFor, hb, List.foldl_nil]
  cases c.held r.line <;> rfl

/-- What no fence holds for a write it does not hold for a read. -/
theorem Chip.fenced_of_write {c : Chip} {line : Nat} (h : c.fenced line true = false) (w : Bool) : c.fenced line w = false := by
  unfold Chip.fenced at h ⊢
  dsimp only at h ⊢
  split
  · next hs => rwa [if_pos hs] at h
  · next hs =>
    rw [if_neg hs] at h
    split
    · next f hf =>
      simp only [hf, Bool.or_eq_false_iff, Bool.true_and] at h
      simp [h.1, h.2]
    · next hf => simpa [hf] using h

/-- A request that a head takes at once, of a line that this chip serves, is a read or a write at its home. -/
theorem Chip.hostRequest_home {c : Chip} {h : HeadNo} {ideOk : Bool} (ht : c.takesNow h ideOk) {hpa dpa : Nat} (hd : (c.head h).decode hpa = some dpa)
    (hs : c.serves h (dpa / 64)) (r : Req) :
    ∃ ds ms n, c.hostRequest h hpa ideOk r .ok =
      if r.write then (c.descUsed ds ms n).homeWrite { r with src := .head h, arrival := c.pairHead h, line := dpa / 64 }
      else (c.descUsed ds ms n).homeRead { r with src := .head h, arrival := c.pairHead h, line := dpa / 64 } := by
  obtain ⟨hscratch, hacc, ⟨id, o, hobj, hheads, hact, hhand, hlost⟩, hhome, hfence, hbuilt, -⟩ := hs
  obtain ⟨ds, ms, n, he⟩ := c.useDesc_eq id
  refine ⟨ds, ms, n, (Chip.hostRequest_taken ht hpa r .ok).trans ?_⟩
  have hpair : (c.descUsed ds ms n).pairHead h = c.pairHead h := rfl
  have hhand' : (c.descUsed ds ms n).waitsHandover o (dpa / 64) = false := hhand
  have hlost' : (c.descUsed ds ms n).lostLine (dpa / 64) o.mirror = false := hlost
  have hhome' : (c.descUsed ds ms n).homeHere (lineSeg (dpa / 64)) = true := hhome
  have hbuilt' : (c.descUsed ds ms n).unbuiltOf (lineSeg (dpa / 64)) = [] := hbuilt
  have hfence' : (c.descUsed ds ms n).fenced (dpa / 64) r.write = false := Chip.fenced_of_write (c := c) hfence r.write
  unfold Chip.takeRequest
  simp only [hd]
  unfold Chip.enter
  rw [if_neg (Nat.not_le.2 hscratch), if_neg (by simp [hacc])]
  simp only [hobj, he]
  rw [hpair, if_pos hheads]
  unfold Chip.routeObj
  rw [if_neg (by simp [hact])]
  unfold Chip.routeHome
  simp only [hhand', hlost', hhome', Bool.false_eq_true, if_false, if_true]
  exact Chip.serveHome_open hfence' hbuilt'

/-! ### Poison records -/

theorem mem_insertPoison_self (l : List Poison) (p : Poison) : p ∈ insertPoison l p := by
  induction l with
  | nil => exact List.mem_singleton_self p
  | cons q r ih =>
    unfold insertPoison
    split
    · exact List.mem_cons_self
    · exact List.mem_cons_of_mem _ ih

/-- The first line of a joined record is the line itself or the first line of a record beside it. -/
theorem foldl_min_line (qs : List Poison) (l : Nat) :
    qs.foldl (fun n q => min n q.line) l ≤ l ∧ (qs.foldl (fun n q => min n q.line) l = l ∨ ∃ q ∈ qs, qs.foldl (fun n q => min n q.line) l = q.line) := by
  induction qs generalizing l with
  | nil => exact ⟨Nat.le_refl l, .inl rfl⟩
  | cons q r ih =>
    obtain ⟨hle, hor⟩ := ih (min l q.line)
    refine ⟨Nat.le_trans hle (Nat.min_le_left ..), ?_⟩
    rcases hor with h | ⟨p, hp, h⟩
    · rcases Nat.le_total l q.line with hlq | hlq
      · exact .inl (by rw [List.foldl_cons, h, Nat.min_eq_left hlq])
      · exact .inr ⟨q, List.mem_cons_self, by rw [List.foldl_cons, h, Nat.min_eq_right hlq]⟩
    · exact .inr ⟨p, List.mem_cons_of_mem _ hp, h⟩

/-- A joined record covers the line that it was made for. -/
theorem mergedPoison_covers {qs : List Poison} {l src : Nat} (h : ∀ q ∈ qs, joinsPoison q l src = true) :
    (mergedPoison qs l src).line ≤ l ∧ l < (mergedPoison qs l src).line + (mergedPoison qs l src).len := by
  obtain ⟨hle, hor⟩ := foldl_min_line qs l
  refine ⟨hle, ?_⟩
  show l < qs.foldl (fun n q => min n q.line) l + (1 + (qs.map (·.len)).sum)
  rcases hor with he | ⟨q, hq, he⟩
  · omega
  · have hj := of_decide_eq_true (h q hq)
    have hlen : q.len ≤ (qs.map (·.len)).sum := List.le_sum_of_mem (List.mem_map_of_mem hq)
    omega

theorem Chip.poisonAt_of_mem {c : Chip} {l : Nat} {p : Poison} (hp : p ∈ c.integ.poison) (h : p.line ≤ l ∧ l < p.line + p.len) : c.poisonAt l ≠ none := by
  unfold Chip.poisonAt
  rw [Ne, List.find?_eq_none]
  exact fun hn => hn p hp (decide_eq_true h)

/-- A marked line has a record, unless the list is full. -/
theorem Chip.listPoison_covers (c : Chip) (l src : Nat) : (c.listPoison l src).poisonAt l ≠ none ∨ (c.listPoison l src).integ.overflow = true := by
  unfold Chip.listPoison
  split
  · next h => exact .inl (by rw [h]; exact Option.some_ne_none _)
  · split
    · next q qs h =>
      refine .inl (Chip.poisonAt_of_mem (mem_insertPoison_self _ _) (mergedPoison_covers fun x hx => ?_))
      have hm : x ∈ c.integ.poison.filter (fun q => joinsPoison q l src) := h ▸ hx
      exact (List.mem_filter.1 hm).2
    · split
      · exact .inl (Chip.poisonAt_of_mem (mem_insertPoison_self _ _) ⟨Nat.le_refl _, Nat.lt_succ_self _⟩)
      · unfold Chip.poisonOverflow
        split
        · next h => exact .inr h
        · exact .inr rfl

theorem Chip.integ_shadowNote (c : Chip) (l len src : Nat) (remove : Bool) : (c.shadowNote l len src remove).integ = c.integ :=
  ((Chip.Flows.refl (l := [.outs]) c).shadowNote).keeps.integ_eq

/-- A mark that a decode finds has a record then, unless the list is full. -/
theorem Chip.decodedMark_covers (c : Chip) (l : Nat) : (c.decodedMark l).poisonAt l ≠ none ∨ (c.decodedMark l).integ.overflow = true := by
  unfold Chip.decodedMark
  split
  · next h => exact .inl (Option.isSome_iff_ne_none.1 h)
  · have hc := c.listPoison_covers l 1
    unfold Chip.poisonAt at hc ⊢
    unfold Chip.addPoison
    rwa [Chip.integ_shadowNote]

/-! ### Reads at their home -/

/-- DevLoad depends on the twin link, the channels and the requests that wait. -/
theorem Chip.devLoad_congr {c d : Chip} {l : List Grp} (k : c.keepsBut l d) (hc : d.cache.queues = c.cache.queues) (hm : d.cache.misses = c.cache.misses)
    (hs : d.cache.squall = c.cache.squall) (hp : d.cache.partnerSquall = c.cache.partnerSquall) (h : HeadNo)
    (ht : Grp.twin ∉ l := by decide) (hmed : Grp.med ∉ l := by decide) (hh : Grp.hbm ∉ l := by decide) (hd : Grp.dolly ∉ l := by decide) :
    d.devLoad h = c.devLoad h := by
  obtain ⟨-, hq⟩ := Prod.mk.inj hc
  obtain ⟨hmerge, hcredit⟩ := Prod.mk.inj hq
  unfold Chip.devLoad Chip.queued Chip.paired
  simp only [hs, hp, hm, hmerge, hcredit, k.twin_eq ht, k.med_eq hmed, k.hbm_eq hh, k.dolly_eq hd]

/-- The chip with a line of a frame read, and the frame touched. -/
def Chip.readHit (c : Chip) (f n : Nat) : Chip := ((c.touch f).readFrame f n .hostRead).bump 0x3040 1

/-- A read of a line that the cache holds, with no medium read of it outstanding. -/
theorem Chip.homeRead_held {c : Chip} {r : Req} {f : Nat} {v : Stored} (hm : c.missOf r.line = none) (hh : c.held r.line = some (f, v)) :
    c.homeRead r =
      (if v.poison then (c.readHit f (lineSector r.line)).decodedMark r.line else c.readHit f (lineSector r.line)).completeRead r v.data v.poison := by
  unfold Chip.homeRead
  simp only [hm, hh, Option.isSome_none, Bool.and_false, Bool.false_eq_true, if_false]
  rfl

/-- A read of a line that was never written and that nothing covers. -/
theorem Chip.homeRead_unwritten {c : Chip} {r : Req} (hm : c.missOf r.line = none) (hh : c.held r.line = none) (hp : c.poisonAt r.line = none)
    (hw : c.lineWritten r.line = false) : c.homeRead r = c.completeRead r 0 false := by
  unfold Chip.homeRead
  simp only [hm, hh, hp, hw, Option.isSome_none, Bool.and_false, Bool.false_eq_true, if_false, Bool.not_false, if_true]

theorem Chip.readHit_flows (c : Chip) (f n : Nat) : c.Flows [.cache, .ring] (c.readHit f n) :=
  ((Chip.Flows.refl c).cacheOnly (Chip.CacheOnly.refl c).touch.readFrame).bump

theorem Chip.readHit_cache (c : Chip) (f n : Nat) : ∃ fs sc, (c.readHit f n).cache = { c.cache with frames := fs, sched := sc } := ⟨_, _, rfl⟩

/-- The completion of a head's read changes the head, the records and what is sent. -/
theorem Chip.completeRead_head_flows {c : Chip} {r : Req} {h : HeadNo} (hr : r.src = .head h) (data : Line) (p : Bool) (txn type : Nat) :
    c.Flows recordGrps (c.completeRead r data p txn type) := by
  have h0 : c.Flows recordGrps c := .refl c
  unfold Chip.completeRead
  simp only [hr]
  exact (h0.emit.headEvent.recordAt.ite h0.emit).ite h0

/-- The completion of a head's read shows the load of the chip that completes it. -/
theorem Chip.completeRead_shows {a c : Chip} {r : Req} {h : HeadNo} (ha : a.outs <+: c.outs) (hr : r.src = .head h) (hu : (c.head h).link = .up)
    (data : Line) (p : Bool) (txn type : Nat) :
    Output.readDone h r.tag (if p then 0 else data) p (c.devLoad h) ∈ a.sent (c.completeRead r data p txn type) := by
  have hs := Chip.sent_emit ha (.readDone h r.tag (if p then 0 else data) p (c.devLoad h))
  rw [Chip.completeRead_head hr hu]
  exact Chip.sent_mono hs ((Chip.Flows.refl _).headEvent.recordAt.ite (.refl (l := recordGrps) _)).sent

/-- A read of a held line at a head completes with the line; a mark has its record then. -/
theorem Chip.homeRead_hit {a c : Chip} {ds : List DescEntry} {ms : List Nat} {k : Nat} {r : Req} {h : HeadNo} {f : Nat} {v : Stored}
    (ha : c = a.descUsed ds ms k) (hm : c.missOf r.line = none) (hh : c.held r.line = some (f, v)) (hr : r.src = .head h) (hu : (a.head h).link = .up) :
    Output.readDone h r.tag (if v.poison then 0 else v.data) v.poison (a.devLoad h) ∈ a.sent (c.homeRead r) ∧
      (c.homeRead r).cache.lines = a.cache.lines ∧ (v.poison = true → (c.homeRead r).poisonAt r.line ≠ none ∨ (c.homeRead r).integ.overflow = true) ∧
      (v.poison = false → (c.homeRead r).integ = a.integ) ∧ a.keepsBut [.heads, .cache, .integ, .ring, .ledger, .outs] (c.homeRead r) := by
  rw [Chip.homeRead_held hm hh]
  have h1 : a.Flows [.cache, .ring] (c.readHit f (lineSector r.line)) := by
    subst ha
    exact (a.descUsed_flows ds ms k).trans (Chip.readHit_flows _ _ _)
  obtain ⟨fs, sc, hcache⟩ := c.readHit_cache f (lineSector r.line)
  generalize c.readHit f (lineSector r.line) = d at h1 hcache ⊢
  have hda : d.cache = { a.cache with descs := ds, descMiss := ms, frames := fs, sched := sc } := by rw [hcache, ha]; rfl
  have h2 : d.Flows poisonGrps (if v.poison = true then d.decodedMark r.line else d) := (Chip.Flows.refl d).decodedMark.ite (.refl d)
  have hmark : v.poison = true → (if v.poison = true then d.decodedMark r.line else d) = d.decodedMark r.line := fun hp => if_pos hp
  have hplain : v.poison = false → (if v.poison = true then d.decodedMark r.line else d) = d := fun hp => if_neg (by simp [hp])
  generalize (if v.poison = true then d.decodedMark r.line else d) = e at h2 hmark hplain ⊢
  have h3 : a.Flows [.cache, .integ, .ring, .outs] e := h1.mono.trans h2.mono
  have hea : e.cache = { a.cache with descs := ds, descMiss := ms, frames := fs, sched := sc } := h2.keeps.cache_eq.trans hda
  have hload : e.devLoad h = a.devLoad h :=
    Chip.devLoad_congr h3.keeps (by rw [hea]; rfl) (by rw [hea]) (by rw [hea]) (by rw [hea]) h
  have h4 : e.Flows recordGrps (e.completeRead r v.data v.poison) := Chip.completeRead_head_flows hr ..
  refine ⟨?_, ?_, fun hp => ?_, fun hp => ?_,
    (Chip.Flows.trans (l := [.heads, .cache, .integ, .ring, .ledger, .outs]) h3.mono h4.mono).keeps⟩
  · rw [← hload]
    exact Chip.completeRead_shows h3.sent hr ((h3.links h).trans hu) v.data v.poison 1 0
  · rw [h4.keeps.cache_eq, hea]
  · have hcov := d.decodedMark_covers r.line
    unfold Chip.poisonAt at hcov ⊢
    rw [h4.keeps.integ_eq, hmark hp]
    exact hcov
  · rw [h4.keeps.integ_eq, hplain hp, h1.keeps.integ_eq]

/-- A read of a line that was never written, that nothing holds and no record covers, completes with zeros. -/
theorem Chip.homeRead_zero {a c : Chip} {ds : List DescEntry} {ms : List Nat} {k : Nat} {r : Req} {h : HeadNo} (ha : c = a.descUsed ds ms k)
    (hm : c.missOf r.line = none) (hh : c.held r.line = none) (hp : c.poisonAt r.line = none) (hw : c.lineWritten r.line = false)
    (hr : r.src = .head h) (hu : (a.head h).link = .up) :
    c.homeRead r = c.emit (.readDone h r.tag 0 false (a.devLoad h)) := by
  have h1 : a.Flows [.cache, .ring] c := ha ▸ a.descUsed_flows ds ms k
  have hload : c.devLoad h = a.devLoad h := Chip.devLoad_congr h1.keeps (by rw [ha]; rfl) (by rw [ha]; rfl) (by rw [ha]; rfl) (by rw [ha]; rfl) h
  rw [Chip.homeRead_unwritten hm hh hp hw, Chip.completeRead_head hr ((h1.links h).trans hu), hload]
  rfl

end Sys2Proof.Machine
end

section
/-! A write to a line that is dirty already: its frames keep their places, their kinds and their other lines, and neither the dirty total
nor the window changes. -/

namespace Sys2Proof.Machine

set_option Elab.async false

/-! ### Tables -/

theorem SMap.find_of_mem {α : Type} {m : SMap α} (hs : SMap.sorted m = true) {q : Nat} {x : α} (h : (q, x) ∈ m) : m.find q = some x := by
  induction m with
  | nil => cases h
  | cons p r ih =>
    obtain ⟨k, v⟩ := p
    obtain ⟨habove, hr⟩ := (SMap.sorted_cons k v r).1 hs
    unfold SMap.find
    rcases List.mem_cons.1 h with he | hm
    · cases he
      exact if_pos rfl
    · have hlt : k < q := habove _ hm
      rw [if_neg (by omega)]
      exact ih hr hm

theorem SMap.mem_of_find {α : Type} {m : SMap α} {q : Nat} {x : α} (h : m.find q = some x) : (q, x) ∈ m := by
  induction m with
  | nil => cases h
  | cons p r ih =>
    obtain ⟨k, v⟩ := p
    unfold SMap.find at h
    split at h
    · next hk =>
      cases h
      subst hk
      exact List.mem_cons_self
    · exact List.mem_cons_of_mem _ (ih h)

/-- Sorted tables with the same entries are the same. -/
theorem SMap.ext_find {α : Type} {m m' : SMap α} (hm : SMap.sorted m = true) (hm' : SMap.sorted m' = true) (h : ∀ q, m.find q = m'.find q) : m = m' := by
  induction m generalizing m' with
  | nil =>
    cases m' with
    | nil => rfl
    | cons p r => simpa [SMap.find] using h p.1
  | cons p r ih =>
    cases m' with
    | nil => simpa [SMap.find] using h p.1
    | cons p' r' =>
      obtain ⟨k, v⟩ := p
      obtain ⟨k', v'⟩ := p'
      obtain ⟨ha, hr⟩ := (SMap.sorted_cons k v r).1 hm
      obtain ⟨ha', hr'⟩ := (SMap.sorted_cons k' v' r').1 hm'
      have hhead (q : Nat) : (if q = k then some v else SMap.find r q) = if q = k' then some v' else SMap.find r' q := h q
      have hk : k = k' := by
        rcases Nat.lt_trichotomy k k' with hlt | he | hlt
        · have hq := hhead k
          rw [if_pos rfl, if_neg (by omega), SMap.find_none_of_above ha' (by omega)] at hq
          cases hq
        · exact he
        · have hq := hhead k'
          rw [if_pos rfl, if_neg (by omega), SMap.find_none_of_above ha (by omega)] at hq
          cases hq
      subst hk
      have hv := hhead k
      rw [if_pos rfl, if_pos rfl] at hv
      cases hv
      refine congrArg _ (ih hr hr' fun q => ?_)
      by_cases hq : q = k
      · subst hq
        rw [SMap.find_none_of_above ha (Nat.le_refl _), SMap.find_none_of_above ha' (Nat.le_refl _)]
      · have hrest := hhead q
        rwa [if_neg hq, if_neg hq] at hrest

/-! ### Frames -/

@[simp] theorem getLsbD_setBit (m : BitVec 64) {n : Nat} (hn : n < 64) (i : Nat) : (setBit m n).getLsbD i = (m.getLsbD i || decide (i = n)) := by
  unfold setBit
  by_cases h : i = n
  · subst h
    simp [hn]
  · simp [h]
    intros
    omega

/-- A frame after a write to sector `n` of a segment that is dirty there: the same place and kind, and no other line's bits changed. -/
structure Frame.Marked (seg n : Nat) (x y : Frame) : Prop where
  seg_eq : y.seg = x.seg
  kind_eq : y.kind = x.kind
  role_eq : y.role = x.role
  second_eq : y.second = x.second
  unbuilt_imp : x.unbuilt = false → y.unbuilt = false
  peer_eq : y.peer = x.peer
  valid_eq : ∀ i, ¬ (x.seg = seg ∧ i = n) → y.valid.getLsbD i = x.valid.getLsbD i
  dirty_eq : ∀ i, ¬ (x.seg = seg ∧ i = n) → y.dirty.getLsbD i = x.dirty.getLsbD i
  dirty_stays : ∀ i, x.dirty.getLsbD i = true → y.dirty.getLsbD i = true

theorem Frame.Marked.refl (seg n : Nat) (x : Frame) : x.Marked seg n x := ⟨rfl, rfl, rfl, rfl, fun h => h, rfl, fun _ _ => rfl, fun _ _ => rfl, fun _ h => h⟩

theorem Frame.Marked.trans {seg n : Nat} {x y z : Frame} (h : x.Marked seg n y) (k : y.Marked seg n z) : x.Marked seg n z where
  seg_eq := k.seg_eq.trans h.seg_eq
  kind_eq := k.kind_eq.trans h.kind_eq
  role_eq := k.role_eq.trans h.role_eq
  second_eq := k.second_eq.trans h.second_eq
  unbuilt_imp hx := k.unbuilt_imp (h.unbuilt_imp hx)
  peer_eq := k.peer_eq.trans h.peer_eq
  valid_eq i hi := (k.valid_eq i (by rwa [h.seg_eq])).trans (h.valid_eq i hi)
  dirty_eq i hi := (k.dirty_eq i (by rwa [h.seg_eq])).trans (h.dirty_eq i hi)
  dirty_stays i hi := k.dirty_stays i (h.dirty_stays i hi)

/-- The frames of a table, one by one. -/
def Frames.Marked (seg n : Nat) (m m' : SMap Frame) : Prop := List.Forall₂ (fun p q => q.1 = p.1 ∧ p.2.Marked seg n q.2) m m'

section
variable {seg n : Nat} {m m' : SMap Frame}

theorem Frames.Marked.refl (seg n : Nat) (m : SMap Frame) : Frames.Marked seg n m m := List.forall₂_same.2 fun p _ => ⟨rfl, .refl seg n p.2⟩

theorem Frames.Marked.trans {m'' : SMap Frame} (h : Frames.Marked seg n m m') (k : Frames.Marked seg n m' m'') : Frames.Marked seg n m m'' := by
  induction h generalizing m'' with
  | nil => exact k
  | cons hp _ ih =>
    cases k with
    | cons hq hrest => exact .cons ⟨hq.1.trans hp.1, hp.2.trans hq.2⟩ (ih hrest)

theorem Frames.Marked.put {q : Nat} {x y : Frame} (hs : SMap.sorted m = true) (hq : m.find q = some x) (h : x.Marked seg n y) :
    Frames.Marked seg n m (m.put q y) := by
  induction m with
  | nil => cases hq
  | cons p r ih =>
    obtain ⟨k, v⟩ := p
    obtain ⟨habove, hr⟩ := (SMap.sorted_cons k v r).1 hs
    unfold SMap.find at hq
    unfold SMap.put
    split at hq
    · next hk =>
      cases hq
      subst hk
      rw [if_neg (Nat.lt_irrefl q), if_pos rfl]
      exact .cons ⟨rfl, h⟩ (Frames.Marked.refl seg n r)
    · next hk =>
      have hlt : ¬ q < k := fun hlt => by
        rw [SMap.find_none_of_above habove (Nat.le_of_lt hlt)] at hq
        cases hq
      rw [if_neg hlt, if_neg hk]
      exact .cons ⟨rfl, .refl seg n v⟩ (ih hr hq)

theorem Frames.Marked.find (h : Frames.Marked seg n m m') (q : Nat) :
    (m.find q = none ∧ m'.find q = none) ∨ ∃ x y, m.find q = some x ∧ m'.find q = some y ∧ x.Marked seg n y := by
  induction h with
  | nil => exact .inl ⟨rfl, rfl⟩
  | @cons p p' r r' hp _ ih =>
    obtain ⟨k, x⟩ := p
    obtain ⟨k', y⟩ := p'
    obtain ⟨rfl, hxy⟩ := hp
    unfold SMap.find
    split
    · exact .inr ⟨x, y, rfl, rfl, hxy⟩
    · exact ih

/-- What is asked of kind, role and segment picks the same frames. -/
theorem Frames.Marked.filter_keys (h : Frames.Marked seg n m m') {f : Nat × Frame → Bool}
    (hf : ∀ k x y, Frame.Marked seg n x y → f (k, y) = f (k, x)) : (m'.filter f).map Prod.fst = (m.filter f).map Prod.fst := by
  induction h with
  | nil => rfl
  | @cons p p' r r' hp _ ih =>
    obtain ⟨k, x⟩ := p
    obtain ⟨k', y⟩ := p'
    obtain ⟨rfl, hxy⟩ := hp
    rw [List.filter_cons, List.filter_cons, hf k' x y hxy]
    split
    · rw [List.map_cons, List.map_cons, ih]
    · exact ih

theorem Frames.Marked.any (h : Frames.Marked seg n m m') {f : Nat × Frame → Bool} (hf : ∀ k x y, Frame.Marked seg n x y → f (k, y) = f (k, x)) :
    m'.any f = m.any f := by
  induction h with
  | nil => rfl
  | @cons p p' r r' hp _ ih =>
    obtain ⟨k, x⟩ := p
    obtain ⟨k', y⟩ := p'
    obtain ⟨rfl, hxy⟩ := hp
    rw [List.any_cons, List.any_cons, hf k' x y hxy, ih]

theorem Frames.Marked.any_imp (h : Frames.Marked seg n m m') {f : Nat × Frame → Bool} (ha : m.any f = true)
    (hf : ∀ k x y, Frame.Marked seg n x y → f (k, x) = true → f (k, y) = true) : m'.any f = true := by
  induction h with
  | nil => exact ha
  | @cons p p' r r' hp _ ih =>
    obtain ⟨k, x⟩ := p
    obtain ⟨k', y⟩ := p'
    obtain ⟨rfl, hxy⟩ := hp
    rw [List.any_cons, Bool.or_eq_true] at ha ⊢
    exact ha.imp (hf k' x y hxy) ih

theorem Frames.Marked.countP (h : Frames.Marked seg n m m') {f : Nat × Frame → Bool} (hf : ∀ k x y, Frame.Marked seg n x y → f (k, y) = f (k, x)) :
    List.countP f m' = List.countP f m := by
  induction h with
  | nil => rfl
  | @cons p p' r r' hp _ ih =>
    obtain ⟨k, x⟩ := p
    obtain ⟨k', y⟩ := p'
    obtain ⟨rfl, hxy⟩ := hp
    rw [List.countP_cons, List.countP_cons, hf k' x y hxy, ih]

end

/-! ### The dirty total -/

/-- The dirty lines of a segment that a table of frames holds. -/
def Frames.dirtyOf (m : SMap Frame) (s : Nat) (b : BitVec 64) : BitVec 64 := m.foldl (fun b p => if p.2.seg = s then b ||| p.2.dirty else b) b

theorem Frames.getLsbD_dirtyOf (m : SMap Frame) (s : Nat) (b : BitVec 64) (i : Nat) :
    (Frames.dirtyOf m s b).getLsbD i = (b.getLsbD i || m.any (fun p => decide (p.2.seg = s) && p.2.dirty.getLsbD i)) := by
  unfold Frames.dirtyOf
  induction m generalizing b with
  | nil => simp
  | cons p r ih =>
    rw [List.foldl_cons, ih, List.any_cons]
    split
    · next h => simp [h, Bool.or_assoc]
    · next h => simp [h]

/-- One frame's dirty lines, added to the map of all. -/
def Frames.addDirty (m : SMap (BitVec 64)) (p : Nat × Frame) : SMap (BitVec 64) :=
  if p.2.dirty = 0 then m else m.put p.2.seg (m.getD p.2.seg 0 ||| p.2.dirty)

/-- The map has exactly the segments with a dirty line. -/
def Frames.maps (m : SMap (BitVec 64)) (f : Nat → BitVec 64) : Prop := ∀ s, m.find s = if f s = 0 then none else some (f s)

theorem Frames.maps_addDirty {m : SMap (BitVec 64)} {f : Nat → BitVec 64} (h : Frames.maps m f) (p : Nat × Frame) :
    Frames.maps (Frames.addDirty m p) fun s => if p.2.seg = s then f s ||| p.2.dirty else f s := by
  have hget (s : Nat) : m.getD s 0 = f s := by
    unfold SMap.getD
    rw [h s]
    split
    · next h0 => exact h0.symm
    · rfl
  intro s
  unfold Frames.addDirty
  split
  · next hd =>
    rw [h s]
    simp [hd]
  · next hd =>
    by_cases hs : p.2.seg = s
    · subst hs
      have hne : f p.2.seg ||| p.2.dirty ≠ 0 := fun h0 => hd (BitVec.or_eq_zero_iff.1 h0).2
      simp only [SMap.find_put_self, hget, if_true, hne, if_false]
    · simp only [SMap.find_put_of_ne _ _ (Ne.symm hs), h s, hs, if_false]

theorem Frames.maps_foldl (m : SMap Frame) {d : SMap (BitVec 64)} {f : Nat → BitVec 64} (h : Frames.maps d f) :
    Frames.maps (m.foldl Frames.addDirty d) fun s => Frames.dirtyOf m s (f s) := by
  induction m generalizing d f with
  | nil => exact h
  | cons p r ih => exact ih (Frames.maps_addDirty h p)

theorem Frames.sorted_foldl (m : SMap Frame) {d : SMap (BitVec 64)} (h : SMap.sorted d = true) : SMap.sorted (m.foldl Frames.addDirty d) = true := by
  induction m generalizing d with
  | nil => exact h
  | cons p r ih =>
    refine ih ?_
    unfold Frames.addDirty
    split
    · exact h
    · exact SMap.sorted_put _ _ _ h

/-- A write to a line that is dirty already leaves the map of the dirty lines. -/
theorem Frames.Marked.dirtyMaps {seg n : Nat} {m m' : SMap Frame} (h : Frames.Marked seg n m m')
    (hd : m.any (fun p => decide (p.2.seg = seg) && p.2.dirty.getLsbD n) = true) : m'.foldl Frames.addDirty [] = m.foldl Frames.addDirty [] := by
  have hor (s : Nat) : Frames.dirtyOf m' s 0 = Frames.dirtyOf m s 0 := by
    refine BitVec.eq_of_getLsbD_eq fun i _ => ?_
    rw [Frames.getLsbD_dirtyOf, Frames.getLsbD_dirtyOf]
    refine congrArg _ ?_
    by_cases hsi : s = seg ∧ i = n
    · obtain ⟨rfl, rfl⟩ := hsi
      rw [hd]
      exact h.any_imp hd fun k x y hxy hx => by
        simp only [Bool.and_eq_true, decide_eq_true_eq] at hx ⊢
        exact ⟨hxy.seg_eq.trans hx.1, hxy.dirty_stays _ hx.2⟩
    · refine h.any fun k x y hxy => ?_
      rw [hxy.seg_eq]
      by_cases hs : x.seg = s
      · rw [hxy.dirty_eq i fun hx => hsi ⟨hs.symm.trans hx.1, hx.2⟩]
      · simp [hs]
  have hnil : Frames.maps [] fun _ => 0 := fun s => rfl
  refine SMap.ext_find (Frames.sorted_foldl m' rfl) (Frames.sorted_foldl m rfl) fun s => ?_
  rw [Frames.maps_foldl m' hnil s, Frames.maps_foldl m hnil s]
  simp only [hor]

end Sys2Proof.Machine
end

section
/-! The cache around a write to a line that is dirty in two frames. -/

namespace Sys2Proof.Machine

set_option Elab.async false

/-- From chip `a` to chip `b` only line `n` of a segment is written in the frames, and the ways stay locked as they were. -/
structure Chip.Marks (seg n : Nat) (a b : Chip) : Prop where
  sorted : SMap.sorted b.cache.frames = true
  marked : Frames.Marked seg n a.cache.frames b.cache.frames
  scratch : b.cache.waysScratch = a.cache.waysScratch
  pin : b.cache.waysPin = a.cache.waysPin

section
variable {seg n : Nat} {a b : Chip}

theorem Chip.Marks.of_same (hs : SMap.sorted a.cache.frames = true) (hf : b.cache.frames = a.cache.frames)
    (hw : b.cache.waysScratch = a.cache.waysScratch) (hp : b.cache.waysPin = a.cache.waysPin) : a.Marks seg n b :=
  ⟨by rwa [hf], by rw [hf]; exact .refl .., hw, hp⟩

variable (k : a.Marks seg n b)
include k

theorem Chip.Marks.trans {c : Chip} (j : b.Marks seg n c) : a.Marks seg n c :=
  ⟨j.sorted, k.marked.trans j.marked, j.scratch.trans k.scratch, j.pin.trans k.pin⟩

theorem Chip.Marks.frame (q : Nat) : (a.frame q).Marked seg n (b.frame q) := by
  unfold Chip.frame
  rcases k.marked.find q with ⟨ha, hb⟩ | ⟨x, y, ha, hb, hxy⟩
  · rw [ha, hb]
    unfold Chip.lockedScratch Chip.lockedPin
    rw [k.scratch, k.pin]
    exact .refl ..
  · rw [ha, hb]
    exact hxy

/-- A change of a frame that is stored, within what a write to the line may change. -/
theorem Chip.Marks.onFrame {q : Nat} {x : Frame} {u : Frame → Frame} (hq : a.cache.frames.find q = some x)
    (hu : ∀ y, x.Marked seg n y → y.Marked seg n (u y)) : a.Marks seg n (b.onFrame q u) := by
  rcases k.marked.find q with ⟨ha, -⟩ | ⟨x', y, ha, hb, hxy⟩
  · rw [hq] at ha
    cases ha
  · rw [hq] at ha
    cases ha
    have hframe : b.frame q = y := by
      unfold Chip.frame
      rw [hb]
    refine ⟨SMap.sorted_put _ _ _ k.sorted, k.marked.trans (.put k.sorted hb ?_), k.scratch, k.pin⟩
    rw [hframe]
    exact hu y hxy

theorem Chip.Marks.setSector {f i : Nat} {v : Stored} : a.Marks seg n (b.setSector f i v) := ⟨k.sorted, k.marked, k.scratch, k.pin⟩

theorem Chip.Marks.lookup (s : Nat) : b.lookup s = a.lookup s := by
  unfold Chip.lookup
  refine List.find?_congr fun f _ => ?_
  rw [(k.frame f).kind_eq, (k.frame f).seg_eq]

theorem Chip.Marks.outside (s : Nat) (r : Role) : b.outside s r = a.outside s r := by
  unfold Chip.outside
  exact k.marked.filter_keys fun q x y h => by rw [h.kind_eq, h.role_eq, h.seg_eq]

theorem Chip.Marks.detached (s : Nat) : b.detached s = a.detached s := by
  have hsecond (f : Nat) : (b.frame f).second = (a.frame f).second := (k.frame f).second_eq
  unfold Chip.detached
  simp only [k.outside, hsecond]

theorem Chip.Marks.windowUse : b.windowUse = a.windowUse := by
  have hway (w : Nat) : b.unlockedWay w = a.unlockedWay w := by
    unfold Chip.unlockedWay Chip.lockedScratch Chip.lockedPin
    rw [k.scratch, k.pin]
  unfold Chip.windowUse
  simp only [hway]
  exact k.marked.countP fun q x y h => by rw [h.kind_eq]

theorem Chip.Marks.dirtyTotal (hd : a.lineDirty (64 * seg + n) = true) (hn : n < 64) : b.dirtyTotal = a.dirtyTotal := by
  have hmaps : b.dirtyMaps = a.dirtyMaps := by
    refine k.marked.dirtyMaps ?_
    unfold Chip.lineDirty lineSeg lineSector at hd
    rwa [show (64 * seg + n) / 64 = seg by omega, show (64 * seg + n) % 64 = n by omega] at hd
  unfold Chip.dirtyTotal
  rw [hmaps]

end

/-- A frame that the lookup finds. -/
theorem Chip.lookup_some {c : Chip} {s f : Nat} (h : c.lookup s = some f) : (c.frame f).kind.visible = true ∧ (c.frame f).seg = s := by
  unfold Chip.lookup at h
  have hf := List.find?_some h
  simpa using hf

/-- A frame with a state word of its own is stored. -/
theorem Chip.frame_stored {c : Chip} {f : Nat} (hv : (c.frame f).kind.visible = true) : c.cache.frames.find f = some (c.frame f) := by
  unfold Chip.frame at hv ⊢
  cases h : c.cache.frames.find f with
  | some x => rfl
  | none =>
    rw [h] at hv
    dsimp only at hv
    split at hv
    · cases hv
    · split at hv <;> cases hv

theorem Chip.detached_seg {c : Chip} (hs : SMap.sorted c.cache.frames = true) {s f : Nat} (h : f ∈ c.detached s) : (c.frame f).seg = s := by
  have hout : f ∈ c.outside s .detached := by
    unfold Chip.detached at h
    dsimp only at h
    rcases List.mem_append.1 h with h | h <;> exact (List.mem_filter.1 h).1
  obtain ⟨⟨q, x⟩, hx, rfl⟩ := List.mem_map.1 hout
  obtain ⟨hmem, hp⟩ := List.mem_filter.1 hx
  have hseg : x.seg = s := by
    simp only [decide_eq_true_eq] at hp
    exact hp.2.2
  unfold Chip.frame
  rw [SMap.find_of_mem hs hmem]
  exact hseg

theorem Chip.unbuilt_frame {c : Chip} (h : ∀ p ∈ c.cache.frames, p.2.unbuilt = false) (f : Nat) : (c.frame f).unbuilt = false := by
  unfold Chip.frame
  cases hf : c.cache.frames.find f with
  | some x => exact h _ (SMap.mem_of_find hf)
  | none => rfl

/-- A stored line of a frame that needs no rebuilding. -/
theorem Chip.sector_built {c : Chip} {f : Nat} (h : (c.frame f).unbuilt = false) (n : Nat) : c.sector f n = (c.cache.lines.find (64 * f + n)).getD {} := by
  unfold Chip.sector
  cases c.cache.lines.find (64 * f + n) with
  | some v => rfl
  | none => simp [h]

theorem Chip.sector_stored {c : Chip} {f n : Nat} {v : Stored} (h : c.cache.lines.find (64 * f + n) = some v) : c.sector f n = v := by
  unfold Chip.sector
  rw [h]

/-- Where no frame has to be rebuilt, the other lines that HBM holds stay as a line of two frames of its segment is written. -/
theorem Chip.Marks.held_other {line f g : Nat} {a b : Chip} (k : a.Marks (lineSeg line) (lineSector line) b)
    (hs : SMap.sorted a.cache.frames = true) (hf : (a.frame f).seg = lineSeg line) (hg : (a.frame g).seg = lineSeg line)
    (hl : ∀ q, q ≠ 64 * f + lineSector line → q ≠ 64 * g + lineSector line → b.cache.lines.find q = a.cache.lines.find q)
    (hu : ∀ p ∈ a.cache.frames, p.2.unbuilt = false) {l : Nat} (hne : l ≠ line) : (b.held l).map Prod.snd = (a.held l).map Prod.snd := by
  have hline (q : Nat) : ¬ (lineSeg l = lineSeg line ∧ lineSector l = lineSector line) := by
    unfold lineSeg lineSector
    omega
  have hsector (q : Nat) (hq : (a.frame q).seg = lineSeg l) : b.sector q (lineSector l) = a.sector q (lineSector l) := by
    have hfind : b.cache.lines.find (64 * q + lineSector l) = a.cache.lines.find (64 * q + lineSector l) := by
      have hlt : lineSector l < 64 ∧ lineSector line < 64 := by unfold lineSector; omega
      have hcase (e : Nat) (he : (a.frame e).seg = lineSeg line) : 64 * q + lineSector l ≠ 64 * e + lineSector line := fun h => by
        have hqe : q = e := by omega
        subst hqe
        exact hline 0 ⟨hq.symm.trans he, by omega⟩
      exact hl _ (hcase f hf) (hcase g hg)
    rw [Chip.sector_built (Chip.unbuilt_frame hu q), Chip.sector_built ((k.frame q).unbuilt_imp (Chip.unbuilt_frame hu q)), hfind]
  have hbits (q : Nat) (hq : (a.frame q).seg = lineSeg l) : (b.frame q).valid.getLsbD (lineSector l) = (a.frame q).valid.getLsbD (lineSector l) ∧
      (b.frame q).dirty.getLsbD (lineSector l) = (a.frame q).dirty.getLsbD (lineSector l) := by
    have hother : ¬ ((a.frame q).seg = lineSeg line ∧ lineSector l = lineSector line) := by rw [hq]; exact hline 0
    exact ⟨(k.frame q).valid_eq _ hother, (k.frame q).dirty_eq _ hother⟩
  unfold Chip.held
  dsimp only
  rw [k.lookup]
  split
  · next q hq =>
    have hseg := (Chip.lookup_some hq).2
    rw [(hbits q hseg).1, (hbits q hseg).2, hsector q hseg]
  · next hq =>
    rw [k.detached]
    have hfind : (a.detached (lineSeg l)).find? (fun f => (b.frame f).dirty.getLsbD (lineSector l)) =
        (a.detached (lineSeg l)).find? (fun f => (a.frame f).dirty.getLsbD (lineSector l)) :=
      List.find?_congr fun q hq => (hbits q (Chip.detached_seg hs hq)).2
    rw [hfind]
    split
    · next q hq => rw [hsector q (Chip.detached_seg hs (List.mem_of_find?_eq_some hq))]
    · rfl

end Sys2Proof.Machine
end

section
/-! A write at its home to a line that is dirty in the two frames of its segment. -/

namespace Sys2Proof.Machine

set_option Elab.async false

/-- The segment of a line has its line dirty in a frame and the frame's peer, and no pin move takes a copy. -/
structure Chip.DirtyPair (c : Chip) (line f g : Nat) : Prop where
  sorted : SMap.sorted c.cache.frames = true
  found : c.lookup (lineSeg line) = some f
  kind : (c.frame f).kind = .dirty
  dirty : (c.frame f).dirty.getLsbD (lineSector line) = true
  peer : (c.frame f).peer = some g
  ne : g ≠ f
  other : ∃ fr, c.cache.frames.find g = some fr ∧ fr.seg = lineSeg line ∧ fr.kind = .outside
  unpinned : ∀ p ∈ c.dolly.pins, p.seg ≠ lineSeg line
  idle : c.missOf line = none

/-- The chip with the frames of a pair written. -/
def Chip.wrotePair (c : Chip) (f g n : Nat) (v : Stored) : Chip :=
  (((((c.touch f).onFrame f fun x => { x with kind := .dirty }).dirtySector n v f).dirtySector n v g).writeFrame f n .hostWrite).writeFrame g n .hostWrite

section
variable {c : Chip} {line f g : Nat} (p : c.DirtyPair line f g)
include p

theorem Chip.DirtyPair.stored : c.cache.frames.find f = some (c.frame f) := Chip.frame_stored (by rw [p.kind]; rfl)

theorem Chip.DirtyPair.seg : (c.frame f).seg = lineSeg line := (Chip.lookup_some p.found).2

theorem Chip.DirtyPair.lineDirty : c.lineDirty line = true := by
  unfold Chip.lineDirty
  refine List.any_eq_true.2 ⟨(f, c.frame f), SMap.mem_of_find p.stored, ?_⟩
  simp [p.seg, p.dirty]

theorem Chip.DirtyPair.held : c.held line = some (f, c.sector f (lineSector line)) := by
  unfold Chip.held
  simp only [p.found, p.dirty, Bool.or_true, if_true]

theorem Chip.DirtyPair.needsMerge (mask : Mask) : c.needsMerge line mask = false := by
  have hre : c.refetching line = false := by
    have hm : c.cache.misses.any (fun m => decide (m.line = line ∧ m.step = 4) && !m.drop) = false := by
      refine List.any_eq_false.2 fun m hm => ?_
      have hline := List.find?_eq_none.1 p.idle m hm
      have hline : m.line ≠ line := by simpa using hline
      simp [hline]
    unfold Chip.refetching
    rw [hm, Bool.and_false]
  unfold Chip.needsMerge
  rw [p.held, hre]
  simp

/-- Writing the pair touches nothing but the line, in its two frames. -/
theorem Chip.DirtyPair.marks (v : Stored) : c.Marks (lineSeg line) (lineSector line) (c.wrotePair f g (lineSector line) v) := by
  have hn : lineSector line < 64 := by unfold lineSector; omega
  obtain ⟨fr, hg, hgseg, -⟩ := p.other
  have h0 : c.Marks (lineSeg line) (lineSector line) c := .of_same p.sorted rfl rfl rfl
  have hmark (y : Frame) (hy : y.seg = lineSeg line) (at' : SMap Nat) (wb pending : BitVec 64) : y.Marked (lineSeg line) (lineSector line)
      { y with valid := setBit y.valid (lineSector line), dirty := setBit y.dirty (lineSector line), wb := wb, pending := pending, dirtyAt := at' } := by
    refine ⟨rfl, rfl, rfl, rfl, fun h => h, rfl, fun i hi => ?_, fun i hi => ?_, fun i hi => ?_⟩
    · have hne : i ≠ lineSector line := fun h => hi ⟨hy, h⟩
      simp [hn, hne]
    · have hne : i ≠ lineSector line := fun h => hi ⟨hy, h⟩
      simp [hn, hne]
    · simp [hn, hi]
  have h1 : c.Marks (lineSeg line) (lineSector line) ((c.touch f).onFrame f fun x => { x with kind := .dirty }) := by
    refine ((h0.onFrame p.stored fun y hy => ?_).onFrame p.stored fun y hy => ?_).onFrame p.stored fun y hy => ?_
    · exact ⟨rfl, rfl, rfl, rfl, fun h => h, rfl, fun _ _ => rfl, fun _ _ => rfl, fun _ h => h⟩
    · exact ⟨rfl, rfl, rfl, rfl, fun h => h, rfl, fun _ _ => rfl, fun _ _ => rfl, fun _ h => h⟩
    · exact ⟨rfl, (hy.kind_eq.trans p.kind).symm, rfl, rfl, fun h => h, rfl, fun _ _ => rfl, fun _ _ => rfl, fun _ h => h⟩
  have h2 := (h1.setSector (f := f) (i := lineSector line) (v := v)).onFrame (u := fun x =>
    { x with valid := setBit x.valid (lineSector line), dirty := setBit x.dirty (lineSector line), wb := clearBit x.wb (lineSector line),
             pending := clearBit x.pending (lineSector line), dirtyAt := if x.dirty.getLsbD (lineSector line) then x.dirtyAt else x.dirtyAt.put (lineSector line) c.now })
    p.stored fun y hy => hmark y (hy.seg_eq.trans p.seg) _ _ _
  have h3 := (h2.setSector (f := g) (i := lineSector line) (v := v)).onFrame (u := fun x =>
    { x with valid := setBit x.valid (lineSector line), dirty := setBit x.dirty (lineSector line), wb := clearBit x.wb (lineSector line),
             pending := clearBit x.pending (lineSector line), dirtyAt := if x.dirty.getLsbD (lineSector line) then x.dirtyAt else x.dirtyAt.put (lineSector line) c.now })
    hg fun y hy => hmark y (hy.seg_eq.trans hgseg) _ _ _
  exact ⟨h3.sorted, h3.marked, h3.scratch, h3.pin⟩

theorem Chip.DirtyPair.placeFrames : c.placeFrames (lineSeg line) true = some ([f, g], (c.touch f).onFrame f fun x => { x with kind := .dirty }) := by
  have hf (x : Frame) (d : Chip) : (d.setFrame f x).frame f = x := by
    unfold Chip.frame Chip.setFrame
    show (match SMap.find (d.cache.frames.put f x) f with | some fr => fr | none => _) = x
    rw [SMap.find_put_self]
  have hkind : ((c.touch f).frame f).kind = .dirty := by
    unfold Chip.touch Chip.onFrame
    rw [hf]
    unfold Chip.useFrame Chip.onFrame
    rw [hf]
    exact p.kind
  have hpeer : (((c.touch f).onFrame f fun x => { x with kind := .dirty }).frame f).peer = some g := by
    unfold Chip.onFrame
    rw [hf]
    unfold Chip.touch Chip.onFrame
    rw [hf]
    unfold Chip.useFrame Chip.onFrame
    rw [hf]
    exact p.peer
  unfold Chip.placeFrames
  simp only [p.found]
  rw [if_neg (by rw [hkind]; decide)]
  simp only [hpeer]

/-- The line with the enabled bytes of a write. -/
def Stored.merged (old : Stored) (data : Line) (mask : Mask) (poison : Bool) : Stored :=
  { data := if mask = fullMask then data else mergeLine (if old.poison then 0 else old.data) data mask, poison := poison }

theorem Chip.DirtyPair.placeLine (data : Line) (mask : Mask) (poison : Bool) (head : Option HeadNo) :
    c.placeLine line data mask poison true head =
      some ((c.wrotePair f g (lineSector line) ((c.sector f (lineSector line)).merged data mask poison)).meetFill line mask false (some f) head) := by
  have hpins : c.dolly.pins.filter (fun q => decide (q.seg = lineSeg line)) = [] :=
    List.filter_eq_nil_iff.2 fun q hq => by simpa using p.unpinned q hq
  have hdirty (d : Chip) (n : Nat) (v : Stored) (q : Nat) : (d.dirtySector n v q).dolly = d.dolly := rfl
  have hframe (d : Chip) (q : Nat) (u : Frame → Frame) : (d.onFrame q u).dolly = d.dolly := rfl
  have htouch (d : Chip) (q : Nat) : (d.touch q).dolly = d.dolly := rfl
  unfold Chip.placeLine
  simp only [p.held, p.needsMerge, p.placeFrames, List.foldl_cons, List.foldl_nil, Chip.pinTargets, hdirty, hframe, htouch, hpins, List.map_nil]
  rfl

end

theorem Chip.meetFill_stores (c : Chip) (line : Nat) (mask : Mask) (merge : Bool) (f : Option Nat) (head : Option HeadNo) :
    (c.meetFill line mask merge f head).cache.frames = c.cache.frames ∧ (c.meetFill line mask merge f head).cache.lines = c.cache.lines ∧
      (c.meetFill line mask merge f head).cache.waysScratch = c.cache.waysScratch ∧ (c.meetFill line mask merge f head).cache.waysPin = c.cache.waysPin := by
  unfold Chip.meetFill Chip.onCache
  dsimp only
  split
  · exact ⟨rfl, rfl, rfl, rfl⟩
  · split
    · exact ⟨rfl, rfl, rfl, rfl⟩
    · exact ⟨rfl, rfl, rfl, rfl⟩

/-- The stores of the cache: its frames, its lines and the ways that are locked. -/
def Cache.stores (k : Cache) : SMap Frame × SMap Stored × Nat × Nat := (k.frames, k.lines, k.waysScratch, k.waysPin)

theorem Chip.Marks.of_stores {seg n : Nat} {a b d : Chip} (k : a.Marks seg n b) (h : d.cache.stores = b.cache.stores) : a.Marks seg n d := by
  obtain ⟨hf, h⟩ := Prod.mk.inj h
  obtain ⟨-, h⟩ := Prod.mk.inj h
  obtain ⟨hw, hp⟩ := Prod.mk.inj h
  exact k.trans (.of_same k.sorted hf hw hp)

/-- A write that adds neither a dirty line nor a frame to the window is admitted. -/
theorem admitted_of_same {a b : Chip} (hd : b.dirtyTotal = a.dirtyTotal) (hw : b.windowUse = a.windowUse) : admitted a b = true := by
  have hlines : addedLines a b = 0 := by
    unfold addedLines
    rw [hd, Nat.sub_self]
  have hframes : addedFrames a b = 0 := by
    unfold addedFrames
    rw [hw, Nat.sub_self]
  unfold admitted
  simp [hlines, hframes]

theorem spendCredits_stores (a b : Chip) : (spendCredits a b).cache.stores = b.cache.stores := by
  unfold spendCredits
  split <;> rfl

/-- The write of a pair's line is placed at once: the pair is written, with the records that go with it, and the write acknowledged. -/
theorem Chip.DirtyPair.tryHomeWrite {c : Chip} {f g : Nat} {r : Req} (p : c.DirtyPair r.line f g) (hmir : c.mirrorsLine r.line = false) :
    ∃ e m, c.tryHomeWrite r = some (e.ackWrite { r with metPoison := m }) ∧
      e.cache.stores = (c.wrotePair f g (lineSector r.line) ((c.sector f (lineSector r.line)).merged r.data r.mask r.poison)).cache.stores ∧
      c.Flows writeGrps e := by
  have hfull : c.mergeFull r.line (c.needsMerge r.line r.mask) = false := by
    unfold Chip.mergeFull
    rw [p.needsMerge]
    rfl
  unfold Chip.tryHomeWrite
  extract_lets mir head bad q stale
  have hm : mir = false := hmir
  rw [if_neg (by rw [hfull]; decide), hm, Bool.not_false, p.placeLine]
  generalize hw : c.wrotePair f g (lineSector r.line) ((c.sector f (lineSector r.line)).merged r.data r.mask r.poison) = w
  have hmarks : c.Marks (lineSeg r.line) (lineSector r.line) w := hw ▸ p.marks _
  have hstores : (w.meetFill r.line r.mask false (some f) head).cache.stores = w.cache.stores := by
    obtain ⟨h1, h2, h3, h4⟩ := w.meetFill_stores r.line r.mask false (some f) head
    unfold Cache.stores
    rw [h1, h2, h3, h4]
  have hwrote : c.CacheOnly w := by
    subst hw
    unfold Chip.wrotePair
    exact (Chip.CacheOnly.refl c).touch.onFrame.dirtySector.dirtySector.writeFrame.writeFrame
  have hplaced : c.CacheOnly (w.meetFill r.line r.mask false (some f) head) := hwrote.meetFill
  have hmarks' := hmarks.of_stores hstores
  generalize w.meetFill r.line r.mask false (some f) head = d at hstores hplaced hmarks'
  have hn : lineSector r.line < 64 := by unfold lineSector; omega
  have hline : 64 * lineSeg r.line + lineSector r.line = r.line := by unfold lineSeg lineSector; omega
  have hadm : admitted c d = true := admitted_of_same (hmarks'.dirtyTotal (by rw [hline]; exact p.lineDirty) hn) hmarks'.windowUse
  dsimp -zeta only
  rw [if_neg (by rw [hadm]; decide)]
  extract_lets c1 c2 mirrored c3
  rw [if_neg (by decide)]
  have h1 : (spendCredits c d).Flows (.med :: poisonGrps) c1 := (Chip.Flows.refl _).setLineWritten.poisonWrite
  have h2 : c1.Flows recordGrps c2 := (Chip.Flows.refl c1).requestRecord.ite (.refl c1)
  have h3 : c2.Flows [.med] c3 := (Chip.Flows.refl c2).markStale.ite (.refl c2)
  refine ⟨c3, _, rfl, ?_, ?_⟩
  · rw [h3.keeps.cache_eq, h2.keeps.cache_eq, h1.keeps.cache_eq, spendCredits_stores, hstores]
  · exact (((Chip.Flows.refl c).cacheOnly hplaced.spendCredits).trans h1.mono).trans (h2.mono.trans h3.mono)

/-- The write of a pair's line is carried out at its home. -/
theorem Chip.DirtyPair.homeWrite {c : Chip} {f g : Nat} {r : Req} (p : c.DirtyPair r.line f g) (hmir : c.mirrorsLine r.line = false) :
    ∃ e m, c.homeWrite r = (e.ackWrite { r with metPoison := m }).evalSquall ∧
      e.cache.stores = (c.wrotePair f g (lineSector r.line) ((c.sector f (lineSector r.line)).merged r.data r.mask r.poison)).cache.stores ∧
      c.Flows writeGrps e := by
  obtain ⟨e, m, htry, hstores, hflows⟩ := p.tryHomeWrite hmir
  have hfull : c.mergeFull r.line (c.needsMerge r.line r.mask) = false := by
    unfold Chip.mergeFull
    rw [p.needsMerge]
    rfl
  refine ⟨e, m, ?_, hstores, hflows⟩
  unfold Chip.homeWrite
  rw [if_neg (by rw [p.lineDirty]; simp), if_neg (by rw [hfull]; decide)]
  simp only [p.found, p.kind, reduceCtorEq, if_false]
  rw [if_neg (by rw [p.lineDirty]; simp), htry]

end Sys2Proof.Machine
end

section
/-! Host requests: those that wait outside, those at an address in no decoder, those that fail their check, and those served here. -/

namespace Sys2Proof.Machine

-- One theorem at a time: elaborated at once, their nested proofs wait for one another, a thread and its stack for each.
set_option Elab.async false

/-! ### Requests turned away -/

theorem Chip.evt_headEvent (c : Chip) (h : HeadNo) (i : Nat) : ((c.headEvent h i).head h).evt = (c.head h).evt ||| (1#6 <<< i) := by
  unfold Chip.headEvent
  rw [Chip.head_onHead_same]

theorem Chip.evt_recordAt (c : Chip) (h : HeadNo) (log : LogNo) (b : EventBody) : ((c.recordAt [h] log b).head h).evt = (c.head h).evt := by
  rw [Chip.head_recordAt_one, Chip.head_headRecord, if_pos rfl]

/-- A denied request of a head that is up: the events it shows there, and what it leaves alone. -/
theorem Chip.denyRequest_shows {c : Chip} {h : HeadNo} {r : Req} (hr : r.src = .head h) (hu : (c.head h).link = .up) (txn type bit : Nat) :
    ((c.denyRequest r txn type bit).head h).evt = (if r.write then (c.head h).evt ||| (1#6 <<< bit) else (c.head h).evt ||| (1#6 <<< bit) ||| (1#6 <<< 5)) ∧
      (∀ k, k ≠ h → (c.denyRequest r txn type bit).head k = c.head k) ∧ c.keepsBut recordGrps (c.denyRequest r txn type bit) := by
  have h1 : c.Flows recordGrps (c.headEvent h bit) := (Chip.Flows.refl c).headEvent
  have hup : ((c.headEvent h bit).head h).link = .up := (h1.links h).trans hu
  unfold Chip.denyRequest
  simp only [hr]
  split
  · have hreq (b : EventBody) : (c.headEvent h bit).requestRecord r .failure b = (c.headEvent h bit).recordAt [h] .failure b := by
      unfold Chip.requestRecord
      simp only [hr]
    have h2 (b : EventBody) : c.Flows recordGrps ((c.headEvent h bit).recordAt [h] .failure b) := h1.recordAt
    rw [hreq, Chip.ackWrite_head hr (((h2 _).links h).trans hu)]
    refine ⟨?_, fun k hne => ?_, (h2 _).emit.keeps⟩
    · exact (Chip.evt_recordAt ..).trans (c.evt_headEvent h bit)
    · show ((c.headEvent h bit).recordAt [h] .failure _).head k = _
      rw [Chip.head_recordAt_one, Chip.head_headRecord, if_neg hne, Chip.head_headEvent_ne hne]
  · rw [Chip.completeRead_head hr hup]
    dsimp only
    rw [if_pos rfl]
    refine ⟨?_, fun k hne => ?_, h1.emit.headEvent.recordAt.keeps⟩
    · rw [Chip.evt_recordAt, Chip.evt_headEvent]
      show ((c.headEvent h bit).head h).evt ||| _ = _
      rw [Chip.evt_headEvent]
    · rw [Chip.head_recordAt_one, Chip.head_headRecord, if_neg hne, Chip.head_headEvent_ne hne]
      exact Chip.head_headEvent_ne hne bit

/-- A request of a head whose IDE check fails: the stream goes off, the link trains again, and nothing is stored. -/
theorem Chip.ideFail_ends {c : Chip} {h : HeadNo} (hu : (c.head h).link = .up) :
    ((c.ideFail h).head h).link = .training ∧ ((c.ideFail h).head h).ideOn = false ∧ ((c.ideFail h).head h).evt = (c.head h).evt ||| 0b000101 ∧
      (∀ k, k ≠ h → (c.ideFail h).head k = c.head k) ∧ (c.ideFail h).cache.lines = c.cache.lines ∧ c.keepsBut downGrps (c.ideFail h) := by
  have hhead (k : HeadNo) : ((((c.headEvent h 2).bump 0x1403 (h.val + 1)).onHead h fun d => { d with ideOn := false }).head k) =
      if k = h then { c.head h with evt := (c.head h).evt ||| (1#6 <<< 2), ideOn := false } else c.head k := by
    rw [Chip.head_onHead]
    split
    · next hk =>
      subst hk
      show { (c.headEvent k 2).head k with ideOn := false } = _
      unfold Chip.headEvent
      rw [Chip.head_onHead_same]
    · next hk => exact Chip.head_headEvent_ne hk 2
  have hk : c.keepsBut downGrps (((c.headEvent h 2).bump 0x1403 (h.val + 1)).onHead h fun d => { d with ideOn := false }) :=
    (((Chip.keepsBut_refl c _).headEvent _ _ (by decide)).bump _ _ _ (by decide)).onHead _ _ (by decide)
  unfold Chip.ideFail
  rw [Chip.head_headDown, if_pos rfl, hhead h, if_pos rfl]
  refine ⟨rfl, rfl, ?_, fun k hne => ?_, Chip.lines_headDown .., Chip.keepsBut_trans hk (Chip.keepsBut_headDown _ _ _)⟩
  · show (if (c.head h).link = .up then ((c.head h).evt ||| (1#6 <<< 2)) ||| 1 else _) = _
    rw [if_pos hu, BitVec.or_assoc]
    rfl
  · rw [Chip.head_headDown, if_neg hne, hhead, if_neg hne]

/-! ### A write to a pair -/

theorem Cache.stores_of_core {k j : Cache} (h : k.core = j.core) : k.stores = j.stores := by
  unfold Cache.stores
  rw [show k.frames = j.frames by simpa [Cache.core] using congrArg Cache.frames h, show k.lines = j.lines by simpa [Cache.core] using congrArg Cache.lines h,
    show k.waysScratch = j.waysScratch by simpa [Cache.core] using congrArg Cache.waysScratch h,
    show k.waysPin = j.waysPin by simpa [Cache.core] using congrArg Cache.waysPin h]

theorem Chip.bistEnd_table (c : Chip) (v e d : Nat) : (c.bistEnd v e d).obj.table = c.obj.table := by
  unfold Chip.bistEnd
  split
  · rfl
  · dsimp only
    split <;> rfl

theorem Chip.setSquall_table (c : Chip) (v : Nat) : (c.setSquall v).obj.table = c.obj.table := by
  unfold Chip.setSquall
  split
  · rfl
  · extract_lets was c1 c2 c3
    have h2 : c1.Flows [.outs] c2 := (Chip.Flows.refl c1).sendTwin
    have h3 : c3.obj.table = c2.obj.table := by
      unfold c3
      split
      · exact c2.bistEnd_table 2 0 0
      · rfl
    have h4 : c3.Flows [.ring, .outs] (if (was = 0 || v = 0) = true then c3.notify 4 0x3011 1 [BitVec.ofNat 8 v] else c3) :=
      (Chip.Flows.refl c3).notify.ite (.refl c3)
    rw [h4.keeps.obj_eq, h3, h2.keeps.obj_eq]
    rfl

theorem Chip.evalSquall_table (c : Chip) : c.evalSquall.obj.table = c.obj.table := by
  unfold Chip.evalSquall
  split
  · rfl
  · split
    · split
      · rfl
      · extract_lets d
        have h1 : d.Flows (.cache :: .dolly :: recordGrps) (d.vendorRecord .warning 0x0101 0x3011 1 [BitVec.ofNat 8 d.cache.squall]).unclaimAll :=
          (Chip.Flows.refl d).vendorRecord.unclaimAll
        rw [h1.keeps.obj_eq]
        exact c.setSquall_table _
    · split
      · exact c.setSquall_table 0
      · exact c.setSquall_table _

/-- The line of a written pair is held with its new value, in both frames. -/
theorem Chip.DirtyPair.held_wrote {c d : Chip} {line f g : Nat} (p : c.DirtyPair line f g) {v : Stored}
    (h : d.cache.stores = (c.wrotePair f g (lineSector line) v).cache.stores) :
    d.held line = some (f, v) ∧ d.sector g (lineSector line) = v := by
  have hmarks : c.Marks (lineSeg line) (lineSector line) d := (p.marks v).of_stores h
  have hlines : d.cache.lines = (c.cache.lines.put (64 * f + lineSector line) v).put (64 * g + lineSector line) v := (Prod.mk.inj (Prod.mk.inj h).2).1
  have hne : 64 * f + lineSector line ≠ 64 * g + lineSector line := by have := p.ne; omega
  have hf : d.sector f (lineSector line) = v := Chip.sector_stored (by rw [hlines, SMap.find_put_of_ne _ _ hne, SMap.find_put_self])
  have hdirty : (d.frame f).dirty.getLsbD (lineSector line) = true := (hmarks.frame f).dirty_stays _ p.dirty
  refine ⟨?_, Chip.sector_stored (by rw [hlines, SMap.find_put_self])⟩
  unfold Chip.held
  dsimp only
  rw [hmarks.lookup, p.found]
  simp only [hdirty, hf, Bool.or_true, if_true]

/-- The other lines are as they were. -/
theorem Chip.DirtyPair.held_beside {c d : Chip} {line f g : Nat} (p : c.DirtyPair line f g) {v : Stored}
    (h : d.cache.stores = (c.wrotePair f g (lineSector line) v).cache.stores) (hu : ∀ q ∈ c.cache.frames, q.2.unbuilt = false) {l : Nat} (hl : l ≠ line) :
    (d.held l).map Prod.snd = (c.held l).map Prod.snd := by
  have hmarks : c.Marks (lineSeg line) (lineSector line) d := (p.marks v).of_stores h
  have hlines : d.cache.lines = (c.cache.lines.put (64 * f + lineSector line) v).put (64 * g + lineSector line) v := (Prod.mk.inj (Prod.mk.inj h).2).1
  obtain ⟨fr, hg, hseg, -⟩ := p.other
  have hgs : (c.frame g).seg = lineSeg line := by
    unfold Chip.frame
    rw [hg]
    exact hseg
  exact hmarks.held_other p.sorted p.seg hgs (fun q hqf hqg => by rw [hlines, SMap.find_put_of_ne _ _ hqg, SMap.find_put_of_ne _ _ hqf]) hu hl

end Sys2Proof.Machine

open Sys2Proof Sys2Proof.Machine

section
variable {s : State} {h : HeadNo} {hpa : BitVec 64} {tag : BitVec 16} {ideOk : Bool}

/-- A read of a line that this chip serves and the cache holds. -/
theorem hostRead_held {dpa f : Nat} {v : Stored} (ht : s.chip.takesNow h ideOk) (hd : (s.chip.head h).decode hpa.toNat = some dpa)
    (hs : s.chip.serves h (dpa / 64)) (hh : s.chip.held (dpa / 64) = some (f, v)) :
    Completes (.hostRead h hpa tag ideOk .ok) s fun c =>
      Output.readDone h tag (if v.poison then 0 else v.data) v.poison (s.chip.devLoad h) ∈ s.chip.sent c ∧ c.cache.lines = s.chip.cache.lines ∧
        (v.poison = true → c.poisonAt (dpa / 64) ≠ none ∨ c.integ.overflow = true) ∧ (v.poison = false → c.integ = s.chip.integ) ∧
        s.chip.keepsBut [.heads, .cache, .integ, .ring, .ledger, .outs] c := by
  obtain ⟨ds, ms, n, he⟩ := Chip.hostRequest_home ht hd hs { tag := tag }
  have hm : s.chip.missOf (dpa / 64) = none := hs.2.2.2.2.2.2
  obtain ⟨hsent, hlines, hmark, hplain, hkeep⟩ := Chip.homeRead_hit (a := s.chip) (c := s.chip.descUsed ds ms n) (ds := ds) (ms := ms) (k := n)
    (r := { src := .head h, arrival := s.chip.pairHead h, line := dpa / 64, tag := tag }) rfl hm hh rfl ht.1.1
  refine .of_onChip (f := fun c => c.hostRequest h hpa.toNat ideOk { tag := tag } .ok) rfl he ⟨?_, ?_, ?_, ?_, Chip.keepsBut_ended hkeep⟩
  · rw [Chip.sent_ended]
    exact hsent
  · rw [Chip.ended_cache]
    exact hlines
  · unfold Chip.poisonAt
    rw [Chip.ended_integ]
    exact hmark
  · rw [Chip.ended_integ]
    exact hplain

/-- A read of a line that this chip serves, that was never written. -/
theorem hostRead_unwritten {dpa : Nat} (ht : s.chip.takesNow h ideOk) (hd : (s.chip.head h).decode hpa.toNat = some dpa)
    (hs : s.chip.serves h (dpa / 64)) (hh : s.chip.held (dpa / 64) = none) (hp : s.chip.poisonAt (dpa / 64) = none)
    (hw : s.chip.lineWritten (dpa / 64) = false) :
    Completes (.hostRead h hpa tag ideOk .ok) s fun c =>
      c.outs = s.chip.outs ++ [.readDone h tag 0 false (s.chip.devLoad h)] ∧ c.cache.lines = s.chip.cache.lines ∧ c.cache.frames = s.chip.cache.frames ∧
        s.chip.keepsBut [.cache, .ring, .outs] c := by
  obtain ⟨ds, ms, n, he⟩ := Chip.hostRequest_home ht hd hs { tag := tag }
  have hm : s.chip.missOf (dpa / 64) = none := hs.2.2.2.2.2.2
  have hz := Chip.homeRead_zero (a := s.chip) (c := s.chip.descUsed ds ms n) (ds := ds) (ms := ms) (k := n)
    (r := { src := .head h, arrival := s.chip.pairHead h, line := dpa / 64, tag := tag }) rfl hm hh hp hw rfl ht.1.1
  refine .of_onChip (f := fun c => c.hostRequest h hpa.toNat ideOk { tag := tag } .ok) rfl (he.trans hz) ⟨?_, ?_, ?_, Chip.keepsBut_ended ?_⟩
  · rw [Chip.ended_outs]
    rfl
  · rw [Chip.ended_cache]
    rfl
  · rw [Chip.ended_cache]
    rfl
  · exact ((s.chip.descUsed_flows ds ms n).mono.emit).keeps

/-- A write of a line that this chip serves and that is dirty in the pair of frames of its segment. -/
theorem hostWrite_pair {data : Line} {mask : Mask} {poison : Bool} {dpa f g : Nat} (ht : s.chip.takesNow h ideOk)
    (hd : (s.chip.head h).decode hpa.toNat = some dpa) (hs : s.chip.serves h (dpa / 64)) (hm : s.chip.mirrorsLine (dpa / 64) = false)
    (p : s.chip.DirtyPair (dpa / 64) f g) :
    Completes (.hostWrite h hpa tag data mask poison ideOk .ok) s fun c =>
      (∃ l, Output.writeDone h tag l ∈ s.chip.sent c) ∧
        c.held (dpa / 64) = some (f, (s.chip.sector f (lineSector (dpa / 64))).merged data mask poison) ∧
        c.sector g (lineSector (dpa / 64)) = (s.chip.sector f (lineSector (dpa / 64))).merged data mask poison ∧
        ((∀ q ∈ s.chip.cache.frames, q.2.unbuilt = false) → ∀ l, l ≠ dpa / 64 → (c.held l).map Prod.snd = (s.chip.held l).map Prod.snd) ∧
        c.obj.table = s.chip.obj.table := by
  obtain ⟨ds, ms, n, he⟩ := Chip.hostRequest_home ht hd hs { write := true, data := data, mask := mask, poison := poison, tag := tag }
  obtain ⟨hsorted, hfound, hkind, hdirty, hpeer, hne, hother, hpins, hidle⟩ := p
  have p' : (s.chip.descUsed ds ms n).DirtyPair (dpa / 64) f g := ⟨hsorted, hfound, hkind, hdirty, hpeer, hne, hother, hpins, hidle⟩
  obtain ⟨e, m, hw, hstores, hflows⟩ := Chip.DirtyPair.homeWrite
    (r := { src := .head h, arrival := s.chip.pairHead h, write := true, line := dpa / 64, data := data, mask := mask, poison := poison, tag := tag }) p' hm
  have h1 : s.chip.Flows writeGrps e := (s.chip.descUsed_flows ds ms n).mono.trans hflows
  have hack : e.ackWrite { src := .head h, arrival := s.chip.pairHead h, write := true, line := dpa / 64, data := data, mask := mask, poison := poison, tag := tag, metPoison := m } =
      e.emit (.writeDone h tag (e.devLoad h)) := Chip.ackWrite_head rfl ((h1.links h).trans ht.1.1)
  rw [hack] at hw
  have hfinal : (e.emit (.writeDone h tag (e.devLoad h))).evalSquall.cache.stores = e.cache.stores := Cache.stores_of_core (Chip.evalSquall_core _)
  refine .of_onChip (f := fun c => c.hostRequest h hpa.toNat ideOk { write := true, data := data, mask := mask, poison := poison, tag := tag } .ok) rfl
    (he.trans hw) ?_
  have hst : (Chip.ended s.chip (e.emit (.writeDone h tag (e.devLoad h))).evalSquall).cache.stores =
      ((s.chip.descUsed ds ms n).wrotePair f g (lineSector (dpa / 64)) ((s.chip.sector f (lineSector (dpa / 64))).merged data mask poison)).cache.stores := by
    rw [Chip.ended_cache, hfinal]
    exact hstores
  obtain ⟨hheld, hpeerHeld⟩ := p'.held_wrote hst
  refine ⟨⟨e.devLoad h, ?_⟩, hheld, hpeerHeld, fun hu l hl => p'.held_beside hst hu hl, ?_⟩
  · rw [Chip.sent_ended]
    exact Chip.sent_mono (Chip.sent_emit h1.sent _) ((Chip.Flows.refl (l := squallGrps) _).evalSquall).sent
  · rw [Chip.ended_obj, Chip.evalSquall_table]
    exact congrArg Objects.table h1.keeps.obj_eq

/-- A request of a head that withholds its credits, or behind one that waits outside, waits outside the device. -/
theorem Chip.hostRequest_outside {c : Chip} (ht : c.takes h ideOk) (hs : c.staysOutside h) (n : Nat) (r : Req) (ev : HbmEvent) :
    c.hostRequest h n ideOk r ev =
      c.onCache fun k => { k with outside := k.outside ++ [{ r with src := .head h, arrival := c.pairHead h, line := n / 64 }] } := by
  obtain ⟨hup, hmem, hide⟩ := ht
  have hdown : ((c.head h).link != .up || !(c.head h).memActive) = false := by simp [hup, hmem]
  have hfail : ((c.head h).ideOn && !ideOk) = false := by
    cases hon : (c.head h).ideOn with
    | false => rfl
    | true => simp [hide hon]
  have hout : (c.withheld h || c.cache.outside.any (fun x => decide (x.src = .head h))) = true := by
    unfold Chip.staysOutside at hs
    simpa using hs
  unfold Chip.hostRequest
  simp only [hdown, hfail, hout, Bool.false_eq_true, if_false, if_true]

/-- A request that a head takes at once at an address in no committed decoder is denied as unmapped. -/
theorem Chip.hostRequest_nowhere {c : Chip} (ht : c.takesNow h ideOk) {n : Nat} (hd : (c.head h).decode n = none) (r : Req) (ev : HbmEvent) :
    c.hostRequest h n ideOk r ev = c.denyRequest { r with src := .head h, arrival := c.pairHead h, line := n / 64 } 0x80 1 3 := by
  rw [Chip.hostRequest_taken ht]
  unfold Chip.takeRequest
  simp only [hd]

/-- A head whose link is not up, or whose memory is not active, takes nothing. -/
theorem Chip.hostRequest_refused {c : Chip} (hn : ¬ ((c.head h).link = .up ∧ (c.head h).memActive = true)) (n : Nat) (r : Req) (ev : HbmEvent) :
    c.hostRequest h n ideOk r ev = c := by
  have hdown : ((c.head h).link != .up || !(c.head h).memActive) = true := by
    by_cases hu : (c.head h).link = .up
    · have hm : (c.head h).memActive = false := by simpa [hu] using hn
      simp [hm]
    · simp [hu]
  unfold Chip.hostRequest
  simp only [hdown, if_true]

/-- A request whose IDE check fails. -/
theorem Chip.hostRequest_insecure {c : Chip} (hup : (c.head h).link = .up) (hmem : (c.head h).memActive = true) (hon : (c.head h).ideOn = true)
    (hok : ideOk = false) (n : Nat) (r : Req) (ev : HbmEvent) : c.hostRequest h n ideOk r ev = c.ideFail h := by
  unfold Chip.hostRequest
  simp [hup, hmem, hon, hok]

end

/-- Settles O8. The requests served at once go through `Chip.hostRequest_home` to a read of what the cache holds, or to a write of the pair
of frames; the others are turned away, each by the lemma that says how. -/
theorem hostRequestsHere : Obligations.HostRequestsHere := by
  refine ⟨fun s h hpa tag ideOk dpa ht hd hs => ?_, fun s h hpa tag data mask poison ideOk dpa f g fr ht hwf hd hs hm hl hk hb hp hne hg hseg hkind hpins => ?_,
    fun s h hpa tag ideOk ev data mask poison => ?_⟩
  · split
    · next hh => exact hostRead_held ht hd hs hh
    · next hh => exact fun hp hw => hostRead_unwritten ht hd hs hh hp hw
  · exact hostWrite_pair ht hd hs hm ⟨hwf.2.2.1, hl, hk, hb, hp, hne, ⟨fr, hg, hseg, hkind⟩, hpins, hs.2.2.2.2.2.2⟩
  · have hrow (i : Instr) (hi : i = .hostRead h hpa tag ideOk ev ∨ i = .hostWrite h hpa tag data mask poison ideOk ev) :
        ∃ r : Req, exec i s = s.onChip fun c => c.hostRequest h hpa.toNat ideOk r ev := by
      rcases hi with rfl | rfl
      · exact ⟨{ tag := tag }, rfl⟩
      · exact ⟨{ write := true, data := data, mask := mask, poison := poison, tag := tag }, rfl⟩
    refine ⟨fun ht hs => ?_, fun ht hd => ?_, fun i hi => ⟨fun hn => ?_, fun ⟨hup, hmem, hon, hok⟩ => ?_⟩⟩
    · intro r
      have hk (q : Req) : s.chip.keepsBut [.cache] (s.chip.onCache fun k => { k with outside := k.outside ++ [q] }) := (Chip.Flows.refl s.chip).onCache.keeps
      refine ⟨.of_onChip (f := fun c => c.hostRequest h hpa.toNat ideOk { tag := tag } ev) rfl (Chip.hostRequest_outside ht hs ..) ⟨?_, Chip.keepsBut_ended (hk _)⟩,
        .of_onChip (f := fun c => c.hostRequest h hpa.toNat ideOk { write := true, data := data, mask := mask, poison := poison, tag := tag } ev) rfl
          (Chip.hostRequest_outside ht hs ..) ⟨?_, Chip.keepsBut_ended (hk _)⟩⟩
      · rw [Chip.ended_cache]
        rfl
      · rw [Chip.ended_cache]
        rfl
    · have hup := ht.1.1
      have hshow (r : Req) (hr : r.src = .head h) := Chip.denyRequest_shows hr hup 0x80 1 3
      refine ⟨.of_onChip (f := fun c => c.hostRequest h hpa.toNat ideOk { tag := tag } ev) rfl (Chip.hostRequest_nowhere ht hd ..) ?_,
        .of_onChip (f := fun c => c.hostRequest h hpa.toNat ideOk { write := true, data := data, mask := mask, poison := poison, tag := tag } ev) rfl
          (Chip.hostRequest_nowhere ht hd ..) ?_⟩
      · obtain ⟨hevt, hother, hkeep⟩ := hshow { src := .head h, arrival := s.chip.pairHead h, line := hpa.toNat / 64, tag := tag } rfl
        refine ⟨?_, ?_, fun k hk => ?_, Chip.keepsBut_ended hkeep⟩
        · rw [Chip.sent_ended]
          exact (Chip.denyRequest_sends List.prefix_rfl rfl hup 0x80 1 3).1 rfl
        · rw [Chip.ended_head]
          exact hevt.trans (BitVec.or_assoc ..)
        · rw [Chip.ended_head, hother k hk]
      · obtain ⟨hevt, hother, hkeep⟩ :=
          hshow { src := .head h, arrival := s.chip.pairHead h, write := true, line := hpa.toNat / 64, data := data, mask := mask, poison := poison, tag := tag } rfl
        refine ⟨?_, ?_, fun k hk => ?_, Chip.keepsBut_ended hkeep⟩
        · rw [Chip.sent_ended]
          exact (Chip.denyRequest_sends List.prefix_rfl rfl hup 0x80 1 3).2 rfl
        · rw [Chip.ended_head]
          exact hevt
        · rw [Chip.ended_head, hother k hk]
    · obtain ⟨r, hr⟩ := hrow i hi
      exact .of_onChip hr (Chip.hostRequest_refused hn ..) (Chip.keepsBut_ended (Chip.keepsBut_refl _ _))
    · obtain ⟨r, hr⟩ := hrow i hi
      obtain ⟨h1, h2, h3, h4, h5, h6⟩ := Chip.ideFail_ends (c := s.chip) (h := h) hup
      refine .of_onChip hr (Chip.hostRequest_insecure hup hmem hon hok ..) ⟨?_, ?_, ?_, fun k hk => ?_, ?_, Chip.keepsBut_ended (Chip.keepsBut_mono h6 (by decide))⟩
      · rw [Chip.ended_head, h1]
      · rw [Chip.ended_head, h2]
      · rw [Chip.ended_head, h3]
      · rw [Chip.ended_head, h4 k hk]
      · rw [Chip.ended_cache, h5]
end

section
/-! A step with no command waiting: what the background engines change, and the tick. -/

namespace Sys2Proof.Machine

-- One theorem at a time: elaborated at once, their nested proofs wait for one another, a thread and its stack for each.
set_option Elab.async false

/-- What the background engines change at a tick. -/
abbrev engineGrps : List Grp := [.cache, .hbm, .med, .sec, .outs]

/-- On its way from `a` to `b` a chip changes only what the background engines work on, and the same requests wait. -/
structure Chip.Works (a b : Chip) : Prop where
  keeps : a.keepsBut engineGrps b
  queues : b.cache.queues = a.cache.queues

theorem Chip.Works.refl (a : Chip) : a.Works a := ⟨Chip.keepsBut_refl _ _, rfl⟩

section
variable {a c : Chip} (w : a.Works c)
include w

theorem Chip.Works.ite {d : Chip} {p : Prop} {_ : Decidable p} (j : a.Works d) : a.Works (if p then c else d) := by
  split
  · exact w
  · exact j

theorem Chip.Works.foldl {α : Type} {xs : List α} {f : Chip → α → Chip} (hf : ∀ d x, a.Works d → a.Works (f d x)) : a.Works (xs.foldl f c) := by
  induction xs generalizing c with
  | nil => exact w
  | cons x r ih => exact ih (hf c x w)

theorem Chip.Works.onCache {f : Cache → Cache} (hf : ∀ k, (f k).queues = k.queues := by intro; rfl) : a.Works (c.onCache f) :=
  ⟨w.keeps.onCache _ (by decide), (hf _).trans w.queues⟩
theorem Chip.Works.onHbm {f : Hbm → Hbm} : a.Works (c.onHbm f) := ⟨w.keeps.onHbm _ (by decide), w.queues⟩
theorem Chip.Works.onMed {f : Medium → Medium} : a.Works (c.onMed f) := ⟨w.keeps.onMed _ (by decide), w.queues⟩
theorem Chip.Works.onSec {f : Security → Security} : a.Works (c.onSec f) := ⟨w.keeps.onSec _ (by decide), w.queues⟩
theorem Chip.Works.emit {o : Output} : a.Works (c.emit o) := ⟨w.keeps.emit _ (by decide), w.queues⟩
theorem Chip.Works.choose : a.Works c.choose := w.onCache
theorem Chip.Works.drawRandom : a.Works c.drawRandom.2 := by
  dsimp only [Chip.drawRandom]
  exact w.onSec

theorem Chip.Works.cacheOnly {d : Chip} (h : c.CacheOnly d) : a.Works d := by
  obtain ⟨q, rfl, hq⟩ := h
  exact ⟨w.keeps.onCache _ (by decide), hq.trans w.queues⟩

theorem Chip.Works.sealRun : a.Works c.sealRun := by
  unfold Chip.sealRun
  split
  · exact w
  · next r _ =>
    extract_lets c1 uses
    have h1 : a.Works c1 := w.onSec
    refine w.ite (h1.emit.choose.ite ?_)
    split
    · exact h1.emit.ite (h1.emit.choose.ite h1.drawRandom.onSec.emit)
    · exact h1.emit
    · exact h1.emit
    · exact h1.emit

theorem Chip.Works.scrubOne : a.Works c.scrubOne := by
  unfold Chip.scrubOne
  split
  · exact w
  · exact w.ite w.onMed

theorem Chip.Works.schedStep {p} : a.Works (c.schedStep p) := by
  unfold Chip.schedStep
  extract_lets banks s
  refine w.ite ?_
  split
  · exact w.onHbm
  · refine w.onCache.ite ?_
    split
    · exact w.onHbm
    · exact w

theorem Chip.Works.schedTick : a.Works c.schedTick := w.foldl fun _ _ h => h.schedStep

theorem Chip.Works.rebuildStep : a.Works c.rebuildStep := by
  unfold Chip.rebuildStep
  split
  · exact w
  · refine w.ite ?_
    split
    · exact w.cacheOnly (Chip.CacheOnly.refl c).buildFrame.writeFrame
    · exact w.onHbm

end

/-- The tick counts, and leaves what waits at the cache. -/
theorem Chip.countTick_counts (c : Chip) :
    c.countTick.clk = { c.clk with ticks := if c.pwr.vauxOk = true then c.clk.ticks + 1 else c.clk.ticks } ∧
      c.keepsBut [.clk, .cache] c.countTick ∧ c.countTick.cache.queues = c.cache.queues := by
  have hk : c.keepsBut [.clk, .cache] (c.onClk fun k => { k with ticks := k.ticks + 1 }) := (Chip.keepsBut_refl c _).onClk _ (by decide)
  unfold Chip.countTick
  cases hv : c.pwr.vauxOk with
  | false => exact ⟨rfl, Chip.keepsBut_refl _ _, rfl⟩
  | true =>
    simp only [Bool.not_true, Bool.false_eq_true, if_false, if_true]
    split
    · exact ⟨rfl, hk, rfl⟩
    · exact ⟨rfl, hk.onCache _ (by decide), rfl⟩

/-- With no request outside the device, an idle step counts and lets the background engines work. -/
theorem Chip.idle_works {c : Chip} (ho : c.cache.outside = []) :
    c.idle.clk = { c.clk with ticks := if c.pwr.vauxOk = true then c.clk.ticks + 1 else c.clk.ticks } ∧
      c.keepsBut [.clk, .cache, .hbm, .med, .sec, .ring, .outs] c.idle := by
  obtain ⟨hclk, hkeep, hq⟩ := c.countTick_counts
  have hw := (Chip.Works.refl c.countTick).sealRun.scrubOne.schedTick.rebuildStep
  have hout : c.countTick.sealRun.scrubOne.schedTick.rebuildStep.cache.outside = [] := (congrArg Prod.fst (hw.queues.trans hq)).trans ho
  have hidle : c.idle = c.countTick.sealRun.scrubOne.schedTick.rebuildStep := by
    show Chip.admitOutside _ _ = _
    rw [hout]
    rfl
  rw [hidle]
  exact ⟨hw.keeps.clk_eq.trans hclk,
    Chip.keepsBut_trans (Chip.keepsBut_mono hkeep (by decide)) (Chip.keepsBut_mono hw.keeps (by decide))⟩

theorem Chip.nextDeferred_none {c : Chip} (h : c.deferred = [] ∨ c.mgRuns = false) : c.nextDeferred = none := by
  unfold Chip.nextDeferred
  split
  · rfl
  · next hd =>
    have hm : c.mgRuns = false := h.resolve_left (by simp [hd])
    rw [hm]
    rfl

theorem Chip.nextDeferred_front {c : Chip} {h : HeadNo} {i : Instr} {rest : List (HeadNo × Instr)} (hd : c.deferred = (h, i) :: rest)
    (hm : c.mgRuns = true) : c.nextDeferred = some (i, { c with deferred := rest }) := by
  unfold Chip.nextDeferred
  rw [hd, hm]
  rfl

/-- With no command waiting, a step is the deferred mailbox command, or an idle step. -/
theorem step_empty {s : State} (hp : s.pending = []) :
    step s = match s.chip.nextDeferred with
      | some (i, c) => exec i { s with chip := c }
      | none => s.onChip Chip.idle := by
  obtain ⟨c, p⟩ := s
  subst hp
  rfl

end Sys2Proof.Machine

open Sys2Proof Sys2Proof.Machine

/-- Settles O1. The front of the queue is run by definition; with none waiting, the deferred command or the idle step, whose engines
leave the clock and the heads. -/
theorem stepTakesTheFront : Obligations.StepTakesTheFront := by
  refine ⟨fun _ _ _ => rfl, fun h i rest s hp hd hm => ?_, fun s hp hd => ?_, fun _ _ _ => ⟨rfl, rfl⟩⟩
  · rw [step_empty hp, Chip.nextDeferred_front hd hm]
  · refine ⟨{ s with chip := Chip.ended s.chip s.chip.idle }, ?_, hp, fun ho => ?_⟩
    · rw [step_empty hp, Chip.nextDeferred_none hd]
      rfl
    · obtain ⟨hclk, hkeep⟩ := Chip.idle_works ho
      exact ⟨(Chip.ended_clk ..).trans hclk, Chip.keepsBut_ended hkeep⟩
end

section
/-! A requester's write of an entry, from the checks that it passes to its answer: the chip it is carried out on, and what of it is
the requester's own (13 R358, R365, R368, R375; 03 R91). -/

namespace Sys2Proof.Machine

-- One theorem at a time: elaborated at once, their nested proofs wait for one another, a thread and its stack for each.
set_option Elab.async false

theorem ofBytes_lt (b : List Byte) : ofBytes b < 2 ^ (8 * b.length) := by
  induction b with
  | nil => decide
  | cons x r ih =>
    have hx : x.toNat < 256 := x.isLt
    have hp : 2 ^ (8 * (x :: r).length) = 256 * 2 ^ (8 * r.length) := by
      rw [List.length_cons, Nat.mul_add, Nat.pow_add, Nat.mul_comm]
    rw [hp]
    unfold ofBytes
    omega

theorem toBytes_ofBytes (b : List Byte) : toBytes b.length (ofBytes b) = b := by
  induction b with
  | nil => rfl
  | cons x r ih =>
    have hx : x.toNat < 256 := x.isLt
    unfold ofBytes
    rw [List.length_cons, toBytes, show (x.toNat + 256 * ofBytes r) / 256 = ofBytes r by omega, ih]
    congr 1
    apply BitVec.eq_of_toNat_eq
    rw [BitVec.toNat_ofNat]
    omega

/-- A change of a head that changes nothing at it. -/
theorem Chip.onHead_self {c : Chip} {h : HeadNo} {f : Head → Head} (hf : f (c.head h) = c.head h) : c.onHead h f = c := by
  have hset : c.heads.set h.val (f (c.heads.get h)) h.isLt = c.heads := by
    have hv : f (c.heads.get h) = c.heads.get h := hf
    rw [hv]
    exact Vector.set_getElem_self ..
  unfold Chip.onHead
  rw [hset]

/-! ### The chip that a write is carried out on -/

/-- A chip with other contexts, and other results of entries. -/
def Chip.inAccess (c : Chip) (x : List Context) (y : List DictRes) : Chip :=
  (c.onRing fun r => { r with contexts := x }).onObj fun o => { o with dictRes := y }

/-- The use of its context by a requester changes the contexts, and loses at most results of other requesters. -/
theorem Chip.useContext_inAccess (c : Chip) (q : Requester) :
    ∃ x y, c.useContext q = c.inAccess x y ∧ ∀ z : DictRes, z.req = q → (z ∈ y ↔ z ∈ c.obj.dictRes) := by
  unfold Chip.useContext
  extract_lets mine others isRing full
  split
  · next old ho _ =>
    refine ⟨_, _, rfl, fun z hz => ?_⟩
    have hold : old ∈ others := List.mem_reverse.1 (List.mem_of_find?_eq_some ho)
    have hne : old.req ≠ q := by simpa [others] using (List.mem_filter.1 hold).2
    simp [List.mem_filter, hz, hne.symm]
  · exact ⟨mine :: others, c.obj.dictRes, rfl, fun _ _ => Iff.rfl⟩

theorem levelOf_knownAccess (c : Chip) (a : Access) : c.levelOf (knownAccess a) = c.levelOf a := by
  unfold knownAccess
  split
  · rfl
  · next hq =>
    unfold Chip.levelOf
    split
    · rfl
    · cases hr : a.req with
      | ring m => exact absurd hr (hq m)
      | mailbox h => rfl
      | window h => rfl

theorem knownAccess_req (a : Access) : (knownAccess a).req = a.req := by
  unfold knownAccess
  split <;> rfl

/-- An entry that a write may change whole: none of its bits is kept because it is reserved. -/
structure DictRow.Plain (r : DictRow) (sub : Nat) : Prop where
  writable : r.acc ≠ .ro
  whole : r.type ≠ .domain
  noRsv : r.acc ≠ .rw ∨ rsvMask r sub = 0

section
variable {c : Chip} {a : Access} {index sub : Nat} {bytes : List Byte} {r : DictRow} {x : List Context} {y : List DictRes}

theorem DictRow.Plain.rsvChanged (p : r.Plain sub) (q : Requester) (v : Nat) : (c.inAccess x y).rsvChanged q r sub v = c.rsvChanged q r sub v := by
  unfold Chip.rsvChanged
  rcases p.noRsv with hacc | hrsv
  · simp only [hacc, if_false]
  · simp only [hrsv, Nat.and_zero]

/-- A plain entry passes the same checks on the chip that carries the write out. -/
theorem DictRow.Plain.writeFault (p : r.Plain sub) : (c.inAccess x y).writeFault (knownAccess a) r sub bytes = c.writeFault a r sub bytes := by
  have hlevel : (c.inAccess x y).levelOf (knownAccess a) = c.levelOf a := levelOf_knownAccess c a
  unfold Chip.writeFault
  rw [hlevel, knownAccess_req]
  simp only [p.rsvChanged]
  rfl

theorem Chip.writeFault_length (hf : c.writeFault a r sub bytes = 0) (ht : r.type ≠ .domain) : bytes.length = r.type.size := by
  unfold Chip.writeFault at hf
  by_contra hne
  simp only [ne_eq, ht, not_false_eq_true, hne, decide_true, Bool.and_true, if_true] at hf
  split at hf <;> cases hf

theorem DictRow.Plain.writeEntry (p : r.Plain sub) (he : c.entry index sub = some r) (hi : index < 0xF000) (hf : c.writeFault a r sub bytes = 0) (ok : Bool) :
    (c.inAccess x y).writeEntry (knownAccess a) index sub bytes ok = (c.inAccess x y).applyWrite (knownAccess a) r sub bytes ok := by
  have he' : (c.inAccess x y).entry index sub = some r := he
  have hindex : r.index = index := Chip.entry_index he
  unfold Chip.writeEntry
  rw [he']
  simp only [p.writable, if_false, p.writeFault, hf, ne_eq, not_true_eq_false, hindex, show ¬ 0xF000 ≤ index by omega]

end
end Sys2Proof.Machine
end

section
/-! How a write row carries a write out and answers it, whoever the requester is (13 R358, R361, R375; 03 R91). -/

namespace Sys2Proof.Machine

-- One theorem at a time: elaborated at once, their nested proofs wait for one another, a thread and its stack for each.
set_option Elab.async false

/-- A requester is told how its write ended: the outcome of its transfer, the answer of its mailbox, at the window only a refusal. -/
def Chip.answerWrite (c : Chip) (a : Access) (w : WinWrite) (cmd : BitVec 8) (e : Nat) : Chip :=
  match a.req with
  | .ring _ => c.ringWritten a (BitVec.ofNat 16 w.index) (BitVec.ofNat 8 w.sub) cmd e
  | .mailbox h => c.boxWritten h w.index w.sub e
  | .window h => Chip.windowEnd (e, c) h w

section
variable {c : Chip} {a : Access} {index sub : Nat} {bytes : List Byte} {r : DictRow}

/-- The outcome of a write row: the entry's write on the chip with the requester's context in use, and its answer. -/
def Chip.Carries (c : Chip) (a : Access) (index sub : Nat) (bytes : List Byte) (ok : Bool) (d : Chip) : Prop :=
  ∃ x y w cmd, (∀ z : DictRes, z.req = a.req → (z ∈ y ↔ z ∈ c.obj.dictRes)) ∧ w.index = index ∧ w.sub = sub ∧
    d = ((c.inAccess x y).writeEntry (knownAccess a) index sub bytes (signedFor a ok)).2.answerWrite a w cmd
      ((c.inAccess x y).writeEntry (knownAccess a) index sub bytes (signedFor a ok)).1

theorem Chip.ringWrite_carries {m : BitVec 48} (hq : a.req = .ring m) (hw : c.ringFresh a) (ok : Bool) :
    c.Carries a index sub bytes ok (c.ringWrite a index sub bytes ok) := by
  obtain ⟨hserved, hauth, hclosed, hopen, hmine, hall, herase⟩ := hw
  obtain ⟨x, y, hc, hy⟩ := c.useContext_inAccess a.req
  have hknown : knownAccess a = a := by unfold knownAccess; rw [hq]
  have hsigned : signedFor a ok = ok := by unfold signedFor; rw [hq]
  have hfind (i : BitVec 16) (j cmd : BitVec 8) :
      c.ring.closed.find? (fun k => decide (k.req = a.req ∧ k.tid = a.tid ∧ k.index = i ∧ k.sub = j ∧ k.cmd = cmd)) = none :=
    List.find?_eq_none.2 fun k hk => by
      have := hclosed k hk
      simp only [decide_eq_true_eq]
      exact fun ⟨h1, h2, _⟩ => this h1 h2
  unfold Chip.ringWrite Chip.ringRequest Chip.ringFrame
  extract_lets isDomain cmd
  refine ⟨x, y, { index := index, sub := sub, part := .word, value := 0 }, cmd, hy, rfl, rfl, ?_⟩
  rw [hknown, hsigned]
  unfold Chip.answerWrite
  simp only [hq] at *
  simp only [hserved, hauth, hfind, hopen, herase, hc, Nat.not_le.2 hmine, Nat.not_le.2 hall, Bool.not_true, Bool.false_eq_true, if_false,
    decide_false, Bool.false_and, Bool.or_false]

theorem Chip.boxWrite_carries {h : HeadNo} (hq : a.req = .mailbox h) (hs : c.boxServed h) (he : c.entry index sub = some r) (p : r.Plain sub)
    (hf : c.writeFault a r sub bytes = 0) (ok : Bool) : c.Carries a index sub bytes ok (c.boxWrite h index sub bytes ok) := by
  obtain ⟨hhead, hup, hout, hbell, hrom, hdone, hmg⟩ := hs
  obtain ⟨x, y, hc, hy⟩ := c.useContext_inAccess a.req
  have hknown : knownAccess a = boxAccess h := by unfold knownAccess boxAccess; rw [hq]
  have hsigned : signedFor a ok = ok := by unfold signedFor; rw [hq]
  have hlevel : ¬ (c.inAccess x y).levelOf (boxAccess h) < r.level := by
    rw [← hknown, show (c.inAccess x y).levelOf (knownAccess a) = c.levelOf a from levelOf_knownAccess c a]
    intro hl
    unfold Chip.writeFault at hf
    rw [if_pos hl] at hf
    cases hf
  have he' : (c.inAccess x y).entry index sub = some r := he
  refine ⟨x, y, { index := index, sub := sub, part := .word, value := 0 }, 0, hy, rfl, rfl, ?_⟩
  rw [hknown, hsigned]
  unfold Chip.boxWrite Chip.boxIn Chip.answerWrite
  rw [hq] at hc ⊢
  simp only [Nat.not_le.2 hhead, hup, hout, hbell, hrom, hdone, hmg, hc, decide_false, bne_self_eq_false, Bool.not_true, Bool.or_false, Bool.and_false,
    Bool.false_and, Bool.false_eq_true, if_false]
  unfold Chip.boxDictWrite
  simp only [he', p.writable, p.whole, hlevel, ne_eq, not_true_eq_false, if_false]

/-- A write posted at a head with none pending is the one taken up, on the chip with the head's context in use. -/
theorem Chip.winServed.takesUp {h : HeadNo} {w : WinWrite} (hs : c.winServed h) (hr : c.winEntry w.index w.sub w.part = some r) :
    (c.postWindow h w).TakesUp h w [] r ∧
      (c.postWindow h w).inWrite h [] ((c.postWindow h w).head h).heldLow = c.inAccess (c.windowContexts h) c.obj.dictRes := by
  obtain ⟨ho, hdone, hrom, hmg, hempty⟩ := hs
  have hpost : c.postWindow h w = c.onHead h fun d => { d with pendingWin := d.pendingWin ++ [w] } := by
    rw [Chip.postWindow_open ho hdone hrom (by rw [hempty]; decide), hr]
    rfl
  have hback : (c.onHead h fun d => { ({ d with pendingWin := d.pendingWin ++ [w] } : Head) with pendingWin := [], heldLow := (c.head h).heldLow }) = c :=
    Chip.onHead_self (by show { c.head h with pendingWin := [], heldLow := (c.head h).heldLow } = c.head h; rw [← hempty])
  rw [hpost]
  refine ⟨⟨?_, (Bool.and_eq_true_iff.1 ho).2, hdone, hrom, hmg, hr⟩, ?_⟩
  · rw [Chip.head_onHead_same, hempty]
    rfl
  · unfold Chip.inWrite Chip.takenUp
    rw [Chip.head_onHead_same, Chip.onHead_onHead, hback]
    rfl

theorem Chip.winWrite_carries {h : HeadNo} (hq : a.req = .window h) (hs : c.winServed h) (hlen : bytes.length ≤ 8)
    (hwin : (c.winEntry index sub (if bytes.length = 8 then .pair else .word)).isSome = true) (he : c.entry index sub = some r) (p : r.Plain sub)
    (hf : c.writeFault a r sub bytes = 0) (ok : Bool) : c.Carries a index sub bytes ok (c.winWrite h index sub bytes) := by
  have hknown : knownAccess a = { req := .window h } := by unfold knownAccess; rw [hq]
  have hsigned : signedFor a ok = true := by unfold signedFor; rw [hq]
  obtain ⟨r', hr'⟩ := Option.isSome_iff_exists.1 hwin
  obtain ⟨hentry, -⟩ := Option.filter_eq_some_iff.1 hr'
  obtain rfl : r' = r := Option.some.inj (hentry.symm.trans he)
  have hsize : bytes.length = r'.type.size := Chip.writeFault_length hf p.whole
  have hlt : ofBytes bytes < 2 ^ (8 * r'.type.size) := hsize ▸ ofBytes_lt bytes
  have hb : toBytes r'.type.size (ofBytes bytes) = bytes := hsize ▸ toBytes_ofBytes bytes
  have hval : (BitVec.ofNat 64 (ofBytes bytes)).toNat = ofBytes bytes := by
    rw [BitVec.toNat_ofNat, Nat.mod_eq_of_lt (lt_of_lt_of_le (ofBytes_lt bytes) (Nat.pow_le_pow_right (by decide) (by omega)))]
  let w : WinWrite := { index := index, sub := sub, part := if bytes.length = 8 then .pair else .word, value := BitVec.ofNat 64 (ofBytes bytes) }
  obtain ⟨t, hin⟩ := hs.takesUp (w := w) hr'
  have hstore : (c.inAccess (c.windowContexts h) c.obj.dictRes).winPlain h w r' =
      (c.inAccess (c.windowContexts h) c.obj.dictRes).writeEntry { req := .window h } index sub bytes true := by
    unfold Chip.winPlain Chip.winStore
    by_cases h8 : bytes.length = 8
    · simp only [w, h8, if_true, hval, hb]
    · simp only [w, h8, if_false, hval, Nat.not_le.2 hlt, decide_false, Bool.and_false, Bool.false_eq_true, Nat.mod_eq_of_lt hlt, hb]
  refine ⟨c.windowContexts h, c.obj.dictRes, w, 0, fun _ _ => Iff.rfl, rfl, rfl, ?_⟩
  rw [hknown, hsigned]
  unfold Chip.winWrite Chip.answerWrite
  rw [if_neg (by omega), hq]
  show (if ((c.postWindow h w).head h).pendingWin.length = 1 then (c.postWindow h w).applyWindow h else c.postWindow h w) = _
  rw [if_pos (by rw [t.pending]; rfl), t.applyWindow, hin]
  show Chip.windowEnd ((c.inAccess (c.windowContexts h) c.obj.dictRes).winPlain h w r') h w = _
  rw [hstore]

/-- A write that passes the checks of a plain entry is carried out and answered. -/
theorem Chip.writeRow_carries (hw : c.writes a index sub bytes) (he : c.entry index sub = some r) (p : r.Plain sub) (ok : Bool) :
    c.Carries a index sub bytes ok (c.writeRow a index sub bytes ok) := by
  obtain ⟨hasks, r', he', hf⟩ := hw
  obtain rfl : r' = r := Option.some.inj (he'.symm.trans he)
  unfold Chip.asks at hasks
  unfold Chip.writeRow
  cases hq : a.req with
  | ring m =>
    rw [hq] at hasks
    exact Chip.ringWrite_carries hq hasks ok
  | mailbox h =>
    rw [hq] at hasks
    exact Chip.boxWrite_carries hq hasks.1 he p hf ok
  | window h =>
    rw [hq] at hasks
    obtain ⟨hs, hlen, hwin⟩ := hasks
    exact Chip.winWrite_carries hq hs hlen hwin he p hf ok

end
end Sys2Proof.Machine
end

section
/-! The answer of a write row, and the rule for a row that writes a plain entry: its action on the chip with the requester's context in
use gives the whole row. -/

namespace Sys2Proof.Machine

-- One theorem at a time: elaborated at once, their nested proofs wait for one another, a thread and its stack for each.
set_option Elab.async false

/-- Chip `c` is chip `d` once a command is answered and has ended: the outcome of its transfer is kept, and what is sent is counted. -/
structure Chip.Answered (d c : Chip) : Prop where
  keeps : d.keepsBut [.ring, .outs] c
  stored : c.ring.stored = d.ring.stored
  vals : ∀ k, k ≠ dictKey 0x1101 3 → k ≠ dictKey 0x1101 4 → c.ring.vals.find k = d.ring.vals.find k
  sent : d.outs <+: c.outs

theorem Chip.Answered.par {d c : Chip} (h : d.Answered c) (i j z : Nat) : c.par i j z = d.par i j z := by
  unfold Chip.par
  rw [h.stored]

theorem Chip.Answered.vol {d c : Chip} (h : d.Answered c) {i j : Nat} (h3 : dictKey i j ≠ dictKey 0x1101 3) (h4 : dictKey i j ≠ dictKey 0x1101 4) (z : Nat) :
    c.vol i j z = d.vol i j z := by
  unfold Chip.vol SMap.getD
  rw [h.vals _ h3 h4]

theorem Chip.ended_stored (was c : Chip) : (Chip.ended was c).ring.stored = c.ring.stored := by
  unfold Chip.ended
  rw [Chip.latch_ring, Chip.countSent_stored]

/-- What a command answers with, beside its effect: messages, and a change of the ring part that leaves its values. -/
theorem Chip.Answered.of_ended {was d e : Chip} (hk : d.keepsBut [.ring, .outs] e) (hs : e.ring.stored = d.ring.stored) (hv : e.ring.vals = d.ring.vals)
    (ho : d.outs <+: e.outs) : d.Answered (Chip.ended was e) := by
  refine ⟨Chip.keepsBut_ended hk, (Chip.ended_stored _ _).trans hs, fun k h3 h4 => ?_, by rw [Chip.ended_outs]; exact ho⟩
  have he : sameRing e.ring (Chip.ended was e).ring := by
    unfold Chip.ended
    rw [Chip.latch_ring]
    exact Chip.countSent_ring _ _
  rw [he.2 k h3 h4, hv]

section
variable {a d was : Chip} {q : Access} {w : WinWrite} {cmd : BitVec 8}

/-- A write that is done is answered so, whoever asked. -/
theorem Chip.answerWrite_done (hd : a.outs <+: d.outs) (hwin : ∀ h, q.req = .window h → (d.head h).winErr = (a.head h).winErr)
    (hx : w.index < 0xF000 ∧ w.index ≠ 0x8011) : a.granted (Chip.ended was (d.answerWrite q w cmd 0)) q w.index w.sub ∧ d.Answered (Chip.ended was (d.answerWrite q w cmd 0)) := by
  unfold Chip.granted Chip.answerWrite
  cases hq : q.req with
  | ring m =>
    have hne : ¬ (BitVec.ofNat 16 w.index = 0x8011 ∧ BitVec.ofNat 8 w.sub = 1) := fun ⟨h, _⟩ => by
      have := congrArg BitVec.toNat h
      rw [BitVec.toNat_ofNat, Nat.mod_eq_of_lt (by omega)] at this
      have h2 : w.index = 0x8011 := this
      omega
    dsimp only
    rw [Chip.sent_ended]
    unfold Chip.ringWritten
    simp only [ne_eq, not_true_eq_false, if_false, if_neg hne]
    unfold Chip.closeWith Chip.sendAnswer Chip.dictFrame
    rw [hq]
    dsimp only
    have hk : d.keepsBut [.ring, .outs] (d.emit (.dict m q.tid 7 (BitVec.ofNat 16 w.index) (BitVec.ofNat 8 w.sub) 0 0 0 [] (authed q))) :=
      (Chip.keepsBut_refl d _).emit _ (by decide)
    exact ⟨Chip.sent_emit hd _, .of_ended (hk.onRing _ (by decide)) rfl rfl (List.prefix_append _ _)⟩
  | mailbox h =>
    have hne : ¬ ((0 : Nat) = 0 ∧ w.index = 0x8011 ∧ w.sub = 1) := fun ⟨_, h, _⟩ => by omega
    dsimp only
    rw [Chip.sent_ended]
    unfold Chip.boxWritten Chip.boxAbort
    rw [if_neg hne, if_pos rfl]
    have hk : d.keepsBut [.ring, .outs] (d.mbox h .success (.bytes (toBytes 4 0 ++ toBytes 4 0))) :=
      ((Chip.keepsBut_refl d _).emit _ (by decide)).emit _ (by decide)
    exact ⟨Chip.sent_mono (Chip.sent_emit hd _) (List.prefix_append _ _), .of_ended hk rfl rfl ((List.prefix_append _ _).trans (List.prefix_append _ _))⟩
  | window h =>
    dsimp only
    rw [Chip.ended_head]
    exact ⟨hwin h hq, .of_ended (Chip.keepsBut_refl _ _) rfl rfl List.prefix_rfl⟩

theorem Chip.inAccess_keeps (x : List Context) (y : List DictRes) : a.keepsBut accessGrps (a.inAccess x y) :=
  ((Chip.keepsBut_refl a _).onRing _ (by decide)).onObj _ (by decide)

/-- A refused write is answered with its code, whoever asked. -/
theorem Chip.answerWrite_refused {x : List Context} {y : List DictRes} {e : Nat} (he : e ≠ 0) :
    a.turnedAway (Chip.ended was ((a.inAccess x y).answerWrite q w cmd e)) q w.index w.sub e := by
  have hk : a.keepsBut accessGrps (a.inAccess x y) := Chip.inAccess_keeps x y
  have hring : ((a.inAccess x y).answerWrite q w cmd e).ring.stored = a.ring.stored ∧ ((a.inAccess x y).answerWrite q w cmd e).obj = (a.inAccess x y).obj ∧
      a.keepsBut accessGrps ((a.inAccess x y).answerWrite q w cmd e) := by
    unfold Chip.answerWrite
    cases hq : q.req with
    | ring m =>
      dsimp only
      unfold Chip.ringWritten
      rw [if_pos he]
      unfold Chip.closeWith Chip.sendAnswer Chip.ringAbort Chip.dictFrame
      rw [hq]
      exact ⟨rfl, rfl, (((hk.emit _ (by decide)).onRing _ (by decide)).bump _ _ _ (by decide)).onRing _ (by decide)⟩
    | mailbox h =>
      dsimp only
      unfold Chip.boxWritten Chip.boxAbort
      rw [if_neg (fun h => he h.1), if_neg he]
      exact ⟨rfl, rfl, ((hk.onRing _ (by decide)).emit _ (by decide)).emit _ (by decide)⟩
    | window h =>
      dsimp only [Chip.windowEnd]
      rw [if_neg he]
      exact ⟨rfl, rfl, hk.winRefused e (by decide) (by decide) (by decide)⟩
  obtain ⟨hstored, hobj, hkeeps⟩ := hring
  refine ⟨?_, ?_, ?_, (Chip.ended_stored _ _).trans hstored, Chip.keepsBut_ended (Chip.keepsBut_mono hkeeps (by simp))⟩
  · unfold Chip.denied Chip.answerWrite
    cases hq : q.req with
    | ring m =>
      dsimp only
      rw [Chip.sent_ended]
      unfold Chip.ringWritten
      rw [if_pos he]
      unfold Chip.closeWith Chip.sendAnswer Chip.ringAbort Chip.dictFrame
      rw [hq]
      dsimp only
      rw [BitVec.ofNat_toNat, BitVec.setWidth_eq]
      exact Chip.sent_emit (a := a) (c := a.inAccess x y) List.prefix_rfl _
    | mailbox h =>
      dsimp only
      rw [Chip.sent_ended]
      unfold Chip.boxWritten Chip.boxAbort
      rw [if_neg (fun h => he h.1), if_neg he]
      exact Chip.sent_mono (Chip.sent_emit (a := a) (c := (a.inAccess x y).recordAbort (.mailbox h) w.index w.sub e) List.prefix_rfl _) (List.prefix_append _ _)
    | window h =>
      dsimp only [Chip.windowEnd]
      rw [if_neg he, Chip.sent_ended, Chip.ended_head, Chip.winRefused_head]
      refine ⟨?_, fun hw => ⟨Head.latchRefusal_winErr .., (Head.latchRefusal_first hw).1⟩⟩
      unfold Chip.sent
      rw [Chip.winRefused_outs]
      show _ ∈ (a.outs ++ _).drop a.outs.length
      rw [List.drop_left]
      exact List.mem_singleton.2 rfl
  · rw [Chip.ended_obj, hobj]
    rfl
  · rw [Chip.ended_obj, hobj]
    rfl

end

/-- The action of a plain entry, on a chip with the requester's context in use: it is carried out and the chip is then as `p` says, or it is
refused with the code and changes nothing. -/
def Chip.ActsOn (c : Chip) (a : Access) (r : DictRow) (sub : Nat) (bytes : List Byte) (ok : Prop) (code : Nat) (p : Chip → Prop) : Prop :=
  ∀ x y, (∀ z : DictRes, z.req = a.req → (z ∈ y ↔ z ∈ c.obj.dictRes)) →
    (ok → ∃ d, (c.inAccess x y).applyWrite (knownAccess a) r sub bytes (signedFor a true) = (0, d) ∧ c.outs <+: d.outs ∧
      (∀ h, a.req = .window h → (d.head h).winErr = (c.head h).winErr) ∧ ∀ e, d.Answered e → p e) ∧
    (¬ ok → (c.inAccess x y).applyWrite (knownAccess a) r sub bytes (signedFor a true) = (code, c.inAccess x y))

/-- A row that writes a plain entry, by the action of the entry. -/
theorem acts_of {i : Instr} {s : State} {a : Access} {index sub : Nat} {bytes : List Byte} {ok : Prop} {code : Nat} {p : Chip → Prop}
    (hi : exec i s = s.onChip fun c => c.writeRow a index sub bytes) (hx : index < 0xF000 ∧ index ≠ 0x8011) (hcode : code ≠ 0)
    (hrow : ∀ r, s.chip.entry index sub = some r → r.Plain sub)
    (hact : ∀ r, s.chip.entry index sub = some r → s.chip.writeFault a r sub bytes = 0 → s.chip.ActsOn a r sub bytes ok code p) :
    Acts i s a index sub bytes ok code p := by
  intro hw
  obtain ⟨-, r, he, hf⟩ := id hw
  obtain ⟨x, y, w, cmd, hy, hwi, hws, hd⟩ := Chip.writeRow_carries hw he (hrow r he) true
  rw [(hrow r he).writeEntry he hx.1 hf] at hd
  obtain ⟨hdone, hrefused⟩ := hact r he hf x y hy
  refine ⟨fun hok => ?_, fun hno => ?_⟩
  · obtain ⟨d, hap, hsent, hwin, hp⟩ := hdone hok
    rw [hap] at hd
    obtain ⟨hg, ha⟩ := Chip.answerWrite_done (was := s.chip) (w := w) (cmd := cmd) hsent hwin (by rw [hwi]; exact hx)
    rw [hwi, hws] at hg
    exact .of_onChip hi hd ⟨hg, hp _ ha⟩
  · rw [hrefused hno] at hd
    refine .of_onChip hi hd ⟨?_, trivial⟩
    rw [← hwi, ← hws]
    exact Chip.answerWrite_refused hcode

end Sys2Proof.Machine
end

section
/-! Cores that stop, restart and retire (01 R17, Table 01-3; 16 R407, R408): the states of the cores, and what else changes. -/

namespace Sys2Proof.Machine

-- One theorem at a time: elaborated at once, their nested proofs wait for one another, a thread and its stack for each.
set_option Elab.async false

/-! ### The states of the cores -/

theorem Chip.cores_setCore (c : Chip) (k j : CoreNo) (s : CoreState) : (c.setCore k s).cores.get j = if j = k then s else c.cores.get j := by
  show (c.cores.set k.val s k.isLt)[j.val] = if j = k then s else c.cores[j.val]
  rw [Vector.getElem_set]
  simp only [Fin.ext_iff, eq_comm]

/-- A core in this state runs. -/
def CoreState.runs (s : CoreState) : Bool :=
  match s with
  | .restarting | .retired => false
  | _ => true

theorem Chip.coreRuns_eq (c : Chip) (k : CoreNo) : c.coreRuns k = (c.cores.get k).runs := rfl

/-- The same cores run, and those that do not are in the same state. -/
def Chip.SameRuns (a c : Chip) : Prop := ∀ k, c.coreRuns k = a.coreRuns k ∧ (a.coreRuns k = false → c.cores.get k = a.cores.get k)

theorem Chip.SameRuns.refl (a : Chip) : a.SameRuns a := fun _ => ⟨rfl, fun _ => rfl⟩

section
variable {a c : Chip} (r : a.SameRuns c)
include r

/-- A core that runs gets a state in which it runs. -/
theorem Chip.SameRuns.setCore {k : CoreNo} {s : CoreState} (hk : c.coreRuns k = true) (hs : s.runs = true) : a.SameRuns (c.setCore k s) := by
  intro j
  rw [Chip.coreRuns_eq, Chip.cores_setCore]
  split
  · next h =>
    subst h
    obtain ⟨hj, -⟩ := r j
    exact ⟨by rw [hs, ← hj, hk], fun hn => by rw [← hj, hk] at hn; cases hn⟩
  · exact r j

theorem Chip.SameRuns.of_cores {d : Chip} (h : d.cores = c.cores) : a.SameRuns d := by
  intro k
  have hk : d.cores.get k = c.cores.get k := by rw [h]
  rw [Chip.coreRuns_eq, hk]
  exact r k

theorem Chip.SameRuns.foldl {α : Type} {l : List α} {f : Chip → α → Chip} (hf : ∀ d x, a.SameRuns d → a.SameRuns (f d x)) : a.SameRuns (l.foldl f c) := by
  induction l generalizing c with
  | nil => exact r
  | cons x l ih => exact ih (hf c x r)

theorem Chip.SameRuns.adoptGroup {held : List CoreNo} : a.SameRuns (c.adoptGroup held) := by
  unfold Chip.adoptGroup
  extract_lets can first second from_
  have hcan (k : CoreNo) (h : can k = true) : c.coreRuns k = true := by
    unfold can at h
    rw [Chip.coreRuns_eq]
    unfold CoreState.runs
    cases hk : c.cores.get k <;> simp_all
  have hfrom (k : CoreNo) (h : k ∈ from_) : c.coreRuns k = true := by
    unfold from_ at h
    split at h
    · split at h
      · exact hcan k (List.mem_filter.1 h).2
      · have hs : c.cores.get k = .standby := by simpa using (List.mem_filter.1 h).2
        rw [Chip.coreRuns_eq, hs]
        rfl
    · exact hcan k (List.mem_filter.1 h).2
  split
  · exact r
  · next k hk =>
    have hruns : c.coreRuns k = true := hfrom k (List.mem_of_getElem? hk)
    exact (r.setCore hruns (by split <;> rfl)).of_cores rfl

theorem Chip.SameRuns.shareGroups : a.SameRuns c.shareGroups := by
  unfold Chip.shareGroups
  refine (r.foldl fun d k h => ?_).foldl fun _ _ h => h.adoptGroup
  split
  · next hk => exact h.setCore hk (by split <;> rfl)
  · exact h

end

/-! ### What else changes -/

theorem Chip.keepsBut.setCore {a c : Chip} {l : List Grp} (k : a.keepsBut l c) (j : CoreNo) (s : CoreState) (hl : Grp.cores ∈ l) : a.keepsBut l (c.setCore j s) := by
  intro g hg
  refine Grp.same.trans g (k g hg) ?_
  cases g
  case cores => exact absurd hl hg
  case ring => exact sameRing.refl _
  all_goals rfl

section
variable {l : List Grp} {a c : Chip} (k : a.Flows l c)
include k

theorem Chip.Flows.setCore {j s} (hl : Grp.cores ∈ l := by decide) : a.Flows l (c.setCore j s) := ⟨k.keeps.setCore _ _ hl, k.sent, k.links, k.cmds⟩

theorem Chip.Flows.onCmd {id f} (hf : ∀ r, (f r).key = r.key := by intro; rfl) (hl : Grp.obj ∈ l := by decide) : a.Flows l (c.onCmd id f) := by
  refine ⟨k.keeps.onObj _ hl, k.sent, k.links, ?_⟩
  exact (Chip.SameCmds.onCmd (a := c) (c := c) (Chip.SameCmds.refl c) hf).trans k.cmds

theorem Chip.Flows.finish {id status detail vals obj} (hl : Grp.obj ∈ l := by decide) : a.Flows l (c.finish id status detail vals obj) := by
  unfold Chip.finish
  split
  · exact k
  · exact k.onCmd (hl := hl)

theorem Chip.Flows.stopCmd {cmd status} (hl : ∀ g ∈ [Grp.obj, .dolly], g ∈ l := by decide) : a.Flows l (c.stopCmd cmd status) := by
  refine k.andThen hl ?_
  unfold Chip.stopCmd
  split
  · exact .refl c
  · exact (Chip.Flows.refl c).onDolly.finish

theorem Chip.Flows.adoptGroup {held} (hl : ∀ g ∈ [Grp.cache, .cores], g ∈ l := by decide) : a.Flows l (c.adoptGroup held) := by
  refine k.andThen hl ?_
  unfold Chip.adoptGroup
  extract_lets can first second from_
  split
  · exact .refl c
  · exact (Chip.Flows.refl c).setCore.onCache

theorem Chip.Flows.shareGroups (hl : ∀ g ∈ [Grp.cache, .cores], g ∈ l := by decide) : a.Flows l c.shareGroups := by
  refine k.andThen hl ?_
  unfold Chip.shareGroups
  exact ((Chip.Flows.refl c).foldl fun _ _ h => h.setCore.ite h).foldl fun _ _ h => h.adoptGroup

/-- What can change as the work of a core passes to its siblings. -/
abbrev passGrps : List Grp := [.obj, .cache, .dolly, .cores]

theorem Chip.Flows.passWork {j s} (hl : ∀ g ∈ passGrps, g ∈ l := by decide) : a.Flows l (c.passWork j s) := by
  refine k.andThen hl ?_
  unfold Chip.passWork
  extract_lets mine c1 c2
  have h2 : c.Flows passGrps c2 := (Chip.Flows.refl c).setCore.onCache.foldl fun _ _ h => h.stopCmd
  exact h2.shareGroups.ite h2

/-- What a core that goes on changes, MG apart. -/
theorem Chip.Flows.coreBack {j : CoreNo} (hj : j ≠ 10) (hl : ∀ g ∈ [Grp.cache, .cores], g ∈ l := by decide) : a.Flows l (c.coreBack j) := by
  refine k.andThen hl ?_
  unfold Chip.coreBack
  simp only [if_neg hj]
  exact ((Chip.Flows.refl c).setCore.shareGroups).ite (Chip.Flows.refl c).setCore

end

section
variable {c : Chip} {k : CoreNo}

/-- A core whose work passes on is in the state given. -/
theorem Chip.passWork_cores (s : CoreState) (hs : s.runs = false) : (c.passWork k s).cores.get k = s := by
  unfold Chip.passWork
  extract_lets mine c1 c2
  have h1 : c1.cores.get k = s := by rw [show c1.cores = (c.setCore k s).cores from rfl, Chip.cores_setCore, if_pos rfl]
  have h2 : c2.cores = c1.cores :=
    ((Chip.Flows.refl (l := [.obj, .dolly]) c1).foldl (xs := mine) fun _ _ h => h.stopCmd).keeps .cores (by decide)
  split
  · have hr : c2.coreRuns k = false := by rw [Chip.coreRuns_eq, h2, h1, hs]
    rw [((Chip.SameRuns.refl c2).shareGroups k).2 hr, h2, h1]
  · rw [h2, h1]

/-- A core other than a placement or media core leaves every other core as it was. -/
theorem Chip.passWork_others (hk : 8 ≤ k.val) (s : CoreState) :
    (∀ j, j ≠ k → (c.passWork k s).cores.get j = c.cores.get j) ∧ c.keepsBut [.cache, .cores] (c.passWork k s) := by
  have he : c.passWork k s = (c.setCore k s).choose := by
    unfold Chip.passWork
    simp only [show ¬ k.val < 4 by omega, show ¬ (4 ≤ k.val ∧ k.val < 8) by omega, if_false, List.foldl_nil]
  rw [he]
  refine ⟨fun j hj => ?_, ((Chip.keepsBut_refl c _).setCore _ _ (by decide)).onCache _ (by decide)⟩
  show (c.setCore k s).cores.get j = _
  rw [Chip.cores_setCore, if_neg hj]

/-- A core that takes up its work runs. -/
theorem Chip.coreBack_runs : (c.coreBack k).coreRuns k = true := by
  unfold Chip.coreBack
  extract_lets c1 c2
  have h1 : c1.coreRuns k = true := by
    rw [Chip.coreRuns_eq]
    unfold c1
    rw [Chip.cores_setCore, if_pos rfl]
    split <;> rfl
  have h2 : c2.coreRuns k = true := by
    unfold c2
    split
    · exact h1
    · exact h1
  split
  · rw [((Chip.SameRuns.refl c2).shareGroups k).1, h2]
  · exact h2

/-- MG takes up its work without open transfers, remembered outcomes or results. -/
theorem Chip.coreBack_mg : c.coreBack 10 = (c.setCore 10 .running).mgRestarted := by
  unfold Chip.coreBack
  simp

theorem Chip.retireCore_retired : (c.retireCore k).cores.get k = .retired := by
  unfold Chip.retireCore
  split
  · assumption
  · exact Chip.passWork_cores .retired rfl

end
end Sys2Proof.Machine
end

section
/-! The rows of the cores and of the isolation of heads (01 R17; 16 R407 to R409), and the barometer (14 R381). -/

namespace Sys2Proof.Machine

-- One theorem at a time: elaborated at once, their nested proofs wait for one another, a thread and its stack for each.
set_option Elab.async false

/-! ### Parts that a frame keeps -/

section
variable {a b : Chip} {l : List Grp} (k : a.keepsBut l b)
include k

/-- What of the boot part does not look at the latched flags. -/
theorem Chip.keepsBut.boot_field {α : Type} (f : Boot → α) (hf : ∀ x v, f { x with seen := v } = f x := by intros; rfl) (h : Grp.boot ∉ l := by decide) :
    f b.boot = f a.boot := by
  have hb : { b.boot with seen := a.boot.seen } = a.boot := k .boot h
  exact (hf _ _).symm.trans (congrArg f hb)

/-- What of the ring part does not look at the frames sent. -/
theorem Chip.keepsBut.ring_field {α : Type} (f : Ring → α) (hf : ∀ r n v, f { r with txSeq := n, vals := v } = f r := by intros; rfl) (h : Grp.ring ∉ l := by decide) :
    f b.ring = f a.ring := by
  have hb : { b.ring with txSeq := a.ring.txSeq, vals := a.ring.vals } = a.ring := (k .ring h).1
  exact (hf _ _ _).symm.trans (congrArg f hb)

theorem Chip.keepsBut.cores_eq (h : Grp.cores ∉ l := by decide) : b.cores = a.cores := k .cores h

/-- A frame in which nothing is sent, and no head or object changes. -/
theorem Chip.Flows.of_keeps (hs : Grp.outs ∉ l := by decide) (hh : Grp.heads ∉ l := by decide) (ho : Grp.obj ∉ l := by decide) : a.Flows l b :=
  ⟨k, by rw [k.outs_eq hs], fun h => by rw [k.head_eq h hh], by rw [k.obj_eq ho]⟩

end

theorem Chip.keepsBut_end (was c : Chip) : c.keepsBut [] (Chip.ended was c) := Chip.keepsBut_ended (Chip.keepsBut_refl _ _)

theorem SMap.getD_put_self {α : Type} (m : SMap α) (q : Nat) (x z : α) : (m.put q x).getD q z = x := by
  unfold SMap.getD
  rw [SMap.find_put_self]
  rfl

/-! ### Cores -/

section
variable {s : State} {k : CoreNo}

theorem coreStopped_passes : CompletesIf (.coreStopped k) s (s.chip.coreRuns k = true) fun c =>
    c.cores.get k = .restarting ∧ (8 ≤ k.val → (∀ j, j ≠ k → c.cores.get j = s.chip.cores.get j) ∧ s.chip.keepsBut [.cache, .cores] c) ∧
      s.chip.keepsBut [.obj, .cache, .dolly, .cores] c := by
  unfold CompletesIf
  split
  · next hr =>
    refine .of_onChip (f := fun c => if c.coreRuns k then c.passWork k .restarting else c) rfl (if_pos hr) ⟨?_, fun hk => ⟨fun j hj => ?_, ?_⟩, ?_⟩
    · rw [Chip.ended_cores]
      exact Chip.passWork_cores .restarting rfl
    · rw [Chip.ended_cores]
      exact (Chip.passWork_others hk .restarting).1 j hj
    · exact Chip.keepsBut_ended (Chip.passWork_others hk .restarting).2
    · exact Chip.keepsBut_ended (Chip.Flows.refl s.chip).passWork.keeps
  · next hr =>
    exact untouched_of (f := fun c => if c.coreRuns k then c.passWork k .restarting else c) rfl (if_neg hr)

theorem coreRestarted_runs : CompletesIf (.coreRestarted k true) s (s.chip.cores.get k = .restarting) fun c =>
    c.coreRuns k = true ∧ c.boot.coreRestarted = true ∧
      (k.val = 10 → c.ring.transfers = [] ∧ c.ring.closed = [] ∧ c.obj.dictRes = [] ∧ c.ring.contexts = s.chip.ring.contexts) ∧
      (k.val ≠ 10 → s.chip.keepsBut [.cache, .cores, .boot] c) ∧ s.chip.keepsBut [.obj, .cache, .cores, .ring, .boot] c := by
  unfold CompletesIf
  split
  · next hr =>
    have hend := Chip.keepsBut_end s.chip ((s.chip.coreBack k).onBoot fun b => { b with coreRestarted := true })
    have hother (hk : k ≠ 10) : s.chip.keepsBut [.cache, .cores, .boot] ((s.chip.coreBack k).onBoot fun b => { b with coreRestarted := true }) :=
      (Chip.Flows.refl s.chip).coreBack hk |>.keeps.onBoot _ (by decide)
    have hmg (hk : k = 10) : (s.chip.coreBack k).onBoot (fun b => { b with coreRestarted := true }) =
        ((s.chip.setCore 10 .running).mgRestarted).onBoot fun b => { b with coreRestarted := true } := by rw [hk, Chip.coreBack_mg]
    refine .of_onChip (f := fun c => if c.cores.get k = .restarting then
      if true then (c.coreBack k).onBoot fun b => { b with coreRestarted := true } else c.restartFailed k else c) rfl (if_pos hr) ⟨?_, ?_, fun hk => ?_, fun hk => ?_, ?_⟩
    · rw [Chip.coreRuns_eq, Chip.ended_cores]
      exact Chip.coreBack_runs
    · exact hend.boot_field Boot.coreRestarted
    · have h10 := hmg (Fin.ext hk)
      refine ⟨(hend.ring_field Ring.transfers).trans ?_, (hend.ring_field Ring.closed).trans ?_, ?_, (hend.ring_field Ring.contexts).trans ?_⟩
      · rw [h10]; rfl
      · rw [h10]; rfl
      · rw [if_pos rfl, Chip.ended_obj, h10]; rfl
      · rw [h10]; rfl
    · exact Chip.keepsBut_ended (hother fun h => hk (by rw [h]; rfl))
    · by_cases hk : k = 10
      · rw [if_pos rfl, hmg hk]
        exact Chip.keepsBut_ended (((((Chip.keepsBut_refl s.chip _).setCore _ _ (by decide)).onRing _ (by decide)).onObj _ (by decide)).onBoot _ (by decide))
      · exact Chip.keepsBut_ended (Chip.keepsBut_mono (hother hk) (by decide))
  · next hr =>
    exact untouched_of (f := fun c => if c.cores.get k = .restarting then
      if true then (c.coreBack k).onBoot fun b => { b with coreRestarted := true } else c.restartFailed k else c) rfl (if_neg hr)

/-- The failures of a core to restart within the last 24 h. -/
def Chip.recentFails (c : Chip) (k : CoreNo) : List Nat := (c.boot.coreFails.getD k.val []).filter fun t => decide (c.now < t + 86400000000000)

theorem coreRestarted_fails (h2 : (s.chip.recentFails k).length < 2) :
    CompletesIf (.coreRestarted k false) s (s.chip.cores.get k = .restarting) fun c =>
      c.boot.coreFails.find k.val = some (s.chip.now :: s.chip.recentFails k) ∧ s.chip.keepsBut [.boot] c := by
  have hf : s.chip.restartFailed k = s.chip.onBoot fun b => { b with coreFails := b.coreFails.put k.val (s.chip.now :: s.chip.recentFails k) } := by
    unfold Chip.restartFailed
    exact if_neg (by rw [List.length_cons]; unfold Chip.recentFails at h2; omega)
  unfold CompletesIf
  split
  · next hr =>
    refine .of_onChip (f := fun c => if c.cores.get k = .restarting then
      if false then (c.coreBack k).onBoot fun b => { b with coreRestarted := true } else c.restartFailed k else c) rfl ((if_pos hr).trans hf) ⟨?_, ?_⟩
    · rw [(Chip.keepsBut_end s.chip _).boot_field Boot.coreFails]
      exact SMap.find_put_self ..
    · exact Chip.keepsBut_ended ((Chip.keepsBut_refl s.chip _).onBoot _ (by decide))
  · next hr =>
    exact untouched_of (f := fun c => if c.cores.get k = .restarting then
      if false then (c.coreBack k).onBoot fun b => { b with coreRestarted := true } else c.restartFailed k else c) rfl (if_neg hr)

end

/-! ### The barometer -/

/-- The flags as their conditions give them now, recorded, at every head where LEVEL changes, and notified. -/
def Chip.showBarometer (c : Chip) : Chip :=
  let body : EventBody := .vendor 0x0001 0xA000 1 c.barometerNow (toBytes 8 c.barometerNow.toNat)
  let d := c.onBoot fun b => { b with barometer := c.barometerNow }
  let e := if levelOfFlags c.barometerNow = levelOfFlags c.boot.barometer then d.ledgerEvent body else d.record .informational body
  e.notify 1 0xA000 1 (toBytes 8 c.barometerNow.toNat)

theorem exec_barometerUpdate (s : State) :
    exec .barometerUpdate s = s.onChip fun c => if c.barometerNow = c.boot.barometer || !c.boot.romDone then c else c.showBarometer := rfl

theorem Chip.showBarometer_shows (c : Chip) :
    c.showBarometer.boot.barometer = c.barometerNow ∧ (levelOfFlags c.barometerNow = levelOfFlags c.boot.barometer → c.showBarometer.heads = c.heads) ∧
      c.keepsBut [.heads, .ledger, .ring, .boot, .outs] c.showBarometer := by
  unfold Chip.showBarometer
  extract_lets body d e
  have hd : c.keepsBut [.boot] d := (Chip.keepsBut_refl c _).onBoot _ (by decide)
  have h1 : d.Flows recordGrps (e.notify 1 0xA000 1 (toBytes 8 c.barometerNow.toNat)) := ((Chip.Flows.refl d).ledgerEvent.ite (Chip.Flows.refl d).record).notify
  refine ⟨h1.keeps.boot_field Boot.barometer, fun hl => ?_, Chip.keepsBut_trans (Chip.keepsBut_mono hd (by decide)) (Chip.keepsBut_mono h1.keeps (by decide))⟩
  have he : e = d.ledgerEvent body := if_pos hl
  rw [he]
  exact ((Chip.Flows.refl (l := [.ledger, .ring, .outs]) d).ledgerEvent.notify).keeps.heads_eq

theorem barometerUpdate_shows (s : State) :
    CompletesIf .barometerUpdate s (s.chip.barometerNow ≠ s.chip.boot.barometer ∧ s.chip.boot.romDone = true) fun c =>
      c.boot.barometer = s.chip.barometerNow ∧ (levelOfFlags s.chip.barometerNow = levelOfFlags s.chip.boot.barometer → c.heads = s.chip.heads) ∧
        s.chip.keepsBut [.heads, .ledger, .ring, .boot, .outs] c := by
  obtain ⟨hnow, hheads, hkeep⟩ := s.chip.showBarometer_shows
  unfold CompletesIf
  split
  · next h =>
    obtain ⟨hn, hr⟩ := h
    refine .of_onChip (exec_barometerUpdate s) (if_neg (by simp [hn, hr])) ⟨?_, fun hl => ?_, Chip.keepsBut_ended hkeep⟩
    · rw [(Chip.keepsBut_end s.chip _).boot_field Boot.barometer, hnow]
    · rw [Chip.ended_heads, hheads hl]
  · next h =>
    refine untouched_of (exec_barometerUpdate s) (if_pos ?_)
    by_cases hn : s.chip.barometerNow = s.chip.boot.barometer
    · simp [hn]
    · have hr : s.chip.boot.romDone = false := by simpa [hn] using h
      simp [hr]

end Sys2Proof.Machine
end

section
/-! What the writes of CORE_RETIRE and HEAD_ISOLATE do (16 R407, R409). -/

namespace Sys2Proof.Machine

-- One theorem at a time: elaborated at once, their nested proofs wait for one another, a thread and its stack for each.
set_option Elab.async false

/-! ### The entries -/

/-- An entry of the dictionary's table, where the part has it. -/
theorem Chip.entry_row {c : Chip} {i j : Nat} {r : DictRow} (he : c.entry i j = some r) (hj : j ≠ 0) (hi : i < 0xF000) :
    r ∈ dictRows ∧ r.index = i ∧ r.lo ≤ j := by
  unfold Chip.entry at he
  rw [if_neg hj, if_neg (by omega)] at he
  split at he
  · cases he
  · obtain ⟨hi, hlo, -⟩ : r.index = i ∧ r.lo ≤ j ∧ j ≤ r.hi := of_decide_eq_true (List.find?_some he :)
    exact ⟨List.mem_of_find?_eq_some he, hi, hlo⟩

/-- The entries of BIST_CMD, CORE_RETIRE and HEAD_ISOLATE. -/
theorem dictRows_service : ∀ r ∈ dictRows, (r.index == 0xA120 || (r.index == 0xA100 || r.index == 0xA110) && decide (r.lo ≤ 1)) = true →
    (r.acc ≠ .ro ∧ r.type ≠ .domain ∧ r.index ≠ 0x6001 ∧ (r.acc ≠ .rw ∨ r.rsv = 0)) ∧ (r.index = 0xA120 → r.max = some 1) := by
  decide +kernel

theorem Chip.plain_service {c : Chip} {i j : Nat} {r : DictRow} (he : c.entry i j = some r) (hj : j ≠ 0)
    (hi : i = 0xA120 ∨ (i = 0xA100 ∨ i = 0xA110) ∧ j = 1) : r.Plain j := by
  obtain ⟨hmem, hindex, hlo⟩ := Chip.entry_row he hj (by omega)
  have hrow : (r.index == 0xA120 || (r.index == 0xA100 || r.index == 0xA110) && decide (r.lo ≤ 1)) = true := by
    rw [hindex]
    rcases hi with rfl | ⟨rfl | rfl, rfl⟩ <;> simp [hlo]
  obtain ⟨⟨hacc, htype, hsq, hrsv⟩, -⟩ := dictRows_service r hmem hrow
  refine ⟨hacc, htype, hrsv.imp_right fun h => ?_⟩
  unfold rsvMask
  rw [if_neg hsq, h]

/-- A value of HEAD_ISOLATE that passes the checks is 0 or 1. -/
theorem Chip.headIsolate_bound {c : Chip} {a : Access} {h : HeadNo} {r : DictRow} {b : List Byte} (he : c.entry 0xA120 (h.val + 1) = some r)
    (hf : c.writeFault a r (h.val + 1) b = 0) : ofBytes b < 2 := by
  obtain ⟨hmem, hindex, -⟩ := Chip.entry_row he (by omega) (by decide)
  obtain ⟨⟨-, htype, -⟩, hmax⟩ := dictRows_service r hmem (by rw [hindex]; rfl)
  by_contra hlt
  have hout : outOfRange r (ofBytes b) = true := by
    unfold outOfRange
    rw [hmax hindex]
    have h1 : 1 < ofBytes b := by omega
    simp [h1]
  unfold Chip.writeFault at hf
  simp only [hout, ne_eq, htype, not_false_eq_true, decide_true, Bool.true_or, Bool.and_true, if_true] at hf
  split at hf
  · cases hf
  · split at hf
    · cases hf
    · split at hf <;> cases hf

theorem Chip.applyWrite_coreRetire {c : Chip} {a : Access} {r : DictRow} {j : Nat} {b : List Byte} {ok : Bool} (hr : r.index = 0xA110) :
    c.applyWrite a r j b ok = c.coreRetire (ofBytes b) := by
  unfold Chip.applyWrite
  rw [hr]
  rfl

theorem Chip.applyWrite_headIsolate {c : Chip} {a : Access} {r : DictRow} {h : HeadNo} {b : List Byte} {ok : Bool} (hr : r.index = 0xA120) :
    c.applyWrite a r (h.val + 1) b ok = c.headIsolate a h (ofBytes b) := by
  have hact : c.actTop a 0xA120 (h.val + 1) (ofBytes b) b ok = some (c.headIsolate a h (ofBytes b)) := dif_pos (show h.val + 1 - 1 < 6 from h.isLt)
  unfold Chip.applyWrite
  rw [hr]
  show (match c.actTop a 0xA120 (h.val + 1) (ofBytes b) b ok with | some x => x | none => _) = _
  rw [hact]

theorem Chip.applyWrite_bistCmd {c : Chip} {a : Access} {r : DictRow} {j : Nat} {b : List Byte} {ok : Bool} (hr : r.index = 0xA100) :
    c.applyWrite a r j b ok = c.bistCmd a.req (ofBytes b % 256) (ofBytes b / 256 % 256) := by
  unfold Chip.applyWrite
  rw [hr]
  rfl

/-! ### CORE_RETIRE -/

section
variable {c : Chip} {k : CoreNo}

theorem Chip.retireCore_flows : c.Flows [.obj, .cache, .dolly, .cores, .ledger, .ring, .boot] (c.retireCore k) := by
  have h0 : c.Flows [.obj, .cache, .dolly, .cores, .ledger, .ring, .boot] (c.persist 0xA110 2 (c.retiredMask ||| 2 ^ k.val)) :=
    (Chip.Flows.of_keeps ((Chip.keepsBut_refl c [.ledger, .ring, .boot]).persist _ _ _ (by decide) (by decide) (by decide))).mono
  unfold Chip.retireCore
  exact (Chip.Flows.refl c).ite h0.passWork.onBoot

/-- The core is recorded as retired, where the ledger takes it. -/
theorem Chip.retireCore_recorded (hk : c.cores.get k ≠ .retired) (hf : c.ledger.failed = false) :
    (c.retireCore k).par 0xA110 2 0 = c.par 0xA110 2 0 ||| 2 ^ k.val := by
  have hpass := (Chip.Flows.refl (l := passGrps) (c.persist 0xA110 2 (c.retiredMask ||| 2 ^ k.val))).passWork (j := k) (s := .retired)
  have hstored : (c.retireCore k).ring.stored = c.ring.stored.put (dictKey 0xA110 2) (c.retiredMask ||| 2 ^ k.val) := by
    unfold Chip.retireCore
    rw [if_neg hk]
    exact (hpass.keeps.ring_field Ring.stored).trans (Chip.persist_stored hf ..)
  unfold Chip.par
  rw [hstored, SMap.getD_put_self]
  rfl

end

theorem ofBytes_one (v : BitVec 8) : ofBytes [v] = v.toNat := by
  simp [ofBytes]

theorem coreRetire_acts (s : State) (a : Access) (k : CoreNo) :
    Acts (.coreRetire a (BitVec.ofNat 8 k.val)) s a 0xA110 1 [BitVec.ofNat 8 k.val] (s.chip.retireDenied k = false) abConflict fun c =>
      c.cores.get k = .retired ∧ (s.chip.cores.get k ≠ .retired → s.chip.ledger.failed = false → c.par 0xA110 2 0 = s.chip.par 0xA110 2 0 ||| 2 ^ k.val) ∧
        s.chip.only c [.cache, .dolly, .cores, .ledger, .boot] := by
  refine acts_of rfl (by decide) (by decide) (fun _ he => Chip.plain_service he (by decide) (.inr ⟨.inr rfl, rfl⟩)) fun r he _ x y _ => ?_
  have hv : ofBytes [BitVec.ofNat 8 k.val] = k.val := by
    rw [ofBytes_one, BitVec.toNat_ofNat]
    exact Nat.mod_eq_of_lt (by omega)
  have hap : (s.chip.inAccess x y).applyWrite (knownAccess a) r 1 [BitVec.ofNat 8 k.val] (signedFor a true) =
      if s.chip.retireDenied k then (abConflict, s.chip.inAccess x y) else (0, (s.chip.inAccess x y).retireCore k) := by
    rw [Chip.applyWrite_coreRetire (Chip.entry_index he), hv]
    exact dif_pos k.isLt
  have hf : (s.chip.inAccess x y).Flows _ ((s.chip.inAccess x y).retireCore k) := Chip.retireCore_flows
  rw [hap]
  refine ⟨fun hok => ⟨_, by rw [hok]; rfl, hf.sent, fun h _ => ?_, fun e he => ⟨?_, fun hk hl => ?_, ?_⟩⟩, fun hno => if_pos (by simpa using hno)⟩
  · rw [hf.keeps.head_eq h]
    rfl
  · rw [he.keeps.cores_eq]
    exact Chip.retireCore_retired
  · rw [he.par]
    exact Chip.retireCore_recorded (c := s.chip.inAccess x y) hk hl
  · exact Chip.keepsBut_trans (Chip.keepsBut_mono (Chip.inAccess_keeps x y) (by decide))
      (Chip.keepsBut_trans (Chip.keepsBut_mono hf.keeps (by decide)) (Chip.keepsBut_mono he.keeps (by decide)))

/-! ### HEAD_ISOLATE -/

/-- What HEAD_ISOLATE makes of a chip, asked for through another head. -/
def Chip.isolate (c : Chip) (h : HeadNo) (v : Nat) : Chip :=
  let d := c.setVol 0xA120 (h.val + 1) v
  if v = 1 then (if c.isolated h then d else d.headDown h .disabled)
  else if c.isolated h && d.mayTrain h then d.onHead h fun e => { e with link := if e.perst then .detect else .training } else d

section
variable {c : Chip} {h : HeadNo} {v : Nat}

theorem Chip.headIsolate_eq {a : Access} (hq : ¬ (a.req = .mailbox h ∨ a.req = .window h)) (hv : v < 2) :
    c.headIsolate a h v = (0, c.isolate h v) := by
  unfold Chip.headIsolate Chip.isolate
  rw [if_neg hq, if_neg (by omega)]
  dsimp only
  split
  · rfl
  · split <;> rfl

theorem Chip.vals_headDown (c : Chip) (h : HeadNo) (x : LinkState) : (c.headDown h x).ring.vals = c.ring.vals := by
  unfold Chip.headDown
  extract_lets c1 c2 c3 c4 c5 was c6
  split <;> rfl

theorem Chip.isolate_outs : c.outs <+: (c.isolate h v).outs := by
  unfold Chip.isolate
  extract_lets d
  split
  · split
    · exact List.prefix_rfl
    · exact Chip.outs_headDown d h .disabled
  · split <;> exact List.prefix_rfl

theorem Chip.isolate_vol : (c.isolate h v).vol 0xA120 (h.val + 1) = v := by
  have hd : (c.setVol 0xA120 (h.val + 1) v).vol 0xA120 (h.val + 1) = v := Chip.vol_setVol_same ..
  unfold Chip.isolate
  extract_lets d
  split
  · split
    · exact hd
    · unfold Chip.vol
      rw [Chip.vals_headDown]
      exact hd
  · split <;> exact hd

theorem Chip.isolate_other {k : HeadNo} (hk : k ≠ h) : (c.isolate h v).head k = c.head k := by
  unfold Chip.isolate
  extract_lets d
  split
  · split
    · rfl
    · rw [Chip.head_headDown, if_neg hk]
      rfl
  · split
    · exact Chip.head_onHead_ne d h _ hk
    · rfl

/-- An isolated head's link is Disabled; an isolated one stays as it is. -/
theorem Chip.isolate_on : (c.isolated h = false → ((c.isolate h 1).head h).link = .disabled) ∧ (c.isolated h = true → (c.isolate h 1).head h = c.head h) := by
  unfold Chip.isolate
  extract_lets d
  rw [if_pos rfl]
  refine ⟨fun hi => ?_, fun hi => ?_⟩
  · rw [if_neg (by simp [hi]), Chip.link_headDown, if_pos rfl]
  · rw [if_pos hi]
    rfl

/-- A released head trains where it may; one that was not isolated stays as it is. -/
theorem Chip.isolate_off :
    (c.isolated h = true → (c.setVol 0xA120 (h.val + 1) 0).mayTrain h = true →
      ((c.isolate h 0).head h).link = if (c.head h).perst then .detect else .training) ∧
    (c.isolated h = false → (c.isolate h 0).head h = c.head h) := by
  unfold Chip.isolate
  extract_lets d
  rw [if_neg (by decide)]
  refine ⟨fun hi hm => ?_, fun hi => ?_⟩
  · rw [if_pos (by rw [hi, hm]; rfl), Chip.head_onHead_same]
    rfl
  · rw [if_neg (by rw [hi]; exact Bool.false_ne_true)]
    rfl

end

theorem headIsolate_acts (s : State) (a : Access) (h : HeadNo) (v : BitVec 8) :
    Acts (.headIsolate a h v) s a 0xA120 (h.val + 1) [v] (a.req ≠ .mailbox h ∧ a.req ≠ .window h) abConflict fun c =>
      c.vol 0xA120 (h.val + 1) = v.toNat ∧
      (v = 1 → s.chip.isolated h = false → (c.head h).link = .disabled) ∧ (v = 1 → s.chip.isolated h = true → c.head h = s.chip.head h) ∧
      (v = 0 → s.chip.isolated h = true → (s.chip.setVol 0xA120 (h.val + 1) 0).mayTrain h = true →
        (c.head h).link = if (s.chip.head h).perst then .detect else .training) ∧
      (v = 0 → s.chip.isolated h = false → c.head h = s.chip.head h) ∧ ∀ j, j ≠ h → (c.head j).link = (s.chip.head j).link := by
  refine acts_of rfl (by decide) (by decide) (fun _ he => Chip.plain_service he (by omega) (.inl rfl)) fun r he hf x y _ => ?_
  have hv : v.toNat < 2 := ofBytes_one v ▸ Chip.headIsolate_bound he hf
  rw [Chip.applyWrite_headIsolate (Chip.entry_index he), ofBytes_one]
  refine ⟨fun ⟨hm, hw⟩ => ?_, fun hno => ?_⟩
  · rw [Chip.headIsolate_eq (by rw [knownAccess_req]; exact not_or.2 ⟨hm, hw⟩) hv]
    refine ⟨_, rfl, Chip.isolate_outs (c := s.chip.inAccess x y), fun k hk => ?_, fun e hd => ?_⟩
    · rw [Chip.isolate_other (k := k) fun (hkh : k = h) => hw (hkh ▸ hk)]
      rfl
    · have hhead (k : HeadNo) := hd.keeps.head_eq k
      refine ⟨?_, fun h1 hi => ?_, fun h1 hi => ?_, fun h0 hi ht => ?_, fun h0 hi => ?_, fun j hj => ?_⟩
      · rw [hd.vol (by unfold dictKey; omega) (by unfold dictKey; omega), Chip.isolate_vol]
      · subst h1
        rw [hhead]
        exact Chip.isolate_on.1 hi
      · subst h1
        rw [hhead]
        exact Chip.isolate_on.2 hi
      · subst h0
        rw [hhead]
        exact Chip.isolate_off.1 hi ht
      · subst h0
        rw [hhead]
        exact Chip.isolate_off.2 hi
      · rw [hhead, Chip.isolate_other hj]
        rfl
  · unfold Chip.headIsolate
    rw [knownAccess_req, if_pos]
    by_contra hn
    exact hno (not_or.1 hn)

end Sys2Proof.Machine
end

section
/-! The start of a built-in test (16 R411, Table 16-3). -/

namespace Sys2Proof.Machine

-- One theorem at a time: elaborated at once, their nested proofs wait for one another, a thread and its stack for each.
set_option Elab.async false

/-! ### A retrain -/

theorem Chip.chan_onChan_same {c : Chip} {n : Nat} {f : Channel → Channel} (hn : n < 36) : (c.onChan n f).chan n = f (c.chan n) := by
  unfold Chip.onChan Chip.chan
  simp only [dif_pos hn]
  exact Vector.getElem_set_self ..

theorem Chip.group_onGroup_same {c : Chip} {g : Nat} {f : Group → Group} (hg : g < 4) : (c.onGroup g f).group g = f (c.group g) := by
  have hs (m : Medium) : ({ m with sg := m.sg.set g (f (c.group g)) hg } : Medium).sg.get ⟨g, hg⟩ = f (c.group g) := Vector.getElem_set_self ..
  have hwas : c.group g = c.med.sg.get ⟨g, hg⟩ := dif_pos hg
  unfold Chip.onGroup
  rw [dif_pos hg, ← hwas]
  extract_lets was d
  have hd : d.group g = f (c.group g) := (dif_pos hg).trans (hs c.med)
  split
  · exact hd
  · unfold Chip.sendTwin
    split <;> exact hd

theorem Chip.chan_of_med {c d : Chip} (h : d.med = c.med) (n : Nat) : d.chan n = c.chan n := by
  unfold Chip.chan
  rw [h]

theorem Chip.group_of_med {c d : Chip} (h : d.med = c.med) (g : Nat) : d.group g = c.group g := by
  unfold Chip.group
  rw [h]

theorem Chip.chan_onGroup (c : Chip) (g n : Nat) (f : Group → Group) : (c.onGroup g f).chan n = c.chan n := by
  unfold Chip.onGroup
  split
  · extract_lets was d
    split
    · rfl
    · unfold Chip.sendTwin
      split <;> rfl
  · rfl

section
variable {l : List Grp} {a c : Chip} (k : a.Flows l c)
include k

theorem Chip.Flows.onGroup {g f} (hl : ∀ x ∈ [Grp.med, .outs], x ∈ l := by decide) : a.Flows l (c.onGroup g f) := by
  refine k.andThen hl ?_
  unfold Chip.onGroup
  split
  · extract_lets was d
    have hd : c.Flows [.med, .outs] d := (Chip.Flows.refl c).onMed
    exact hd.ite hd.sendTwin
  · exact .refl c

theorem Chip.Flows.setGroup {g s} (hl : ∀ x ∈ [Grp.med, .ring, .outs], x ∈ l := by decide) : a.Flows l (c.setGroup g s) :=
  k.andThen hl (Chip.Flows.refl c).onGroup.notify

theorem Chip.Flows.keepRetraining {g} (hl : ∀ x ∈ [Grp.med, .ring, .outs], x ∈ l := by decide) : a.Flows l (c.keepRetraining g) := by
  refine k.andThen hl ?_
  unfold Chip.keepRetraining
  exact (Chip.Flows.refl c).ite (Chip.Flows.refl c).onGroup.setGroup

theorem Chip.Flows.trainChan {n} (hl : ∀ x ∈ [Grp.med, .outs], x ∈ l := by decide) : a.Flows l (c.trainChan n) := k.foldl fun _ _ h => h.gmi hl

theorem Chip.Flows.issueNext {n die} (hl : ∀ x ∈ [Grp.med, .outs], x ∈ l := by decide) : a.Flows l (c.issueNext n die) := by
  refine k.andThen hl ?_
  unfold Chip.issueNext
  extract_lets mine
  clear_value mine
  split
  · exact .refl c
  · split
    · exact .refl c
    · exact (Chip.Flows.refl c).onChan.gmi

theorem Chip.Flows.takeReads {g line} (hl : ∀ x ∈ [Grp.med, .outs], x ∈ l := by decide) : a.Flows l (c.takeReads g line) := by
  refine k.andThen hl ((Chip.Flows.refl c).foldl fun d m h => ?_)
  dsimp only
  split
  · exact h
  · exact h.onChan.issueNext

theorem Chip.Flows.reissueReads {n} (hl : ∀ x ∈ [Grp.cache, .med, .outs], x ∈ l := by decide) : a.Flows l (c.reissueReads n) :=
  k.andThen hl ((Chip.Flows.refl c).foldl fun _ _ h => h.takeReads.onCache)

/-- What a retrain can change as it starts. -/
abbrev retrainGrps : List Grp := [.cache, .med, .ring, .outs]

theorem Chip.Flows.startRetrain {n} (hl : ∀ x ∈ retrainGrps, x ∈ l := by decide) : a.Flows l (c.startRetrain n) := by
  refine k.andThen hl ?_
  have h0 : c.Flows retrainGrps c := .refl c
  unfold Chip.startRetrain
  extract_lets go
  have hgo : c.Flows retrainGrps (go c) := h0.onChan.trainChan
  split
  · exact h0.ite hgo.reissueReads.onChan.keepRetraining
  · exact h0.ite hgo.reissueReads.onChan.keepRetraining
  · exact hgo
  · exact h0

end

/-- The stripe groups are as they were. -/
def Chip.SameSg (a c : Chip) : Prop := c.med.sg = a.med.sg

section
variable {a c : Chip} (k : a.SameSg c)
include k

theorem Chip.SameSg.foldl {α : Type} {xs : List α} {f : Chip → α → Chip} (hf : ∀ d x, a.SameSg d → a.SameSg (f d x)) : a.SameSg (xs.foldl f c) := by
  induction xs generalizing c with
  | nil => exact k
  | cons x r ih => exact ih (hf c x k)

theorem Chip.SameSg.onChan {n f} : a.SameSg (c.onChan n f) := by
  unfold Chip.onChan
  split <;> exact k

theorem Chip.SameSg.gmi {n op} : a.SameSg (c.gmi n op) := by
  have he (d : Chip) (h : a.SameSg d) (o : Output) : a.SameSg (d.emit o) := h
  unfold Chip.gmi
  split
  · split
    · exact (he c k _).onChan
    · exact k
  · exact k

theorem Chip.SameSg.issueNext {n die} : a.SameSg (c.issueNext n die) := by
  unfold Chip.issueNext
  extract_lets mine
  clear_value mine
  split
  · exact k
  · split
    · exact k
    · exact k.onChan.gmi

theorem Chip.SameSg.takeReads {g line} : a.SameSg (c.takeReads g line) := by
  refine k.foldl fun d m h => ?_
  dsimp only
  split
  · exact h
  · exact h.onChan.issueNext

theorem Chip.SameSg.reissueReads {n} : a.SameSg (c.reissueReads n) := k.foldl fun _ _ h => h.takeReads

end

/-- A retrain of a member of a healthy group: the channel is retraining, and so is its group. -/
theorem Chip.startRetrain_member {c : Chip} {n : Nat} (hn : n < 36) (hs : (c.chan n).state = .member) (hr : (c.chan n).retraining = false)
    (hg : (c.group (n / 9)).state = .healthy) :
    ((c.startRetrain n).chan n).retraining = true ∧ ((c.startRetrain n).group (n / 9)).state = .retraining := by
  have h4 : n / 9 < 4 := by omega
  unfold Chip.startRetrain
  extract_lets go
  have hgo : c.SameSg ((go c).reissueReads n) := ((show c.SameSg c from rfl).onChan.foldl fun _ _ h => h.gmi).reissueReads
  rw [hs]
  simp only [hr, Bool.false_eq_true, if_false]
  let d := ((go c).reissueReads n).onChan n fun x => { x with retraining := true }
  have hd : (d.chan n).retraining = true := by rw [Chip.chan_onChan_same hn]
  have hsg : (d.group (n / 9)).state = .healthy := by
    have hsame : c.SameSg d := hgo.onChan
    unfold Chip.group
    rw [show d.med.sg = c.med.sg from hsame]
    exact hg
  have hany : (List.range 9).any (fun m => (d.chan (memberChan (n / 9) m)).retraining) = true := by
    refine List.any_eq_true.2 ⟨n % 9, List.mem_range.2 (by omega), ?_⟩
    rw [show memberChan (n / 9) (n % 9) = n from Nat.div_add_mod n 9, hd]
  have hkeep : d.keepRetraining (n / 9) = (d.onGroup (n / 9) fun y => { y with before := (d.group (n / 9)).state }).setGroup (n / 9) .retraining := by
    unfold Chip.keepRetraining
    exact if_neg (by rw [hany, hsg]; decide)
  show ((d.keepRetraining (n / 9)).chan n).retraining = true ∧ ((d.keepRetraining (n / 9)).group (n / 9)).state = .retraining
  rw [hkeep]
  unfold Chip.setGroup
  let e := (d.onGroup (n / 9) fun y => { y with before := (d.group (n / 9)).state }).onGroup (n / 9) fun x => { x with state := .retraining }
  have hmed : (e.notify 7 0x4010 (n / 9 + 1) [BitVec.ofNat 8 (n / 9), BitVec.ofNat 8 SgState.retraining.code]).med = e.med :=
    ((Chip.Flows.refl (l := [.ring, .outs]) e).notify).keeps.med_eq
  refine ⟨?_, ?_⟩
  · rw [Chip.chan_of_med hmed, Chip.chan_onGroup, Chip.chan_onGroup, hd]
  · rw [Chip.group_of_med hmed, Chip.group_onGroup_same h4]

/-! ### The work of a core under test -/

theorem Chip.stopCmd_dictRes (c : Chip) (cmd : Option Nat) (status : Nat) : (c.stopCmd cmd status).obj.dictRes = c.obj.dictRes := by
  unfold Chip.stopCmd Chip.finish
  split
  · rfl
  · dsimp only
    split <;> rfl

theorem Chip.passWork_dictRes (c : Chip) (k : CoreNo) (s : CoreState) : (c.passWork k s).obj.dictRes = c.obj.dictRes := by
  have hfold (l : List RunCmd) (d : Chip) : (l.foldl (fun (c : Chip) (r : RunCmd) => c.stopCmd (some r.id) stRetry) d).obj.dictRes = d.obj.dictRes := by
    induction l generalizing d with
    | nil => rfl
    | cons r l ih => exact (ih _).trans (Chip.stopCmd_dictRes ..)
  unfold Chip.passWork
  extract_lets mine c1 c2
  have h2 : c2.obj.dictRes = c.obj.dictRes := hfold mine c1
  split
  · rw [((Chip.Flows.refl (l := [.cache, .cores]) c2).shareGroups).keeps.obj_eq, h2]
  · exact h2

/-! ### The start -/

/-- What a test can change as it begins. -/
abbrev bistGrps : List Grp := [.obj, .cache, .med, .dolly, .cores, .ring, .outs]

theorem Chip.bistBegin_flows (c : Chip) (t g : Nat) : c.Flows bistGrps (c.bistBegin t g) := by
  unfold Chip.bistBegin
  split
  · exact (Chip.Flows.refl c).startRetrain
  · split
    · exact (Chip.Flows.refl c).passWork
    · exact .refl c
  · exact .refl c

theorem Chip.bistBegin_dictRes (c : Chip) (t g : Nat) : (c.bistBegin t g).obj.dictRes = c.obj.dictRes := by
  unfold Chip.bistBegin
  split
  · rw [((Chip.Flows.refl (l := retrainGrps) c).startRetrain).keeps.obj_eq]
  · split
    · exact Chip.passWork_dictRes ..
    · rfl
  · rfl

/-- The chip on which a test runs for a requester, before what the test itself does as it begins. -/
def Chip.bistNoted (c : Chip) (q : Requester) (t g : Nat) : Chip :=
  (c.onBoot fun b => { b with bist := some { test := t, target := g, req := q, startedAt := c.clk.ticks } }).onObj fun o =>
    { o with dictRes := o.dictRes.filter (fun x => !decide (x.req = q ∧ x.entry = 0xA100)) ++ [{ req := q, entry := 0xA100 }] }

/-- A test may start: no other runs, no wrap runs, its column of Table 16-3 permits it, and the requester's last one is over. -/
def Chip.BistFree (c : Chip) (q : Requester) (t g : Nat) : Prop :=
  c.boot.bist = none ∧ ¬ (1 ≤ c.wrap.state ∧ c.wrap.state ≤ 4) ∧ c.bistDenied t g = false ∧
    ∀ x ∈ c.obj.dictRes, x.req = q → x.entry = 0xA100 → x.result ≠ none

section
variable {c : Chip} {q : Requester} {t g : Nat}

theorem Chip.bistCmd_range (h : c.bistTarget t g = false) : c.bistCmd q t g = (abRange, c) := by
  unfold Chip.bistCmd
  rw [h]
  rfl

theorem Chip.bistFree_iff : c.BistFree q t g ↔ (c.boot.bist.isSome || c.wrapping || c.bistDenied t g ||
    c.obj.dictRes.any (fun x => decide (x.req = q ∧ x.entry = 0xA100 ∧ x.result = none))) = false := by
  unfold Chip.BistFree Chip.wrapping
  simp only [Bool.or_eq_false_iff, Option.isSome_eq_false_iff, Option.isNone_iff_eq_none, decide_eq_false_iff_not, List.any_eq_false, decide_eq_true_eq,
    not_and, and_assoc]

theorem Chip.bistCmd_starts (h : c.bistTarget t g = true) (hf : c.BistFree q t g) : c.bistCmd q t g = (0, (c.bistNoted q t g).bistBegin t g) := by
  unfold Chip.bistCmd
  rw [h, if_neg (by decide), if_neg (by rw [Chip.bistFree_iff.1 hf]; decide)]
  rfl

theorem Chip.bistCmd_refused (h : c.bistTarget t g = true) (hf : ¬ c.BistFree q t g) : c.bistCmd q t g = (abConflict, c) := by
  unfold Chip.bistCmd
  rw [h, if_neg (by decide), if_pos ((Bool.not_eq_false _).mp (mt Chip.bistFree_iff.2 hf))]

/-- What the contexts and the results of other requesters do not bear on. -/
theorem Chip.bistFree_inAccess {x : List Context} {y : List DictRes} (hy : ∀ z : DictRes, z.req = q → (z ∈ y ↔ z ∈ c.obj.dictRes)) :
    (c.inAccess x y).BistFree q t g ↔ c.BistFree q t g := by
  refine and_congr Iff.rfl (and_congr Iff.rfl (and_congr Iff.rfl ⟨fun h z hz hq => ?_, fun h z hz hq => ?_⟩))
  · exact h z ((hy z hq).2 hz) hq
  · exact h z ((hy z hq).1 hz) hq

end

theorem ofBytes_test (t g : BitVec 8) : ofBytes [t, g, 0, 0] % 256 = t.toNat ∧ ofBytes [t, g, 0, 0] / 256 % 256 = g.toNat := by
  have ht : t.toNat < 256 := t.isLt
  have hg : g.toNat < 256 := g.isLt
  simp only [ofBytes, show (0 : BitVec 8).toNat = 0 from rfl]
  omega

section
variable {i : Instr} {s : State} {a : Access} {t g : BitVec 8} (hi : exec i s = s.onChip fun c => c.writeRow a 0xA100 1 [t, g, 0, 0])
include hi

/-- A test of no such target is out of range. -/
theorem bist_range (ht : s.chip.bistTarget t.toNat g.toNat = false) : Acts i s a 0xA100 1 [t, g, 0, 0] False abRange fun _ => True := by
  refine acts_of hi (by decide) (by decide) (fun _ he => Chip.plain_service he (by decide) (.inr ⟨.inl rfl, rfl⟩)) fun r he _ x y _ => ⟨False.elim, fun _ => ?_⟩
  rw [Chip.applyWrite_bistCmd (Chip.entry_index he), (ofBytes_test t g).1, (ofBytes_test t g).2]
  exact Chip.bistCmd_range ht

/-- A test starts for its requester, or conflicts. -/
theorem bist_starts (ht : s.chip.bistTarget t.toNat g.toNat = true) :
    Acts i s a 0xA100 1 [t, g, 0, 0] (s.chip.BistFree a.req t.toNat g.toNat) abConflict fun c =>
      c.boot.bist = some { test := t.toNat, target := g.toNat, req := a.req, startedAt := s.chip.clk.ticks } ∧
      { req := a.req, entry := 0xA100 } ∈ c.obj.dictRes ∧
      (t.toNat = 3 → (s.chip.chan g.toNat).retraining = false → (c.chan g.toNat).retraining = true ∧ (c.group (g.toNat / 9)).state = .retraining) ∧
      (∀ j : CoreNo, t.toNat = 7 → g.toNat = j.val → c.cores.get j = .restarting) ∧ s.chip.only c [.cache, .med, .dolly, .cores, .boot] := by
  refine acts_of hi (by decide) (by decide) (fun _ he => Chip.plain_service he (by decide) (.inr ⟨.inl rfl, rfl⟩)) fun r he _ x y hy => ?_
  rw [Chip.applyWrite_bistCmd (Chip.entry_index he), (ofBytes_test t g).1, (ofBytes_test t g).2, knownAccess_req]
  refine ⟨fun hf => ⟨_, Chip.bistCmd_starts ht ((Chip.bistFree_inAccess hy).2 hf), ?_⟩, fun hf => Chip.bistCmd_refused ht (mt (Chip.bistFree_inAccess hy).1 hf)⟩
  let d := (s.chip.inAccess x y).bistNoted a.req t.toNat g.toNat
  have hflow : d.Flows bistGrps (d.bistBegin t.toNat g.toNat) := d.bistBegin_flows ..
  have hnoted : s.chip.keepsBut (accessGrps ++ [.cache, .med, .dolly, .cores, .boot]) d :=
    ((Chip.keepsBut_mono (Chip.inAccess_keeps x y) (by decide)).onBoot _ (by decide)).onObj _ (by decide)
  refine ⟨hflow.sent, fun h _ => ?_, fun e hd => ⟨?_, ?_, fun h3 hr => ?_, fun j h7 hj => ?_, ?_⟩⟩
  · rw [hflow.keeps.head_eq h]
    rfl
  · rw [hd.keeps.boot_field Boot.bist, hflow.keeps.boot_field Boot.bist]
    rfl
  · rw [hd.keeps.obj_eq, Chip.bistBegin_dictRes]
    exact List.mem_append_right _ (List.mem_singleton.2 rfl)
  · obtain ⟨-, -, hden, -⟩ := hf
    rw [h3] at hden ht
    unfold Chip.bistDenied at hden
    simp only [Bool.or_eq_false_iff, decide_eq_false_iff_not, not_not] at hden
    obtain ⟨⟨⟨hgroup, -⟩, -⟩, hmember⟩ := hden
    have hn : g.toNat < 36 := by
      have hlt : g.toNat < 9 * s.chip.id.part.groups := of_decide_eq_true ht
      have h4 : s.chip.id.part.groups ≤ 4 := by cases s.chip.id.part <;> decide
      omega
    have hm := Chip.startRetrain_member (c := d) hn hmember hr hgroup
    have hbegin : (d.bistBegin t.toNat g.toNat) = d.startRetrain g.toNat := by rw [h3]; rfl
    rw [Chip.chan_of_med hd.keeps.med_eq, Chip.group_of_med hd.keeps.med_eq, hbegin]
    exact hm
  · have hbegin : (d.bistBegin t.toNat g.toNat) = d.passWork j .restarting := by
      rw [h7, hj]
      exact dif_pos j.isLt
    rw [hd.keeps.cores_eq, hbegin]
    exact Chip.passWork_cores .restarting rfl
  · exact Chip.keepsBut_trans hnoted (Chip.keepsBut_trans (Chip.keepsBut_mono hflow.keeps (by decide)) (Chip.keepsBut_mono hd.keeps (by decide)))

end
end Sys2Proof.Machine
end

section
/-! The end of a built-in test (16 R411, R412): its verdict, and what a failure leads to. -/

namespace Sys2Proof.Machine

-- One theorem at a time: elaborated at once, their nested proofs wait for one another, a thread and its stack for each.
set_option Elab.async false

/-! ### A member that goes missing -/

section
variable {l : List Grp} {a c : Chip} (k : a.Flows l c)
include k

theorem Chip.Flows.addOp {o} (hl : Grp.cache ∈ l := by decide) : a.Flows l (c.addOp o) := k.onCache hl
theorem Chip.Flows.mapWrite {n} (hl : Grp.cache ∈ l := by decide) : a.Flows l (c.mapWrite n) := k.ite ((k.addOp hl).addOp hl)

theorem Chip.Flows.onOp {id f} (hl : Grp.cache ∈ l := by decide) : a.Flows l (c.onOp id f) := k.onCache hl

theorem Chip.Flows.applyLines {o m} (hl : Grp.med ∈ l := by decide) : a.Flows l (c.applyLines o m) := by
  unfold Chip.applyLines
  exact k.onMed hl

theorem Chip.Flows.checkpointed {o} (hl : Grp.med ∈ l := by decide) : a.Flows l (c.checkpointed o) := k.ite (k.onMed hl)

theorem Chip.Flows.finishOp {o} (hl : ∀ x ∈ [Grp.cache, .med, .integ], x ∈ l := by decide) : a.Flows l (c.finishOp o) := by
  refine k.andThen hl ?_
  unfold Chip.finishOp
  extract_lets c1 c2 c3
  have h1 : c.Flows [.cache, .med, .integ] c1 := (Chip.Flows.refl c).applyLines.onOp
  have h2 : c.Flows [.cache, .med, .integ] c2 := h1.onMed.checkpointed
  have h3 : c.Flows [.cache, .med, .integ] c3 := h2.onInteg.ite h2
  exact h3.ite (h3.foldl fun _ _ h => h.mapWrite)

theorem Chip.Flows.endEmptied {g} (hl : ∀ x ∈ [Grp.cache, .med, .integ], x ∈ l := by decide) : a.Flows l (c.endEmptied g) :=
  k.foldl fun _ _ h => h.finishOp hl

theorem Chip.Flows.setChan {n s} (hl : ∀ x ∈ [Grp.med, .ring, .outs], x ∈ l := by decide) : a.Flows l (c.setChan n s) :=
  k.andThen hl (Chip.Flows.refl c).onChan.notify

theorem Chip.Flows.writeStamp {n st} (hl : ∀ x ∈ [Grp.med, .outs], x ∈ l := by decide) : a.Flows l (c.writeStamp n st) :=
  k.andThen hl ((Chip.Flows.refl c).foldl fun _ _ h => h.gmi).onChan

theorem Chip.Flows.newEpoch {g but} (hl : ∀ x ∈ [Grp.med, .outs], x ∈ l := by decide) : a.Flows l (c.newEpoch g but) :=
  k.andThen hl ((Chip.Flows.refl c).onGroup.foldl fun _ _ h => h.writeStamp.ite h)

/-- What a group that changes its state can change. -/
abbrev groupGrps : List Grp := [.med, .heads, .ledger, .ring, .outs]

theorem Chip.Flows.degrade {g m} (hl : ∀ x ∈ groupGrps, x ∈ l := by decide) : a.Flows l (c.degrade g m) :=
  k.andThen hl (Chip.Flows.refl c).onGroup.setGroup.vendorRecord

/-- What a member that goes missing can change. -/
abbrev missingGrps : List Grp := [.cache, .med, .integ, .heads, .ledger, .ring, .outs]

theorem Chip.Flows.memberMissing {n} (hl : ∀ x ∈ missingGrps, x ∈ l := by decide) : a.Flows l (c.memberMissing n) := by
  refine k.andThen hl ?_
  unfold Chip.memberMissing
  extract_lets g m was c1 c2 c3 c4 c5 c6
  have h3 : c.Flows missingGrps c3 := (Chip.Flows.refl c).reissueReads.onChan.setChan.onCache
  have h4 : c.Flows missingGrps c4 := h3.onCache.ite h3
  have h5 : c.Flows missingGrps c5 := h4.endEmptied
  have hfail : c.Flows missingGrps ((c5.setGroup g .failed).newEpoch g none) := h5.setGroup.newEpoch
  have h6 : c.Flows missingGrps c6 := by
    unfold c6
    split
    · exact h5.degrade.newEpoch
    · exact h5.degrade.newEpoch.ite hfail
    · exact hfail
    · exact h5
  exact (Chip.Flows.refl c).ite (h5.ite h6.keepRetraining)

theorem Chip.Flows.sealAlarm {e} (hl : ∀ x ∈ Grp.sec :: recordGrps, x ∈ l := by decide) : a.Flows l (c.sealAlarm e) := by
  refine k.andThen hl ?_
  unfold Chip.sealAlarm
  extract_lets n c1 recent last off c2
  have h1 : c.Flows (Grp.sec :: recordGrps) c1 := (Chip.Flows.refl c).foldl fun _ _ h => h.emit
  exact h1.onSec.vendorRecord.bump

end

/-! ### What a failure leads to -/

/-- The results of entries, the test that runs and the rehearsal that is due are as they were. -/
structure Chip.SameTest (a c : Chip) : Prop where
  res : c.obj.dictRes = a.obj.dictRes
  bist : c.boot.bist = a.boot.bist
  wit : c.wit = a.wit

theorem Chip.SameTest.of_keeps {a c : Chip} {l : List Grp} (k : a.keepsBut l c) (ho : Grp.obj ∉ l := by decide) (hb : Grp.boot ∉ l := by decide)
    (hw : Grp.wit ∉ l := by decide) : a.SameTest c :=
  ⟨by rw [k.obj_eq ho], k.boot_field Boot.bist (h := hb), k.wit_eq hw⟩

/-- A store is written to the ledger; the boot part keeps that it is valid, and of which format. -/
theorem Chip.writeStore_eq (c : Chip) (u : Bool) (b : List Byte) : ∃ d, c.keepsBut [.ledger, .ring] d ∧
    c.writeStore u b = (d.onBoot fun x => { x with storeValid := true, storeFormat := d.image.format, unread := false }).bump 0x1140 2 := by
  refine ⟨_, ?_, rfl⟩
  exact Chip.keepsBut.foldl _ _ (Chip.keepsBut_refl c _) fun d i kd => Chip.keepsBut.foldl _ _ kd fun e p ke => ke.pageDone p (by decide) (by decide)

theorem Chip.persist_bist (c : Chip) (i j v : Nat) : (c.persist i j v).boot.bist = c.boot.bist := by
  unfold Chip.persist
  split
  · rfl
  · obtain ⟨d, hd, he⟩ := c.writeStore_eq c.boot.record.region (c.storeBody (c.ring.stored.put (dictKey i j) v))
    unfold Chip.storeAll
    rw [he]
    exact hd.boot_field Boot.bist

theorem Chip.SameTest.retireCore (c : Chip) (k : CoreNo) : c.SameTest (c.retireCore k) := by
  unfold Chip.retireCore
  split
  · exact ⟨rfl, rfl, rfl⟩
  · let d := c.persist 0xA110 2 (c.retiredMask ||| 2 ^ k.val)
    have hd : c.keepsBut [.ledger, .ring, .boot] d := (Chip.keepsBut_refl c _).persist _ _ _ (by decide) (by decide) (by decide)
    have hp : d.Flows passGrps (d.passWork k .retired) := (Chip.Flows.refl d).passWork
    have hbist : d.boot.bist = c.boot.bist := Chip.persist_bist ..
    exact ⟨(Chip.passWork_dictRes d k .retired).trans (by rw [hd.obj_eq]), (hp.keeps.boot_field Boot.bist).trans hbist, hp.keeps.wit_eq.trans hd.wit_eq⟩

theorem Chip.SameTest.retireFailing (c : Chip) {k : CoreNo} (hk : k ≠ 10) : c.SameTest (c.retireFailing k) := by
  unfold Chip.retireFailing
  split
  · exact .of_keeps ((Chip.Flows.refl (l := [.cache, .cores]) c).coreBack hk).keeps
  · exact .retireCore c k

theorem Chip.SameTest.bistFailed (c : Chip) {b : Bist} (h7 : b.test = 7 → b.target < 10) (detail : Nat) : c.SameTest (c.bistFailed b detail) := by
  have h0 (l : List Grp) : c.Flows l c := .refl c
  unfold Chip.bistFailed
  split
  · split
    · exact .of_keeps ((h0 (.hbm :: recordGrps)).onHbm.vendorRecord.writeRecord).keeps
    · exact ⟨rfl, rfl, rfl⟩
  · exact .of_keeps (h0 missingGrps).memberMissing.keeps
  · exact .of_keeps ((h0 [.cache]).addOp.ite (h0 _)).keeps
  · exact .of_keeps (h0 missingGrps).memberMissing.keeps
  · exact .of_keeps (h0 (.sec :: recordGrps)).sealAlarm.keeps
  · next ht =>
    split
    · exact .retireFailing c fun h => by have := h7 ht; have := congrArg Fin.val h; dsimp at this; omega
    · exact ⟨rfl, rfl, rfl⟩
  · exact ⟨rfl, rfl, rfl⟩

/-! ### The verdict -/

/-- The result of a test: its number, its target, the verdict, the time, the errors and the detail (Table 16-4). -/
def Chip.bistBytes (c : Chip) (b : Bist) (verdict errors detail : Nat) : List Byte :=
  [BitVec.ofNat 8 b.test, BitVec.ofNat 8 b.target, BitVec.ofNat 8 verdict, 0] ++ toBytes 4 ((c.clk.ticks - b.startedAt) * 40 / 1000) ++
    toBytes 4 errors ++ toBytes 4 detail ++ toBytes 8 c.stamp.toNat ++ toBytes 8 0

section
variable {c : Chip} {b : Bist} {verdict errors detail : Nat}

theorem Chip.bistEnd_some (hb : c.boot.bist = some b) (hv : verdict ≠ 2) : c.bistEnd verdict errors detail =
    ((c.onBoot fun x => { x with bist := none }).onObj fun o => { o with dictRes := o.dictRes.map fun x =>
      if x.req = b.req ∧ x.entry = 0xA100 ∧ x.result = none then { x with result := some (c.bistBytes b verdict errors detail) } else x }).bump 0xA100 4 := by
  unfold Chip.bistEnd
  rw [hb]
  exact if_neg hv

/-- The requester's pending result becomes the verdict. -/
theorem Chip.bistEnd_result (hb : c.boot.bist = some b) (hv : verdict ≠ 2) {x : DictRes} (hx : x ∈ c.obj.dictRes) (hq : x.req = b.req) (he : x.entry = 0xA100)
    (hn : x.result = none) : ∃ y ∈ (c.bistEnd verdict errors detail).obj.dictRes, y.req = b.req ∧ y.entry = 0xA100 ∧
      y.result = some (c.bistBytes b verdict errors detail) := by
  rw [Chip.bistEnd_some hb hv]
  refine ⟨{ x with result := some (c.bistBytes b verdict errors detail) }, List.mem_map.2 ⟨x, hx, if_pos ⟨hq, he, hn⟩⟩, hq, he, rfl⟩

end

section
variable {s : State} {b : Bist} {verdict : Bool} {errors detail : BitVec 32}

/-- What follows from the verdict, once it is written. -/
def Chip.bistFollows (c : Chip) (b : Bist) (verdict : Bool) (detail : Nat) : Chip :=
  if verdict then (if b.test = 7 then (if h : b.target < 12 then c.coreBack ⟨b.target, h⟩ else c) else c) else c.bistFailed b detail

theorem Chip.SameTest.bistFollows (c : Chip) (h7 : b.test = 7 → b.target < 10) (detail : Nat) : c.SameTest (c.bistFollows b verdict detail) := by
  unfold Chip.bistFollows
  split
  · split
    · next ht =>
      split
      · have hk : (⟨b.target, ‹_›⟩ : CoreNo) ≠ 10 := fun h => by have := h7 ht; have := congrArg Fin.val h; dsimp at this; omega
        exact .of_keeps ((Chip.Flows.refl (l := [.cache, .cores]) c).coreBack hk).keeps
      · exact ⟨rfl, rfl, rfl⟩
    · exact ⟨rfl, rfl, rfl⟩
  · exact .bistFailed c h7 detail

/-- A test that ends leaves the chip that its verdict and what follows make. -/
theorem bistDone_ends (hb : s.chip.boot.bist = some b) (hr : ¬ (verdict = true ∧ b.test = 3 ∧ (s.chip.chan b.target).retraining = true))
    (h7 : b.test = 7 → b.target < 10) (hw : s.chip.wit.rehearsalDue = false) {p : Chip → Prop}
    (hp : p (Chip.ended s.chip ((s.chip.bistEnd (if verdict then 0 else 1) errors.toNat detail.toNat).bistFollows b verdict detail.toNat))) :
    Completes (.bistDone verdict errors detail) s p := by
  let c1 := s.chip.bistEnd (if verdict then 0 else 1) errors.toNat detail.toNat
  have hwit : (c1.bistFollows b verdict detail.toNat).wit = s.chip.wit :=
    (Chip.SameTest.bistFollows c1 h7 _).wit.trans ((Chip.Flows.refl (l := [.obj, .ring, .boot]) s.chip).bistEnd).keeps.wit_eq
  have hdue : (c1.bistFollows b verdict detail.toNat).dueRehearsal = c1.bistFollows b verdict detail.toNat := by
    unfold Chip.dueRehearsal
    rw [hwit, hw]
    rfl
  have hcond : ¬ (verdict && decide (b.test = 3) && (s.chip.chan b.target).retraining) = true := by simpa [and_assoc] using hr
  refine .of_onChip (f := fun c => match c.boot.bist with
    | none => c
    | some b => if verdict && decide (b.test = 3) && (c.chan b.target).retraining then c
      else ((c.bistEnd (if verdict then 0 else 1) errors.toNat detail.toNat).bistFollows b verdict detail.toNat).dueRehearsal) rfl ?_ hp
  rw [hb]
  exact (if_neg hcond).trans hdue

end
end Sys2Proof.Machine
end

section
/-! The end of a test, clause by clause, and the settlement of O46. -/

namespace Sys2Proof.Machine

-- One theorem at a time: elaborated at once, their nested proofs wait for one another, a thread and its stack for each.
set_option Elab.async false

section
variable {c : Chip} {b : Bist} {verdict errors detail : Nat}

/-- Beside the result, the test that runs and the count of runs, the verdict changes nothing. -/
theorem Chip.bistEnd_keeps : c.keepsBut [.obj, .ring, .boot] (c.bistEnd verdict errors detail) := ((Chip.Flows.refl c).bistEnd).keeps

theorem Chip.bistEnd_none (hb : c.boot.bist = some b) (hv : verdict ≠ 2) : (c.bistEnd verdict errors detail).boot.bist = none := by
  rw [Chip.bistEnd_some hb hv]
  rfl

/-- Whether a core may be retired does not depend on the test that runs. -/
theorem Chip.bistEnd_retireDenied (hb : c.boot.bist = some b) (hv : verdict ≠ 2) (k : CoreNo) :
    (c.bistEnd verdict errors detail).retireDenied k = c.retireDenied k := by
  rw [Chip.bistEnd_some hb hv]
  rfl

theorem Chip.bistBytes_take (v : Bool) : (c.bistBytes b (if v then 0 else 1) errors detail).take 3 =
    [BitVec.ofNat 8 b.test, BitVec.ofNat 8 b.target, if v then 0 else 1] := by
  cases v <;> rfl

theorem Chip.bistBytes_counts : ((c.bistBytes b verdict errors detail).drop 8).take 8 = toBytes 4 errors ++ toBytes 4 detail := rfl

/-- A spare that fails its test is out of use. -/
theorem Chip.bistFailed_spare {q : PcNo} (h1 : b.test = 1) (hq : c.sparePc = some q) : (c.bistFailed b detail).hbm.pcs.get q = .spareFailed := by
  have hset : (c.setPc q .spareFailed).hbm.pcs.get q = .spareFailed := Vector.getElem_set_self ..
  have hhbm : (((c.setPc q .spareFailed).vendorRecord .warning 0x0301 0x3802 1).bindingRecord).hbm = (c.setPc q .spareFailed).hbm :=
    ((Chip.Flows.refl (l := recordGrps) (c.setPc q .spareFailed)).vendorRecord.writeRecord).keeps.hbm_eq
  unfold Chip.bistFailed
  simp only [h1, hq]
  rw [hhbm, hset]

/-- A core that passes its test, or may not be retired, runs; one that fails and may be retired is. -/
theorem Chip.bistFollows_core {v : Bool} {j : CoreNo} (h7 : b.test = 7) (hj : b.target = j.val) :
    (v = true ∨ c.retireDenied j = true → (c.bistFollows b v detail).coreRuns j = true) ∧
      (v = false → c.retireDenied j = false → (c.bistFollows b v detail).cores.get j = .retired) := by
  have hlt : b.target < 12 := hj ▸ j.isLt
  have hfin : (⟨b.target, hlt⟩ : CoreNo) = j := Fin.ext hj
  have hpass : c.bistFollows b true detail = c.coreBack j := by
    unfold Chip.bistFollows
    simp only [h7, hlt, if_true, dif_pos, hfin]
  have hfail : c.bistFollows b false detail = c.retireFailing j := by
    unfold Chip.bistFollows Chip.bistFailed
    simp only [h7, hlt, Bool.false_eq_true, if_false, dif_pos, hfin]
  refine ⟨fun h => ?_, fun hv hd => ?_⟩
  · cases v with
    | true => rw [hpass, Chip.coreBack_runs]
    | false =>
      have hd : c.retireDenied j = true := h.resolve_left (by decide)
      rw [hfail]
      unfold Chip.retireFailing
      rw [if_pos hd, Chip.coreBack_runs]
  · subst hv
    rw [hfail]
    unfold Chip.retireFailing
    rw [if_neg (by rw [hd]; exact Bool.false_ne_true)]
    exact Chip.retireCore_retired

end

/-- A test that ends writes its verdict, and a failure has its consequence. -/
theorem bistDone_verdict {s : State} {b : Bist} {verdict : Bool} {errors detail : BitVec 32} (hb : s.chip.boot.bist = some b)
    (hr : ¬ (verdict = true ∧ b.test = 3 ∧ (s.chip.chan b.target).retraining = true)) (h7 : b.test = 7 → b.target < 10) (hw : s.chip.wit.rehearsalDue = false) :
    Completes (.bistDone verdict errors detail) s fun c =>
      c.boot.bist = none ∧
      (∀ x ∈ s.chip.obj.dictRes, x.req = b.req → x.entry = 0xA100 → x.result = none → ∃ y ∈ c.obj.dictRes, y.req = b.req ∧ y.entry = 0xA100 ∧
        ∃ r, y.result = some r ∧ r.take 3 = [BitVec.ofNat 8 b.test, BitVec.ofNat 8 b.target, if verdict then 0 else 1] ∧ (r.drop 8).take 8 = toBytes 4 errors.toNat ++ toBytes 4 detail.toNat) ∧
      (verdict = true → b.test ≠ 7 → s.chip.keepsBut [.obj, .ring, .boot] c) ∧
      (verdict = false → b.test = 1 → ∀ q, s.chip.sparePc = some q → c.hbm.pcs.get q = .spareFailed) ∧
      (∀ j : CoreNo, b.test = 7 → b.target = j.val → (verdict = true ∨ s.chip.retireDenied j = true → c.coreRuns j = true) ∧
        (verdict = false → s.chip.retireDenied j = false → c.cores.get j = .retired)) := by
  have hv : (if verdict then 0 else 1) ≠ 2 := by cases verdict <;> decide
  refine bistDone_ends hb hr h7 hw ?_
  let c1 := s.chip.bistEnd (if verdict then 0 else 1) errors.toNat detail.toNat
  have hsame : c1.SameTest (c1.bistFollows b verdict detail.toNat) := .bistFollows c1 h7 _
  refine ⟨?_, fun x hx hq he hn => ?_, fun hp ht => ?_, fun hf h1 q hq => ?_, fun j ht hj => ?_⟩
  · rw [(Chip.keepsBut_end s.chip _).boot_field Boot.bist]
    exact hsame.bist.trans (Chip.bistEnd_none hb hv)
  · obtain ⟨y, hy, hyq, hye, hyr⟩ := Chip.bistEnd_result (errors := errors.toNat) (detail := detail.toNat) hb hv hx hq he hn
    refine ⟨y, ?_, hyq, hye, _, hyr, Chip.bistBytes_take verdict, Chip.bistBytes_counts⟩
    rw [Chip.ended_obj]
    exact hsame.res ▸ hy
  · have hc : c1.bistFollows b verdict detail.toNat = c1 := by
      unfold Chip.bistFollows
      rw [if_pos hp, if_neg ht]
    rw [show (s.chip.bistEnd (if verdict then 0 else 1) errors.toNat detail.toNat).bistFollows b verdict detail.toNat = c1 from hc]
    exact Chip.keepsBut_ended Chip.bistEnd_keeps
  · rw [Chip.ended_hbm]
    have hc : c1.bistFollows b verdict detail.toNat = c1.bistFailed b detail.toNat := by
      unfold Chip.bistFollows
      rw [hf]
      rfl
    have hspare : c1.sparePc = some q := by
      have hhbm : c1.hbm = s.chip.hbm := Chip.bistEnd_keeps.hbm_eq
      unfold Chip.sparePc at hq ⊢
      rw [hhbm, hq]
    exact hc ▸ Chip.bistFailed_spare h1 hspare
  · have hcore := Chip.bistFollows_core (c := c1) (v := verdict) (detail := detail.toNat) ht hj
    rw [Chip.bistEnd_retireDenied hb hv] at hcore
    rw [Chip.coreRuns_eq, Chip.ended_cores]
    exact hcore

end Sys2Proof.Machine

open Sys2Proof Sys2Proof.Machine

/-- Settles O46. The cores and the barometer by their rows; the writes by the rule for a plain entry, from the action of each; the end of a
test from the verdict and what follows it. -/
theorem coresAndTests : Obligations.CoresAndTests := by
  refine fun s a k => ⟨coreStopped_passes, coreRestarted_runs, coreRestarted_fails, coreRetire_acts s a k, headIsolate_acts s a, fun t p hp => ?_,
    fun verdict errors detail => ?_, barometerUpdate_shows s⟩
  · have hi : exec p.1 s = s.onChip fun c => c.writeRow a 0xA100 1 [p.2.1, p.2.2, 0, 0] := by
      simp only [List.mem_cons, List.not_mem_nil, or_false] at hp
      rcases hp with rfl | rfl | rfl | rfl | rfl | rfl | rfl | rfl <;> rfl
    exact ⟨bist_range hi, bist_starts hi⟩
  · split
    · next hb =>
      refine untouched_of (f := fun c => match c.boot.bist with
        | none => c
        | some b => if verdict && decide (b.test = 3) && (c.chan b.target).retraining then c
          else ((c.bistEnd (if verdict then 0 else 1) errors.toNat detail.toNat).bistFollows b verdict detail.toNat).dueRehearsal) rfl ?_
      rw [hb]
    · next b hb => exact bistDone_verdict hb
end

section
/-! What the operations that stop a chip change: the loss of the twin link, and the stop of the heads (09 R251, R260; 10 R295). -/

namespace Sys2Proof.Machine

-- One theorem at a time: elaborated at once, their nested proofs wait for one another, a thread and its stack for each.
set_option Elab.async false

section
variable {a b : Chip} {l : List Grp} (k : a.keepsBut l b)
include k

theorem Chip.keepsBut.id_eq (h : Grp.id ∉ l := by decide) : b.id = a.id := k .id h
theorem Chip.keepsBut.pwr_eq (h : Grp.pwr ∉ l := by decide) : b.pwr = a.pwr := k .pwr h
theorem Chip.keepsBut.res_eq (h : Grp.res ∉ l := by decide) : b.res = a.res := k .res h
theorem Chip.keepsBut.wrap_eq (h : Grp.wrap ∉ l := by decide) : b.wrap = a.wrap := k .wrap h
theorem Chip.keepsBut.ledger_eq (h : Grp.ledger ∉ l := by decide) : b.ledger = a.ledger := k .ledger h

theorem Chip.keepsBut.presentHeads_eq (h : Grp.id ∉ l := by decide) : b.presentHeads = a.presentHeads := by
  unfold Chip.presentHeads
  rw [k.id_eq h]

end

section
variable {l : List Grp} {a c : Chip} (k : a.Flows l c)
include k

theorem Chip.Flows.mapReqs {f} (hl : ∀ g ∈ [Grp.cache, .twin, .hbm, .dolly, .wit], g ∈ l := by decide) : a.Flows l (c.mapReqs f) :=
  k.andThen hl (.of_keeps ((Chip.keepsBut_refl c _).mapReqs (by decide)))

theorem Chip.Flows.pageDone {p} (hl : ∀ g ∈ [Grp.ledger, .ring], g ∈ l := by decide) : a.Flows l (c.pageDone p) :=
  k.andThen hl (.of_keeps ((Chip.keepsBut_refl c [.ledger, .ring]).pageDone p (by decide) (by decide)))

theorem Chip.Flows.pageNow {addr b} (hl : ∀ g ∈ [Grp.ledger, .ring], g ∈ l := by decide) : a.Flows l (c.pageNow addr b) :=
  k.foldl fun _ _ h => h.pageDone hl

theorem Chip.Flows.countNow {n} (hl : ∀ g ∈ [Grp.ledger, .ring], g ∈ l := by decide) : a.Flows l (c.countNow n) := by
  unfold Chip.countNow
  exact k.ite (k.pageNow hl)

/-! ### The gaffer's parts -/

theorem Chip.Flows.onPwr {f : Power → Power} (hl : Grp.pwr ∈ l := by decide) : a.Flows l (c.onPwr f) := ⟨k.keeps.onPwr _ hl, k.sent, k.links, k.cmds⟩
theorem Chip.Flows.onRes {f : Reserve → Reserve} (hl : Grp.res ∈ l := by decide) : a.Flows l (c.onRes f) := ⟨k.keeps.onRes _ hl, k.sent, k.links, k.cmds⟩
theorem Chip.Flows.onWrap {f : Wrap → Wrap} (hl : Grp.wrap ∈ l := by decide) : a.Flows l (c.onWrap f) := ⟨k.keeps.onWrap _ hl, k.sent, k.links, k.cmds⟩
theorem Chip.Flows.onClk {f : Clock → Clock} (hl : Grp.clk ∈ l := by decide) : a.Flows l (c.onClk f) := ⟨k.keeps.onClk _ hl, k.sent, k.links, k.cmds⟩

theorem Chip.Flows.snapshot {t n} (hl : ∀ g ∈ [Grp.pwr, .ring], g ∈ l := by decide) : a.Flows l (c.snapshot t n) :=
  k.andThen hl (Chip.Flows.refl c).onPwr.bump

theorem Chip.Flows.setWrap {v} (hl : ∀ g ∈ [Grp.wrap, .ring, .outs], g ∈ l := by decide) : a.Flows l (c.setWrap v) :=
  k.andThen hl (Chip.Flows.refl c).onWrap.notify

/-! ### A line that is lost -/

theorem Chip.Flows.loseOnMedium {x} (hl : Grp.med ∈ l := by decide) : a.Flows l (c.loseOnMedium x) := by
  unfold Chip.loseOnMedium
  split
  · exact k.onMed hl
  · exact k

theorem Chip.Flows.declareMember {x} (hl : ∀ g ∈ [Grp.med, .integ, .outs], g ∈ l := by decide) : a.Flows l (c.declareMember x) := by
  refine k.andThen hl ?_
  unfold Chip.declareMember
  exact (Chip.Flows.refl c).ite (Chip.Flows.refl c).loseOnMedium.addPoison

theorem Chip.Flows.gotLine {x v} (hl : ∀ g ∈ [Grp.cache, .integ], g ∈ l := by decide) : a.Flows l (c.gotLine x v) := by
  refine k.andThen hl ?_
  unfold Chip.gotLine
  split
  · exact (Chip.Flows.refl c).onInteg.onCache
  · exact (Chip.Flows.refl c).onCache

/-- What a line that is declared poisoned can change. -/
abbrev declareGrps : List Grp := [.cache, .med, .integ, .heads, .ledger, .ring, .outs]

theorem Chip.Flows.declare {x cause} (hl : ∀ g ∈ declareGrps, g ∈ l := by decide) : a.Flows l (c.declare x cause) := by
  refine k.andThen hl ?_
  unfold Chip.declare
  extract_lets m lost c1 c2 c3 c4 c5 c6
  have h1 : c.Flows declareGrps c1 := by
    unfold c1
    split
    · next p _ =>
      have hq : c.Flows declareGrps (c.queueRepairs m p) := by
        unfold Chip.queueRepairs
        exact (Chip.Flows.refl c).onInteg
      exact hq.foldl fun _ _ h => h.declareMember
    · exact .refl c
  have h2 : c.Flows declareGrps c2 := h1.loseOnMedium.ite h1
  have h3 : c.Flows declareGrps c3 := h2.onCache.bump
  have h4 : c.Flows declareGrps c4 := h3.onInteg
  have h5 : c.Flows declareGrps c5 := h4.ite h4.addPoison
  have h6 : c.Flows declareGrps c6 := h5.ite h5.record
  exact h2.gotLine.ite (h2.gotLine.ite h6.gotLine)

/-! ### The twin link goes down -/

theorem Chip.Flows.mbox {h code data} (hl : Grp.outs ∈ l := by decide) : a.Flows l (c.mbox h code data) := (k.emit hl).emit hl

theorem Chip.Flows.peerErased {code} (hl : ∀ g ∈ [Grp.sec, .outs], g ∈ l := by decide) : a.Flows l (c.peerErased code) := by
  refine k.andThen hl ?_
  unfold Chip.peerErased
  extract_lets c1
  have h1 : c.Flows [.sec, .outs] c1 := by
    unfold c1
    split
    · exact (Chip.Flows.refl c).mbox
    · exact .refl c
  exact h1.onSec

theorem Chip.Flows.unprep (hl : Grp.dolly ∈ l := by decide) : a.Flows l c.unprep := k.onDolly hl

end

/-- What the loss of the twin link changes after the link itself. -/
abbrev lostGrps : List Grp := [.obj, .cache, .hbm, .med, .integ, .dolly, .twin, .wit, .heads, .ledger, .ring, .sec, .outs]

/-- The parts of `lostGrps` but the twin part. -/
abbrev lostRestGrps : List Grp := [.obj, .cache, .hbm, .med, .integ, .dolly, .wit, .heads, .ledger, .ring, .sec, .outs]

theorem Chip.link_hold (c : Chip) (r : Req) : (c.hold r).twin.link = c.twin.link := by
  unfold Chip.hold
  split <;> rfl

theorem Chip.link_holds (c : Chip) (rs : List Req) : (rs.foldl (fun c r => c.hold r) c).twin.link = c.twin.link := by
  induction rs generalizing c with
  | nil => rfl
  | cons r rest ih => exact (ih _).trans (c.link_hold r)

theorem Chip.link_mapReqs (c : Chip) (f : Req → Req) : (c.mapReqs f).twin.link = c.twin.link := rfl

/-- The loss of the twin link leaves the link down. -/
theorem Chip.twinDown_down (c : Chip) : c.Flows lostGrps c.twinDown ∧ c.twinDown.twin.link = .down := by
  unfold Chip.twinDown
  split
  · next h => exact ⟨.refl c, h⟩
  · extract_lets c1 held c2 c3 c4 c5 fetching c6 c7 c8
    have hs1 : c.Flows lostGrps c1 := (Chip.Flows.refl c).onTwin.bump
    have hl1 : c1.twin.link = .down := rfl
    have hs2 : c.Flows lostGrps c2 := hs1.onTwin
    have hs3 : c2.Flows lostRestGrps c3 := (Chip.Flows.refl c2).dropHolds.onObj
    have hs4 : c.Flows lostGrps c4 := (hs2.andThen (by decide) hs3).foldl fun _ _ h => h.hold
    have hl4 : c4.twin.link = .down := (c3.link_holds held).trans ((congrArg Twin.link hs3.keeps.twin_eq).trans hl1)
    have hs5 : c.Flows lostGrps c5 := hs4.mapReqs
    have hl5 : c5.twin.link = .down := (c4.link_mapReqs _).trans hl4
    have hs6 : c5.Flows lostRestGrps c6 := (Chip.Flows.refl c5).foldl fun _ _ h => h.declare
    have hs8 : c5.Flows lostRestGrps c8.unprep := ((hs6.peerErased.ite hs6).onSec).unprep
    exact ⟨hs5.andThen (by decide) hs8, (congrArg Twin.link hs8.keeps.twin_eq).trans hl5⟩

/-! ### The heads stop -/

theorem Chip.keepsBut_headsDown (x : LinkState) (hs : List HeadNo) (c : Chip) : c.keepsBut downGrps (hs.foldl (fun c h => c.headDown h x) c) :=
  Chip.keepsBut.foldl _ _ (Chip.keepsBut_refl c _) fun d h kd => Chip.keepsBut_trans kd (d.keepsBut_headDown h x)

theorem Chip.link_headsDown (x : LinkState) (hs : List HeadNo) (c : Chip) (h : HeadNo) :
    ((hs.foldl (fun c h => c.headDown h x) c).head h).link = if h ∈ hs then x else (c.head h).link := by
  induction hs generalizing c with
  | nil => rfl
  | cons k rest ih =>
    rw [List.foldl_cons, ih, Chip.link_headDown]
    by_cases hr : h ∈ rest
    · rw [if_pos hr, if_pos (List.mem_cons_of_mem _ hr)]
    · rw [if_neg hr]
      exact if_congr (by simp [hr]) rfl rfl

theorem Chip.disableHeads_disabled (c : Chip) : c.keepsBut downGrps c.disableHeads ∧ ∀ h ∈ c.presentHeads, (c.disableHeads.head h).link = .disabled :=
  ⟨c.keepsBut_headsDown _ _, fun h hh => (c.link_headsDown _ _ h).trans (if_pos hh)⟩

/-- A head whose link is up goes down to train again. -/
def Chip.retrainHead (c : Chip) (h : HeadNo) : Chip := if (c.head h).link = .up then c.headDown h .training else c

theorem Chip.keepsBut_retrainHead (c : Chip) (h : HeadNo) : c.keepsBut downGrps (c.retrainHead h) := by
  unfold Chip.retrainHead
  split
  · exact c.keepsBut_headDown h _
  · exact Chip.keepsBut_refl _ _

theorem Chip.link_retrainHead (c : Chip) (h k : HeadNo) :
    ((c.retrainHead h).head k).link = if k = h ∧ (c.head k).link = .up then .training else (c.head k).link := by
  unfold Chip.retrainHead
  by_cases hk : k = h
  · subst hk
    by_cases hu : (c.head k).link = .up
    · rw [if_pos hu, Chip.link_headDown, if_pos rfl, if_pos ⟨rfl, hu⟩]
    · rw [if_neg hu, if_neg fun hc => hu hc.2]
  · rw [if_neg (fun hc : k = h ∧ _ => hk hc.1)]
    by_cases hu : (c.head h).link = .up
    · rw [if_pos hu, Chip.link_headDown, if_neg hk]
    · rw [if_neg hu]

/-- Of a list of heads, those whose link is up train again; the others' links stay. -/
theorem Chip.link_retrainHeads (hs : List HeadNo) (c : Chip) (h : HeadNo) :
    ((hs.foldl Chip.retrainHead c).head h).link = if h ∈ hs ∧ (c.head h).link = .up then .training else (c.head h).link := by
  induction hs generalizing c with
  | nil => simp
  | cons k rest ih =>
    rw [List.foldl_cons, ih, Chip.link_retrainHead]
    by_cases hk : h = k ∧ (c.head h).link = .up
    · rw [if_pos hk, if_neg (by simp), if_pos ⟨hk.1 ▸ List.mem_cons_self, hk.2⟩]
    · rw [if_neg hk]
      refine if_congr ⟨fun hr => ⟨List.mem_cons_of_mem _ hr.1, hr.2⟩, fun hr => ⟨?_, hr.2⟩⟩ rfl rfl
      exact (List.mem_cons.1 hr.1).resolve_left fun he => hk ⟨he, hr.2⟩

theorem Chip.keepsBut_retrainHeads (hs : List HeadNo) (c : Chip) : c.keepsBut downGrps (hs.foldl Chip.retrainHead c) :=
  Chip.keepsBut.foldl _ _ (Chip.keepsBut_refl c _) fun d h kd => Chip.keepsBut_trans kd (d.keepsBut_retrainHead h)

end Sys2Proof.Machine
end

section
/-! A wrap that starts (10 R295 steps 1 and 2): what it records, and what it stops. -/

namespace Sys2Proof.Machine

-- One theorem at a time: elaborated at once, their nested proofs wait for one another, a thread and its stack for each.
set_option Elab.async false

/-- Step 1 of a wrap: the trigger is recorded and the budget frozen. -/
def Chip.recordWrap (c : Chip) (cause : Nat) : Chip :=
  let probing := decide (c.res.probe = 3)
  let c := ((c.onPwr fun p => { p with state := .wrap }).onWrap fun w => { w with cause := cause }).setWrap 1
  let c := c.snapshot 6
  let c := if probing then c.setProbeEn false else c
  let c := c.onRes fun r => { r with probe := 0, frozen := true }
  let c := c.onLedger fun l =>
    { l with queue := l.queue.filter (fun p => decide (p.cls.rank < 4)), refreshRun := false,
             current := match l.current with | some p => if p.cls = .refresh then none else some p | none => none }
  let before := !c.inService
  c.onWrap fun w =>
    { w with cause := cause, startedAt := c.clk.ticks, drainedAt := c.clk.ticks, dirtyAt := c.dirtyTotal, energyAt := c.energyMj,
             budgetAt := c.res.published / 65536, probeEnded := probing, undrained := 0, short := false,
             beforeService := before, stay := 0 }

/-- Step 2 of a wrap, up to the twin link: the test that runs ends, and the heads, their rings, the reels and the mirroring stop. -/
def Chip.stopHeads (c : Chip) : Chip :=
  let c := (c.bistEnd 2 0 0).disableHeads
  let c := { c with heads := c.heads.map (fun (d : Head) => { d with cue := {} }) }
  let c := c.closeReels (fun _ => true)
  let c := c.onObj fun o => { o with cmds := [], tails := [] }
  let c := c.dropMirrored
  let c := c.onCache fun k => { k with creditQ := [], mergeQ := [], descs := k.descs.filter (!·.moving) }
  let c := c.onHbm fun h => { h with heldForFence := h.heldForFence.filter (!·.write) }
  if c.wit.registered then (c.sendWitness 6).setLease .released else c

/-- Step 2 of a wrap, from the twin link on: what waits for the partner is dropped, and the dolly and the background work stop. -/
def Chip.stopWork (c : Chip) : Chip :=
  let c := c.twinDown.dropHeld
  let c := c.onDolly fun d => { d with paused := true, queue := [], pins := [] }
  (c.onInteg fun i => { i with scan := i.scan.map (fun (s : Scan) => { s with done := true }) }).unclaimAll.stopOps.evalPanic

theorem Chip.startWrap_eq (c : Chip) (cause : Nat) (hw : c.wrapping = false) (hp : c.pwr.state = .on) :
    c.startWrap cause = ((c.recordWrap cause).stopHeads).stopWork := by
  unfold Chip.startWrap
  exact if_neg (by simp [hw, hp])

/-! ### The record -/

theorem Chip.setWrap_wrap (c : Chip) (v : Nat) : (c.setWrap v).wrap = { c.wrap with state := v } :=
  ((Chip.Flows.refl (l := [.ring, .outs]) (c.onWrap fun w => { w with state := v })).notify).keeps.wrap_eq

/-- The probe's switch is a part of its channel's state, not of the SQ_CONFIG. -/
theorem Chip.setProbeEn_cfg (c : Chip) (on : Bool) (n : RailNo) : ((c.setProbeEn on).rail n).cfg = (c.rail n).cfg := by
  by_cases hn : n = 8
  · subst hn
    have h : (c.setProbeEn on).rail 8 = { c.rail 8 with en := on } := Vector.getElem_set_self (xs := c.pwr.rails) (i := 8) (by decide)
    rw [h]
  · exact congrArg Rail.cfg (Vector.getElem_set_ne (xs := c.pwr.rails) (i := 8) (j := n.val) (by decide) n.isLt fun h => hn (Fin.ext h.symm))

/-- The wrap is recorded: its state, its cause and the frozen budget; of the power part only the state, the probe's switch and
the snapshots change. -/
theorem Chip.recordWrap_records (c : Chip) (cause : Nat) :
    let d := c.recordWrap cause
    d.pwr.state = .wrap ∧ d.wrap.state = 1 ∧ d.wrap.cause = cause ∧ d.res.frozen = true ∧ d.pwr.pwrLoss = c.pwr.pwrLoss ∧
      (∀ n : RailNo, (d.rail n).cfg = (c.rail n).cfg) ∧ c.Flows [.pwr, .res, .wrap, .ledger, .ring, .outs] d := by
  unfold Chip.recordWrap
  extract_lets probing c1 c2 c3 c4 c5 before d
  have h1 : (c.onPwr fun p => { p with state := .wrap }).Flows [.wrap, .ring, .outs] c1 := ((Chip.Flows.refl _).onWrap).setWrap
  have h2 : c.Flows [.pwr, .res, .wrap, .ledger, .ring, .outs] c2 := (((Chip.Flows.refl c).onPwr.onWrap).setWrap).snapshot
  have h3 : c.Flows [.pwr, .res, .wrap, .ledger, .ring, .outs] c3 := Chip.Flows.ite h2.onPwr h2
  have hd : c.Flows [.pwr, .res, .wrap, .ledger, .ring, .outs] d := h3.onRes.onLedger.onWrap
  have hp1 : c1.pwr = { c.pwr with state := .wrap } := h1.keeps.pwr_eq
  have hp2 : c2.pwr.state = c1.pwr.state ∧ c2.pwr.pwrLoss = c1.pwr.pwrLoss ∧ ∀ n, c2.rail n = c1.rail n := ⟨rfl, rfl, fun _ => rfl⟩
  have hp3 : c3.pwr.state = c2.pwr.state ∧ c3.pwr.pwrLoss = c2.pwr.pwrLoss ∧ ∀ n, (c3.rail n).cfg = (c2.rail n).cfg := by
    unfold c3
    split
    · exact ⟨rfl, rfl, c2.setProbeEn_cfg false⟩
    · exact ⟨rfl, rfl, fun _ => rfl⟩
  have hw1 : c1.wrap.state = 1 := by rw [show c1.wrap = _ from Chip.setWrap_wrap ..]
  have hw3 : c3.wrap = c1.wrap := by
    unfold c3
    split <;> rfl
  refine ⟨?_, (congrArg Wrap.state hw3).trans hw1, rfl, rfl, ?_, fun n => ?_, hd⟩
  · exact hp3.1.trans (hp2.1.trans (congrArg Power.state hp1))
  · exact hp3.2.1.trans (hp2.2.1.trans ((congrArg Power.pwrLoss hp1).trans rfl))
  · refine (hp3.2.2 n).trans ((congrArg Rail.cfg (hp2.2.2 n)).trans ?_)
    unfold Chip.rail
    rw [hp1]

/-! ### The stop -/

/-- What the stop of the heads can change. -/
abbrev stopGrps : List Grp := [.heads, .obj, .cache, .hbm, .med, .integ, .dolly, .twin, .wit, .ledger, .sec, .ring, .boot, .deferred, .outs]

section
variable {l : List Grp} {a c : Chip} (k : a.Flows l c)
include k

theorem Chip.Flows.useSeq (hl : ∀ g ∈ [Grp.wit, .ledger, .ring], g ∈ l := by decide) : a.Flows l c.useSeq := by
  refine k.andThen hl ?_
  unfold Chip.useSeq
  exact (Chip.Flows.refl c).countNow.onWit.ite (Chip.Flows.refl c).onWit

theorem Chip.Flows.sendWitness {t d r} (hl : ∀ g ∈ [Grp.wit, .ledger, .ring, .outs], g ∈ l := by decide) : a.Flows l (c.sendWitness t d r) := by
  refine k.andThen hl ?_
  unfold Chip.sendWitness
  exact (Chip.Flows.refl c).ite ((Chip.Flows.refl c).useSeq.sendTwin.ite (Chip.Flows.refl c).useSeq.emit)

theorem Chip.Flows.setLease {s} (hl : ∀ g ∈ [Grp.wit, .ring, .outs], g ∈ l := by decide) : a.Flows l (c.setLease s) := by
  refine k.andThen hl ?_
  unfold Chip.setLease
  exact (Chip.Flows.refl c).ite (Chip.Flows.refl c).onWit.notify

theorem Chip.Flows.dropMirrored (hl : ∀ g ∈ [Grp.cache, .hbm, .med, .twin], g ∈ l := by decide) : a.Flows l c.dropMirrored := by
  refine k.andThen hl ?_
  unfold Chip.dropMirrored
  extract_lets mirrored c1
  have h1 : c.Flows [.cache, .hbm, .med, .twin] c1 := (Chip.Flows.refl c).foldl fun _ _ h => h.markStale
  exact h1.onTwin.onHbm.onCache

theorem Chip.Flows.dropHeld (hl : ∀ g ∈ [Grp.twin, .dolly], g ∈ l := by decide) : a.Flows l c.dropHeld :=
  k.andThen hl (Chip.Flows.refl c).onTwin.onDolly

theorem Chip.Flows.stopOps (hl : Grp.cache ∈ l := by decide) : a.Flows l c.stopOps := by
  unfold Chip.stopOps
  exact k.onCache hl

end

theorem Chip.unclaimAll_paused (c : Chip) : c.unclaimAll.dolly.paused = c.dolly.paused := by
  unfold Chip.unclaimAll
  extract_lets n c' gone
  show c'.dolly.paused = _
  unfold c'
  split <;> rfl

/-- Every head stops Disabled; nothing of the gaffer's, the reserve's or the wrap's changes. -/
theorem Chip.stopHeads_stops (c : Chip) : c.keepsBut stopGrps c.stopHeads ∧ ∀ h ∈ c.presentHeads, (c.stopHeads.head h).link = .disabled := by
  unfold Chip.stopHeads
  extract_lets c1 c2 c3 c4 c5 c6 c7
  have h0 : c.Flows [.obj, .ring, .boot] (c.bistEnd 2 0 0) := (Chip.Flows.refl c).bistEnd
  obtain ⟨hk1, hl1⟩ := (c.bistEnd 2 0 0).disableHeads_disabled
  have h2 : c1.keepsBut [.heads] c2 := fun g hg => by
    cases g
    case heads => exact absurd (by decide) hg
    case ring => exact sameRing.refl _
    all_goals rfl
  have hl2 (h : HeadNo) : (c2.head h).link = (c1.head h).link := by
    have he : c2.head h = { c1.head h with cue := {} } := Vector.getElem_map (xs := c1.heads) (i := h.val) (fun (d : Head) => ({ d with cue := {} } : Head)) h.isLt
    rw [he]
  have h3 : c2.Flows stopGrps c3 := (Chip.Flows.refl c2).closeReels
  have h4 : c3.keepsBut [.obj] c4 := (Chip.keepsBut_refl c3 _).onObj _ (by decide)
  have h6 : c4.Flows stopGrps c6 := ((Chip.Flows.refl c4).dropMirrored).onCache
  have h7 : c4.Flows stopGrps c7 := h6.onHbm
  have h8 : c4.Flows stopGrps (if c7.wit.registered then (c7.sendWitness 6).setLease .released else c7) := h7.sendWitness.setLease.ite h7
  have hk2 : c.keepsBut stopGrps c2 :=
    Chip.keepsBut_trans (Chip.keepsBut_trans (Chip.keepsBut_mono h0.keeps (by decide)) (Chip.keepsBut_mono hk1 (by decide))) (Chip.keepsBut_mono h2 (by decide))
  refine ⟨Chip.keepsBut_trans (Chip.keepsBut_trans (Chip.keepsBut_trans hk2 h3.keeps) (Chip.keepsBut_mono h4 (by decide))) h8.keeps, fun h hh => ?_⟩
  calc _ = (c4.head h).link := h8.links h
    _ = (c2.head h).link := h3.links h
    _ = (c1.head h).link := hl2 h
    _ = .disabled := hl1 h (h0.keeps.presentHeads_eq ▸ hh)

/-- The twin link is down, the dolly is paused, and the heads stay as they are. -/
theorem Chip.stopWork_stops (c : Chip) : c.Flows stopGrps c.stopWork ∧ c.stopWork.twin.link = .down ∧ c.stopWork.dolly.paused = true := by
  unfold Chip.stopWork
  extract_lets c1 c2
  let c3 := c2.onInteg fun i => { i with scan := i.scan.map (fun (s : Scan) => { s with done := true }) }
  obtain ⟨hs, hl⟩ := c.twinDown_down
  have h1 : c.Flows stopGrps c1 := (hs.mono).dropHeld
  have hl1 : c1.twin.link = .down := hl
  have h3 : c1.Flows [.cache, .dolly, .integ, .ring] c3.unclaimAll := ((Chip.Flows.refl c1).onDolly.onInteg).unclaimAll
  have h4 : c3.unclaimAll.Flows [.cache, .hbm, .ring] c3.unclaimAll.stopOps.evalPanic := (Chip.Flows.refl _).stopOps.evalPanic
  refine ⟨(h1.andThen (by decide) h3).andThen (by decide) h4, ?_, ?_⟩
  · exact (congrArg Twin.link (h4.keeps.twin_eq.trans h3.keeps.twin_eq)).trans hl1
  · exact (congrArg Dolly.paused h4.keeps.dolly_eq).trans c3.unclaimAll_paused

/-- A wrap has started as `Chip.wraps` says; what it leaves of the gaffer's part, and the clock, is as it was. -/
theorem Chip.startWrap_wraps (c : Chip) (cause : Nat) (hw : c.wrapping = false) (hp : c.pwr.state = .on) :
    let d := c.startWrap cause
    d.wraps cause ∧ d.pwr.pwrLoss = c.pwr.pwrLoss ∧ (∀ n : RailNo, (d.rail n).cfg = (c.rail n).cfg) ∧ d.clk = c.clk ∧ d.presentHeads = c.presentHeads := by
  intro d
  have hd : d = ((c.recordWrap cause).stopHeads).stopWork := c.startWrap_eq cause hw hp
  obtain ⟨hstate, hwrap, hcause, hfrozen, hloss, hcfg, hr⟩ := c.recordWrap_records cause
  obtain ⟨hh, hlinks⟩ := (c.recordWrap cause).stopHeads_stops
  obtain ⟨hk, hlink, hpaused⟩ := (c.recordWrap cause).stopHeads.stopWork_stops
  have hall : (c.recordWrap cause).keepsBut stopGrps d := hd ▸ Chip.keepsBut_trans hh hk.keeps
  have hpresent : d.presentHeads = c.presentHeads := hall.presentHeads_eq.trans hr.keeps.presentHeads_eq
  refine ⟨⟨?_, ?_, ?_, ?_, fun h hm => ?_, hd ▸ hlink, hd ▸ hpaused⟩, ?_, fun n => ?_, ?_, hpresent⟩
  · rw [hall.pwr_eq, hstate]
  · rw [hall.wrap_eq, hwrap]
  · rw [hall.wrap_eq, hcause]
  · rw [hall.res_eq, hfrozen]
  · rw [hd, hk.links]
    exact hlinks h (hr.keeps.presentHeads_eq.symm ▸ hpresent ▸ hm)
  · rw [hall.pwr_eq, hloss]
  · rw [← hcfg n]
    unfold Chip.rail
    rw [hall.pwr_eq]
  · rw [hall.clk_eq, hr.keeps.clk_eq]

end Sys2Proof.Machine
end

section
/-! The triggers of a wrap (Table 10-7): loss of power, of REFCLK and of the gaffer's firmware; and REFCLK back (10 R437). -/

namespace Sys2Proof.Machine

-- One theorem at a time: elaborated at once, their nested proofs wait for one another, a thread and its stack for each.
set_option Elab.async false

theorem Chip.ended_wraps {was c : Chip} {cause : Nat} (h : c.wraps cause) : (Chip.ended was c).wraps cause := by
  obtain ⟨hp, hw, hc, hf, hl, ht, hd⟩ := h
  unfold Chip.wraps
  simp only [Chip.ended_pwr, Chip.ended_wrap, Chip.ended_res, Chip.ended_twin, Chip.ended_dolly, Chip.ended_head]
  exact ⟨hp, hw, hc, hf, fun h hh => hl h ((Chip.keepsBut_end was c).presentHeads_eq ▸ hh), ht, hd⟩

section
variable {c : Chip} {cause : Nat}

theorem Chip.triggerWrap_off (h : c.pwr.state ≠ .on) : c.triggerWrap cause = c := if_pos (by simpa using h)

theorem Chip.triggerWrap_starts (h : c.mayWrap) : c.triggerWrap cause = c.startWrap cause := by
  obtain ⟨hp, hr, hm, -⟩ := h
  unfold Chip.triggerWrap
  rw [if_neg (by simp [hp]), if_neg (by simp [hr, hm])]

theorem Chip.triggerWrap_wraps (h : c.mayWrap) :
    let d := c.triggerWrap cause
    d.wraps cause ∧ d.pwr.pwrLoss = c.pwr.pwrLoss ∧ (∀ n : RailNo, (d.rail n).cfg = (c.rail n).cfg) ∧ d.clk = c.clk ∧ d.presentHeads = c.presentHeads := by
  rw [Chip.triggerWrap_starts h]
  exact c.startWrap_wraps cause h.2.2.2 h.1

end

/-! ### Loss of power -/

/-- PWR_LOSS_N is low. -/
def Chip.losePower (c : Chip) : Chip := c.onPwr fun p => { p with pwrLoss := true }

section
variable {s : State}

theorem powerLoss_wraps (h : s.chip.mayWrap) : Completes .powerLoss s fun c => c.wraps 1 ∧ c.pwr.pwrLoss = true := by
  have hm : s.chip.losePower.mayWrap := h
  obtain ⟨hw, hl, -⟩ := Chip.triggerWrap_wraps (cause := 1) hm
  exact .of_onChip (f := fun c => c.losePower.triggerWrap 1) rfl rfl ⟨Chip.ended_wraps hw, by rw [Chip.ended_pwr]; exact hl⟩

theorem powerLoss_off (h : s.chip.pwr.state ≠ .on) :
    Completes .powerLoss s fun c => c.pwr = { s.chip.pwr with pwrLoss := true } ∧ s.chip.keepsBut [.pwr] c := by
  have ho : s.chip.losePower.pwr.state ≠ .on := h
  refine .of_onChip (f := fun c => c.losePower.triggerWrap 1) rfl (Chip.triggerWrap_off ho) ⟨?_, ?_⟩
  · rw [Chip.ended_pwr]
    rfl
  · exact Chip.keepsBut_ended ((Chip.keepsBut_refl s.chip _).onPwr _ (by decide))

/-! ### The gaffer's watchdog -/

/-- Every channel has its SQ_CONFIG from the hardware copy. -/
def Chip.loadHwCfg (c : Chip) : Chip := c.onPwr fun p => { p with rails := Vector.ofFn (fun n => { p.rails.get n with cfg := p.hwCfg.get n }) }

theorem Chip.loadHwCfg_rail (c : Chip) (n : RailNo) : c.loadHwCfg.rail n = { c.rail n with cfg := c.pwr.hwCfg.get n } :=
  Vector.getElem_ofFn (f := fun n => ({ c.pwr.rails.get n with cfg := c.pwr.hwCfg.get n } : Rail)) n.isLt

theorem gafferWatchdog_wraps (h : s.chip.mayWrap) : Completes .gafferWatchdog s fun c => c.wraps 5 ∧ ∀ n : RailNo, (c.rail n).cfg = s.chip.pwr.hwCfg.get n := by
  have hm : s.chip.loadHwCfg.mayWrap := h
  obtain ⟨hw, -, hr, -⟩ := Chip.triggerWrap_wraps (cause := 5) hm
  refine .of_onChip (f := fun c => c.loadHwCfg.triggerWrap 5) rfl rfl ⟨Chip.ended_wraps hw, fun n => ?_⟩
  rw [show (Chip.ended s.chip _).rail n = Chip.rail _ n from congrArg (fun p : Power => p.rails.get n) (Chip.ended_pwr ..), hr, Chip.loadHwCfg_rail]

theorem gafferWatchdog_off (h : s.chip.pwr.state ≠ .on) : Completes .gafferWatchdog s fun c =>
    c.pwr.state = s.chip.pwr.state ∧ (∀ n : RailNo, c.rail n = { s.chip.rail n with cfg := s.chip.pwr.hwCfg.get n }) ∧ s.chip.keepsBut [.pwr] c := by
  have ho : s.chip.loadHwCfg.pwr.state ≠ .on := h
  refine .of_onChip (f := fun c => c.loadHwCfg.triggerWrap 5) rfl (Chip.triggerWrap_off ho) ⟨?_, fun n => ?_, ?_⟩
  · rw [Chip.ended_pwr]
    rfl
  · rw [← Chip.loadHwCfg_rail]
    exact congrArg (fun p : Power => p.rails.get n) (Chip.ended_pwr ..)
  · exact Chip.keepsBut_ended ((Chip.keepsBut_refl s.chip _).onPwr _ (by decide))

/-! ### REFCLK -/

/-- The root PLL runs in holdover. -/
def Chip.holdOver (c : Chip) : Chip := c.onClk fun k => { k with refclkOk := false, holdover := true }

theorem exec_refclkLost (s : State) : exec .refclkLost s = s.onChip fun c =>
    ((c.holdOver.triggerWrap 4).presentHeads.foldl Chip.retrainHead (c.holdOver.triggerWrap 4)).twinDown := rfl

/-- After a wrap has started, the loss of REFCLK finds no link up. -/
theorem Chip.wraps_retrained {c : Chip} (h : c.wraps 4) : (c.presentHeads.foldl Chip.retrainHead c).twinDown = c := by
  obtain ⟨-, -, -, -, hl, ht, -⟩ := h
  have hfold (hs : List HeadNo) (hm : ∀ h ∈ hs, h ∈ c.presentHeads) : hs.foldl Chip.retrainHead c = c := by
    induction hs with
    | nil => rfl
    | cons k rest ih =>
      have hk : c.retrainHead k = c := if_neg (by rw [hl k (hm k List.mem_cons_self)]; decide)
      rw [List.foldl_cons, hk]
      exact ih fun h hh => hm h (List.mem_cons_of_mem _ hh)
  rw [hfold _ fun _ h => h]
  exact if_pos ht

theorem refclkLost_wraps (h : s.chip.mayWrap) :
    Completes .refclkLost s fun c => c.wraps 4 ∧ c.clk = { s.chip.clk with refclkOk := false, holdover := true } := by
  have hm : s.chip.holdOver.mayWrap := h
  obtain ⟨hw, -, -, hc, -⟩ := Chip.triggerWrap_wraps (cause := 4) hm
  exact .of_onChip (exec_refclkLost s) (Chip.wraps_retrained hw) ⟨Chip.ended_wraps hw, by rw [Chip.ended_clk]; exact hc⟩

theorem refclkLost_off (h : s.chip.pwr.state ≠ .on) : Completes .refclkLost s fun c =>
    c.clk = { s.chip.clk with refclkOk := false, holdover := true } ∧ c.twin.link = .down ∧ c.pwr = s.chip.pwr ∧ c.wrap = s.chip.wrap ∧
      ∀ h ∈ s.chip.presentHeads, (c.head h).link = (if (s.chip.head h).link = .up then .training else (s.chip.head h).link) := by
  let c1 := s.chip.holdOver
  let c2 := c1.presentHeads.foldl Chip.retrainHead c1
  have ho : c1.triggerWrap 4 = c1 := Chip.triggerWrap_off h
  have hk2 : c1.keepsBut stopGrps c2 := Chip.keepsBut_mono (c1.keepsBut_retrainHeads _) (by decide)
  obtain ⟨hf, hl⟩ := c2.twinDown_down
  have hk : c1.keepsBut stopGrps c2.twinDown := Chip.keepsBut_trans hk2 (Chip.keepsBut_mono hf.keeps (by decide))
  refine .of_onChip (exec_refclkLost s) (d := c2.twinDown) (by rw [show s.chip.holdOver.triggerWrap 4 = c1 from ho]) ⟨?_, ?_, ?_, ?_, fun h hh => ?_⟩
  · rw [Chip.ended_clk, hk.clk_eq]
    rfl
  · rw [Chip.ended_twin, hl]
  · rw [Chip.ended_pwr, hk.pwr_eq]
    rfl
  · rw [Chip.ended_wrap, hk.wrap_eq]
    rfl
  · rw [Chip.ended_head, hf.links, Chip.link_retrainHeads]
    exact if_congr (and_iff_right hh) rfl rfl

end
end Sys2Proof.Machine
end

section
/-! The main domain leaves reset (10 R437; 15 R386), and the gaffer powers up again (10 R279, R284; Table 10-11). -/

namespace Sys2Proof.Machine

-- One theorem at a time: elaborated at once, their nested proofs wait for one another, a thread and its stack for each.
set_option Elab.async false

/-! ### Out of reset -/

/-- A head that may train, trains. -/
def Chip.trainHead (c : Chip) (h : HeadNo) : Chip :=
  if c.mayTrain h && !(c.head h).perst then c.onHead h fun d => { d with link := .training } else c

theorem Chip.keepsBut_trainHead (c : Chip) (h : HeadNo) : c.keepsBut [.heads] (c.trainHead h) := by
  unfold Chip.trainHead
  split
  · exact (Chip.keepsBut_refl c _).onHead _ _ (by decide)
  · exact Chip.keepsBut_refl _ _

/-- A head in reset stays in reset with the link that it has. -/
theorem Chip.trainHead_perst (c : Chip) (h k : HeadNo) (hp : (c.head k).perst = true) : (c.trainHead h).head k = c.head k := by
  unfold Chip.trainHead
  split
  · next hc =>
    refine Chip.head_onHead_ne _ _ _ fun he => ?_
    rw [← he, hp] at hc
    simp at hc
  · rfl

/-- Up to its heads: boot stage 2, and the budget is no longer frozen. -/
def Chip.releaseMain (c : Chip) : Chip :=
  let c := c.onBoot fun b => { b with mainOut := true, stage := 2, stageEnds := b.stageEnds.set 0 ((c.now - 40 * b.startAt) / 1000) }
  let c := (c.onRes fun r => { r with frozen := false }).onCache fun k => { k with budget := c.res.published }
  let c := c.onWrap fun w => { w with state := 0 }
  c.onClk fun k => { k with leftReset := k.ticks }

theorem Chip.leaveReset_eq (c : Chip) : c.leaveReset = c.releaseMain.presentHeads.foldl Chip.trainHead c.releaseMain := rfl

theorem Chip.releaseMain_keeps (c : Chip) : c.keepsBut [.clk, .boot, .res, .cache, .wrap] c.releaseMain :=
  ((((Chip.keepsBut_refl c _).onBoot _ (by decide)).onRes _ (by decide)).onCache _ (by decide)).onWrap _ (by decide) |>.onClk _ (by decide)

theorem Chip.leaveReset_starts (c : Chip) :
    c.starts c.leaveReset ∧ c.leaveReset.clk = { c.clk with leftReset := c.clk.ticks } ∧
      c.keepsBut [.clk, .boot, .res, .cache, .wrap, .heads] c.leaveReset := by
  rw [Chip.leaveReset_eq]
  have hk : c.releaseMain.keepsBut [.heads] (c.releaseMain.presentHeads.foldl Chip.trainHead c.releaseMain) :=
    Chip.keepsBut.foldl _ _ (Chip.keepsBut_refl _ _) fun d h kd => Chip.keepsBut_trans kd (d.keepsBut_trainHead h)
  have hperst (hs : List HeadNo) (d : Chip) (k : HeadNo) (hp : (d.head k).perst = true) : (hs.foldl Chip.trainHead d).head k = d.head k := by
    induction hs generalizing d with
    | nil => rfl
    | cons h rest ih =>
      have h1 := d.trainHead_perst h k hp
      rw [List.foldl_cons, ih _ (h1 ▸ hp), h1]
  have hfull : c.keepsBut [.clk, .boot, .res, .cache, .wrap, .heads] (c.releaseMain.presentHeads.foldl Chip.trainHead c.releaseMain) :=
    Chip.keepsBut_trans (Chip.keepsBut_mono c.releaseMain_keeps (by decide)) (Chip.keepsBut_mono hk (by decide))
  refine ⟨⟨?_, ?_, ?_, ?_, ?_, ?_, fun h hh hp => ?_⟩, hk.clk_eq, hfull⟩
  · exact hk.boot_field Boot.mainOut
  · exact hk.boot_field Boot.stage
  · rw [hk.res_eq]; rfl
  · rw [hk.wrap_eq]; rfl
  · rw [hk.clk_eq]; rfl
  · rw [hk.clk_eq]; rfl
  · exact congrArg Head.link (hperst _ c.releaseMain h hp)

/-- Neither the numbering of frames nor the latched flags matter to a chip that starts. -/
theorem Chip.ended_starts {a was c : Chip} (h : a.starts c) : a.starts (Chip.ended was c) := by
  obtain ⟨hm, hst, hf, hw, hl, ht, hp⟩ := h
  have hend := Chip.keepsBut_end was c
  refine ⟨(hend.boot_field Boot.mainOut).trans hm, (hend.boot_field Boot.stage).trans hst, ?_, ?_, ?_, ?_, fun h hh hr => ?_⟩
  · rw [Chip.ended_res, hf]
  · rw [Chip.ended_wrap, hw]
  · rw [Chip.ended_clk, hl]
  · rw [Chip.ended_clk, ht]
  · rw [Chip.ended_head, hp h hh hr]

/-- REFCLK is back. -/
def Chip.clockBack (c : Chip) : Chip := c.onClk fun k => { k with refclkOk := true, holdover := false }

section
variable {s : State}

theorem exec_refclkRestored (s : State) : exec .refclkRestored s = s.onChip fun c =>
    if c.clockBack.pwr.state = .on && !c.clockBack.boot.mainOut && c.clockBack.pwr.resetN then c.clockBack.leaveReset else c.clockBack := rfl

theorem refclkRestored_starts (hp : s.chip.pwr.state = .on) (hm : s.chip.boot.mainOut = false) (hr : s.chip.pwr.resetN = true) :
    Completes .refclkRestored s fun c => s.chip.starts c ∧ c.clk.refclkOk = true ∧ c.clk.holdover = false ∧
      s.chip.keepsBut [.clk, .boot, .res, .cache, .wrap, .heads] c := by
  obtain ⟨hs, hc, hk⟩ := s.chip.clockBack.leaveReset_starts
  have hstart : s.chip.starts s.chip.clockBack.leaveReset := hs
  have hback : s.chip.keepsBut [.clk] s.chip.clockBack := (Chip.keepsBut_refl s.chip _).onClk _ (by decide)
  refine .of_onChip (exec_refclkRestored s) (if_pos ?_) ⟨Chip.ended_starts hstart, ?_, ?_, ?_⟩
  · show (decide (s.chip.pwr.state = .on) && !s.chip.boot.mainOut && s.chip.pwr.resetN) = true
    simp [hp, hm, hr]
  · rw [Chip.ended_clk, hc]; rfl
  · rw [Chip.ended_clk, hc]; rfl
  · exact Chip.keepsBut_ended (Chip.keepsBut_trans (Chip.keepsBut_mono hback (by decide)) hk)

theorem refclkRestored_stays (h : s.chip.pwr.state ≠ .on ∨ s.chip.boot.mainOut = true ∨ s.chip.pwr.resetN = false) :
    Completes .refclkRestored s fun c => c.clk = { s.chip.clk with refclkOk := true, holdover := false } ∧ s.chip.keepsBut [.clk] c := by
  refine .of_onChip (exec_refclkRestored s) (if_neg ?_) ⟨?_, ?_⟩
  · show ¬ (decide (s.chip.pwr.state = .on) && !s.chip.boot.mainOut && s.chip.pwr.resetN) = true
    rcases h with h | h | h <;> simp [h]
  · rw [Chip.ended_clk]; rfl
  · exact Chip.keepsBut_ended ((Chip.keepsBut_refl s.chip _).onClk _ (by decide))

end

/-! ### A power-up -/

theorem Chip.onRail_rail (c : Chip) (n k : RailNo) (f : Rail → Rail) : (c.onRail n f).rail k = if k = n then f (c.rail n) else c.rail k := by
  by_cases hk : k = n
  · subst hk
    rw [if_pos rfl]
    exact Vector.getElem_set_self (xs := c.pwr.rails) (i := k.val) k.isLt
  · rw [if_neg hk]
    exact Vector.getElem_set_ne (xs := c.pwr.rails) (i := n.val) (j := k.val) n.isLt k.isLt fun h => hk (Fin.ext h.symm)

/-- A rule applied once to each of a list of channels. -/
theorem Chip.onRails_rail (ns : List RailNo) (f : Rail → Rail) (c : Chip) (hf : ∀ r, f (f r) = f r) (k : RailNo) :
    (ns.foldl (fun c n => c.onRail n f) c).rail k = if k ∈ ns then f (c.rail k) else c.rail k := by
  induction ns generalizing c with
  | nil => rfl
  | cons n rest ih =>
    rw [List.foldl_cons, ih, Chip.onRail_rail]
    by_cases hk : k = n
    · subst hk
      simp [hf]
    · simp [hk]

/-- Changes of channels change nothing of the power part but the channels. -/
theorem Chip.onRails_pwr (ns : List RailNo) (f : Rail → Rail) (c : Chip) :
    ∃ v, (ns.foldl (fun c n => c.onRail n f) c) = c.onPwr fun p => { p with rails := v } := by
  induction ns generalizing c with
  | nil => exact ⟨c.pwr.rails, rfl⟩
  | cons n rest ih =>
    obtain ⟨v, hv⟩ := ih (c.onRail n f)
    exact ⟨v, hv⟩

theorem Chip.mem_railsThat {c : Chip} {f : Rail → Bool} {n : RailNo} : n ∈ c.railsThat f ↔ (c.rail n).isRail = true ∧ f (c.rail n) = true := by
  simp [Chip.railsThat]

/-- Up to its first step, a power-up: the SQ_CONFIG entries are loaded, no probe has run, and the budget is 0. -/
def Chip.loadUp (c : Chip) : Chip :=
  let cfgs : Vector (BitVec 256) 16 := Vector.ofFn c.sqStored
  let c := c.onPwr fun p =>
    { p with state := .up, step := 0, hwCfg := cfgs, rails := Vector.ofFn (fun n => freshRail (cfgs.get n) (p.rails.get n)),
             afterDown := 0, stuck := false }
  let c := (c.onWrap fun w => { w with state := 0 }).onBoot fun b => { b with startAt := c.clk.ticks }
  c.onRes fun r =>
    { r with probed := false, published := 0, frozen := false, probe := 0, above := 0,
             capUf := c.par 0x6010 4 0, esrUohm := c.par 0x6010 5 0 }

/-- The channels of an up step that do not count as done. -/
def Chip.upRails (c : Chip) (s : Nat) : List RailNo := c.railsThat fun r => decide (r.upStep + 1 = s) && !r.done

theorem Chip.beginUp_eq (c : Chip) : c.beginUp = c.loadUp.runUp ((c.loadUp.nextUp 0).getD 0) := rfl

theorem Chip.loadUp_rail (c : Chip) (n : RailNo) : c.loadUp.rail n = freshRail (c.sqStored n) (c.rail n) := by
  have hcfg : (Vector.ofFn c.sqStored).get n = c.sqStored n := Vector.getElem_ofFn n.isLt
  rw [← hcfg]
  exact Vector.getElem_ofFn (f := fun n => freshRail ((Vector.ofFn c.sqStored).get n) (c.pwr.rails.get n)) n.isLt

/-- No RAIL channel has a lower up step than the first. -/
theorem Chip.nextUp_least (c : Chip) {n : RailNo} (hr : (c.rail n).isRail = true) :
    (c.nextUp 0).getD 0 ≤ (c.rail n).upStep + 1 := by
  have hn : n ∈ c.railsThat fun r => decide (r.upStep = (c.rail n).upStep) := Chip.mem_railsThat.2 ⟨hr, decide_eq_true rfl⟩
  unfold Chip.nextUp
  rw [List.head?_filter]
  cases hf : (List.range 16).find? fun k => decide (0 < k + 1) && !(c.railsThat fun r => decide (r.upStep = k)).isEmpty with
  | none => exact Nat.zero_le _
  | some j =>
    have hj := (List.find?_range_eq_some.1 hf).2.2
    by_contra hlt
    have hlow := hj (c.rail n).upStep (by simpa using hlt)
    rw [List.isEmpty_eq_false_iff_exists_mem.2 ⟨n, hn⟩] at hlow
    simp at hlow

/-- A power-up runs its first step. -/
theorem Chip.runUp_raises (c : Chip) (s : Nat) :
    (∃ v, c.runUp s = c.onPwr fun p => { p with step := s, rails := v }) ∧
      ∀ n, (c.runUp s).rail n = if (c.rail n).isRail = true ∧ (c.rail n).upStep + 1 = s ∧ (c.rail n).done = false then (c.rail n).raise else c.rail n := by
  let d := c.onPwr fun p => { p with step := s }
  constructor
  · exact Chip.onRails_pwr _ Rail.raise d
  · intro n
    refine (Chip.onRails_rail _ Rail.raise d (fun _ => rfl) n).trans (if_congr ?_ rfl rfl)
    rw [Chip.mem_railsThat, show d.rail n = c.rail n from rfl]
    simp

theorem Rail.raise_isRail (r : Rail) : r.raise.isRail = r.isRail := rfl
theorem Rail.raise_upStep (r : Rail) : r.raise.upStep = r.upStep := rfl

/-- Once the first step runs on channels of which no EN is high, the RAIL channels of that step ramp, and no other EN is high. -/
theorem Chip.runUp_first (d : Chip) (hd : ∀ n, (d.rail n).done = false ∧ (d.rail n).en = false) :
    let s := (d.nextUp 0).getD 0
    let e := d.runUp s
    (∀ n, (e.rail n).cfg = (d.rail n).cfg) ∧ (∀ n, (e.rail n).en = true ↔ (e.rail n).isRail = true ∧ s = (e.rail n).upStep + 1) ∧
      (∀ n, (e.rail n).isRail = true → s ≤ (e.rail n).upStep + 1) ∧ ∀ n, (e.rail n).en = true → (e.rail n).state = .ramping := by
  intro s e
  have hrail (n : RailNo) : e.rail n = if (d.rail n).isRail = true ∧ (d.rail n).upStep + 1 = s then (d.rail n).raise else d.rail n :=
    ((d.runUp_raises s).2 n).trans (if_congr (by rw [(hd n).1]; tauto) rfl rfl)
  have hcfg (n : RailNo) : (e.rail n).cfg = (d.rail n).cfg ∧ (e.rail n).isRail = (d.rail n).isRail ∧ (e.rail n).upStep = (d.rail n).upStep := by
    rw [hrail]
    split
    · exact ⟨rfl, Rail.raise_isRail _, Rail.raise_upStep _⟩
    · exact ⟨rfl, rfl, rfl⟩
  refine ⟨fun n => (hcfg n).1, fun n => ?_, fun n hr => ?_, fun n hen => ?_⟩
  · rw [(hcfg n).2.1, (hcfg n).2.2, hrail]
    split
    · next h => exact ⟨fun _ => ⟨h.1, h.2.symm⟩, fun _ => rfl⟩
    · next h =>
      rw [(hd n).2]
      exact ⟨fun hc => absurd hc Bool.false_ne_true, fun hc => absurd ⟨hc.1, hc.2.symm⟩ h⟩
  · rw [(hcfg n).2.2]
    exact d.nextUp_least ((hcfg n).2.1 ▸ hr)
  · rw [hrail] at hen ⊢
    split
    · rfl
    · next h =>
      rw [if_neg h, (hd n).2] at hen
      exact absurd hen Bool.false_ne_true

theorem Chip.beginUp_powersUp (c : Chip) : c.powersUp c.beginUp ∧ c.keepsBut [.pwr, .wrap, .boot, .res] c.beginUp ∧
    c.beginUp.pwr.pwrLoss = c.pwr.pwrLoss ∧ c.beginUp.pwr.retriesUsed = c.pwr.retriesUsed := by
  have hfresh (n : RailNo) : (c.loadUp.rail n).done = false ∧ (c.loadUp.rail n).en = false := by rw [c.loadUp_rail]; exact ⟨rfl, rfl⟩
  have hload : c.keepsBut [.pwr, .wrap, .boot, .res] c.loadUp :=
    ((((Chip.keepsBut_refl c _).onPwr _ (by decide)).onWrap _ (by decide)).onBoot _ (by decide)).onRes _ (by decide)
  obtain ⟨hcfg, hen, hleast, hramp⟩ := c.loadUp.runUp_first hfresh
  obtain ⟨v, hv⟩ := (c.loadUp.runUp_raises ((c.loadUp.nextUp 0).getD 0)).1
  have hpwr : c.beginUp.pwr = { c.loadUp.pwr with step := (c.loadUp.nextUp 0).getD 0, rails := v } := congrArg Chip.pwr hv
  have hstep : c.beginUp.pwr.step = (c.loadUp.nextUp 0).getD 0 := by rw [hpwr]
  have hrest : c.loadUp.keepsBut [.pwr] c.beginUp := by
    rw [c.beginUp_eq, hv]
    exact (Chip.keepsBut_refl c.loadUp _).onPwr _ (by decide)
  refine ⟨⟨?_, fun n => ⟨?_, ?_⟩, fun n => ?_, fun n hr _ => ?_, hramp, ?_, ?_, ?_, ?_⟩, Chip.keepsBut_trans hload (Chip.keepsBut_mono hrest (by decide)), ?_, ?_⟩
  · rw [hpwr]; rfl
  · rw [hpwr]
    exact Vector.getElem_ofFn n.isLt
  · refine (hcfg n).trans ?_
    rw [c.loadUp_rail]
    rfl
  · rw [hstep]
    exact hen n
  · rw [hstep]
    exact hleast n hr
  · rw [hrest.res_eq]; rfl
  · rw [hrest.res_eq]; rfl
  · rw [hrest.wrap_eq]; rfl
  · exact hrest.boot_field Boot.startAt
  · rw [hpwr]; rfl
  · rw [hpwr]; rfl

theorem Chip.ended_powersUp {a was c : Chip} (h : a.powersUp c) : a.powersUp (Chip.ended was c) := by
  have hend := Chip.keepsBut_end was c
  have hrail (n : RailNo) : (Chip.ended was c).rail n = c.rail n := congrArg (fun p : Power => p.rails.get n) hend.pwr_eq
  have hstart : (Chip.ended was c).boot.startAt = c.boot.startAt := hend.boot_field Boot.startAt
  unfold Chip.powersUp
  simp only [hrail, hstart, Chip.ended_pwr, Chip.ended_res, Chip.ended_wrap]
  exact h

/-! ### The restart after a wrap -/

theorem Chip.lockout_locks (c : Chip) : c.lockout.pwr.state = .lockout ∧ c.keepsBut [.pwr, .ring] c.lockout :=
  ⟨rfl, ((Chip.Flows.refl (l := [.pwr, .ring]) c).onPwr.snapshot).keeps⟩

/-- A retry is counted and its snapshot taken. -/
def Chip.countRetry (c : Chip) : Chip := (c.onPwr fun p => { p with retriesUsed := p.retriesUsed + 1 }).snapshot 4

theorem exec_wrapRestart (s : State) : exec .wrapRestart s = s.onChip fun c =>
    if c.pwr.state != .off || c.pwr.afterDown != 2 || !c.allOff then c
    else if c.wrap.cause = 10 then (if c.pwr.retriesUsed < c.seqRetries then c.countRetry.beginUp else c.lockout)
    else (c.onPwr fun p => { p with pwrLoss := false }).beginUp := rfl

theorem wrapRestart_restarts (s : State) :
    CompletesIf .wrapRestart s (s.chip.pwr.state = .off ∧ s.chip.pwr.afterDown = 2 ∧ s.chip.allOff = true) fun c =>
      (s.chip.wrap.cause ≠ 10 → s.chip.powersUp c ∧ c.pwr.pwrLoss = false ∧ c.pwr.retriesUsed = s.chip.pwr.retriesUsed) ∧
      (s.chip.wrap.cause = 10 → s.chip.pwr.retriesUsed < s.chip.seqRetries → s.chip.powersUp c ∧ c.pwr.retriesUsed = s.chip.pwr.retriesUsed + 1) ∧
      (s.chip.wrap.cause = 10 → s.chip.seqRetries ≤ s.chip.pwr.retriesUsed → c.pwr.state = .lockout) ∧ s.chip.keepsBut [.pwr, .wrap, .boot, .res, .ring] c := by
  unfold CompletesIf
  split
  · next h =>
    obtain ⟨hoff, hafter, hall⟩ := h
    have hrun : ¬ (s.chip.pwr.state != .off || s.chip.pwr.afterDown != 2 || !s.chip.allOff) = true := by simp [hoff, hafter, hall]
    by_cases hc : s.chip.wrap.cause = 10
    · by_cases hr : s.chip.pwr.retriesUsed < s.chip.seqRetries
      · have hcount : s.chip.keepsBut [.pwr, .ring] s.chip.countRetry := ((Chip.Flows.refl (l := [.pwr, .ring]) s.chip).onPwr.snapshot).keeps
        obtain ⟨hup, hk, -, hused⟩ := s.chip.countRetry.beginUp_powersUp
        have hup' : s.chip.powersUp s.chip.countRetry.beginUp := hup
        refine .of_onChip (exec_wrapRestart s) ((if_neg hrun).trans ((if_pos hc).trans (if_pos hr)))
          ⟨fun h => absurd hc h, fun _ _ => ⟨Chip.ended_powersUp hup', ?_⟩, fun _ h => absurd hr (Nat.not_lt.2 h), Chip.keepsBut_ended ?_⟩
        · rw [Chip.ended_pwr, hused]
          rfl
        · exact Chip.keepsBut_trans (Chip.keepsBut_mono hcount (by decide)) (Chip.keepsBut_mono hk (by decide))
      · obtain ⟨hl, hk⟩ := s.chip.lockout_locks
        refine .of_onChip (exec_wrapRestart s) ((if_neg hrun).trans ((if_pos hc).trans (if_neg hr)))
          ⟨fun h => absurd hc h, fun _ h => absurd h hr, fun _ _ => ?_, Chip.keepsBut_ended (Chip.keepsBut_mono hk (by decide))⟩
        rw [Chip.ended_pwr, hl]
    · let d := s.chip.onPwr fun p => { p with pwrLoss := false }
      have hd : s.chip.keepsBut [.pwr] d := (Chip.keepsBut_refl s.chip _).onPwr _ (by decide)
      obtain ⟨hup, hk, hloss, hused⟩ := d.beginUp_powersUp
      have hup' : s.chip.powersUp d.beginUp := hup
      refine .of_onChip (exec_wrapRestart s) ((if_neg hrun).trans (if_neg hc))
        ⟨fun _ => ⟨Chip.ended_powersUp hup', ?_, ?_⟩, fun h => absurd h hc, fun h => absurd h hc, Chip.keepsBut_ended ?_⟩
      · rw [Chip.ended_pwr]
        exact hloss
      · rw [Chip.ended_pwr]
        exact hused
      · exact Chip.keepsBut_trans (Chip.keepsBut_mono hd (by decide)) (Chip.keepsBut_mono hk (by decide))
  · next h =>
    refine untouched_of (exec_wrapRestart s) (if_pos ?_)
    by_contra hn
    exact h (by simpa [not_or, and_assoc] using hn)

end Sys2Proof.Machine
end

section
/-! The dirty map, the hourly record and the snapshot log (10 R289, R297, R300). -/

namespace Sys2Proof.Machine

-- One theorem at a time: elaborated at once, their nested proofs wait for one another, a thread and its stack for each.
set_option Elab.async false

/-! ### The dirty map -/

/-- A part of the checkpoint of a list of segments, in one group. -/
def mapOp (g : Nat) (segs : List Nat) : WbOp := { group := g, stripe := dirtyStripe, cause := .dirtyMap, dirty := segs }

/-- The parts of a checkpoint, one in each group of a list. -/
def Chip.mapOps (c : Chip) (gs : List Nat) : Chip := gs.foldl (fun c g => c.addOp (mapOp g c.dirtySegs)) c

theorem Chip.checkpoint_eq (c : Chip) : c.checkpoint =
    if c.checkpointing then c else (c.onCache fun k => { k with wb := k.wb.filter fun o => o.cause != .dirtyMap }).mapOps c.mapGroups := rfl

theorem Chip.mapOps_keeps (gs : List Nat) (c : Chip) : c.keepsBut [.cache] (c.mapOps gs) :=
  ((Chip.Flows.refl (l := [.cache]) c).foldl fun _ _ h => h.addOp).keeps

/-- Each group has its part, with the segments that hold dirty lines; the operations that were there stay. -/
theorem Chip.mapOps_wb (gs : List Nat) (c : Chip) : (∀ o ∈ c.cache.wb, o ∈ (c.mapOps gs).cache.wb) ∧
    ∀ g ∈ gs, ∃ o ∈ (c.mapOps gs).cache.wb, o.group = g ∧ o.cause = .dirtyMap ∧ o.dirty = c.dirtySegs := by
  induction gs generalizing c with
  | nil => exact ⟨fun _ h => h, fun _ h => absurd h List.not_mem_nil⟩
  | cons g rest ih =>
    obtain ⟨hold, hnew⟩ := ih (c.addOp (mapOp g c.dirtySegs))
    have hstay (o : WbOp) (h : o ∈ c.cache.wb) : o ∈ (c.addOp (mapOp g c.dirtySegs)).cache.wb := List.mem_append_left _ h
    refine ⟨fun o h => hold o (hstay o h), fun x hx => ?_⟩
    rcases List.mem_cons.1 hx with rfl | hx
    · exact ⟨_, hold _ (List.mem_append_right _ (List.mem_singleton.2 rfl)), rfl, rfl, rfl⟩
    · exact hnew x hx

/-- The segments that hold dirty lines are on their way to every group that takes a checkpoint, or one is outstanding. -/
def Chip.mapsDirty (a c : Chip) : Prop := (a.checkpointing = true → c.cache = a.cache) ∧
  (a.checkpointing = false → ∀ g ∈ a.mapGroups, ∃ o ∈ c.cache.wb, o.group = g ∧ o.cause = .dirtyMap ∧ o.dirty = a.dirtySegs)

theorem Chip.checkpoint_maps (c : Chip) : c.mapsDirty c.checkpoint ∧ c.keepsBut [.cache] c.checkpoint := by
  rw [Chip.checkpoint_eq]
  by_cases h : c.checkpointing = true
  · rw [if_pos h]
    exact ⟨⟨fun _ => rfl, fun hn => absurd h (by rw [hn]; decide)⟩, Chip.keepsBut_refl _ _⟩
  · rw [if_neg h]
    let d := c.onCache fun k => { k with wb := k.wb.filter fun o => o.cause != .dirtyMap }
    have hd : c.keepsBut [.cache] d := (Chip.keepsBut_refl c _).onCache _ (by decide)
    exact ⟨⟨fun hc => absurd hc h, fun _ => (d.mapOps_wb c.mapGroups).2⟩, Chip.keepsBut_trans hd (d.mapOps_keeps _)⟩

theorem Chip.ended_mapsDirty {a was c : Chip} (h : a.mapsDirty c) : a.mapsDirty (Chip.ended was c) := by
  unfold Chip.mapsDirty
  rw [Chip.ended_cache]
  exact h

section
variable {s : State}

theorem dirtyMapCheckpoint_maps (s : State) : CompletesIf .dirtyMapCheckpoint s (s.chip.inService = true ∧ s.chip.wrapping = false) fun c =>
    s.chip.mapsDirty c ∧ s.chip.keepsBut [.cache] c := by
  unfold CompletesIf
  split
  · next h =>
    obtain ⟨hm, hk⟩ := s.chip.checkpoint_maps
    exact .of_onChip (f := fun c => if c.inService && !c.wrapping then c.checkpoint else c) rfl (if_pos (by simp [h])) ⟨Chip.ended_mapsDirty hm, Chip.keepsBut_ended hk⟩
  · next h =>
    exact untouched_of (f := fun c => if c.inService && !c.wrapping then c.checkpoint else c) rfl (if_neg (by simpa using h))

/-! ### Page writes to an idle ledger -/

theorem toBytes_length (n v : Nat) : (toBytes n v).length = n := by
  induction n generalizing v with
  | zero => rfl
  | succ n ih => exact congrArg Nat.succ (ih _)

theorem fitBytes_length (n : Nat) (b : List Byte) : (fitBytes n b).length = n := by
  unfold fitBytes
  rw [List.length_take, List.length_append, List.length_replicate]
  omega

theorem slotBytes_length (b : List Byte) (seq : Nat) : (slotBytes b seq).length = b.length + 8 := by
  unfold slotBytes
  simp only [List.length_append, toBytes_length]

/-- Of the ledger a page write changes the queue and the write in progress. -/
theorem Chip.pageWrite_ledger (c : Chip) (cls : PageClass) (addr : Nat) (b : List Byte) :
    ∃ q p, (c.pageWrite cls addr b).ledger = { c.ledger with queue := q, current := p } := by
  have hqueue (l : Ledger) (x : PageWrite) : ∃ q, l.enqueue x = { l with queue := q } := by
    unfold Ledger.enqueue
    split <;> exact ⟨_, rfl⟩
  have hqueues (ps : List PageWrite) (l : Ledger) : ∃ q, ps.foldl Ledger.enqueue l = { l with queue := q } := by
    induction ps generalizing l with
    | nil => exact ⟨l.queue, rfl⟩
    | cons x rest ih =>
      obtain ⟨q, hq⟩ := hqueue l x
      obtain ⟨q', hq'⟩ := ih (l.enqueue x)
      exact ⟨q', hq'.trans (by rw [hq])⟩
  have hissue (l : Ledger) : ∃ q p, l.issue = { l with queue := q, current := p } := by
    unfold Ledger.issue
    split
    · exact ⟨l.queue, l.current, rfl⟩
    · split
      · exact ⟨l.queue, l.current, rfl⟩
      · exact ⟨_, _, rfl⟩
  unfold Chip.pageWrite
  split
  · exact ⟨c.ledger.queue, c.ledger.current, rfl⟩
  · obtain ⟨q, hq⟩ := hqueues (pagePieces cls addr b (b.length + 1)) c.ledger
    obtain ⟨q', p, hp⟩ := hissue { c.ledger with queue := q }
    exact ⟨q', p, (congrArg Ledger.issue hq).trans hp⟩

theorem Chip.pageWrite_cells (c : Chip) (cls : PageClass) (addr : Nat) (b : List Byte) : (c.pageWrite cls addr b).ledger.cells = c.ledger.cells := by
  obtain ⟨q, p, h⟩ := c.pageWrite_ledger cls addr b
  rw [h]

theorem Chip.pageWrite_snapNext (c : Chip) (cls : PageClass) (addr : Nat) (b : List Byte) : (c.pageWrite cls addr b).ledger.snapNext = c.ledger.snapNext := by
  obtain ⟨q, p, h⟩ := c.pageWrite_ledger cls addr b
  rw [h]

/-- Bytes that fit into what is left of their page are one page write. -/
theorem pagePieces_one {cls : PageClass} {addr : Nat} {b : List Byte} (h0 : b ≠ []) (h1 : addr % 256 + b.length ≤ 256) :
    pagePieces cls addr b (b.length + 1) = [{ cls := cls, addr := addr, bytes := b }] := by
  obtain ⟨x, rest, rfl⟩ := List.exists_cons_of_ne_nil h0
  have htake : (x :: rest).take (256 - addr % 256) = x :: rest := List.take_of_length_le (by omega)
  have hdrop : (x :: rest).drop (256 - addr % 256) = [] := List.drop_of_length_le (by omega)
  unfold pagePieces
  dsimp only
  rw [if_neg (by simp), htake, hdrop]
  unfold pagePieces
  simp

/-- With no write queued or in progress, such a write is issued at once. -/
theorem Chip.pageWrite_idle {c : Chip} {cls : PageClass} {addr : Nat} {b : List Byte} (hf : c.ledger.failed = false) (hc : c.ledger.current = none)
    (hq : c.ledger.queue = []) (h0 : b ≠ []) (h1 : addr % 256 + b.length ≤ 256) :
    (c.pageWrite cls addr b).ledger.current = some { cls := cls, addr := addr, bytes := b } := by
  unfold Chip.pageWrite
  rw [if_neg (by rw [hf]; decide), pagePieces_one h0 h1]
  show Ledger.current (Ledger.issue (Ledger.enqueue _ _)) = _
  unfold Ledger.enqueue Ledger.issue
  simp [hq, hc, hf, nextPage]

/-! ### The hourly record -/

/-- The body of the wrap record while the chip runs: RUNNING, no cause. -/
theorem Chip.wrapRecord_running (c : Chip) (cls : PageClass) : ∃ body, c.wrapRecord cls 1 0 =
    (c.onWrap fun w => { w with resumed := false }).writeRecord cls wrapRec ([1, 0, 1] ++ body) := ⟨_, by unfold Chip.wrapRecord; rfl⟩

theorem nextCopy_addr (m : Memory) (bad : List Nat) (r : RecordAt) : (nextCopy m bad r).1 = r.a ∨ (nextCopy m bad r).1 = r.b := by
  unfold nextCopy
  split
  · exact .inl rfl
  · exact .inr rfl
  · exact .inl rfl

theorem wrapRecordHourly_records (s : State) : CompletesIf .wrapRecordHourly s (s.chip.inService = true ∧ s.chip.wrapping = false) fun c =>
    c.wrap = { s.chip.wrap with resumed := false } ∧ c.ledger.cells = s.chip.ledger.cells ∧ s.chip.keepsBut [.wrap, .ledger] c ∧
      (s.chip.ledger.failed = false → s.chip.ledger.current = none → s.chip.ledger.queue = [] →
        ∃ q, c.ledger.current = some q ∧ q.cls = .system ∧ (q.addr = 0x80000 ∨ q.addr = 0x80100) ∧ q.bytes.take 3 = [1, 0, 1]) := by
  unfold CompletesIf
  split
  · next h =>
    obtain ⟨body, hb⟩ := s.chip.wrapRecord_running .system
    let d := s.chip.onWrap fun w => { w with resumed := false }
    let r := nextCopy d.ledger.ahead d.ledger.badAhead wrapRec
    let bytes := slotBytes (fitBytes 64 ([1, 0, 1] ++ body)) r.2
    have hd : s.chip.keepsBut [.wrap, .ledger] d := (Chip.keepsBut_refl s.chip _).onWrap _ (by decide)
    have hw : s.chip.wrapRecord .system 1 0 = d.pageWrite .system r.1 bytes := hb
    have hlen : bytes.length = 72 := by rw [slotBytes_length, fitBytes_length]
    have hpage : r.1 % 256 = 0 := by rcases nextCopy_addr d.ledger.ahead d.ledger.badAhead wrapRec with h | h <;> exact h ▸ rfl
    refine .of_onChip (f := fun c => if c.inService && !c.wrapping then c.wrapRecord .system 1 0 else c) rfl ((if_pos (by simp [h])).trans hw)
      ⟨?_, ?_, Chip.keepsBut_ended (hd.pageWrite _ _ _ (by decide)), fun hf hc hq => ⟨{ cls := .system, addr := r.1, bytes := bytes }, ?_, rfl, nextCopy_addr .., ?_⟩⟩
    · rw [Chip.ended_wrap, (Chip.keepsBut.pageWrite (Chip.keepsBut_refl d [.ledger]) _ _ _ (by decide)).wrap_eq]
      rfl
    · rw [Chip.ended_ledger, Chip.pageWrite_cells]
      rfl
    · rw [Chip.ended_ledger]
      refine Chip.pageWrite_idle (c := d) hf hc hq (List.ne_nil_of_length_pos (by omega)) (by omega)
    · simp [bytes, slotBytes, fitBytes]
  · next h =>
    exact untouched_of (f := fun c => if c.inService && !c.wrapping then c.wrapRecord .system 1 0 else c) rfl (if_neg (by simpa using h))

/-! ### The snapshot log -/

theorem Snapshot.image_length (x : Snapshot) : x.image.length = 64 := by
  unfold Snapshot.image
  simp only [List.length_append, toBytes_length, fitBytes_length, List.length_cons, List.length_nil]

theorem snapshotCopy_none (h : s.chip.boot.mainOut = false ∨ s.chip.pwr.snaps = []) : Completes .snapshotCopy s s.chip.untouched := by
  refine untouched_of (f := fun c => if c.boot.mainOut then c.copySnapshot .log else c) rfl ?_
  rcases h with h | h
  · exact if_neg (by rw [h]; decide)
  · unfold Chip.copySnapshot
    simp only [h, ite_self]

theorem Chip.copySnapshot_copies (c : Chip) (cls : PageClass) {x : Snapshot} {rest : List Snapshot} (h : c.pwr.snaps = x :: rest) :
    c.copySnapshot cls = ((c.onPwr fun p => { p with snaps := rest }).pageWrite cls (0x5C0000 + 64 * c.ledger.snapNext) x.image).onLedger
      fun l => { l with snapNext := (l.snapNext + 1) % 16384 } := by
  unfold Chip.copySnapshot
  rw [h]
  rfl

theorem snapshotCopy_copies (hm : s.chip.boot.mainOut = true) (x : Snapshot) (rest : List Snapshot) (h : s.chip.pwr.snaps = x :: rest) :
    Completes .snapshotCopy s fun c =>
      c.pwr = { s.chip.pwr with snaps := rest } ∧ c.ledger.snapNext = (s.chip.ledger.snapNext + 1) % 16384 ∧ s.chip.keepsBut [.pwr, .ledger] c ∧
      (s.chip.ledger.failed = false → s.chip.ledger.current = none → s.chip.ledger.queue = [] →
        c.ledger.current = some { cls := .log, addr := 0x5C0000 + 64 * s.chip.ledger.snapNext, bytes := x.image }) := by
  let d := s.chip.onPwr fun p => { p with snaps := rest }
  have hd : s.chip.keepsBut [.pwr, .ledger] d := (Chip.keepsBut_refl s.chip _).onPwr _ (by decide)
  have hw := hd.pageWrite .log (0x5C0000 + 64 * s.chip.ledger.snapNext) x.image (by decide)
  refine .of_onChip (f := fun c => if c.boot.mainOut then c.copySnapshot .log else c) rfl ((if_pos hm).trans (s.chip.copySnapshot_copies .log h))
    ⟨?_, ?_, Chip.keepsBut_ended (hw.onLedger _ (by decide)), fun hf hc hq => ?_⟩
  · rw [Chip.ended_pwr]
    exact (Chip.keepsBut.pageWrite (Chip.keepsBut_refl d [.ledger]) _ _ _ (by decide)).pwr_eq
  · rw [Chip.ended_ledger]
    exact congrArg (fun n => (n + 1) % 16384) (d.pageWrite_snapNext ..)
  · rw [Chip.ended_ledger]
    have hlen := x.image_length
    exact Chip.pageWrite_idle (c := d) hf hc hq (List.ne_nil_of_length_pos (by omega)) (by omega)

end
end Sys2Proof.Machine
end

section
/-! The drain of a wrap and step 5 (10 R295 to R297; 11 R310). -/

namespace Sys2Proof.Machine

-- One theorem at a time: elaborated at once, their nested proofs wait for one another, a thread and its stack for each.
set_option Elab.async false

section
variable {l : List Grp} {a c : Chip} (k : a.Flows l c)
include k

theorem Chip.Flows.restChannels {ks} (hl : ∀ g ∈ [Grp.cache, .hbm], g ∈ l := by decide) : a.Flows l (c.restChannels ks) := by
  refine k.andThen hl ?_
  unfold Chip.restChannels Chip.dropSched Chip.allBankRefresh
  exact (Chip.Flows.refl c).onCache.onHbm.onHbm

theorem Chip.Flows.enterSelfRefresh (hl : ∀ g ∈ [Grp.cache, .hbm], g ∈ l := by decide) : a.Flows l c.enterSelfRefresh := k.restChannels hl

theorem Chip.Flows.persistPoison {cls} (hl : ∀ g ∈ [Grp.ledger, .integ], g ∈ l := by decide) : a.Flows l (c.persistPoison cls) := by
  refine k.andThen hl ?_
  unfold Chip.persistPoison
  exact (Chip.Flows.refl c).ite (Chip.Flows.refl c).pageWrite.onInteg

theorem Chip.Flows.copySnapshot {cls} (hl : ∀ g ∈ [Grp.pwr, .ledger], g ∈ l := by decide) : a.Flows l (c.copySnapshot cls) := by
  refine k.andThen hl ?_
  unfold Chip.copySnapshot
  split
  · exact .refl c
  · exact (Chip.Flows.refl c).onPwr.pageWrite.onLedger

theorem Chip.Flows.copySnapshots {cls} (hl : ∀ g ∈ [Grp.pwr, .ledger], g ∈ l := by decide) : a.Flows l (c.copySnapshots cls) :=
  k.foldl fun _ _ h => h.copySnapshot hl

theorem Chip.Flows.wrapRecord {cls st cause} (hl : ∀ g ∈ [Grp.wrap, .ledger], g ∈ l := by decide) : a.Flows l (c.wrapRecord cls st cause) := by
  refine k.andThen hl ?_
  unfold Chip.wrapRecord
  exact (Chip.Flows.refl c).onWrap.writeRecord

theorem Chip.Flows.setBoot {r} (hl : ∀ g ∈ [Grp.ledger, .ring, .boot, .outs], g ∈ l := by decide) : a.Flows l (c.setBoot r) := by
  refine k.andThen hl ?_
  have h1 : c.Flows [.ledger, .ring, .boot, .outs] (c.onBoot fun b => { b with record := r }) := (Chip.Flows.refl c).onBoot
  unfold Chip.setBoot
  exact (Chip.Flows.refl c).ite ((h1.ite h1.pageNow).sendTwin.ite (h1.ite h1.pageNow))

end

theorem Chip.setBoot_record (c : Chip) (r : BootRec) : (c.setBoot r).boot.record = r := by
  let d := c.onBoot fun b => { b with record := r }
  have h1 : d.Flows [.ledger, .ring, .outs] d := .refl d
  unfold Chip.setBoot
  split
  · next h => exact h.symm
  · exact Chip.keepsBut.boot_field (h1.ite h1.pageNow |>.sendTwin |>.ite (h1.ite h1.pageNow)).keeps Boot.record

theorem Chip.wrapRecord_wrap (c : Chip) (cls : PageClass) (st cause : Nat) : (c.wrapRecord cls st cause).wrap = { c.wrap with resumed := false } := by
  let d := c.onWrap fun w => { w with resumed := false }
  unfold Chip.wrapRecord
  exact ((Chip.Flows.refl (l := [.ledger]) d).writeRecord).keeps.wrap_eq

/-! ### Step 5 -/

/-- What step 5 of a wrap can change. -/
abbrev persistGrps : List Grp := [.wrap, .hbm, .pwr, .cache, .integ, .heads, .ledger, .ring, .boot, .outs]

/-- The drain has ended: its time and the lines that are left are recorded. -/
def Chip.endDrain (c : Chip) : Chip :=
  let c := c.onWrap fun w => { w with drainedAt := c.clk.ticks, undrained := c.dirtyTotal / 64, short := decide (c.dirtyTotal / 64 ≠ 0) }
  (c.enterSelfRefresh.setWrap 3).snapshot 7

/-- The poison list, the snapshots and the record go to the ledger. -/
def Chip.writeWrap (c : Chip) (left : Nat) : Chip :=
  ((c.persistPoison .wrap).copySnapshots .wrap).wrapRecord .wrap (if left = 0 then 2 else 3) c.wrap.cause

theorem Chip.persistWrap_eq (c : Chip) : c.persistWrap =
    if c.endDrain.wrap.beforeService then c.endDrain
    else if c.dirtyTotal / 64 = 0 && [1, 8, 9].contains (c.endDrain.writeWrap (c.dirtyTotal / 64)).wrap.cause then
      (c.endDrain.writeWrap (c.dirtyTotal / 64)).setBoot { (c.endDrain.writeWrap (c.dirtyTotal / 64)).boot.record with unclean := false }
    else c.endDrain.writeWrap (c.dirtyTotal / 64) := rfl

/-- The wrap once its drain has ended. -/
def Chip.drained (c : Chip) : Wrap :=
  { c.wrap with drainedAt := c.clk.ticks, undrained := c.dirtyTotal / 64, short := decide (c.dirtyTotal / 64 ≠ 0), state := 3 }

theorem Chip.endDrain_ends (c : Chip) : c.endDrain.wrap = c.drained ∧ c.Flows persistGrps c.endDrain := by
  let d := c.onWrap fun w => { w with drainedAt := c.clk.ticks, undrained := c.dirtyTotal / 64, short := decide (c.dirtyTotal / 64 ≠ 0) }
  have hrest : d.Flows [.cache, .hbm] d.enterSelfRefresh := (Chip.Flows.refl d).enterSelfRefresh
  have hsnap : (d.enterSelfRefresh.setWrap 3).Flows [.pwr, .ring] ((d.enterSelfRefresh.setWrap 3).snapshot 7) := (Chip.Flows.refl _).snapshot
  constructor
  · calc c.endDrain.wrap = (d.enterSelfRefresh.setWrap 3).wrap := hsnap.keeps.wrap_eq
      _ = { d.enterSelfRefresh.wrap with state := 3 } := Chip.setWrap_wrap ..
      _ = c.drained := by rw [hrest.keeps.wrap_eq]; rfl
  · exact (((Chip.Flows.refl c).onWrap.enterSelfRefresh).setWrap).snapshot

theorem Chip.writeWrap_writes (c : Chip) (left : Nat) : (c.writeWrap left).wrap = { c.wrap with resumed := false } ∧ c.Flows persistGrps (c.writeWrap left) := by
  have h1 : c.Flows [.pwr, .integ, .ledger] ((c.persistPoison .wrap).copySnapshots .wrap) := (Chip.Flows.refl c).persistPoison.copySnapshots
  refine ⟨(Chip.wrapRecord_wrap ..).trans (by rw [h1.keeps.wrap_eq]), (h1.mono).wrapRecord⟩

/-- Step 5: the wrap is drained as recorded, and after a wrap of cause 1, 8 or 9 that left no line, UNCLEAN is cleared. -/
theorem Chip.persistWrap_persists (c : Chip) : (∃ r, c.persistWrap.wrap = { c.drained with resumed := r }) ∧ c.Flows persistGrps c.persistWrap ∧
    (c.dirtyTotal / 64 = 0 → c.wrap.beforeService = false → c.wrap.cause = 1 ∨ c.wrap.cause = 8 ∨ c.wrap.cause = 9 → c.persistWrap.boot.record.unclean = false) := by
  obtain ⟨hw, hf⟩ := c.endDrain_ends
  obtain ⟨hw2, hf2⟩ := c.endDrain.writeWrap_writes (c.dirtyTotal / 64)
  rw [hw] at hw2
  have hall := hf.trans hf2
  rw [Chip.persistWrap_eq, hw]
  split
  · next hb => exact ⟨⟨c.drained.resumed, hw⟩, hf, fun _ h => absurd hb (by rw [show c.drained.beforeService = false from h]; decide)⟩
  · rw [hw2]
    split
    · exact ⟨⟨false, (Chip.Flows.refl (l := [.ledger, .ring, .boot, .outs]) _).setBoot.keeps.wrap_eq.trans hw2⟩, hall.setBoot,
        fun _ _ _ => congrArg BootRec.unclean (Chip.setBoot_record ..)⟩
    · next hn =>
      refine ⟨⟨false, hw2⟩, hall, fun hd _ hc => absurd ?_ hn⟩
      have hc' : c.drained.cause = 1 ∨ c.drained.cause = 8 ∨ c.drained.cause = 9 := hc
      rcases hc' with h | h | h <;> simp [hd, h]

/-- What the settlement and the end of a drain say of the chip that they leave. -/
theorem Chip.ended_persists {was c : Chip} : (Chip.ended was c.persistWrap).wrap.state = 3 ∧ (Chip.ended was c.persistWrap).wrap.cause = c.wrap.cause ∧
    (Chip.ended was c.persistWrap).wrap.drainedAt = c.clk.ticks ∧ (Chip.ended was c.persistWrap).wrap.undrained = c.dirtyTotal / 64 ∧
    ((Chip.ended was c.persistWrap).wrap.short = true ↔ c.dirtyTotal / 64 ≠ 0) ∧ c.keepsBut persistGrps (Chip.ended was c.persistWrap) := by
  obtain ⟨⟨r, hw⟩, hf, -⟩ := c.persistWrap_persists
  simp only [Chip.ended_wrap, hw]
  exact ⟨rfl, rfl, rfl, rfl, decide_eq_true_iff, Chip.keepsBut_ended hf.keeps⟩

theorem wrapDrained_ends (s : State) : CompletesIf .wrapDrained s (s.chip.wrap.state = 2 ∧ s.chip.onlyFailedLeft = true) fun c =>
    c.wrap.state = 3 ∧ c.wrap.cause = s.chip.wrap.cause ∧
      c.wrap.drainedAt = s.chip.clk.ticks ∧ c.wrap.undrained = s.chip.dirtyTotal / 64 ∧ (c.wrap.short = true ↔ s.chip.dirtyTotal / 64 ≠ 0) ∧
      (s.chip.dirtyTotal / 64 = 0 → s.chip.wrap.beforeService = false → s.chip.wrap.cause = 1 ∨ s.chip.wrap.cause = 8 ∨ s.chip.wrap.cause = 9 → c.boot.record.unclean = false) ∧
      s.chip.keepsBut persistGrps c := by
  unfold CompletesIf
  split
  · next h =>
    obtain ⟨h1, h2, h3, h4, h5, h6⟩ := Chip.ended_persists (was := s.chip) (c := s.chip)
    refine .of_onChip (f := fun c => if c.wrap.state = 2 && c.onlyFailedLeft then c.persistWrap else c) rfl (if_pos (by simp [h])) ⟨h1, h2, h3, h4, h5, fun hd hb hc => ?_, h6⟩
    rw [(Chip.keepsBut_end s.chip _).boot_field fun b => b.record.unclean]
    exact s.chip.persistWrap_persists.2.2 hd hb hc
  · next h =>
    exact untouched_of (f := fun c => if c.wrap.state = 2 && c.onlyFailedLeft then c.persistWrap else c) rfl (if_neg (by simpa using h))

/-! ### The settlement -/

/-- Programs or merges that were issued are not done. -/
def Chip.unsettled (c : Chip) : Prop := c.cache.merges ≠ [] ∨ ∃ x ∈ c.med.ch.toList, x.busy ≠ []

/-- A member that is being retrained counts as missing; the dirty map is programmed first, where it is due; then the drain starts. -/
def Chip.startDrain (c : Chip) : Chip :=
  let c := ((List.range 36).filter (fun n => (c.chan n).retraining)).foldl (fun c n => c.memberMissing n) c
  if c.med.dirtyMap ≠ c.dirtySegs && !c.mapGroups.isEmpty then c.checkpoint else ((c.dropSched (List.range 16)).enterSelfRefresh).setWrap 2

theorem exec_wrapSettled (s : State) : exec .wrapSettled s = s.onChip fun c =>
    if c.wrap.state = 1 && decide (c.wrap.dirtyAt = 0) then c.persistWrap
    else if c.wrap.state != 1 || !c.cache.merges.isEmpty || c.med.ch.toList.any (fun x => !x.busy.isEmpty) then c else c.startDrain := rfl

section
variable {s : State}

theorem Chip.unsettled_iff (c : Chip) : c.unsettled ↔ (!c.cache.merges.isEmpty || c.med.ch.toList.any (fun x => !x.busy.isEmpty)) = true := by
  unfold Chip.unsettled
  simp only [Bool.or_eq_true, Bool.not_eq_true', List.any_eq_true, List.isEmpty_eq_false_iff]

theorem wrapSettled_waits (h : s.chip.wrap.state ≠ 1 ∨ (s.chip.wrap.dirtyAt ≠ 0 ∧ s.chip.unsettled)) : Completes .wrapSettled s s.chip.untouched := by
  have hclean : ¬ (s.chip.wrap.state = 1 && decide (s.chip.wrap.dirtyAt = 0)) = true := by
    rcases h with h | h <;> simp [h]
  refine untouched_of (exec_wrapSettled s) ((if_neg hclean).trans (if_pos ?_))
  rcases h with h | ⟨-, h⟩
  · simp [h]
  · rw [Chip.unsettled_iff] at h
    rw [Bool.or_assoc, h, Bool.or_true]

theorem wrapSettled_clean (h1 : s.chip.wrap.state = 1) (h0 : s.chip.wrap.dirtyAt = 0) : Completes .wrapSettled s fun c =>
    c.wrap.state = 3 ∧ c.wrap.drainedAt = s.chip.clk.ticks ∧ c.wrap.undrained = s.chip.dirtyTotal / 64 ∧ s.chip.keepsBut persistGrps c := by
  obtain ⟨hs, -, hd, hu, -, hk⟩ := Chip.ended_persists (was := s.chip) (c := s.chip)
  exact .of_onChip (exec_wrapSettled s) (if_pos (by simp [h1, h0])) ⟨hs, hd, hu, hk⟩

theorem wrapSettled_starts (h1 : s.chip.wrap.state = 1) (h0 : s.chip.wrap.dirtyAt ≠ 0) (hs : ¬ s.chip.unsettled) (hr : ∀ n < 36, (s.chip.chan n).retraining = false) :
    (s.chip.med.dirtyMap ≠ s.chip.dirtySegs ∧ s.chip.mapGroups ≠ [] → Completes .wrapSettled s fun c => s.chip.mapsDirty c ∧ s.chip.keepsBut [.cache] c) ∧
      (¬ (s.chip.med.dirtyMap ≠ s.chip.dirtySegs ∧ s.chip.mapGroups ≠ []) → Completes .wrapSettled s fun c =>
        c.wrap.state = 2 ∧ s.chip.keepsBut [.cache, .hbm, .wrap, .ring, .outs] c) := by
  have hclean : ¬ (s.chip.wrap.state = 1 && decide (s.chip.wrap.dirtyAt = 0)) = true := by simp [h0]
  have hwait : ¬ (s.chip.wrap.state != 1 || !s.chip.cache.merges.isEmpty || s.chip.med.ch.toList.any (fun x => !x.busy.isEmpty)) = true := by
    rw [Bool.or_assoc, Bool.or_eq_true, ← Chip.unsettled_iff]
    simp [h1, hs]
  have hnone : (List.range 36).filter (fun n => (s.chip.chan n).retraining) = [] := by
    rw [List.filter_eq_nil_iff]
    intro n hn
    rw [hr n (List.mem_range.1 hn)]
    decide
  have hstart : s.chip.startDrain = if s.chip.med.dirtyMap ≠ s.chip.dirtySegs && !s.chip.mapGroups.isEmpty then s.chip.checkpoint
      else ((s.chip.dropSched (List.range 16)).enterSelfRefresh).setWrap 2 := by
    unfold Chip.startDrain
    rw [hnone]
    rfl
  have hdue : (decide (s.chip.med.dirtyMap ≠ s.chip.dirtySegs) && !s.chip.mapGroups.isEmpty) = true ↔ s.chip.med.dirtyMap ≠ s.chip.dirtySegs ∧ s.chip.mapGroups ≠ [] := by
    simp
  refine ⟨fun h => ?_, fun h => ?_⟩
  · obtain ⟨hm, hk⟩ := s.chip.checkpoint_maps
    exact .of_onChip (exec_wrapSettled s) ((if_neg hclean).trans ((if_neg hwait).trans (hstart.trans (if_pos (hdue.2 h))))) ⟨Chip.ended_mapsDirty hm, Chip.keepsBut_ended hk⟩
  · refine .of_onChip (exec_wrapSettled s) ((if_neg hclean).trans ((if_neg hwait).trans (hstart.trans (if_neg fun hc => h (hdue.1 hc))))) ⟨?_, Chip.keepsBut_ended ?_⟩
    · rw [Chip.ended_wrap, Chip.setWrap_wrap]
    · exact (((Chip.Flows.refl s.chip).onCache.enterSelfRefresh).setWrap).keeps

end
end Sys2Proof.Machine
end

section
/-! The end of step 5 (10 R295 step 6, R298): the rails go down, or the main domain is held in reset. -/

namespace Sys2Proof.Machine

-- One theorem at a time: elaborated at once, their nested proofs wait for one another, a thread and its stack for each.
set_option Elab.async false

section
variable {l : List Grp} {a c : Chip} (k : a.Flows l c)
include k

theorem Chip.Flows.ledgerReset (hl : ∀ g ∈ [Grp.ledger, .ring], g ∈ l := by decide) : a.Flows l c.ledgerReset := by
  refine k.andThen hl ?_
  unfold Chip.ledgerReset
  split
  · exact (Chip.Flows.refl c).pageDone.onLedger
  · exact (Chip.Flows.refl c).onLedger

end

/-! ### The reset of the main domain -/

/-- The reset of the main domain leaves the gaffer's part, the reserve and the wrap, and holds the domain in reset. -/
theorem Chip.mainReset_resets (c : Chip) :
    c.mainReset.pwr = { c.pwr with bypHold := false } ∧ c.mainReset.wrap = c.wrap ∧ c.mainReset.boot.mainOut = false := by
  have h1 : c.Flows [.ledger, .ring, .outs] c.ledgerReset := (Chip.Flows.refl c).ledgerReset
  have h2 := (h1.foldl (xs := c.ledgerReset.presentHeads)
    (f := fun c h => if (c.head h).link = .up then c.emit (.headLink h false) else c) fun _ _ h => h.emit.ite h).keeps
  refine ⟨?_, h2.wrap_eq, rfl⟩
  rw [← h2.pwr_eq]
  rfl

/-! ### The rails go down -/

/-- Some RAIL channel has a down step, so there is a first one. -/
theorem Chip.nextDown_some (c : Chip) (h : ∃ n, (c.rail n).isRail = true ∧ (c.rail n).downStep < 16) : ∃ s, c.nextDown 0 = some s := by
  obtain ⟨n, hr, hs⟩ := h
  have hn : n ∈ c.railsThat fun r => decide (r.downStep = (c.rail n).downStep) := Chip.mem_railsThat.2 ⟨hr, decide_eq_true rfl⟩
  have hmem : (c.rail n).downStep ∈ (List.range 16).filter fun k => decide (0 < k + 1) && !(c.railsThat fun r => decide (r.downStep = k)).isEmpty :=
    List.mem_filter.2 ⟨List.mem_range.2 hs, by rw [List.isEmpty_eq_false_iff_exists_mem.2 ⟨n, hn⟩]; simp⟩
  obtain ⟨x, rest, he⟩ := List.exists_cons_of_ne_nil (List.ne_nil_of_mem hmem)
  exact ⟨x + 1, by unfold Chip.nextDown; rw [he]; rfl⟩

theorem Chip.lockout_after (c : Chip) : c.lockout.pwr.afterDown = 3 ∧ c.lockout.wrap = c.wrap ∧ c.lockout.boot = c.boot := ⟨rfl, rfl, rfl⟩

/-- Every EN is low, and SEQ_FAULT_N is released. -/
def Chip.dropRails (c : Chip) : Chip := c.allEnLow.onPwr fun p => { p with step := 0, seqFaultOut := false, stuck := !c.allOff }

theorem Chip.endDown_eq (c : Chip) : c.endDown =
    if c.pwr.afterDown = 1 then c.dropRails.onPwr fun p => { p with state := .retryWait }
    else if c.pwr.afterDown = 3 then c.dropRails.lockout else c.dropRails.onPwr fun p => { p with state := .off } := rfl

/-- What follows the power-down is as it was set. -/
theorem Chip.endDown_after (c : Chip) : c.endDown.pwr.afterDown = c.pwr.afterDown ∧ c.endDown.wrap = c.wrap ∧ c.endDown.boot = c.boot := by
  have hd : c.dropRails.pwr.afterDown = c.pwr.afterDown ∧ c.dropRails.wrap = c.wrap ∧ c.dropRails.boot = c.boot := ⟨rfl, rfl, rfl⟩
  rw [Chip.endDown_eq]
  split
  · exact hd
  · split
    · next h =>
      obtain ⟨ha, hw, hb⟩ := c.dropRails.lockout_after
      exact ⟨ha.trans h.symm, hw.trans hd.2.1, hb.trans hd.2.2⟩
    · exact hd

theorem Chip.powerDown_downs (c : Chip) (after : Nat) : (c.powerDown after).pwr.afterDown = after ∧ (c.powerDown after).wrap = c.wrap ∧
    (c.powerDown after).boot.mainOut = false ∧ ((∃ n, (c.rail n).isRail = true ∧ (c.rail n).downStep < 16) → (c.powerDown after).pwr.state = .down) := by
  obtain ⟨hp, hw, hm⟩ := c.mainReset_resets
  let d := c.mainReset.onPwr fun p => { p with state := .down, afterDown := after, snaps := [], bypHold := false }
  have hrail (n : RailNo) : d.rail n = c.rail n := by
    show c.mainReset.pwr.rails.get n = _
    rw [hp]
    rfl
  have hdown : c.powerDown after = match d.nextDown 0 with
    | some s => d.runDown s
    | none => d.endDown := rfl
  rw [hdown]
  split
  · next s _ =>
    obtain ⟨v, hv⟩ := Chip.onRails_pwr ((d.onPwr fun p => { p with step := s }).railsThat fun r => decide (r.downStep + 1 = s))
      (fun r => { r with en := false, done := false, state := if r.state = .fault ∨ r.state = .chatter then r.state else .off }) (d.onPwr fun p => { p with step := s })
    have hrun : d.runDown s = (d.onPwr fun p => { p with step := s }).onPwr fun p => { p with rails := v } := hv
    rw [hrun]
    exact ⟨rfl, hw, hm, fun _ => rfl⟩
  · next hn =>
    obtain ⟨ha, he, hb⟩ := d.endDown_after
    refine ⟨ha, he.trans hw, (congrArg Boot.mainOut hb).trans hm, fun ⟨n, hr, hs⟩ => ?_⟩
    obtain ⟨s, hs⟩ := d.nextDown_some ⟨n, by rw [hrail]; exact hr, by rw [hrail]; exact hs⟩
    rw [hn] at hs
    exact absurd hs (by simp)

/-! ### The end of a wrap -/

/-- The last channels rest, and a completed wrap is counted. -/
def Chip.countWrap (c : Chip) : Chip :=
  let c := (c.restChannels (List.range 8)).setWrap 4
  if c.wrap.short then c else c.countNow 4

/-- The main domain is held in reset, with the rails on. -/
def Chip.holdReset (c : Chip) : Chip := (c.mainReset.onWrap fun w => { w with state := 0 }).onPwr fun p => { p with state := .on, step := 0 }

/-- Step 5 has not ended. -/
def Chip.persisting (c : Chip) : Bool := !c.ledger.failed && (c.ledger.current.isSome || c.ledger.queue.any (fun p => decide (p.cls.rank ≤ 3)))

theorem exec_wrapPersisted (s : State) : exec .wrapPersisted s = s.onChip fun c =>
    if c.wrap.state != 3 || c.persisting then c
    else if c.countWrap.wrap.cause = 9 then c.countWrap.holdReset else c.countWrap.powerDown (afterCause c.countWrap.wrap.cause c.countWrap.wrap.stay) := rfl

theorem Chip.persisting_eq_false (c : Chip) :
    c.persisting = false ↔ c.ledger.failed = true ∨ (c.ledger.current = none ∧ ∀ q ∈ c.ledger.queue, 3 < q.cls.rank) := by
  unfold Chip.persisting
  cases c.ledger.failed <;> simp

theorem Chip.countWrap_counts (c : Chip) : c.countWrap.wrap = { c.wrap with state := 4 } ∧ c.countWrap.pwr = c.pwr := by
  have h1 : c.Flows [.cache, .hbm] (c.restChannels (List.range 8)) := (Chip.Flows.refl c).restChannels
  have h2 : c.Flows [.cache, .hbm, .wrap, .ring, .outs] ((c.restChannels (List.range 8)).setWrap 4) := h1.mono.setWrap
  have h3 : ((c.restChannels (List.range 8)).setWrap 4).Flows [.ledger, .ring] c.countWrap := (Chip.Flows.refl _).ite (Chip.Flows.refl _).countNow
  refine ⟨h3.keeps.wrap_eq.trans ((Chip.setWrap_wrap ..).trans (by rw [h1.keeps.wrap_eq])), h3.keeps.pwr_eq.trans h2.keeps.pwr_eq⟩

theorem afterCause_eq (cause stay : Nat) : afterCause cause stay =
    if cause = 3 then 1 else if cause = 5 ∨ cause = 6 then 3 else if cause = 8 ∧ stay = 1 then 4 else 2 := by
  unfold afterCause
  split <;> simp_all

theorem wrapPersisted_ends (s : State) : CompletesIf .wrapPersisted s
    (s.chip.wrap.state = 3 ∧ (s.chip.ledger.failed = true ∨ (s.chip.ledger.current = none ∧ ∀ q ∈ s.chip.ledger.queue, 3 < q.cls.rank))) fun c =>
      c.boot.mainOut = false ∧
      (s.chip.wrap.cause = 9 → c.pwr.state = .on ∧ c.wrap.state = 0 ∧ c.pwr.rails = s.chip.pwr.rails) ∧
      (s.chip.wrap.cause ≠ 9 → c.wrap.state = 4 ∧
        c.pwr.afterDown = (if s.chip.wrap.cause = 3 then 1 else if s.chip.wrap.cause = 5 ∨ s.chip.wrap.cause = 6 then 3 else if s.chip.wrap.cause = 8 ∧ s.chip.wrap.stay = 1 then 4 else 2) ∧
        ((∃ n, (s.chip.rail n).isRail = true ∧ (s.chip.rail n).downStep < 16) → c.pwr.state = .down)) := by
  obtain ⟨hw, hp⟩ := s.chip.countWrap_counts
  have hcause : s.chip.countWrap.wrap.cause = s.chip.wrap.cause := by rw [hw]
  have hstay : s.chip.countWrap.wrap.stay = s.chip.wrap.stay := by rw [hw]
  unfold CompletesIf
  split
  · next h =>
    obtain ⟨h3, hl⟩ := h
    have hrun : ¬ (s.chip.wrap.state != 3 || s.chip.persisting) = true := by
      rw [(Chip.persisting_eq_false s.chip).2 hl]
      simp [h3]
    by_cases h9 : s.chip.wrap.cause = 9
    · obtain ⟨hrp, -, hrm⟩ := s.chip.countWrap.mainReset_resets
      refine .of_onChip (exec_wrapPersisted s) ((if_neg hrun).trans (if_pos (hcause.trans h9)))
        ⟨?_, fun _ => ⟨?_, ?_, ?_⟩, fun h => absurd h9 h⟩
      · exact ((Chip.keepsBut_end s.chip _).boot_field Boot.mainOut).trans hrm
      · rw [Chip.ended_pwr]; rfl
      · rw [Chip.ended_wrap]; rfl
      · rw [Chip.ended_pwr]
        show s.chip.countWrap.mainReset.pwr.rails = _
        rw [hrp, hp]
    · obtain ⟨hda, hdw, hdm, hds⟩ := s.chip.countWrap.powerDown_downs (afterCause s.chip.countWrap.wrap.cause s.chip.countWrap.wrap.stay)
      refine .of_onChip (exec_wrapPersisted s) ((if_neg hrun).trans (if_neg (by rw [hcause]; exact h9)))
        ⟨?_, fun h => absurd h h9, fun _ => ⟨?_, ?_, fun hn => ?_⟩⟩
      · exact ((Chip.keepsBut_end s.chip _).boot_field Boot.mainOut).trans hdm
      · rw [Chip.ended_wrap, hdw, hw]
      · rw [Chip.ended_pwr, hda, hcause, hstay, afterCause_eq]
      · rw [Chip.ended_pwr]
        refine hds ?_
        unfold Chip.rail at hn ⊢
        rw [hp]
        exact hn
  · next h =>
    refine untouched_of (exec_wrapPersisted s) (if_pos ?_)
    by_contra hn
    rw [Bool.or_eq_true, not_or] at hn
    exact h ⟨by simpa using hn.1, (Chip.persisting_eq_false _).1 (by simpa using hn.2)⟩

end Sys2Proof.Machine
end

section
/-! A wrap that resumes (10 R298). -/

namespace Sys2Proof.Machine

-- One theorem at a time: elaborated at once, their nested proofs wait for one another, a thread and its stack for each.
set_option Elab.async false

section
variable {l : List Grp} {a c : Chip} (k : a.Flows l c)
include k

theorem Chip.Flows.setPairFenced (hl : ∀ g ∈ [Grp.twin, .ring, .outs], g ∈ l := by decide) : a.Flows l (c.setPair .fenced) := by
  refine k.andThen hl ?_
  unfold Chip.setPair
  exact (Chip.Flows.refl c).ite ((Chip.Flows.refl c).onTwin.notify)

end

theorem Chip.setPair_state (c : Chip) (p : PairState) : (c.setPair p).twin.state = p := by
  unfold Chip.setPair
  split
  · next h => exact h
  · exact congrArg Twin.state ((Chip.Flows.refl (l := [.ring, .outs]) _).notify).keeps.twin_eq

/-! ### The heads train again -/

/-- A head that was held down trains again, unless it is isolated or in reset. -/
def Chip.raiseHead (c : Chip) (h : HeadNo) : Chip :=
  if (c.head h).link = .disabled && !c.isolated h && !(c.head h).perst then c.onHead h fun d => { d with link := .training } else c

theorem Chip.keepsBut_raiseHead (c : Chip) (h : HeadNo) : c.keepsBut [.heads] (c.raiseHead h) := by
  unfold Chip.raiseHead
  split
  · exact (Chip.keepsBut_refl c _).onHead _ _ (by decide)
  · exact Chip.keepsBut_refl _ _

theorem Chip.raiseHead_link (c : Chip) (h k : HeadNo) (hk : (c.head k).link = .training) : ((c.raiseHead h).head k).link = .training := by
  unfold Chip.raiseHead
  split
  · rw [Chip.head_onHead]
    split
    · rfl
    · exact hk
  · exact hk

theorem Chip.raiseHead_same (c : Chip) (h : HeadNo) (hl : (c.head h).link = .disabled) (hi : c.isolated h = false) (hp : (c.head h).perst = false) :
    ((c.raiseHead h).head h).link = .training := by
  unfold Chip.raiseHead
  rw [if_pos (by simp [hl, hi, hp]), Chip.head_onHead_same]

theorem Chip.raiseHead_ne (c : Chip) {h k : HeadNo} (hk : k ≠ h) : (c.raiseHead h).head k = c.head k := by
  unfold Chip.raiseHead
  split
  · exact Chip.head_onHead_ne _ _ _ hk
  · rfl

theorem Chip.raiseHead_isolated (c : Chip) (h k : HeadNo) : (c.raiseHead h).isolated k = c.isolated k := by
  unfold Chip.raiseHead
  split <;> rfl

theorem Chip.raiseHeads_keeps (c : Chip) : c.keepsBut [.heads] c.raiseHeads :=
  Chip.keepsBut.foldl _ _ (Chip.keepsBut_refl _ _) fun d h kd => Chip.keepsBut_trans kd (d.keepsBut_raiseHead h)

/-- Every head that was held down trains, but for those isolated or in reset. -/
theorem Chip.raiseHeads_trains (hs : List HeadNo) (c : Chip) {h : HeadNo} (hh : h ∈ hs) (hl : (c.head h).link = .disabled) (hi : c.isolated h = false)
    (hp : (c.head h).perst = false) : ((hs.foldl Chip.raiseHead c).head h).link = .training := by
  have hstay (ks : List HeadNo) (d : Chip) (hd : (d.head h).link = .training) : ((ks.foldl Chip.raiseHead d).head h).link = .training := by
    induction ks generalizing d with
    | nil => exact hd
    | cons k rest ih => exact ih _ (d.raiseHead_link k h hd)
  induction hs generalizing c with
  | nil => exact absurd hh List.not_mem_nil
  | cons k rest ih =>
    by_cases hk : h = k
    · subst hk
      exact hstay rest _ (c.raiseHead_same h hl hi hp)
    · have hsame := c.raiseHead_ne hk
      exact ih (c.raiseHead k) ((List.mem_cons.1 hh).resolve_left hk) (by rw [hsame, hl]) (by rw [Chip.raiseHead_isolated, hi]) (by rw [hsame, hp])

/-! ### The resume -/

/-- The drain is undone: the gaffer is ON, the channels are active, the budget is free, scratch is empty and the dolly runs. -/
def Chip.undrain (c : Chip) : Chip :=
  let c := (c.onPwr fun p => { p with state := .on, pwrLoss := false }).setWrap 5
  let c := (c.restChannels []).onRes fun r => { r with frozen := false }
  let c := (c.onWrap fun w => { w with resumed := true }).emptyScratch
  c.onDolly fun d => { d with paused := false }

/-- What follows by the pair state. -/
def Chip.rejoinPair (c : Chip) : Chip :=
  match c.twin.state with
  | .paired | .split | .fenced | .rejoining => (c.setPair .fenced).sendWitness 1
  | .alone => (c.raiseHeads.setWrap 0).sendWitness 1
  | .unpaired | .refused => c.raiseHeads.setWrap 0

theorem exec_wrapResume (s : State) : exec .wrapResume s = s.onChip fun c =>
    if c.wrap.state != 2 || (c.wrap.cause != 1 && c.wrap.cause != 2) || c.dirtyTotal != 0 then c else c.undrain.rejoinPair := rfl

/-- The drain undone up to the notification of the wrap's state. -/
def Chip.unwrap (c : Chip) : Chip := (c.onPwr fun p => { p with state := .on, pwrLoss := false }).setWrap 5

/-- The drain undone after it: the channels are active, the budget is free, scratch is empty and the dolly runs. -/
def Chip.freeChip (c : Chip) : Chip :=
  ((((c.restChannels []).onRes fun r => { r with frozen := false }).onWrap fun w => { w with resumed := true }).emptyScratch).onDolly
    fun d => { d with paused := false }

theorem Chip.undrain_eq (c : Chip) : c.undrain = c.unwrap.freeChip := rfl

theorem Chip.emptyScratch_frames (c : Chip) : ∀ x ∈ c.emptyScratch.cache.frames, c.lockedScratch (frameWay x.1) = false := by
  intro x hx
  have h := (List.mem_filter.1 hx).2
  simpa using h

theorem Chip.freeChip_frees (c : Chip) : c.freeChip.hbm.selfRefresh = 0 ∧ c.freeChip.res.frozen = false ∧ c.freeChip.dolly.paused = false ∧
    c.freeChip.wrap = { c.wrap with resumed := true } ∧ c.freeChip.ring = c.ring ∧ ∀ x ∈ c.freeChip.cache.frames, c.lockedScratch (frameWay x.1) = false :=
  ⟨rfl, rfl, rfl, rfl, by simp only [Chip.freeChip, Chip.onDolly, Chip.emptyScratch, Chip.onCache, Chip.onWrap, Chip.onRes, Chip.restChannels, Chip.dropSched, Chip.allBankRefresh, Chip.onHbm],
    Chip.emptyScratch_frames (((c.restChannels []).onRes fun r => { r with frozen := false }).onWrap fun w => { w with resumed := true })⟩

theorem Chip.freeChip_keeps (c : Chip) : c.Flows [.wrap, .hbm, .res, .cache, .dolly] c.freeChip := by
  unfold Chip.freeChip Chip.emptyScratch
  exact (((Chip.Flows.refl c).restChannels.onRes).onWrap).onCache.onDolly

theorem Chip.unwrap_keeps (c : Chip) : (c.onPwr fun p => { p with state := .on, pwrLoss := false }).Flows [.wrap, .ring, .outs] c.unwrap := (Chip.Flows.refl _).setWrap

theorem Chip.undrain_undoes (c : Chip) :
    let d := c.undrain
    d.pwr.state = .on ∧ d.pwr.pwrLoss = false ∧ d.hbm.selfRefresh = 0 ∧ d.res.frozen = false ∧ d.dolly.paused = false ∧ d.wrap.resumed = true ∧
      (∀ x ∈ d.cache.frames, c.lockedScratch (frameWay x.1) = false) ∧ c.Flows [.pwr, .wrap, .hbm, .res, .cache, .dolly, .ring, .outs] d := by
  rw [Chip.undrain_eq]
  obtain ⟨hself, hfrozen, hpaused, hwrap, -, hframes⟩ := c.unwrap.freeChip_frees
  have hpwr : c.unwrap.freeChip.pwr = { c.pwr with state := .on, pwrLoss := false } := c.unwrap.freeChip_keeps.keeps.pwr_eq.trans c.unwrap_keeps.keeps.pwr_eq
  have hways : c.unwrap.cache.waysScratch = c.cache.waysScratch := congrArg Cache.waysScratch c.unwrap_keeps.keeps.cache_eq
  refine ⟨by rw [hpwr], by rw [hpwr], hself, hfrozen, hpaused, by rw [hwrap], fun x hx => ?_, ?_⟩
  · have h := hframes x hx
    unfold Chip.lockedScratch at h ⊢
    rw [← hways]
    exact h
  · exact ((Chip.Flows.refl c).onPwr.setWrap).andThen (by decide) c.unwrap.freeChip_keeps

theorem Chip.undrain_wrap (c : Chip) : c.undrain.wrap.state = 5 := by
  obtain ⟨-, -, -, hwrap, -⟩ := c.unwrap.freeChip_frees
  rw [Chip.undrain_eq, hwrap]
  exact congrArg Wrap.state (Chip.setWrap_wrap ..)

/-- The notification of the wrap's state does not touch the isolation of a head. -/
theorem Chip.undrain_isolated (c : Chip) (h : HeadNo) : c.undrain.isolated h = c.isolated h := by
  have hkey (j : Nat) (hj : j < 256) : dictKey 0xA120 (h.val + 1) ≠ dictKey 0x1120 j := by
    unfold dictKey
    omega
  have hsame : Chip.SameVol (dictKey 0xA120 (h.val + 1)) c c.unwrap :=
    Chip.SameVol.notify (c := (c.onPwr fun p => { p with state := .on, pwrLoss := false }).onWrap fun w => { w with state := 5 })
      (Chip.SameVol.refl _ c) (hkey 2 (by decide)) (hkey 3 (by decide))
  obtain ⟨-, -, -, -, hring, -⟩ := c.unwrap.freeChip_frees
  have hend : Chip.SameVol (dictKey 0xA120 (h.val + 1)) c c.undrain := hsame.of_ring hring
  unfold Chip.isolated
  rw [hend.vol]

/-- What follows by the pair state can change. -/
abbrev rejoinGrps : List Grp := [.wrap, .twin, .wit, .heads, .ledger, .ring, .outs]

section
variable (c : Chip)

/-- With a recorded pair the chip is FENCED and registers; its heads stay down. -/
theorem Chip.rejoinPair_pair (h : c.twin.state = .paired ∨ c.twin.state = .split ∨ c.twin.state = .fenced ∨ c.twin.state = .rejoining) :
    c.rejoinPair.wrap = c.wrap ∧ c.rejoinPair.twin.state = .fenced ∧ c.rejoinPair.heads = c.heads ∧ c.keepsBut rejoinGrps c.rejoinPair := by
  have hd : c.rejoinPair = (c.setPair .fenced).sendWitness 1 := by
    unfold Chip.rejoinPair
    rcases h with h | h | h | h <;> rw [h]
  have h1 : c.Flows [.twin, .wit, .ledger, .ring, .outs] ((c.setPair .fenced).sendWitness 1) := (Chip.Flows.refl c).setPairFenced.sendWitness
  have h2 : (c.setPair .fenced).Flows [.wit, .ledger, .ring, .outs] ((c.setPair .fenced).sendWitness 1) := (Chip.Flows.refl _).sendWitness
  rw [hd]
  exact ⟨h1.keeps.wrap_eq, (congrArg Twin.state h2.keeps.twin_eq).trans (Chip.setPair_state ..), h1.keeps.heads_eq, Chip.keepsBut_mono h1.keeps (by decide)⟩

/-- Without one its heads train again, and the wrap is over. -/
theorem Chip.rejoinPair_single (h : c.twin.state = .unpaired ∨ c.twin.state = .refused ∨ c.twin.state = .alone) :
    c.rejoinPair.wrap = { c.wrap with state := 0 } ∧ c.rejoinPair.twin = c.twin ∧ (∀ k, (c.rejoinPair.head k).link = (c.raiseHeads.head k).link) ∧
      c.keepsBut rejoinGrps c.rejoinPair := by
  let r := c.raiseHeads.setWrap 0
  have hr : c.raiseHeads.Flows [.wrap, .ring, .outs] r := (Chip.Flows.refl _).setWrap
  have hd : r.Flows [.wit, .ledger, .ring, .outs] c.rejoinPair := by
    unfold Chip.rejoinPair
    rcases h with h | h | h <;> rw [h]
    · exact .refl r
    · exact .refl r
    · exact (Chip.Flows.refl r).sendWitness
  have hall : c.raiseHeads.Flows [.wrap, .wit, .ledger, .ring, .outs] c.rejoinPair := hr.mono.andThen (by decide) hd
  have hraise := c.raiseHeads_keeps
  refine ⟨?_, hall.keeps.twin_eq.trans hraise.twin_eq, hall.links,
    Chip.keepsBut_trans (Chip.keepsBut_mono hraise (by decide)) (Chip.keepsBut_mono hall.keeps (by decide))⟩
  rw [hd.keeps.wrap_eq, show r.wrap = _ from Chip.setWrap_wrap .., hraise.wrap_eq]

end

/-- The pair states are those with a recorded pair and those without. -/
theorem PairState.pair_or_single (p : PairState) :
    (p = .paired ∨ p = .split ∨ p = .fenced ∨ p = .rejoining) ∨ (p = .unpaired ∨ p = .refused ∨ p = .alone) := by
  cases p <;> decide

theorem wrapResume_resumes (s : State) :
    CompletesIf .wrapResume s (s.chip.wrap.state = 2 ∧ (s.chip.wrap.cause = 1 ∨ s.chip.wrap.cause = 2) ∧ s.chip.dirtyTotal = 0) fun c =>
      c.pwr.state = .on ∧ c.pwr.pwrLoss = false ∧ c.hbm.selfRefresh = 0 ∧ c.res.frozen = false ∧ c.dolly.paused = false ∧ c.wrap.resumed = true ∧
      (∀ x ∈ c.cache.frames, s.chip.lockedScratch (frameWay x.1) = false) ∧
      (s.chip.twin.state = .unpaired ∨ s.chip.twin.state = .refused ∨ s.chip.twin.state = .alone → c.wrap.state = 0 ∧ c.twin = s.chip.twin ∧
        ∀ h ∈ s.chip.presentHeads, (s.chip.head h).link = .disabled → s.chip.isolated h = false → (s.chip.head h).perst = false → (c.head h).link = .training) ∧
      (s.chip.twin.state = .paired ∨ s.chip.twin.state = .split ∨ s.chip.twin.state = .fenced ∨ s.chip.twin.state = .rejoining →
        c.wrap.state = 5 ∧ c.twin.state = .fenced ∧ c.heads = s.chip.heads) ∧
      s.chip.keepsBut [.pwr, .wrap, .hbm, .res, .cache, .dolly, .twin, .wit, .heads, .ledger, .ring, .outs] c := by
  let u := s.chip.undrain
  obtain ⟨hon, hloss, hself, hfrozen, hpaused, hresumed, hframes, hu⟩ := s.chip.undrain_undoes
  have htwin : u.twin = s.chip.twin := hu.keeps.twin_eq
  have hjoin : u.keepsBut rejoinGrps u.rejoinPair ∧ u.rejoinPair.wrap.resumed = u.wrap.resumed := by
    rcases u.twin.state.pair_or_single with h | h
    · obtain ⟨hw, -, -, hk⟩ := u.rejoinPair_pair h
      exact ⟨hk, by rw [hw]⟩
    · obtain ⟨hw, -, -, hk⟩ := u.rejoinPair_single h
      exact ⟨hk, by rw [hw]⟩
  obtain ⟨hk, hres⟩ := hjoin
  unfold CompletesIf
  split
  · next h =>
    obtain ⟨h2, hc, hd⟩ := h
    have hrun : ¬ (s.chip.wrap.state != 2 || (s.chip.wrap.cause != 1 && s.chip.wrap.cause != 2) || s.chip.dirtyTotal != 0) = true := by
      rcases hc with hc | hc <;> simp [h2, hc, hd]
    refine .of_onChip (exec_wrapResume s) (d := u.rejoinPair) (if_neg hrun) ?_
    simp only [Chip.ended_pwr, Chip.ended_hbm, Chip.ended_res, Chip.ended_dolly, Chip.ended_wrap, Chip.ended_cache, Chip.ended_twin, Chip.ended_heads, Chip.ended_head]
    rw [hk.pwr_eq, hk.hbm_eq, hk.res_eq, hk.dolly_eq, hk.cache_eq]
    refine ⟨hon, hloss, hself, hfrozen, hpaused, hres.trans hresumed, hframes, fun h => ?_, fun h => ?_,
      Chip.keepsBut_ended (Chip.keepsBut_trans (Chip.keepsBut_mono hu.keeps (by decide)) (Chip.keepsBut_mono hk (by decide)))⟩
    · obtain ⟨hw, ht, hl, -⟩ := u.rejoinPair_single (htwin ▸ h)
      refine ⟨by rw [hw], ht.trans htwin, fun k hm hdis hiso hper => (hl k).trans ?_⟩
      have hhead : u.head k = s.chip.head k := hu.keeps.head_eq k
      exact u.raiseHeads_trains u.presentHeads (hu.keeps.presentHeads_eq ▸ hm) (by rw [hhead, hdis])
        ((s.chip.undrain_isolated k).trans hiso) (by rw [hhead, hper])
    · obtain ⟨hw, ht, hh, -⟩ := u.rejoinPair_pair (htwin ▸ h)
      exact ⟨by rw [hw]; exact s.chip.undrain_wrap, ht, hh.trans hu.keeps.heads_eq⟩
  · next h =>
    refine untouched_of (exec_wrapResume s) (if_pos ?_)
    by_contra hn
    have hn' : s.chip.wrap.state = 2 ∧ (s.chip.wrap.cause = 1 ∨ s.chip.wrap.cause = 2) ∧ s.chip.dirtyTotal = 0 := by
      simp only [Bool.or_eq_true, Bool.and_eq_true, bne_iff_ne, not_or, not_and_or, not_not] at hn
      exact ⟨hn.1.1, hn.1.2, hn.2⟩
    exact h hn'

end Sys2Proof.Machine

open Sys2Proof Sys2Proof.Machine

/-- Settles O54. Each row by its rule: the triggers from what a wrap records and stops, the drain and step 5 from what they write, the rows
that go on or start again from what follows the rails going down. -/
theorem wrapAndClocks : Obligations.WrapAndClocks := by
  refine fun s => ⟨fun h => ⟨powerLoss_wraps h, gafferWatchdog_wraps h, refclkLost_wraps h⟩,
    fun h => ⟨powerLoss_off h, gafferWatchdog_off h, refclkLost_off h⟩, refclkRestored_starts, refclkRestored_stays,
    ⟨wrapSettled_waits, wrapSettled_clean, wrapSettled_starts⟩, wrapDrained_ends s, wrapPersisted_ends s, wrapResume_resumes s, wrapRestart_restarts s,
    dirtyMapCheckpoint_maps s, wrapRecordHourly_records s, snapshotCopy_none, snapshotCopy_copies⟩
end

section
/-! What the operations of the object commands change: entries of the object table, slots, keys, the release of a range, moves, reels
and frames brought in. -/

namespace Sys2Proof.Machine

-- One theorem at a time: elaborated at once, their nested proofs wait for one another, a thread and its stack for each.
set_option Elab.async false

section
variable {l : List Grp} {a c : Chip} (k : a.Flows l c)
include k

/-! ### Commands and entries of the table -/

theorem Chip.Flows.cmdSpan {id first count} (hl : Grp.obj ∈ l := by decide) : a.Flows l (c.cmdSpan id first count) := k.onCmd (hl := hl)
theorem Chip.Flows.cancelCmds {obj but first count} (hl : Grp.obj ∈ l := by decide) : a.Flows l (c.cancelCmds obj but first count) :=
  k.foldl fun _ _ h => h.finish hl

theorem Chip.Flows.descInval {obj} (hl : ∀ g ∈ [Grp.cache, .outs], g ∈ l := by decide) : a.Flows l (c.descInval obj) :=
  k.andThen hl (Chip.Flows.refl c).onCache.sendTwin

/-- What a change of the object table changes. -/
abbrev tableGrps : List Grp := [.obj, .cache, .med, .outs]

theorem Chip.Flows.putObj {obj o} (hl : ∀ g ∈ tableGrps, g ∈ l := by decide) : a.Flows l (c.putObj obj o) :=
  k.andThen hl (Chip.Flows.refl c).onObj.tableChanged.sendTwin.descInval
theorem Chip.Flows.delObj {obj} (hl : ∀ g ∈ tableGrps, g ∈ l := by decide) : a.Flows l (c.delObj obj) :=
  k.andThen hl (Chip.Flows.refl c).onObj.tableChanged.sendTwin.descInval

/-! ### Slots -/

theorem Chip.Flows.endMaterialise {p} (hl : Grp.cache ∈ l := by decide) : a.Flows l (c.endMaterialise p) := by
  unfold Chip.endMaterialise
  exact k.onCache hl

theorem Chip.Flows.zeroSlot {p} (hl : ∀ g ∈ [Grp.cache, .med], g ∈ l := by decide) : a.Flows l (c.zeroSlot p) := by
  refine k.andThen hl ?_
  unfold Chip.zeroSlot
  extract_lets n next c1 c2
  have h1 : c.Flows [.cache, .med] c1 := (Chip.Flows.refl c).endMaterialise.onMed
  have h2 : c.Flows [.cache, .med] c2 := h1.ite h1.addOp
  exact h2.mapWrite.ite h2

theorem Chip.Flows.cleanSlot {p} (hl : ∀ g ∈ [Grp.cache, .med], g ∈ l := by decide) : a.Flows l (c.cleanSlot p) := by
  unfold Chip.cleanSlot
  exact (k.zeroSlot hl).ite k

/-- What a slot taken or given back changes. -/
abbrev slotGrps : List Grp := [.cache, .med, .outs]

theorem Chip.Flows.takeSlot {gran sgroup} (hl : ∀ g ∈ slotGrps, g ∈ l := by decide) : a.Flows l (c.takeSlot gran sgroup) := by
  refine k.andThen hl ?_
  unfold Chip.takeSlot
  split
  · exact .refl c
  · split
    · exact .refl c
    · split
      · exact .refl c
      · exact (Chip.Flows.refl c).onMed.zeroSlot.tableChanged.sendTwin

theorem Chip.Flows.takeSlots {first sgroup n} (hl : ∀ g ∈ slotGrps, g ∈ l := by decide) : a.Flows l (c.takeSlots first sgroup n) := by
  induction n generalizing c first with
  | zero => exact k
  | succ n ih => exact ih (k.takeSlot hl)

theorem Chip.Flows.freeSlotOf {gran} (hl : ∀ g ∈ slotGrps, g ∈ l := by decide) : a.Flows l (c.freeSlotOf gran) := by
  refine k.andThen hl ?_
  unfold Chip.freeSlotOf
  split
  · exact .refl c
  · exact (Chip.Flows.refl c).cleanSlot.onMed.tableChanged.sendTwin

theorem Chip.Flows.freeSlots {first n} (hl : ∀ g ∈ slotGrps, g ∈ l := by decide) : a.Flows l (c.freeSlots first n) := by
  induction n generalizing c first with
  | zero => exact k
  | succ n ih => exact ih (k.freeSlotOf hl)

/-! ### The release of a range -/

omit k in
theorem Chip.CacheOnly.clearFrame {a c : Chip} (h : a.CacheOnly c) {f} : a.CacheOnly ((c.onFrame f fun x => { x with valid := 0, dirty := 0, wb := 0, pending := 0, peer := none }).onCache fun k =>
    { k with lines := k.lines.filter (fun q => q.1 / 64 != f) }) := h.onFrame.onCache

theorem Chip.Flows.discardSegs {first count release} (hl : ∀ g ∈ [Grp.cache, .integ], g ∈ l := by decide) :
    a.Flows l (c.discardSegs first count release) := by
  refine k.andThen hl ?_
  unfold Chip.discardSegs
  extract_lets inR fs c1 c2
  have h1 : c.CacheOnly c1 := (Chip.CacheOnly.refl c).foldl fun _ _ h => h.clearFrame.ite h.freeFrame
  exact ((Chip.Flows.refl c).cacheOnly h1).onCache.onInteg

theorem Chip.Flows.clearWritten {first count} (hl : ∀ g ∈ [Grp.cache, .med], g ∈ l := by decide) : a.Flows l (c.clearWritten first count) := by
  refine k.andThen hl ((Chip.Flows.refl c).foldl fun _ _ h => h.zeroSlot.ite (h.ite ?_))
  exact (h.foldl fun _ _ h => h.setMap).mapWrite

theorem Chip.Flows.clearPoisonRange {first count} (hl : ∀ g ∈ poisonGrps, g ∈ l := by decide) : a.Flows l (c.clearPoisonRange first count) := by
  refine k.andThen hl ?_
  have h0 : c.Flows poisonGrps c := .refl c
  unfold Chip.clearPoisonRange
  exact ((h0.foldl fun _ _ h => h.shadowNote).poisonOverflow.ite (h0.foldl fun _ _ h => h.shadowNote)).onInteg

/-- What a range that is zeroed changes, the requests it settles apart. -/
abbrev zeroGrps : List Grp := [.cache, .med, .integ, .outs]

theorem Chip.Flows.zeroSegs {first count release} (hl : ∀ g ∈ zeroGrps, g ∈ l := by decide) : a.Flows l (c.zeroSegs first count release) :=
  k.andThen hl (Chip.Flows.refl c).discardSegs.clearWritten.clearPoisonRange

theorem Chip.Flows.scrubBacklog {tag scrub first count} (hl : Grp.med ∈ l := by decide) : a.Flows l (c.scrubBacklog tag scrub first count) := by
  unfold Chip.scrubBacklog
  exact (k.onMed hl).ite k

theorem Chip.Flows.lateRequest {r} (hl : ∀ g ∈ servedGrps, g ∈ l := by decide) : a.Flows l (c.lateRequest r) := by
  refine k.andThen hl ?_
  unfold Chip.lateRequest
  exact (Chip.Flows.refl c).lateWrite.ite ((Chip.Flows.refl c).denyRequest.ite (Chip.Flows.refl c).homeRead)

theorem Chip.Flows.dropMoves {first n} (hl : ∀ g ∈ servedGrps, g ∈ l := by decide) : a.Flows l (c.dropMoves first n) :=
  k.andThen hl ((Chip.Flows.refl c).onDolly.foldl fun _ _ h => h.lateRequest)

theorem Chip.Flows.staleRange {first count} (hl : Grp.med ∈ l := by decide) : a.Flows l (c.staleRange first count) :=
  k.foldl fun _ _ h => h.markStale hl

theorem Chip.Flows.rekeyPeer {obj o} (hl : ∀ g ∈ [Grp.obj, .med], g ∈ l := by decide) : a.Flows l (c.rekeyPeer obj o) :=
  k.andThen hl ((Chip.Flows.refl c).ite ((Chip.Flows.refl c).onObj.ite (Chip.Flows.refl c).onObj.staleRange))

/-! ### Reels, pins and frames brought in -/

theorem Chip.Flows.onReel {rid f} (hl : Grp.obj ∈ l := by decide) : a.Flows l (c.onReel rid f) := k.onObj (hl := hl)

theorem Chip.Flows.slideReel {rid} (hl : ∀ g ∈ [Grp.obj, .cache, .outs], g ∈ l := by decide) : a.Flows l (c.slideReel rid) := by
  refine k.andThen hl ?_
  unfold Chip.slideReel
  split
  · exact .refl c
  · exact (Chip.Flows.refl c).dropHolds.onReel

theorem Chip.Flows.dropReader {rid reader} (hl : ∀ g ∈ [Grp.obj, .cache, .outs], g ∈ l := by decide) : a.Flows l (c.dropReader rid reader) := by
  refine k.andThen hl ?_
  unfold Chip.dropReader
  extract_lets c1
  have h1 : c.Flows [.obj, .cache, .outs] c1 := (Chip.Flows.refl c).onReel
  split
  · exact h1.closeReel.ite h1.slideReel
  · exact h1

theorem Chip.Flows.bringIn {seg cause} (hl : ∀ g ∈ [Grp.cache, .ring], g ∈ l := by decide) : a.Flows l (c.bringIn seg cause).2 := by
  refine k.andThen hl ?_
  have h0 : c.CacheOnly c := .refl c
  unfold Chip.bringIn
  cases c.lookup seg with
  | some f => exact ((Chip.Flows.refl c).cacheOnly h0.onFrame).foldl fun _ _ h => h.queueMiss
  | none =>
    rcases h : c.allocate seg .clean with ⟨_ | f, d⟩
    · exact (Chip.Flows.refl c).cacheOnly (h0.allocate.snd h)
    · exact ((Chip.Flows.refl c).cacheOnly (h0.allocate.snd h)).foldl fun _ _ h => h.queueMiss

end

end Sys2Proof.Machine
end

section
/-! What serving requests leaves as it was: the objects, commands and reels, the twin link, the granules that the partner holds. -/

namespace Sys2Proof.Machine

set_option Elab.async false

/-- From `a` to `b` requests are served: of the objects' part only results of dictionary entries come, the twin link stays, and so does
what is known of the partner's granules. -/
structure Chip.Steady (a b : Chip) : Prop where
  obj : { b.obj with dictRes := a.obj.dictRes } = a.obj
  link : b.linkReady = a.linkReady
  state : b.twin.state = a.twin.state
  peerSlots : b.med.peerSlots = a.med.peerSlots

theorem Chip.Steady.refl (a : Chip) : a.Steady a := ⟨rfl, rfl, rfl, rfl⟩

theorem Medium.reindex_peerSlots (d : Medium) (k now : Nat) : (d.reindex k now).peerSlots = d.peerSlots := by
  unfold Medium.reindex
  split <;> rfl

section
variable {a c : Chip} (k : a.Steady c)
include k

theorem Chip.Steady.trans {d : Chip} (j : c.Steady d) : a.Steady d := by
  refine ⟨?_, j.link.trans k.link, j.state.trans k.state, j.peerSlots.trans k.peerSlots⟩
  have h : ({ d.obj with dictRes := a.obj.dictRes } : Objects) = { ({ d.obj with dictRes := c.obj.dictRes } : Objects) with dictRes := a.obj.dictRes } := rfl
  rw [h, j.obj, k.obj]

/-! ### What it leaves as it was -/

/-- What of the objects' part does not look at the results of dictionary entries. -/
theorem Chip.Steady.field {α : Type} (f : Objects → α) (hf : ∀ o r, f { o with dictRes := r } = f o := by intros; rfl) : f c.obj = f a.obj :=
  (hf _ _).symm.trans (congrArg f k.obj)

theorem Chip.Steady.table : c.obj.table = a.obj.table := k.field Objects.table
theorem Chip.Steady.cmds : c.obj.cmds = a.obj.cmds := k.field Objects.cmds
theorem Chip.Steady.reels : c.obj.reels = a.obj.reels := k.field Objects.reels
theorem Chip.Steady.tails : c.obj.tails = a.obj.tails := k.field Objects.tails
theorem Chip.Steady.cmd (id : Nat) : c.cmd id = a.cmd id := by
  unfold Chip.cmd
  rw [k.cmds]
theorem Chip.Steady.paired : c.paired = a.paired := by
  unfold Chip.paired
  rw [k.state]
theorem Chip.Steady.peerHas (o : Obj) : c.peerHas o = a.peerHas o := by
  unfold Chip.peerHas
  rw [k.peerSlots]

/-! ### The parts -/

/-- An operation that leaves the objects, the pair and the medium as they are. -/
theorem Chip.Steady.flows {l : List Grp} {d : Chip} (h : c.Flows l d) (ho : Grp.obj ∉ l := by decide) (ht : Grp.twin ∉ l := by decide)
    (hm : Grp.med ∉ l := by decide) : a.Steady d :=
  k.trans ⟨by rw [h.keeps.obj_eq ho], by unfold Chip.linkReady; rw [h.keeps.twin_eq ht], by rw [h.keeps.twin_eq ht], by rw [h.keeps.med_eq hm]⟩

theorem Chip.Steady.ite {d : Chip} {p : Prop} {_ : Decidable p} (j : a.Steady d) : a.Steady (if p then c else d) := by
  split
  · exact k
  · exact j

theorem Chip.Steady.foldl {α : Type} {xs : List α} {f : Chip → α → Chip} (hf : ∀ d x, a.Steady d → a.Steady (f d x)) : a.Steady (xs.foldl f c) := by
  induction xs generalizing c with
  | nil => exact k
  | cons x r ih => exact ih (hf c x k)

theorem Chip.Steady.onTwin {f : Twin → Twin} (hf : ∀ t, (f t).link = t.link ∧ (f t).keyed = t.keyed ∧ (f t).state = t.state := by intro; exact ⟨rfl, rfl, rfl⟩) :
    a.Steady (c.onTwin f) := by
  obtain ⟨hlink, hkeyed, hstate⟩ := hf c.twin
  refine k.trans ⟨rfl, ?_, hstate, rfl⟩
  show (decide ((f c.twin).link = .up) && (f c.twin).keyed) = _
  rw [hlink, hkeyed]
  rfl

theorem Chip.Steady.onMed {f : Medium → Medium} (hf : ∀ m, (f m).peerSlots = m.peerSlots := by intro; rfl) : a.Steady (c.onMed f) :=
  k.trans ⟨rfl, rfl, rfl, hf _⟩

theorem Chip.Steady.cacheOnly {d : Chip} (h : c.CacheOnly d) : a.Steady d := k.flows (l := [.cache]) ((Chip.Flows.refl c).cacheOnly h)

/-! ### Requests and their completions -/

theorem Chip.Steady.sendTwin {b line tag head p q r} : a.Steady (c.sendTwin b line tag head p q r) := k.flows (l := [.outs]) (Chip.Flows.refl c).sendTwin

theorem Chip.Steady.requestRecord {r log b} : a.Steady (c.requestRecord r log b) := k.flows (l := recordGrps) (Chip.Flows.refl c).requestRecord

theorem Chip.Steady.completeRead {r data p txn type} : a.Steady (c.completeRead r data p txn type) := by
  have h0 : c.Flows recordGrps c := .refl c
  unfold Chip.completeRead
  split
  · exact k.flows ((h0.emit.headEvent.recordAt.ite h0.emit).ite h0)
  · exact k.onTwin.sendTwin
  · exact k
  · exact k

theorem Chip.Steady.ackWrite {r} : a.Steady (c.ackWrite r) := by
  have h0 : c.Flows [.outs] c := .refl c
  unfold Chip.ackWrite
  split
  · exact k.flows (h0.emit.ite h0)
  · exact k.onTwin.sendTwin
  · exact k
  · exact k

theorem Chip.Steady.denyRequest {r txn type bit} : a.Steady (c.denyRequest r txn type bit) := by
  unfold Chip.denyRequest
  extract_lets c1
  have h1 : a.Steady c1 := by
    unfold c1
    split
    · exact k.flows (l := [.heads]) (Chip.Flows.refl c).headEvent
    · exact k.flows (l := [.heads]) (Chip.Flows.refl c).headEvent
    · exact k
    · exact k
  exact h1.requestRecord.ackWrite.ite h1.completeRead

/-! ### Writes -/

theorem Chip.Steady.setMap {key m} : a.Steady (c.setMap key m) := k.onMed fun _ => Medium.reindex_peerSlots ..

theorem Chip.Steady.setWritten {seg m} : a.Steady (c.setWritten seg m) := by
  unfold Chip.setWritten
  split
  · extract_lets c1
    have h1 : a.Steady c1 := k.setMap
    split
    · exact h1.setMap.ite h1
    · exact h1
  · exact k

theorem Chip.Steady.setLineWritten {x} : a.Steady (c.setLineWritten x) := k.setWritten
theorem Chip.Steady.markStale {x} : a.Steady (c.markStale x) := k.onMed
theorem Chip.Steady.poisonWrite {x p} : a.Steady (c.poisonWrite x p) := k.flows (l := poisonGrps) (Chip.Flows.refl c).poisonWrite
theorem Chip.Steady.dropFailed {r} : a.Steady (c.dropFailed r) := (k.flows (l := poisonGrps) (Chip.Flows.refl c).addPoison).requestRecord.ackWrite
theorem Chip.Steady.bump {i j n} : a.Steady (c.bump i j n) := k.flows (l := [.ring]) (Chip.Flows.refl c).bump
theorem Chip.Steady.onCache {f : Cache → Cache} : a.Steady (c.onCache f) := k.flows (l := [.cache]) (Chip.Flows.refl c).onCache

theorem Chip.Steady.tryHomeWrite {r} {d : Chip} (h : c.tryHomeWrite r = some d) : a.Steady d := by
  unfold Chip.tryHomeWrite at h
  extract_lets mir head at h
  split at h
  · cases h
  · split at h
    · cases h
    · next e he =>
      split at h
      · cases h
      · extract_lets c1 c2 c3 at h
        have h1 : a.Steady c1 := (k.cacheOnly ((Chip.CacheOnly.refl c).placeLine he).spendCredits).setLineWritten.poisonWrite
        have h2 : a.Steady c2 := h1.requestRecord.ite h1
        split at h
        · cases h
          exact h2.onTwin.onTwin.bump.sendTwin
        · cases h
          exact (h2.markStale.ite h2).ackWrite

theorem Chip.Steady.tryMirrorWrite {m} {d : Chip} (h : c.tryMirrorWrite m = some d) : a.Steady d := by
  obtain ⟨e, he, rfl⟩ : ∃ e, c.CacheOnly e ∧ d = (e.setLineWritten m.line).sendTwin .mirrorCommit m.line m.tag := Chip.tryMirrorWrite_eq h
  exact (k.cacheOnly he).setLineWritten.sendTwin

theorem Chip.Steady.tryWaiter {x} {d : Chip} (h : c.tryWaiter x = some d) : a.Steady d := by
  unfold Chip.tryWaiter at h
  split at h
  · split at h
    · cases h; exact k.denyRequest
    · split at h
      · cases h; exact k.dropFailed
      · exact k.tryHomeWrite h
  · split at h
    · cases h; exact k.sendTwin
    · exact k.tryMirrorWrite h

/-! ### Squall mode -/

theorem Chip.Steady.bistEnd {v e d} : a.Steady (c.bistEnd v e d) := by
  unfold Chip.bistEnd
  split
  · exact k
  · extract_lets us bytes c1
    have h1 : a.Steady c1 := k.trans ⟨rfl, rfl, rfl, rfl⟩
    exact h1.ite h1.bump

theorem Chip.Steady.setSquall {v} : a.Steady (c.setSquall v) := by
  unfold Chip.setSquall
  split
  · exact k
  · extract_lets was c1 c2 c3
    have h2 : a.Steady c2 := k.onCache.sendTwin
    have h3 : a.Steady c3 := h2.bistEnd.ite h2
    exact (h3.flows (l := [.ring, .outs]) (Chip.Flows.refl c3).notify).ite h3

theorem Chip.Steady.evalSquall : a.Steady c.evalSquall := by
  unfold Chip.evalSquall
  refine k.ite ((k.ite ?_).ite (k.setSquall.onCache.ite k.setSquall))
  exact k.setSquall.bump.flows (l := .cache :: .dolly :: recordGrps) (Chip.Flows.refl _).vendorRecord.unclaimAll

/-! ### Waiting requests -/

theorem Chip.Steady.serveWaiters {n} : a.Steady (c.serveWaiters n) := by
  induction n generalizing c with
  | zero => exact k
  | succ n ih =>
    unfold Chip.serveWaiters
    split
    · exact k
    · split
      · exact k
      · next d hd => exact ih (k.onCache.tryWaiter hd).evalSquall

theorem Chip.Steady.homeWrite {r} : a.Steady (c.homeWrite r) := by
  unfold Chip.homeWrite
  split
  · exact k.dropFailed
  · split
    · exact k.onCache.bump
    · extract_lets c1 queue behind
      have h1 : a.Steady c1 := by
        refine k.cacheOnly ?_
        unfold c1
        split
        · exact (Chip.CacheOnly.refl c).onFrame.ite (.refl c)
        · exact .refl c
      split
      · exact h1.onCache.evalSquall
      · split
        · next _ heq => exact (h1.tryHomeWrite heq).evalSquall
        · exact h1.onCache.evalSquall

theorem Chip.Steady.lateWrite {r} : a.Steady (c.lateWrite r) := k.denyRequest.ite k.homeWrite

theorem Chip.Steady.serveMerges {n} : a.Steady (c.serveMerges n) := by
  induction n generalizing c with
  | zero => exact k
  | succ n ih =>
    unfold Chip.serveMerges
    split
    · exact k
    · exact k.ite (ih k.onCache.lateWrite)

theorem Chip.Steady.settle : a.Steady c.settle := by
  have h1 : a.Steady (c.evalSquall.serveWaiters c.evalSquall.cache.creditQ.length) := k.evalSquall.serveWaiters
  exact (h1.serveMerges).flows (l := [.hbm, .ring]) (Chip.Flows.refl _).evalPanic

theorem Chip.Steady.homeRead {r} : a.Steady (c.homeRead r) := by
  unfold Chip.homeRead
  extract_lets wait
  split
  · exact k.onCache
  · split
    · extract_lets c1
      have h1 : a.Steady c1 := (k.cacheOnly (Chip.CacheOnly.refl c).touch.readFrame).bump
      exact ((h1.flows (l := poisonGrps) (Chip.Flows.refl c1).decodedMark).ite h1).completeRead
    · exact k.completeRead.ite (k.completeRead.ite (k.onCache.ite (k.flows (l := [.cache, .ring]) (Chip.Flows.refl c).startMiss)))

theorem Chip.Steady.lateRequest {r} : a.Steady (c.lateRequest r) := k.lateWrite.ite (k.denyRequest.ite k.homeRead)

theorem Chip.Steady.onDolly {f : Dolly → Dolly} : a.Steady (c.onDolly f) := k.flows (l := [.dolly]) (Chip.Flows.refl c).onDolly
theorem Chip.Steady.dropMoves {first n} : a.Steady (c.dropMoves first n) := k.onDolly.foldl fun _ _ h => h.lateRequest

end

end Sys2Proof.Machine
end

section
/-! An object command arrives (02 R57, R62, R63, R66): the entry its row names, the chip with it in flight, the checks it meets, and the
work of its opcode. -/

namespace Sys2Proof.Machine

set_option Elab.async false

/-! ### The entry -/

theorem opcodeOf_asOp {op : Nat} (h : op < 256) (e : CmdEntry) : opcodeOf (asOp op e) = op := by
  unfold opcodeOf asOp setField fieldAt
  rw [BitVec.toNat_ofNat]
  omega

/-- The rows of the object commands, each with its opcode (02 Table 02-7). -/
def objectRows (path : CmdPath) (entry : CmdEntry) : List (Instr × Nat) :=
  [(.create path entry, 0x01), (.destroy path entry, 0x02), (.setAttr path entry, 0x03), (.query path entry, 0x04),
    (.resize path entry, 0x05), (.move path entry, 0x10), (.pin path entry, 0x11), (.unpin path entry, 0x12), (.promote path entry, 0x13),
    (.evict path entry, 0x14), (.zero path entry, 0x15), (.reelOpen path entry, 0x20), (.reelJoin path entry, 0x21),
    (.reelAdvance path entry, 0x22), (.reelLeave path entry, 0x23)]

theorem exec_objectRow {path : CmdPath} {entry : CmdEntry} {i : Instr} {op : Nat} (h : (i, op) ∈ objectRows path entry) (s : State) :
    exec i s = s.onChip fun c => c.command path (asOp op entry) := by
  simp only [objectRows, List.mem_cons, Prod.mk.injEq, List.not_mem_nil, or_false] at h
  rcases h with ⟨rfl, rfl⟩ | ⟨rfl, rfl⟩ | ⟨rfl, rfl⟩ | ⟨rfl, rfl⟩ | ⟨rfl, rfl⟩ | ⟨rfl, rfl⟩ | ⟨rfl, rfl⟩ | ⟨rfl, rfl⟩ | ⟨rfl, rfl⟩ | ⟨rfl, rfl⟩ |
    ⟨rfl, rfl⟩ | ⟨rfl, rfl⟩ | ⟨rfl, rfl⟩ | ⟨rfl, rfl⟩ | ⟨rfl, rfl⟩ <;> rfl

theorem objectRows_op {path : CmdPath} {entry : CmdEntry} {i : Instr} {op : Nat} (h : (i, op) ∈ objectRows path entry) :
    op < 256 ∧ knownOp op = true := by
  simp only [objectRows, List.mem_cons, Prod.mk.injEq, List.not_mem_nil, or_false] at h
  rcases h with ⟨-, rfl⟩ | ⟨-, rfl⟩ | ⟨-, rfl⟩ | ⟨-, rfl⟩ | ⟨-, rfl⟩ | ⟨-, rfl⟩ | ⟨-, rfl⟩ | ⟨-, rfl⟩ | ⟨-, rfl⟩ | ⟨-, rfl⟩ |
    ⟨-, rfl⟩ | ⟨-, rfl⟩ | ⟨-, rfl⟩ | ⟨-, rfl⟩ | ⟨-, rfl⟩ <;> decide

/-! ### The command in flight -/

/-- A command as it starts, on the segments given. -/
def begunCmd (id : Nat) (path : CmdPath) (e : CmdEntry) (first count : Nat) : RunCmd := { id := id, path := path, entry := e, first := first, count := count }

/-- The chip with a new command in flight, on the segments given. -/
def Chip.begun (c : Chip) (path : CmdPath) (e : CmdEntry) (first : Nat := 0) (count : Nat := 0) : Chip :=
  c.onObj fun o => { o with cmds := o.cmds ++ [begunCmd o.nextCmd path e first count], nextCmd := o.nextCmd + 1 }

section
variable {c : Chip} {path : CmdPath} {e : CmdEntry} (hn : c.cmd c.obj.nextCmd = none)
include hn

/-- No command in flight has the number of the next. -/
theorem Chip.cmds_ne_next {r : RunCmd} (hr : r ∈ c.obj.cmds) : r.id ≠ c.obj.nextCmd := by
  simpa using List.find?_eq_none.1 hn r hr

/-- A command added under the next number is found under it. -/
theorem Chip.find_added {x : RunCmd} (hx : x.id = c.obj.nextCmd) : (c.obj.cmds ++ [x]).find? (fun r => decide (r.id = c.obj.nextCmd)) = some x := by
  rw [List.find?_append, show c.obj.cmds.find? _ = none from hn]
  simp [hx]

/-- A change of the command added leaves the others. -/
theorem Chip.map_added {x : RunCmd} (hx : x.id = c.obj.nextCmd) (f : RunCmd → RunCmd) :
    (c.obj.cmds ++ [x]).map (fun r => if r.id = c.obj.nextCmd then f r else r) = c.obj.cmds ++ [f x] := by
  have hold : c.obj.cmds.map (fun r => if r.id = c.obj.nextCmd then f r else r) = c.obj.cmds :=
    (List.map_congr_left fun r hr => if_neg (Chip.cmds_ne_next hn hr)).trans (List.map_id _)
  rw [List.map_append, hold, List.map_cons, if_pos hx, List.map_nil]

theorem Chip.cmd_begun (first count : Nat) : (c.begun path e first count).cmd c.obj.nextCmd = some (begunCmd c.obj.nextCmd path e first count) :=
  Chip.find_added hn rfl

theorem Chip.cmdSpan_begun (first count : Nat) : (c.begun path e).cmdSpan c.obj.nextCmd first count = c.begun path e first count := by
  unfold Chip.cmdSpan Chip.onCmd Chip.begun
  simp only [Chip.onObj, Chip.map_added hn (x := begunCmd c.obj.nextCmd path e 0 0) rfl]
  rfl

/-- A command that arrives is taken into the list, and its checks begin. -/
theorem Chip.command_begins : c.command path e = (c.addCmd path e).2.run c.obj.nextCmd ∧
    (c.addCmd path e).2.cmd c.obj.nextCmd = some { id := c.obj.nextCmd, path := path, entry := e, waits := true } ∧
    ((c.addCmd path e).2.onCmd c.obj.nextCmd fun x => { x with waits := false }) = c.begun path e := by
  refine ⟨rfl, Chip.find_added hn rfl, ?_⟩
  unfold Chip.addCmd Chip.onCmd Chip.begun
  simp only [Chip.onObj, Chip.map_added hn (x := { id := c.obj.nextCmd, path := path, entry := e, waits := true }) rfl]
  rfl

end

/-! ### The checks -/

section
variable {c : Chip} {path : CmdPath} {e : CmdEntry} (hn : c.cmd c.obj.nextCmd = none) (hop : knownOp (opcodeOf e) = true)
include hn hop

/-- A command that fails a check of its entry ends there, in the order of the checks (02 R57, R63; 12 R345). -/
theorem Chip.command_refused : (c.sec.locked = true → c.command path e = (c.begun path e).finish c.obj.nextCmd stDenied) ∧
    (∀ b, c.sec.locked = false → lowest (zeroFaults e (viaCue path) ++ c.fieldFaults e) = some b →
      c.command path e = (c.begun path e).finish c.obj.nextCmd stField b) ∧
    (c.sec.locked = false → lowest (zeroFaults e (viaCue path) ++ c.fieldFaults e) = none → c.cmdDenied path e = true →
      c.command path e = (c.begun path e).finish c.obj.nextCmd stDenied) := by
  obtain ⟨hrun, hcmd, hbegun⟩ := Chip.command_begins (path := path) (e := e) hn
  rw [hrun]
  unfold Chip.run
  rw [hcmd]
  dsimp -zeta only
  extract_lets x cue fwd d
  have hcue : cue = viaCue path := by cases path <;> rfl
  have hd : d = c.begun path e := hbegun
  have hx : e = x := rfl
  clear_value x cue d
  subst hx hcue hd
  have hsec : (c.begun path e).sec = c.sec := rfl
  have hfields : (c.begun path e).fieldFaults e = c.fieldFaults e := rfl
  have hden : (c.begun path e).cmdDenied path e = c.cmdDenied path e := rfl
  rw [hop, hsec, hfields, hden]
  refine ⟨fun hl => ?_, fun b hl hf => ?_, fun hl hf hd => ?_⟩
  · simp [hl]
  · simp [hl, hf]
  · simp [hl, hf, hd]

/-- A command that is admitted goes on by its opcode and by the state of its object (02 R57). -/
theorem Chip.command_admitted (ha : c.admits path e) :
    (opcodeOf e = 0x01 → c.pairWaits e = false → c.command path e = (c.begun path e).runCreate c.obj.nextCmd e) ∧
    (opcodeOf e = 0x04 → c.command path e = (c.begun path e).runQuery c.obj.nextCmd e) ∧
    (opcodeOf e ≠ 0x01 → opcodeOf e ≠ 0x04 →
      (c.obj.table.find (objOf e) = none → c.command path e = (c.begun path e).finish c.obj.nextCmd stNoObject) ∧
      ∀ o, c.obj.table.find (objOf e) = some o →
        (o.state = .destroying → c.command path e = (c.begun path e).finish c.obj.nextCmd stNoObject) ∧
        (o.state = .unavailable → c.command path e = (c.begun path e).finish c.obj.nextCmd stUnavailable) ∧
        (o.state = .active → bit (flagsOf e) 31 = true → o.userTag ≠ BitVec.ofNat 32 (fieldAt e 56 4) →
          c.command path e = (c.begun path e).finish c.obj.nextCmd stNoObject) ∧
        (o.state = .active → (bit (flagsOf e) 31 = true → o.userTag = BitVec.ofNat 32 (fieldAt e 56 4)) →
          c.command path e = (c.begun path e).runOn c.obj.nextCmd e o)) := by
  obtain ⟨hl, hf, hd, hhere, -⟩ := ha
  obtain ⟨hrun, hcmd, hbegun⟩ := Chip.command_begins (path := path) (e := e) hn
  rw [hrun]
  unfold Chip.run
  rw [hcmd]
  dsimp -zeta only
  extract_lets x cue fwd d
  have hcue : cue = viaCue path := by cases path <;> rfl
  have hd' : d = c.begun path e := hbegun
  have hstays : (!fwd && !d.cmdHere e) = false := by
    rcases hhere with ⟨tag, rfl⟩ | h
    · rfl
    · rw [show d.cmdHere e = true from h, Bool.not_true, Bool.and_false]
  have hx : e = x := rfl
  clear_value x cue fwd d
  subst hx hcue hd'
  have hsec : (c.begun path e).sec = c.sec := rfl
  have hfields : (c.begun path e).fieldFaults e = c.fieldFaults e := rfl
  have hden : (c.begun path e).cmdDenied path e = c.cmdDenied path e := rfl
  have hwaits : (c.begun path e).pairWaits e = c.pairWaits e := rfl
  have htable : (c.begun path e).obj.table = c.obj.table := rfl
  rw [hop, hsec, hfields, hden, hwaits, htable, hl, hf, hd, hstays]
  simp only [Bool.not_true, Bool.false_eq_true, if_false]
  refine ⟨fun h1 hw => by simp [h1, hw], fun h4 => by simp [h4], fun h1 h4 => ?_⟩
  rw [if_neg h1, if_neg h4]
  refine ⟨fun hnone => by rw [hnone], fun o ho => ?_⟩
  rw [ho]
  refine ⟨fun hs => by simp [hs], fun hs => by simp [hs], fun hs hm ht => by simp [hs, hm, ht], fun hs hm => ?_⟩
  simp only [hs]
  refine if_neg ?_
  simpa using hm

end

/-! ### The work of an opcode -/

theorem Chip.rivals_begun (c : Chip) (path : CmdPath) (e x : CmdEntry) (first count u v : Nat) :
    (c.begun path e first count).rivals c.obj.nextCmd x u v = c.rivals c.obj.nextCmd x u v := by
  unfold Chip.rivals
  show (c.obj.cmds ++ [_]).filter _ = _
  rw [List.filter_append]
  simp [begunCmd]

/-- The chip on which a command works that runs at once on its object. -/
def Chip.atWork (c : Chip) (path : CmdPath) (e : CmdEntry) (o : Obj) : Chip := c.begun path e (spanOf e o).1 (spanOf e o).2

/-- A command that runs on its object does the work of its opcode. -/
theorem Chip.command_works {c : Chip} {path : CmdPath} {e : CmdEntry} {o : Obj} (hop : knownOp (opcodeOf e) = true) (h : c.runsOn path e o) :
    let d := c.atWork path e o
    let id := c.obj.nextCmd
    (opcodeOf e = 0x02 → c.command path e = d.runDestroy id (objOf e) o (bit (flagsOf e) 0)) ∧
    (opcodeOf e = 0x03 → c.command path e = d.runSetAttr id e (objOf e) o) ∧
    (opcodeOf e = 0x05 → c.command path e = d.runResize id e (objOf e) o) ∧
    (opcodeOf e = 0x10 → c.command path e = d.runMove id e (objOf e) o) ∧
    (opcodeOf e = 0x11 → c.command path e = d.runPin id (objOf e) (spanOf e o).1 (spanOf e o).2) ∧
    (opcodeOf e = 0x12 → c.command path e = d.runUnpin id (objOf e) (spanOf e o).1 (spanOf e o).2) ∧
    (opcodeOf e = 0x13 → c.command path e = d.runPromote id) ∧
    (opcodeOf e = 0x14 → c.command path e = d) ∧
    (opcodeOf e = 0x15 → c.command path e = d.runZero id e o (spanOf e o).1 (spanOf e o).2) ∧
    (opcodeOf e = 0x20 → c.command path e = d.runReelOpen id e (objOf e) o) ∧
    (opcodeOf e = 0x21 ∨ opcodeOf e = 0x22 ∨ opcodeOf e = 0x23 →
      ((∀ r, c.reel (fieldAt e 16 2) = some r → r.obj ≠ objOf e) → c.command path e = d.finish id stNoReel) ∧
      ∀ r, c.reel (fieldAt e 16 2) = some r → r.obj = objOf e →
        (opcodeOf e = 0x21 → c.command path e = d.runReelJoin id r) ∧ (opcodeOf e = 0x22 → c.command path e = d.runReelAdvance id e r) ∧
          (opcodeOf e = 0x23 → c.command path e = d.runReelLeave id e r)) := by
  obtain ⟨ha, ho, hs, hm, hrange, hriv, hpair⟩ := h
  obtain ⟨-, -, hon⟩ := Chip.command_admitted ha.2.2.2.2 hop ha
  intro d id
  have hrun (h1 : opcodeOf e ≠ 0x01) (h4 : opcodeOf e ≠ 0x04) : c.command path e = (c.begun path e).runOn id e o :=
    ((hon h1 h4).2 o ho).2.2.2 hs hm
  have hnone : (if decide (0x10 ≤ opcodeOf e ∧ opcodeOf e ≤ 0x15) = true then rangeFault e o else none) = none := by
    split
    · next hr =>
      obtain ⟨h1, h2⟩ := of_decide_eq_true hr
      exact hrange h1 h2
    · rfl
  have hspan : (c.begun path e).cmdSpan id (spanOf e o).1 (spanOf e o).2 = d := Chip.cmdSpan_begun ha.2.2.2.2 ..
  have hrivals : d.rivals id e (spanOf e o).1 (spanOf e o).2 = [] := (c.rivals_begun ..).trans hriv
  have hwaits : d.pairWaits e = false := hpair
  have hreel : d.reel (fieldAt e 16 2) = c.reel (fieldAt e 16 2) := rfl
  clear_value d
  unfold Chip.runOn at hrun
  dsimp only at hrun
  rw [hnone] at hrun
  simp only [hspan, hrivals, hwaits, List.any_nil, Bool.or_false, Bool.false_eq_true, if_false, List.filter_nil, List.foldl_nil, hreel] at hrun
  refine ⟨fun h => ?_, fun h => ?_, fun h => ?_, fun h => ?_, fun h => ?_, fun h => ?_, fun h => ?_, fun h => ?_, fun h => ?_, fun h => ?_, fun h => ?_⟩
  iterate 10 · simpa [h] using hrun
  have hrun' := hrun (by omega) (by omega)
  refine ⟨fun hno => ?_, fun r hr hobj => ⟨fun h => ?_, fun h => ?_, fun h => ?_⟩⟩
  · have hfilter : (c.reel (fieldAt e 16 2)).filter (fun r => decide (r.obj = objOf e)) = none := by
      rw [Option.filter_eq_none_iff]
      simpa using hno
    rw [hfilter] at hrun'
    rcases h with h | h | h <;> simpa [h] using hrun'
  all_goals
    rw [hr, Option.filter_some, if_pos (by simpa using hobj)] at hrun'
    simpa [h] using hrun'

end Sys2Proof.Machine
end

section
/-! The result of an object command (02 R57, R67), and the checks that end one (02 R63, R66; 12 R345). -/

namespace Sys2Proof.Machine

set_option Elab.async false

theorem Completes.imp {i : Instr} {s : State} {p q : Chip → Prop} (h : Completes i s p) (hpq : ∀ c, p c → q c) : Completes i s q :=
  let ⟨t, he, hpend, hp⟩ := h
  ⟨t, he, hpend, hpq _ hp⟩

/-! ### Results -/

section
variable {c d : Chip} {id : Nat} {path : CmdPath} {e : CmdEntry}

/-- A result looks at the commands in flight and at the table. -/
theorem Chip.answered_of_obj (hcmds : d.obj.cmds = c.obj.cmds) (htable : d.obj.table = c.obj.table) {st detail obj : Nat} {vals : List (Nat × Nat × Nat)}
    (h : c.answered id path e st detail vals obj) : d.answered id path e st detail vals obj := by
  unfold Chip.answered Chip.cmd Chip.userTag at h ⊢
  rw [hcmds, htable]
  exact h

theorem Chip.answered_ended {was : Chip} {st detail obj : Nat} {vals : List (Nat × Nat × Nat)} (h : c.answered id path e st detail vals obj) :
    (Chip.ended was c).answered id path e st detail vals obj :=
  Chip.answered_of_obj (by rw [Chip.ended_obj]) (by rw [Chip.ended_obj]) h

/-- Work looks at the commands in flight. -/
theorem Chip.working_of_cmd {first count : Nat} (hcmd : d.cmd id = c.cmd id) (h : c.working id path e first count) : d.working id path e first count := by
  unfold Chip.working at h ⊢
  rw [hcmd]
  exact h

theorem Chip.cmd_of_obj (h : d.obj = c.obj) (id : Nat) : d.cmd id = c.cmd id := by
  unfold Chip.cmd
  rw [h]

theorem Chip.working_ended {was : Chip} {first count : Nat} (h : c.working id path e first count) : (Chip.ended was c).working id path e first count :=
  Chip.working_of_cmd (Chip.cmd_of_obj (Chip.ended_obj ..) id) h

theorem Chip.told_ended {a was : Chip} {b : TwinBody} {line tag : Nat} (h : a.told c b line tag) : a.told (Chip.ended was c) b line tag := by
  unfold Chip.told at h ⊢
  rw [Chip.sent_ended]
  exact h

theorem Chip.finish_obj (c : Chip) (id st detail : Nat) (vals : List (Nat × Nat × Nat)) (obj : Option Nat) :
    (c.finish id st detail vals obj).obj = { c.obj with cmds := (c.finish id st detail vals obj).obj.cmds } := by
  unfold Chip.finish
  split <;> rfl

theorem Chip.finish_of_cmd {r : RunCmd} (hr : c.cmd id = some r) (st detail : Nat) (vals : List (Nat × Nat × Nat)) (obj : Option Nat) :
    c.finish id st detail vals obj = c.onCmd id fun x =>
      { x with waits := false, durable := if durableOp (opcodeOf r.entry) then c.cache.nextOp else 0,
               result := some (mkResult r.entry (obj.getD (objOf r.entry)) st detail (c.userTag (obj.getD (objOf r.entry))) vals) } := by
  unfold Chip.finish
  rw [hr]

/-- A command in flight that completes has its result. -/
theorem Chip.finish_answers {r : RunCmd} (hr : c.cmd id = some r) (hp : r.path = path) (he : r.entry = e) (st detail : Nat) (vals : List (Nat × Nat × Nat))
    (obj : Option Nat) : (c.finish id st detail vals obj).answered id path e st detail vals (obj.getD (objOf e)) := by
  have htable : (c.finish id st detail vals obj).userTag = c.userTag := by
    unfold Chip.userTag
    rw [c.finish_obj]
  unfold Chip.answered
  rw [htable, Chip.finish_of_cmd hr]
  refine ⟨_, Eq.trans (Chip.cmd_onCmd_same ?_) (congrArg _ hr), hp, he, ?_⟩
  · intro
    rfl
  · rw [he]

end

/-! ### The frame of a command that begins -/

theorem Chip.begun_keeps (c : Chip) (path : CmdPath) (e : CmdEntry) (first count : Nat) : c.keepsBut [.obj] (c.begun path e first count) :=
  (Chip.keepsBut_refl _ _).onObj _ (by decide)

section
variable {s : State} {i : Instr} {path : CmdPath} {e : CmdEntry} (hi : exec i s = s.onChip fun c => c.command path e)
  (hn : s.chip.cmd s.chip.obj.nextCmd = none)
include hi hn

/-- A command that ends at once has its result, and nothing beside the list of commands changes. -/
theorem completes_finish_of {st detail first count : Nat} {vals : List (Nat × Nat × Nat)} {obj : Option Nat}
    (h : s.chip.command path e = (s.chip.begun path e first count).finish s.chip.obj.nextCmd st detail vals obj) :
    Completes i s fun c => c.answered s.chip.obj.nextCmd path e st detail vals (obj.getD (objOf e)) ∧
      c.obj = { s.chip.obj with cmds := c.obj.cmds, nextCmd := s.chip.obj.nextCmd + 1 } ∧ s.chip.keepsBut [.obj] c := by
  refine .of_onChip hi h ⟨Chip.answered_ended (Chip.finish_answers (Chip.cmd_begun hn _ _) rfl rfl ..), ?_, Chip.keepsBut_ended ?_⟩
  · rw [Chip.ended_obj, Chip.finish_obj]
    rfl
  · exact Chip.keepsBut_trans (s.chip.begun_keeps _ _ _ _) (Chip.Flows.refl _).finish.keeps

theorem completes_finish {st detail first count : Nat} {vals : List (Nat × Nat × Nat)}
    (h : s.chip.command path e = (s.chip.begun path e first count).finish s.chip.obj.nextCmd st detail vals) :
    Completes i s fun c => c.answered s.chip.obj.nextCmd path e st detail vals ∧
      c.obj = { s.chip.obj with cmds := c.obj.cmds, nextCmd := s.chip.obj.nextCmd + 1 } ∧ s.chip.keepsBut [.obj] c := by
  simpa only [Option.getD_none] using completes_finish_of hi hn h

/-- The same where only the result is of interest. -/
theorem completes_refused {st detail first count : Nat} {vals : List (Nat × Nat × Nat)}
    (h : s.chip.command path e = (s.chip.begun path e first count).finish s.chip.obj.nextCmd st detail vals) :
    Completes i s fun c => c.answered s.chip.obj.nextCmd path e st detail vals ∧ s.chip.keepsBut [.obj] c :=
  (completes_finish hi hn h).imp fun _ ⟨ha, _, hk⟩ => ⟨ha, hk⟩

end

end Sys2Proof.Machine

open Sys2Proof Sys2Proof.Machine

/-- Settles O23. A check that fails ends the command where it stands, with nothing done but its result. -/
theorem commandChecks : Obligations.CommandChecks := by
  intro s path entry op i hrow e faults refusal hn
  obtain ⟨hop, hknown⟩ := objectRows_op hrow
  have hope : opcodeOf e = op := opcodeOf_asOp hop entry
  have hi : exec i s = s.onChip fun c => c.command path e := exec_objectRow hrow s
  have hk : knownOp (opcodeOf e) = true := by rw [hope]; exact hknown
  have hend {st detail : Nat} (h : s.chip.command path e = (s.chip.begun path e).finish s.chip.obj.nextCmd st detail) : refusal st detail :=
    completes_finish hi hn h
  obtain ⟨hlocked, hfield, hdenied⟩ := Chip.command_refused (path := path) hn hk
  refine ⟨fun hl => hend (hlocked hl), fun b hl hb => hend (hfield b hl hb), fun hl hf hd => hend (hdenied hl hf hd), fun ha h1 h4 => ?_⟩
  obtain ⟨-, -, hobject⟩ := Chip.command_admitted hn hk ha
  obtain ⟨hnone, hsome⟩ := hobject (hope ▸ h1) (hope ▸ h4)
  refine ⟨fun ho => hend (hnone ho), fun o ho => ?_⟩
  obtain ⟨hdes, hun, htag, -⟩ := hsome o ho
  exact ⟨fun hs => hend (hdes hs), fun hs => hend (hun hs), fun hs hm ht => hend (htag hs hm ht)⟩
end

section
/-! CREATE (02 R59; 12 R325): the key of its tag, and what it comes to. -/

namespace Sys2Proof.Machine

set_option Elab.async false

/-! ### The parts of a chip after a change of the table -/

theorem Chip.putObj_obj (c : Chip) (i : Nat) (o : Obj) : (c.putObj i o).obj = { c.obj with table := c.obj.table.put i o } :=
  ((Chip.Flows.refl (l := slotGrps) (c.onObj fun x => { x with table := x.table.put i o })).tableChanged.sendTwin.descInval).keeps.obj_eq

theorem Chip.keepsBut.sec_eq {a b : Chip} {l : List Grp} (k : a.keepsBut l b) (h : Grp.sec ∉ l := by decide) : b.sec = a.sec := k .sec h

theorem Chip.takeSlots_obj (c : Chip) (first sgroup n : Nat) : (c.takeSlots first sgroup n).obj = c.obj :=
  ((Chip.Flows.refl (l := slotGrps) c).takeSlots).keeps.obj_eq

/-! ### The key of a tag -/

section
variable {c : Chip} {t : Tag}

theorem Chip.needKey_loaded (h : c.tagState t = .loaded) : c.needKey t = .ready c := by
  unfold Chip.needKey
  rw [h]

theorem Chip.needKey_erasing (h : c.tagState t = .erasing) : c.needKey t = .status stRetry := by
  unfold Chip.needKey
  rw [h]

/-- In position 1 of a pair the key comes from position 0. -/
theorem Chip.needKey_waits (h : c.tagState t = .empty) (hs : c.twin.state = .paired) (hp : c.twin.position = true) : c.needKey t = .wait := by
  unfold Chip.needKey
  rw [h, hs, hp]
  rfl

theorem Chip.tagState_setTag (c : Chip) (t : Tag) {k : KeyTag} (hk : k.state = .loaded) : (c.setTag t k).tagState t = .loaded := by
  have hne : k ≠ {} := fun h => by
    rw [h] at hk
    cases hk
  show ((SMap.putD c.sec.tags t.toNat k {}).getD t.toNat {}).state = _
  rw [SMap.putD, if_neg hne, SMap.getD_put_self, hk]

/-- A key at hand is obtained, and the tag is LOADED then. -/
theorem Chip.needKey_ready (h : c.keyAtHand t) : ∃ d, c.needKey t = .ready d ∧ d.tagState t = .loaded ∧ c.Flows [.sec, .outs] d := by
  rcases h with h | ⟨h, hs, hdrbg, hpass⟩
  · exact ⟨c, Chip.needKey_loaded h, h, .refl c⟩
  · let d := c.drawKey.2.setTag t { (c.drawKey.2.sec.tags.getD t.toNat {}) with state := .loaded, key := c.drawKey.1 }
    let d' := if d.paired then d.sendTwin (.tableUpdate (.key t c.drawKey.1)) else d
    have hd : c.Flows [.sec, .outs] d := by
      have h1 : c.Flows [.sec, .outs] c.drawKey.2 := by
        unfold Chip.drawKey
        dsimp only
        exact (Chip.Flows.refl (l := [.sec, .outs]) c).onSec
      exact h1.onSec
    have hd' : d.Flows [.outs] d' := (Chip.Flows.refl d).sendTwin.ite (.refl d)
    have hgen : (c.sec.drbgStopped || (c.sec.userPass.isSome && !c.sec.slots.getLsbD 1)) = false := by
      rcases hpass with hp | hp <;> simp [hdrbg, hp]
    refine ⟨d', ?_, ?_, hd.trans hd'.mono⟩
    · unfold Chip.needKey
      rw [h, hgen]
      rcases hs with hs | hs | ⟨hs, hp⟩
      · rw [hs]; rfl
      · rw [hs]; rfl
      · rw [hs, hp]; rfl
    · unfold Chip.tagState
      rw [hd'.keeps.sec_eq]
      exact c.drawKey.2.tagState_setTag t rfl

end

/-! ### The outcomes of CREATE -/

/-- The object that a CREATE makes at a base. -/
def Chip.createdObj (c : Chip) (e : CmdEntry) (b : Nat) : Obj :=
  { base := b, granules := fieldAt e 24 4, mirror := bit (flagsOf e) 0, bypass := bit (flagsOf e) 1, keyTag := BitVec.ofNat 8 (fieldAt e 28 1),
    sgroup := BitVec.ofNat 8 (fieldAt e 29 1), heads := BitVec.ofNat 12 (fieldAt e 30 2) &&& c.headMask, userTag := BitVec.ofNat 32 (fieldAt e 32 4) }

/-- The base that a CREATE asks for, or the lowest free one. -/
def Chip.createBase (c : Chip) (e : CmdEntry) : Option Nat :=
  if bit (flagsOf e) 2 then c.autoBase (boolNat (bit (objOf e) 20)) (fieldAt e 24 4) else some (fieldAt e 16 8 / 2 ^ 21)

section
variable {c : Chip} {id : Nat} {e : CmdEntry} (hhalf : boolNat (bit (objOf e) 20) = c.pos)
include hhalf

/-- CREATE of an object of this chip's half, outcome by outcome in the order of its checks (02 R59). -/
theorem Chip.runCreate_outcomes :
    (bit (flagsOf e) 0 = true → c.paired = false → c.runCreate id e = c.finish id stNotPaired) ∧
    ((bit (flagsOf e) 0 = true → c.paired = true) →
      (c.sec.sanitizing = true ∨ c.sec.peerErasing = true → c.runCreate id e = c.finish id stRetry) ∧
      (c.sec.sanitizing = false → c.sec.peerErasing = false →
        (c.createBase e = none → c.runCreate id e = c.finish id stOverlap) ∧
        ∀ b, c.createBase e = some b →
          (c.overlaps b (fieldAt e 24 4) none = true → c.runCreate id e = c.finish id stOverlap) ∧
          (c.overlaps b (fieldAt e 24 4) none = false →
            (c.capacity (fieldAt e 29 1) (fieldAt e 24 4) (bit (flagsOf e) 0) = false → c.runCreate id e = c.finish id stNoCapacity) ∧
            (c.capacity (fieldAt e 29 1) (fieldAt e 24 4) (bit (flagsOf e) 0) = true →
              (c.freeId (boolNat (bit (objOf e) 20)) = none → c.runCreate id e = c.finish id stNoId) ∧
              ∀ i, c.freeId (boolNat (bit (objOf e) 20)) = some i →
                (∀ st, c.needKey (BitVec.ofNat 8 (fieldAt e 28 1)) = .status st → c.runCreate id e = c.finish id st) ∧
                (c.needKey (BitVec.ofNat 8 (fieldAt e 28 1)) = .wait → c.runCreate id e =
                  (c.onCmd id fun r => { r with waits := true }).sendTwin (.tableUpdate (.wantKey (BitVec.ofNat 8 (fieldAt e 28 1))))) ∧
                ∀ d, c.needKey (BitVec.ofNat 8 (fieldAt e 28 1)) = .ready d → c.runCreate id e =
                  ((d.putObj i (d.createdObj e b)).takeSlots b (fieldAt e 29 1) (fieldAt e 24 4)).finish id stOk 0 [(16, 8, b * 2 ^ 21)] (some i))))) := by
  unfold Chip.runCreate
  extract_lets half fl mirror n sg tag base
  have hbase : base = c.createBase e := rfl
  clear_value base
  subst hbase
  have hh : (half != c.pos) = false := by simpa using hhalf
  rw [hh, Bool.or_false]
  refine ⟨fun hm hp => if_pos (by simp [fl, mirror, hm, hp]), fun hm => ?_⟩
  rw [if_neg (show ¬ (mirror && !c.paired) = true by simpa using hm)]
  refine ⟨fun h => if_pos (by simpa using h), fun hsan herase => ?_⟩
  rw [if_neg (by simp [hsan, herase])]
  refine ⟨fun hb => by rw [hb], fun b hb => ?_⟩
  rw [hb]
  refine ⟨fun ho => if_pos ho, fun ho => ?_⟩
  dsimp only
  rw [if_neg (show ¬ c.overlaps b n none = true by simpa using ho)]
  refine ⟨fun hc => if_pos (by simpa using hc), fun hc => ?_⟩
  rw [if_neg (show ¬ (!c.capacity sg n mirror) = true by simpa using hc)]
  refine ⟨fun hf => by rw [show c.freeId half = none from hf], fun i hf => ?_⟩
  rw [show c.freeId half = some i from hf]
  exact ⟨fun st hk => by rw [show c.needKey tag = _ from hk], fun hk => by rw [show c.needKey tag = _ from hk],
    fun d hk => by rw [show c.needKey tag = _ from hk]; rfl⟩

end

/-! ### What a CREATE leaves -/

/-- A CREATE whose key is at hand makes its object, and no other changes. -/
theorem Chip.created {c d : Chip} {id b i : Nat} {path : CmdPath} {e : CmdEntry} (hn : c.cmd c.obj.nextCmd = none) (hid : c.obj.nextCmd = id)
    (hd : (c.begun path e).Flows [.sec, .outs] d) :
    let t := ((d.putObj i (d.createdObj e b)).takeSlots b (fieldAt e 29 1) (fieldAt e 24 4)).finish id stOk 0 [(16, 8, b * 2 ^ 21)] (some i)
    t.obj.table.find i = some (c.createdObj e b) ∧ (∀ k, k ≠ i → t.obj.table.find k = c.obj.table.find k) ∧ t.sec = d.sec ∧
      t.answered id path e stOk 0 [(16, 8, b * 2 ^ 21)] i ∧ c.keepsBut [.obj, .cache, .med, .sec, .outs] t := by
  subst hid
  intro t
  have hobj : ((d.putObj i (d.createdObj e b)).takeSlots b (fieldAt e 29 1) (fieldAt e 24 4)).obj =
      { (c.begun path e).obj with table := c.obj.table.put i (c.createdObj e b) } := by
    rw [Chip.takeSlots_obj, Chip.putObj_obj, hd.keeps.obj_eq]
    unfold Chip.createdObj Chip.headMask
    rw [hd.keeps.id_eq]
    rfl
  have hflow : d.Flows [.obj, .cache, .med, .outs] t := (Chip.Flows.refl d).putObj.takeSlots.finish
  have hcmd : ((d.putObj i (d.createdObj e b)).takeSlots b (fieldAt e 29 1) (fieldAt e 24 4)).cmd c.obj.nextCmd =
      some (begunCmd c.obj.nextCmd path e 0 0) := by
    rw [show ∀ x : Chip, x.cmd c.obj.nextCmd = x.obj.cmds.find? (fun r => decide (r.id = c.obj.nextCmd)) from fun _ => rfl, hobj]
    exact Chip.cmd_begun hn 0 0
  have htable : t.obj.table = c.obj.table.put i (c.createdObj e b) := by
    rw [show t.obj = _ from Chip.finish_obj .., hobj]
  refine ⟨?_, fun k hk => ?_, hflow.keeps.sec_eq, ?_, ?_⟩
  · rw [htable, SMap.find_put_self]
  · rw [htable, SMap.find_put_of_ne _ _ hk]
  · simpa only [Option.getD_some] using Chip.finish_answers (path := path) (e := e) hcmd rfl rfl stOk 0 [(16, 8, b * 2 ^ 21)] (some i)
  · exact Chip.keepsBut_trans (Chip.keepsBut_mono (c.begun_keeps path e 0 0) (by decide))
      (Chip.keepsBut_trans (Chip.keepsBut_mono hd.keeps (by decide)) (Chip.keepsBut_mono hflow.keeps (by decide)))

/-- A CREATE whose key comes from the partner waits for it, and has asked for it. -/
theorem Chip.wants_key {c : Chip} {path : CmdPath} {e : CmdEntry} {tag : Tag} (hn : c.cmd c.obj.nextCmd = none) (hl : c.linkReady = true) :
    let t := ((c.begun path e).onCmd c.obj.nextCmd fun r => { r with waits := true }).sendTwin (.tableUpdate (.wantKey tag))
    (∃ r, t.cmd c.obj.nextCmd = some r ∧ r.entry = e ∧ r.waits = true ∧ r.result = none) ∧ c.told t (.tableUpdate (.wantKey tag)) ∧
      c.keepsBut [.obj, .outs] t := by
  intro t
  let w := (c.begun path e).onCmd c.obj.nextCmd fun r => { r with waits := true }
  have hw : (c.begun path e).Flows [.obj] w := (Chip.Flows.refl (l := [.obj]) (c.begun path e)).onCmd
  have ht : w.Flows [.outs] t := (Chip.Flows.refl (l := [.outs]) w).sendTwin
  refine ⟨⟨{ begunCmd c.obj.nextCmd path e 0 0 with waits := true }, ?_, rfl, rfl, rfl⟩, ?_, ?_⟩
  · rw [Chip.cmd_of_obj ht.keeps.obj_eq]
    exact Eq.trans (Chip.cmd_onCmd_same fun _ => rfl) (congrArg _ (Chip.cmd_begun hn 0 0))
  · exact Chip.told_sendTwin (a := c) (c := w) List.prefix_rfl (show w.linkReady = true from hl) (.tableUpdate (.wantKey tag)) 0 0 0 false false false
  · exact Chip.keepsBut_trans (Chip.keepsBut_mono (c.begun_keeps path e 0 0) (by decide))
      (Chip.keepsBut_trans (Chip.keepsBut_mono hw.keeps (by decide)) (Chip.keepsBut_mono ht.keeps (by decide)))

end Sys2Proof.Machine

open Sys2Proof Sys2Proof.Machine

/-- Settles O24. The checks of CREATE are met in order; the one that passes them all has its key or waits for it. -/
theorem createObject : Obligations.CreateObject := by
  intro s path entry e id half mirror n tag base ends ha hhalf hwaits
  have hop : opcodeOf e = 0x01 := opcodeOf_asOp (by decide) entry
  have hi : exec (.create path entry) s = s.onChip fun c => c.command path e := rfl
  clear_value e
  have hn : s.chip.cmd s.chip.obj.nextCmd = none := ha.2.2.2.2
  have hrun : s.chip.command path e = (s.chip.begun path e).runCreate id e :=
    (Chip.command_admitted hn (by rw [hop]; rfl) ha).1 hop hwaits
  obtain ⟨hmir, hrest⟩ := Chip.runCreate_outcomes (c := s.chip.begun path e) (id := id) (e := e) hhalf
  have hend {st : Nat} (h : (s.chip.begun path e).runCreate id e = (s.chip.begun path e).finish id st) : ends st :=
    completes_refused hi hn (hrun.trans h)
  refine ⟨fun hm hp => hend (hmir hm hp), fun hm => ?_⟩
  obtain ⟨hbusy, hrest⟩ := hrest hm
  refine ⟨fun hb => hend (hbusy hb), fun hsan herase => ?_⟩
  obtain ⟨hnone, hrest⟩ := hrest hsan herase
  refine ⟨fun hb => hend (hnone hb), fun b hb => ?_⟩
  obtain ⟨hover, hrest⟩ := hrest b hb
  refine ⟨fun ho => hend (hover ho), fun ho => ?_⟩
  obtain ⟨hcap, hrest⟩ := hrest ho
  refine ⟨fun hc => hend (hcap hc), fun hc => ?_⟩
  obtain ⟨hnoid, hrest⟩ := hrest hc
  refine ⟨fun hf => hend (hnoid hf), fun i hf => ?_⟩
  obtain ⟨hstatus, hwait, hready⟩ := hrest i hf
  refine ⟨fun hk => hend (hstatus _ (Chip.needKey_erasing hk)), fun hk hpair hpos => ?_, fun hk => ?_⟩
  · have hlink : s.chip.linkReady = true := by
      simpa [Chip.pairWaits, changesTables, hop, Chip.paired, hpair] using hwaits
    obtain ⟨hcmd, htold, hkeeps⟩ := Chip.wants_key (path := path) (e := e) (tag := tag) hn hlink
    refine .of_onChip hi (hrun.trans (hwait (Chip.needKey_waits hk hpair hpos))) ⟨?_, Chip.told_ended htold, Chip.keepsBut_ended hkeeps⟩
    rw [Chip.cmd_of_obj (Chip.ended_obj ..)]
    exact hcmd
  · obtain ⟨d, hneed, hstate, hd⟩ := Chip.needKey_ready (c := s.chip.begun path e) hk
    obtain ⟨hobj, hothers, hsec, hans, hkeeps⟩ := Chip.created (b := b) (i := i) hn rfl hd
    refine .of_onChip hi (hrun.trans (hready d hneed)) ⟨?_, fun k hk => ?_, ?_, Chip.answered_ended hans, Chip.keepsBut_ended hkeeps⟩
    · rw [Chip.ended_obj]; exact hobj
    · rw [Chip.ended_obj]; exact hothers k hk
    · unfold Chip.tagState at hstate ⊢
      rw [Chip.ended_sec, hsec]
      exact hstate
end

section
/-! QUERY and SET_ATTR (02 R53, R55, R58, R76; 12 R325): the values a QUERY answers, and the object that a SET_ATTR leaves. -/

namespace Sys2Proof.Machine

set_option Elab.async false

/-! ### What a change of the table leaves of the medium -/

theorem Chip.tableChanged_med (c : Chip) : c.tableChanged.med = { c.med with tableGen := c.med.tableGen + 1 } := by
  unfold Chip.tableChanged
  exact (Chip.Flows.foldl (Chip.Flows.refl (l := [.cache]) _) fun _ _ h => h.ite h.addOp).keeps.med_eq

theorem Chip.putObj_med (c : Chip) (i : Nat) (o : Obj) : (c.putObj i o).med = { c.med with tableGen := c.med.tableGen + 1 } := by
  unfold Chip.putObj
  exact ((Chip.Flows.refl (l := [.cache, .outs]) _).sendTwin.descInval.keeps.med_eq).trans (Chip.tableChanged_med _)

theorem Chip.objGrans_putObj (c : Chip) (i : Nat) (x o : Obj) : (c.putObj i x).objGrans o = c.objGrans o := by
  unfold Chip.objGrans
  rw [Chip.putObj_med]

theorem mem_insertNat_of_mem {l : List Nat} {x : Nat} (h : x ∈ l) (y : Nat) : x ∈ insertNat l y := by
  induction l with
  | nil => cases h
  | cons z r ih =>
    unfold insertNat
    grind

/-- Granules marked stale are stale. -/
theorem Chip.stale_marked (gs : List Nat) (c : Chip) : ∀ g, g ∈ c.med.stale ∨ g ∈ gs → g ∈ (gs.foldl (fun c g => c.markStale g) c).med.stale := by
  induction gs generalizing c with
  | nil => simp
  | cons x r ih =>
    intro g hg
    refine ih (c.markStale x) g ?_
    rcases hg with hg | hg
    · exact .inl (mem_insertNat_of_mem hg x)
    · rcases List.mem_cons.1 hg with rfl | hg
      · exact .inl (mem_insertNat_self _ _)
      · exact .inr hg

/-! ### The object that a SET_ATTR leaves -/

/-- BYPASS, HEADS and USER_TAG of an object as the flags of the entry select them. -/
def Chip.attrsNow (c : Chip) (e : CmdEntry) (o x : Obj) : Obj :=
  { x with bypass := if bit (flagsOf e) 0 then bit (fieldAt e 16 1) 1 else o.bypass
           heads := if bit (flagsOf e) 2 then BitVec.ofNat 12 (fieldAt e 30 2) &&& c.headMask else o.heads
           userTag := if bit (flagsOf e) 3 then BitVec.ofNat 32 (fieldAt e 32 4) else o.userTag }

/-- The granules given are no longer those of a mirrored object: nothing is kept of the partner's copies, and a frame with a change
that no copy holds is held once. -/
def Chip.joinCopies (c : Chip) (o : Obj) (gs : List Nat) : Chip :=
  (gs.foldl (fun c g => c.onMed fun m => { m with stale := m.stale.erase g, peerSlots := m.peerSlots.del g }) c).onCache fun k =>
    { k with frames := k.frames.map (fun p =>
        if decide (objFirst o ≤ p.2.seg ∧ p.2.seg < objFirst o + objSegs o ∧ p.2.dirty ≠ 0 ∧ p.2.peer = none) then (p.1, { p.2 with once := true }) else p) }

theorem Chip.joinCopies_flows (c : Chip) (o : Obj) (gs : List Nat) : c.Flows [.cache, .med] (c.joinCopies o gs) :=
  ((Chip.Flows.refl c).foldl fun _ _ h => h.onMed).onCache

/-- The key tag that an entry names. -/
def tagNamed (e : CmdEntry) : Tag := BitVec.ofNat 8 (fieldAt e 28 1)

section
variable {c : Chip} {id obj : Nat} {e : CmdEntry} {o : Obj}

section
variable (hkey : bit (flagsOf e) 1 = false ∨ (tagNamed e = o.keyTag ∧ o.oldKeyTag = none))
include hkey

theorem key_stays : (bit (flagsOf e) 1 && tagNamed e != o.keyTag) = false ∧ (bit (flagsOf e) 1 && tagNamed e = o.keyTag && o.oldKeyTag.isSome) = false := by
  rcases hkey with h | ⟨htag, hold⟩
  · simp [h]
  · simp [htag, hold]

/-- The key stays, and MIRROR is not asked for. -/
theorem Chip.runSetAttr_plain (hm : bit (flagsOf e) 4 = false) :
    c.runSetAttr id e obj o = (c.putObj obj (c.attrsNow e o o)).finish id stOk := by
  unfold Chip.runSetAttr
  extract_lets fl tag newMirror rekey rest build rebuild unmirror go
  obtain ⟨hrekey, hrest⟩ : rekey = false ∧ rest = false := key_stays hkey
  have hbuild : build = false := by simp [build, fl, hm]
  have hrebuild : rebuild = false := by simp [rebuild, fl, hm]
  have hunmirror : unmirror = false := by simp [unmirror, fl, hm]
  simp [go, hrekey, hrest, hbuild, hrebuild, hunmirror, Chip.attrsNow, fl, hm]

/-- MIRROR to 0 ends at once. -/
theorem Chip.runSetAttr_unmirror (hf : bit (flagsOf e) 4 = true) (hm : bit (fieldAt e 16 1) 0 = false) (ho : o.mirror = true) :
    c.runSetAttr id e obj o =
      ((c.putObj obj (c.attrsNow e o { o with mirror := false, mirrorBuild := false })).joinCopies o (c.objGrans o)).finish id stOk := by
  unfold Chip.runSetAttr
  extract_lets fl tag newMirror rekey rest build rebuild unmirror go
  obtain ⟨hrekey, hrest⟩ : rekey = false ∧ rest = false := key_stays hkey
  have hbuild : build = false := by simp [build, newMirror, hm]
  have hrebuild : rebuild = false := by simp [rebuild, newMirror, hm]
  have hunmirror : unmirror = true := by simp [unmirror, fl, newMirror, hf, hm, ho]
  simp [go, hrekey, hrest, hbuild, hrebuild, hunmirror, Chip.attrsNow, Chip.joinCopies, Chip.objGrans_putObj, fl, newMirror, hf, hm]

/-- MIRROR to 1. -/
theorem Chip.runSetAttr_mirror (hf : bit (flagsOf e) 4 = true) (hm : bit (fieldAt e 16 1) 0 = true) (ho : o.mirror = false) :
    (c.paired = false → c.runSetAttr id e obj o = c.finish id stNotPaired) ∧
    (c.paired = true → o.granules ≤ (if o.sgroup = 0xFF then (c.groupNos.map c.peerFree).sum else c.peerFree o.sgroup.toNat) →
      let d := (c.objGrans o).foldl (fun c g => c.markStale g) (c.putObj obj (c.attrsNow e o { o with mirror := true, mirrorBuild := true }))
      c.runSetAttr id e obj o = d.enqueue (some id) obj .mirrorBuild 0xFF (c.objGrans o)) := by
  unfold Chip.runSetAttr
  extract_lets fl tag newMirror rekey rest build rebuild unmirror go d
  obtain ⟨hrekey, hrest⟩ : rekey = false ∧ rest = false := key_stays hkey
  have hbuild : build = true := by simp [build, fl, newMirror, hf, hm, ho]
  have hunmirror : unmirror = false := by simp [unmirror, newMirror, hm]
  simp only [go, hrekey, hrest, hbuild, hunmirror]
  refine ⟨fun hp => by simp [hp], fun hp hroom => ?_⟩
  have hcap : c.capacity o.sgroup.toNat 0 false = true := by simp [Chip.capacity]
  rw [if_neg (by simp [hp]), if_neg (by simp [hcap]), if_neg (by simpa using hroom)]
  simp [d, Chip.objGrans_putObj, Chip.attrsNow, fl, newMirror, hf, hm]

end

/-- A new key tag that is LOADED. -/
theorem Chip.runSetAttr_rekey (hk : bit (flagsOf e) 1 = true) (hm : bit (flagsOf e) 4 = false) (ht : tagNamed e ≠ o.keyTag) (hl : c.tagState (tagNamed e) = .loaded) :
    let x := c.attrsNow e o { o with keyTag := tagNamed e, oldKeyTag := some o.keyTag, olderTags := o.oldKeyTag.toList ++ o.olderTags }
    c.runSetAttr id e obj o = ((c.putObj obj x).enqueue (some id) obj .rekey 0xFF (c.objGrans o)).rekeyPeer obj x := by
  intro x
  unfold Chip.runSetAttr
  extract_lets fl tag newMirror rekey rest build rebuild unmirror go
  have hrekey : rekey = true := by simp [rekey, fl, hk, show tag ≠ o.keyTag from ht]
  have hbuild : build = false := by simp [build, fl, hm]
  have hrebuild : rebuild = false := by simp [rebuild, fl, hm]
  have hunmirror : unmirror = false := by simp [unmirror, fl, hm]
  have hneed : c.needKey tag = .ready c := Chip.needKey_loaded hl
  simp [go, hrekey, hbuild, hrebuild, hunmirror, hneed, Chip.objGrans_putObj, fl, hm, x, Chip.attrsNow, tag, tagNamed]

end

/-! ### QUERY -/

/-- QUERY by identifier. -/
theorem Chip.runQuery_byId {c : Chip} {id : Nat} {e : CmdEntry} (h : bit (flagsOf e) 0 = false) :
    (c.obj.table.find (objOf e) = none → c.runQuery id e = c.finish id stNoObject) ∧
    ∀ o, c.obj.table.find (objOf e) = some o → (bit (flagsOf e) 31 = true → o.userTag = BitVec.ofNat 32 (fieldAt e 56 4)) →
      c.runQuery id e = c.finish id stOk 0 (c.queryValues (objOf e) o) (some (objOf e)) := by
  unfold Chip.runQuery
  rw [h]
  refine ⟨fun hnone => by simp [hnone], fun o ho htag => ?_⟩
  have hmatch : (bit (flagsOf e) 31 && o.userTag != BitVec.ofNat 32 (fieldAt e 56 4)) = false := by simpa using htag
  simp only [Bool.false_eq_true, if_false, ho, Option.map_some, hmatch]

/-! ### What a SET_ATTR leaves -/

theorem spanOf_whole {e : CmdEntry} (h : opcodeOf e < 0x10) (o : Obj) : spanOf e o = (objFirst o, objSegs o) := by
  unfold spanOf
  dsimp only
  split
  case h_7 => rfl
  all_goals omega

theorem Chip.putObj_flows (c : Chip) (i : Nat) (o : Obj) : c.Flows tableGrps (c.putObj i o) := (Chip.Flows.refl c).putObj

/-- The object of a table changes, and no other. -/
theorem Chip.table_put {c d : Chip} {i : Nat} {o : Obj} (h : d.obj.table = c.obj.table.put i o) :
    d.obj.table.find i = some o ∧ ∀ k, k ≠ i → d.obj.table.find k = c.obj.table.find k := by
  rw [h]
  exact ⟨SMap.find_put_self .., fun k hk => SMap.find_put_of_ne _ _ hk⟩

/-- The partner's part of a new key leaves the table and the commands. -/
theorem Chip.rekeyPeer_obj (c : Chip) (i : Nat) (o : Obj) :
    (c.rekeyPeer i o).obj.table = c.obj.table ∧ (c.rekeyPeer i o).obj.cmds = c.obj.cmds := by
  unfold Chip.rekeyPeer
  split
  · exact ⟨rfl, rfl⟩
  · extract_lets d
    have hd : (if d.paired then d else d.staleRange (objFirst o) (objSegs o)).obj = d.obj :=
      ((Chip.Flows.refl (l := [.med]) d).ite (Chip.Flows.refl (l := [.med]) d).staleRange).keeps.obj_eq
    rw [hd]
    exact ⟨rfl, rfl⟩

theorem Chip.cmd_of_cmds {c d : Chip} (h : d.obj.cmds = c.obj.cmds) (id : Nat) : d.cmd id = c.cmd id := by
  unfold Chip.cmd
  rw [h]

/-- A command in flight that ends is answered. -/
theorem Chip.answered_finish {c d : Chip} {path : CmdPath} {e : CmdEntry} {o : Obj} (hn : c.cmd c.obj.nextCmd = none)
    (h : d.cmd c.obj.nextCmd = (c.atWork path e o).cmd c.obj.nextCmd) (st detail : Nat) (vals : List (Nat × Nat × Nat)) :
    (d.finish c.obj.nextCmd st detail vals).answered c.obj.nextCmd path e st detail vals := by
  have hcmd : d.cmd c.obj.nextCmd = some (begunCmd c.obj.nextCmd path e (spanOf e o).1 (spanOf e o).2) := h.trans (Chip.cmd_begun hn ..)
  simpa only [Option.getD_none] using Chip.finish_answers (path := path) (e := e) hcmd rfl rfl st detail vals none

section
variable {s : State} {i : Instr} {path : CmdPath} {e : CmdEntry} {o x : Obj} (hi : exec i s = s.onChip fun c => c.command path e)
  (hn : s.chip.cmd s.chip.obj.nextCmd = none)

theorem Chip.atWork_keeps (c : Chip) (path : CmdPath) (e : CmdEntry) (o : Obj) : c.keepsBut [.obj] (c.atWork path e o) := c.begun_keeps _ _ _ _

/-- The frame of a change that a command makes as it starts. -/
theorem Chip.atWork_flows {l : List Grp} {c d : Chip} (hd : (c.atWork path e o).Flows l d) (hl : Grp.obj ∈ l := by decide) : c.keepsBut l d :=
  Chip.keepsBut_trans (Chip.keepsBut_mono (c.atWork_keeps path e o) fun _ hg => List.mem_singleton.1 hg ▸ hl) hd.keeps

include hi hn

/-- A command that ends as it starts leaves what it did before it ended. -/
theorem completes_done {l : List Grp} {d : Chip} (hd : (s.chip.atWork path e o).Flows l d)
    (hcmd : d.cmd s.chip.obj.nextCmd = (s.chip.atWork path e o).cmd s.chip.obj.nextCmd) {st detail : Nat} {vals : List (Nat × Nat × Nat)}
    (hw : s.chip.command path e = d.finish s.chip.obj.nextCmd st detail vals) (hl : Grp.obj ∈ l := by decide) : Completes i s fun c =>
      c.answered s.chip.obj.nextCmd path e st detail vals ∧ c.obj = { d.obj with cmds := c.obj.cmds } ∧ s.chip.keepsBut l c := by
  refine .of_onChip hi hw ⟨Chip.answered_ended (Chip.answered_finish hn hcmd ..), ?_, Chip.keepsBut_ended (Chip.atWork_flows (hd.finish hl) hl)⟩
  rw [Chip.ended_obj]
  exact Chip.finish_obj ..

/-- A command that changes an object and ends at once. -/
theorem completes_changed {d : Chip} (hd : ((s.chip.atWork path e o).putObj (objOf e) x).Flows [.cache, .med, .outs] d) {vals : List (Nat × Nat × Nat)}
    (hw : s.chip.command path e = d.finish s.chip.obj.nextCmd stOk 0 vals) :
    Completes i s fun c => (c.obj.table.find (objOf e) = some x ∧ ∀ k, k ≠ objOf e → c.obj.table.find k = s.chip.obj.table.find k) ∧
      c.answered s.chip.obj.nextCmd path e stOk 0 vals ∧ s.chip.keepsBut [.obj, .cache, .med, .outs] c := by
  have hobj : d.obj = { (s.chip.atWork path e o).obj with table := s.chip.obj.table.put (objOf e) x } := by
    rw [hd.keeps.obj_eq, Chip.putObj_obj]
    rfl
  have hflows : (s.chip.atWork path e o).Flows [.obj, .cache, .med, .outs] d := ((Chip.putObj_flows ..).mono).trans hd.mono
  refine (completes_done hi hn hflows (Chip.cmd_of_cmds (by rw [hobj]) _) hw).imp fun c ⟨hans, hc, hk⟩ => ⟨Chip.table_put ?_, hans, hk⟩
  rw [hc, hobj]

/-- A command that changes an object and hands granules of it to the dolly goes on. -/
theorem completes_queued {d f : Chip} {kind : MoveKind} {gs : List Nat} (hop : opcodeOf e < 0x10) (hw : s.chip.command path e = f)
    (hd : ((s.chip.atWork path e o).putObj (objOf e) x).Flows [.med] d)
    (hf : (d.enqueue (some s.chip.obj.nextCmd) (objOf e) kind 0xFF gs).Flows [.obj, .med] f) (htable : f.obj.table = d.obj.table)
    (hcmds : f.obj.cmds = d.obj.cmds) :
    Completes i s fun c => (c.obj.table.find (objOf e) = some x ∧ ∀ k, k ≠ objOf e → c.obj.table.find k = s.chip.obj.table.find k) ∧
      (c.working s.chip.obj.nextCmd path e (objFirst o) (objSegs o) ∧ s.chip.keepsBut [.obj, .cache, .med, .dolly, .outs] c ∧
        c.dolly = { s.chip.dolly with queue := s.chip.dolly.queue ++ gs.map fun g =>
          { cmd := some s.chip.obj.nextCmd, obj := objOf e, gran := g, kind := kind, group := 0xFF } }) ∧ c.med = f.med := by
  have hput := Chip.putObj_flows (s.chip.atWork path e o) (objOf e) x
  have hobj : d.obj = { (s.chip.atWork path e o).obj with table := s.chip.obj.table.put (objOf e) x } := by
    rw [hd.keeps.obj_eq, Chip.putObj_obj]
    rfl
  have hwork : f.working s.chip.obj.nextCmd path e (objFirst o) (objSegs o) := by
    refine ⟨begunCmd s.chip.obj.nextCmd path e (spanOf e o).1 (spanOf e o).2, ?_, rfl, rfl, rfl, ?_, ?_⟩
    · unfold Chip.cmd
      rw [hcmds, hobj]
      exact Chip.cmd_begun hn ..
    · rw [spanOf_whole hop]; rfl
    · rw [spanOf_whole hop]; rfl
  have hflows : (s.chip.atWork path e o).Flows [.obj, .cache, .med, .dolly, .outs] f := ((hput.mono.trans hd.mono).enqueue).trans hf.mono
  refine .of_onChip hi hw ⟨?_, ⟨Chip.working_ended hwork, Chip.keepsBut_ended (Chip.atWork_flows hflows), ?_⟩, Chip.ended_med ..⟩
  · rw [Chip.ended_obj]
    exact Chip.table_put (by rw [htable, hobj])
  · have hdolly : d.dolly = s.chip.dolly := hd.keeps.dolly_eq.trans hput.keeps.dolly_eq
    rw [Chip.ended_dolly, hf.keeps.dolly_eq, Chip.enqueue, Chip.onDolly, hdolly]

end

end Sys2Proof.Machine

open Sys2Proof Sys2Proof.Machine

/-- Settles O26. QUERY reads the table; SET_ATTR writes the entry of its object and hands the granules that a new key or a new mirror
concerns to the dolly. -/
theorem queryAndAttributes : Obligations.QueryAndAttributes := by
  intro s path entry id
  refine ⟨?_, fun o => ?_⟩
  · intro e ha hflag
    have hop : opcodeOf e = 0x04 := opcodeOf_asOp (by decide) entry
    have hi : exec (.query path entry) s = s.onChip fun c => c.command path e := rfl
    clear_value e
    have hn : s.chip.cmd s.chip.obj.nextCmd = none := ha.2.2.2.2
    have hrun : s.chip.command path e = (s.chip.begun path e).runQuery id e := (Chip.command_admitted hn (by rw [hop]; rfl) ha).2.1 hop
    obtain ⟨hnone, hsome⟩ := Chip.runQuery_byId (c := s.chip.begun path e) (id := id) hflag
    refine ⟨fun ho => completes_refused hi hn (hrun.trans (hnone ho)), fun o ho htag => ?_⟩
    have hvals : (s.chip.begun path e).queryValues (objOf e) o = s.chip.queryValues (objOf e) o := rfl
    have hdone := completes_finish_of hi hn (hrun.trans (hsome o ho htag))
    rw [hvals, Option.getD_some] at hdone
    exact hdone
  · intro e fl tag newMirror now becomes queued hruns
    have hop : opcodeOf e = 0x03 := opcodeOf_asOp (by decide) entry
    have hi : exec (.setAttr path entry) s = s.onChip fun c => c.command path e := rfl
    clear_value e
    have hn : s.chip.cmd s.chip.obj.nextCmd = none := hruns.1.2.2.2.2
    have hrun : s.chip.command path e = (s.chip.atWork path e o).runSetAttr id e (objOf e) o :=
      (Chip.command_works (by rw [hop]; rfl) hruns).2.1 hop
    have hlow : opcodeOf e < 0x10 := by rw [hop]; decide
    refine ⟨fun hkey => ⟨fun hm => ?_, fun hf hm ho => ?_, fun hf hm ho => ?_⟩, fun hk hm ht hl => ?_⟩
    · exact completes_changed hi hn (.refl _) (hrun.trans (Chip.runSetAttr_plain hkey hm))
    · exact completes_changed hi hn (Chip.joinCopies_flows ..).mono (hrun.trans (Chip.runSetAttr_unmirror hkey hf hm ho))
    · obtain ⟨hunpaired, hpaired⟩ := Chip.runSetAttr_mirror (c := s.chip.atWork path e o) (id := id) (obj := objOf e) hkey hf hm ho
      refine ⟨fun hp => completes_refused hi hn (hrun.trans (hunpaired hp)), fun hp hroom => ?_⟩
      refine (completes_queued (f := Chip.enqueue _ _ _ _ _ _) hi hn hlow (hrun.trans (hpaired hp hroom))
        ((Chip.Flows.refl _).foldl fun _ _ h => h.markStale) (.refl _) rfl rfl).imp fun c ⟨hc, hq, hmed⟩ => ⟨hc, hq, fun g hg => ?_⟩
      rw [hmed]
      exact Chip.stale_marked _ _ g (.inr hg)
    · obtain ⟨htable, hcmds⟩ := Chip.rekeyPeer_obj (((s.chip.atWork path e o).putObj (objOf e) ((s.chip.atWork path e o).attrsNow e o
        { o with keyTag := tagNamed e, oldKeyTag := some o.keyTag, olderTags := o.oldKeyTag.toList ++ o.olderTags })).enqueue (some id)
          (objOf e) .rekey 0xFF (s.chip.objGrans o)) (objOf e) ((s.chip.atWork path e o).attrsNow e o
        { o with keyTag := tagNamed e, oldKeyTag := some o.keyTag, olderTags := o.oldKeyTag.toList ++ o.olderTags })
      exact (completes_queued hi hn hlow (hrun.trans (Chip.runSetAttr_rekey hk hm ht hl)) (.refl _) (Chip.Flows.rekeyPeer (.refl _)) htable
        hcmds).imp fun c ⟨hc, hq, _⟩ => ⟨hc, hq⟩
end

section
/-! MOVE, PIN, UNPIN, PROMOTE and EVICT as they start (02 R438; 04 R111, R131; 08 R223, R234, R235). -/

namespace Sys2Proof.Machine

set_option Elab.async false

/-! ### A command at work -/

/-- Two commands with one path, entry, result and range. -/
def RunCmd.sameWork (r x : RunCmd) : Prop := r.path = x.path ∧ r.entry = x.entry ∧ r.result = x.result ∧ r.first = x.first ∧ r.count = x.count

section
variable {s : State} {i : Instr} {path : CmdPath} {e : CmdEntry} {o : Obj}

/-- A command in flight that was changed as it started, in what `working` does not look at. -/
theorem Chip.working_of_begun {c d : Chip} (hn : c.cmd c.obj.nextCmd = none) (f : RunCmd → RunCmd)
    (hf : (f (begunCmd c.obj.nextCmd path e (spanOf e o).1 (spanOf e o).2)).sameWork (begunCmd c.obj.nextCmd path e (spanOf e o).1 (spanOf e o).2))
    (h : d.cmd c.obj.nextCmd = ((c.atWork path e o).cmd c.obj.nextCmd).map f) : d.working c.obj.nextCmd path e (spanOf e o).1 (spanOf e o).2 := by
  rw [show (c.atWork path e o).cmd c.obj.nextCmd = _ from Chip.cmd_begun hn _ _] at h
  obtain ⟨hpath, hentry, hresult, hfirst, hcount⟩ := hf
  exact ⟨_, h, hpath, hentry, hresult, hfirst, hcount⟩

theorem Chip.working_of_obj {c d : Chip} (hn : c.cmd c.obj.nextCmd = none) (h : d.obj = (c.atWork path e o).obj) :
    d.working c.obj.nextCmd path e (spanOf e o).1 (spanOf e o).2 :=
  Chip.working_of_begun hn (fun r => r) ⟨rfl, rfl, rfl, rfl, rfl⟩ (by rw [Chip.cmd_of_obj h, Option.map_id_fun']; rfl)

end

/-! ### MOVE -/

/-- What waits for the dolly when granules are handed to it. -/
def movesOf (cmd : Option Nat) (obj : Nat) (kind : Nat → MoveKind) (group : Nat) (gs : List Nat) : List Queued :=
  gs.map fun g => { cmd := cmd, obj := obj, gran := g, kind := kind g, group := group }

/-- Granules handed to the dolly one by one wait in that order. -/
theorem Chip.enqueue_each (gs : List Nat) (c : Chip) (cmd : Option Nat) (obj : Nat) (kind : Nat → MoveKind) (group : Nat) :
    gs.foldl (fun c g => c.enqueue cmd obj (kind g) group [g]) c =
      c.onDolly fun d => { d with queue := d.queue ++ movesOf cmd obj kind group gs } := by
  induction gs generalizing c with
  | nil => simp [Chip.onDolly, movesOf]
  | cons g r ih =>
    rw [List.foldl_cons, ih]
    simp [Chip.enqueue, Chip.onDolly, movesOf]

/-- The granules that a MOVE takes: those of its range. -/
def moveGrans (e : CmdEntry) (o : Obj) : List Nat :=
  (List.range ((o.base + ((rangeOf e o).1 + (rangeOf e o).2 + 511) / 512) - (o.base + (rangeOf e o).1 / 512))).map (· + (o.base + (rangeOf e o).1 / 512))

/-- A granule is not at the target of a MOVE. -/
def Chip.notThere (c : Chip) (t g : Nat) : Bool :=
  if t < 16 then !c.homeHere (512 * g) || decide ((c.med.slots.find g).map (·.group) ≠ some t)
  else c.homeHere (512 * g) || (t != 0x1F && decide ((c.med.peerSlots.find g).map (·.group) ≠ some (t - 16)))

theorem spanOf_move {e : CmdEntry} {o : Obj} (h : opcodeOf e = 0x10) : spanOf e o = (512 * (o.base + (rangeOf e o).1 / 512),
    512 * (o.base + ((rangeOf e o).1 + (rangeOf e o).2 + 511) / 512 - (o.base + (rangeOf e o).1 / 512))) := by
  unfold spanOf
  simp only [h, objFirst, Prod.mk.injEq]
  omega

theorem mem_moveGrans {e : CmdEntry} {o : Obj} (h : opcodeOf e = 0x10) (g : Nat) :
    g ∈ moveGrans e o ↔ (spanOf e o).1 ≤ 512 * g ∧ 512 * g < (spanOf e o).1 + (spanOf e o).2 := by
  rw [spanOf_move h]
  simp only [moveGrans, List.mem_map, List.mem_range]
  constructor
  · rintro ⟨k, hk, rfl⟩
    omega
  · intro hg
    exact ⟨g - (o.base + (rangeOf e o).1 / 512), by omega, by omega⟩

section
variable {c : Chip} {id obj : Nat} {e : CmdEntry} {o : Obj}

/-- MOVE, outcome by outcome. -/
theorem Chip.runMove_outcomes (h : opcodeOf e = 0x10) : (16 ≤ fieldAt e 32 1 → c.paired = false → c.runMove id e obj o = c.finish id stNotPaired) ∧
    ((16 ≤ fieldAt e 32 1 → c.paired = true) → ∃ (done : Nat) (kind : Nat → MoveKind), c.runMove id e obj o =
      ((c.cmdSpan id (spanOf e o).1 (spanOf e o).2).onCmd id fun r => { r with done := done }).onDolly fun d =>
        { d with queue := d.queue ++ movesOf (some id) obj kind (fieldAt e 32 1) ((moveGrans e o).filter (c.notThere (fieldAt e 32 1))) }) := by
  rw [spanOf_move h]
  unfold Chip.runMove
  refine ⟨fun ht hp => by simp [ht, hp], fun hp => ?_⟩
  dsimp only
  rw [if_neg (by simpa using hp), Chip.enqueue_each]
  exact ⟨_, _, rfl⟩

end

/-! ### PIN and UNPIN -/

theorem Chip.frame_setFrame (c : Chip) (f g : Nat) (x : Frame) : (c.setFrame f x).frame g = if g = f then x else c.frame g := by
  unfold Chip.frame Chip.setFrame Chip.onCache
  dsimp only
  by_cases h : g = f
  · rw [if_pos h, h, SMap.find_put_self]
  · rw [if_neg h, SMap.find_put_of_ne _ _ h]
    rfl

/-- A frame not stored holds no segment. -/
theorem Chip.invisible_of_free {c : Chip} {f : Nat} (h : c.cache.frames.find f = none) : (c.frame f).kind.visible = false := by
  cases hv : (c.frame f).kind.visible with
  | false => rfl
  | true => rw [Chip.frame_stored hv] at h; cases h

section
variable {c d : Chip} {id seg : Nat}

/-- A frame taken for a pin move leaves the lookup of every segment. -/
theorem Chip.pinned_reserved {f : Nat} (h : c.cache.frames.find f = none) (x : Nat) :
    (c.setFrame f { seg := seg, kind := .pinFree }).pinned x = c.pinned x := by
  have hvis (g : Nat) : ((c.setFrame f { seg := seg, kind := .pinFree }).frame g).kind.visible = (c.frame g).kind.visible := by
    rw [Chip.frame_setFrame]
    split
    · next hg => rw [hg, Chip.invisible_of_free h]; rfl
    · rfl
  have hsame {g : Nat} (hg : (c.frame g).kind.visible = true) : (c.setFrame f { seg := seg, kind := .pinFree }).frame g = c.frame g := by
    rw [Chip.frame_setFrame, if_neg]
    rintro rfl
    rw [Chip.invisible_of_free h] at hg
    cases hg
  have hlookup : (c.setFrame f { seg := seg, kind := .pinFree }).lookup x = c.lookup x := by
    unfold Chip.lookup
    congr 1
    funext g
    rw [hvis]
    cases hv : (c.frame g).kind.visible with
    | false => rfl
    | true => rw [hsame hv]
  unfold Chip.pinned
  rw [hlookup]
  cases hx : c.lookup x with
  | none => rfl
  | some g => simp only [hsame (Chip.lookup_some hx).1]

/-- A segment reserved is pinned or has its pin move; what was pinned or moving stays so, and only the cache and the dolly change. -/
structure Chip.Reserved (c d : Chip) : Prop where
  flows : c.Flows [.cache, .dolly] d
  pinned : ∀ x, d.pinned x = c.pinned x
  pins : ∀ p ∈ c.dolly.pins, p ∈ d.dolly.pins
  lines : d.cache.lines = c.cache.lines

theorem Chip.Reserved.refl (c : Chip) : c.Reserved c := ⟨.refl c, fun _ => rfl, fun _ h => h, rfl⟩

theorem Chip.Reserved.trans {a : Chip} (h : a.Reserved c) (k : c.Reserved d) : a.Reserved d :=
  ⟨h.flows.trans k.flows, fun x => (k.pinned x).trans (h.pinned x), fun p hp => k.pins p (h.pins p hp), k.lines.trans h.lines⟩

theorem Chip.reservePin_some (h : c.reservePin id seg = some d) :
    c.Reserved d ∧ (c.pinned seg = true ∨ ∃ p ∈ d.dolly.pins, p.seg = seg ∧ p.into = true) := by
  unfold Chip.reservePin at h
  split at h
  next hp =>
    cases h
    refine ⟨.refl c, ?_⟩
    rcases Bool.or_eq_true_iff.1 hp with hp | hp
    · exact .inl hp
    · right
      simpa [Chip.pinning] using hp
  next =>
    obtain ⟨f, hf, rfl⟩ := Option.map_eq_some_iff.1 h
    have hfree : c.cache.frames.find f = none := by
      have := List.find?_some hf
      simpa [SMap.has] using this
    refine ⟨⟨((Chip.Flows.refl c).cacheOnly (Chip.CacheOnly.refl c).setFrame).onDolly, fun x => Chip.pinned_reserved hfree x, fun p hp => ?_, rfl⟩, .inr ?_⟩
    · exact List.mem_append_left _ hp
    · exact ⟨_, List.mem_append_right _ (List.mem_singleton_self _), rfl, rfl⟩

theorem Chip.reservePins_some {n : Nat} (h : c.reservePins id seg n = some d) :
    c.Reserved d ∧ ∀ k, k < n → c.pinned (seg + k) = true ∨ ∃ p ∈ d.dolly.pins, p.seg = seg + k ∧ p.into = true := by
  induction n generalizing c seg with
  | zero =>
    cases h
    exact ⟨.refl _, fun k hk => absurd hk (Nat.not_lt_zero k)⟩
  | succ n ih =>
    obtain ⟨b, hb, hd⟩ := Option.bind_eq_some_iff.1 h
    obtain ⟨hcb, hseg⟩ := Chip.reservePin_some hb
    obtain ⟨hbd, hrest⟩ := ih hd
    refine ⟨hcb.trans hbd, fun k hk => ?_⟩
    cases k with
    | zero => exact hseg.imp_right fun ⟨p, hp, hx⟩ => ⟨p, hbd.pins p hp, hx⟩
    | succ k =>
      have := hrest k (Nat.lt_of_succ_lt_succ hk)
      rw [hcb.pinned, Nat.add_right_comm] at this
      exact this

/-- A command at work is a change of the objects' part. -/
theorem Chip.atWork_onObj (c : Chip) (path : CmdPath) (e : CmdEntry) (o : Obj) : ∃ g, c.atWork path e o = c.onObj g := by
  unfold Chip.atWork Chip.begun
  exact ⟨_, rfl⟩

/-- The reservation does not look at the objects. -/
theorem Chip.reservePins_onObj (c : Chip) (g : Objects → Objects) (id seg n : Nat) :
    (c.onObj g).reservePins id seg n = (c.reservePins id seg n).map fun d => d.onObj g := by
  induction n generalizing c seg with
  | zero => rfl
  | succ n ih =>
    have hstep : (c.onObj g).reservePin id seg = (c.reservePin id seg).map fun d => d.onObj g := by
      unfold Chip.reservePin
      rw [show (c.onObj g).pinned seg = c.pinned seg from rfl, show (c.onObj g).pinning seg = c.pinning seg from rfl]
      split
      · rfl
      · rw [Option.map_map]
        rfl
    unfold Chip.reservePins
    rw [hstep]
    cases c.reservePin id seg with
    | none => rfl
    | some d => exact ih d (seg + 1)

end

/-- Descriptors go; frames and lines stay. -/
theorem Chip.descInval_frames (c : Chip) (obj : Nat) :
    (c.descInval obj).cache.frames = c.cache.frames ∧ (c.descInval obj).cache.lines = c.cache.lines := by
  have h := ((Chip.Flows.refl (l := [.outs]) (c.onCache fun k => { k with descs := k.descs.filter (fun d => d.obj != obj) })).sendTwin
    (b := .descInval obj) (line := 0) (tag := 0) (head := 0) (p := false) (q := false) (r := false)).keeps.cache_eq
  unfold Chip.descInval
  rw [h]
  exact ⟨rfl, rfl⟩

/-! ### PROMOTE -/

section
variable {c : Chip} {id : Nat}

/-- PROMOTE counts each segment it reaches. -/
theorem Chip.promoteOn_reaches {r : RunCmd} (n seg : Nat) (hr : c.cmd id = some r) (hdone : r.done ≤ r.next) :
    (∃ m, m ≤ r.next + n ∧ (c.promoteOn id seg n).cmd id = some { r with next := r.next + n, done := m }) ∧
      c.Flows [.obj, .cache, .ring] (c.promoteOn id seg n) := by
  induction n generalizing c seg r with
  | zero => exact ⟨⟨r.done, hdone, hr⟩, .refl c⟩
  | succ n ih =>
    unfold Chip.promoteOn
    have hp : c.Flows [.cache, .ring] (if c.written seg = 0 then (true, c) else ((c.bringIn seg 6).1.isSome, (c.bringIn seg 6).2)).2 := by
      split
      · exact .refl c
      · exact (Chip.Flows.refl c).bringIn
    generalize (if c.written seg = 0 then (true, c) else ((c.bringIn seg 6).1.isSome, (c.bringIn seg 6).2)) = p at hp
    obtain ⟨ok, d⟩ := p
    have hcmd : (d.onCmd id fun r => { r with next := r.next + 1, done := if ok then r.done + 1 else r.done }).cmd id =
        some { r with next := r.next + 1, done := if ok then r.done + 1 else r.done } := by
      rw [Chip.cmd_onCmd_same (by intro; rfl), Chip.cmd_of_obj hp.keeps.obj_eq, hr]
      rfl
    obtain ⟨⟨m, hm, hx⟩, hflows⟩ := ih (seg + 1) hcmd (by dsimp only; split <;> omega)
    refine ⟨⟨m, by dsimp only at hm; omega, ?_⟩, hp.mono.onCmd.trans hflows⟩
    rw [hx]
    dsimp only
    rw [Nat.add_right_comm, Nat.add_assoc]

end

/-! ### What each leaves -/

section
variable {s : State} {i : Instr} {path : CmdPath} {e : CmdEntry} {o : Obj} (hi : exec i s = s.onChip fun c => c.command path e)
  (hn : s.chip.cmd s.chip.obj.nextCmd = none)
include hi hn

theorem completes_move (hop : opcodeOf e = 0x10) (hw : s.chip.command path e = (s.chip.atWork path e o).runMove s.chip.obj.nextCmd e (objOf e) o)
    (hp : 16 ≤ fieldAt e 32 1 → s.chip.paired = true) : Completes i s fun c =>
      c.working s.chip.obj.nextCmd path e (spanOf e o).1 (spanOf e o).2 ∧
      (∃ qs, c.dolly.queue = s.chip.dolly.queue ++ qs ∧ (∀ q ∈ qs, q.cmd = some s.chip.obj.nextCmd ∧ q.obj = objOf e ∧ q.group = fieldAt e 32 1) ∧
        ∀ g, (∃ q ∈ qs, q.gran = g) ↔ ((spanOf e o).1 ≤ 512 * g ∧ 512 * g < (spanOf e o).1 + (spanOf e o).2 ∧ s.chip.notThere (fieldAt e 32 1) g = true)) ∧
      c.dolly = { s.chip.dolly with queue := c.dolly.queue } ∧ s.chip.keepsBut [.obj, .dolly] c := by
  obtain ⟨done, kind, hrun⟩ := (Chip.runMove_outcomes (c := s.chip.atWork path e o) (id := s.chip.obj.nextCmd) (obj := objOf e) (o := o) hop).2 hp
  rw [hrun] at hw
  refine .of_onChip hi hw ⟨Chip.working_ended ?_, ?_, ?_, Chip.keepsBut_ended ?_⟩
  · refine Chip.working_of_begun hn (fun r => { r with first := (spanOf e o).1, count := (spanOf e o).2, done := done }) ⟨rfl, rfl, rfl, rfl, rfl⟩ ?_
    have hspan : ((s.chip.atWork path e o).cmdSpan s.chip.obj.nextCmd (spanOf e o).1 (spanOf e o).2).cmd s.chip.obj.nextCmd = _ :=
      Chip.cmd_onCmd_same fun _ => rfl
    have hdone := Chip.cmd_onCmd_same (c := (s.chip.atWork path e o).cmdSpan s.chip.obj.nextCmd (spanOf e o).1 (spanOf e o).2)
      (id := s.chip.obj.nextCmd) (f := fun r => { r with done := done }) fun _ => rfl
    rw [hspan, Option.map_map] at hdone
    exact hdone
  · rw [Chip.ended_dolly]
    refine ⟨_, rfl, fun q hq => ?_, fun g => ?_⟩
    · obtain ⟨g, -, rfl⟩ := List.mem_map.1 hq
      exact ⟨rfl, rfl, rfl⟩
    · have hmem : (∃ q ∈ movesOf (some s.chip.obj.nextCmd) (objOf e) kind (fieldAt e 32 1)
          ((moveGrans e o).filter (s.chip.notThere (fieldAt e 32 1))), q.gran = g) ↔ g ∈ (moveGrans e o).filter (s.chip.notThere (fieldAt e 32 1)) := by
        simp [movesOf]
      rw [← and_assoc, ← mem_moveGrans hop, ← List.mem_filter]
      exact hmem
  · rw [Chip.ended_dolly]
    rfl
  · exact Chip.atWork_flows (l := [.obj, .dolly]) ((Chip.Flows.refl (l := [.obj, .dolly]) (s.chip.atWork path e o)).cmdSpan.onCmd.onDolly)

theorem completes_pin {d : Chip} (hw : s.chip.command path e = (s.chip.atWork path e o).runPin s.chip.obj.nextCmd (objOf e) (spanOf e o).1 (spanOf e o).2)
    (hd : s.chip.reservePins s.chip.obj.nextCmd (spanOf e o).1 (spanOf e o).2 = some d) : Completes i s fun c =>
      c.working s.chip.obj.nextCmd path e (spanOf e o).1 (spanOf e o).2 ∧ c.dolly = d.dolly ∧ c.cache.frames = d.cache.frames ∧
      c.cache.lines = s.chip.cache.lines ∧
      (∀ k, k < (spanOf e o).2 → s.chip.pinned ((spanOf e o).1 + k) = true ∨ ∃ p ∈ c.dolly.pins, p.seg = (spanOf e o).1 + k ∧ p.into = true) ∧
      s.chip.keepsBut [.obj, .cache, .dolly, .outs] c := by
  obtain ⟨hres, hall⟩ := Chip.reservePins_some hd
  obtain ⟨g, hg⟩ := s.chip.atWork_onObj path e o
  have hwork : (d.onObj g).obj = (s.chip.atWork path e o).obj := by
    rw [hg]
    exact congrArg g hres.flows.keeps.obj_eq
  have hrun : s.chip.command path e = (d.onObj g).descInval (objOf e) := by
    rw [hw, hg, Chip.runPin, Chip.reservePins_onObj, hd]
    rfl
  have hinval : (d.onObj g).Flows [.cache, .outs] ((d.onObj g).descInval (objOf e)) := (Chip.Flows.refl _).descInval
  have hcache : ((d.onObj g).descInval (objOf e)).cache.frames = d.cache.frames ∧ ((d.onObj g).descInval (objOf e)).cache.lines = d.cache.lines :=
    Chip.descInval_frames _ _
  refine .of_onChip hi hrun ⟨Chip.working_ended (Chip.working_of_obj hn (hinval.keeps.obj_eq.trans hwork)), ?_, ?_, ?_, ?_, Chip.keepsBut_ended ?_⟩
  · rw [Chip.ended_dolly]
    exact hinval.keeps.dolly_eq
  · rw [Chip.ended_cache]
    exact hcache.1
  · rw [Chip.ended_cache]
    exact hcache.2.trans hres.lines
  · rw [Chip.ended_dolly, show ((d.onObj g).descInval (objOf e)).dolly = d.dolly from hinval.keeps.dolly_eq]
    exact hall
  · exact Chip.keepsBut_trans (Chip.keepsBut_mono hres.flows.keeps (by decide))
      (Chip.keepsBut_trans ((Chip.keepsBut_refl _ _).onObj g (by decide)) (Chip.keepsBut_mono hinval.keeps (by decide)))

theorem completes_unpin (hw : s.chip.command path e = (s.chip.atWork path e o).runUnpin s.chip.obj.nextCmd (objOf e) (spanOf e o).1 (spanOf e o).2) :
    Completes i s fun c => c.working s.chip.obj.nextCmd path e (spanOf e o).1 (spanOf e o).2 ∧ c.cache.frames = s.chip.cache.frames ∧
      (∀ p ∈ s.chip.cache.frames, p.2.kind = .pin → (spanOf e o).1 ≤ p.2.seg → p.2.seg < (spanOf e o).1 + (spanOf e o).2 →
        { cmd := s.chip.obj.nextCmd, seg := p.2.seg, frame := p.1, into := false } ∈ c.dolly.pins) ∧ s.chip.keepsBut [.obj, .cache, .dolly, .outs] c := by
  have hinval : (s.chip.atWork path e o).Flows [.cache, .outs] ((s.chip.atWork path e o).descInval (objOf e)) := (Chip.Flows.refl _).descInval
  unfold Chip.runUnpin at hw
  dsimp only at hw
  refine .of_onChip hi hw ⟨Chip.working_ended (Chip.working_of_obj hn hinval.keeps.obj_eq), ?_, fun p hp hk h1 h2 => ?_, Chip.keepsBut_ended ?_⟩
  · rw [Chip.ended_cache]
    exact (Chip.descInval_frames _ _).1
  · rw [Chip.ended_dolly]
    exact List.mem_append_right _ (List.mem_map.2 ⟨p, List.mem_filter.2 ⟨hp, decide_eq_true ⟨hk, h1, h2⟩⟩, rfl⟩)
  · exact Chip.atWork_flows (l := [.obj, .cache, .dolly, .outs]) ((hinval.mono (m := [.obj, .cache, .dolly, .outs])).onDolly)

theorem completes_promote (hw : s.chip.command path e = (s.chip.atWork path e o).runPromote s.chip.obj.nextCmd) :
    (s.chip.dollyFree = true → Completes i s fun c => c.working s.chip.obj.nextCmd path e (spanOf e o).1 (spanOf e o).2 ∧
      (∃ r, c.cmd s.chip.obj.nextCmd = some r ∧ r.next = r.count ∧ r.done ≤ r.next) ∧ s.chip.keepsBut [.obj, .cache, .ring] c) ∧
    (s.chip.dollyFree = false → Completes i s fun c => c.working s.chip.obj.nextCmd path e (spanOf e o).1 (spanOf e o).2 ∧ s.chip.keepsBut [.obj] c) := by
  have hcmd : (s.chip.atWork path e o).cmd s.chip.obj.nextCmd = some (begunCmd s.chip.obj.nextCmd path e (spanOf e o).1 (spanOf e o).2) :=
    Chip.cmd_begun hn _ _
  have hdolly : (s.chip.atWork path e o).dollyFree = s.chip.dollyFree := rfl
  unfold Chip.runPromote at hw
  rw [hcmd] at hw
  dsimp only at hw
  rw [hdolly] at hw
  refine ⟨fun hfree => ?_, fun hfree => ?_⟩
  · rw [if_pos hfree] at hw
    obtain ⟨⟨m, hm, hend⟩, hflows⟩ := Chip.promoteOn_reaches (spanOf e o).2 ((spanOf e o).1 + 0) hcmd (Nat.le_refl 0)
    refine .of_onChip hi hw ⟨Chip.working_ended ⟨_, hend, rfl, rfl, rfl, rfl, rfl⟩, ⟨_, Eq.trans (Chip.cmd_of_obj (Chip.ended_obj ..) _) hend, ?_⟩,
      Chip.keepsBut_ended (Chip.atWork_flows hflows)⟩
    exact ⟨Nat.zero_add _, hm⟩
  · rw [if_neg (by simp [hfree])] at hw
    exact .of_onChip hi hw ⟨Chip.working_ended (Chip.working_of_obj hn rfl), Chip.keepsBut_ended (Chip.atWork_keeps _ _ _ _)⟩

end

end Sys2Proof.Machine

open Sys2Proof Sys2Proof.Machine

/-- Settles O27. Each command on a range starts with the range on record, and hands over what its kind of work needs. -/
theorem rangeCommandsStart : Obligations.RangeCommandsStart := by
  intro s path entry o id
  refine ⟨?_, ?_, ?_, ?_, ?_⟩
  · intro e t away hr
    have hop : opcodeOf e = 0x10 := opcodeOf_asOp (by decide) entry
    have hi : exec (.move path entry) s = s.onChip fun c => c.command path e := rfl
    clear_value e
    have hn : s.chip.cmd s.chip.obj.nextCmd = none := hr.1.2.2.2.2
    obtain ⟨-, -, -, hmove, -⟩ := Chip.command_works (by rw [hop]; rfl) hr
    have hw := hmove hop
    refine ⟨fun ht hp => completes_refused hi hn (hw.trans ((Chip.runMove_outcomes hop).1 ht hp)), fun hp => ?_⟩
    refine (completes_move hi hn hop hw hp).imp fun c ⟨hwork, ⟨qs, hq, hcmd, hgran⟩, hd, hk⟩ => ⟨hwork, ⟨qs, hq, hcmd, fun g => ?_⟩, hd, hk⟩
    rw [hgran g]
    have haway : s.chip.notThere t g = true ↔ away g := by
      unfold Chip.notThere away
      split <;> simp
    rw [haway]
  · intro e first n hr
    have hop : opcodeOf e = 0x11 := opcodeOf_asOp (by decide) entry
    have hi : exec (.pin path entry) s = s.onChip fun c => c.command path e := rfl
    clear_value e
    have hn : s.chip.cmd s.chip.obj.nextCmd = none := hr.1.2.2.2.2
    obtain ⟨-, -, -, -, hpin, -⟩ := Chip.command_works (by rw [hop]; rfl) hr
    have hw := hpin hop
    split
    next hd =>
      have hnone : (s.chip.atWork path e o).reservePins id (spanOf e o).1 (spanOf e o).2 = none := by
        obtain ⟨g, hg⟩ := s.chip.atWork_onObj path e o
        rw [hg, Chip.reservePins_onObj, hd]
        rfl
      rw [Chip.runPin, hnone] at hw
      exact completes_refused hi hn hw
    next d hd => exact completes_pin hi hn hw hd
  · intro e hr
    have hop : opcodeOf e = 0x12 := opcodeOf_asOp (by decide) entry
    have hi : exec (.unpin path entry) s = s.onChip fun c => c.command path e := rfl
    clear_value e
    have hn : s.chip.cmd s.chip.obj.nextCmd = none := hr.1.2.2.2.2
    obtain ⟨-, -, -, -, -, hunpin, -⟩ := Chip.command_works (by rw [hop]; rfl) hr
    exact completes_unpin hi hn (hunpin hop)
  · intro e hr
    have hop : opcodeOf e = 0x13 := opcodeOf_asOp (by decide) entry
    have hi : exec (.promote path entry) s = s.onChip fun c => c.command path e := rfl
    clear_value e
    have hn : s.chip.cmd s.chip.obj.nextCmd = none := hr.1.2.2.2.2
    obtain ⟨-, -, -, -, -, -, hpromote, -⟩ := Chip.command_works (by rw [hop]; rfl) hr
    exact completes_promote hi hn (hpromote hop)
  · intro e hr
    have hop : opcodeOf e = 0x14 := opcodeOf_asOp (by decide) entry
    have hi : exec (.evict path entry) s = s.onChip fun c => c.command path e := rfl
    clear_value e
    have hn : s.chip.cmd s.chip.obj.nextCmd = none := hr.1.2.2.2.2
    obtain ⟨-, -, -, -, -, -, -, hevict, -⟩ := Chip.command_works (by rw [hop]; rfl) hr
    refine .of_onChip hi (hevict hop) ⟨Chip.working_ended (Chip.working_of_obj hn rfl), ?_, Chip.keepsBut_ended (Chip.atWork_keeps _ _ _ _)⟩
    rw [Chip.ended_obj]
    rfl
end

section
/-! Results of object commands: their delivery, and the commands that end late (02 R56 to R67; 08 R242; 15 R391). -/

namespace Sys2Proof.Machine

set_option Elab.async false

/-! ### The paths of a result -/

/-- A result goes to the cue ring entry of its command, to its mailbox or dictionary, or to the partner. -/
def Chip.onPath (c : Chip) (r : RunCmd) (res : CmdResult) : Chip :=
  match r.path with
  | .cue h slot => c.cueResult h slot res
  | .mailbox h => c.onHead h fun d => { d with objResult := d.objResult.map (fun (x : ObjRes) => if x.cmd = r.id then { x with result := some res } else x) }
  | .dict q => c.onObj fun o => { o with dictRes := o.dictRes.map (fun (x : DictRes) => if x.req = q ∧ x.entry = 0x2070 ∧ x.cmd = r.id then { x with result := some (entryBytes res) } else x) }
  | .fwd tag => c.sendTwin (.fwdCmdResult res) 0 tag

section
variable {c : Chip} {r : RunCmd} {res : CmdResult}

theorem Chip.cueResult_flows (c : Chip) (h : HeadNo) (slot : BitVec 8) (res : CmdResult) : c.Flows [.heads, .ring, .outs] (c.cueResult h slot res) := by
  unfold Chip.cueResult
  extract_lets c1 c2 q
  have h1 : c.Flows [.heads, .ring, .outs] c1 := (Chip.Flows.refl c).onHead rfl
  have h2 : c.Flows [.heads, .ring, .outs] c2 := h1.bump
  exact h2.ite (h2.emit.ite (h2.onHead rfl))

/-- A result in the cue ring changes its entry and its head alone. -/
theorem Chip.cueResult_entries (c : Chip) (h : HeadNo) (slot : BitVec 8) (res : CmdResult) :
    ((c.cueResult h slot res).head h).cue.entries = (c.head h).cue.entries.write (64 * slot.toNat) (entryBytes res) ∧
      ∀ k, k ≠ h → (c.cueResult h slot res).head k = c.head k := by
  unfold Chip.cueResult
  extract_lets c1 c2 q
  have hbump (k : HeadNo) : c2.head k = c1.head k := rfl
  have hwritten : (c2.head h).cue.entries = (c.head h).cue.entries.write (64 * slot.toNat) (entryBytes res) := by
    rw [hbump, show c1.head h = _ from Chip.head_onHead_same c h _]
  have hothers (k : HeadNo) (hk : k ≠ h) : c2.head k = c.head k := (hbump k).trans (Chip.head_onHead_ne c h _ hk)
  split
  · exact ⟨hwritten, hothers⟩
  · split
    · exact ⟨hwritten, hothers⟩
    · refine ⟨?_, fun k hk => (Chip.head_onHead_ne c2 h _ hk).trans (hothers k hk)⟩
      rw [Chip.head_onHead_same]
      exact hwritten

theorem Chip.onPath_flows (c : Chip) (r : RunCmd) (res : CmdResult) : c.Flows [.heads, .obj, .ring, .outs] (c.onPath r res) := by
  unfold Chip.onPath
  split
  · exact (Chip.cueResult_flows ..).mono
  · exact (Chip.Flows.refl c).onHead rfl
  · exact (Chip.Flows.refl c).onObj
  · exact (Chip.Flows.refl c).sendTwin

theorem Chip.onPath_cmds (c : Chip) (r : RunCmd) (res : CmdResult) : (c.onPath r res).obj.cmds = c.obj.cmds := by
  unfold Chip.onPath
  split
  · rw [(Chip.cueResult_flows ..).keeps.obj_eq]
  · rfl
  · rfl
  · rw [((Chip.Flows.refl (l := [.outs]) c).sendTwin).keeps.obj_eq]

/-- With no command in flight none starts. -/
theorem Chip.startWaiting_none {c : Chip} (h : c.obj.cmds = []) : c.startWaiting = c := by
  unfold Chip.startWaiting
  rw [h]
  rfl

/-- The only command in flight has its result delivered and leaves the list. -/
theorem Chip.deliver_last (h : c.obj.cmds = [r]) :
    (c.onPath r res).keepsBut [.obj, .cache, .med, .ring, .outs] (c.deliver r res) ∧ (c.deliver r res).obj.cmds = [] := by
  unfold Chip.deliver
  extract_lets err c1 c2 mine c3 c4
  have hc1 : c1 = c.onPath r res := rfl
  have h2 : c1.Flows [.ring] c2 := by
    unfold c2
    split
    · exact .refl c1
    · exact (Chip.Flows.refl c1).bump.setVol.ite (.refl c1)
  have h3 : c1.Flows [.cache, .med, .ring, .outs] c3 := (h2.mono (m := [.cache, .med, .ring, .outs])).foldl fun _ _ k => k.freeSlots
  have hcmds : c4.obj.cmds = [] := by
    show c3.obj.cmds.filter _ = []
    rw [h3.keeps.obj_eq, hc1, Chip.onPath_cmds, h]
    simp
  rw [Chip.startWaiting_none hcmds]
  exact ⟨(Chip.keepsBut_mono h3.keeps (by decide)).onObj _ (by decide), hcmds⟩

/-- What the delivery of the last command's result leaves. -/
theorem Chip.deliver_answers (h : c.obj.cmds = [r]) :
    (c.deliver r res).obj.cmds = [] ∧
      (∀ k slot, r.path = .cue k slot → ((c.deliver r res).head k).cue.entries = (c.head k).cue.entries.write (64 * slot.toNat) (entryBytes res) ∧
        ∀ j, j ≠ k → (c.deliver r res).head j = c.head j) ∧
      (∀ k, r.path = .mailbox k → ((c.deliver r res).head k).cue = (c.head k).cue ∧
        ∀ x, (c.head k).objResult = some x → x.cmd = r.id → ∃ y, ((c.deliver r res).head k).objResult = some y ∧ y.result = some res) ∧
      c.keepsBut [.heads, .obj, .cache, .med, .ring, .outs] (c.deliver r res) := by
  obtain ⟨hkeeps, hcmds⟩ := Chip.deliver_last (res := res) h
  have hhead (k : HeadNo) : (c.deliver r res).head k = (c.onPath r res).head k := hkeeps.head_eq k
  refine ⟨hcmds, fun k slot hp => ?_, fun k hp => ?_, ?_⟩
  · simp only [hhead]
    rw [show c.onPath r res = c.cueResult k slot res by rw [Chip.onPath, hp]]
    exact Chip.cueResult_entries ..
  · rw [hhead, Chip.onPath, hp]
    dsimp only
    rw [Chip.head_onHead_same]
    refine ⟨rfl, fun x hx hid => ⟨{ x with result := some res }, ?_, rfl⟩⟩
    rw [hx]
    simp [hid]
  · exact Chip.keepsBut_trans (Chip.keepsBut_mono (c.onPath_flows r res).keeps (by decide)) (Chip.keepsBut_mono hkeeps (by decide))

end

/-! ### Commands that end -/

section
variable {c : Chip} {r : RunCmd} {cmd : Nat}

theorem Chip.cmd_id (h : c.cmd cmd = some r) : r.id = cmd := by
  simpa using List.find?_some h

/-- A command in flight, and one with its result. -/
def Chip.has (c : Chip) (id : Nat) : Prop := ∃ q ∈ c.obj.cmds, q.id = id
def Chip.hasResult (c : Chip) (id : Nat) : Prop := ∃ q ∈ c.obj.cmds, q.id = id ∧ q.result ≠ none

theorem Chip.has_finish {id n st : Nat} (h : c.has id) : (c.finish n st).has id ∧ (n = id → (c.finish n st).hasResult id) := by
  obtain ⟨q, hq, rfl⟩ := h
  cases hn : c.cmd n with
  | none =>
    have hsame : c.finish n st = c := by
      unfold Chip.finish
      rw [hn]
    rw [hsame]
    refine ⟨⟨q, hq, rfl⟩, fun he => ?_⟩
    subst he
    simpa using List.find?_eq_none.1 hn q hq
  | some x =>
    rw [Chip.finish_of_cmd hn]
    refine ⟨⟨_, List.mem_map_of_mem hq, ?_⟩, fun he => ⟨_, List.mem_map_of_mem hq, ?_⟩⟩
    · split <;> rfl
    · rw [if_pos he.symm]
      exact ⟨rfl, nofun⟩

theorem Chip.hasResult_finish {id n st : Nat} (h : c.hasResult id) : (c.finish n st).hasResult id := by
  obtain ⟨q, hq, rfl, hres⟩ := h
  cases hn : c.cmd n with
  | none =>
    have hsame : c.finish n st = c := by
      unfold Chip.finish
      rw [hn]
    rw [hsame]
    exact ⟨q, hq, rfl, hres⟩
  | some x =>
    rw [Chip.finish_of_cmd hn]
    refine ⟨_, List.mem_map_of_mem hq, ?_⟩
    split
    · exact ⟨rfl, nofun⟩
    · exact ⟨rfl, hres⟩

/-- Of commands that are ended in turn each has its result. -/
theorem Chip.finish_each (st : Nat) {id : Nat} (rs : List RunCmd) (c : Chip) (h : c.hasResult id ∨ (c.has id ∧ ∃ r ∈ rs, r.id = id)) :
    (rs.foldl (fun c r => c.finish r.id st) c).hasResult id := by
  induction rs generalizing c with
  | nil =>
    rcases h with h | ⟨-, r, hr, -⟩
    · exact h
    · cases hr
  | cons x rs ih =>
    refine ih _ ?_
    rcases h with h | ⟨hc, r, hr, hid⟩
    · exact .inl (Chip.hasResult_finish h)
    · rcases List.mem_cons.1 hr with rfl | hr
      · exact .inl ((Chip.has_finish hc).2 hid)
      · exact .inr ⟨(Chip.has_finish hc).1, r, hr, hid⟩

/-- The commands that end leave the rest of the objects' part. -/
theorem Chip.finish_each_table (st : Nat) (rs : List RunCmd) (c : Chip) : (rs.foldl (fun c r => c.finish r.id st) c).obj.table = c.obj.table := by
  induction rs generalizing c with
  | nil => rfl
  | cons x rs ih =>
    rw [List.foldl_cons, ih, Chip.finish_obj]

/-- No program is awaited by a command that queues none. -/
theorem Chip.mediumPending_zero (c : Chip) : c.mediumPending 0 = false := by
  unfold Chip.mediumPending
  simp

/-! ### The rows -/

/-- A result is written once its command is done. -/
def Chip.writeResult (c : Chip) (cmd : Nat) : Chip :=
  match c.cmd cmd with
  | none => c
  | some r =>
    match (c.cmdCheck r).cmd cmd with
    | none => c.cmdCheck r
    | some x =>
      match x.result with
      | none => c.cmdCheck r
      | some res => if (c.cmdCheck r).mediumPending x.durable then c.cmdCheck r else (c.cmdCheck r).deliver x res

theorem exec_commandResultWritten (cmd : Nat) (s : State) : exec (.commandResultWritten cmd) s = s.onChip fun c => c.writeResult cmd := rfl

theorem Chip.writeResult_answered {res : CmdResult} (hr : c.cmd cmd = some r) (hres : r.result = some res) :
    c.writeResult cmd = if c.mediumPending r.durable then c else c.deliver r res := by
  have hcheck : c.cmdCheck r = c := by
    unfold Chip.cmdCheck
    rw [hres]
    exact if_pos (by simp)
  unfold Chip.writeResult
  simp only [hr, hcheck, hres]

/-- A PIN or UNPIN of which the dolly holds nothing any more ends. -/
theorem Chip.cmdCheck_pins (hop : opcodeOf r.entry = 0x11 ∨ opcodeOf r.entry = 0x12) (hres : r.result = none) (hw : r.waits = false)
    (hhere : c.cmdHere r.entry = true) (hqueue : c.dolly.queue = []) (hopened : c.dolly.opened = []) (hpins : c.dolly.pins = [])
    (hfwd : ∀ f ∈ c.twin.fwdCmds, f.cmd ≠ r.id) : c.cmdCheck r = c.finish r.id stOk 0 [(32, 8, r.done)] := by
  have hf : c.twin.fwdCmds.any (fun f => decide (f.cmd = r.id)) = false := by
    rw [List.any_eq_false]
    exact fun f hf => by simpa using hfwd f hf
  unfold Chip.cmdCheck
  rcases hop with h | h <;> simp [h, hres, hw, hhere, hqueue, hopened, hpins, hf]

/-- The result of a PIN or UNPIN awaits no program. -/
theorem Chip.finish_pins (hr : c.cmd cmd = some r) (hop : opcodeOf r.entry = 0x11 ∨ opcodeOf r.entry = 0x12) :
    c.finish cmd stOk 0 [(32, 8, r.done)] = c.onCmd cmd fun x =>
      { x with waits := false, durable := 0, result := some (mkResult r.entry (objOf r.entry) stOk 0 (c.userTag (objOf r.entry)) [(32, 8, r.done)]) } := by
  have hdur : durableOp (opcodeOf r.entry) = false := by rcases hop with h | h <;> rw [h] <;> rfl
  rw [Chip.finish_of_cmd hr, hdur]
  rfl

/-- Its result is written as it ends. -/
theorem Chip.writeResult_pins (hr : c.cmd cmd = some r) (hop : opcodeOf r.entry = 0x11 ∨ opcodeOf r.entry = 0x12)
    (hcheck : c.cmdCheck r = c.finish cmd stOk 0 [(32, 8, r.done)]) :
    let res := mkResult r.entry (objOf r.entry) stOk 0 (c.userTag (objOf r.entry)) [(32, 8, r.done)]
    c.writeResult cmd = (c.finish cmd stOk 0 [(32, 8, r.done)]).deliver { r with waits := false, durable := 0, result := some res } res := by
  intro res
  have hcmd : (c.finish cmd stOk 0 [(32, 8, r.done)]).cmd cmd = some { r with waits := false, durable := 0, result := some res } := by
    rw [Chip.finish_pins hr hop]
    exact Eq.trans (Chip.cmd_onCmd_same fun _ => rfl) (congrArg _ hr)
  unfold Chip.writeResult
  simp only [hr, hcheck, hcmd, Chip.mediumPending_zero]
  rfl

end

/-! ### A command that is not reached, and the end of a release -/

/-- The command came to this chip itself. -/
def ownPath : CmdPath → Bool
  | .fwd _ => false
  | _ => true

/-- A command whose owner is not reached ends, with nothing of it left on the way. -/
def Chip.giveUp (c : Chip) (cmd : Nat) : Chip :=
  match c.cmd cmd with
  | none => c
  | some r =>
    if r.result.isNone && (!c.cmdHere r.entry && ownPath r.path) &&
        (c.twin.fwdCmds.any (fun f => decide (f.cmd = cmd) && f.lost) || !c.paired || !c.linkReady) then (c.finish cmd stRetry).dropFwdCmd cmd else c

theorem exec_commandUnreachableTimeout (cmd : Nat) (s : State) : exec (.commandUnreachableTimeout cmd) s = s.onChip fun c => c.giveUp cmd := rfl

theorem completes_unreachable {s : State} {cmd : Nat} {r : RunCmd} (hr : s.chip.cmd cmd = some r) (hp : ∀ tag, r.path ≠ .fwd tag) :
    CompletesIf (.commandUnreachableTimeout cmd) s (r.result = none ∧ s.chip.cmdHere r.entry = false ∧
        ((∃ f ∈ s.chip.twin.fwdCmds, f.cmd = cmd ∧ f.lost = true) ∨ s.chip.paired = false ∨ s.chip.linkReady = false)) fun c =>
      c.answered cmd r.path r.entry stRetry ∧ (∀ f ∈ c.twin.fwdCmds, f.cmd ≠ cmd) ∧ s.chip.keepsBut [.obj, .twin] c := by
  have hpath : ownPath r.path = true := by
    cases h : r.path with
    | fwd tag => exact absurd h (hp tag)
    | cue | mailbox | dict => rfl
  have hcond : (r.result.isNone && (!s.chip.cmdHere r.entry && ownPath r.path) &&
        (s.chip.twin.fwdCmds.any (fun f => decide (f.cmd = cmd) && f.lost) || !s.chip.paired || !s.chip.linkReady)) = true ↔
      (r.result = none ∧ s.chip.cmdHere r.entry = false ∧
        ((∃ f ∈ s.chip.twin.fwdCmds, f.cmd = cmd ∧ f.lost = true) ∨ s.chip.paired = false ∨ s.chip.linkReady = false)) := by
    rw [hpath]
    simp [and_assoc, or_assoc]
  have hgive : s.chip.giveUp cmd = if (r.result.isNone && (!s.chip.cmdHere r.entry && ownPath r.path) &&
      (s.chip.twin.fwdCmds.any (fun f => decide (f.cmd = cmd) && f.lost) || !s.chip.paired || !s.chip.linkReady)) = true
        then (s.chip.finish cmd stRetry).dropFwdCmd cmd else s.chip := by
    unfold Chip.giveUp
    rw [hr]
  unfold CompletesIf
  split
  · next h =>
    refine .of_onChip (exec_commandUnreachableTimeout cmd s) (hgive.trans (if_pos (hcond.2 h))) ⟨Chip.answered_ended ?_, fun f hf => ?_, Chip.keepsBut_ended ?_⟩
    · have hans := Chip.finish_answers (path := r.path) (e := r.entry) hr rfl rfl stRetry 0 [] none
      rw [Option.getD_none] at hans
      exact hans
    · rw [Chip.ended_twin] at hf
      simpa using (List.mem_filter.1 hf).2
    · exact (Chip.Flows.refl (l := [.obj, .twin]) s.chip).finish.onTwin.keeps
  · next h =>
    exact untouched_of (exec_commandUnreachableTimeout cmd s) (hgive.trans (if_neg fun hc => h (hcond.1 hc)))

/-- The commands that destroy an object and run. -/
def Chip.destroys (c : Chip) (obj : Nat) : List RunCmd :=
  c.obj.cmds.filter (fun r => decide (objOf r.entry = obj ∧ opcodeOf r.entry = 0x02 ∧ r.result = none) && !r.waits)

/-- The memory and the entry of an object are released. -/
def Chip.released (c : Chip) (obj : Nat) (o : Obj) : Chip :=
  (((c.discardSegs (objFirst o) (objSegs o) true).clearPoisonRange (64 * objFirst o) (64 * objSegs o)).freeSlots o.base o.granules).delObj obj

/-- The release of an object ends, and the commands that destroy it with it. -/
def Chip.releaseDone (c : Chip) (obj : Nat) : Chip :=
  match c.obj.table.find obj with
  | some o => if o.state = .destroying then ((c.destroys obj).foldl (fun c r => c.finish r.id stOk) (c.released obj o)).settle else c
  | none => c

theorem exec_destroyReleaseDone (obj : Nat) (s : State) : exec (.destroyReleaseDone obj) s = s.onChip fun c => c.releaseDone obj := rfl

theorem Chip.delObj_obj (c : Chip) (i : Nat) : (c.delObj i).obj = { c.obj with table := c.obj.table.del i } :=
  ((Chip.Flows.refl (l := slotGrps) (c.onObj fun x => { x with table := x.table.del i })).tableChanged.sendTwin.descInval).keeps.obj_eq

theorem Chip.released_obj (c : Chip) (obj : Nat) (o : Obj) : (c.released obj o).obj = { c.obj with table := c.obj.table.del obj } := by
  have h : c.Flows zeroGrps
      (((c.discardSegs (objFirst o) (objSegs o) true).clearPoisonRange (64 * objFirst o) (64 * objSegs o)).freeSlots o.base o.granules) :=
    (Chip.Flows.refl c).discardSegs.clearPoisonRange.freeSlots
  rw [Chip.released, Chip.delObj_obj, h.keeps.obj_eq]

/-- The end of a release: the entry is free, each command that ran to it has its result. -/
theorem completes_released {s : State} {obj : Nat} {o : Obj} (ho : s.chip.obj.table.find obj = some o) :
    CompletesIf (.destroyReleaseDone obj) s (o.state = .destroying) fun c =>
      c.obj.table = s.chip.obj.table.del obj ∧
      (∀ r ∈ s.chip.obj.cmds, objOf r.entry = obj → opcodeOf r.entry = 0x02 → r.waits = false →
        ∃ q ∈ c.obj.cmds, q.id = r.id ∧ q.result ≠ none) ∧ s.chip.keepsBut settleGrps c := by
  have hrow : s.chip.releaseDone obj = if o.state = .destroying then
      ((s.chip.destroys obj).foldl (fun c r => c.finish r.id stOk) (s.chip.released obj o)).settle else s.chip := by
    unfold Chip.releaseDone
    rw [ho]
  unfold CompletesIf
  split
  · next hd =>
    have hsettle := (Chip.Steady.refl ((s.chip.destroys obj).foldl (fun c r => c.finish r.id stOk) (s.chip.released obj o))).settle
    refine .of_onChip (exec_destroyReleaseDone obj s) (hrow.trans (if_pos hd)) ⟨?_, fun r hr hobj hop hw => ?_, Chip.keepsBut_ended ?_⟩
    · rw [Chip.ended_obj, hsettle.table, Chip.finish_each_table, Chip.released_obj]
    · rw [Chip.ended_obj, hsettle.cmds]
      refine Chip.finish_each stOk (s.chip.destroys obj) (s.chip.released obj o) ?_
      unfold Chip.hasResult Chip.has
      rw [Chip.released_obj]
      by_cases hres : r.result = none
      · exact .inr ⟨⟨r, hr, rfl⟩, r, List.mem_filter.2 ⟨hr, by simp [hobj, hop, hres, hw]⟩, rfl⟩
      · exact .inl ⟨r, hr, rfl, hres⟩
    · have hrel : s.chip.Flows settleGrps (s.chip.released obj o) := (Chip.Flows.refl s.chip).discardSegs.clearPoisonRange.freeSlots.delObj
      exact ((hrel.foldl fun _ _ h => h.finish).settle).keeps
  · next hd => exact untouched_of (exec_destroyReleaseDone obj s) (hrow.trans (if_neg hd))

end Sys2Proof.Machine

open Sys2Proof Sys2Proof.Machine

/-- Settles O29. A result is delivered once its programs are done; a PIN or UNPIN that is through, a command that is not reached and a
release that ends give theirs. -/
theorem commandResults : Obligations.CommandResults := by
  intro s cmd
  refine ⟨fun hnone => ⟨?_, ?_⟩, fun r res hr hres => ⟨fun hp => ?_, fun hlast hp => ?_⟩,
    fun r h slot hr hlast hpath hop hres hw hhere hqueue hopened hpins hfwd => ?_, fun r hr hp => completes_unreachable hr hp, fun obj o ho => completes_released ho⟩
  · exact untouched_of (exec_commandResultWritten cmd s) (by unfold Chip.writeResult; rw [hnone])
  · exact untouched_of (exec_commandUnreachableTimeout cmd s) (by unfold Chip.giveUp; rw [hnone])
  · exact untouched_of (exec_commandResultWritten cmd s) ((Chip.writeResult_answered hr hres).trans (if_pos hp))
  · have hid : r.id = cmd := Chip.cmd_id hr
    obtain ⟨hcmds, hcue, hbox, hkeeps⟩ := Chip.deliver_answers (res := res) hlast
    refine .of_onChip (exec_commandResultWritten cmd s) ((Chip.writeResult_answered hr hres).trans (if_neg (by simp [hp])))
      ⟨?_, fun h slot hpath => ?_, fun h hpath => ?_, Chip.keepsBut_ended hkeeps⟩
    · rw [Chip.ended_obj]
      exact hcmds
    · simp only [Chip.ended_head]
      exact hcue h slot hpath
    · rw [Chip.ended_head, ← hid]
      exact hbox h hpath
  · have hid : r.id = cmd := Chip.cmd_id hr
    have hcheck : s.chip.cmdCheck r = s.chip.finish cmd stOk 0 [(32, 8, r.done)] := by
      rw [Chip.cmdCheck_pins hop hres hw hhere hqueue hopened hpins (by rw [hid]; exact hfwd), hid]
    let res := mkResult r.entry (objOf r.entry) stOk 0 (s.chip.userTag (objOf r.entry)) [(32, 8, r.done)]
    have hends : (s.chip.finish cmd stOk 0 [(32, 8, r.done)]).obj.cmds = [{ r with waits := false, durable := 0, result := some res }] := by
      rw [Chip.finish_pins hr hop]
      show s.chip.obj.cmds.map _ = _
      rw [hlast, List.map_cons, List.map_nil, if_pos hid]
    have hflow : s.chip.Flows [.obj] (s.chip.finish cmd stOk 0 [(32, 8, r.done)]) := (Chip.Flows.refl _).finish
    obtain ⟨hcmds, hcue, -, hkeeps⟩ := Chip.deliver_answers (res := res) hends
    refine .of_onChip (exec_commandResultWritten cmd s) (Chip.writeResult_pins hr hop hcheck) ⟨?_, ?_, Chip.keepsBut_ended ?_⟩
    · rw [Chip.ended_obj]
      exact hcmds
    · rw [Chip.ended_head, (hcue h slot hpath).1, hflow.keeps.head_eq]
    · exact Chip.keepsBut_trans (Chip.keepsBut_mono hflow.keeps (by decide)) hkeeps
end

section
/-! Reels (02 R69 to R72) and the cue rings' doorbell, reset and delay (02 R65, R66, R68; 03 R96). -/

namespace Sys2Proof.Machine

set_option Elab.async false

/-! ### Reels -/

section
variable {c : Chip} {id : Nat} {r : Reel}

theorem Chip.reel_id (h : c.reel id = some r) : r.id = id := by
  simpa using List.find?_some h

theorem Chip.reel_of_reels {d : Chip} (h : d.obj.reels = c.obj.reels) (id : Nat) : d.reel id = c.reel id := by
  unfold Chip.reel
  rw [h]

theorem Chip.reel_of_cmds {d : Chip} {rs : List RunCmd} (h : d.obj = { c.obj with cmds := rs }) (id : Nat) : d.reel id = c.reel id :=
  Chip.reel_of_reels (by rw [h]) id

theorem Chip.cmds_of_reels {d : Chip} {rs : List Reel} (h : d.obj = { c.obj with reels := rs }) : d.obj.cmds = c.obj.cmds := by rw [h]

theorem Chip.reel_of_obj {d : Chip} (h : d.obj = c.obj) (id : Nat) : d.reel id = c.reel id := by
  unfold Chip.reel
  rw [h]

theorem Chip.reel_onReel {f : Reel → Reel} (hf : ∀ r, (f r).id = r.id) : (c.onReel id f).reel id = (c.reel id).map f := by
  unfold Chip.reel Chip.onReel Chip.onObj
  rw [List.find?_map]
  have hp : (fun r : Reel => decide (r.id = id)) ∘ (fun r => if r.id = id then f r else r) = fun r => decide (r.id = id) := by
    funext r
    by_cases h : r.id = id <;> simp [h, hf]
  rw [hp]
  cases h : c.obj.reels.find? (fun r => decide (r.id = id)) with
  | none => rfl
  | some r =>
    have hid : r.id = id := Chip.reel_id h
    simp [hid]

theorem Chip.dropHolds_obj (c : Chip) (segs : List Nat) : (c.dropHolds segs).obj = c.obj :=
  ((Chip.Flows.refl (l := [.cache, .outs]) c).dropHolds).keeps.obj_eq

/-- A reel that closes is not found any more. -/
theorem Chip.closeReel_obj (c : Chip) (id : Nat) : (c.closeReel id).obj = { c.obj with reels := c.obj.reels.filter (fun x => x.id != id) } := by
  unfold Chip.closeReel
  cases h : c.reel id with
  | none =>
    have hall : c.obj.reels.filter (fun x => x.id != id) = c.obj.reels :=
      List.filter_eq_self.2 fun x hx => by simpa using List.find?_eq_none.1 h x hx
    rw [hall]
  | some r =>
    exact congrArg (fun o : Objects => { o with reels := o.reels.filter (fun x => x.id != id) }) (Chip.dropHolds_obj c _)

theorem Chip.reel_closed (c : Chip) (id : Nat) : (c.closeReel id).reel id = none := by
  unfold Chip.reel
  rw [Chip.closeReel_obj, List.find?_eq_none]
  intro x hx
  simpa using (List.mem_filter.1 hx).2

/-- A window that moves leaves a reel its readers. -/
theorem Chip.slideReel_reel (c : Chip) (id : Nat) :
    (∀ r, c.reel id = some r → ∃ held, (c.slideReel id).reel id = some { r with held := held }) ∧ (c.reel id = none → c.slideReel id = c) ∧
      (c.slideReel id).obj = { c.obj with reels := (c.slideReel id).obj.reels } := by
  unfold Chip.slideReel
  cases h : c.reel id with
  | none => exact ⟨nofun, fun _ => rfl, rfl⟩
  | some r =>
    dsimp only
    refine ⟨fun x hx => ?_, nofun, ?_⟩
    · cases hx
      rw [Chip.reel_onReel (by intro; rfl), Chip.reel_of_obj (Chip.dropHolds_obj c _), h]
      exact ⟨_, rfl⟩
    · unfold Chip.onReel Chip.onObj
      dsimp only
      rw [Chip.dropHolds_obj]

/-- A reel without one of its readers; the last one closes it. -/
theorem Chip.dropReader_reel (c : Chip) (id reader : Nat) :
    (∀ q, (c.dropReader id reader).reel id = some q → ∀ x ∈ q.readers, x.no ≠ reader) ∧
      (∀ r, c.reel id = some r → (∀ x ∈ r.readers, x.no = reader) → (c.dropReader id reader).reel id = none) ∧
      (c.dropReader id reader).obj = { c.obj with reels := (c.dropReader id reader).obj.reels } := by
  unfold Chip.dropReader
  extract_lets d
  have hd : d.reel id = (c.reel id).map fun r => { r with readers := r.readers.filter (fun x => x.no != reader) } := Chip.reel_onReel fun _ => rfl
  have hobj : d.obj = { c.obj with reels := d.obj.reels } := rfl
  cases h : c.reel id with
  | none =>
    rw [h] at hd
    rw [hd]
    exact ⟨fun q hq => absurd (hd.symm.trans hq) nofun, nofun, hobj⟩
  | some r =>
    rw [h, Option.map_some] at hd
    rw [hd]
    dsimp only
    split
    · refine ⟨fun q hq => absurd ((d.reel_closed id).symm.trans hq) nofun, fun _ _ _ => d.reel_closed id, ?_⟩
      rw [Chip.closeReel_obj, hobj]
    · next hne =>
      obtain ⟨hslide, -, hslid⟩ := d.slideReel_reel id
      obtain ⟨held, hheld⟩ := hslide _ hd
      refine ⟨fun q hq x hx => ?_, fun x hx hall => ?_, ?_⟩
      · rw [hheld] at hq
        cases hq
        simpa using (List.mem_filter.1 hx).2
      · cases hx
        refine absurd ?_ hne
        rw [List.isEmpty_iff, List.filter_eq_nil_iff]
        simpa using hall
      · rw [hslid, hobj]

end

/-! ### The commands of reels -/

section
variable {c : Chip} {id obj : Nat} {e : CmdEntry} {o : Obj}

/-- The number of positions that a REEL_OPEN asks for. -/
def reelCount (e : CmdEntry) (o : Obj) : Nat :=
  if fieldAt e 24 8 = 0 then (objSegs o - 1 - fieldAt e 16 8) / fieldAt e 32 2 + 1 else fieldAt e 24 8

/-- The reel that a REEL_OPEN makes. -/
def newReel (rid obj : Nat) (e : CmdEntry) (o : Obj) : Reel :=
  { id := rid, obj := obj, start := fieldAt e 16 8, count := reelCount e o, stride := fieldAt e 32 2, window := fieldAt e 34 2, readers := [{ no := 0, cursor := 0 }] }

/-- REEL_OPEN, outcome by outcome. -/
theorem Chip.runReelOpen_outcomes :
    let rid := lowestFree (c.obj.reels.map (·.id)) 0 c.obj.reels.length
    let last := fieldAt e 16 8 + (reelCount e o - 1) * fieldAt e 32 2
    (objSegs o ≤ fieldAt e 16 8 → c.runReelOpen id e obj o = c.finish id stField 16) ∧
    (fieldAt e 16 8 < objSegs o → objSegs o ≤ last → c.runReelOpen id e obj o = c.finish id stField 24) ∧
    (fieldAt e 16 8 < objSegs o → last < objSegs o →
      (256 ≤ rid → c.runReelOpen id e obj o = c.finish id stNoReel) ∧
      (rid < 256 → c.reelLimit < c.reelFrames + fieldAt e 34 2 → c.runReelOpen id e obj o = c.finish id stReelLimit) ∧
      (rid < 256 → c.reelFrames + fieldAt e 34 2 ≤ c.reelLimit → c.runReelOpen id e obj o =
        (c.onObj fun x => { x with reels := x.reels ++ [newReel rid obj e o] }).finish id stOk 0 [(16, 2, rid), (18, 1, 0)])) := by
  intro rid last
  unfold Chip.runReelOpen
  dsimp only
  refine ⟨fun h => if_pos h, fun h hl => ?_, fun h hl => ⟨fun hr => ?_, fun hr hf => ?_, fun hr hf => ?_⟩⟩
  · rw [if_neg (Nat.not_le.2 h)]
    exact if_pos hl
  · rw [if_neg (Nat.not_le.2 h)]
    exact (if_neg (Nat.not_le.2 hl)).trans (if_pos hr)
  · rw [if_neg (Nat.not_le.2 h)]
    exact (if_neg (Nat.not_le.2 hl)).trans ((if_neg (Nat.not_le.2 hr)).trans (if_pos hf))
  · rw [if_neg (Nat.not_le.2 h)]
    exact (if_neg (Nat.not_le.2 hl)).trans ((if_neg (Nat.not_le.2 hr)).trans (if_neg (Nat.not_lt.2 hf)))

variable {r : Reel}

theorem Chip.runReelJoin_free (h : lowestFree (r.readers.map (·.no)) 0 r.readers.length < 32) :
    let no := lowestFree (r.readers.map (·.no)) 0 r.readers.length
    c.runReelJoin id r = (c.onReel r.id fun x => { x with readers := x.readers ++ [{ no := no, cursor := r.minCursor }] }).finish id stOk 0
      [(18, 1, no), (24, 8, r.minCursor)] := if_neg (Nat.not_le.2 h)

/-- The chip with a reader of a reel moved to a position. -/
def Chip.readerAt (c : Chip) (r : Reel) (no cursor : Nat) : Chip :=
  (c.onReel r.id fun q => { q with readers := q.readers.map (fun y => if y.no = no then { y with cursor := cursor } else y) }).slideReel r.id

theorem Chip.readerAt_flows (c : Chip) (r : Reel) (no cursor : Nat) : c.Flows [.obj, .cache, .outs] (c.readerAt r no cursor) :=
  (Chip.Flows.refl c).onReel.slideReel

theorem Chip.runReelAdvance_outcomes {x : Reader} (hx : r.readers.find? (fun y => decide (y.no = fieldAt e 18 1)) = some x) :
    (fieldAt e 24 8 < x.cursor ∨ r.count ≤ fieldAt e 24 8 → c.runReelAdvance id e r = c.finish id stField 24) ∧
    (x.cursor ≤ fieldAt e 24 8 → fieldAt e 24 8 < r.count → c.runReelAdvance id e r =
      (c.readerAt r x.no (fieldAt e 24 8)).finish id stOk 0 [(32, 8, (((c.readerAt r x.no (fieldAt e 24 8)).reel r.id).map Reel.minCursor).getD 0)]) := by
  unfold Chip.runReelAdvance
  rw [hx]
  refine ⟨fun h => if_pos (by simpa using h), fun h1 h2 => if_neg ?_⟩
  simp only [Bool.or_eq_true, decide_eq_true_eq]
  omega

/-- A reader that moved stands at its position; the other readers stay. -/
theorem Chip.readerAt_reel (h : c.reel r.id = some r) (no cursor : Nat) :
    (∃ q, (c.readerAt r no cursor).reel r.id = some q ∧ q.readers = r.readers.map (fun y => if y.no = no then { y with cursor := cursor } else y)) ∧
      (c.readerAt r no cursor).obj.cmds = c.obj.cmds := by
  let d := c.onReel r.id fun q => { q with readers := q.readers.map (fun y => if y.no = no then { y with cursor := cursor } else y) }
  obtain ⟨hslide, -, hobj⟩ := d.slideReel_reel r.id
  have hd : d.reel r.id = some { r with readers := r.readers.map (fun y => if y.no = no then { y with cursor := cursor } else y) } := by
    rw [show d.reel r.id = _ from Chip.reel_onReel fun _ => rfl, h]
    rfl
  obtain ⟨held, hheld⟩ := hslide _ hd
  exact ⟨⟨_, hheld, rfl⟩, Chip.cmds_of_reels hobj⟩

theorem Chip.runReelLeave_reads (h : ∃ x ∈ r.readers, x.no = fieldAt e 18 1) :
    c.runReelLeave id e r = (c.dropReader r.id (fieldAt e 18 1)).finish id stOk := if_pos (by simpa using h)

end

/-! ### What the commands of reels leave -/

section
variable {s : State} {i : Instr} {path : CmdPath} {e : CmdEntry} {o : Obj} {r : Reel} (hi : exec i s = s.onChip fun c => c.command path e)
  (hruns : s.chip.runsOn path e o)
include hi hruns

theorem completes_reelOpen (hop : opcodeOf e = 0x20) :
    let rid := lowestFree (s.chip.obj.reels.map (·.id)) 0 s.chip.obj.reels.length
    let last := fieldAt e 16 8 + (reelCount e o - 1) * fieldAt e 32 2
    let ends (st detail : Nat) : Prop := Completes i s fun c => c.answered s.chip.obj.nextCmd path e st detail ∧ s.chip.keepsBut [.obj] c
    (objSegs o ≤ fieldAt e 16 8 → ends stField 16) ∧ (fieldAt e 16 8 < objSegs o → objSegs o ≤ last → ends stField 24) ∧
    (fieldAt e 16 8 < objSegs o → last < objSegs o → (256 ≤ rid → ends stNoReel 0) ∧
      (rid < 256 → s.chip.reelLimit < s.chip.reelFrames + fieldAt e 34 2 → ends stReelLimit 0) ∧
      (rid < 256 → s.chip.reelFrames + fieldAt e 34 2 ≤ s.chip.reelLimit → Completes i s fun c =>
        c.obj.reels = s.chip.obj.reels ++ [newReel rid (objOf e) e o] ∧ c.answered s.chip.obj.nextCmd path e stOk 0 [(16, 2, rid), (18, 1, 0)] ∧
        s.chip.keepsBut [.obj] c)) := by
  intro rid last ends
  have hn : s.chip.cmd s.chip.obj.nextCmd = none := hruns.1.2.2.2.2
  obtain ⟨-, -, -, -, -, -, -, -, -, hopen, -⟩ := Chip.command_works (by rw [hop]; rfl) hruns
  have hw := hopen hop
  obtain ⟨hstart, hlast, hroom⟩ := Chip.runReelOpen_outcomes (c := s.chip.atWork path e o) (id := s.chip.obj.nextCmd) (obj := objOf e) (e := e) (o := o)
  refine ⟨fun h => completes_refused hi hn (hw.trans (hstart h)), fun h1 h2 => completes_refused hi hn (hw.trans (hlast h1 h2)), fun h1 h2 => ?_⟩
  obtain ⟨hnone, hlimit, hmade⟩ := hroom h1 h2
  refine ⟨fun h => completes_refused hi hn (hw.trans (hnone h)), fun h h' => completes_refused hi hn (hw.trans (hlimit h h')), fun h h' => ?_⟩
  refine (completes_done (l := [.obj]) hi hn (Chip.Flows.refl _).onObj (Chip.cmd_of_cmds rfl _) (hw.trans (hmade h h'))).imp fun c ⟨hans, hc, hk⟩ => ⟨?_, hans, hk⟩
  rw [hc]
  rfl

section
variable (hr : s.chip.reel (fieldAt e 16 2) = some r) (hobj : r.obj = objOf e)
include hr hobj

omit hi in
theorem reel_work (hop : opcodeOf e = 0x21 ∨ opcodeOf e = 0x22 ∨ opcodeOf e = 0x23) :
    s.chip.reel r.id = some r ∧ (opcodeOf e = 0x21 → s.chip.command path e = (s.chip.atWork path e o).runReelJoin s.chip.obj.nextCmd r) ∧
      (opcodeOf e = 0x22 → s.chip.command path e = (s.chip.atWork path e o).runReelAdvance s.chip.obj.nextCmd e r) ∧
      (opcodeOf e = 0x23 → s.chip.command path e = (s.chip.atWork path e o).runReelLeave s.chip.obj.nextCmd e r) := by
  obtain ⟨-, -, -, -, -, -, -, -, -, -, hreels⟩ := Chip.command_works (by rcases hop with h | h | h <;> rw [h] <;> rfl) hruns
  refine ⟨?_, (hreels hop).2 r hr hobj⟩
  rw [Chip.reel_id hr, hr]

theorem completes_reelJoin (hop : opcodeOf e = 0x21) (hfree : lowestFree (r.readers.map (·.no)) 0 r.readers.length < 32) :
    let no := lowestFree (r.readers.map (·.no)) 0 r.readers.length
    Completes i s fun c => (∃ q, c.reel r.id = some q ∧ q = { r with readers := r.readers ++ [{ no := no, cursor := r.minCursor }] }) ∧
      c.answered s.chip.obj.nextCmd path e stOk 0 [(18, 1, no), (24, 8, r.minCursor)] ∧ s.chip.keepsBut [.obj] c := by
  intro no
  have hn : s.chip.cmd s.chip.obj.nextCmd = none := hruns.1.2.2.2.2
  obtain ⟨hreel, hjoin, -⟩ := reel_work hruns hr hobj (.inl hop)
  refine (completes_done (l := [.obj]) hi hn (Chip.Flows.refl _).onReel (Chip.cmd_of_cmds rfl _) ((hjoin hop).trans (Chip.runReelJoin_free hfree))).imp
    fun c ⟨hans, hc, hk⟩ => ⟨⟨_, ?_, rfl⟩, hans, hk⟩
  rw [Chip.reel_of_cmds hc, Chip.reel_onReel (by intro; rfl), show (s.chip.atWork path e o).reel r.id = some r from hreel]
  rfl

theorem completes_reelAdvance (hop : opcodeOf e = 0x22) {x : Reader} (hx : r.readers.find? (fun y => decide (y.no = fieldAt e 18 1)) = some x) :
    (fieldAt e 24 8 < x.cursor ∨ r.count ≤ fieldAt e 24 8 → Completes i s fun c => c.answered s.chip.obj.nextCmd path e stField 24 ∧ s.chip.keepsBut [.obj] c) ∧
    (x.cursor ≤ fieldAt e 24 8 → fieldAt e 24 8 < r.count → Completes i s fun c =>
      (∃ q, c.reel r.id = some q ∧ q.readers = r.readers.map (fun y => if y.no = x.no then { y with cursor := fieldAt e 24 8 } else y) ∧
        c.answered s.chip.obj.nextCmd path e stOk 0 [(32, 8, q.minCursor)]) ∧ s.chip.keepsBut [.obj, .cache, .outs] c) := by
  have hn : s.chip.cmd s.chip.obj.nextCmd = none := hruns.1.2.2.2.2
  obtain ⟨hreel, -, hadvance, -⟩ := reel_work hruns hr hobj (.inr (.inl hop))
  obtain ⟨hback, hon⟩ := Chip.runReelAdvance_outcomes (c := s.chip.atWork path e o) (id := s.chip.obj.nextCmd) hx
  refine ⟨fun h => completes_refused hi hn ((hadvance hop).trans (hback h)), fun h h' => ?_⟩
  obtain ⟨⟨q, hq, hreaders⟩, hcmds⟩ := Chip.readerAt_reel (c := s.chip.atWork path e o) hreel x.no (fieldAt e 24 8)
  have hw := (hadvance hop).trans (hon h h')
  rw [hq, Option.map_some, Option.getD_some] at hw
  refine (completes_done (l := [.obj, .cache, .outs]) hi hn (Chip.readerAt_flows ..) (Chip.cmd_of_cmds hcmds _) hw).imp
    fun c ⟨hans, hc, hk⟩ => ⟨⟨q, ?_, hreaders, hans⟩, hk⟩
  rw [Chip.reel_of_cmds hc, hq]

theorem completes_reelLeave (hop : opcodeOf e = 0x23) (hx : ∃ x ∈ r.readers, x.no = fieldAt e 18 1) :
    Completes i s fun c => c.answered s.chip.obj.nextCmd path e stOk ∧ (∀ q, c.reel r.id = some q → ∀ x ∈ q.readers, x.no ≠ fieldAt e 18 1) ∧
      ((∀ x ∈ r.readers, x.no = fieldAt e 18 1) → c.reel r.id = none) ∧ s.chip.keepsBut [.obj, .cache, .outs] c := by
  have hn : s.chip.cmd s.chip.obj.nextCmd = none := hruns.1.2.2.2.2
  obtain ⟨hreel, -, -, hleave⟩ := reel_work hruns hr hobj (.inr (.inr hop))
  obtain ⟨hleft, hlast, hdrop⟩ := (s.chip.atWork path e o).dropReader_reel r.id (fieldAt e 18 1)
  refine (completes_done (l := [.obj, .cache, .outs]) hi hn (Chip.Flows.refl _).dropReader (Chip.cmd_of_cmds (Chip.cmds_of_reels hdrop) _)
    ((hleave hop).trans (Chip.runReelLeave_reads hx))).imp fun c ⟨hans, hc, hk⟩ => ⟨hans, ?_, fun hall => ?_, hk⟩
  · rw [Chip.reel_of_cmds hc]
    exact hleft
  · rw [Chip.reel_of_cmds hc]
    exact hlast r hreel hall

end

end

end Sys2Proof.Machine
end

section
/-! Prefetched positions of a reel (02 R69; 04 R111, R131), and the doorbell, reset and delay of a cue ring (02 R65, R66, R68; 03 R96). -/

namespace Sys2Proof.Machine

set_option Elab.async false

/-! ### A segment brought in for a reel -/

section
variable {c : Chip} {f seg : Nat}

/-- A frame whose holds stay, and that stays a pinned one or not. -/
def Frame.heldAs (x y : Frame) : Prop := y.holds = x.holds ∧ (y.kind = .pin ↔ x.kind = .pin)

theorem Frame.heldAs.trans {x y z : Frame} (h : x.heldAs y) (k : y.heldAs z) : x.heldAs z := ⟨k.1.trans h.1, k.2.trans h.2⟩

theorem Chip.frame_onFrame_same (c : Chip) (f : Nat) (g : Frame → Frame) : (c.onFrame f g).frame f = g (c.frame f) := by
  unfold Chip.onFrame
  rw [Chip.frame_setFrame, if_pos rfl]

/-- A frame that stops leaving is clean again; the other kinds stay. -/
theorem kind_pin_iff (k : Kind) : (if k = .evicting then Kind.clean else k) = .pin ↔ k = .pin := by
  cases k <;> simp

theorem Chip.frame_queueMiss (c : Chip) (line f : Nat) (readers : List Req) (cause : Nat) :
    (c.frame f).heldAs ((c.queueMiss line (some f) readers cause).frame f) := by
  have h : (c.queueMiss line (some f) readers cause).frame f = (c.onFrame f fun x =>
      { x with kind := if x.kind = .evicting then .clean else x.kind, pending := setBit x.pending (lineSector line) }).frame f := rfl
  rw [h, Chip.frame_onFrame_same]
  exact ⟨rfl, kind_pin_iff _⟩

/-- A resident segment is brought in where it is. -/
theorem Chip.bringIn_resident (h : c.lookup seg = some f) (cause : Nat) :
    (c.bringIn seg cause).1 = some f ∧ (c.frame f).heldAs ((c.bringIn seg cause).2.frame f) := by
  unfold Chip.bringIn
  rw [h]
  refine ⟨rfl, ?_⟩
  have hfirst : (c.frame f).heldAs ((c.onFrame f fun x => { x with kind := if x.kind = .evicting then .clean else x.kind }).frame f) := by
    rw [Chip.frame_onFrame_same]
    exact ⟨rfl, kind_pin_iff _⟩
  dsimp only
  generalize (c.onFrame f fun x => { x with kind := if x.kind = .evicting then .clean else x.kind }) = d at hfirst
  generalize List.filter _ (List.range 64) = need
  induction need generalizing d with
  | nil => exact hfirst
  | cons n r ih => exact ih _ (hfirst.trans (d.frame_queueMiss ..))

theorem Chip.Flows.bringInHold {l : List Grp} {a : Chip} (k : a.Flows l c) (hl : ∀ g ∈ [Grp.cache, .ring], g ∈ l := by decide) :
    a.Flows l (c.bringInHold seg).2 := by
  have hc : Grp.cache ∈ l := hl _ (by simp)
  have h : a.Flows l (c.bringIn seg 6).2 := k.bringIn hl
  unfold Chip.bringInHold
  split
  · next g d heq =>
    have hd : a.Flows l d := by rwa [heq] at h
    split
    · exact hd
    · dsimp only
      exact Chip.Flows.cacheOnly hd (Chip.CacheOnly.refl d).onFrame hc
  · next heq =>
    rw [heq] at h
    exact h

/-- A resident segment that is not pinned is held once more. -/
theorem Chip.bringInHold_resident (h : c.lookup seg = some f) (hp : (c.frame f).kind ≠ .pin) :
    (c.bringInHold seg).1 = true ∧ ((c.bringInHold seg).2.frame f).holds = (c.frame f).holds + 1 := by
  obtain ⟨hgot, hheld, hpin⟩ := Chip.bringIn_resident h 6
  unfold Chip.bringInHold
  split
  · next g d heq =>
    rw [heq] at hgot hheld hpin
    cases hgot
    rw [if_neg (fun hk => hp (hpin.1 hk))]
    refine ⟨rfl, ?_⟩
    rw [Chip.frame_onFrame_same]
    exact congrArg (· + 1) hheld
  · next heq =>
    rw [heq] at hgot
    cases hgot

end

/-! ### Prefetch -/

/-- A position of a reel is brought in and held. -/
def Chip.prefetched (c : Chip) (reel pos : Nat) : Chip :=
  match c.reel reel with
  | none => c
  | some r =>
    if r.held.contains pos || !decide (r.minCursor ≤ pos ∧ pos < r.minCursor + r.window ∧ pos < r.count) || c.dolly.paused then c
    else if !c.homeHere (c.reelSeg r pos) then (if c.paired then c.sendTwin (.tableUpdate (.reelHold (c.reelSeg r pos) true)) else c)
    else
      if (c.bringInHold (c.reelSeg r pos)).1 then
        (c.bringInHold (c.reelSeg r pos)).2.onReel reel fun q => { q with held := insertNat q.held pos }
      else (c.bringInHold (c.reelSeg r pos)).2

theorem exec_reelPrefetch (reel pos : Nat) (s : State) : exec (.reelPrefetch reel pos) s = s.onChip fun c => c.prefetched reel pos := rfl

section
variable {s : State} {reel pos : Nat} {r : Reel} (hr : s.chip.reel reel = some r)
include hr

theorem completes_prefetch_kept (h : pos ∈ r.held ∨ pos < r.minCursor ∨ r.minCursor + r.window ≤ pos ∨ r.count ≤ pos ∨ s.chip.dolly.paused = true) :
    Completes (.reelPrefetch reel pos) s s.chip.untouched := by
  refine untouched_of (exec_reelPrefetch reel pos s) ?_
  unfold Chip.prefetched
  rw [hr]
  refine if_pos ?_
  simp only [Bool.or_eq_true, List.contains_iff_mem, Bool.not_eq_true', decide_eq_false_iff_not]
  rcases h with h | h | h | h | h
  · exact .inl (.inl h)
  · exact .inl (.inr (by omega))
  · exact .inl (.inr (by omega))
  · exact .inl (.inr (by omega))
  · exact .inr h

variable (hheld : pos ∉ r.held) (hlo : r.minCursor ≤ pos) (hhi : pos < r.minCursor + r.window) (hcount : pos < r.count)
  (hpause : s.chip.dolly.paused = false)
include hheld hlo hhi hcount hpause

theorem Chip.prefetched_new : s.chip.prefetched reel pos =
    if !s.chip.homeHere (s.chip.reelSeg r pos) then
      (if s.chip.paired then s.chip.sendTwin (.tableUpdate (.reelHold (s.chip.reelSeg r pos) true)) else s.chip)
    else
      if (s.chip.bringInHold (s.chip.reelSeg r pos)).1 then
        (s.chip.bringInHold (s.chip.reelSeg r pos)).2.onReel reel fun q => { q with held := insertNat q.held pos }
      else (s.chip.bringInHold (s.chip.reelSeg r pos)).2 := by
  unfold Chip.prefetched
  rw [hr]
  refine if_neg ?_
  simp [hheld, hlo, hhi, hcount, hpause]

theorem completes_prefetch_away (hhome : s.chip.homeHere (s.chip.reelSeg r pos) = false) : Completes (.reelPrefetch reel pos) s fun c =>
    (s.chip.paired = true → s.chip.linkReady = true → s.chip.told c (.tableUpdate (.reelHold (s.chip.reelSeg r pos) true))) ∧ s.chip.keepsBut [.outs] c := by
  have hnew := Chip.prefetched_new hr hheld hlo hhi hcount hpause
  rw [hhome] at hnew
  refine .of_onChip (exec_reelPrefetch reel pos s) (hnew.trans (if_pos rfl)) ⟨fun hp hl => Chip.told_ended ?_, Chip.keepsBut_ended ?_⟩
  · rw [if_pos hp]
    exact Chip.told_sendTwin List.prefix_rfl hl _ _ _ _ _ _ _
  · exact ((Chip.Flows.refl (l := [.outs]) s.chip).sendTwin.ite (.refl _)).keeps

theorem completes_prefetch_here (hhome : s.chip.homeHere (s.chip.reelSeg r pos) = true) : Completes (.reelPrefetch reel pos) s fun c =>
    (∀ q, c.reel reel = some q → q.held = r.held ∨ q.held = insertNat r.held pos) ∧
    (∀ f, s.chip.lookup (s.chip.reelSeg r pos) = some f → (s.chip.frame f).kind ≠ .pin →
      (c.frame f).holds = (s.chip.frame f).holds + 1 ∧ ∃ q, c.reel reel = some q ∧ q.held = insertNat r.held pos) ∧
    s.chip.keepsBut [.obj, .cache, .ring] c := by
  let d := (s.chip.bringInHold (s.chip.reelSeg r pos)).2
  have hd : s.chip.Flows [.cache, .ring] d := (Chip.Flows.refl s.chip).bringInHold
  have hreel : d.reel reel = some r := (Chip.reel_of_obj hd.keeps.obj_eq reel).trans hr
  have hmarked : (d.onReel reel fun q => { q with held := insertNat q.held pos }).reel reel = some { r with held := insertNat r.held pos } := by
    rw [Chip.reel_onReel (by intro; rfl), hreel]
    rfl
  have hnew := Chip.prefetched_new hr hheld hlo hhi hcount hpause
  rw [hhome, Bool.not_true, if_neg Bool.false_ne_true] at hnew
  refine .of_onChip (exec_reelPrefetch reel pos s) hnew ⟨fun q hq => ?_, fun f hf hp => ?_, Chip.keepsBut_ended ?_⟩
  · rw [Chip.reel_of_obj (Chip.ended_obj ..)] at hq
    split at hq
    · cases hmarked.symm.trans hq
      exact .inr rfl
    · cases hreel.symm.trans hq
      exact .inl rfl
  · obtain ⟨hgot, hholds⟩ := Chip.bringInHold_resident hf hp
    rw [if_pos hgot]
    refine ⟨?_, _, (Chip.reel_of_obj (Chip.ended_obj ..) _).trans hmarked, rfl⟩
    rw [← hholds]
    unfold Chip.frame Chip.lockedScratch Chip.lockedPin
    simp only [Chip.ended_cache]
    rfl
  · exact ((hd.mono (m := [.obj, .cache, .ring])).onReel.ite hd.mono).keeps

end

/-- A reader that stalls is taken off. -/
theorem completes_stalled (s : State) (reel reader : Nat) : Completes (.reelStallTimeout reel reader) s fun c =>
    (∀ q, c.reel reel = some q → ∀ x ∈ q.readers, x.no ≠ reader) ∧ c.obj = { s.chip.obj with reels := c.obj.reels } ∧
    s.chip.keepsBut [.obj, .cache, .outs] c := by
  obtain ⟨hleft, -, hobj⟩ := s.chip.dropReader_reel reel reader
  refine .of_onChip (f := fun c => c.dropReader reel reader) rfl rfl ⟨?_, ?_, Chip.keepsBut_ended (Chip.Flows.refl s.chip).dropReader.keeps⟩
  · rw [Chip.reel_of_obj (Chip.ended_obj ..)]
    exact hleft
  · rw [Chip.ended_obj]
    exact hobj

/-! ### The cue ring -/

section
variable {s : State} {i : Instr} {h : HeadNo} {f : Chip → Chip}

/-- A cue ring that changes at one head: the other heads stay, and so does the rest of the chip. -/
theorem completes_cue (g : Cue → Cue) (hi : exec i s = s.onChip f) (hf : f s.chip = s.chip.onHead h fun d => { d with cue := g d.cue }) :
    Completes i s fun c => (c.head h = { s.chip.head h with cue := g (s.chip.head h).cue } ∧ ∀ k, k ≠ h → c.head k = s.chip.head k) ∧
      s.chip.keepsBut [.heads] c := by
  refine .of_onChip hi hf ⟨⟨?_, fun k hk => ?_⟩, Chip.keepsBut_ended ((Chip.keepsBut_refl _ _).onHead h _ (by decide))⟩
  · rw [Chip.ended_head, Chip.head_onHead_same]
  · rw [Chip.ended_head, Chip.head_onHead_ne _ _ _ hk]

/-- With no command that waits none starts. -/
theorem Chip.startWaiting_idle {c : Chip} (hw : ∀ r ∈ c.obj.cmds, r.waits = false) : c.startWaiting = c := by
  have hnone : c.obj.cmds.filter (·.waits) = [] := List.filter_eq_nil_iff.2 fun r hr => by simp [hw r hr]
  unfold Chip.startWaiting
  rw [hnone]
  rfl

/-- A doorbell at HEAD reads no entry. -/
theorem Chip.cueTail_empty {c : Chip} {tail : BitVec 8} (he : (c.head h).cue.enable = true) (hb : (c.head h).cue.resetBusy = false)
    (ht : tail = (c.head h).cue.head) (hw : ∀ r ∈ c.obj.cmds, r.waits = false) :
    c.cueTail h tail = c.onHead h fun d => { d with cue := { d.cue with tail := tail } } := by
  have hread : (c.onHead h fun d => { d with cue := { d.cue with tail := tail } }).cueRead h 256 =
      c.onHead h fun d => { d with cue := { d.cue with tail := tail } } := by
    refine if_pos ?_
    rw [Chip.head_onHead_same]
    exact ht.symm
  unfold Chip.cueTail
  dsimp only
  rw [he, hb, hread]
  exact Chip.startWaiting_idle (c := c.onHead h fun d => { d with cue := { d.cue with tail := tail } }) hw

theorem completes_cueTail {tail : BitVec 8} (ho : s.chip.windowOpen h = true) :
    ((s.chip.head h).cue.enable = false ∨ (s.chip.head h).cue.resetBusy = true → Completes (.cueTail h tail) s fun c =>
      (c.head h = { s.chip.head h with cue := { (s.chip.head h).cue with tailErr := true } } ∧ ∀ k, k ≠ h → c.head k = s.chip.head k) ∧
        s.chip.keepsBut [.heads] c) ∧
    ((s.chip.head h).cue.enable = true → (s.chip.head h).cue.resetBusy = false → tail = (s.chip.head h).cue.head →
      (∀ r ∈ s.chip.obj.cmds, r.waits = false) → Completes (.cueTail h tail) s fun c =>
        (c.head h = { s.chip.head h with cue := { (s.chip.head h).cue with tail := tail } } ∧ ∀ k, k ≠ h → c.head k = s.chip.head k) ∧
          s.chip.keepsBut [.heads] c) := by
  refine ⟨fun hoff => completes_cue (f := fun c => if c.windowOpen h then c.cueTail h tail else c) (fun q => { q with tailErr := true }) rfl ?_,
    fun he hb ht hw => completes_cue (f := fun c => if c.windowOpen h then c.cueTail h tail else c) (fun q => { q with tail := tail }) rfl ?_⟩
  · exact (if_pos ho).trans (if_pos (by simpa using hoff))
  · exact (if_pos ho).trans (Chip.cueTail_empty he hb ht hw)

theorem completes_cueResetDone : CompletesIf (.cueResetDone h) s ((s.chip.head h).cue.resetBusy = true ∧ s.chip.ringCmds h = []) fun c =>
    (c.head h = { s.chip.head h with cue := { (s.chip.head h).cue with head := 0, tail := 0, expPhase := true, resetBusy := false } } ∧
      ∀ k, k ≠ h → c.head k = s.chip.head k) ∧ s.chip.keepsBut [.heads] c := by
  let row (c : Chip) : Chip := if (c.head h).cue.resetBusy && (c.ringCmds h).isEmpty then
    c.onHead h fun d => { d with cue := { d.cue with head := 0, tail := 0, expPhase := true, resetBusy := false } } else c
  unfold CompletesIf
  split
  · next hc =>
    exact completes_cue (f := row) (fun q => { q with head := 0, tail := 0, expPhase := true, resetBusy := false }) rfl (if_pos (by simpa using hc))
  · next hc => exact untouched_of (f := row) rfl (if_neg (by simpa using hc))

theorem Chip.head_emitted (c : Chip) (x : Output) (k : HeadNo) : (c.emit x).head k = c.head k := rfl

theorem completes_cueCoalesceExpired : CompletesIf (.cueCoalesceExpired h) s ((s.chip.head h).cue.delaying = true) fun c =>
    (c.head h = { s.chip.head h with cue := { (s.chip.head h).cue with delaying := false } } ∧ ∀ k, k ≠ h → c.head k = s.chip.head k) ∧
      c.outs = s.chip.outs ++ [.msix h 2] ∧ s.chip.keepsBut [.heads, .outs] c := by
  let row (c : Chip) : Chip := if (c.head h).cue.delaying then
    (c.onHead h fun d => { d with cue := { d.cue with delaying := false } }).emit (.msix h 2) else c
  unfold CompletesIf
  split
  · next hc =>
    refine .of_onChip (f := row) rfl (if_pos hc) ⟨⟨?_, fun k hk => ?_⟩, Chip.ended_outs .., Chip.keepsBut_ended ?_⟩
    · rw [Chip.ended_head, Chip.head_emitted, Chip.head_onHead_same]
    · rw [Chip.ended_head, Chip.head_emitted, Chip.head_onHead_ne _ _ _ hk]
    · exact ((Chip.keepsBut_refl _ _).onHead h _ (by decide)).emit _ (by decide)
  · next hc => exact untouched_of (f := row) rfl (if_neg hc)

end

end Sys2Proof.Machine

open Sys2Proof Sys2Proof.Machine

/-- Settles O28. The rows of the reels go by the reel found under its identifier; those of the cue ring change one head. -/
theorem rings : Obligations.Rings := by
  refine ⟨fun s path entry o => ?_, fun s h tail => ?_⟩
  · intro id
    refine ⟨?_, ?_, ?_, ?_, ?_, completes_stalled s, fun reel pos => ⟨fun hr => ?_, fun r hr => ⟨?_, ?_⟩⟩⟩
    · intro e start stride count rid ends hruns
      have hop : opcodeOf e = 0x20 := opcodeOf_asOp (by decide) entry
      have hi : exec (.reelOpen path entry) s = s.onChip fun c => c.command path e := rfl
      clear_value e
      exact completes_reelOpen hi hruns hop
    · intro op i hrow e hruns hno
      have hrow' : (i, op) ∈ objectRows path entry ∧ (op = 0x21 ∨ op = 0x22 ∨ op = 0x23) := by
        simp only [List.mem_cons, Prod.mk.injEq, List.not_mem_nil, or_false] at hrow
        rcases hrow with ⟨rfl, rfl⟩ | ⟨rfl, rfl⟩ | ⟨rfl, rfl⟩ <;> simp [objectRows]
      obtain ⟨hlt, hknown⟩ := objectRows_op hrow'.1
      have hop : opcodeOf e = op := opcodeOf_asOp hlt entry
      have hi : exec i s = s.onChip fun c => c.command path e := exec_objectRow hrow'.1 s
      clear_value e
      obtain ⟨-, -, -, -, -, -, -, -, -, -, hreels⟩ := Chip.command_works (by rw [hop]; exact hknown) hruns
      exact completes_refused hi hruns.1.2.2.2.2 ((hreels (by rw [hop]; exact hrow'.2)).1 hno)
    · intro e r hruns hr hobj hfree no
      have hop : opcodeOf e = 0x21 := opcodeOf_asOp (by decide) entry
      have hi : exec (.reelJoin path entry) s = s.onChip fun c => c.command path e := rfl
      clear_value e
      exact completes_reelJoin hi hruns hr hobj hop hfree
    · intro e r x hruns hr hobj hx
      have hop : opcodeOf e = 0x22 := opcodeOf_asOp (by decide) entry
      have hi : exec (.reelAdvance path entry) s = s.onChip fun c => c.command path e := rfl
      clear_value e
      exact completes_reelAdvance hi hruns hr hobj hop hx
    · intro e r hruns hr hobj hx
      have hop : opcodeOf e = 0x23 := opcodeOf_asOp (by decide) entry
      have hi : exec (.reelLeave path entry) s = s.onChip fun c => c.command path e := rfl
      clear_value e
      exact completes_reelLeave hi hruns hr hobj hop hx
    · refine untouched_of (exec_reelPrefetch reel pos s) ?_
      unfold Chip.prefetched
      rw [hr]
    · exact completes_prefetch_kept hr
    · intro hheld hlo hhi hcount hpause
      exact ⟨completes_prefetch_away hr hheld hlo hhi hcount hpause, completes_prefetch_here hr hheld hlo hhi hcount hpause⟩
  · refine ⟨fun hclosed => ⟨?_, ?_⟩, fun hopen => ?_, completes_cueResetDone, completes_cueCoalesceExpired⟩
    · exact untouched_of (f := fun c => if c.windowOpen h then c.cueTail h tail else c) rfl (if_neg (by simp [hclosed]))
    · exact untouched_of (f := fun c => if c.windowOpen h then c.cueReset h else c) rfl (if_neg (by simp [hclosed]))
    · exact ⟨completes_cue (f := fun c => if c.windowOpen h then c.cueReset h else c) (fun q => { q with resetBusy := true }) rfl (if_pos hopen),
        (completes_cueTail hopen).1, (completes_cueTail hopen).2⟩
end

section
/-! The release of a range of segments (02 R56, R60, R61; 04 R132): what waits, what settles, and the frames that go. -/

namespace Sys2Proof.Machine

set_option Elab.async false

/-! ### What of the cache stays -/

/-- What `g` reads of the cache stays. -/
def Chip.CacheKeeps {α : Type} (g : Cache → α) (a c : Chip) : Prop := g c.cache = g a.cache

/-- The frames, and the requests that wait in the cache. -/
def Cache.resident (k : Cache) : SMap Frame × (List Req × List Req × List Waiter) := (k.frames, k.queues)

section
variable {α : Type} {g : Cache → α} {a c : Chip}

theorem Chip.CacheKeeps.refl (a : Chip) : a.CacheKeeps g a := rfl

variable (k : a.CacheKeeps g c)
include k

theorem Chip.CacheKeeps.trans {d : Chip} (j : c.CacheKeeps g d) : a.CacheKeeps g d := Eq.trans j k

theorem Chip.CacheKeeps.flows {l : List Grp} {d : Chip} (h : c.Flows l d) (hl : Grp.cache ∉ l := by decide) : a.CacheKeeps g d :=
  k.trans (congrArg g (h.keeps.cache_eq hl))

theorem Chip.CacheKeeps.onCache {f : Cache → Cache} (hf : ∀ x, g (f x) = g x := by intro; rfl) : a.CacheKeeps g (c.onCache f) := k.trans (hf _)

theorem Chip.CacheKeeps.ite {d : Chip} {p : Prop} {_ : Decidable p} (j : a.CacheKeeps g d) : a.CacheKeeps g (if p then c else d) := by
  split
  · exact k
  · exact j

theorem Chip.CacheKeeps.foldl {β : Type} {xs : List β} {f : Chip → β → Chip} (hf : ∀ d x, a.CacheKeeps g d → a.CacheKeeps g (f d x)) :
    a.CacheKeeps g (xs.foldl f c) := by
  induction xs generalizing c with
  | nil => exact k
  | cons x r ih => exact ih (hf c x k)

end

section
variable {a c : Chip}

theorem Chip.CacheKeeps.queues (k : a.CacheKeeps Cache.resident c) : a.CacheKeeps Cache.queues c := congrArg Prod.snd k

theorem Chip.CacheKeeps.frames (k : a.CacheKeeps Cache.resident c) : c.cache.frames = a.cache.frames := congrArg Prod.fst k

theorem Chip.CacheKeeps.credit (k : a.CacheKeeps Cache.queues c) : c.cache.creditQ = a.cache.creditQ := congrArg (fun q => q.2.2) k

theorem Chip.CacheKeeps.merge (k : a.CacheKeeps Cache.queues c) : c.cache.mergeQ = a.cache.mergeQ := congrArg (fun q => q.2.1) k

theorem Chip.CacheKeeps.cacheOnly {d : Chip} (k : a.CacheKeeps Cache.queues c) (h : c.CacheOnly d) : a.CacheKeeps Cache.queues d := k.trans h.queues

theorem Chip.CacheKeeps.addOp {o : WbOp} (k : a.CacheKeeps Cache.resident c) : a.CacheKeeps Cache.resident (c.addOp o) := k.onCache

theorem Chip.CacheKeeps.mapWrite {n : Nat} (k : a.CacheKeeps Cache.resident c) : a.CacheKeeps Cache.resident (c.mapWrite n) := k.ite k.addOp.addOp

theorem Chip.CacheKeeps.tableChanged (k : a.CacheKeeps Cache.resident c) : a.CacheKeeps Cache.resident c.tableChanged := by
  have h : a.CacheKeeps Cache.resident (c.onMed fun m => { m with tableGen := m.tableGen + 1 }) := k.flows (l := [.med]) (Chip.Flows.refl c).onMed
  exact h.foldl fun _ _ h => h.ite h.addOp

theorem Chip.CacheKeeps.putObj {i : Nat} {o : Obj} (k : a.CacheKeeps Cache.resident c) : a.CacheKeeps Cache.resident (c.putObj i o) := by
  have h1 : a.CacheKeeps Cache.resident (c.onObj fun x => { x with table := x.table.put i o }) := k.flows (l := [.obj]) (Chip.Flows.refl c).onObj
  unfold Chip.putObj Chip.descInval
  exact ((h1.tableChanged.flows (l := [.outs]) (Chip.Flows.refl _).sendTwin).onCache).flows (l := [.outs]) (Chip.Flows.refl _).sendTwin

theorem Chip.CacheKeeps.zeroSlot {p : Slot} (k : a.CacheKeeps Cache.resident c) : a.CacheKeeps Cache.resident (c.zeroSlot p) := by
  unfold Chip.zeroSlot
  extract_lets n next c1 c2
  have h0 : a.CacheKeeps Cache.resident (c.endMaterialise p) := by
    unfold Chip.endMaterialise
    exact k.onCache
  have h1 : a.CacheKeeps Cache.resident c1 := h0.flows (l := [.med]) (Chip.Flows.refl _).onMed
  have h2 : a.CacheKeeps Cache.resident c2 := h1.ite h1.addOp
  exact h2.mapWrite.ite h2

theorem Chip.CacheKeeps.clearWritten {first count : Nat} (k : a.CacheKeeps Cache.resident c) : a.CacheKeeps Cache.resident (c.clearWritten first count) := by
  refine k.foldl fun _ _ h => h.zeroSlot.ite (h.ite ?_)
  exact (h.foldl fun d _ h => h.flows (l := [.med]) (Chip.Flows.refl d).setMap).mapWrite

theorem Chip.CacheKeeps.closeReels {p : Reel → Bool} (k : a.CacheKeeps Cache.queues c) : a.CacheKeeps Cache.queues (c.closeReels p) := by
  refine k.foldl fun d r h => ?_
  unfold Chip.closeReel
  split
  · exact h
  · refine Chip.CacheKeeps.flows (l := [.obj]) (c := d.dropHolds _) ?_ (Chip.Flows.refl _).onObj
    unfold Chip.dropHolds
    refine h.foldl fun d x h => (h.flows (l := [.outs]) (Chip.Flows.refl d).sendTwin).ite ?_
    split
    · exact h.ite (h.cacheOnly (Chip.CacheOnly.refl d).onFrame)
    · exact h

theorem Chip.CacheKeeps.discardSegs {first count : Nat} {release : Bool} (k : a.CacheKeeps Cache.queues c) :
    a.CacheKeeps Cache.queues (c.discardSegs first count release) := by
  unfold Chip.discardSegs
  extract_lets inR fs c1 c2
  have h1 : c.CacheOnly c1 := (Chip.CacheOnly.refl c).foldl fun _ _ h => h.clearFrame.ite h.freeFrame
  have h2 : a.CacheKeeps Cache.queues c2 := (k.cacheOnly h1).onCache
  exact h2.flows (l := [.integ]) (Chip.Flows.refl c2).onInteg

theorem Chip.CacheKeeps.zeroSegs {first count : Nat} {release : Bool} (k : a.CacheKeeps Cache.queues c) :
    a.CacheKeeps Cache.queues (c.zeroSegs first count release) := by
  have h : (c.discardSegs first count release).CacheKeeps Cache.resident ((c.discardSegs first count release).clearWritten first count) :=
    (Chip.CacheKeeps.refl _).clearWritten
  exact (k.discardSegs.trans h.queues).flows (l := poisonGrps) (Chip.Flows.refl _).clearPoisonRange

end

/-! ### What settles where nothing waits -/

section
variable {c : Chip}

/-- Where no write waits for credits or for a merge entry only squall mode and the panic signal are evaluated. -/
theorem Chip.settle_quiet (hcredit : c.cache.creditQ = []) (hmerge : c.cache.mergeQ = []) : c.settle = c.evalSquall.evalPanic := by
  obtain ⟨-, hm, hc, -⟩ := Cache.queues_of_core c.evalSquall_core
  unfold Chip.settle
  dsimp only
  rw [hc, hcredit]
  show (c.evalSquall.serveMerges c.evalSquall.cache.mergeQ.length).evalPanic = _
  rw [hm, hmerge]
  rfl

theorem Chip.evalPanic_flows (c : Chip) : c.Flows [.hbm, .ring] c.evalPanic := (Chip.Flows.refl c).evalPanic

/-- Then the frames stay. -/
theorem Chip.settle_frames (hcredit : c.cache.creditQ = []) (hmerge : c.cache.mergeQ = []) : c.settle.cache.frames = c.cache.frames := by
  rw [Chip.settle_quiet hcredit hmerge, (Chip.evalPanic_flows _).keeps.cache_eq]
  have h := congrArg Cache.frames c.evalSquall_core
  exact h

/-- The medium and the poison records stay too. -/
theorem Chip.settle_keeps (hcredit : c.cache.creditQ = []) (hmerge : c.cache.mergeQ = []) : c.settle.med = c.med ∧ c.settle.integ = c.integ := by
  have h : c.Flows (.hbm :: squallGrps) c.evalSquall.evalPanic := (Chip.Flows.refl c).evalSquall.evalPanic
  rw [Chip.settle_quiet hcredit hmerge]
  exact ⟨h.keeps.med_eq, h.keeps.integ_eq⟩

end

/-! ### The frames that go -/

/-- A frame that holds a segment of a range. -/
def Frame.inRange (x : Frame) (first count : Nat) : Prop := x.kind ≠ .free ∧ x.kind ≠ .scratch ∧ first ≤ x.seg ∧ x.seg < first + count

/-- The frames are in order, and those that hold a segment of a range are among the ones given. -/
structure Chip.FramesIn (c : Chip) (first count : Nat) (fs : List Nat) : Prop where
  sorted : SMap.sorted c.cache.frames = true
  among : ∀ p ∈ c.cache.frames, p.2.inRange first count → p.1 ∈ fs

section
variable {c : Chip} {first count : Nat} {fs : List Nat}

/-- A frame that is rebuilt holds what it held. -/
theorem Chip.FramesIn.buildFrame {f : Nat} (h : c.FramesIn first count fs) (hu : (c.frame f).unbuilt = true) : (c.buildFrame f).FramesIn first count fs := by
  have hstored : c.cache.frames.find f = some (c.frame f) := by
    unfold Chip.frame at hu ⊢
    split at hu
    · next x hx => rw [hx]
    · cases hu
  have hsectors (ns : List Nat) (d : Chip) (hd : d.cache.frames = c.cache.frames ∧ d.frame f = c.frame f) :
      (ns.foldl (fun c n => c.setSector f n (c.sector f n)) d).cache.frames = c.cache.frames ∧
        (ns.foldl (fun c n => c.setSector f n (c.sector f n)) d).frame f = c.frame f := by
    induction ns generalizing d with
    | nil => exact hd
    | cons n r ih => exact ih _ hd
  unfold Chip.buildFrame
  extract_lets fr need
  obtain ⟨hframes, hframe⟩ := hsectors need c ⟨rfl, rfl⟩
  generalize need.foldl (fun c n => c.setSector f n (c.sector f n)) c = d at hframes hframe
  have hput : (d.onFrame f fun x => { x with unbuilt := false }).cache.frames = c.cache.frames.put f { c.frame f with unbuilt := false } := by
    show d.cache.frames.put f { d.frame f with unbuilt := false } = _
    rw [hframes, hframe]
  refine ⟨?_, fun p hp hin => ?_⟩
  · rw [hput]
    exact SMap.sorted_put _ _ _ h.sorted
  · rw [hput] at hp
    rcases SMap.mem_put hp with rfl | hp
    · exact h.among (f, c.frame f) (SMap.mem_of_find hstored) hin
    · exact h.among p hp hin

/-- A frame that is returned is among the rest no more. -/
theorem Chip.FramesIn.freeFrame {f : Nat} (h : c.FramesIn first count (f :: fs)) : (c.freeFrame f).FramesIn first count fs := by
  unfold Chip.freeFrame
  extract_lets d
  have hd : d.FramesIn first count (f :: fs) := by
    unfold d
    split
    · split
      · next hu => exact h.buildFrame hu
      · exact h
    · exact h
  refine ⟨SMap.sorted_del _ _ hd.sorted, fun p hp hin => ?_⟩
  have hmem := hd.among p (SMap.mem_del hp) hin
  refine (List.mem_cons.1 hmem).resolve_left fun he => ?_
  have hfind := SMap.find_of_mem (SMap.sorted_del _ f hd.sorted) (q := p.1) (x := p.2) hp
  rw [he, SMap.find_del_self _ _ hd.sorted] at hfind
  cases hfind

theorem Chip.FramesIn.freeEach {ps : List (Nat × Frame)} (h : c.FramesIn first count (ps.map Prod.fst)) :
    (ps.foldl (fun c p => c.freeFrame p.1) c).FramesIn first count [] := by
  induction ps generalizing c with
  | nil => exact h
  | cons p r ih => exact ih h.freeFrame

/-- A range that is discarded with its release leaves no frame of it. -/
theorem Chip.discardSegs_frames (h : SMap.sorted c.cache.frames = true) : (c.discardSegs first count true).FramesIn first count [] := by
  unfold Chip.discardSegs
  extract_lets inR fs c1 c2
  have hc1 : c1 = fs.foldl (fun c p => c.freeFrame p.1) c :=
    congrArg (fun f => List.foldl f c fs) (funext fun d => funext fun p => if_neg (by simp))
  have h1 : c1.FramesIn first count [] := by
    rw [hc1]
    refine Chip.FramesIn.freeEach ⟨h, fun p hp ⟨hfree, hscratch, hlo, hhi⟩ => List.mem_map_of_mem (List.mem_filter.2 ⟨hp, ?_⟩)⟩
    simp [inR, hlo, hhi, hfree, hscratch]
  exact ⟨h1.sorted, h1.among⟩

end

end Sys2Proof.Machine
end

section
/-! DESTROY and a shrinking RESIZE (02 R56, R60, R62, R72): commands cancelled, reels closed, the entry written, the range released. -/

namespace Sys2Proof.Machine

set_option Elab.async false

/-! ### Commands cancelled and reels closed -/

section
variable {c : Chip}

/-- A command that ends leaves the others as they are. -/
theorem Chip.cmd_finish_ne {n id st : Nat} (h : n ≠ id) : (c.finish n st).cmd id = c.cmd id := by
  cases hn : c.cmd n with
  | none =>
    unfold Chip.finish
    rw [hn]
  | some x =>
    rw [Chip.finish_of_cmd hn]
    unfold Chip.onCmd Chip.cmd Chip.onObj
    rw [List.find?_map]
    generalize hf : (fun r : RunCmd => if r.id = n then _ else r) = f
    have hid (r : RunCmd) : (f r).id = r.id := by
      subst hf
      dsimp only
      split <;> rfl
    have hp : (fun r : RunCmd => decide (r.id = id)) ∘ f = fun r => decide (r.id = id) := funext fun r => by simp [hid]
    rw [hp]
    cases hr : c.obj.cmds.find? (fun r => decide (r.id = id)) with
    | none => rfl
    | some r =>
      have hrid : r.id = id := by simpa using List.find?_some hr
      subst hf
      simp [hrid, Ne.symm h]

theorem Chip.cancelCmds_cmd (c : Chip) (obj id first count : Nat) : (c.cancelCmds obj id first count).cmd id = c.cmd id := by
  unfold Chip.cancelCmds
  have hne : ∀ r ∈ c.obj.cmds.filter (fun r => decide (r.id ≠ id ∧ objOf r.entry = obj ∧ r.result = none ∧ r.first < first + count ∧ first < r.first + r.count)),
      r.id ≠ id := fun r hr => (of_decide_eq_true (List.mem_filter.1 hr).2).1
  generalize c.obj.cmds.filter _ = rs at hne
  induction rs generalizing c with
  | nil => rfl
  | cons r rs ih =>
    rw [List.foldl_cons, ih _ fun x hx => hne x (List.mem_cons_of_mem _ hx)]
    exact Chip.cmd_finish_ne (hne r (List.mem_cons_self ..))

theorem Chip.cancelCmds_obj (c : Chip) (obj id first count : Nat) :
    (c.cancelCmds obj id first count).obj = { c.obj with cmds := (c.cancelCmds obj id first count).obj.cmds } := by
  unfold Chip.cancelCmds
  generalize c.obj.cmds.filter _ = rs
  induction rs generalizing c with
  | nil => rfl
  | cons r rs ih => rw [List.foldl_cons, ih, Chip.finish_obj]

/-- Reels that close are gone, and no other. -/
theorem Chip.closeReels_obj (c : Chip) (p : Reel → Bool) : (c.closeReels p).obj = { c.obj with reels := (c.closeReels p).obj.reels } ∧
    ∀ x ∈ (c.closeReels p).obj.reels, x ∈ c.obj.reels ∧ p x = false := by
  have hfold (rs : List Reel) (d : Chip) : (rs.foldl (fun c r => c.closeReel r.id) d).obj =
      { d.obj with reels := (rs.foldl (fun c r => c.closeReel r.id) d).obj.reels } ∧
      ∀ x ∈ (rs.foldl (fun c r => c.closeReel r.id) d).obj.reels, x ∈ d.obj.reels ∧ x ∉ rs := by
    induction rs generalizing d with
    | nil => exact ⟨rfl, fun x hx => ⟨hx, List.not_mem_nil⟩⟩
    | cons r rs ih =>
      obtain ⟨hobj, hreels⟩ := ih (d.closeReel r.id)
      refine ⟨?_, fun x hx => ?_⟩
      · rw [List.foldl_cons, hobj, Chip.closeReel_obj]
      · obtain ⟨hmem, hnot⟩ := hreels x hx
        rw [Chip.closeReel_obj] at hmem
        obtain ⟨hmem, hid⟩ := List.mem_filter.1 hmem
        refine ⟨hmem, fun hx => ?_⟩
        rcases List.mem_cons.1 hx with rfl | hx
        · simp at hid
        · exact hnot hx
  obtain ⟨hobj, hreels⟩ := hfold (c.obj.reels.filter p) c
  refine ⟨hobj, fun x hx => ?_⟩
  obtain ⟨hmem, hnot⟩ := hreels x hx
  exact ⟨hmem, by simpa [hmem] using hnot⟩

end

/-! ### An object withdrawn from a range -/

/-- A run of granules is taken from an object: the commands on it are cancelled, the reels that fit close, the entry is written, and the range is
released (02 R56, R60, R62, R72). -/
def Chip.withdrawn (c : Chip) (id obj : Nat) (p : Reel → Bool) (o : Obj) (tag : Tag) (scrub : Bool) (gran n : Nat) : Chip :=
  ((((((c.cancelCmds obj id (512 * gran) (512 * n)).closeReels p).putObj obj o).dropMoves gran n).scrubBacklog tag scrub (512 * gran)
    (512 * n)).zeroSegs (512 * gran) (512 * n) true).settle

theorem Chip.runDestroy_eq (c : Chip) (id obj : Nat) (o : Obj) (scrub : Bool) : c.runDestroy id obj o scrub =
    c.withdrawn id obj (fun r => decide (r.obj = obj)) { o with state := .destroying, scrub := scrub } o.keyTag scrub o.base o.granules := rfl

/-- The chip as the entry of the object is written. -/
def Chip.rewritten (c : Chip) (id obj : Nat) (p : Reel → Bool) (o : Obj) (gran n : Nat) : Chip :=
  ((c.cancelCmds obj id (512 * gran) (512 * n)).closeReels p).putObj obj o

section
variable (c : Chip) (id obj : Nat) (p : Reel → Bool) (o : Obj) (tag : Tag) (scrub : Bool) (gran n : Nat)

theorem Chip.rewritten_flows : c.Flows [.obj, .cache, .med, .outs] (c.rewritten id obj p o gran n) :=
  (Chip.Flows.refl c).cancelCmds.closeReels.putObj

/-- The entry is written, the other parts of the table and the command stay. -/
theorem Chip.rewritten_obj : (c.rewritten id obj p o gran n).obj.table = c.obj.table.put obj o ∧ (c.rewritten id obj p o gran n).obj.tails = c.obj.tails ∧
    (c.rewritten id obj p o gran n).cmd id = c.cmd id ∧ ∀ x ∈ (c.rewritten id obj p o gran n).obj.reels, p x = false := by
  obtain ⟨hreels, hclosed⟩ := (c.cancelCmds obj id (512 * gran) (512 * n)).closeReels_obj p
  have hobj : (c.rewritten id obj p o gran n).obj = { ((c.cancelCmds obj id (512 * gran) (512 * n)).closeReels p).obj with table := c.obj.table.put obj o } := by
    rw [Chip.rewritten, Chip.putObj_obj, hreels, Chip.cancelCmds_obj]
  have hcmds : ((c.cancelCmds obj id (512 * gran) (512 * n)).closeReels p).obj.cmds = (c.cancelCmds obj id (512 * gran) (512 * n)).obj.cmds := by
    rw [hreels]
  refine ⟨by rw [hobj], ?_, ?_, fun x hx => ?_⟩
  · rw [hobj, hreels, Chip.cancelCmds_obj]
  · unfold Chip.cmd
    rw [hobj, hcmds]
    exact Chip.cancelCmds_cmd ..
  · rw [hobj] at hx
    exact (hclosed x hx).2

/-- The release that follows serves requests and clears the range. -/
theorem Chip.withdrawn_steady : ∃ d, (c.rewritten id obj p o gran n).Steady d ∧ d.obj = ((d.scrubBacklog tag scrub (512 * gran) (512 * n)).zeroSegs (512 * gran)
    (512 * n) true).obj ∧ c.withdrawn id obj p o tag scrub gran n =
      ((d.scrubBacklog tag scrub (512 * gran) (512 * n)).zeroSegs (512 * gran) (512 * n) true).settle := by
  refine ⟨(c.rewritten id obj p o gran n).dropMoves gran n, (Chip.Steady.refl _).dropMoves, ?_, rfl⟩
  have h (d : Chip) : d.Flows zeroGrps ((d.scrubBacklog tag scrub (512 * gran) (512 * n)).zeroSegs (512 * gran) (512 * n) true) :=
    (Chip.Flows.refl d).scrubBacklog.zeroSegs
  exact ((h _).keeps.obj_eq).symm

/-- What a withdrawal leaves of the objects' part. -/
theorem Chip.withdrawn_obj : (c.withdrawn id obj p o tag scrub gran n).obj.table = c.obj.table.put obj o ∧
    (c.withdrawn id obj p o tag scrub gran n).obj.tails = c.obj.tails ∧ (c.withdrawn id obj p o tag scrub gran n).cmd id = c.cmd id ∧
      ∀ x ∈ (c.withdrawn id obj p o tag scrub gran n).obj.reels, p x = false := by
  obtain ⟨d, hd, hobj, heq⟩ := c.withdrawn_steady id obj p o tag scrub gran n
  obtain ⟨htable, htails, hcmd, hreels⟩ := c.rewritten_obj id obj p o gran n
  have hsettle := (Chip.Steady.refl ((d.scrubBacklog tag scrub (512 * gran) (512 * n)).zeroSegs (512 * gran) (512 * n) true)).settle
  rw [← heq] at hsettle
  refine ⟨?_, ?_, ?_, fun x hx => ?_⟩
  · rw [hsettle.table, ← hobj, hd.table, htable]
  · rw [hsettle.tails, ← hobj, hd.tails, htails]
  · rw [hsettle.cmd, Chip.cmd_of_obj hobj.symm, hd.cmd, hcmd]
  · rw [hsettle.reels, ← hobj, hd.reels] at hx
    exact hreels x hx

theorem Chip.withdrawn_flows : c.Flows settleGrps (c.withdrawn id obj p o tag scrub gran n) := by
  have h1 : c.Flows settleGrps (((c.cancelCmds obj id (512 * gran) (512 * n)).closeReels p).putObj obj o) := (c.rewritten_flows id obj p o gran n).mono
  unfold Chip.withdrawn
  exact h1.dropMoves.scrubBacklog.zeroSegs.settle

omit c id obj p o tag scrub gran n in
theorem Chip.FramesIn.of_frames {c d : Chip} {first count : Nat} {fs : List Nat} (h : c.FramesIn first count fs) (hd : d.cache.frames = c.cache.frames) :
    d.FramesIn first count fs := by
  refine ⟨?_, ?_⟩
  · rw [hd]
    exact h.sorted
  · rw [hd]
    exact h.among

/-- Where no request is parked the moves of a range go with nothing else. -/
theorem Chip.dropMoves_queues (h : c.dolly.parked = []) : c.CacheKeeps Cache.queues (c.dropMoves gran n) := by
  unfold Chip.dropMoves
  rw [h]
  exact (Chip.CacheKeeps.refl c).flows (l := [.dolly]) (Chip.Flows.refl c).onDolly

theorem Chip.rewritten_queues : c.CacheKeeps Cache.queues (c.rewritten id obj p o gran n) := by
  have h1 : c.CacheKeeps Cache.queues (c.cancelCmds obj id (512 * gran) (512 * n)) := (Chip.CacheKeeps.refl c).flows (l := [.obj]) (Chip.Flows.refl c).cancelCmds
  exact h1.closeReels.trans (Chip.CacheKeeps.putObj (.refl _)).queues

/-- A range zeroed for its release leaves no frame of it. -/
theorem Chip.zeroSegs_frames {c : Chip} (first count : Nat) (h : SMap.sorted c.cache.frames = true) : (c.zeroSegs first count true).FramesIn first count [] := by
  have hwritten : (c.discardSegs first count true).CacheKeeps Cache.resident ((c.discardSegs first count true).clearWritten first count) :=
    (Chip.CacheKeeps.refl _).clearWritten
  have hkept : (c.discardSegs first count true).CacheKeeps Cache.resident (c.zeroSegs first count true) :=
    hwritten.flows (l := poisonGrps) (Chip.Flows.refl _).clearPoisonRange
  have hframes : (c.zeroSegs first count true).cache.frames = (c.discardSegs first count true).cache.frames := hkept.frames
  exact (Chip.discardSegs_frames h).of_frames hframes

/-- The range is released with its frames sorted and no request in the queues. -/
theorem Chip.zeroed_frames {c : Chip} (first count : Nat) (hs : SMap.sorted c.cache.frames = true) (hq : c.cache.creditQ = [] ∧ c.cache.mergeQ = []) :
    (c.zeroSegs first count true).settle.FramesIn first count [] := by
  have hz : c.CacheKeeps Cache.queues (c.zeroSegs first count true) := (Chip.CacheKeeps.refl c).zeroSegs
  have hframes := Chip.settle_frames (hz.credit.trans hq.1) (hz.merge.trans hq.2)
  exact (Chip.zeroSegs_frames first count hs).of_frames hframes

/-- With no write waiting inside the chip no frame of the range is left. -/
theorem Chip.withdrawn_frames (hwf : c.storesWf) (hq : c.nonePending) : (c.withdrawn id obj p o tag scrub gran n).FramesIn (512 * gran) (512 * n) [] := by
  obtain ⟨hcredit, hmerge, hparked⟩ := hq
  have hdrop : c.CacheKeeps Cache.queues ((c.rewritten id obj p o gran n).dropMoves gran n) :=
    (c.rewritten_queues id obj p o gran n).trans (Chip.dropMoves_queues _ _ _ (by rw [(c.rewritten_flows id obj p o gran n).keeps.dolly_eq, hparked]))
  have hscrub : c.CacheKeeps Cache.queues (((c.rewritten id obj p o gran n).dropMoves gran n).scrubBacklog tag scrub (512 * gran) (512 * n)) :=
    hdrop.flows (l := [.med]) (Chip.Flows.refl _).scrubBacklog
  have hkept : c.Kept (((c.rewritten id obj p o gran n).dropMoves gran n).scrubBacklog tag scrub (512 * gran) (512 * n)) := by
    unfold Chip.rewritten
    exact (Chip.Kept.refl c).cancelCmds.closeReels.putObj.dropMoves.scrubBacklog
  obtain ⟨-, -, hsorted, -⟩ := hkept.stores hwf
  exact Chip.zeroed_frames _ _ hsorted ⟨hscrub.credit.trans hcredit, hscrub.merge.trans hmerge⟩

end

/-- A frame that holds no segment of a range is free, a scratch frame, or holds another segment. -/
theorem Frame.outside_range {x : Frame} {first count : Nat} (h : ¬ x.inRange first count) :
    x.kind = .free ∨ x.kind = .scratch ∨ x.seg < first ∨ first + count ≤ x.seg := by
  unfold Frame.inRange at h
  by_cases hfree : x.kind = .free
  · exact .inl hfree
  · by_cases hscratch : x.kind = .scratch
    · exact .inr (.inl hscratch)
    · refine .inr (.inr (Nat.lt_or_ge x.seg first |>.imp_right fun hlo => ?_))
      exact Nat.not_lt.1 fun hhi => h ⟨hfree, hscratch, hlo, hhi⟩

end Sys2Proof.Machine
end

section
/-! ZERO (02 R60, R61; 06 R198): the written bits and the poison records of a range are cleared. -/

namespace Sys2Proof.Machine

set_option Elab.async false

/-! ### The written map -/

theorem SMap.keys_del {α : Type} (m : SMap α) (q : Nat) : (m.del q).map Prod.fst = (m.map Prod.fst).erase q := by
  induction m with
  | nil => rfl
  | cons p r ih =>
    obtain ⟨k, v⟩ := p
    unfold SMap.del
    by_cases h : q = k
    · rw [if_pos h, h]
      simp
    · rw [if_neg h, List.map_cons, List.map_cons, List.erase_cons_tail (by simpa using Ne.symm h), ih]

theorem SMap.getD_of_not_key {α : Type} {m : SMap α} {q : Nat} (h : q ∉ m.map Prod.fst) (d : α) : m.getD q d = d := by
  unfold SMap.getD
  cases hf : m.find q with
  | none => rfl
  | some x => exact absurd (List.mem_map_of_mem (f := Prod.fst) (SMap.mem_of_find hf)) h

/-- The keys of the written map: of each segment in which something is written. -/
def Chip.mapKeys (c : Chip) : List Nat := c.med.map.map Prod.fst

theorem Medium.reindex_map (d : Medium) (k now : Nat) : (d.reindex k now).map = d.map ∧ (d.reindex k now).slots = d.slots := by
  unfold Medium.reindex
  split <;> exact ⟨rfl, rfl⟩

section
variable {c : Chip}

/-- A bitmap set to nothing takes its key out. -/
theorem Chip.setMap_zero (c : Chip) (q : Nat) : (c.setMap q 0).mapKeys = c.mapKeys.erase q ∧ (c.setMap q 0).med.slots = c.med.slots := by
  obtain ⟨hmap, hslots⟩ := ({ c.med with map := c.med.map.putD q 0 0 } : Medium).reindex_map (q / 512) c.now
  refine ⟨?_, hslots⟩
  refine (congrArg (List.map Prod.fst) hmap).trans ?_
  rw [SMap.putD, if_pos rfl]
  exact SMap.keys_del _ _

theorem Chip.setMap_each (qs : List Nat) (c : Chip) : (qs.foldl (fun c q => c.setMap q 0) c).mapKeys = c.mapKeys.diff qs ∧
    (qs.foldl (fun c q => c.setMap q 0) c).med.slots = c.med.slots := by
  induction qs generalizing c with
  | nil => exact ⟨rfl, rfl⟩
  | cons q r ih =>
    obtain ⟨hkeys, hslots⟩ := ih (c.setMap q 0)
    obtain ⟨hkeys', hslots'⟩ := c.setMap_zero q
    refine ⟨?_, hslots.trans hslots'⟩
    rw [List.foldl_cons, hkeys, hkeys', List.diff_cons]

/-- A slot that is cleared has no key in the map. -/
theorem Chip.zeroSlot_keys (c : Chip) (p : Slot) : (c.zeroSlot p).mapKeys = c.mapKeys.filter (fun q => q / 512 != slotKey p) ∧
    (c.zeroSlot p).med.slots = c.med.slots := by
  unfold Chip.zeroSlot
  extract_lets k next c1 c2
  have h2 : c1.Flows [.cache] c2 := (Chip.Flows.refl c1).ite (Chip.Flows.refl c1).addOp
  have h3 : c1.Flows [.cache] (if next = 0 then c2.mapWrite k else c2) := h2.mapWrite.ite h2
  unfold Chip.mapKeys
  rw [h3.keeps.med_eq]
  refine ⟨?_, rfl⟩
  show (c.med.map.filter _).map Prod.fst = _
  rw [List.filter_map]
  rfl

end

/-! ### A range of segments cleared -/

/-- The key stands for a segment of a range in a slot of a granule. -/
def clearsKey (first count : Nat) (p : Nat × Slot) (q : Nat) : Prop := q / 512 = slotKey p.2 ∧ first ≤ 512 * p.1 + q % 512 ∧ 512 * p.1 + q % 512 < first + count

/-- The part of a range that lies in one slot is cleared. -/
def Chip.clearSlot (c : Chip) (first count : Nat) (p : Nat × Slot) : Chip :=
  if first ≤ 512 * p.1 && 512 * p.1 + 512 ≤ first + count then c.zeroSlot p.2
  else
    let words := c.mapKeys.filter (fun q => decide (q / 512 = slotKey p.2) && decide (first ≤ 512 * p.1 + q % 512 ∧ 512 * p.1 + q % 512 < first + count))
    if words.isEmpty then c else (words.foldl (fun c q => c.setMap q 0) c).mapWrite (slotKey p.2)

/-- The slots that hold a granule of a range, or take or lose one in a move. -/
def Chip.slotsIn (c : Chip) (first count : Nat) : List (Nat × Slot) :=
  (c.med.slots ++ c.dolly.opened.filterMap (fun o => o.dst.map (fun d => (o.gran, d))) ++
    (c.dolly.opened.filter (fun o => !o.isTarget)).map (fun o => (o.gran, o.src))).eraseDups.filter
      (fun p => decide (512 * p.1 < first + count ∧ first < 512 * p.1 + 512))

theorem Chip.clearWritten_eq (c : Chip) (first count : Nat) : c.clearWritten first count = (c.slotsIn first count).foldl (fun c p => c.clearSlot first count p) c := rfl

/-- An element that is removed as often as a filter keeps it is gone. -/
theorem not_mem_diff_filter {l : List Nat} {p : Nat → Bool} {q : Nat} (h : p q = true) : q ∉ l.diff (l.filter p) := by
  rw [← List.count_eq_zero, List.count_diff, List.count_filter h, Nat.sub_self]

section
variable (c : Chip) (first count : Nat) (p : Nat × Slot)

theorem Chip.clearSlot_keys : (∀ q ∈ (c.clearSlot first count p).mapKeys, q ∈ c.mapKeys ∧ ¬ clearsKey first count p q) ∧
    (c.clearSlot first count p).med.slots = c.med.slots := by
  unfold Chip.clearSlot
  split
  · next hall =>
    obtain ⟨hkeys, hslots⟩ := c.zeroSlot_keys p.2
    refine ⟨fun q hq => ?_, hslots⟩
    rw [hkeys] at hq
    obtain ⟨hmem, hne⟩ := List.mem_filter.1 hq
    exact ⟨hmem, fun h => by simp [h.1] at hne⟩
  · dsimp only
    generalize hw : c.mapKeys.filter _ = words
    have hmem (q : Nat) : q ∈ words ↔ q ∈ c.mapKeys ∧ clearsKey first count p q := by
      rw [← hw, List.mem_filter]
      simp [clearsKey]
    split
    · next he =>
      refine ⟨fun q hq => ⟨hq, fun h => ?_⟩, rfl⟩
      have := (hmem q).2 ⟨hq, h⟩
      rw [List.isEmpty_iff.1 he] at this
      cases this
    · obtain ⟨hkeys, hslots⟩ := Chip.setMap_each words c
      have hw' : (words.foldl (fun c q => c.setMap q 0) c).Flows [.cache] ((words.foldl (fun c q => c.setMap q 0) c).mapWrite (slotKey p.2)) :=
        (Chip.Flows.refl _).mapWrite
      unfold Chip.mapKeys at hkeys ⊢
      rw [hw'.keeps.med_eq]
      refine ⟨fun q hq => ?_, hslots⟩
      rw [hkeys] at hq
      refine ⟨List.diff_subset _ _ hq, fun h => not_mem_diff_filter (l := c.mapKeys) (p := _) ?_ (hw ▸ hq)⟩
      simpa [clearsKey] using h

theorem Chip.clearWritten_keys : (∀ q ∈ (c.clearWritten first count).mapKeys, ∀ p ∈ c.slotsIn first count, ¬ clearsKey first count p q) ∧
    (c.clearWritten first count).med.slots = c.med.slots := by
  have hfold (ps : List (Nat × Slot)) (d : Chip) :
      (∀ q ∈ (ps.foldl (fun c p => c.clearSlot first count p) d).mapKeys, q ∈ d.mapKeys ∧ ∀ p ∈ ps, ¬ clearsKey first count p q) ∧
        (ps.foldl (fun c p => c.clearSlot first count p) d).med.slots = d.med.slots := by
    induction ps generalizing d with
    | nil => exact ⟨fun q hq => ⟨hq, fun _ hp => absurd hp List.not_mem_nil⟩, rfl⟩
    | cons p r ih =>
      obtain ⟨hkeys, hslots⟩ := ih (d.clearSlot first count p)
      obtain ⟨hkeys', hslots'⟩ := d.clearSlot_keys first count p
      refine ⟨fun q hq => ?_, hslots.trans hslots'⟩
      obtain ⟨hmem, hrest⟩ := hkeys q hq
      obtain ⟨hmem', hp⟩ := hkeys' q hmem
      refine ⟨hmem', fun x hx => ?_⟩
      rcases List.mem_cons.1 hx with rfl | hx
      · exact hp
      · exact hrest x hx
  obtain ⟨hkeys, hslots⟩ := hfold (c.slotsIn first count) c
  exact ⟨fun q hq => (hkeys q hq).2, hslots⟩

end

/-! ### The lines of a cleared range -/

/-- The granule moves that are open, each with its target slot. -/
def Dolly.targets (d : Dolly) : List (Nat × Option Slot) := d.opened.map fun o => (o.gran, o.dst)

/-- A slot may hold a granule: it is the granule's own, or the target of its move. -/
def Chip.mayHold (c : Chip) (g : Nat) (p : Slot) : Prop := c.med.slots.find g = some p ∨ (g, some p) ∈ c.dolly.targets

/-- The medium home of a segment lies in such a slot. -/
theorem Chip.homeSlot_mayHold {c : Chip} {seg : Nat} {p : Slot} (h : c.homeSlot seg = some p) : c.mayHold (segGran seg) p := by
  unfold Chip.homeSlot at h
  cases ho : c.openGran (segGran seg) with
  | none =>
    rw [ho] at h
    exact .inl h
  | some o =>
    rw [ho] at h
    dsimp only at h
    split at h
    · cases hd : o.dst with
      | none =>
        rw [hd] at h
        exact .inl h
      | some d =>
        rw [hd] at h
        cases h
        have hgran : o.gran = segGran seg := by simpa using List.find?_some ho
        exact .inr (List.mem_map.2 ⟨o, List.mem_of_find?_eq_some ho, by rw [hgran, hd]⟩)
    · exact .inl h

/-- No segment of a range has a key of the written map in a slot that may hold it. -/
def Chip.cleared (c : Chip) (first count : Nat) : Prop :=
  ∀ seg p, first ≤ seg → seg < first + count → c.mayHold (segGran seg) p → segKey p seg ∉ c.mapKeys

section
variable {c d : Chip} {first count : Nat}

theorem Chip.cleared.of_same (h : c.cleared first count) (hslots : d.med.slots = c.med.slots) (hmap : d.med.map = c.med.map) (ht : d.dolly.targets = c.dolly.targets) :
    d.cleared first count := by
  intro seg p h1 h2 hp
  unfold Chip.mayHold at hp
  unfold Chip.mapKeys
  rw [hslots, ht] at hp
  rw [hmap]
  exact h seg p h1 h2 hp

/-- Then no line of the range is written. -/
theorem Chip.cleared.lineWritten (h : c.cleared first count) {l : Nat} (h1 : first ≤ lineSeg l) (h2 : lineSeg l < first + count) : c.lineWritten l = false := by
  unfold Chip.lineWritten Chip.written
  cases hs : c.homeSlot (lineSeg l) with
  | none => simp
  | some p =>
    dsimp only
    rw [SMap.getD_of_not_key (h _ p h1 h2 (Chip.homeSlot_mayHold hs))]
    simp

/-- The written bits of a range are cleared. -/
theorem Chip.clearWritten_cleared (c : Chip) (first count : Nat) : (c.clearWritten first count).cleared first count := by
  obtain ⟨hkeys, hslots⟩ := c.clearWritten_keys first count
  have hflow : c.Flows [.cache, .med] (c.clearWritten first count) := (Chip.Flows.refl c).clearWritten
  intro seg p h1 h2 hp hq
  have hin : (segGran seg, p) ∈ c.slotsIn first count := by
    unfold Chip.slotsIn
    refine List.mem_filter.2 ⟨List.mem_eraseDups.2 (List.mem_append_left _ (List.mem_append.2 ?_)), ?_⟩
    · rcases hp with hp | hp
      · rw [hslots] at hp
        exact .inl (SMap.mem_of_find hp)
      · rw [show (c.clearWritten first count).dolly = c.dolly from hflow.keeps.dolly_eq] at hp
        obtain ⟨o, ho, hx⟩ := List.mem_map.1 hp
        obtain ⟨hgran, hdst⟩ := Prod.mk.inj hx
        exact .inr (List.mem_filterMap.2 ⟨o, ho, by rw [hdst, ← hgran]; rfl⟩)
    · refine decide_eq_true ?_
      dsimp only [segGran]
      omega
  refine hkeys _ hq _ hin ⟨?_, ?_, ?_⟩ <;> simp only [segKey, segGran] <;> omega

/-! ### The poison records of a range -/

/-- The pieces that are left of a record lie outside the range. -/
theorem cutPoison_outside {first count l : Nat} {q x : Poison} (hx : x ∈ cutPoison first count q) (h1 : first ≤ l) (h2 : l < first + count) :
    ¬ (x.line ≤ l ∧ l < x.line + x.len) := by
  unfold cutPoison at hx
  dsimp only at hx
  rcases List.mem_append.1 hx with hx | hx <;> split at hx
  · cases List.mem_singleton.1 hx
    dsimp only
    omega
  · cases hx
  · cases List.mem_singleton.1 hx
    dsimp only
    omega
  · cases hx

theorem Chip.clearPoisonRange_none (c : Chip) {first count l : Nat} (h1 : first ≤ l) (h2 : l < first + count) :
    (c.clearPoisonRange first count).poisonAt l = none := by
  unfold Chip.clearPoisonRange
  extract_lets hit c1 lst full c2 kept
  unfold Chip.poisonAt
  rw [List.find?_eq_none]
  intro x hx
  rw [decide_eq_true_eq]
  obtain ⟨q, -, hq⟩ := List.mem_flatMap.1 (List.mem_of_mem_take (l := lst) hx)
  split at hq
  · next hout =>
    cases List.mem_singleton.1 hq
    have := of_decide_eq_true hout
    omega
  · exact cutPoison_outside hq h1 h2

/-! ### ZERO -/

/-- Squall mode leaves the moves their targets. -/
theorem Chip.evalSquall_targets (c : Chip) : c.evalSquall.dolly.targets = c.dolly.targets := by
  have hset (v : Nat) : (c.setSquall v).dolly = c.dolly := ((Chip.Flows.refl c).setSquall (l := [.obj, .cache, .ring, .boot, .outs])).keeps.dolly_eq
  have hclaim (d : Chip) : d.unclaimAll.dolly.targets = d.dolly.targets := by
    unfold Chip.unclaimAll Dolly.targets
    dsimp only
    split <;> exact List.map_map
  unfold Chip.evalSquall
  split
  · rfl
  · split
    · split
      · rfl
      · have hrecord (d : Chip) : (d.vendorRecord .warning 0x0101 0x3011 1 [BitVec.ofNat 8 d.cache.squall]).dolly = d.dolly :=
          ((Chip.Flows.refl (l := recordGrps) d).vendorRecord).keeps.dolly_eq
        rw [hclaim, hrecord]
        exact congrArg Dolly.targets (hset _)
    · split
      · exact congrArg Dolly.targets (hset 0)
      · exact congrArg Dolly.targets (hset _)

end

section
variable {a c : Chip} (k : a.Steady c)
include k

theorem Chip.Steady.zeroSlot {p : Slot} : a.Steady (c.zeroSlot p) := by
  unfold Chip.zeroSlot
  extract_lets n next c1 c2
  have h1 : a.Steady c1 := (k.flows (l := [.cache]) (Chip.Flows.refl c).endMaterialise).onMed
  have h2 : a.Steady c2 := h1.ite (h1.flows (l := [.cache]) (Chip.Flows.refl c1).addOp)
  exact (h2.flows (l := [.cache]) (Chip.Flows.refl c2).mapWrite).ite h2

theorem Chip.Steady.clearWritten {first count : Nat} : a.Steady (c.clearWritten first count) := by
  refine k.foldl fun _ _ h => h.zeroSlot.ite (h.ite ?_)
  exact (h.foldl fun _ _ h => h.setMap).flows (l := [.cache]) (Chip.Flows.refl _).mapWrite

theorem Chip.Steady.zeroSegs {first count : Nat} {release : Bool} : a.Steady (c.zeroSegs first count release) := by
  have h1 : a.Steady (c.discardSegs first count release) := k.flows (l := [.cache, .integ]) (Chip.Flows.refl c).discardSegs
  exact h1.clearWritten.flows (l := poisonGrps) (Chip.Flows.refl _).clearPoisonRange

theorem Chip.Steady.scrubBacklog {tag : Tag} {scrub : Bool} {first count : Nat} : a.Steady (c.scrubBacklog tag scrub first count) := k.onMed.ite k

end

/-- A range is zeroed on this chip, and what waited settles. -/
def Chip.zeroed (c : Chip) (tag : Tag) (scrub : Bool) (first count : Nat) : Chip := ((c.scrubBacklog tag scrub first count).zeroSegs first count false).settle

section
variable (c : Chip) (tag : Tag) (scrub : Bool) (first count : Nat)

theorem Chip.zeroed_flows : c.Flows settleGrps (c.zeroed tag scrub first count) := (Chip.Flows.refl c).scrubBacklog.zeroSegs.settle

/-- The objects, the link and what is known of the partner's granules stay. -/
theorem Chip.zeroed_steady : c.Steady (c.zeroed tag scrub first count) := (Chip.Steady.refl c).scrubBacklog.zeroSegs.settle

/-- A range zeroed has no bit of the written map and no poison record. -/
theorem Chip.zeroSegs_clears (release : Bool) : (c.zeroSegs first count release).cleared first count ∧
    ∀ l, first ≤ lineSeg l → lineSeg l < first + count → (c.zeroSegs first count release).poisonAt l = none := by
  have hpoison : ((c.discardSegs first count release).clearWritten first count).Flows poisonGrps (c.zeroSegs first count release) :=
    (Chip.Flows.refl _).clearPoisonRange
  refine ⟨((c.discardSegs first count release).clearWritten_cleared first count).of_same ?_ ?_ ?_, fun l h1 h2 => ?_⟩
  · rw [hpoison.keeps.med_eq]
  · rw [hpoison.keeps.med_eq]
  · rw [hpoison.keeps.dolly_eq]
  · unfold lineSeg at h1 h2
    exact Chip.clearPoisonRange_none _ (by omega) (by omega)

/-- So it stays while no write waits. -/
theorem Chip.zeroed_clears (hq : c.nonePending) : (c.zeroed tag scrub first count).cleared first count ∧
    ∀ l, first ≤ lineSeg l → lineSeg l < first + count → (c.zeroed tag scrub first count).poisonAt l = none := by
  obtain ⟨hcredit, hmerge, -⟩ := hq
  have hqueues : c.CacheKeeps Cache.queues ((c.scrubBacklog tag scrub first count).zeroSegs first count false) :=
    ((Chip.CacheKeeps.refl c).flows (l := [.med]) (Chip.Flows.refl c).scrubBacklog).zeroSegs
  obtain ⟨hmap, hpoison⟩ := (c.scrubBacklog tag scrub first count).zeroSegs_clears first count false
  have hcredit' := hqueues.credit.trans hcredit
  have hmerge' := hqueues.merge.trans hmerge
  unfold Chip.zeroed
  generalize (c.scrubBacklog tag scrub first count).zeroSegs first count false = d at hmap hpoison hcredit' hmerge'
  obtain ⟨hmed, hinteg⟩ := Chip.settle_keeps hcredit' hmerge'
  have htargets : d.settle.dolly.targets = d.dolly.targets := by
    rw [Chip.settle_quiet hcredit' hmerge', (Chip.evalPanic_flows _).keeps.dolly_eq, Chip.evalSquall_targets]
  refine ⟨hmap.of_same (by rw [hmed]) (by rw [hmed]) htargets, fun l h1 h2 => ?_⟩
  unfold Chip.poisonAt
  rw [hinteg]
  exact hpoison l h1 h2

end

/-! ### ZERO, outcome by outcome -/

/-- The partner is told of a range zeroed, or its copies are stale. -/
def Chip.zeroTold (c : Chip) (o : Obj) (first count : Nat) (scrub : Bool) : Chip :=
  if c.paired then (if c.peerHas o then c.sendTwin (.tableUpdate (.zero first count o.keyTag scrub)) else c) else c.staleRange first count

section
variable {c : Chip} {o : Obj} {first n : Nat} {scrub : Bool}

theorem Chip.zeroTold_flows (c : Chip) (o : Obj) (first n : Nat) (scrub : Bool) : c.Flows [.med, .outs] (c.zeroTold o first n scrub) :=
  ((Chip.Flows.refl c).sendTwin.ite (.refl c)).ite (Chip.Flows.refl c).staleRange

theorem Chip.staleRange_maps (c : Chip) (first n : Nat) : (c.staleRange first n).med.slots = c.med.slots ∧ (c.staleRange first n).med.map = c.med.map := by
  unfold Chip.staleRange
  generalize List.filter _ (c.med.peerSlots.map Prod.fst) = gs
  induction gs generalizing c with
  | nil => exact ⟨rfl, rfl⟩
  | cons g r ih => exact ih (c.markStale g)

theorem Chip.zeroTold_maps (c : Chip) (o : Obj) (first n : Nat) (scrub : Bool) :
    (c.zeroTold o first n scrub).med.slots = c.med.slots ∧ (c.zeroTold o first n scrub).med.map = c.med.map := by
  unfold Chip.zeroTold
  split
  · have h : c.Flows [.outs] (if c.peerHas o then c.sendTwin (.tableUpdate (.zero first n o.keyTag scrub)) else c) := (Chip.Flows.refl c).sendTwin.ite (.refl c)
    rw [h.keeps.med_eq]
    exact ⟨rfl, rfl⟩
  · exact c.staleRange_maps first n

/-- The granules of a range can be zeroed: this chip holds each that the partner does, or the partner is there. -/
def Chip.reaches (c : Chip) (o : Obj) (first n : Nat) : Prop :=
  c.paired = true ∨ ∀ p ∈ c.med.peerSlots, o.base ≤ p.1 → p.1 < o.base + o.granules → 512 * p.1 < first + n → first < 512 * p.1 + 512 → c.med.slots.has p.1 = true

theorem Chip.runZero_outcomes {id : Nat} {e : CmdEntry} : (¬ c.reaches o first n → c.runZero id e o first n = c.finish id stRetry) ∧
    (c.reaches o first n → c.runZero id e o first n = ((c.zeroed o.keyTag (bit (flagsOf e) 0) first n).zeroTold o first n (bit (flagsOf e) 0)).finish id stOk) := by
  have haway : ((c.med.peerSlots.map Prod.fst).any (fun g => decide (o.base ≤ g ∧ g < o.base + o.granules ∧ 512 * g < first + n ∧ first < 512 * g + 512) &&
      !c.med.slots.has g) && !c.paired) = true ↔ ¬ c.reaches o first n := by
    unfold Chip.reaches
    simp only [Bool.and_eq_true, List.any_eq_true, List.mem_map, decide_eq_true_eq, Bool.not_eq_true', not_or, not_forall, Bool.not_eq_true]
    constructor
    · rintro ⟨⟨g, ⟨p, hp, rfl⟩, ⟨h1, h2, h3, h4⟩, h5⟩, h6⟩
      exact ⟨h6, p, hp, h1, h2, h3, h4, h5⟩
    · rintro ⟨h6, p, hp, h1, h2, h3, h4, h5⟩
      exact ⟨⟨p.1, ⟨p, hp, rfl⟩, ⟨h1, h2, h3, h4⟩, h5⟩, h6⟩
  exact ⟨fun h => if_pos (haway.2 h), fun h => if_neg fun hx => haway.1 hx h⟩

end

end Sys2Proof.Machine
end

section
/-! DESTROY, ZERO and RESIZE (02 R56, R60, R61, R74, R435): what each leaves. -/

namespace Sys2Proof.Machine

set_option Elab.async false

theorem Chip.finish_table (c : Chip) (id st detail : Nat) (vals : List (Nat × Nat × Nat)) (obj : Option Nat) :
    (c.finish id st detail vals obj).obj.table = c.obj.table := by rw [Chip.finish_obj]

/-- As the partner is told and the command ends the range stays clear. -/
theorem Chip.zeroTold_clears {was z : Chip} {o : Obj} {first n id st : Nat} {scrub : Bool} (hmap : z.cleared first n)
    (hpoison : ∀ l, first ≤ lineSeg l → lineSeg l < first + n → z.poisonAt l = none) {l : Nat} (h1 : first ≤ lineSeg l) (h2 : lineSeg l < first + n) :
    (Chip.ended was ((z.zeroTold o first n scrub).finish id st)).lineWritten l = false ∧
      (Chip.ended was ((z.zeroTold o first n scrub).finish id st)).poisonAt l = none := by
  obtain ⟨hslots, hbits⟩ := z.zeroTold_maps o first n scrub
  have htold := z.zeroTold_flows o first n scrub
  have hfinish : (z.zeroTold o first n scrub).Flows [.obj] ((z.zeroTold o first n scrub).finish id st) := (Chip.Flows.refl _).finish
  refine ⟨(hmap.of_same ?_ ?_ ?_).lineWritten h1 h2, ?_⟩
  · rw [Chip.ended_med, hfinish.keeps.med_eq, hslots]
  · rw [Chip.ended_med, hfinish.keeps.med_eq, hbits]
  · rw [Chip.ended_dolly, hfinish.keeps.dolly_eq, htold.keeps.dolly_eq]
  · unfold Chip.poisonAt
    rw [Chip.ended_integ, hfinish.keeps.integ_eq, htold.keeps.integ_eq]
    exact hpoison l h1 h2

section
variable {s : State} {i : Instr} {path : CmdPath} {e : CmdEntry} {o : Obj} (hi : exec i s = s.onChip fun c => c.command path e)
  (hruns : s.chip.runsOn path e o)
include hi hruns

/-! ### DESTROY -/

theorem completes_destroy (hop : opcodeOf e = 0x02) : Completes i s fun c =>
    c.obj.table.find (objOf e) = some { o with state := .destroying, scrub := bit (flagsOf e) 0 } ∧
    (∀ k, k ≠ objOf e → c.obj.table.find k = s.chip.obj.table.find k) ∧ c.working s.chip.obj.nextCmd path e (objFirst o) (objSegs o) ∧
    (∀ r ∈ c.obj.reels, r.obj ≠ objOf e) ∧
    (s.chip.storesWf → s.chip.nonePending →
      ∀ p ∈ c.cache.frames, p.2.kind = .free ∨ p.2.kind = .scratch ∨ p.2.seg < objFirst o ∨ objFirst o + objSegs o ≤ p.2.seg) ∧
    s.chip.keepsBut settleGrps c := by
  have hn : s.chip.cmd s.chip.obj.nextCmd = none := hruns.1.2.2.2.2
  obtain ⟨hdestroy, -⟩ := Chip.command_works (by rw [hop]; rfl) hruns
  have hw := (hdestroy hop).trans (Chip.runDestroy_eq ..)
  obtain ⟨htable, -, hcmd, hreels⟩ := (s.chip.atWork path e o).withdrawn_obj s.chip.obj.nextCmd (objOf e) (fun r => decide (r.obj = objOf e))
    { o with state := .destroying, scrub := bit (flagsOf e) 0 } o.keyTag (bit (flagsOf e) 0) o.base o.granules
  have hwork : ((s.chip.atWork path e o).withdrawn s.chip.obj.nextCmd (objOf e) (fun r => decide (r.obj = objOf e))
      { o with state := .destroying, scrub := bit (flagsOf e) 0 } o.keyTag (bit (flagsOf e) 0) o.base o.granules).working s.chip.obj.nextCmd path e
        (objFirst o) (objSegs o) := by
    have h := Chip.working_of_begun hn (fun r => r) ⟨rfl, rfl, rfl, rfl, rfl⟩ (hcmd.trans Option.map_id'.symm)
    rwa [spanOf_whole (by rw [hop]; decide)] at h
  refine .of_onChip hi hw ⟨?_, ?_, Chip.working_ended hwork, ?_, fun hwf hq p hp => ?_, Chip.keepsBut_ended (Chip.atWork_flows (Chip.withdrawn_flows ..))⟩
  · rw [Chip.ended_obj]
    exact (Chip.table_put (c := s.chip) htable).1
  · rw [Chip.ended_obj]
    exact (Chip.table_put (c := s.chip) htable).2
  · rw [Chip.ended_obj]
    exact fun r hr => of_decide_eq_false (hreels r hr)
  · rw [Chip.ended_cache] at hp
    have hleft := (s.chip.atWork path e o).withdrawn_frames s.chip.obj.nextCmd (objOf e) (fun r => decide (r.obj = objOf e))
      { o with state := .destroying, scrub := bit (flagsOf e) 0 } o.keyTag (bit (flagsOf e) 0) o.base o.granules hwf hq
    exact Frame.outside_range fun hin => List.not_mem_nil (hleft.among p hp hin)

/-! ### ZERO -/

theorem completes_zero (hop : opcodeOf e = 0x15) :
    (¬ s.chip.reaches o (spanOf e o).1 (spanOf e o).2 → Completes i s fun c => c.answered s.chip.obj.nextCmd path e stRetry ∧ s.chip.keepsBut [.obj] c) ∧
    (s.chip.reaches o (spanOf e o).1 (spanOf e o).2 → Completes i s fun c =>
      c.answered s.chip.obj.nextCmd path e stOk ∧ c.obj.table = s.chip.obj.table ∧
      (s.chip.nonePending → ∀ l, (spanOf e o).1 ≤ lineSeg l → lineSeg l < (spanOf e o).1 + (spanOf e o).2 → c.lineWritten l = false ∧ c.poisonAt l = none) ∧
      (s.chip.paired = true → s.chip.peerHas o = true →
        s.chip.told c (.tableUpdate (.zero (spanOf e o).1 (spanOf e o).2 o.keyTag (bit (flagsOf e) 0)))) ∧
      s.chip.keepsBut settleGrps c) := by
  have hn : s.chip.cmd s.chip.obj.nextCmd = none := hruns.1.2.2.2.2
  obtain ⟨-, -, -, -, -, -, -, -, hzero, -⟩ := Chip.command_works (by rw [hop]; rfl) hruns
  have hw := hzero hop
  have hpair : s.chip.pairWaits e = false := hruns.2.2.2.2.2.2
  obtain ⟨haway, hhere⟩ := Chip.runZero_outcomes (c := s.chip.atWork path e o) (o := o) (first := (spanOf e o).1) (n := (spanOf e o).2)
    (id := s.chip.obj.nextCmd) (e := e)
  refine ⟨fun h => completes_refused hi hn (hw.trans (haway h)), fun h => ?_⟩
  have hw := hw.trans (hhere h)
  let z := (s.chip.atWork path e o).zeroed o.keyTag (bit (flagsOf e) 0) (spanOf e o).1 (spanOf e o).2
  have hsteady : (s.chip.atWork path e o).Steady z := Chip.zeroed_steady ..
  have hflows : (s.chip.atWork path e o).Flows settleGrps z := Chip.zeroed_flows ..
  have htold := z.zeroTold_flows o (spanOf e o).1 (spanOf e o).2 (bit (flagsOf e) 0)
  have hend : (z.zeroTold o (spanOf e o).1 (spanOf e o).2 (bit (flagsOf e) 0)).cmd s.chip.obj.nextCmd = (s.chip.atWork path e o).cmd s.chip.obj.nextCmd := by
    rw [Chip.cmd_of_obj htold.keeps.obj_eq, hsteady.cmd]
  refine .of_onChip hi hw ⟨Chip.answered_ended (Chip.answered_finish hn hend ..), ?_, fun hq l h1 h2 => ?_, fun hp hpeer => ?_,
    Chip.keepsBut_ended (Chip.atWork_flows (hflows.trans htold.mono.finish))⟩
  · rw [Chip.ended_obj, Chip.finish_table, htold.keeps.obj_eq, hsteady.table]
    rfl
  · obtain ⟨hmap, hpoison⟩ := (s.chip.atWork path e o).zeroed_clears o.keyTag (bit (flagsOf e) 0) (spanOf e o).1 (spanOf e o).2 hq
    exact Chip.zeroTold_clears hmap hpoison h1 h2
  · have hlink : s.chip.linkReady = true := by simpa [Chip.pairWaits, changesTables, hop, hp] using hpair
    have hsent : s.chip.told (z.zeroTold o (spanOf e o).1 (spanOf e o).2 (bit (flagsOf e) 0))
        (.tableUpdate (.zero (spanOf e o).1 (spanOf e o).2 o.keyTag (bit (flagsOf e) 0))) := by
      unfold Chip.zeroTold
      rw [if_pos (hsteady.paired.trans hp), if_pos ((hsteady.peerHas o).trans hpeer)]
      exact Chip.told_sendTwin (a := s.chip) (c := z) hflows.sent (hsteady.link.trans hlink) _ 0 0 0 false false false
    exact Chip.told_ended (Chip.told_mono hsent (Chip.Flows.refl (l := [.obj]) _).finish.sent)

/-! ### RESIZE -/

omit hi hruns in
/-- RESIZE, outcome by outcome in the order of its checks (02 R60, R435). -/
theorem Chip.runResize_outcomes {c : Chip} {id obj n : Nat} (hn : fieldAt e 24 4 = n) :
    ((o.base / halfGranules + 1) * halfGranules < o.base + n → c.runResize id e obj o = c.finish id stField 24) ∧
    (o.base + n ≤ (o.base / halfGranules + 1) * halfGranules →
      (n = o.granules → c.runResize id e obj o = c.finish id stOk 0 [(24, 4, n)]) ∧
      (n < o.granules → c.runResize id e obj o = ((c.withdrawn id obj (fun r => decide (r.obj = obj ∧ 512 * n ≤ r.start))
        { o with granules := n, scrub := bit (flagsOf e) 0 } o.keyTag (bit (flagsOf e) 0) (o.base + n) (o.granules - n)).onObj fun x =>
          { x with tails := x.tails ++ [{ cmd := id, first := o.base + n, granules := o.granules - n }] }).finish id stOk 0 [(24, 4, n)]) ∧
      (o.granules < n →
        (o.mirror = true → c.paired = false → c.runResize id e obj o = c.finish id stNotPaired) ∧
        ((o.mirror = true → c.paired = true) →
          (c.overlaps (o.base + o.granules) (n - o.granules) (some obj) = true → c.runResize id e obj o = c.finish id stOverlap) ∧
          (c.overlaps (o.base + o.granules) (n - o.granules) (some obj) = false →
            (c.capacity o.sgroup.toNat (n - o.granules) o.mirror = false → c.runResize id e obj o = c.finish id stNoCapacity) ∧
            (c.capacity o.sgroup.toNat (n - o.granules) o.mirror = true → c.runResize id e obj o =
              ((c.putObj obj { o with granules := n }).takeSlots (o.base + o.granules) o.sgroup.toNat (n - o.granules)).finish id stOk 0 [(24, 4, n)]))))) := by
  subst hn
  unfold Chip.runResize
  extract_lets n half vals first m scrub
  refine ⟨fun h => if_pos h, fun h => ?_⟩
  rw [if_neg (Nat.not_lt.2 h)]
  refine ⟨fun he => if_pos he, fun hlt => ?_, fun hgt => ?_⟩
  · rw [if_neg (Nat.ne_of_lt hlt), if_neg (Nat.lt_asymm hlt)]
    rfl
  · rw [if_neg (Nat.ne_of_gt hgt), if_pos hgt]
    refine ⟨fun hm hp => if_pos (by simp [hm, hp]), fun hm => ?_⟩
    rw [if_neg (by simpa using hm)]
    refine ⟨fun ho => if_pos ho, fun ho => ?_⟩
    rw [if_neg (by simpa using ho)]
    exact ⟨fun hc => if_pos (by simpa using hc), fun hc => if_neg (by simpa using hc)⟩

/-- A RESIZE that is refused, or asks for the size there is, changes nothing but the list of commands. -/
theorem completes_resize_same {st detail : Nat} {vals : List (Nat × Nat × Nat)}
    (hw : s.chip.command path e = (s.chip.atWork path e o).finish s.chip.obj.nextCmd st detail vals) : Completes i s fun c =>
      c.answered s.chip.obj.nextCmd path e st detail vals ∧ c.obj.table = s.chip.obj.table ∧ s.chip.keepsBut [.obj] c :=
  (completes_finish hi hruns.1.2.2.2.2 hw).imp fun _ ⟨hans, hobj, hk⟩ => ⟨hans, by rw [hobj], hk⟩

theorem completes_resize_less {n : Nat} (hw : s.chip.command path e = (((s.chip.atWork path e o).withdrawn s.chip.obj.nextCmd (objOf e)
      (fun r => decide (r.obj = objOf e ∧ 512 * n ≤ r.start)) { o with granules := n, scrub := bit (flagsOf e) 0 } o.keyTag (bit (flagsOf e) 0) (o.base + n)
        (o.granules - n)).onObj fun x => { x with tails := x.tails ++ [{ cmd := s.chip.obj.nextCmd, first := o.base + n, granules := o.granules - n }] }).finish
          s.chip.obj.nextCmd stOk 0 [(24, 4, n)]) : Completes i s fun c =>
      c.obj.table.find (objOf e) = some { o with granules := n, scrub := bit (flagsOf e) 0 } ∧
      c.obj.tails = s.chip.obj.tails ++ [{ cmd := s.chip.obj.nextCmd, first := o.base + n, granules := o.granules - n }] ∧
      c.answered s.chip.obj.nextCmd path e stOk 0 [(24, 4, n)] ∧ s.chip.keepsBut settleGrps c := by
  obtain ⟨htable, htails, hcmd, -⟩ := (s.chip.atWork path e o).withdrawn_obj s.chip.obj.nextCmd (objOf e) (fun r => decide (r.obj = objOf e ∧ 512 * n ≤ r.start))
    { o with granules := n, scrub := bit (flagsOf e) 0 } o.keyTag (bit (flagsOf e) 0) (o.base + n) (o.granules - n)
  have hflows := (s.chip.atWork path e o).withdrawn_flows s.chip.obj.nextCmd (objOf e) (fun r => decide (r.obj = objOf e ∧ 512 * n ≤ r.start))
    { o with granules := n, scrub := bit (flagsOf e) 0 } o.keyTag (bit (flagsOf e) 0) (o.base + n) (o.granules - n)
  generalize (s.chip.atWork path e o).withdrawn _ _ _ _ _ _ _ _ = d at hw htable htails hcmd hflows
  refine (completes_done (l := settleGrps) hi hruns.1.2.2.2.2 hflows.onObj ?_ hw).imp fun c ⟨hans, hobj, hk⟩ => ⟨?_, ?_, hans, hk⟩
  · exact hcmd
  · refine (Chip.table_put (c := s.chip) ?_).1
    rw [hobj]
    exact htable
  · rw [hobj]
    exact congrArg (· ++ _) htails

theorem completes_resize_more {n : Nat} (hw : s.chip.command path e = (((s.chip.atWork path e o).putObj (objOf e) { o with granules := n }).takeSlots
      (o.base + o.granules) o.sgroup.toNat (n - o.granules)).finish s.chip.obj.nextCmd stOk 0 [(24, 4, n)]) : Completes i s fun c =>
      c.obj.table.find (objOf e) = some { o with granules := n } ∧ c.answered s.chip.obj.nextCmd path e stOk 0 [(24, 4, n)] ∧
      s.chip.keepsBut [.obj, .cache, .med, .outs] c :=
  (completes_changed hi hruns.1.2.2.2.2 (Chip.Flows.refl _).takeSlots hw).imp fun _ ⟨⟨hfind, _⟩, hans, hk⟩ => ⟨hfind, hans, hk⟩

end

end Sys2Proof.Machine

open Sys2Proof Sys2Proof.Machine

/-- Settles O25. DESTROY and a shrinking RESIZE withdraw the object from a range; ZERO clears the written bits and the poison of one. -/
theorem releaseAndResize : Obligations.ReleaseAndResize := by
  intro s path entry o id
  refine ⟨?_, ?_, ?_⟩
  · intro e hruns
    have hop : opcodeOf e = 0x02 := opcodeOf_asOp (by decide) entry
    have hi : exec (.destroy path entry) s = s.onChip fun c => c.command path e := rfl
    clear_value e
    exact completes_destroy hi hruns hop
  · intro e first n reached hruns
    have hop : opcodeOf e = 0x15 := opcodeOf_asOp (by decide) entry
    have hi : exec (.zero path entry) s = s.onChip fun c => c.command path e := rfl
    clear_value e
    exact completes_zero hi hruns hop
  · intro e n same hruns
    have hop : opcodeOf e = 0x05 := opcodeOf_asOp (by decide) entry
    have hi : exec (.resize path entry) s = s.onChip fun c => c.command path e := rfl
    clear_value e
    obtain ⟨-, -, hresize, -⟩ := Chip.command_works (by rw [hop]; rfl) hruns
    have hw := hresize hop
    obtain ⟨hpast, hfits⟩ := Chip.runResize_outcomes (c := s.chip.atWork path e o) (id := id) (obj := objOf e) (e := e) (o := o) rfl
    have hsame {st detail : Nat} {vals : List (Nat × Nat × Nat)}
        (h : (s.chip.atWork path e o).runResize id e (objOf e) o = (s.chip.atWork path e o).finish id st detail vals) : same st detail vals :=
      completes_resize_same hi hruns (hw.trans h)
    refine ⟨fun h => hsame (hpast h), fun h => ?_⟩
    obtain ⟨hequal, hless, hmore⟩ := hfits h
    refine ⟨fun he => hsame (hequal he), fun hlt => completes_resize_less hi hruns (hw.trans (hless hlt)), fun hgt => ?_⟩
    obtain ⟨hunpaired, hmirror⟩ := hmore hgt
    refine ⟨fun hm hp => hsame (hunpaired hm hp), fun hm => ?_⟩
    obtain ⟨hover, hfree⟩ := hmirror hm
    refine ⟨fun ho => hsame (hover ho), fun ho => ?_⟩
    obtain ⟨hfull, hroom⟩ := hfree ho
    exact ⟨fun hc => hsame (hfull hc), fun hc => completes_resize_more hi hruns (hw.trans (hroom hc))⟩
end
